-- ==== Sys2Proof/Word.lean ====
section
/-! DEFINITION. The word types of the block and their plainest arithmetic. -/

namespace Sys2Proof

/-- A 32-bit register word (R5, R6). -/
abbrev Word := BitVec 32

/-- A byte, the smallest addressable unit of every memory. -/
abbrev Byte := BitVec 8

end Sys2Proof
end

