-- ==== Sys2Proof/Syntax.lean ====
section
/-! DEFINITION. The commands of the block: one constructor of `Instr` for each row of the spec's table of operations and
events, and the operand types they carry. An event that the field, the host or a link makes carries what the device sees
of it (a reading, a frame, a verdict), because the block has no environment of its own (assumption log 1). -/

namespace Sys2Proof

/-- Who makes a register access (R36). `unit` holds the 16-bit unit ID of an engine, a DMA unit or a fabric region. -/
inductive Writer where
  | secure
  | host
  | unit (id : Nat)
deriving DecidableEq, Repr

/-- The 303 register pages of one device (R458). -/
inductive Page where
  | ident | fault | irq | mem
  | pins (t : Fin 32) | input (t : Fin 32) | output (t : Fin 32) | calib (t : Fin 32)
  | engine (e : Fin 128) | cluster (c : Fin 16) | dma (c : Fin 16)
  | fabric | security | lichen | power | sched | rings
  | evCtl | evCfg | evLive | evSnap | latigo
deriving DecidableEq, Repr

/-- A work-item tag (R266). `zeroBad` says that a field the layout marks zero is not zero. -/
structure Tag where
  stream : Nat
  seq    : Nat
  ctx    : Nat
  pri    : Nat
  src    : Nat
  dst    : Nat
  typ    : Nat
  exp    : Int
  flags  : Nat
  len    : Nat
  chk    : Nat
  time   : Nat
  zeroBad : Bool
deriving DecidableEq, Repr

/-- A work item: a tag and its payload bytes (R266). -/
structure Item where
  tag : Tag
  payload : List Byte
deriving DecidableEq, Repr

/-- What a register bus sees of a read or a write of a byte range (R358, R359). -/
inductive BusOp where
  | read (len : Nat)
  | write (bytes : List Byte)
deriving DecidableEq, Repr

/-- A change of a pin's level as the pin cell sees it (R35). A field pin has a voltage in microvolts; `line` is what its
digital receiver decides where R24 leaves the level between its thresholds. -/
inductive PinChange where
  | field (t : Fin 32) (n : Fin 8) (uV : Int) (line : Bool)
  | gio (g : Fin 48) (level : Bool)
deriving DecidableEq, Repr

/-- The criteria of R49. -/
inductive Crit where
  | openPilot | openCompliance | openForced
  | shortPilot | shortCurrent | shortSupply
  | revPolarity | revPair | revSupply
deriving DecidableEq, Repr

/-- One pilot estimate (R47): resistance in 0.1 ohm, capacitance in pF, in-phase leg resistances of a pair. -/
structure Estimate where
  res : Nat
  cap : Nat
  legEven : Nat
  legOdd : Nat
deriving DecidableEq, Repr

/-- One converter conversion: `x16` after self-correction in 1/16 LSB (R150), `clip` when the raw code is at an end of its
range (R98), and converter B's conversion where it makes a check (R102). -/
structure Conv where
  x16 : Int
  clip : Bool
  b : Option (Int × Bool)
deriving DecidableEq, Repr

/-- What leaves its tolerance at a PFAIL (R12, R418): V24, a supply of the converter cores or of the field drivers, or another main
rail. -/
inductive Rail where
  | v24 | vdda | vddaHv | vfp | vfn
  /-- Any other main rail. -/
  | other
deriving DecidableEq, Repr

/-- A connection of a pin to a lane (R70, R71): the pin's SL switch or a lane drive entry. -/
inductive LaneConn where
  | sl (n : Fin 8)
  | drv (k : Fin 2)
deriving DecidableEq, Repr

/-- What a self-calibration found (R145, R146, R161), and whether the ledger failed to take its record (R169). -/
structure SelfCal where
  ref : Bool
  limit : Bool
  coreBad : BitVec 3
  aborted : Bool
  ledgerBad : Bool := false
deriving DecidableEq, Repr

/-- A slot of a calibration record that the restore of the ledger finds torn (R164, R166): of a tile's TILE_SELF record, or of the
SYS_CH record of a channel at a RANGE. -/
structure TornSlot where
  tile : Fin 32
  chan : Option (Fin 10 × Fin 8)
  second : Bool
  /-- The slot is one of the RSV record instead (R375). -/
  rsv : Bool := false
deriving DecidableEq, Repr

/-- The slot of an engine bundle (R205). -/
inductive Slot where
  | x | y
deriving DecidableEq, Repr

/-- What an ECC check of a 32-byte half-line finds (R228). -/
inductive EccOutcome where
  | clean | corrected | uncorrectable
deriving DecidableEq, Repr

/-- How an engine issues one instruction: the engine, the slot, whether the other slot's instruction of the same bundle
follows (`paired`), whether a reserved field of its word is not zero (`rsvd`), and the interlock stall cycles before the
bundle (`stalls`, R177, R194). `ecc`: what the ECC of the
memories that the bundle reads finds (R222, R228). -/
structure Issue where
  eng : Fin 128
  slot : Slot
  paired : Bool
  rsvd : Bool
  stalls : Nat
  ecc : EccOutcome
deriving DecidableEq, Repr

/-- The address operand of the M format (R207, R216). -/
structure MemAddr where
  mode : Fin 8
  p : Fin 16
  off : BitVec 13
deriving DecidableEq, Repr

/-- Which TLBs a GO of TLBI acts on (R240). -/
inductive TlbScope where
  | all
  | cluster (c : Fin 16) (target : BitVec 9)
deriving DecidableEq, Repr

/-- A requester whose HOST access the link suspended (R254). -/
inductive Requester where
  | engine (e : Fin 128)
  | channel (c : Fin 16) (j : Fin 16)
deriving DecidableEq, Repr

/-- A read of host memory that the device makes and that fails (R366): of a ring's entry or, where the entry came, of its
payload; of an extent of a personality stream; of an engine or a DMA channel. -/
inductive HostRead where
  | entry (r : Fin 64)
  | payload (r : Fin 64) (it : Item)
  | extent
  | unit (q : Requester)
deriving DecidableEq, Repr

/-- A watched line of host memory with the value that the device reads from it (R276, R283, R360). -/
inductive WatchedLine where
  | prod (r : Fin 64) (value : BitVec 32)
  | ackSeq (s : Fin 4096) (value : Nat)
deriving DecidableEq, Repr

/-- A ring entry as the device reads it (R277): its 64 bytes; where LEN is above 32, what the read of the payload at its address
gave, and whether that read gave an error. -/
structure RingEntry where
  bytes : List Byte
  read : List Byte
  readErr : Bool
deriving DecidableEq, Repr

/-- A section of a personality stream (R322, R323): its type, chain position, target, payload, and whether the payload
matches its HASH. `safe` is what a FABRIC section declares for each border pin (0, 1, 2 = HOLD), because the region
configuration's own format is not described (R304). -/
structure Section where
  pos : Nat
  typ : Nat
  target : Nat
  payload : List Byte
  hashOk : Bool
  safe : List (Nat × Nat)
  counters : List (Nat × Nat)
  routes : List (Nat × Nat)
deriving DecidableEq, Repr

/-- What the FABRIC section of a table entry says in the fabric's own format, which the spec does not describe, of what lies outside
the cells (R307, R311, R313, assumption log 21): the safe values of pin levels (key 8 t + n for a field pin, 256 + g for a GIO pin)
and of output enables (the same keys plus 512), as 0, 1 or 2 for HOLD; the counter blocks it names; and the field pin 8 t + n routed
to input q of block b, at key 3 b + q. -/
structure RegionCfg where
  entry : Nat := 0
  safe : List (Nat × Nat) := []
  counters : List (Nat × Nat) := []
  routes : List (Nat × Nat) := []
deriving DecidableEq, Repr, Inhabited

/-- What the FABRIC sections of a stream say in the fabric's own format. -/
structure StreamCheck where
  fabric : List RegionCfg := []
deriving DecidableEq, Repr, Inhabited

/-- A personality stream (R321 to R326) as a device holds it: its bytes by offset, those not listed being 0; what its FABRIC sections
say; and how many bytes have come, from the extent list at the head (R355), in LOAD frames at any other device. -/
structure PersStream where
  bytes : List (Nat × Byte)
  chk : StreamCheck
  len : Nat := 0
deriving DecidableEq, Repr, Inhabited

/-- Header and CRC of a latigo frame as it arrives at a port (R336); the payload is the command's. `replayed` says that it comes
from the sender's replay buffer (R338). -/
structure FrameHdr where
  port : Fin 2
  ftype : Byte
  pri : Fin 4
  fseq : Nat
  ack : Nat
  crc : BitVec 32
  replayed : Bool := false
deriving DecidableEq, Repr

/-- What a partner's parameter frame brings beside its position (R333). -/
structure PortParams where
  serial : BitVec 128
  stepping : Fin 16
deriving DecidableEq, Repr, Inhabited

/-- A border signal that a region's logic drives (R307). -/
inductive BorderSignal where
  | pin (t : Fin 32) (n : Fin 8) (level : Bool) (oe : Bool)
  | gio (g : Fin 48) (level : Bool) (oe : Bool)
  | crossing (k : Fin 64) (level : Bool)
deriving DecidableEq, Repr

/-- A signed owner operation (R382) or debug token (R394) as received: its bytes, SIG_LEN and the signature with them, and whether
the HSS signature verifies with the key that has to verify it. -/
structure SignedBody where
  bytes : List Byte
  sigOk : Bool
deriving DecidableEq, Repr

/-- The head of an object's request (R377): its TAG, the bytes that must be zero (STATUS, bytes 2 and 3, and any the operation's own
layout gives as zero), and how many bytes its length is off. -/
structure ObjReq where
  tag : Nat
  zeros : List Byte := []
  off : Int := 0
deriving DecidableEq, Repr

/-- Its length and its zero bytes are as R377 has them. -/
def ObjReq.ok (r : ObjReq) : Bool := r.off == 0 && r.zeros.all fun b => b == 0

/-- A READ over MCTP (R390): the request and its byte offset. -/
structure ReadReq where
  req : ObjReq
  off : Nat
deriving DecidableEq, Repr

/-- A DOE or MCTP requester of the security objects (R370, R386). -/
inductive SecPort where
  | doe | smbus
deriving DecidableEq, Repr

/-- A maintenance reminder (R426). -/
structure Reminder where
  kind : Nat
  pin : Nat
  id : Nat
  thresh : Nat
deriving DecidableEq, Repr

/-- What MSIX_UNMASK unmasks (R361): one vector, or the function with MSI-X enabled. -/
inductive MsixTarget where
  | vector (v : Fin 2048)
  | function
deriving DecidableEq, Repr

/-- The commands, in the order of the spec's table; each constructor's docstring names its row and the rule that governs it. -/
inductive Instr where
  /-- REGISTER_WRITE (R8). -/
  | registerWrite (w : Writer) (a : Nat) (v : Word)
  /-- BAR0_BAD_ACCESS (R357). -/
  | bar0BadAccess (write : Bool) (off : Nat)
  /-- BAR2_ACCESS (R358). -/
  | bar2Access (off : Nat) (op : BusOp)
  /-- PAGE_COMMIT (R462). -/
  | pageCommit (w : Writer) (pg : Page)
  /-- COMMIT_EFFECTIVE (R462). -/
  | commitEffective (pg : Page)
  /-- PAGE_DISCARD (R460). -/
  | pageDiscard (w : Writer) (pg : Page)
  /-- PAGE_LOCK (R463). -/
  | pageLock (w : Writer) (pg : Page)
  /-- PAGE_OWNER_WRITE (R461). -/
  | pageOwnerWrite (w : Writer) (pg : Page) (code : Byte)
  /-- IRQ_PEND_CLEAR (R464). -/
  | irqPendClear (w : Writer) (pg : Page) (mask : Word)
  /-- PINS_OUT_WRITE (R37). -/
  | pinsOutWrite (w : Writer) (t : Fin 32) (v : Byte)
  /-- PINS_OUT_SET (R37). -/
  | pinsOutSet (w : Writer) (t : Fin 32) (v : Byte)
  /-- PINS_OUT_CLR (R37). -/
  | pinsOutClr (w : Writer) (t : Fin 32) (v : Byte)
  /-- PINS_OE_WRITE (R37). -/
  | pinsOeWrite (w : Writer) (t : Fin 32) (v : Byte)
  /-- PIN_FLT_CLEAR (R29). -/
  | pinFltClear (w : Writer) (t : Fin 32) (n : Fin 8) (mask : Word)
  /-- PIN_EST_TIME_READ (R55). -/
  | pinEstTimeRead (t : Fin 32) (n : Fin 8)
  /-- FUNCTION_ATTACH (R42). -/
  | functionAttach (t : Fin 32) (n : Fin 8)
  /-- PIN_STATE_CHANGE (R35). -/
  | pinStateChange (c : PinChange)
  /-- DIN_DEBOUNCE (R27). -/
  | dinDebounce (t : Fin 32) (n : Fin 8)
  /-- DOUT24_TRIP (R29). -/
  | dout24Trip (t : Fin 32) (n : Fin 8)
  /-- OVERLOAD_START (R46). -/
  | overloadStart (t : Fin 32) (n : Fin 8)
  /-- OVERLOAD_END (R46). -/
  | overloadEnd (t : Fin 32) (n : Fin 8)
  /-- PILOT_ESTIMATE (R47). -/
  | pilotEstimate (t : Fin 32) (n : Fin 8) (est : Estimate)
  /-- SHORT_T_EXPIRY (R49). -/
  | shortTExpiry (t : Fin 32) (n : Fin 8) (c : Crit)
  /-- REVERSED_POLARITY (R49). -/
  | reversedPolarity (t : Fin 32) (n : Fin 8)
  /-- V24_REVERSED (R50). -/
  | v24Reversed
  /-- V24_REVERSE_CLEAR (R50). -/
  | v24ReverseClear
  /-- CRITERION_CLEAR (R51). -/
  | criterionClear (t : Fin 32) (n : Fin 8) (c : Crit)
  /-- SENSE_TRIP (R59). -/
  | senseTrip (t : Fin 32) (n : Fin 8)
  /-- SENSE_TRIP_CLEAR (R59). -/
  | senseTripClear (w : Writer) (t : Fin 32) (n : Fin 8)
  /-- SN_RECLOSE (R59). -/
  | snReclose (t : Fin 32) (n : Fin 8)
  /-- LANE_SWITCH_CLOSE (R70). -/
  | laneSwitchClose (t : Fin 32)
  /-- LANE_PROTECTION (R71). -/
  | laneProtection (t : Fin 32) (lane : Fin 16)
  /-- LANE_PROT_CLEAR (R71). -/
  | laneProtClear (w : Writer) (t : Fin 32) (c : LaneConn)
  /-- LANE_RECONNECT (R71). -/
  | laneReconnect (t : Fin 32) (c : LaneConn)
  /-- REF_CHECK (R73). -/
  | refCheck (t : Fin 32) (dev zero : Int)
  /-- TEMP_READING (R74). -/
  | tempReading (t : Fin 32) (temp : Int)
  /-- TILE_RESTART (R75). -/
  | tileRestart (w : Writer) (t : Fin 32)
  /-- TILE_TEMP_MAX_READ (R80). -/
  | tileTempMaxRead (t : Fin 32)
  /-- SEQ_PASS (R86). -/
  | seqPass (t : Fin 32) (convs : List Conv)
  /-- PASS_BOUNDARY_APPLY (R89). -/
  | passBoundaryApply (t : Fin 32)
  /-- ADC_TRIGGER (R87). -/
  | adcTrigger (t : Fin 32)
  /-- ADC_TRIG_START (R87). -/
  | adcTrigStart (w : Writer) (t : Fin 32)
  /-- FRAME_EMIT (R91). -/
  | frameEmit (t : Fin 32) (out : Fin 25)
  /-- DECIMATOR_OUTPUT (R112). -/
  | decimatorOutput (t : Fin 32) (d : Fin 8)
  /-- INTLV_ENTRY (R110). -/
  | intlvEntry (t : Fin 32)
  /-- INTLV_EXIT (R111). -/
  | intlvExit (t : Fin 32)
  /-- OUT_CODE_WRITE (R122). -/
  | outCodeWrite (w : Writer) (t : Fin 32) (n : Fin 8) (code : BitVec 16)
  /-- SETPOINT_EXECUTE (R269). -/
  | setpointExecute (t : Fin 32)
  /-- PINS_OUT_EXECUTE (R269). -/
  | pinsOutExecute (t : Fin 32)
  /-- SLEW_STEP (R124). -/
  | slewStep (t : Fin 32) (n : Fin 8)
  /-- DEGLITCH_HOLD_END (R127). -/
  | deglitchHoldEnd (t : Fin 32) (n : Fin 8)
  /-- OUT_WDOG_EXPIRY (R129). -/
  | outWdogExpiry (t : Fin 32) (n : Fin 8)
  /-- FAULT_HOLD_CLEAR (R131). -/
  | faultHoldClear (w : Writer) (t : Fin 32) (n : Fin 8)
  /-- RANGE_CHANGE_DISCONNECT (R132). -/
  | rangeChangeDisconnect (t : Fin 32) (n : Fin 8)
  /-- RANGE_CHANGE_RECONNECT (R132). -/
  | rangeChangeReconnect (t : Fin 32) (n : Fin 8)
  /-- SG_RESYNC (R139). -/
  | sgResync (t : Fin 32) (k : Fin 2)
  /-- SG_AMP_PHASE_APPLY (R138). -/
  | sgAmpPhaseApply (t : Fin 32) (k : Fin 2)
  /-- SELF_CAL_GROUP (R144). -/
  | selfCalGroup (g : Fin 4)
  /-- SELF_CAL_DONE (R145). -/
  | selfCalDone (t : Fin 32) (r : SelfCal)
  /-- CAL_REQ_TILE_IN (R147). -/
  | calReqTileIn (w : Writer) (t : Fin 32)
  /-- CAL_REQ_CONV_A (R147). -/
  | calReqConvA (w : Writer) (t : Fin 32)
  /-- CAL_REQ_CONV_B (R147). -/
  | calReqConvB (w : Writer) (t : Fin 32)
  /-- CAL_REQ_FRONT_END (R147). -/
  | calReqFrontEnd (w : Writer) (t : Fin 32) (ch : Fin 16)
  /-- CAL_REQ_SPARE (R147). -/
  | calReqSpare (w : Writer) (t : Fin 32)
  /-- CAPTURE0 (R152). -/
  | capture0 (w : Writer) (t : Fin 32)
  /-- CAPTURE1 (R152). -/
  | capture1 (w : Writer) (t : Fin 32)
  /-- CANCEL (R152). -/
  | cancel (w : Writer) (t : Fin 32)
  /-- CLEAR_LOST (R167). -/
  | clearLost (w : Writer) (t : Fin 32)
  /-- CAPTURE_DONE (R154). -/
  | captureDone (t : Fin 32)
  /-- CAL_LEDGER_COMMIT_DONE (R156). -/
  | calLedgerCommitDone (t : Fin 32) (ok : Bool)
  /-- CAL_WAIT1_TIMEOUT (R155). -/
  | calWait1Timeout (t : Fin 32)
  /-- CAPTURE_TMO (R155). -/
  | captureTmo (t : Fin 32)
  /-- CAL_RAMP_STEP (R157). -/
  | calRampStep (t : Fin 32) (ch : Fin 10)
  /-- CAL_ROT_NOW (R159). -/
  | calRotNow (w : Writer) (t : Fin 32)
  /-- ROTATION_PERIOD (R159). -/
  | rotationPeriod (t : Fin 32)
  /-- ROTATION_FOLLOW (R160). -/
  | rotationFollow (t : Fin 32) (spareOk : Bool)
  /-- ROTATION_HANDOVER (R160). -/
  | rotationHandover (t : Fin 32)
  /-- ROTATION_TAKEOVER (R160). -/
  | rotationTakeover (t : Fin 32)
  /-- INVOCATION_START (R173). -/
  | invocationStart (e : Fin 128)
  /-- PREEMPTION (R175). -/
  | preemption (e : Fin 128) (faulty : Bool)
  /-- INVOCATION_RESUME (R175). -/
  | invocationResume (e : Fin 128) (faulty : Bool)
  /-- INBUF_APPLY (R174). -/
  | inbufApply (e : Fin 128)
  /-- SELF_TEST_DONE (R181). -/
  | selfTestDone (e : Fin 128) (pass : Bool)
  /-- ENG_HALT (R203). -/
  | engHalt (w : Writer) (e : Fin 128)
  /-- ENG_RESUME (R203). -/
  | engResume (w : Writer) (e : Fin 128)
  /-- ENG_TEST (R203). -/
  | engTest (w : Writer) (e : Fin 128)
  /-- ENG_PRE_MAX_READ (R203). -/
  | engPreMaxRead (e : Fin 128)
  /-- NOP (R210). -/
  | nop (i : Issue)
  /-- ADD (R211). -/
  | add (i : Issue) (d a b : Fin 64) (w : Option (Fin 4))
  /-- SUB (R211). -/
  | sub (i : Issue) (d a b : Fin 64) (w : Option (Fin 4))
  /-- AND (R211). -/
  | and (i : Issue) (d a b : Fin 64) (w : Option (Fin 4))
  /-- OR (R211). -/
  | or (i : Issue) (d a b : Fin 64) (w : Option (Fin 4))
  /-- XOR (R211). -/
  | xor (i : Issue) (d a b : Fin 64) (w : Option (Fin 4))
  /-- ANDN (R211). -/
  | andn (i : Issue) (d a b : Fin 64) (w : Option (Fin 4))
  /-- MIN (R211). -/
  | min (i : Issue) (d a b : Fin 64) (w : Option (Fin 4))
  /-- MAX (R211). -/
  | max (i : Issue) (d a b : Fin 64) (w : Option (Fin 4))
  /-- ABS (R211). -/
  | abs (i : Issue) (d a b : Fin 64) (w : Option (Fin 4))
  /-- NEG (R211). -/
  | neg (i : Issue) (d a b : Fin 64) (w : Option (Fin 4))
  /-- CMP (R211). -/
  | cmp (i : Issue) (d a b : Fin 64) (w : Option (Fin 4))
  /-- ADD_H (R211). -/
  | addH (i : Issue) (d a b : Fin 64) (w : Option (Fin 4))
  /-- SUB_H (R211). -/
  | subH (i : Issue) (d a b : Fin 64) (w : Option (Fin 4))
  /-- ADDS_H (R211). -/
  | addsH (i : Issue) (d a b : Fin 64) (w : Option (Fin 4))
  /-- SUBS_H (R211). -/
  | subsH (i : Issue) (d a b : Fin 64) (w : Option (Fin 4))
  /-- ASR (R211). -/
  | asr (i : Issue) (d a b : Fin 64) (w : Option (Fin 4))
  /-- LSR (R211). -/
  | lsr (i : Issue) (d a b : Fin 64) (w : Option (Fin 4))
  /-- LSL (R211). -/
  | lsl (i : Issue) (d a b : Fin 64) (w : Option (Fin 4))
  /-- ASRR (R211). -/
  | asrr (i : Issue) (d a b : Fin 64) (w : Option (Fin 4))
  /-- ASRI (R211). -/
  | asri (i : Issue) (d a b : Fin 64) (w : Option (Fin 4))
  /-- LSRI (R211). -/
  | lsri (i : Issue) (d a b : Fin 64) (w : Option (Fin 4))
  /-- LSLI (R211). -/
  | lsli (i : Issue) (d a b : Fin 64) (w : Option (Fin 4))
  /-- ASRRI (R211). -/
  | asrri (i : Issue) (d a b : Fin 64) (w : Option (Fin 4))
  /-- LSC (R211). -/
  | lsc (i : Issue) (d a b : Fin 64) (w : Option (Fin 4))
  /-- ADDI (R210). -/
  | addi (i : Issue) (d a : Fin 64) (imm : BitVec 14)
  /-- ANDI (R210). -/
  | andi (i : Issue) (d a : Fin 64) (imm : BitVec 14)
  /-- ORI (R210). -/
  | ori (i : Issue) (d a : Fin 64) (imm : BitVec 14)
  /-- XORI (R210). -/
  | xori (i : Issue) (d a : Fin 64) (imm : BitVec 14)
  /-- CMPI (R210). -/
  | cmpi (i : Issue) (d a : Fin 64) (imm : BitVec 14)
  /-- MAC (R214). -/
  | mac (i : Issue) (n : Fin 8) (a b : Fin 64) (form : Fin 8) (sub z : Bool)
  /-- MAC2 (R214). -/
  | mac2 (i : Issue) (np : Fin 4) (ap bp : Fin 32) (mode : Fin 4) (sub z : Bool) (sgn : Fin 4)
  /-- CMAC (R214). -/
  | cmac (i : Issue) (np : Fin 4) (a b : Fin 64) (conj sub z : Bool)
  /-- CLR (R210). -/
  | clr (i : Issue) (mask : BitVec 8)
  /-- WB (R186). -/
  | wb (i : Issue) (d : Fin 64) (n : Fin 8) (k : Fin 4) (c : Bool)
  /-- WBP (R214). -/
  | wbp (i : Issue) (d : Fin 64) (n : Fin 8) (k : Fin 4) (c : Bool)
  /-- BINIT (R190). -/
  | binit (i : Issue)
  /-- BBEGIN (R190). -/
  | bbegin (i : Issue)
  /-- BEND (R190). -/
  | bend (i : Issue)
  /-- BADJ (R190). -/
  | badj (i : Issue) (imm : BitVec 8)
  /-- DIVS (R213). -/
  | divs (i : Issue) (d a b : Fin 64)
  /-- DIVU (R213). -/
  | divu (i : Issue) (d a b : Fin 64)
  /-- MOVI (R210). -/
  | movi (i : Issue) (r : BitVec 8) (imm : BitVec 18)
  /-- MOVIU (R210). -/
  | moviu (i : Issue) (r : BitVec 8) (imm : BitVec 18)
  /-- MOVIX (R210). -/
  | movix (i : Issue) (r : BitVec 8) (imm : BitVec 18)
  /-- LIMM (R196). -/
  | limm (i : Issue) (n : Fin 16) (s : Bool) (imm : BitVec 21)
  /-- MOV (R215). -/
  | mov (i : Issue) (dst src : BitVec 8) (part : Fin 4)
  /-- LD (R216). -/
  | ld (i : Issue) (g : Fin 64) (m : MemAddr)
  /-- LDH (R216). -/
  | ldh (i : Issue) (g : Fin 64) (m : MemAddr)
  /-- LDHU (R216). -/
  | ldhu (i : Issue) (g : Fin 64) (m : MemAddr)
  /-- LDB (R216). -/
  | ldb (i : Issue) (g : Fin 64) (m : MemAddr)
  /-- LDBU (R216). -/
  | ldbu (i : Issue) (g : Fin 64) (m : MemAddr)
  /-- LDD (R216). -/
  | ldd (i : Issue) (g : Fin 64) (m : MemAddr)
  /-- ST (R216). -/
  | st (i : Issue) (g : Fin 64) (m : MemAddr)
  /-- STH (R216). -/
  | sth (i : Issue) (g : Fin 64) (m : MemAddr)
  /-- STB (R216). -/
  | stb (i : Issue) (g : Fin 64) (m : MemAddr)
  /-- STD (R216). -/
  | std (i : Issue) (g : Fin 64) (m : MemAddr)
  /-- BLD (R190). -/
  | bld (i : Issue) (g : Fin 64) (m : MemAddr)
  /-- BST (R190). -/
  | bst (i : Issue) (g : Fin 64) (m : MemAddr)
  /-- B_COND (R217). -/
  | bCond (i : Issue) (cond : Fin 16) (tgt : Fin 4096)
  /-- JAL (R210). -/
  | jal (i : Issue) (d : Fin 64) (tgt : Fin 4096)
  /-- JR (R210). -/
  | jr (i : Issue) (g : Fin 64)
  /-- REPEAT (R193). -/
  | repeatB (i : Issue) (s : Bool) (k : Fin 64) (cnt : BitVec 12)
  /-- SEND (R218). -/
  | send (i : Issue) (gs : Fin 64) (pt pp : Fin 16) (gl : Fin 64) (e : Bool)
  /-- END (R173). -/
  | endInv (i : Issue)
  /-- FENCE (R210). -/
  | fence (i : Issue)
  /-- TRAP (R222). -/
  | trap (i : Issue) (imm : BitVec 16)
  /-- TAPM (R192). -/
  | tapm (i : Issue) (n : Fin 8) (pc pd : Fin 16) (v : Fin 4)
  /-- TLBI_ALL (R240). -/
  | tlbiAll (w : Writer) (sc : TlbScope)
  /-- TLBI_ASID (R240). -/
  | tlbiAsid (w : Writer) (sc : TlbScope) (asid : BitVec 12)
  /-- TLBI_VA_ASID (R240). -/
  | tlbiVaAsid (w : Writer) (sc : TlbScope) (asid : BitVec 12) (va : BitVec 48)
  /-- TLBI_VA_ALL (R240). -/
  | tlbiVaAll (w : Writer) (sc : TlbScope) (va : BitVec 48)
  /-- TLBI_DONE (R240). -/
  | tlbiDone (sc : TlbScope)
  /-- PATROL_SCRUB (R228). -/
  | patrolScrub (ch : Fin 4) (addr : BitVec 32) (found : EccOutcome)
  /-- DRAM_CHANNEL_LOST (R230). -/
  | dramChannelLost (ch : Fin 4)
  /-- RETRY (R251). -/
  | retry (w : Writer) (e : Fin 128)
  /-- ABANDON (R251). -/
  | abandon (w : Writer) (e : Fin 128)
  /-- CL_FAULT_TIMEOUT (R251). -/
  | clFaultTimeout (e : Fin 128)
  /-- DMA_ITEM_START (R242). -/
  | dmaItemStart (c : Fin 16) (j : Fin 16)
  /-- DMA_BURST (R242). -/
  | dmaBurst (c : Fin 16) (j : Fin 16) (found : List EccOutcome)
  /-- DMA_ITEM_END (R247). -/
  | dmaItemEnd (c : Fin 16) (j : Fin 16)
  /-- DMA_RESUME (R253). -/
  | dmaResume (w : Writer) (c : Fin 16) (j : Fin 16)
  /-- DMA_ABORT (R253). -/
  | dmaAbort (w : Writer) (c : Fin 16) (j : Fin 16)
  /-- CAP_STOP (R249). -/
  | capStop (w : Writer) (c : Fin 16) (j : Fin 16)
  /-- DMA_FAULT_TIMEOUT (R253). -/
  | dmaFaultTimeout (c : Fin 16) (j : Fin 16)
  /-- LINK_RESUME (R254). -/
  | linkResume (r : Requester)
  /-- MEM_ECC_CNT_READ (R258). -/
  | memEccCntRead
  /-- CL_TLB_MISS_READ (R259). -/
  | clTlbMissRead (c : Fin 16)
  /-- DMA_TLB_MISS_READ (R260). -/
  | dmaTlbMissRead (c : Fin 16)
  /-- STREAM_OPEN (R265). -/
  | streamOpen (w : Writer) (s : Fin 4096) (base : BitVec 48)
  /-- STREAM_CLOSE (R265). -/
  | streamClose (w : Writer) (s : Fin 4096)
  /-- STREAM_SKIP (R265). -/
  | streamSkip (w : Writer) (s : Fin 4096)
  /-- STREAM_QUERY (R265). -/
  | streamQuery (w : Writer) (s : Fin 4096)
  /-- STREAM_CLOSED (R265). -/
  | streamClosed (s : Fin 4096)
  /-- WATCHED_LINE_SNOOP (R360). -/
  | watchedLineSnoop (l : WatchedLine)
  /-- RING_POLL (R349). -/
  | ringPoll (l : WatchedLine)
  /-- RING_ENTRY_TAKE (R278). -/
  | ringEntryTake (r : Fin 64) (ent : RingEntry)
  /-- RING_LINE_WRITE (R278). -/
  | ringLineWrite (r : Fin 64)
  /-- ITEM_TAKE (R271). -/
  | itemTake (src : Nat)
  /-- ITEM_ACCEPT (R285). -/
  | itemAccept (s : Fin 4096) (seq : Nat)
  /-- ITEM_DISPATCH (R288). -/
  | itemDispatch (dst : Nat)
  /-- COMPLETION_RECORD_WRITE (R282). -/
  | completionRecordWrite (s : Fin 4096)
  /-- DELIVERY_RING_WRITE (R283). -/
  | deliveryRingWrite (s : Fin 4096)
  /-- GAP_TIMEOUT (R274). -/
  | gapTimeout (s : Fin 4096)
  /-- KEY_COMMIT (R300). -/
  | keyCommit (s : Fin 4096)
  /-- QUIESCE_TIMEOUT (R293). -/
  | quiesceTimeout (u : Nat)
  /-- QUIESCE_RETURN (R293). -/
  | quiesceReturn (u : Nat)
  /-- REPLAY_REISSUE (R293). -/
  | replayReissue (u : Nat)
  /-- JOURNAL_REBUILD_DONE (R292). -/
  | journalRebuildDone (ch : Fin 4)
  /-- SCHED_REJ_CNT_READ (R302). -/
  | schedRejCntRead
  /-- SCHED_DUP_CNT_READ (R302). -/
  | schedDupCntRead
  /-- SCHED_RETRY_CNT_READ (R302). -/
  | schedRetryCntRead
  /-- SCHED_LOSS_CNT_READ (R302). -/
  | schedLossCntRead
  /-- SCHED_KEYHIT_CNT_READ (R302). -/
  | schedKeyhitCntRead
  /-- RELOAD_REGION (R314). -/
  | reloadRegion (w : Writer) (r : Fin 128) (chk : StreamCheck)
  /-- RELOAD_TILE (R314). -/
  | reloadTile (w : Writer) (t : Fin 128) (chk : StreamCheck)
  /-- RELOAD_ENGINE (R314). -/
  | reloadEngine (w : Writer) (e : Fin 128) (chk : StreamCheck)
  /-- RELOAD_VERIFIED (R315). -/
  | reloadVerified (readOk sigOk : Bool)
  /-- GIRTH_CLOSE (R315). -/
  | girthClose
  /-- GIRTH_RELEASE (R315). -/
  | girthRelease (written : Bool)
  /-- FABRIC_PORT_SEND (R310). -/
  | fabricPortSend (r : Fin 8) (port : Fin 16) (it : Item)
  /-- FABRIC_PORT_ACK (R309). -/
  | fabricPortAck (r : Fin 8) (port : Fin 16)
  /-- COUNTER_ITEM_EXECUTE (R312). -/
  | counterItemExecute (r : Fin 8)
  /-- COUNTER_START (R312). -/
  | counterStart (b : Fin 256)
  /-- PULSE_TRAIN_END (R311). -/
  | pulseTrainEnd (b : Fin 256)
  /-- FAB_CNT_READ (R320). -/
  | fabCntRead (b : Fin 256)
  /-- LOAD_GO (R329). -/
  | loadGo (img : PersStream)
  /-- LOAD_SIGNATURE_VERIFIED (R329). -/
  | loadSignatureVerified (sigOk : Bool) (chain : Nat)
  /-- LOAD_DEADLINE (R327). -/
  | loadDeadline
  /-- LOAD_CLEAR (R332). -/
  | loadClear (deadline : BitVec 13)
  /-- APPLY_DONE (R329). -/
  | applyDone (written : Bool)
  /-- LOADED (R329). -/
  | loaded
  /-- LATIGO_TRAIN_START (R333). -/
  | latigoTrainStart (p : Fin 2)
  /-- LATIGO_ACTIVE (R333). -/
  | latigoActive (p : Fin 2) (width : Fin 4) (par : PortParams) (partnerPos : Fin 8)
  /-- TRAINING_TIMEOUT (R334). -/
  | trainingTimeout (p : Fin 2)
  /-- ACK (R338). -/
  | ack (h : FrameHdr)
  /-- NAK (R338). -/
  | nak (h : FrameHdr)
  /-- CREDIT (R339). -/
  | credit (h : FrameHdr) (counts : List Nat)
  /-- ITEM (R339). -/
  | item (h : FrameHdr) (it : Item)
  /-- ITEM_ACC (R339). -/
  | itemAcc (h : FrameHdr) (s : Fin 4096) (seq : Nat)
  /-- LOAD (R329). -/
  | load (h : FrameHdr) (off : Nat) (bytes : List Byte)
  /-- LOADCTL_START (R337). -/
  | loadctlStart (h : FrameHdr) (deadline : Nat) (chk : StreamCheck)
  /-- LOADCTL_VERIFIED (R329). -/
  | loadctlVerified (h : FrameHdr) (pos : Fin 8)
  /-- LOADCTL_REJECT (R332). -/
  | loadctlReject (h : FrameHdr) (pos : Fin 8) (code : Fin 16)
  /-- LOADCTL_APPLY (R329). -/
  | loadctlApply (h : FrameHdr)
  /-- LOADCTL_ABORT (R332). -/
  | loadctlAbort (h : FrameHdr) (pos : Fin 8) (code : Fin 16)
  /-- LOADCTL_DONE (R337). -/
  | loadctlDone (h : FrameHdr) (pos : Fin 8)
  /-- LOADCTL_CLEAR (R332). -/
  | loadctlClear (h : FrameHdr)
  /-- BEACON (R343). -/
  | beacon (h : FrameHdr) (t1 d : Int) (q : Fin 4)
  /-- BEACON_REPLY (R342). -/
  | beaconReply (h : FrameHdr) (t1 t2 t3 : Int) (q : Fin 4)
  /-- FAULT (R344). -/
  | fault (h : FrameHdr) (cls : Nat) (origin : Fin 8) (cause : Nat) (source : Nat)
  /-- REG_READ (R340). -/
  | regRead (h : FrameHdr) (tag : Nat) (off : Nat)
  /-- REG_WRITE (R340). -/
  | regWrite (h : FrameHdr) (tag : Nat) (off : Nat) (v : Word)
  /-- REG_RESPONSE (R340). -/
  | regResponse (h : FrameHdr) (tag : Nat) (v : Word)
  /-- REPLAY_TIMEOUT (R338). -/
  | replayTimeout (p : Fin 2)
  /-- ACK_TIMER (R338). -/
  | ackTimer (p : Fin 2)
  /-- LINK_DOWN_TIMEOUT (R338). -/
  | linkDownTimeout (p : Fin 2)
  /-- BEACON_SEND (R342). -/
  | beaconSend
  /-- BEACON_MISSED (R343). -/
  | beaconMissed
  /-- REG_RESPONSE_TIMEOUT (R357). -/
  | regResponseTimeout (tag : Nat)
  /-- LAT_CRC_CNT_READ (R346). -/
  | latCrcCntRead (p : Fin 2)
  /-- LAT_REPLAY_CNT_READ (R346). -/
  | latReplayCntRead (p : Fin 2)
  /-- LINK_L0_ENTRY (R282, R348): the lanes that pass, the rates that the partner supports (bit k: 2.5, 5, 8, 16 or 32 GT/s), and whether
  it negotiates CXL. -/
  | linkL0Entry (lanes : BitVec 8) (rates : BitVec 5) (cxl : Bool)
  /-- LINK_DOWN (R367). -/
  | linkDown
  /-- LINK_L1_ENTRY (R350). -/
  | linkL1Entry
  /-- LINK_L1_EXIT (R350). -/
  | linkL1Exit
  /-- D3HOT_ENTRY (R350). -/
  | d3hotEntry
  /-- D0_RETURN (R369). -/
  | d0Return
  /-- PERST_N (R367). -/
  | perstN
  /-- HOT_RESET (R367). -/
  | hotReset
  /-- FLR (R367). -/
  | flr
  /-- CXL_RESET (R367). -/
  | cxlReset
  /-- VIRAL (R351). -/
  | viral
  /-- CACHE_WRITEBACK_INVALIDATE (R351). -/
  | cacheWritebackInvalidate
  /-- CXL_MEM_ACCESS (R359). -/
  | cxlMemAccess (line : Nat) (op : BusOp) (found : EccOutcome)
  /-- MSIX_UNMASK (R361). -/
  | msixUnmask (m : MsixTarget)
  /-- COMPLETION_TIMEOUT (R366). -/
  | completionTimeout (r : HostRead)
  /-- POISONED_COMPLETION (R366). -/
  | poisonedCompletion (r : HostRead)
  /-- IDE_CHECK_FAILURE (R365). -/
  | ideCheckFailure (str : Fin 2)
  /-- RESET_WARM (R368). -/
  | resetWarm (key : Byte)
  /-- WARM_RESET_SAFE (R368). -/
  | warmResetSafe
  /-- WARM_RESET_DOMAINS (R368). -/
  | warmResetDomains
  /-- WARM_RESET_ROM (R368). -/
  | warmResetRom
  /-- WARM_RESET_REAPPLY (R368). -/
  | warmResetReapply (hashOk : Bool)
  /-- RESET_COLD (R367). -/
  | resetCold (key : Byte)
  /-- SYS_RST_N (R367). -/
  | sysRstN
  /-- DOE_DISCOVERY (R363). -/
  | doeDiscovery (index : Nat)
  /-- TABLE_ACCESS (R363). -/
  | tableAccess
  /-- DOE_ABORT (R363). -/
  | doeAbort
  /-- MCTP_CONTROL (R370). -/
  | mctpControl (cmd : Nat)
  /-- MCTP_READ (R390). -/
  | mctpRead (r : ReadReq)
  /-- BYPASS (R371). -/
  | bypass
  /-- IDCODE (R371). -/
  | idcode
  /-- SAMPLE_PRELOAD (R371). -/
  | samplePreload
  /-- EXTEST (R371). -/
  | extest
  /-- CLAMP (R371). -/
  | clamp
  /-- HIGHZ (R371). -/
  | highz
  /-- SESSION_SETUP (R385): N_H and CT; `opOk` says that the object is SETUP and no other OP. -/
  | sessionSetup (p : SecPort) (tag : ObjReq) (opOk : Bool) (nonceH : BitVec 256) (ct : List Byte) (ledgerOk : Bool)
  /-- SESSION_CLOSE (R386). -/
  | sessionClose (p : SecPort) (tag : ObjReq) (sid : Nat)
  /-- QUOTE (R390). -/
  | quote (p : SecPort) (tag : ObjReq) (nonce : Nat) (pos : Byte) (sid : Nat) (ledgerOk : Bool) (far : Option (List Byte))
  /-- CERTS (R390). -/
  | certs (p : SecPort) (tag : ObjReq) (pos : Byte) (far : Option (List Byte))
  /-- SEC_QUOTE_GO (R399). -/
  | secQuoteGo (w : Writer)
  /-- OWNER_CHALLENGE (R378). -/
  | ownerChallenge (tag : ObjReq)
  /-- ENROLL_FIRST (R381). -/
  | enrollFirst (tag : ObjReq) (req : SignedBody) (ownEn : Bool) (ledgerOk : Bool)
  /-- OWNER_ADD (R381). -/
  | ownerAdd (tag : ObjReq) (req : SignedBody) (ledgerOk : Bool)
  /-- REVOKE (R381). -/
  | revoke (tag : ObjReq) (req : SignedBody) (ledgerOk : Bool)
  /-- TRANSFER (R381). -/
  | transfer (tag : ObjReq) (req : SignedBody) (ledgerOk : Bool)
  /-- OWNER_READ (R381). -/
  | ownerRead (tag : ObjReq)
  /-- PROG (R387). -/
  | prog (tag : ObjReq) (sid : Nat) (str : Byte) (kset : Byte) (gen : Nat) (macOk : Bool)
  /-- IDE_GO (R387). -/
  | ideGo (tag : ObjReq) (sid : Nat) (str : Byte) (kset : Byte) (macOk : Bool)
  /-- IDE_STOP (R387). -/
  | ideStop (tag : ObjReq) (sid : Nat) (str : Byte) (macOk : Bool)
  /-- DEBUG_CHALLENGE (R378). -/
  | debugChallenge (tag : ObjReq)
  /-- UNLOCK (R395): the token's fields, its signature, and whether that verifies. -/
  | unlock (tag : ObjReq) (token sig : List Byte) (sigOk : Bool)
  /-- DEBUG_LOCK (R394). -/
  | debugLock (tag : ObjReq)
  /-- CHALLENGE_EXPIRY (R378). -/
  | challengeExpiry (debug : Bool)
  /-- UNLOCK_EXPIRY (R395). -/
  | unlockExpiry
  /-- STAGE (R392). -/
  | stage (w : Writer) (svn : Nat) (readOk sigOk : Bool)
  /-- FW_COMMIT (R393). -/
  | fwCommit (w : Writer)
  /-- GLITCH_TRIP (R397). -/
  | glitchTrip (m : Fin 6)
  /-- POWER_GOOD (R402). -/
  | powerGood
  /-- FIRMWARE_VERIFIED (R391). -/
  | firmwareVerified (aOk bOk : Bool)
  /-- MEMORY_TRAINED (R402). -/
  | memoryTrained (trained : BitVec 4) (torn : List TornSlot)
  /-- DOMAIN_ON (R405). -/
  | domainOn (w : Writer) (d : Byte)
  /-- DOMAIN_OFF (R405). -/
  | domainOff (w : Writer) (d : Byte)
  /-- DOMAIN_POWER_REMOVE (R405). -/
  | domainPowerRemove (d : Fin 212)
  /-- FIDDLEHEAD_RAMP_DONE (R407). -/
  | fiddleheadRampDone (d : Fin 212)
  /-- FIDDLEHEAD_PLL_LOCK (R407). -/
  | fiddleheadPllLock (d : Fin 212)
  /-- FIDDLEHEAD_READY (R408). -/
  | fiddleheadReady (d : Fin 212)
  /-- PLL_LOCK_TIMEOUT (R409). -/
  | pllLockTimeout (d : Fin 212)
  /-- PPS_CAPTURE (R413). -/
  | ppsCapture (g : Fin 48)
  /-- TIME_STAT_READ (R430). -/
  | timeStatRead
  /-- TIME_LO_READ (R412). -/
  | timeLoRead
  /-- RTC_SET (R414). -/
  | rtcSet (w : Writer) (sec : BitVec 40)
  /-- RTC_SEC_READ (R430). -/
  | rtcSecRead
  /-- VBAT_LOSS (R414). -/
  | vbatLoss
  /-- PFAIL (R419). -/
  | pfail (rail : Rail)
  /-- LEDGER_FLUSH_DONE (R419). -/
  | ledgerFlushDone
  /-- HOLDUP_END (R419). -/
  | holdupEnd
  /-- V24_ARM (R418). -/
  | v24Arm
  /-- V24_LOW (R418). -/
  | v24Low
  /-- COUNTER_COMMIT (R423). -/
  | counterCommit (wear : Fin 256)
  /-- HISTOGRAM_MINUTE (R425). -/
  | histogramMinute (t : Fin 32)
  /-- REMINDER_DUE (R427). -/
  | reminderDue (k : Fin 32)
  /-- READ_COUNTERS (R428). -/
  | readCounters (w : Writer) (arg : Word)
  /-- READ_HIST (R428). -/
  | readHist (w : Writer) (arg : Word)
  /-- READ_CAL (R428). -/
  | readCal (w : Writer) (arg : Word)
  /-- READ_REM (R428). -/
  | readRem (w : Writer) (arg : Word)
  /-- SET_REM (R428). -/
  | setRem (w : Writer) (arg : Word)
  /-- ACK_REM (R427). -/
  | ackRem (w : Writer) (arg : Word)
  /-- READ_LOG (R428). -/
  | readLog (w : Writer) (arg : Word)
  /-- SAFE_N_ASSERT (R444). -/
  | safeNAssert
  /-- SAFE_N_DEASSERT (R440). -/
  | safeNDeassert
  /-- LOCKSTEP_MISMATCH (R435). -/
  | lockstepMismatch (pair : Fin 2)
  /-- POP (R443). -/
  | pop (w : Writer)
  /-- EXIT (R440). -/
  | exit (w : Writer)
  /-- FLT_ACK (R441). -/
  | fltAck (w : Writer) (rseq : BitVec 16)
  /-- FLT_RELEASE (R437). -/
  | fltRelease (w : Writer) (u : BitVec 13)
  /-- FLT_DROP_CNT_READ (R453). -/
  | fltDropCntRead
  /-- IRQ_SWI_WRITE (R446). -/
  | irqSwiWrite (w : Writer) (v : Byte)
  /-- EVENT_TRIGGER (R450). -/
  | eventTrigger (n : Fin 256)
  /-- EVC_SNAP (R452). -/
  | evcSnap (w : Writer) (groups : BitVec 16)
  /-- EVC_SWTRIG (R450). -/
  | evcSwtrig (w : Writer) (trigs : BitVec 16)
  /-- EVC_WRAP (R451). -/
  | evcWrap (n : Fin 256)
  /-- EVC_VAL_READ (R452). -/
  | evcValRead (n : Fin 256)
  /-- EVC_VAL_WRITE (R455). -/
  | evcValWrite (w : Writer) (n : Fin 256) (hi : Bool) (v : Word)
  /-- INTLV_SAMPLE (R109). -/
  | intlvSample (t : Fin 32) (cv : Conv)
  /-- SG_CORE_CLOCK (R136). -/
  | sgCoreClock (t : Fin 32) (k : Fin 2)
  /-- COMPARE_OUTPUT (R311). -/
  | compareOutput (b : Fin 256)
  /-- BORDER_SIGNAL_CHANGE (R307). -/
  | borderSignalChange (r : Fin 8) (sig : BorderSignal)
  /-- LOAD_VERIFIED (R329). -/
  | loadVerified (short : Bool)
  /-- VBAT_RETURN (R414). -/
  | vbatReturn
  /-- VBAT_LOW (R416). -/
  | vbatLow (low : Bool)
  /-- PPS_OUT (R34). -/
  | ppsOut (g : Fin 48)
  /-- QUOTE_BUILT (R399). -/
  | quoteBuilt (ledgerOk : Bool)
  /-- FWUP_DONE (R392). -/
  | fwupDone
  /-- LEDGER_COMMAND_DONE (R428). -/
  | ledgerCommandDone (ok : Bool)
deriving DecidableEq, Repr

end Sys2Proof
end

