-- ==== Sys2Proof/Decode.lean ====
section
/-! DEFINITION. The decoder of command words. The spec's table gives no row any bits: the block takes its commands as events,
never as words, so no word spells a command. -/

namespace Sys2Proof

/-- The command that a word of `nbits` bits spells by the table's bits: none, since no row gives bits. -/
def decodeTableWord (_nbits _w : Nat) : Option Instr := none

end Sys2Proof
end

