-- ==== Sys2Proof/Config.lean ====
section
/-! DEFINITION. What an implementation fixes or the spec leaves open: constants with no body, so that no proof can lean
on a value of one. Each is named in the assumption log. -/

namespace Sys2Proof.Config

/-- A value that the device draws or that the spec does not fix, one for each count of `State.free` (assumption log 3). -/
opaque freeNat : Nat → Nat

/-- What host memory answers to a device read of byte `a` at count `k` of `State.free`: host memory is outside the block
(assumption log 4). -/
opaque hostByte (a k : Nat) : Byte

/-- Whether the host has written byte `a` of its memory, by count `k` of `State.free`, since the device last wrote it: no order
binds the two (R226, assumption log 4). -/
opaque hostWrote (a k : Nat) : Bool

/-- How long the excitation of a BRIDGE quad stands at its safe value after the attach, in ns (assumption log 152). -/
opaque bridgeRise : Nat

/-- The half-band coefficients HB_COEF0 to HB_COEF11 (R118 gives the registers, no values; assumption log 5). -/
opaque hbCoef : Nat → Nat

/-- A digest that the spec computes with a cryptographic function whose algorithm it only names (assumption log 6). -/
opaque digest (kind : Nat) (inputs : List Nat) : Nat

/-- The words of a log entry as READ_LOG returns it, whose format the spec does not give: free values (assumption log 3). -/
opaque logWord : List Nat → Nat → Word

/-- What the FABRIC sections of a stream with these bytes say in the fabric's own format, where the command that starts its load or
reload is a register write (assumption log 40). -/
opaque streamCheck (bytes : List (Nat × Byte)) : StreamCheck

/-- The SVN of a firmware image with these bytes, and whether it verifies (R392), where its STAGE is a register write (assumption
log 40). -/
opaque fwImage (bytes : List Byte) : Nat × Bool

/-- The seed in the OTP fuses, from which the unit's private keys derive (R372), the ROM (R389), the manufacturing CA's certificate and
the name that stands in it (R372, R374): fixed for a unit, with values that the spec does not give (assumption log 6). -/
opaque unitSeed : Nat
opaque rom : List Byte
opaque caCert : List Byte
opaque caName : List Byte

end Sys2Proof.Config
end

