-- ==== Sys2Proof/Machine/Regs.lean ====
section
/-! DEFINITION. The register map: where every page lies in the window (R458), the rows of every page's table (its access
code, R8, and its reset value), and one name for every register field. -/

namespace Sys2Proof.Machine

/-- A register field: the offset of its word in the window, and its highest and lowest bit. -/
structure Field where
  addr : Nat
  hi : Nat
  lo : Nat
deriving DecidableEq, Repr

/-- The access codes of R8. -/
inductive Acc where
  | rw | ro | wo | w1c | w1s | rc | rws
deriving DecidableEq, Repr

/-- A row of a page's register table: `cnt` words from offset `off`, `stride` apart, and one field of each. -/
structure RegRow where
  off : Nat
  stride : Nat
  cnt : Nat
  hi : Nat
  lo : Nat
  acc : Acc
  rst : Nat
deriving DecidableEq, Repr

/-- The row as it is written in the tables below. -/
def row (off stride cnt hi lo : Nat) (acc : Acc) (rst : Nat) : RegRow := ⟨off, stride, cnt, hi, lo, acc, rst⟩

/-! The page bases of R458. -/
def idPage : Nat := 0x0000
def fltPage : Nat := 0x1000
def irqPage : Nat := 0x2000
def memPage : Nat := 0x3000
def pinPage (t : Nat) : Nat := 0x100000 + t * 0x4000
def inPage (t : Nat) : Nat := 0x101000 + t * 0x4000
def outPage (t : Nat) : Nat := 0x102000 + t * 0x4000
def calPage (t : Nat) : Nat := 0x103000 + t * 0x4000
def engPage (e : Nat) : Nat := 0x200000 + e * 0x1000
def clPage (c : Nat) : Nat := 0x300000 + c * 0x2000
def dmaPage (c : Nat) : Nat := 0x301000 + c * 0x2000
def fabPage : Nat := 0x380000
def secPage : Nat := 0x3C0000
def licPage : Nat := 0x3D0000
def pwrPage : Nat := 0x3D1000
def schPage : Nat := 0x3E0000
def rngPage : Nat := 0x3E1000
def evcPage : Nat := 0x3F0000
def evfPage : Nat := 0x3F1000
def evlPage : Nat := 0x3F2000
def evsPage : Nat := 0x3F3000
def latPage : Nat := 0x3F8000
/-- The DVSEC of R353 lies in configuration space; the model keys its words past the 4 MiB window. -/
def cfgBase : Nat := 0x4000000

/-- The offset of a page in the window (R458). -/
def pageBase : Page → Nat
  | .ident => idPage | .fault => fltPage | .irq => irqPage | .mem => memPage
  | .pins t => pinPage t | .input t => inPage t | .output t => outPage t | .calib t => calPage t
  | .engine e => engPage e | .cluster c => clPage c | .dma c => dmaPage c
  | .fabric => fabPage | .security => secPage | .lichen => licPage | .power => pwrPage
  | .sched => schPage | .rings => rngPage
  | .evCtl => evcPage | .evCfg => evfPage | .evLive => evlPage | .evSnap => evsPage | .latigo => latPage

/-- The page that holds a window offset, none in a reserved range (R458). -/
def pageOf (a : Nat) : Option Page :=
  if a < 0x4000 then
    (match a / 0x1000 with | 0 => some .ident | 1 => some .fault | 2 => some .irq | _ => some .mem)
  else if a < 0x100000 then none
  else if a < 0x180000 then
    let t := Fin.ofNat 32 ((a - 0x100000) / 0x4000)
    (match a / 0x1000 % 4 with
     | 0 => some (.pins t) | 1 => some (.input t) | 2 => some (.output t) | _ => some (.calib t))
  else if a < 0x200000 then none
  else if a < 0x280000 then some (.engine (Fin.ofNat 128 ((a - 0x200000) / 0x1000)))
  else if a < 0x300000 then none
  else if a < 0x320000 then
    let c := Fin.ofNat 16 ((a - 0x300000) / 0x2000)
    (if a / 0x1000 % 2 = 0 then some (.cluster c) else some (.dma c))
  else match a / 0x1000 with
    | 0x380 => some .fabric | 0x3C0 => some .security | 0x3D0 => some .lichen | 0x3D1 => some .power
    | 0x3E0 => some .sched | 0x3E1 => some .rings | 0x3F0 => some .evCtl | 0x3F1 => some .evCfg
    | 0x3F2 => some .evLive | 0x3F3 => some .evSnap | 0x3F8 => some .latigo | _ => none

/-- PAGE_ID.TYPE (R458). -/
def pageType : Page → Nat
  | .ident => 0x00 | .fault => 0x30 | .irq => 0x31 | .mem => 0x21
  | .pins _ => 0x01 | .input _ => 0x02 | .output _ => 0x03 | .calib _ => 0x04
  | .engine _ => 0x10 | .cluster _ => 0x11 | .dma _ => 0x12
  | .fabric => 0x18 | .security => 0x3C | .lichen => 0x3F | .power => 0x3E
  | .sched => 0x20 | .rings => 0x22
  | .evCtl => 0x32 | .evCfg => 0x33 | .evLive => 0x34 | .evSnap => 0x35 | .latigo => 0x23

/-- PAGE_ID.INSTANCE (R460). -/
def pageInstance : Page → Nat
  | .pins t => t | .input t => t | .output t => t | .calib t => t
  | .engine e => e | .cluster c => c | .dma c => c
  | _ => 0

/-- Rows of the header table. -/
def headerRows : List RegRow :=
  [row 0 4 1 5 0 .ro 0,
   row 0 4 1 15 8 .ro 0,
   row 0 4 1 23 16 .ro 1,
   row 0 4 1 26 24 .ro 0,
   row 4 4 1 0 0 .ro 0,
   row 4 4 1 1 1 .ro 0,
   row 4 4 1 2 2 .ro 0,
   row 4 4 1 3 3 .ro 0,
   row 4 4 1 15 8 .ro 5,
   row 8 4 1 0 0 .w1s 0,
   row 8 4 1 1 1 .w1s 0,
   row 0xc 4 1 0 0 .ro 0,
   row 0xc 4 1 1 1 .ro 0,
   row 0xc 4 1 2 2 .ro 0,
   row 0xc 4 1 3 3 .w1c 0,
   row 0xc 4 1 4 4 .ro 0,
   row 0xc 4 1 5 5 .ro 0,
   row 0xc 4 1 15 8 .ro 0,
   row 0x10 4 1 31 0 .ro 0,
   row 0x14 4 1 31 0 .rw 0,
   row 0x18 4 1 31 0 .w1c 0,
   row 0x1c 4 1 7 0 .rw 1,
   row 0x20 4 1 0 0 .w1s 0,
   row 0x24 4 1 31 0 .rw 0xffffffff,
   row 0x28 4 1 11 0 .rw 0,
   row 0x28 4 1 12 12 .rw 0,
   row 0x2c 4 1 3 0 .rw 0xf,
   row 0x30 4 1 15 0 .ro 0,
   row 0x30 4 1 31 16 .ro 0,
   row 0x34 4 1 15 0 .ro 0,
   row 0x34 4 1 18 16 .ro 0,
   row 0x34 4 1 19 19 .ro 0]

/-- Rows of the ident table. -/
def identRows : List RegRow :=
  [row 0x40 4 1 15 0 .ro 0x8128,
   row 0x40 4 1 31 16 .ro 0xf0d,
   row 0x44 4 1 3 0 .ro 0,
   row 0x48 4 1 7 0 .ro 0x20,
   row 0x48 4 1 15 8 .ro 0x80,
   row 0x48 4 1 23 16 .ro 8,
   row 0x48 4 1 31 24 .ro 0x10,
   row 0x4c 4 1 15 0 .ro 0x10,
   row 0x4c 4 1 31 16 .ro 0x3000,
   row 0x50 4 4 31 0 .ro 0,
   row 0x60 4 1 15 0 .ro 0,
   row 0x60 4 1 23 16 .ro 0,
   row 0x64 4 2 31 0 .rw 0]

/-- Rows of the fault table. -/
def faultRows : List RegRow :=
  [row 0x40 4 1 2 0 .ro 0,
   row 0x40 4 1 3 3 .ro 0,
   row 0x40 4 1 4 4 .ro 0,
   row 0x40 4 1 5 5 .ro 0,
   row 0x40 4 1 6 6 .w1c 0,
   row 0x40 4 1 7 7 .ro 0,
   row 0x40 4 1 23 16 .ro 0,
   row 0x40 4 1 31 24 .ro 0,
   row 0x44 4 1 15 0 .ro 0,
   row 0x44 4 1 31 16 .ro 0,
   row 0x48 4 1 0 0 .rw 0,
   row 0x48 4 1 1 1 .rw 1,
   row 0x48 4 1 2 2 .rw 0,
   row 0x4c 4 1 0 0 .w1s 0,
   row 0x4c 4 1 1 1 .w1s 0,
   row 0x50 4 1 15 0 .wo 0,
   row 0x54 4 1 12 0 .wo 0,
   row 0x54 4 1 31 31 .w1s 0,
   row 0x58 4 1 0 0 .ro 0,
   row 0x5c 4 1 2 0 .ro 0,
   row 0x60 4 1 31 0 .rc 0,
   row 0x80 4 8 31 0 .ro 0,
   row 0x100 8 64 15 0 .ro 0,
   row 0x100 8 64 31 16 .ro 0,
   row 0x104 8 64 2 0 .ro 0,
   row 0x104 8 64 3 3 .ro 0,
   row 0x104 8 64 31 16 .ro 0]

/-- Rows of the irq table. -/
def irqRows : List RegRow :=
  [row 0x100 4 10 31 0 .ro 0,
   row 0x140 4 1 7 0 .rw 0,
   row 0x400 4 320 10 0 .rw 0,
   row 0x400 4 320 11 11 .rw 0,
   row 0x400 4 320 12 12 .rw 0,
   row 0x400 4 320 31 16 .ro 0]

/-- Rows of the mem table. -/
def memRows : List RegRow :=
  [row 0x40 4 1 0 0 .rws 0,
   row 0x40 4 1 22 16 .rws 0,
   row 0x44 4 1 3 0 .ro 0,
   row 0x44 4 1 5 4 .ro 0,
   row 0x44 4 1 7 6 .ro 1,
   row 0x44 4 1 8 8 .ro 0,
   row 0x44 4 1 9 9 .ro 0,
   row 0x48 4 1 31 0 .rc 0,
   row 0x4c 4 1 31 0 .ro 0,
   row 0x50 4 1 31 0 .ro 0,
   row 0x54 4 1 1 0 .ro 0,
   row 0x54 4 1 2 2 .ro 0,
   row 0x58 4 1 2 0 .rw 0,
   row 0x58 4 1 15 4 .rw 0,
   row 0x58 4 1 30 30 .ro 0,
   row 0x58 4 1 31 31 .w1s 0,
   row 0x5c 4 1 31 12 .rw 0,
   row 0x60 4 1 15 0 .rw 0]

/-- Rows of the pins table. -/
def pinsRowsA : List RegRow :=
  [row 0x40 4 1 7 0 .ro 0,
   row 0x40 4 1 15 8 .ro 0,
   row 0x44 4 1 7 0 .rw 0,
   row 0x48 4 1 7 0 .w1s 0,
   row 0x4c 4 1 7 0 .w1c 0,
   row 0x50 4 1 7 0 .rw 0,
   row 0x54 4 1 15 0 .rws 0x3e8,
   row 0x58 4 1 7 0 .ro 0,
   row 0x58 4 1 15 8 .ro 0,
   row 0x58 4 1 23 16 .ro 0,
   row 0x100 0x40 8 3 0 .rws 0,
   row 0x100 0x40 8 6 4 .rws 0,
   row 0x100 0x40 8 11 8 .rws 0,
   row 0x100 0x40 8 13 12 .rws 0,
   row 0x100 0x40 8 15 14 .rws 0,
   row 0x100 0x40 8 16 16 .rws 0,
   row 0x100 0x40 8 17 17 .rws 0,
   row 0x100 0x40 8 19 18 .rws 0,
   row 0x100 0x40 8 21 20 .rws 0,
   row 0x100 0x40 8 23 22 .rws 0,
   row 0x100 0x40 8 27 24 .rws 0,
   row 0x104 0x40 8 7 0 .rws 0,
   row 0x108 0x40 8 3 0 .ro 0,
   row 0x108 0x40 8 4 4 .ro 0,
   row 0x108 0x40 8 5 5 .ro 0,
   row 0x108 0x40 8 6 6 .ro 0,
   row 0x108 0x40 8 7 7 .ro 0,
   row 0x108 0x40 8 8 8 .ro 0,
   row 0x108 0x40 8 9 9 .ro 0,
   row 0x108 0x40 8 10 10 .ro 0,
   row 0x108 0x40 8 11 11 .ro 0,
   row 0x108 0x40 8 12 12 .ro 0,
   row 0x108 0x40 8 13 13 .ro 0,
   row 0x108 0x40 8 14 14 .ro 0,
   row 0x10c 0x40 8 0 0 .w1c 0,
   row 0x10c 0x40 8 1 1 .w1c 0,
   row 0x10c 0x40 8 2 2 .w1c 0,
   row 0x10c 0x40 8 3 3 .w1c 0,
   row 0x10c 0x40 8 4 4 .w1c 0,
   row 0x10c 0x40 8 5 5 .w1c 0]

/-- Rows of the pins table. -/
def pinsRowsB : List RegRow :=
  [row 0x10c 0x40 8 6 6 .w1c 0,
   row 0x110 0x40 8 9 0 .rw 0x1ff,
   row 0x110 0x40 8 25 16 .rw 0x201,
   row 0x114 0x40 8 15 0 .rws 0,
   row 0x114 0x40 8 23 16 .rws 0,
   row 0x114 0x40 8 27 24 .rws 0,
   row 0x118 0x40 8 27 0 .ro 0,
   row 0x11c 0x40 8 15 0 .ro 0,
   row 0x11c 0x40 8 31 16 .ro 0,
   row 0x120 0x40 8 31 0 .ro 0,
   row 0x124 0x40 8 31 0 .ro 0,
   row 0x128 0x40 8 15 0 .rws 0,
   row 0x12c 0x40 8 31 0 .ro 0,
   row 0x300 4 8 2 0 .rws 3,
   row 0x300 4 8 4 4 .rws 0,
   row 0x300 4 8 5 5 .rws 0,
   row 0x320 4 1 7 0 .w1c 0,
   row 0x320 4 1 15 8 .ro 0,
   row 0x320 4 1 23 16 .ro 0,
   row 0x324 4 1 2 0 .ro 0,
   row 0x324 4 1 3 3 .ro 0,
   row 0x324 4 1 6 4 .ro 0,
   row 0x324 4 1 7 7 .ro 0,
   row 0x324 4 1 9 8 .ro 0,
   row 0x324 4 1 11 10 .ro 1,
   row 0x324 4 1 13 12 .ro 2,
   row 0x330 4 2 3 0 .rws 0,
   row 0x330 4 2 6 4 .rws 1,
   row 0x330 4 2 7 7 .rws 0,
   row 0x330 4 2 10 8 .rws 3,
   row 0x338 4 1 2 0 .rws 0,
   row 0x338 4 1 3 3 .rws 0,
   row 0x338 4 1 7 4 .rws 0,
   row 0x338 4 1 18 16 .rws 0,
   row 0x338 4 1 19 19 .rws 0,
   row 0x338 4 1 23 20 .rws 0,
   row 0x33c 4 1 15 0 .rws 0,
   row 0x340 4 1 0 0 .ro 0,
   row 0x340 4 1 1 1 .w1c 0,
   row 0x340 4 1 2 2 .w1c 0]

/-- Rows of the pins table. -/
def pinsRowsC : List RegRow :=
  [row 0x340 4 1 3 3 .w1c 0,
   row 0x340 4 1 15 8 .w1c 0,
   row 0x340 4 1 17 16 .w1c 0,
   row 0x344 4 1 15 0 .ro 0,
   row 0x350 4 1 15 0 .ro 0,
   row 0x350 4 1 16 16 .ro 0,
   row 0x350 4 1 17 17 .ro 0,
   row 0x354 4 1 15 0 .ro 0,
   row 0x354 4 1 16 16 .ro 0,
   row 0x354 4 1 17 17 .ro 0,
   row 0x354 4 1 18 18 .w1c 0,
   row 0x358 4 1 15 0 .rw 0x640,
   row 0x35c 4 1 15 0 .rc 0x8000]

/-- Rows of the pins table. -/
def pinsRows : List RegRow := pinsRowsA ++ pinsRowsB ++ pinsRowsC

/-- Rows of the input table. -/
def inputRowsA : List RegRow :=
  [row 0x40 4 1 0 0 .rws 0,
   row 0x40 4 1 1 1 .rws 0,
   row 0x40 4 1 2 2 .rws 0,
   row 0x40 4 1 8 4 .rws 1,
   row 0x40 4 1 23 16 .rws 0,
   row 0x44 4 1 31 0 .rws 0,
   row 0x48 4 1 31 0 .rws 0,
   row 0x4c 4 1 0 0 .ro 0,
   row 0x4c 4 1 1 1 .ro 0,
   row 0x4c 4 1 2 2 .ro 0,
   row 0x4c 4 1 3 3 .ro 0,
   row 0x4c 4 1 4 4 .ro 0,
   row 0x4c 4 1 5 5 .w1c 0,
   row 0x4c 4 1 6 6 .w1c 0,
   row 0x4c 4 1 23 8 .ro 0,
   row 0x50 4 1 3 0 .rws 0,
   row 0x50 4 1 4 4 .rws 0,
   row 0x50 4 1 15 8 .rws 3,
   row 0x50 4 1 31 16 .rws 0x10,
   row 0x54 4 1 19 0 .rws 0x40,
   row 0x58 4 1 2 0 .ro 1,
   row 0x58 4 1 3 3 .ro 0,
   row 0x58 4 1 15 8 .ro 0,
   row 0x58 4 1 31 16 .ro 0,
   row 0x5c 4 1 31 0 .ro 0,
   row 0x60 4 1 31 0 .ro 0,
   row 0x64 4 1 11 0 .rws 0,
   row 0x64 4 1 21 12 .rws 0,
   row 0x68 4 1 15 0 .ro 0,
   row 0x68 4 1 16 16 .ro 0,
   row 0x6c 4 1 0 0 .w1s 0,
   row 0x100 8 16 3 0 .rws 0xa,
   row 0x100 8 16 19 4 .rws 0x64,
   row 0x100 8 16 20 20 .rws 0,
   row 0x104 8 16 11 0 .rws 0,
   row 0x104 8 16 21 12 .rws 0,
   row 0x200 4 16 15 0 .ro 0,
   row 0x240 4 1 15 0 .ro 0,
   row 0x280 0x10 8 4 0 .rws 0,
   row 0x280 0x10 8 5 5 .rws 0]

/-- Rows of the input table. -/
def inputRowsB : List RegRow :=
  [row 0x280 0x10 8 18 8 .rws 1,
   row 0x280 0x10 8 21 19 .rws 1,
   row 0x280 0x10 8 23 22 .rws 0,
   row 0x284 0x10 8 11 0 .rws 0,
   row 0x284 0x10 8 21 12 .rws 0,
   row 0x288 0x10 8 15 0 .ro 0,
   row 0x300 4 12 23 0 .ro 0]

/-- Rows of the input table. -/
def inputRows : List RegRow := inputRowsA ++ inputRowsB

/-- Rows of the output table. -/
def outputRows : List RegRow :=
  [row 0x40 0x20 2 0 0 .rws 0,
   row 0x40 0x20 2 1 1 .rws 0,
   row 0x44 0x20 2 31 0 .rws 0,
   row 0x48 0x20 2 15 0 .rws 0,
   row 0x4c 0x20 2 14 0 .rws 0,
   row 0x4c 0x20 2 31 16 .rws 0,
   row 0x50 0x20 2 31 0 .rws 0,
   row 0x54 0x20 2 31 0 .rws 0,
   row 0x58 0x20 2 0 0 .ro 0,
   row 0x58 0x20 2 1 1 .ro 0,
   row 0x58 0x20 2 2 2 .w1c 0,
   row 0x100 0x40 8 15 0 .rw 0x8000,
   row 0x104 0x40 8 15 0 .ro 0x8000,
   row 0x108 0x40 8 2 0 .rws 0,
   row 0x108 0x40 8 3 3 .rws 0,
   row 0x108 0x40 8 4 4 .rws 0,
   row 0x108 0x40 8 5 5 .rws 0,
   row 0x108 0x40 8 11 6 .rws 0x3f,
   row 0x108 0x40 8 15 12 .rws 0,
   row 0x10c 0x40 8 15 0 .rws 1,
   row 0x10c 0x40 8 31 16 .rws 0,
   row 0x110 0x40 8 15 0 .rws 0,
   row 0x114 0x40 8 0 0 .ro 0,
   row 0x114 0x40 8 1 1 .ro 0,
   row 0x114 0x40 8 2 2 .ro 0,
   row 0x114 0x40 8 3 3 .ro 0,
   row 0x114 0x40 8 4 4 .ro 0,
   row 0x114 0x40 8 5 5 .ro 0,
   row 0x114 0x40 8 6 6 .w1c 0,
   row 0x114 0x40 8 7 7 .w1c 0,
   row 0x114 0x40 8 8 8 .w1c 0,
   row 0x114 0x40 8 9 9 .ro 0,
   row 0x114 0x40 8 12 10 .ro 0,
   row 0x118 0x40 8 15 0 .ro 0x8000,
   row 0x11c 0x40 8 31 0 .ro 0]

/-- Rows of the calib table. -/
def calibRowsA : List RegRow :=
  [row 0x40 4 1 13 0 .rws 0x64,
   row 0x44 4 1 2 0 .wo 0,
   row 0x44 4 1 6 3 .wo 0,
   row 0x44 4 1 31 31 .wo 0,
   row 0x48 4 1 0 0 .ro 0,
   row 0x48 4 1 3 1 .ro 0,
   row 0x48 4 1 6 4 .ro 0,
   row 0x48 4 1 9 7 .ro 0,
   row 0x48 4 1 10 10 .ro 0,
   row 0x48 4 1 25 16 .ro 0,
   row 0x4c 4 1 15 0 .rws 0,
   row 0x4c 4 1 16 16 .rws 0,
   row 0x4c 4 1 31 31 .w1s 0,
   row 0x50 4 1 1 0 .ro 0,
   row 0x50 4 1 2 2 .ro 0,
   row 0x50 4 1 3 3 .ro 0,
   row 0x50 4 1 31 16 .ro 0,
   row 0x54 4 1 31 0 .ro 0,
   row 0x58 4 1 31 0 .ro 0,
   row 0x5c 4 1 7 0 .ro 0,
   row 0x5c 4 1 22 8 .ro 0,
   row 0x60 4 1 3 0 .rws 0,
   row 0x60 4 1 7 4 .rws 4,
   row 0x60 4 1 23 8 .rws 0x3c,
   row 0x64 4 1 19 0 .rws 0,
   row 0x68 4 1 19 0 .rws 0x70000,
   row 0x6c 4 1 15 0 .rws 0x40,
   row 0x6c 4 1 31 16 .rws 0x1000,
   row 0x70 4 1 2 0 .wo 0,
   row 0x74 4 1 2 0 .ro 0,
   row 0x74 4 1 7 3 .ro 0,
   row 0x74 4 1 8 8 .ro 0,
   row 0x74 4 1 28 16 .ro 0,
   row 0x78 4 1 31 0 .ro 0,
   row 0x7c 4 1 23 0 .ro 0,
   row 0x80 4 1 23 0 .ro 0,
   row 0x84 4 1 9 0 .ro 0,
   row 0x100 0x10 10 31 0 .ro 0,
   row 0x104 0x10 10 31 0 .ro 0,
   row 0x108 0x10 10 7 0 .ro 0]

/-- Rows of the calib table. -/
def calibRowsB : List RegRow :=
  [row 0x108 0x10 10 22 8 .ro 0,
   row 0x200 8 10 23 0 .ro 0,
   row 0x204 8 10 23 0 .ro 0x400000]

/-- Rows of the calib table. -/
def calibRows : List RegRow := calibRowsA ++ calibRowsB

/-- Rows of the engine table. -/
def engineRows : List RegRow :=
  [row 0x40 4 1 2 0 .wo 0,
   row 0x44 4 1 1 0 .ro 0,
   row 0x44 4 1 2 2 .ro 1,
   row 0x44 4 1 3 3 .ro 1,
   row 0x44 4 1 4 4 .ro 0,
   row 0x44 4 1 5 5 .ro 0,
   row 0x44 4 1 7 6 .ro 0,
   row 0x44 4 1 8 8 .ro 0,
   row 0x44 4 1 9 9 .ro 0,
   row 0x44 4 1 15 12 .ro 0,
   row 0x44 4 1 19 16 .ro 0,
   row 0x48 4 1 0 0 .rws 0,
   row 0x4c 4 1 15 0 .rws 0,
   row 0x4c 4 1 31 16 .rws 0,
   row 0x50 4 1 11 0 .ro 0,
   row 0x54 4 1 31 0 .ro 0,
   row 0x58 4 1 31 0 .ro 0,
   row 0x5c 4 1 15 0 .rc 0,
   row 0x60 4 1 7 0 .ro 0,
   row 0x60 4 1 19 8 .ro 0,
   row 0x64 4 1 31 0 .ro 0,
   row 0x100 4 64 11 0 .rws 0,
   row 0x100 4 64 13 12 .rws 0,
   row 0x100 4 64 14 14 .rws 0]

/-- Rows of the cluster table. -/
def clusterRows : List RegRow :=
  [row 0x40 4 1 2 0 .rw 0,
   row 0x40 4 1 15 4 .rw 0,
   row 0x40 4 1 24 16 .rw 0,
   row 0x40 4 1 30 30 .ro 0,
   row 0x40 4 1 31 31 .w1s 0,
   row 0x44 4 1 31 12 .rw 0,
   row 0x48 4 1 15 0 .rw 0,
   row 0x4c 4 1 15 0 .rw 0xa,
   row 0x50 4 1 31 0 .rc 0,
   row 0x80 0x20 8 3 0 .ro 0,
   row 0x80 0x20 8 4 4 .ro 0,
   row 0x80 0x20 8 5 5 .ro 0,
   row 0x80 0x20 8 7 6 .ro 0,
   row 0x80 0x20 8 19 8 .ro 0,
   row 0x80 0x20 8 31 20 .ro 0,
   row 0x84 0x20 8 31 0 .ro 0,
   row 0x88 0x20 8 15 0 .ro 0,
   row 0x8c 0x20 8 1 0 .wo 0,
   row 0x90 0x20 8 31 0 .ro 0]

/-- Rows of the dma table. -/
def dmaRows : List RegRow :=
  [row 0x40 4 1 15 0 .rw 0x3e8,
   row 0x44 4 1 15 0 .ro 0,
   row 0x44 4 1 31 16 .ro 0,
   row 0x48 4 1 31 0 .rc 0,
   row 0x100 0x40 16 0 0 .rws 0,
   row 0x100 0x40 16 1 1 .rws 0,
   row 0x100 0x40 16 2 2 .rws 0,
   row 0x104 0x40 16 3 0 .ro 0,
   row 0x104 0x40 16 4 4 .ro 0,
   row 0x104 0x40 16 5 5 .ro 0,
   row 0x104 0x40 16 6 6 .ro 0,
   row 0x104 0x40 16 19 8 .ro 0,
   row 0x104 0x40 16 20 20 .ro 0,
   row 0x104 0x40 16 21 21 .ro 0,
   row 0x108 0x40 16 1 0 .wo 0,
   row 0x10c 0x40 16 31 0 .ro 0,
   row 0x110 0x40 16 15 0 .ro 0,
   row 0x114 0x40 16 15 0 .ro 0,
   row 0x118 0x40 16 15 0 .ro 0,
   row 0x11c 0x40 16 31 0 .ro 0,
   row 0x120 0x40 16 31 12 .rws 0,
   row 0x124 0x40 16 15 0 .rws 0,
   row 0x128 0x40 16 23 0 .rws 0,
   row 0x12c 0x40 16 31 0 .ro 0,
   row 0x130 0x40 16 31 0 .ro 0]

/-- Rows of the fabric table. -/
def fabricRows : List RegRow :=
  [row 0x800 4 48 3 0 .rws 0,
   row 0x800 4 48 5 4 .rws 2,
   row 0x800 4 48 6 6 .rws 0,
   row 0x800 4 48 8 7 .rws 1,
   row 0x800 4 48 11 9 .rws 0,
   row 0x800 4 48 23 16 .rws 0,
   row 0x800 4 48 25 24 .rws 0,
   row 0x40 4 8 1 0 .ro 0,
   row 0x40 4 8 2 2 .ro 0,
   row 0x40 4 8 15 8 .ro 0,
   row 0x40 4 8 31 16 .ro 0,
   row 0x60 4 1 1 0 .rw 0,
   row 0x60 4 1 10 4 .rw 0,
   row 0x60 4 1 31 31 .w1s 0,
   row 0x64 4 1 31 0 .rw 0,
   row 0x68 4 1 19 0 .rw 0,
   row 0x68 4 1 23 20 .rw 0,
   row 0x6c 4 1 22 0 .rw 0,
   row 0x70 4 1 0 0 .ro 0,
   row 0x70 4 1 2 1 .ro 0,
   row 0x70 4 1 7 4 .ro 0,
   row 0x74 4 1 31 0 .ro 0,
   row 0x400 4 256 31 0 .ro 0,
   row 0xc00 4 256 15 0 .ro 0]

/-- Rows of the security table. -/
def securityRows : List RegRow :=
  [row 0x40 4 1 3 0 .ro 0,
   row 0x40 4 1 4 4 .ro 0,
   row 0x40 4 1 7 5 .ro 0,
   row 0x40 4 1 9 8 .ro 0,
   row 0x40 4 1 10 10 .ro 0,
   row 0x40 4 1 18 12 .ro 0,
   row 0x40 4 1 25 19 .ro 0,
   row 0x44 4 1 31 0 .ro 0,
   row 0x48 4 1 2 0 .ro 0,
   row 0x4c 4 1 31 0 .ro 0,
   row 0x50 4 1 2 0 .ro 0,
   row 0x54 4 1 5 0 .rw 7,
   row 0x58 4 1 31 0 .ro 0,
   row 0x5c 4 1 2 0 .ro 0,
   row 0x60 4 1 0 0 .w1s 0,
   row 0x60 4 1 1 1 .ro 0,
   row 0x60 4 1 9 2 .ro 0,
   row 0x64 4 1 15 0 .ro 0,
   row 0x68 4 1 31 0 .rw 0,
   row 0x6c 4 1 19 0 .rw 0,
   row 0x6c 4 1 23 20 .rw 0,
   row 0x70 4 1 19 0 .rw 0,
   row 0x74 4 1 1 0 .rw 0,
   row 0x74 4 1 31 31 .w1s 0,
   row 0x78 4 1 0 0 .ro 0,
   row 0x78 4 1 8 1 .ro 0,
   row 0x80 4 8 31 0 .rw 0,
   row 0xa0 4 1 6 0 .rw 0,
   row 0x100 4 16 31 0 .ro 0]

/-- Rows of the lichen table. -/
def lichenRows : List RegRow :=
  [row 0x40 4 1 31 0 .ro 0,
   row 0x44 4 1 7 0 .ro 0,
   row 0x44 4 1 22 8 .ro 0,
   row 0x48 4 1 31 0 .rw 0,
   row 0x4c 4 1 7 0 .rw 0,
   row 0x4c 4 1 31 31 .w1s 0,
   row 0x50 4 1 15 0 .rw 0,
   row 0x54 4 1 0 0 .ro 0,
   row 0x54 4 1 1 1 .ro 0,
   row 0x54 4 1 2 2 .ro 0,
   row 0x54 4 1 31 16 .ro 0,
   row 0x58 4 1 31 0 .ro 0,
   row 0x5c 4 1 31 0 .ro 0,
   row 0x60 4 1 17 0 .rw 0,
   row 0x64 4 1 0 0 .ro 0,
   row 0x64 4 1 1 1 .rc 0,
   row 0x68 4 1 31 0 .ro 0,
   row 0x6c 4 1 31 0 .ro 0,
   row 0x70 4 1 7 0 .rw 0xa0,
   row 0x70 4 1 8 8 .rw 1,
   row 0x74 4 1 0 0 .ro 1,
   row 0x74 4 1 1 1 .ro 0,
   row 0x74 4 1 2 2 .ro 0,
   row 0x74 4 1 3 3 .ro 0,
   row 0x74 4 1 4 4 .ro 0,
   row 0x78 4 1 7 0 .rw 0,
   row 0x78 4 1 31 31 .w1s 0,
   row 0x7c 4 1 31 0 .rw 0,
   row 0x80 4 1 0 0 .ro 0,
   row 0x80 4 1 4 1 .ro 0,
   row 0x80 4 1 31 16 .ro 0,
   row 0x84 4 1 7 0 .ro 0,
   row 0x88 4 1 31 0 .ro 0,
   row 0x8c 4 3 31 0 .rw 0,
   row 0x100 4 64 31 0 .ro 0]

/-- Rows of the power table. -/
def powerRows : List RegRow :=
  [row 0x40 4 1 7 0 .rw 0,
   row 0x40 4 1 9 8 .rw 0,
   row 0x40 4 1 30 30 .ro 0,
   row 0x40 4 1 31 31 .w1s 0,
   row 0x44 4 1 1 0 .ro 0,
   row 0x48 4 7 31 0 .ro 0,
   row 0x64 4 1 31 0 .ro 0,
   row 0x68 4 1 15 0 .ro 0]

/-- Rows of the sched table. -/
def schedRows : List RegRow :=
  [row 0x40 4 1 0 0 .rws 0,
   row 0x40 4 1 22 16 .rws 0,
   row 0x44 4 1 31 12 .rws 0,
   row 0x48 4 1 19 0 .rws 0,
   row 0x4c 4 1 15 0 .rw 0x3e8,
   row 0x50 4 1 17 0 .ro 0,
   row 0x50 4 1 18 18 .ro 0,
   row 0x50 4 1 19 19 .ro 0,
   row 0x50 4 1 20 20 .ro 0,
   row 0x54 4 1 16 0 .ro 0x18000,
   row 0x58 4 1 11 0 .rw 0,
   row 0x58 4 1 14 12 .rw 0,
   row 0x58 4 1 17 16 .ro 0,
   row 0x58 4 1 30 30 .ro 0,
   row 0x58 4 1 31 31 .w1s 0,
   row 0x5c 4 1 31 0 .rw 0,
   row 0x60 4 1 15 0 .rw 0,
   row 0x64 4 1 2 0 .ro 0,
   row 0x64 4 1 3 3 .ro 0,
   row 0x64 4 1 4 4 .ro 0,
   row 0x64 4 1 16 8 .ro 0,
   row 0x68 8 3 31 0 .ro 0,
   row 0x6c 8 3 15 0 .ro 0,
   row 0x80 4 1 31 0 .rc 0,
   row 0x84 4 1 31 0 .rc 0,
   row 0x88 4 1 31 0 .rc 0,
   row 0x8c 4 1 31 0 .rc 0,
   row 0x90 4 1 31 0 .rc 0,
   row 0x94 4 1 7 0 .ro 0,
   row 0x94 4 1 19 8 .ro 0,
   row 0x98 4 1 31 0 .ro 0,
   row 0x9c 4 1 31 0 .ro 0,
   row 0xa0 4 1 0 0 .ro 0,
   row 0xa0 4 1 1 1 .ro 0]

/-- Rows of the rings table. -/
def ringsRows : List RegRow :=
  [row 0x100 0x10 64 0 0 .rws 0,
   row 0x100 0x10 64 8 4 .rws 4,
   row 0x104 0x10 64 31 12 .rws 0,
   row 0x108 0x10 64 19 0 .rws 0,
   row 0x10c 0x10 64 0 0 .ro 0,
   row 0x10c 0x10 64 1 1 .ro 0,
   row 0x10c 0x10 64 31 16 .ro 0]

/-- Rows of the evCtl table. -/
def evCtlRows : List RegRow :=
  [row 0x40 4 1 15 0 .w1s 0,
   row 0x44 4 1 31 0 .ro 0,
   row 0x48 4 1 31 0 .ro 0,
   row 0x4c 4 1 15 0 .w1s 0,
   row 0x50 4 1 7 0 .rws 0,
   row 0x50 4 1 8 8 .rws 0,
   row 0x50 4 1 31 16 .rws 0,
   row 0x400 4 256 9 0 .rws 0,
   row 0x400 4 256 31 31 .ro 0]

/-- Rows of the evCfg table. -/
def evCfgRows : List RegRow :=
  [row 0x100 8 256 9 0 .rws 0,
   row 0x100 8 256 17 10 .rws 0,
   row 0x100 8 256 18 18 .rws 0,
   row 0x100 8 256 19 19 .rws 0,
   row 0x100 8 256 20 20 .rws 0,
   row 0x100 8 256 21 21 .rws 0,
   row 0x100 8 256 25 22 .rws 0,
   row 0x100 8 256 26 26 .rws 0,
   row 0x104 8 256 7 0 .rws 0,
   row 0x104 8 256 15 8 .rws 0,
   row 0x104 8 256 29 29 .w1c 0,
   row 0x104 8 256 30 30 .ro 0,
   row 0x104 8 256 31 31 .w1c 0]

/-- Rows of the evLive table. -/
def evLiveRows : List RegRow :=
  [row 0x100 8 256 31 0 .rw 0,
   row 0x104 8 256 31 0 .rw 0]

/-- Rows of the evSnap table. -/
def evSnapRows : List RegRow :=
  [row 0x100 8 256 31 0 .ro 0,
   row 0x104 8 256 31 0 .ro 0]

/-- Rows of the latigo table. -/
def latigoRows : List RegRow :=
  [row 0x40 4 1 6 0 .rw 0xa,
   row 0x40 4 1 7 7 .rw 1,
   row 0x40 4 1 31 16 .rw 0x64,
   row 0x44 4 1 2 0 .ro 0,
   row 0x44 4 1 3 3 .ro 0,
   row 0x44 4 1 7 4 .ro 0,
   row 0x48 4 1 2 0 .ro 0,
   row 0x48 4 1 11 8 .ro 0,
   row 0x48 4 1 14 12 .ro 0,
   row 0x4c 4 1 0 0 .ro 0,
   row 0x50 4 1 31 0 .ro 0,
   row 0x100 0x80 2 2 0 .ro 0,
   row 0x100 0x80 2 4 3 .ro 0,
   row 0x100 0x80 2 5 5 .ro 0,
   row 0x100 0x80 2 6 6 .ro 0,
   row 0x104 0x80 2 31 0 .ro 0,
   row 0x108 0x80 2 31 0 .rc 0,
   row 0x10c 0x80 2 31 0 .rc 0,
   row 0x110 0x80 2 31 0 .ro 0]

/-- Rows of the config table. -/
def configRows : List RegRow :=
  [row 0 4 1 15 0 .ro 0x23,
   row 0 4 1 19 16 .ro 1,
   row 0 4 1 31 20 .ro 0,
   row 4 4 1 15 0 .ro 0x1fa9,
   row 4 4 1 19 16 .ro 1,
   row 4 4 1 31 20 .ro 0x40,
   row 8 4 1 15 0 .ro 1,
   row 0xc 4 1 3 0 .ro 0,
   row 0xc 4 1 6 4 .ro 0,
   row 0xc 4 1 7 7 .ro 0,
   row 0xc 4 1 11 8 .ro 0,
   row 0xc 4 1 12 12 .ro 0,
   row 0xc 4 1 19 16 .ro 0,
   row 0xc 4 1 22 20 .ro 0,
   row 0x10 4 1 31 6 .rw 0,
   row 0x14 4 1 19 0 .rw 0,
   row 0x18 4 1 29 0 .rw 0,
   row 0x1c 4 1 12 0 .rw 0xc8,
   row 0x1c 4 1 30 30 .w1s 0,
   row 0x1c 4 1 31 31 .w1s 0,
   row 0x20 4 1 2 0 .ro 0,
   row 0x20 4 1 11 8 .ro 0,
   row 0x20 4 1 14 12 .ro 0,
   row 0x24 4 1 12 0 .ro 0,
   row 0x28 4 1 1 0 .wo 0,
   row 0x28 4 1 15 8 .wo 0,
   row 0x28 4 1 31 31 .w1s 0,
   row 0x2c 4 1 0 0 .ro 0,
   row 0x2c 4 1 2 1 .ro 0,
   row 0x2c 4 1 3 3 .ro 0,
   row 0x30 4 4 31 0 .ro 0,
   row 0x1000 4 1 15 0 .ro 0x1fa9,
   row 0x1000 4 1 31 16 .ro 0x8128,
   row 0x1008 4 1 7 0 .ro 0,
   row 0x1008 4 1 31 8 .ro 0x118000,
   row 0x1010 4 1 2 1 .ro 2,
   row 0x1010 4 1 31 26 .rw 0,
   row 0x1014 4 1 31 0 .rw 0,
   row 0x1018 4 1 2 1 .ro 2,
   row 0x1018 4 1 3 3 .ro 1,
   row 0x1018 4 1 31 23 .rw 0,
   row 0x101c 4 1 31 0 .rw 0,
   row 0x1020 4 1 2 1 .ro 2,
   row 0x1020 4 1 31 17 .rw 0,
   row 0x1024 4 1 31 0 .rw 0,
   row 0x102c 4 1 15 0 .ro 0x1fa9,
   row 0x102c 4 1 31 16 .ro 0x8128,
   row 0x1050 4 1 7 0 .ro 0x11,
   row 0x1050 4 1 26 16 .ro 0x7ff,
   row 0x1050 4 1 30 30 .rw 0,
   row 0x1050 4 1 31 31 .rw 0,
   row 0x1054 4 1 2 0 .ro 4,
   row 0x1058 4 1 2 0 .ro 4,
   row 0x1058 4 1 31 3 .ro 0x1000,
   row 0x1100 4 1 15 0 .ro 1,
   row 0x1100 4 1 19 16 .ro 2,
   row 0x1104 4 1 31 0 .w1c 0,
   row 0x1108 4 1 31 0 .rw 0,
   row 0x110c 4 1 31 0 .rw 0x8062030,
   row 0x1110 4 1 31 0 .w1c 0,
   row 0x1114 4 1 31 0 .rw 0x2000,
   row 0x1120 4 1 15 0 .ro 3,
   row 0x1120 4 1 19 16 .ro 1,
   row 0x1124 4 2 31 0 .ro 0,
   row 0x1130 4 1 15 0 .ro 0x2e,
   row 0x1130 4 1 19 16 .ro 1,
   row 0x1138 4 1 0 0 .w1s 0,
   row 0x1138 4 1 31 31 .w1s 0,
   row 0x113c 4 1 2 2 .ro 0,
   row 0x113c 4 1 31 31 .ro 0,
   row 0x1140 4 1 31 0 .wo 0,
   row 0x1144 4 1 31 0 .w1s 0,
   row 0x1150 4 1 15 0 .ro 0x30,
   row 0x1150 4 1 19 16 .ro 1,
   row 0x1154 4 1 0 0 .ro 1,
   row 0x115c 4 2 0 0 .rw 0,
   row 0x115c 4 2 1 1 .rw 0,
   row 0x1164 4 2 3 0 .ro 0,
   row 0x1170 4 1 15 0 .ro 0x23,
   row 0x1170 4 1 19 16 .ro 1,
   row 0x1174 4 1 15 0 .ro 0x1e98,
   row 0x1174 4 1 19 16 .ro 1,
   row 0x1174 4 1 31 20 .ro 0x38,
   row 0x1178 4 1 15 0 .ro 0,
   row 0x1178 4 1 31 16 .ro 0x40df,
   row 0x117c 4 1 0 0 .rw 0,
   row 0x117c 4 1 1 1 .ro 1,
   row 0x117c 4 1 2 2 .rw 0,
   row 0x117c 4 1 14 14 .rw 0,
   row 0x1180 4 1 0 0 .rw 0,
   row 0x1180 4 1 1 1 .w1s 0,
   row 0x1180 4 1 2 2 .w1s 0,
   row 0x1188 4 1 31 0 .ro 2,
   row 0x118c 4 1 0 0 .ro 1,
   row 0x118c 4 1 1 1 .ro 0,
   row 0x118c 4 1 31 28 .ro 0,
   row 0x1190 4 1 31 0 .rw 0,
   row 0x1194 4 1 31 28 .rw 0,
   row 0x11a0 4 1 15 0 .ro 0x23,
   row 0x11a0 4 1 19 16 .ro 1,
   row 0x11a4 4 1 15 0 .ro 0x1e98,
   row 0x11a8 4 1 15 0 .ro 7,
   row 0x11a8 4 1 18 16 .ro 7,
   row 0x11b0 4 1 15 0 .ro 0x23,
   row 0x11b0 4 1 19 16 .ro 1,
   row 0x11b4 4 1 15 0 .ro 0x1e98,
   row 0x11b8 4 1 15 0 .ro 8,
   row 0x11bc 4 1 2 0 .ro 4,
   row 0x11bc 4 1 15 8 .ro 1,
   row 0x11bc 4 1 31 16 .ro 1,
   row 0x2000 4 1 0 0 .rw 0,
   row 0x2000 4 1 13 8 .rw 0,
   row 0x20000 0x10 2048 31 2 .rw 0,
   row 0x20004 0x10 2048 31 0 .rw 0,
   row 0x20008 0x10 2048 31 0 .rw 0,
   row 0x2000c 0x10 2048 0 0 .rw 1,
   row 0x28000 4 64 31 0 .ro 0,
   row 0x30000 4 1 7 7 .w1c 0]

/-- The rows of `fabricRows` whose reset value is not zero. -/
def fabricResets : List RegRow :=
  [row 0x800 4 48 5 4 .rws 2,
   row 0x800 4 48 8 7 .rws 1]

/-- The rows of `pinsRows` whose reset value is not zero. -/
def pinsResets : List RegRow :=
  [row 0x54 4 1 15 0 .rws 0x3e8,
   row 0x110 0x40 8 9 0 .rw 0x1ff,
   row 0x110 0x40 8 25 16 .rw 0x201,
   row 0x300 4 8 2 0 .rws 3,
   row 0x324 4 1 11 10 .ro 1,
   row 0x324 4 1 13 12 .ro 2,
   row 0x330 4 2 6 4 .rws 1,
   row 0x330 4 2 10 8 .rws 3,
   row 0x358 4 1 15 0 .rw 0x640,
   row 0x35c 4 1 15 0 .rc 0x8000]

/-- The rows of `inputRows` whose reset value is not zero. -/
def inputResets : List RegRow :=
  [row 0x40 4 1 8 4 .rws 1,
   row 0x50 4 1 15 8 .rws 3,
   row 0x50 4 1 31 16 .rws 0x10,
   row 0x54 4 1 19 0 .rws 0x40,
   row 0x58 4 1 2 0 .ro 1,
   row 0x100 8 16 3 0 .rws 0xa,
   row 0x100 8 16 19 4 .rws 0x64,
   row 0x280 0x10 8 18 8 .rws 1,
   row 0x280 0x10 8 21 19 .rws 1]

/-- The rows of `outputRows` whose reset value is not zero. -/
def outputResets : List RegRow :=
  [row 0x100 0x40 8 15 0 .rw 0x8000,
   row 0x104 0x40 8 15 0 .ro 0x8000,
   row 0x108 0x40 8 11 6 .rws 0x3f,
   row 0x10c 0x40 8 15 0 .rws 1,
   row 0x118 0x40 8 15 0 .ro 0x8000]

/-- The rows of `calibRows` whose reset value is not zero. -/
def calibResets : List RegRow :=
  [row 0x40 4 1 13 0 .rws 0x64,
   row 0x60 4 1 7 4 .rws 4,
   row 0x60 4 1 23 8 .rws 0x3c,
   row 0x68 4 1 19 0 .rws 0x70000,
   row 0x6c 4 1 15 0 .rws 0x40,
   row 0x6c 4 1 31 16 .rws 0x1000,
   row 0x204 8 10 23 0 .ro 0x400000]

/-- The rows of `engineRows` whose reset value is not zero. -/
def engineResets : List RegRow :=
  [row 0x44 4 1 2 2 .ro 1,
   row 0x44 4 1 3 3 .ro 1]

/-- The rows of `memRows` whose reset value is not zero. -/
def memResets : List RegRow :=
  [row 0x44 4 1 7 6 .ro 1]

/-- The rows of `clusterRows` whose reset value is not zero. -/
def clusterResets : List RegRow :=
  [row 0x4c 4 1 15 0 .rw 0xa]

/-- The rows of `dmaRows` whose reset value is not zero. -/
def dmaResets : List RegRow :=
  [row 0x40 4 1 15 0 .rw 0x3e8]

/-- The rows of `schedRows` whose reset value is not zero. -/
def schedResets : List RegRow :=
  [row 0x4c 4 1 15 0 .rw 0x3e8,
   row 0x54 4 1 16 0 .ro 0x18000]

/-- The rows of `ringsRows` whose reset value is not zero. -/
def ringsResets : List RegRow :=
  [row 0x100 0x10 64 8 4 .rws 4]

/-- The rows of `latigoRows` whose reset value is not zero. -/
def latigoResets : List RegRow :=
  [row 0x40 4 1 6 0 .rw 0xa,
   row 0x40 4 1 7 7 .rw 1,
   row 0x40 4 1 31 16 .rw 0x64]

/-- The rows of `configRows` whose reset value is not zero. -/
def configResets : List RegRow :=
  [row 0 4 1 15 0 .ro 0x23,
   row 0 4 1 19 16 .ro 1,
   row 4 4 1 15 0 .ro 0x1fa9,
   row 4 4 1 19 16 .ro 1,
   row 4 4 1 31 20 .ro 0x40,
   row 8 4 1 15 0 .ro 1,
   row 0x1c 4 1 12 0 .rw 0xc8,
   row 0x1000 4 1 15 0 .ro 0x1fa9,
   row 0x1000 4 1 31 16 .ro 0x8128,
   row 0x1008 4 1 31 8 .ro 0x118000,
   row 0x1010 4 1 2 1 .ro 2,
   row 0x1018 4 1 2 1 .ro 2,
   row 0x1018 4 1 3 3 .ro 1,
   row 0x1020 4 1 2 1 .ro 2,
   row 0x102c 4 1 15 0 .ro 0x1fa9,
   row 0x102c 4 1 31 16 .ro 0x8128,
   row 0x1050 4 1 7 0 .ro 0x11,
   row 0x1050 4 1 26 16 .ro 0x7ff,
   row 0x1054 4 1 2 0 .ro 4,
   row 0x1058 4 1 2 0 .ro 4,
   row 0x1058 4 1 31 3 .ro 0x1000,
   row 0x1100 4 1 15 0 .ro 1,
   row 0x1100 4 1 19 16 .ro 2,
   row 0x110c 4 1 31 0 .rw 0x8062030,
   row 0x1114 4 1 31 0 .rw 0x2000,
   row 0x1120 4 1 15 0 .ro 3,
   row 0x1120 4 1 19 16 .ro 1,
   row 0x1130 4 1 15 0 .ro 0x2e,
   row 0x1130 4 1 19 16 .ro 1,
   row 0x1150 4 1 15 0 .ro 0x30,
   row 0x1150 4 1 19 16 .ro 1,
   row 0x1154 4 1 0 0 .ro 1,
   row 0x1170 4 1 15 0 .ro 0x23,
   row 0x1170 4 1 19 16 .ro 1,
   row 0x1174 4 1 15 0 .ro 0x1e98,
   row 0x1174 4 1 19 16 .ro 1,
   row 0x1174 4 1 31 20 .ro 0x38,
   row 0x1178 4 1 31 16 .ro 0x40df,
   row 0x117c 4 1 1 1 .ro 1,
   row 0x1188 4 1 31 0 .ro 2,
   row 0x118c 4 1 0 0 .ro 1,
   row 0x11a0 4 1 15 0 .ro 0x23,
   row 0x11a0 4 1 19 16 .ro 1,
   row 0x11a4 4 1 15 0 .ro 0x1e98,
   row 0x11a8 4 1 15 0 .ro 7,
   row 0x11a8 4 1 18 16 .ro 7,
   row 0x11b0 4 1 15 0 .ro 0x23,
   row 0x11b0 4 1 19 16 .ro 1,
   row 0x11b4 4 1 15 0 .ro 0x1e98,
   row 0x11b8 4 1 15 0 .ro 8,
   row 0x11bc 4 1 2 0 .ro 4,
   row 0x11bc 4 1 15 8 .ro 1,
   row 0x11bc 4 1 31 16 .ro 1,
   row 0x2000c 0x10 2048 0 0 .rw 1]

/-- The rows of `securityRows` whose reset value is not zero. -/
def securityResets : List RegRow :=
  [row 0x54 4 1 5 0 .rw 7]

/-- The rows of `lichenRows` whose reset value is not zero. -/
def lichenResets : List RegRow :=
  [row 0x70 4 1 7 0 .rw 0xa0,
   row 0x70 4 1 8 8 .rw 1,
   row 0x74 4 1 0 0 .ro 1]

/-- The rows of `powerRows` whose reset value is not zero. -/
def powerResets : List RegRow :=
  []

/-- The rows of `faultRows` whose reset value is not zero. -/
def faultResets : List RegRow :=
  [row 0x48 4 1 1 1 .rw 1]

/-- The rows of `irqRows` whose reset value is not zero. -/
def irqResets : List RegRow :=
  []

/-- The rows of `evCtlRows` whose reset value is not zero. -/
def evCtlResets : List RegRow :=
  []

/-- The rows of `evCfgRows` whose reset value is not zero. -/
def evCfgResets : List RegRow :=
  []

/-- The rows of `evLiveRows` whose reset value is not zero. -/
def evLiveResets : List RegRow :=
  []

/-- The rows of `evSnapRows` whose reset value is not zero. -/
def evSnapResets : List RegRow :=
  []

/-- The rows of `headerRows` whose reset value is not zero. -/
def headerResets : List RegRow :=
  [row 0 4 1 23 16 .ro 1,
   row 4 4 1 15 8 .ro 5,
   row 0x1c 4 1 7 0 .rw 1,
   row 0x24 4 1 31 0 .rw 0xffffffff,
   row 0x2c 4 1 3 0 .rw 0xf]

/-- The rows of `identRows` whose reset value is not zero. -/
def identResets : List RegRow :=
  [row 0x40 4 1 15 0 .ro 0x8128,
   row 0x40 4 1 31 16 .ro 0xf0d,
   row 0x48 4 1 7 0 .ro 0x20,
   row 0x48 4 1 15 8 .ro 0x80,
   row 0x48 4 1 23 16 .ro 8,
   row 0x48 4 1 31 24 .ro 0x10,
   row 0x4c 4 1 15 0 .ro 0x10,
   row 0x4c 4 1 31 16 .ro 0x3000]

/-- The table of a page beyond the header (R453 and the other register rules). -/
def pageRows : Page → List RegRow
  | .ident => identRows
  | .fault => faultRows
  | .irq => irqRows
  | .mem => memRows
  | .pins _ => pinsRows
  | .input _ => inputRows
  | .output _ => outputRows
  | .calib _ => calibRows
  | .engine _ => engineRows
  | .cluster _ => clusterRows
  | .dma _ => dmaRows
  | .fabric => fabricRows
  | .security => securityRows
  | .lichen => lichenRows
  | .power => powerRows
  | .sched => schedRows
  | .rings => ringsRows
  | .evCtl => evCtlRows
  | .evCfg => evCfgRows
  | .evLive => evLiveRows
  | .evSnap => evSnapRows
  | .latigo => latigoRows

/-- The rows of a page beyond the header that do not reset to zero. -/
def pageResets : Page → List RegRow
  | .ident => identResets
  | .fault => faultResets
  | .irq => irqResets
  | .mem => memResets
  | .pins _ => pinsResets
  | .input _ => inputResets
  | .output _ => outputResets
  | .calib _ => calibResets
  | .engine _ => engineResets
  | .cluster _ => clusterResets
  | .dma _ => dmaResets
  | .fabric => fabricResets
  | .security => securityResets
  | .lichen => lichenResets
  | .power => powerResets
  | .sched => schedResets
  | .rings => ringsResets
  | .evCtl => evCtlResets
  | .evCfg => evCfgResets
  | .evLive => evLiveResets
  | .evSnap => evSnapResets
  | .latigo => latigoResets

/-- A page's table has RWS fields (R460, PAGE_CAP.STAGED). -/
def pageStaged (p : Page) : Bool := (pageRows p).any fun r => r.acc == .rws

/-- PAGE_CAP.PIN_OWNERS: tile pin and output pages (R460). -/
def pagePinOwners : Page → Bool
  | .pins _ => true | .output _ => true | _ => false

/-- PAGE_CAP.EVENTS: the page's TYPE has event codes in R448. -/
def pageEvents : Page → Bool
  | .ident => false | .irq => false | .security => false | .power => false
  | .evCtl => false | .evCfg => false | .evLive => false | .evSnap => false
  | _ => true

/-- PAGE_CAP.SWITCHED: pages of tiles, engines and the fabric's regions lie in switched domains (R403). -/
def pageSwitched : Page → Bool
  | .pins _ => true | .input _ => true | .output _ => true | .calib _ => true
  | .engine _ => true | .cluster _ => true | .dma _ => true
  | _ => false

/-- Whether a row covers the word at offset `o` of its page. -/
def RegRow.covers (r : RegRow) (o : Nat) : Bool :=
  r.off ≤ o && (o - r.off) % r.stride == 0 && (o - r.off) / r.stride < r.cnt

/-- The bits `hi` down to `lo` of a word as a mask. -/
def bitMask (hi lo : Nat) : Nat := (2 ^ (hi + 1 - lo) - 1) * 2 ^ lo

/-- The rows that cover the word at window offset `a`, header first (R460). -/
def rowsAt (a : Nat) : List RegRow :=
  if cfgBase ≤ a then configRows.filter fun r => r.covers (a - cfgBase)
  else match pageOf a with
    | none => []
    | some p =>
      let o := a % 0x1000
      (if o < 0x40 then headerRows else pageRows p).filter fun r => r.covers o

/-- The bits of the word at `a` that have access code `k` (R8). -/
def accMask (a : Nat) (k : Acc) : Nat :=
  (rowsAt a).foldl (fun m r => if r.acc = k then m ||| bitMask r.hi r.lo else m) 0

/-- Fields at their reset values, added up. -/
def resetOf (rows : List RegRow) (o : Nat) : Nat :=
  rows.foldl (fun m r => if r.covers o then m + r.rst * 2 ^ r.lo else m) 0

/-- The header's words at reset (R460): PAGE_ID and PAGE_CAP are the page's own. -/
def headerReset (p : Page) (o : Nat) : Nat :=
  if o = 0 then pageType p + pageInstance p * 2 ^ 8 + 2 ^ 16
  else if o = 4 then
    (pageStaged p).toNat + 2 * (pagePinOwners p).toNat + 4 * (pageEvents p).toNat + 8 * (pageSwitched p).toNat + 5 * 2 ^ 8
  else resetOf headerResets o

/-- The word at window offset `a` after a cold reset. IRQ_ROUTEi.VECTOR resets to i (R454); a field for which the spec
gives no reset value resets to zero (assumption log 2, DESIGN CHOICE). -/
def resetWord (a : Nat) : Word :=
  if cfgBase ≤ a then BitVec.ofNat 32 (resetOf configResets (a - cfgBase))
  else match pageOf a with
    | none => 0
    | some p =>
      let o := a % 0x1000
      if o < 0x40 then BitVec.ofNat 32 (headerReset p o)
      else if p = .irq ∧ 0x400 ≤ o ∧ o < 0x900 then BitVec.ofNat 32 ((o - 0x400) / 4)
      else BitVec.ofNat 32 (resetOf (pageResets p) o)

/-! One name for each register field; `R.X_Y` is field Y of register X. -/

/-- GIO_CFG_FUNC (R33). -/
def R.GIO_CFG_FUNC (g : Nat) : Field := ⟨fabPage + 0x800 + 4 * g, 3, 0⟩
/-- GIO_CFG_DRIVE (R33). -/
def R.GIO_CFG_DRIVE (g : Nat) : Field := ⟨fabPage + 0x800 + 4 * g, 5, 4⟩
/-- GIO_CFG_SLEW (R33). -/
def R.GIO_CFG_SLEW (g : Nat) : Field := ⟨fabPage + 0x800 + 4 * g, 6, 6⟩
/-- GIO_CFG_PULL (R33). -/
def R.GIO_CFG_PULL (g : Nat) : Field := ⟨fabPage + 0x800 + 4 * g, 8, 7⟩
/-- GIO_CFG_REGION (R33). -/
def R.GIO_CFG_REGION (g : Nat) : Field := ⟨fabPage + 0x800 + 4 * g, 11, 9⟩
/-- GIO_CFG_SEL (R33). -/
def R.GIO_CFG_SEL (g : Nat) : Field := ⟨fabPage + 0x800 + 4 * g, 23, 16⟩
/-- GIO_CFG_QIN (R33). -/
def R.GIO_CFG_QIN (g : Nat) : Field := ⟨fabPage + 0x800 + 4 * g, 25, 24⟩
/-- PINS_IN (R53). -/
def R.PINS_IN (t : Nat) : Field := ⟨pinPage t + 0x40, 7, 0⟩
/-- PINS_IN_DETACHED (R53). -/
def R.PINS_IN_DETACHED (t : Nat) : Field := ⟨pinPage t + 0x40, 15, 8⟩
/-- PINS_OUT (R53). -/
def R.PINS_OUT (t : Nat) : Field := ⟨pinPage t + 0x44, 7, 0⟩
/-- PINS_OUT_SET (R53). -/
def R.PINS_OUT_SET (t : Nat) : Field := ⟨pinPage t + 0x48, 7, 0⟩
/-- PINS_OUT_CLR (R53). -/
def R.PINS_OUT_CLR (t : Nat) : Field := ⟨pinPage t + 0x4C, 7, 0⟩
/-- PINS_OE (R53). -/
def R.PINS_OE (t : Nat) : Field := ⟨pinPage t + 0x50, 7, 0⟩
/-- PILOT_CFG_PER (R53). -/
def R.PILOT_CFG_PER (t : Nat) : Field := ⟨pinPage t + 0x54, 15, 0⟩
/-- PINS_SUMMARY_WIRE (R53). -/
def R.PINS_SUMMARY_WIRE (t : Nat) : Field := ⟨pinPage t + 0x58, 7, 0⟩
/-- PINS_SUMMARY_SWITCHING (R53). -/
def R.PINS_SUMMARY_SWITCHING (t : Nat) : Field := ⟨pinPage t + 0x58, 15, 8⟩
/-- PINS_SUMMARY_CFG_ERR (R53). -/
def R.PINS_SUMMARY_CFG_ERR (t : Nat) : Field := ⟨pinPage t + 0x58, 23, 16⟩
/-- PIN_CFG_FUNC (R54). -/
def R.PIN_CFG_FUNC (t n : Nat) : Field := ⟨pinPage t + 0x100 + 0x40 * n, 3, 0⟩
/-- PIN_CFG_RANGE (R54). -/
def R.PIN_CFG_RANGE (t n : Nat) : Field := ⟨pinPage t + 0x100 + 0x40 * n, 6, 4⟩
/-- PIN_CFG_LANE (R54). -/
def R.PIN_CFG_LANE (t n : Nat) : Field := ⟨pinPage t + 0x100 + 0x40 * n, 11, 8⟩
/-- PIN_CFG_DIN_TYPE (R54). -/
def R.PIN_CFG_DIN_TYPE (t n : Nat) : Field := ⟨pinPage t + 0x100 + 0x40 * n, 13, 12⟩
/-- PIN_CFG_DIO_MODE (R54). -/
def R.PIN_CFG_DIO_MODE (t n : Nat) : Field := ⟨pinPage t + 0x100 + 0x40 * n, 15, 14⟩
/-- PIN_CFG_TERM (R54). -/
def R.PIN_CFG_TERM (t n : Nat) : Field := ⟨pinPage t + 0x100 + 0x40 * n, 16, 16⟩
/-- PIN_CFG_FS_BIAS (R54). -/
def R.PIN_CFG_FS_BIAS (t n : Nat) : Field := ⟨pinPage t + 0x100 + 0x40 * n, 17, 17⟩
/-- PIN_CFG_PILOT_LVL (R54). -/
def R.PIN_CFG_PILOT_LVL (t n : Nat) : Field := ⟨pinPage t + 0x100 + 0x40 * n, 19, 18⟩
/-- PIN_CFG_BRG_EXC (R54). -/
def R.PIN_CFG_BRG_EXC (t n : Nat) : Field := ⟨pinPage t + 0x100 + 0x40 * n, 21, 20⟩
/-- PIN_CFG_PAIR_REF (R54). -/
def R.PIN_CFG_PAIR_REF (t n : Nat) : Field := ⟨pinPage t + 0x100 + 0x40 * n, 23, 22⟩
/-- PIN_CFG_DIN_FILT (R54). -/
def R.PIN_CFG_DIN_FILT (t n : Nat) : Field := ⟨pinPage t + 0x100 + 0x40 * n, 27, 24⟩
/-- PIN_OWNER (R55). -/
def R.PIN_OWNER (t n : Nat) : Field := ⟨pinPage t + 0x104 + 0x40 * n, 7, 0⟩
/-- PIN_STAT_FUNC_ACT (R55). -/
def R.PIN_STAT_FUNC_ACT (t n : Nat) : Field := ⟨pinPage t + 0x108 + 0x40 * n, 3, 0⟩
/-- PIN_STAT_SWITCHING (R55). -/
def R.PIN_STAT_SWITCHING (t n : Nat) : Field := ⟨pinPage t + 0x108 + 0x40 * n, 4, 4⟩
/-- PIN_STAT_DETACHED (R55). -/
def R.PIN_STAT_DETACHED (t n : Nat) : Field := ⟨pinPage t + 0x108 + 0x40 * n, 5, 5⟩
/-- PIN_STAT_CFG_ERR (R55). -/
def R.PIN_STAT_CFG_ERR (t n : Nat) : Field := ⟨pinPage t + 0x108 + 0x40 * n, 6, 6⟩
/-- PIN_STAT_WIRE (R55). -/
def R.PIN_STAT_WIRE (t n : Nat) : Field := ⟨pinPage t + 0x108 + 0x40 * n, 7, 7⟩
/-- PIN_STAT_OPEN (R55). -/
def R.PIN_STAT_OPEN (t n : Nat) : Field := ⟨pinPage t + 0x108 + 0x40 * n, 8, 8⟩
/-- PIN_STAT_SHORT (R55). -/
def R.PIN_STAT_SHORT (t n : Nat) : Field := ⟨pinPage t + 0x108 + 0x40 * n, 9, 9⟩
/-- PIN_STAT_SHORT_HI (R55). -/
def R.PIN_STAT_SHORT_HI (t n : Nat) : Field := ⟨pinPage t + 0x108 + 0x40 * n, 10, 10⟩
/-- PIN_STAT_REVERSED (R55). -/
def R.PIN_STAT_REVERSED (t n : Nat) : Field := ⟨pinPage t + 0x108 + 0x40 * n, 11, 11⟩
/-- PIN_STAT_ILIM (R55). -/
def R.PIN_STAT_ILIM (t n : Nat) : Field := ⟨pinPage t + 0x108 + 0x40 * n, 12, 12⟩
/-- PIN_STAT_TRIP (R55). -/
def R.PIN_STAT_TRIP (t n : Nat) : Field := ⟨pinPage t + 0x108 + 0x40 * n, 13, 13⟩
/-- PIN_STAT_EST_VALID (R55). -/
def R.PIN_STAT_EST_VALID (t n : Nat) : Field := ⟨pinPage t + 0x108 + 0x40 * n, 14, 14⟩
/-- PIN_FLT_OPEN (R55). -/
def R.PIN_FLT_OPEN (t n : Nat) : Field := ⟨pinPage t + 0x10C + 0x40 * n, 0, 0⟩
/-- PIN_FLT_SHORT (R55). -/
def R.PIN_FLT_SHORT (t n : Nat) : Field := ⟨pinPage t + 0x10C + 0x40 * n, 1, 1⟩
/-- PIN_FLT_SHORT_HI (R55). -/
def R.PIN_FLT_SHORT_HI (t n : Nat) : Field := ⟨pinPage t + 0x10C + 0x40 * n, 2, 2⟩
/-- PIN_FLT_REVERSED (R55). -/
def R.PIN_FLT_REVERSED (t n : Nat) : Field := ⟨pinPage t + 0x10C + 0x40 * n, 3, 3⟩
/-- PIN_FLT_TRIP (R55). -/
def R.PIN_FLT_TRIP (t n : Nat) : Field := ⟨pinPage t + 0x10C + 0x40 * n, 4, 4⟩
/-- PIN_FLT_OVERLOAD (R55). -/
def R.PIN_FLT_OVERLOAD (t n : Nat) : Field := ⟨pinPage t + 0x10C + 0x40 * n, 5, 5⟩
/-- PIN_FLT_NOT_OWNER (R55). -/
def R.PIN_FLT_NOT_OWNER (t n : Nat) : Field := ⟨pinPage t + 0x10C + 0x40 * n, 6, 6⟩
/-- PIN_THR_TH_LO (R55). -/
def R.PIN_THR_TH_LO (t n : Nat) : Field := ⟨pinPage t + 0x110 + 0x40 * n, 9, 0⟩
/-- PIN_THR_TH_HI (R55). -/
def R.PIN_THR_TH_HI (t n : Nat) : Field := ⟨pinPage t + 0x110 + 0x40 * n, 25, 16⟩
/-- PIN_DIAG_OPEN_TH (R55). -/
def R.PIN_DIAG_OPEN_TH (t n : Nat) : Field := ⟨pinPage t + 0x114 + 0x40 * n, 15, 0⟩
/-- PIN_DIAG_SHORT_TH (R55). -/
def R.PIN_DIAG_SHORT_TH (t n : Nat) : Field := ⟨pinPage t + 0x114 + 0x40 * n, 23, 16⟩
/-- PIN_DIAG_SHORT_T (R55). -/
def R.PIN_DIAG_SHORT_T (t n : Nat) : Field := ⟨pinPage t + 0x114 + 0x40 * n, 27, 24⟩
/-- PIN_OHMS_RES (R55). -/
def R.PIN_OHMS_RES (t n : Nat) : Field := ⟨pinPage t + 0x118 + 0x40 * n, 27, 0⟩
/-- PIN_CAP (R55). -/
def R.PIN_CAP (t n : Nat) : Field := ⟨pinPage t + 0x11C + 0x40 * n, 15, 0⟩
/-- PIN_CAP_ESTCNT (R55). -/
def R.PIN_CAP_ESTCNT (t n : Nat) : Field := ⟨pinPage t + 0x11C + 0x40 * n, 31, 16⟩
/-- PIN_EST_TIME_TIME_LO (R55). -/
def R.PIN_EST_TIME_TIME_LO (t n : Nat) : Field := ⟨pinPage t + 0x120 + 0x40 * n, 31, 0⟩
/-- PIN_EST_TIME_TIME_HI (R55). -/
def R.PIN_EST_TIME_TIME_HI (t n : Nat) : Field := ⟨pinPage t + 0x124 + 0x40 * n, 31, 0⟩
/-- PIN_ISRC (R55). -/
def R.PIN_ISRC (t n : Nat) : Field := ⟨pinPage t + 0x128 + 0x40 * n, 15, 0⟩
/-- PIN_OVLD_CNT_OVLD (R55). -/
def R.PIN_OVLD_CNT_OVLD (t n : Nat) : Field := ⟨pinPage t + 0x12C + 0x40 * n, 31, 0⟩
/-- TILE_AFE_FILT (R79). -/
def R.TILE_AFE_FILT (t n : Nat) : Field := ⟨pinPage t + 0x300 + 4 * n, 2, 0⟩
/-- TILE_AFE_SENSE (R79). -/
def R.TILE_AFE_SENSE (t n : Nat) : Field := ⟨pinPage t + 0x300 + 4 * n, 4, 4⟩
/-- TILE_AFE_SG_SEL (R79). -/
def R.TILE_AFE_SG_SEL (t n : Nat) : Field := ⟨pinPage t + 0x300 + 4 * n, 5, 5⟩
/-- TILE_AFE_STAT_SENSE_TRIP (R80). -/
def R.TILE_AFE_STAT_SENSE_TRIP (t : Nat) : Field := ⟨pinPage t + 0x320, 7, 0⟩
/-- TILE_AFE_STAT_FILT_LIM (R80). -/
def R.TILE_AFE_STAT_FILT_LIM (t : Nat) : Field := ⟨pinPage t + 0x320, 15, 8⟩
/-- TILE_AFE_STAT_SENSE_IGN (R80). -/
def R.TILE_AFE_STAT_SENSE_IGN (t : Nat) : Field := ⟨pinPage t + 0x320, 23, 16⟩
/-- TILE_DAC_ROUTE_D0_PIN (R80). -/
def R.TILE_DAC_ROUTE_D0_PIN (t : Nat) : Field := ⟨pinPage t + 0x324, 2, 0⟩
/-- TILE_DAC_ROUTE_D0_USED (R80). -/
def R.TILE_DAC_ROUTE_D0_USED (t : Nat) : Field := ⟨pinPage t + 0x324, 3, 3⟩
/-- TILE_DAC_ROUTE_D1_PIN (R80). -/
def R.TILE_DAC_ROUTE_D1_PIN (t : Nat) : Field := ⟨pinPage t + 0x324, 6, 4⟩
/-- TILE_DAC_ROUTE_D1_USED (R80). -/
def R.TILE_DAC_ROUTE_D1_USED (t : Nat) : Field := ⟨pinPage t + 0x324, 7, 7⟩
/-- TILE_DAC_ROUTE_D0_CORE (R80). -/
def R.TILE_DAC_ROUTE_D0_CORE (t : Nat) : Field := ⟨pinPage t + 0x324, 9, 8⟩
/-- TILE_DAC_ROUTE_D1_CORE (R80). -/
def R.TILE_DAC_ROUTE_D1_CORE (t : Nat) : Field := ⟨pinPage t + 0x324, 11, 10⟩
/-- TILE_DAC_ROUTE_SPARE_CORE (R80). -/
def R.TILE_DAC_ROUTE_SPARE_CORE (t : Nat) : Field := ⟨pinPage t + 0x324, 13, 12⟩
/-- TILE_LANE_TAP_LANE (R80). -/
def R.TILE_LANE_TAP_LANE (t k : Nat) : Field := ⟨pinPage t + 0x330 + 4 * k, 3, 0⟩
/-- TILE_LANE_TAP_RANGE (R80). -/
def R.TILE_LANE_TAP_RANGE (t k : Nat) : Field := ⟨pinPage t + 0x330 + 4 * k, 6, 4⟩
/-- TILE_LANE_TAP_EN (R80). -/
def R.TILE_LANE_TAP_EN (t k : Nat) : Field := ⟨pinPage t + 0x330 + 4 * k, 7, 7⟩
/-- TILE_LANE_TAP_FILT (R80). -/
def R.TILE_LANE_TAP_FILT (t k : Nat) : Field := ⟨pinPage t + 0x330 + 4 * k, 10, 8⟩
/-- TILE_LANE_DRV_PIN0 (R80). -/
def R.TILE_LANE_DRV_PIN0 (t : Nat) : Field := ⟨pinPage t + 0x338, 2, 0⟩
/-- TILE_LANE_DRV_EN0 (R80). -/
def R.TILE_LANE_DRV_EN0 (t : Nat) : Field := ⟨pinPage t + 0x338, 3, 3⟩
/-- TILE_LANE_DRV_LANE0 (R80). -/
def R.TILE_LANE_DRV_LANE0 (t : Nat) : Field := ⟨pinPage t + 0x338, 7, 4⟩
/-- TILE_LANE_DRV_PIN1 (R80). -/
def R.TILE_LANE_DRV_PIN1 (t : Nat) : Field := ⟨pinPage t + 0x338, 18, 16⟩
/-- TILE_LANE_DRV_EN1 (R80). -/
def R.TILE_LANE_DRV_EN1 (t : Nat) : Field := ⟨pinPage t + 0x338, 19, 19⟩
/-- TILE_LANE_DRV_LANE1 (R80). -/
def R.TILE_LANE_DRV_LANE1 (t : Nat) : Field := ⟨pinPage t + 0x338, 23, 20⟩
/-- TILE_LANE_SEG (R80). -/
def R.TILE_LANE_SEG (t : Nat) : Field := ⟨pinPage t + 0x33C, 15, 0⟩
/-- TILE_LANE_STAT_SEG_PENDING (R80). -/
def R.TILE_LANE_STAT_SEG_PENDING (t : Nat) : Field := ⟨pinPage t + 0x340, 0, 0⟩
/-- TILE_LANE_STAT_DRV0_CONFLICT (R80). -/
def R.TILE_LANE_STAT_DRV0_CONFLICT (t : Nat) : Field := ⟨pinPage t + 0x340, 1, 1⟩
/-- TILE_LANE_STAT_DRV1_CONFLICT (R80). -/
def R.TILE_LANE_STAT_DRV1_CONFLICT (t : Nat) : Field := ⟨pinPage t + 0x340, 2, 2⟩
/-- TILE_LANE_STAT_SEG_CONFLICT (R80). -/
def R.TILE_LANE_STAT_SEG_CONFLICT (t : Nat) : Field := ⟨pinPage t + 0x340, 3, 3⟩
/-- TILE_LANE_STAT_PIN_PROT (R80). -/
def R.TILE_LANE_STAT_PIN_PROT (t : Nat) : Field := ⟨pinPage t + 0x340, 15, 8⟩
/-- TILE_LANE_STAT_DRV_PROT (R80). -/
def R.TILE_LANE_STAT_DRV_PROT (t : Nat) : Field := ⟨pinPage t + 0x340, 17, 16⟩
/-- TILE_LANE_SEG_ACT (R80). -/
def R.TILE_LANE_SEG_ACT (t : Nat) : Field := ⟨pinPage t + 0x344, 15, 0⟩
/-- TILE_REF_STAT_DEV (R80). -/
def R.TILE_REF_STAT_DEV (t : Nat) : Field := ⟨pinPage t + 0x350, 15, 0⟩
/-- TILE_REF_STAT_REF_ERR (R80). -/
def R.TILE_REF_STAT_REF_ERR (t : Nat) : Field := ⟨pinPage t + 0x350, 16, 16⟩
/-- TILE_REF_STAT_ZERO_ERR (R80). -/
def R.TILE_REF_STAT_ZERO_ERR (t : Nat) : Field := ⟨pinPage t + 0x350, 17, 17⟩
/-- TILE_TEMP (R80). -/
def R.TILE_TEMP (t : Nat) : Field := ⟨pinPage t + 0x354, 15, 0⟩
/-- TILE_TEMP_VALID (R80). -/
def R.TILE_TEMP_VALID (t : Nat) : Field := ⟨pinPage t + 0x354, 16, 16⟩
/-- TILE_TEMP_WARN (R80). -/
def R.TILE_TEMP_WARN (t : Nat) : Field := ⟨pinPage t + 0x354, 17, 17⟩
/-- TILE_TEMP_SHUTDOWN (R80). -/
def R.TILE_TEMP_SHUTDOWN (t : Nat) : Field := ⟨pinPage t + 0x354, 18, 18⟩
/-- TILE_TEMP_WARN_WARN_TH (R80). -/
def R.TILE_TEMP_WARN_WARN_TH (t : Nat) : Field := ⟨pinPage t + 0x358, 15, 0⟩
/-- TILE_TEMP_MAX (R80). -/
def R.TILE_TEMP_MAX (t : Nat) : Field := ⟨pinPage t + 0x35C, 15, 0⟩
/-- TILE_ADC_CTRL_RUN (R118). -/
def R.TILE_ADC_CTRL_RUN (t : Nat) : Field := ⟨inPage t + 0x40, 0, 0⟩
/-- TILE_ADC_CTRL_MODE (R118). -/
def R.TILE_ADC_CTRL_MODE (t : Nat) : Field := ⟨inPage t + 0x40, 1, 1⟩
/-- TILE_ADC_CTRL_INTLV_EN (R118). -/
def R.TILE_ADC_CTRL_INTLV_EN (t : Nat) : Field := ⟨inPage t + 0x40, 2, 2⟩
/-- TILE_ADC_CTRL_SEQ_LEN (R118). -/
def R.TILE_ADC_CTRL_SEQ_LEN (t : Nat) : Field := ⟨inPage t + 0x40, 8, 4⟩
/-- TILE_ADC_CTRL_TRIG_SEL (R118). -/
def R.TILE_ADC_CTRL_TRIG_SEL (t : Nat) : Field := ⟨inPage t + 0x40, 23, 16⟩
/-- TILE_ADC_SEQ_PER (R118). -/
def R.TILE_ADC_SEQ_PER (t : Nat) : Field := ⟨inPage t + 0x44, 31, 0⟩
/-- TILE_ADC_PHASE (R118). -/
def R.TILE_ADC_PHASE (t : Nat) : Field := ⟨inPage t + 0x48, 31, 0⟩
/-- TILE_ADC_STAT_RUNNING (R118). -/
def R.TILE_ADC_STAT_RUNNING (t : Nat) : Field := ⟨inPage t + 0x4C, 0, 0⟩
/-- TILE_ADC_STAT_INTLV_ACT (R118). -/
def R.TILE_ADC_STAT_INTLV_ACT (t : Nat) : Field := ⟨inPage t + 0x4C, 1, 1⟩
/-- TILE_ADC_STAT_PER_ERR (R118). -/
def R.TILE_ADC_STAT_PER_ERR (t : Nat) : Field := ⟨inPage t + 0x4C, 2, 2⟩
/-- TILE_ADC_STAT_INTLV_ERR (R118). -/
def R.TILE_ADC_STAT_INTLV_ERR (t : Nat) : Field := ⟨inPage t + 0x4C, 3, 3⟩
/-- TILE_ADC_STAT_SLOT_ERR (R118). -/
def R.TILE_ADC_STAT_SLOT_ERR (t : Nat) : Field := ⟨inPage t + 0x4C, 4, 4⟩
/-- TILE_ADC_STAT_TRIG_OVR (R118). -/
def R.TILE_ADC_STAT_TRIG_OVR (t : Nat) : Field := ⟨inPage t + 0x4C, 5, 5⟩
/-- TILE_ADC_STAT_OVERRUN (R118). -/
def R.TILE_ADC_STAT_OVERRUN (t : Nat) : Field := ⟨inPage t + 0x4C, 6, 6⟩
/-- TILE_ADC_STAT_SRC_NOSIG (R118). -/
def R.TILE_ADC_STAT_SRC_NOSIG (t : Nat) : Field := ⟨inPage t + 0x4C, 23, 8⟩
/-- TILE_ADC_CHK_CFG_CHK_SLOT (R118). -/
def R.TILE_ADC_CHK_CFG_CHK_SLOT (t : Nat) : Field := ⟨inPage t + 0x50, 3, 0⟩
/-- TILE_ADC_CHK_CFG_CHK_EN (R118). -/
def R.TILE_ADC_CHK_CFG_CHK_EN (t : Nat) : Field := ⟨inPage t + 0x50, 4, 4⟩
/-- TILE_ADC_CHK_CFG_CHK_FAULT (R118). -/
def R.TILE_ADC_CHK_CFG_CHK_FAULT (t : Nat) : Field := ⟨inPage t + 0x50, 15, 8⟩
/-- TILE_ADC_CHK_CFG_CHK_RATE (R118). -/
def R.TILE_ADC_CHK_CFG_CHK_RATE (t : Nat) : Field := ⟨inPage t + 0x50, 31, 16⟩
/-- TILE_ADC_CHK_TOL (R118). -/
def R.TILE_ADC_CHK_TOL (t : Nat) : Field := ⟨inPage t + 0x54, 19, 0⟩
/-- TILE_ADC_CHK_STAT_SUSP (R118). -/
def R.TILE_ADC_CHK_STAT_SUSP (t : Nat) : Field := ⟨inPage t + 0x58, 2, 0⟩
/-- TILE_ADC_CHK_STAT_FAULT (R118). -/
def R.TILE_ADC_CHK_STAT_FAULT (t : Nat) : Field := ⟨inPage t + 0x58, 3, 3⟩
/-- TILE_ADC_CHK_STAT_MISCNT (R118). -/
def R.TILE_ADC_CHK_STAT_MISCNT (t : Nat) : Field := ⟨inPage t + 0x58, 15, 8⟩
/-- TILE_ADC_CHK_STAT_CHKCNT (R118). -/
def R.TILE_ADC_CHK_STAT_CHKCNT (t : Nat) : Field := ⟨inPage t + 0x58, 31, 16⟩
/-- TILE_ADC_CHK_LAST_A_WORD (R118). -/
def R.TILE_ADC_CHK_LAST_A_WORD (t : Nat) : Field := ⟨inPage t + 0x5C, 31, 0⟩
/-- TILE_ADC_CHK_LAST_B_WORD (R118). -/
def R.TILE_ADC_CHK_LAST_B_WORD (t : Nat) : Field := ⟨inPage t + 0x60, 31, 0⟩
/-- TILE_ADC_INTLV_STREAM (R118). -/
def R.TILE_ADC_INTLV_STREAM (t : Nat) : Field := ⟨inPage t + 0x64, 11, 0⟩
/-- TILE_ADC_INTLV_FRLEN (R118). -/
def R.TILE_ADC_INTLV_FRLEN (t : Nat) : Field := ⟨inPage t + 0x64, 21, 12⟩
/-- TILE_ADC_INTLV_STAT_SKEW (R118). -/
def R.TILE_ADC_INTLV_STAT_SKEW (t : Nat) : Field := ⟨inPage t + 0x68, 15, 0⟩
/-- TILE_ADC_INTLV_STAT_CONV (R118). -/
def R.TILE_ADC_INTLV_STAT_CONV (t : Nat) : Field := ⟨inPage t + 0x68, 16, 16⟩
/-- TILE_ADC_TRIG_START (R118). -/
def R.TILE_ADC_TRIG_START (t : Nat) : Field := ⟨inPage t + 0x6C, 0, 0⟩
/-- TILE_ADC_SLOT_SRC (R118). -/
def R.TILE_ADC_SLOT_SRC (t s : Nat) : Field := ⟨inPage t + 0x100 + 8 * s, 3, 0⟩
/-- TILE_ADC_SLOT_ACQ (R118). -/
def R.TILE_ADC_SLOT_ACQ (t s : Nat) : Field := ⟨inPage t + 0x100 + 8 * s, 19, 4⟩
/-- TILE_ADC_SLOT_RAW_EN (R118). -/
def R.TILE_ADC_SLOT_RAW_EN (t s : Nat) : Field := ⟨inPage t + 0x100 + 8 * s, 20, 20⟩
/-- TILE_ADC_OUT_STREAM (R118). -/
def R.TILE_ADC_OUT_STREAM (t s : Nat) : Field := ⟨inPage t + 0x104 + 8 * s, 11, 0⟩
/-- TILE_ADC_OUT_FRLEN (R118). -/
def R.TILE_ADC_OUT_FRLEN (t s : Nat) : Field := ⟨inPage t + 0x104 + 8 * s, 21, 12⟩
/-- TILE_ADC_SETTLECNT_COUNT (R118). -/
def R.TILE_ADC_SETTLECNT_COUNT (t s : Nat) : Field := ⟨inPage t + 0x200 + 4 * s, 15, 0⟩
/-- TILE_ADC_SETTLECNT_INTLV_COUNT (R118). -/
def R.TILE_ADC_SETTLECNT_INTLV_COUNT (t : Nat) : Field := ⟨inPage t + 0x240, 15, 0⟩
/-- TILE_DEC_CFG_SRC_SLOT (R118). -/
def R.TILE_DEC_CFG_SRC_SLOT (t d : Nat) : Field := ⟨inPage t + 0x280 + 0x10 * d, 4, 0⟩
/-- TILE_DEC_CFG_EN (R118). -/
def R.TILE_DEC_CFG_EN (t d : Nat) : Field := ⟨inPage t + 0x280 + 0x10 * d, 5, 5⟩
/-- TILE_DEC_CFG_CIC_RATE (R118). -/
def R.TILE_DEC_CFG_CIC_RATE (t d : Nat) : Field := ⟨inPage t + 0x280 + 0x10 * d, 18, 8⟩
/-- TILE_DEC_CFG_CIC_N (R118). -/
def R.TILE_DEC_CFG_CIC_N (t d : Nat) : Field := ⟨inPage t + 0x280 + 0x10 * d, 21, 19⟩
/-- TILE_DEC_CFG_HB (R118). -/
def R.TILE_DEC_CFG_HB (t d : Nat) : Field := ⟨inPage t + 0x280 + 0x10 * d, 23, 22⟩
/-- TILE_DEC_OUT_STREAM (R118). -/
def R.TILE_DEC_OUT_STREAM (t d : Nat) : Field := ⟨inPage t + 0x284 + 0x10 * d, 11, 0⟩
/-- TILE_DEC_OUT_FRLEN (R118). -/
def R.TILE_DEC_OUT_FRLEN (t d : Nat) : Field := ⟨inPage t + 0x284 + 0x10 * d, 21, 12⟩
/-- TILE_DEC_STAT_COUNT (R118). -/
def R.TILE_DEC_STAT_COUNT (t d : Nat) : Field := ⟨inPage t + 0x288 + 0x10 * d, 15, 0⟩
/-- HB_COEF (R118). -/
def R.HB_COEF (t i : Nat) : Field := ⟨inPage t + 0x300 + 4 * i, 23, 0⟩
/-- SG_CTRL_EN (R141). -/
def R.SG_CTRL_EN (t k : Nat) : Field := ⟨outPage t + 0x40 + 0x20 * k, 0, 0⟩
/-- SG_CTRL_RESYNC (R141). -/
def R.SG_CTRL_RESYNC (t k : Nat) : Field := ⟨outPage t + 0x40 + 0x20 * k, 1, 1⟩
/-- SG_FTW_LO (R141). -/
def R.SG_FTW_LO (t k : Nat) : Field := ⟨outPage t + 0x44 + 0x20 * k, 31, 0⟩
/-- SG_FTW_HI (R141). -/
def R.SG_FTW_HI (t k : Nat) : Field := ⟨outPage t + 0x48 + 0x20 * k, 15, 0⟩
/-- SG_AMP_PH_AMP (R141). -/
def R.SG_AMP_PH_AMP (t k : Nat) : Field := ⟨outPage t + 0x4C + 0x20 * k, 14, 0⟩
/-- SG_AMP_PH_PHOFF (R141). -/
def R.SG_AMP_PH_PHOFF (t k : Nat) : Field := ⟨outPage t + 0x4C + 0x20 * k, 31, 16⟩
/-- SG_T0_LO (R141). -/
def R.SG_T0_LO (t k : Nat) : Field := ⟨outPage t + 0x50 + 0x20 * k, 31, 0⟩
/-- SG_T0_HI (R141). -/
def R.SG_T0_HI (t k : Nat) : Field := ⟨outPage t + 0x54 + 0x20 * k, 31, 0⟩
/-- SG_STAT_RUN (R141). -/
def R.SG_STAT_RUN (t k : Nat) : Field := ⟨outPage t + 0x58 + 0x20 * k, 0, 0⟩
/-- SG_STAT_RESYNC_PEND (R141). -/
def R.SG_STAT_RESYNC_PEND (t k : Nat) : Field := ⟨outPage t + 0x58 + 0x20 * k, 1, 1⟩
/-- SG_STAT_LATE (R141). -/
def R.SG_STAT_LATE (t k : Nat) : Field := ⟨outPage t + 0x58 + 0x20 * k, 2, 2⟩
/-- OUT_CODE (R142). -/
def R.OUT_CODE (t n : Nat) : Field := ⟨outPage t + 0x100 + 0x40 * n, 15, 0⟩
/-- OUT_READ_CORE (R142). -/
def R.OUT_READ_CORE (t n : Nat) : Field := ⟨outPage t + 0x104 + 0x40 * n, 15, 0⟩
/-- OUT_CFG_ORANGE (R142). -/
def R.OUT_CFG_ORANGE (t n : Nat) : Field := ⟨outPage t + 0x108 + 0x40 * n, 2, 0⟩
/-- OUT_CFG_FAULT_DISC (R142). -/
def R.OUT_CFG_FAULT_DISC (t n : Nat) : Field := ⟨outPage t + 0x108 + 0x40 * n, 3, 3⟩
/-- OUT_CFG_FAULT_RAMP (R142). -/
def R.OUT_CFG_FAULT_RAMP (t n : Nat) : Field := ⟨outPage t + 0x108 + 0x40 * n, 4, 4⟩
/-- OUT_CFG_SLEW_EN (R142). -/
def R.OUT_CFG_SLEW_EN (t n : Nat) : Field := ⟨outPage t + 0x108 + 0x40 * n, 5, 5⟩
/-- OUT_CFG_DG_THRESH (R142). -/
def R.OUT_CFG_DG_THRESH (t n : Nat) : Field := ⟨outPage t + 0x108 + 0x40 * n, 11, 6⟩
/-- OUT_CFG_DG_HOLD (R142). -/
def R.OUT_CFG_DG_HOLD (t n : Nat) : Field := ⟨outPage t + 0x108 + 0x40 * n, 15, 12⟩
/-- OUT_SLEW_STEP (R142). -/
def R.OUT_SLEW_STEP (t n : Nat) : Field := ⟨outPage t + 0x10C + 0x40 * n, 15, 0⟩
/-- OUT_SLEW_INTV (R142). -/
def R.OUT_SLEW_INTV (t n : Nat) : Field := ⟨outPage t + 0x10C + 0x40 * n, 31, 16⟩
/-- OUT_WDOG_TIMEOUT (R142). -/
def R.OUT_WDOG_TIMEOUT (t n : Nat) : Field := ⟨outPage t + 0x110 + 0x40 * n, 15, 0⟩
/-- OUT_STAT_STALE (R142). -/
def R.OUT_STAT_STALE (t n : Nat) : Field := ⟨outPage t + 0x114 + 0x40 * n, 0, 0⟩
/-- OUT_STAT_RAMPING (R142). -/
def R.OUT_STAT_RAMPING (t n : Nat) : Field := ⟨outPage t + 0x114 + 0x40 * n, 1, 1⟩
/-- OUT_STAT_DG_HOLD (R142). -/
def R.OUT_STAT_DG_HOLD (t n : Nat) : Field := ⟨outPage t + 0x114 + 0x40 * n, 2, 2⟩
/-- OUT_STAT_RCHG (R142). -/
def R.OUT_STAT_RCHG (t n : Nat) : Field := ⟨outPage t + 0x114 + 0x40 * n, 3, 3⟩
/-- OUT_STAT_DISC (R142). -/
def R.OUT_STAT_DISC (t n : Nat) : Field := ⟨outPage t + 0x114 + 0x40 * n, 4, 4⟩
/-- OUT_STAT_DEFER (R142). -/
def R.OUT_STAT_DEFER (t n : Nat) : Field := ⟨outPage t + 0x114 + 0x40 * n, 5, 5⟩
/-- OUT_STAT_FAULT_HOLD (R142). -/
def R.OUT_STAT_FAULT_HOLD (t n : Nat) : Field := ⟨outPage t + 0x114 + 0x40 * n, 6, 6⟩
/-- OUT_STAT_WDOG (R142). -/
def R.OUT_STAT_WDOG (t n : Nat) : Field := ⟨outPage t + 0x114 + 0x40 * n, 7, 7⟩
/-- OUT_STAT_IGN (R142). -/
def R.OUT_STAT_IGN (t n : Nat) : Field := ⟨outPage t + 0x114 + 0x40 * n, 8, 8⟩
/-- OUT_STAT_RANGE_ERR (R142). -/
def R.OUT_STAT_RANGE_ERR (t n : Nat) : Field := ⟨outPage t + 0x114 + 0x40 * n, 9, 9⟩
/-- OUT_STAT_ORANGE_ACT (R142). -/
def R.OUT_STAT_ORANGE_ACT (t n : Nat) : Field := ⟨outPage t + 0x114 + 0x40 * n, 12, 10⟩
/-- OUT_TARGET (R142). -/
def R.OUT_TARGET (t n : Nat) : Field := ⟨outPage t + 0x118 + 0x40 * n, 15, 0⟩
/-- OUT_WRCNT_COUNT (R142). -/
def R.OUT_WRCNT_COUNT (t n : Nat) : Field := ⟨outPage t + 0x11C + 0x40 * n, 31, 0⟩
/-- CAL_CTRL_RAMP (R169). -/
def R.CAL_CTRL_RAMP (t : Nat) : Field := ⟨calPage t + 0x40, 13, 0⟩
/-- CAL_REQ_SCOPE (R169). -/
def R.CAL_REQ_SCOPE (t : Nat) : Field := ⟨calPage t + 0x44, 2, 0⟩
/-- CAL_REQ_CH (R169). -/
def R.CAL_REQ_CH (t : Nat) : Field := ⟨calPage t + 0x44, 6, 3⟩
/-- CAL_REQ_GO (R169). -/
def R.CAL_REQ_GO (t : Nat) : Field := ⟨calPage t + 0x44, 31, 31⟩
/-- CAL_STAT_BUSY (R169). -/
def R.CAL_STAT_BUSY (t : Nat) : Field := ⟨calPage t + 0x48, 0, 0⟩
/-- CAL_STAT_SCOPE_ACT (R169). -/
def R.CAL_STAT_SCOPE_ACT (t : Nat) : Field := ⟨calPage t + 0x48, 3, 1⟩
/-- CAL_STAT_SELF_RESULT (R169). -/
def R.CAL_STAT_SELF_RESULT (t : Nat) : Field := ⟨calPage t + 0x48, 6, 4⟩
/-- CAL_STAT_CORE_BAD (R169). -/
def R.CAL_STAT_CORE_BAD (t : Nat) : Field := ⟨calPage t + 0x48, 9, 7⟩
/-- CAL_STAT_CALVIS (R169). -/
def R.CAL_STAT_CALVIS (t : Nat) : Field := ⟨calPage t + 0x48, 10, 10⟩
/-- CAL_STAT_RAMPING (R169). -/
def R.CAL_STAT_RAMPING (t : Nat) : Field := ⟨calPage t + 0x48, 25, 16⟩
/-- CAL_ROT_PER (R169). -/
def R.CAL_ROT_PER (t : Nat) : Field := ⟨calPage t + 0x4C, 15, 0⟩
/-- CAL_ROT_EXC_EN (R169). -/
def R.CAL_ROT_EXC_EN (t : Nat) : Field := ⟨calPage t + 0x4C, 16, 16⟩
/-- CAL_ROT_NOW (R169). -/
def R.CAL_ROT_NOW (t : Nat) : Field := ⟨calPage t + 0x4C, 31, 31⟩
/-- CAL_ROT_STAT_PHASE (R169). -/
def R.CAL_ROT_STAT_PHASE (t : Nat) : Field := ⟨calPage t + 0x50, 1, 0⟩
/-- CAL_ROT_STAT_LCORE (R169). -/
def R.CAL_ROT_STAT_LCORE (t : Nat) : Field := ⟨calPage t + 0x50, 2, 2⟩
/-- CAL_ROT_STAT_SPARE_BAD (R169). -/
def R.CAL_ROT_STAT_SPARE_BAD (t : Nat) : Field := ⟨calPage t + 0x50, 3, 3⟩
/-- CAL_ROT_STAT_COUNT (R169). -/
def R.CAL_ROT_STAT_COUNT (t : Nat) : Field := ⟨calPage t + 0x50, 31, 16⟩
/-- CAL_TILE_CNT_COUNT (R169). -/
def R.CAL_TILE_CNT_COUNT (t : Nat) : Field := ⟨calPage t + 0x54, 31, 0⟩
/-- CAL_TILE_TIME_LO_SEC_LO (R169). -/
def R.CAL_TILE_TIME_LO_SEC_LO (t : Nat) : Field := ⟨calPage t + 0x58, 31, 0⟩
/-- CAL_TILE_TIME_HI_SEC_HI (R169). -/
def R.CAL_TILE_TIME_HI_SEC_HI (t : Nat) : Field := ⟨calPage t + 0x5C, 7, 0⟩
/-- CAL_TILE_TIME_HI_SUBSEC (R169). -/
def R.CAL_TILE_TIME_HI_SUBSEC (t : Nat) : Field := ⟨calPage t + 0x5C, 22, 8⟩
/-- CAL_SYS_CFG_CH (R169). -/
def R.CAL_SYS_CFG_CH (t : Nat) : Field := ⟨calPage t + 0x60, 3, 0⟩
/-- CAL_SYS_CFG_AVG (R169). -/
def R.CAL_SYS_CFG_AVG (t : Nat) : Field := ⟨calPage t + 0x60, 7, 4⟩
/-- CAL_SYS_CFG_TMO (R169). -/
def R.CAL_SYS_CFG_TMO (t : Nat) : Field := ⟨calPage t + 0x60, 23, 8⟩
/-- CAL_SYS_REF0 (R169). -/
def R.CAL_SYS_REF0 (t : Nat) : Field := ⟨calPage t + 0x64, 19, 0⟩
/-- CAL_SYS_REF1 (R169). -/
def R.CAL_SYS_REF1 (t : Nat) : Field := ⟨calPage t + 0x68, 19, 0⟩
/-- CAL_SYS_LIM_STAB_PP (R169). -/
def R.CAL_SYS_LIM_STAB_PP (t : Nat) : Field := ⟨calPage t + 0x6C, 15, 0⟩
/-- CAL_SYS_LIM_MINSPAN (R169). -/
def R.CAL_SYS_LIM_MINSPAN (t : Nat) : Field := ⟨calPage t + 0x6C, 31, 16⟩
/-- CAL_SYS_CMD (R169). -/
def R.CAL_SYS_CMD (t : Nat) : Field := ⟨calPage t + 0x70, 2, 0⟩
/-- CAL_SYS_STAT_STATE (R169). -/
def R.CAL_SYS_STAT_STATE (t : Nat) : Field := ⟨calPage t + 0x74, 2, 0⟩
/-- CAL_SYS_STAT_REASON (R169). -/
def R.CAL_SYS_STAT_REASON (t : Nat) : Field := ⟨calPage t + 0x74, 7, 3⟩
/-- CAL_SYS_STAT_B_CHK (R169). -/
def R.CAL_SYS_STAT_B_CHK (t : Nat) : Field := ⟨calPage t + 0x74, 8, 8⟩
/-- CAL_SYS_STAT_WORDS (R169). -/
def R.CAL_SYS_STAT_WORDS (t : Nat) : Field := ⟨calPage t + 0x74, 28, 16⟩
/-- CAL_SYS_MON_WORD (R169). -/
def R.CAL_SYS_MON_WORD (t : Nat) : Field := ⟨calPage t + 0x78, 31, 0⟩
/-- CAL_SYS_M0 (R169). -/
def R.CAL_SYS_M0 (t : Nat) : Field := ⟨calPage t + 0x7C, 23, 0⟩
/-- CAL_SYS_M1 (R169). -/
def R.CAL_SYS_M1 (t : Nat) : Field := ⟨calPage t + 0x80, 23, 0⟩
/-- CAL_LOST (R169). -/
def R.CAL_LOST (t : Nat) : Field := ⟨calPage t + 0x84, 9, 0⟩
/-- CAL_CH_CNT_COUNT (R169). -/
def R.CAL_CH_CNT_COUNT (t n : Nat) : Field := ⟨calPage t + 0x100 + 0x10 * n, 31, 0⟩
/-- CAL_CH_TIME_LO_SEC_LO (R169). -/
def R.CAL_CH_TIME_LO_SEC_LO (t n : Nat) : Field := ⟨calPage t + 0x104 + 0x10 * n, 31, 0⟩
/-- CAL_CH_TIME_HI_SEC_HI (R169). -/
def R.CAL_CH_TIME_HI_SEC_HI (t n : Nat) : Field := ⟨calPage t + 0x108 + 0x10 * n, 7, 0⟩
/-- CAL_CH_TIME_HI_SUBSEC (R169). -/
def R.CAL_CH_TIME_HI_SUBSEC (t n : Nat) : Field := ⟨calPage t + 0x108 + 0x10 * n, 22, 8⟩
/-- CAL_CH_OFF (R169). -/
def R.CAL_CH_OFF (t n : Nat) : Field := ⟨calPage t + 0x200 + 8 * n, 23, 0⟩
/-- CAL_CH_GAIN (R169). -/
def R.CAL_CH_GAIN (t n : Nat) : Field := ⟨calPage t + 0x204 + 8 * n, 23, 0⟩
/-- ENG_CMD (R203). -/
def R.ENG_CMD (e : Nat) : Field := ⟨engPage e + 0x40, 2, 0⟩
/-- ENG_STAT_STATE (R203). -/
def R.ENG_STAT_STATE (e : Nat) : Field := ⟨engPage e + 0x44, 1, 0⟩
/-- ENG_STAT_RMODE (R203). -/
def R.ENG_STAT_RMODE (e : Nat) : Field := ⟨engPage e + 0x44, 2, 2⟩
/-- ENG_STAT_IDLE (R203). -/
def R.ENG_STAT_IDLE (e : Nat) : Field := ⟨engPage e + 0x44, 3, 3⟩
/-- ENG_STAT_HALTED (R203). -/
def R.ENG_STAT_HALTED (e : Nat) : Field := ⟨engPage e + 0x44, 4, 4⟩
/-- ENG_STAT_CONTAINED (R203). -/
def R.ENG_STAT_CONTAINED (e : Nat) : Field := ⟨engPage e + 0x44, 5, 5⟩
/-- ENG_STAT_RUN_PRI (R203). -/
def R.ENG_STAT_RUN_PRI (e : Nat) : Field := ⟨engPage e + 0x44, 7, 6⟩
/-- ENG_STAT_RUNNING (R203). -/
def R.ENG_STAT_RUNNING (e : Nat) : Field := ⟨engPage e + 0x44, 8, 8⟩
/-- ENG_STAT_INBUF_SMALL (R203). -/
def R.ENG_STAT_INBUF_SMALL (e : Nat) : Field := ⟨engPage e + 0x44, 9, 9⟩
/-- ENG_STAT_PREEMPTED (R203). -/
def R.ENG_STAT_PREEMPTED (e : Nat) : Field := ⟨engPage e + 0x44, 15, 12⟩
/-- ENG_STAT_PENDING (R203). -/
def R.ENG_STAT_PENDING (e : Nat) : Field := ⟨engPage e + 0x44, 19, 16⟩
/-- ENG_CFG_RUN_RECOVER (R203). -/
def R.ENG_CFG_RUN_RECOVER (e : Nat) : Field := ⟨engPage e + 0x48, 0, 0⟩
/-- ENG_INBUF_BASE (R203). -/
def R.ENG_INBUF_BASE (e : Nat) : Field := ⟨engPage e + 0x4C, 15, 0⟩
/-- ENG_INBUF_SIZE (R203). -/
def R.ENG_INBUF_SIZE (e : Nat) : Field := ⟨engPage e + 0x4C, 31, 16⟩
/-- ENG_PC (R203). -/
def R.ENG_PC (e : Nat) : Field := ⟨engPage e + 0x50, 11, 0⟩
/-- ENG_INV_CNT_COUNT (R203). -/
def R.ENG_INV_CNT_COUNT (e : Nat) : Field := ⟨engPage e + 0x54, 31, 0⟩
/-- ENG_PRE_CNT_COUNT (R203). -/
def R.ENG_PRE_CNT_COUNT (e : Nat) : Field := ⟨engPage e + 0x58, 31, 0⟩
/-- ENG_PRE_MAX (R203). -/
def R.ENG_PRE_MAX (e : Nat) : Field := ⟨engPage e + 0x5C, 15, 0⟩
/-- ENG_LAST_EXC_CODE (R203). -/
def R.ENG_LAST_EXC_CODE (e : Nat) : Field := ⟨engPage e + 0x60, 7, 0⟩
/-- ENG_LAST_EXC_PC (R203). -/
def R.ENG_LAST_EXC_PC (e : Nat) : Field := ⟨engPage e + 0x60, 19, 8⟩
/-- ENG_SAT_CNT_COUNT (R203). -/
def R.ENG_SAT_CNT_COUNT (e : Nat) : Field := ⟨engPage e + 0x64, 31, 0⟩
/-- ENG_HANDLER_ENTRY (R204). -/
def R.ENG_HANDLER_ENTRY (e h : Nat) : Field := ⟨engPage e + 0x100 + 4 * h, 11, 0⟩
/-- ENG_HANDLER_PRI (R204). -/
def R.ENG_HANDLER_PRI (e h : Nat) : Field := ⟨engPage e + 0x100 + 4 * h, 13, 12⟩
/-- ENG_HANDLER_EN (R204). -/
def R.ENG_HANDLER_EN (e h : Nat) : Field := ⟨engPage e + 0x100 + 4 * h, 14, 14⟩
/-- MEM_CTX_BASE_EN (R258). -/
def R.MEM_CTX_BASE_EN : Field := ⟨memPage + 0x40, 0, 0⟩
/-- MEM_CTX_BASE (R258). -/
def R.MEM_CTX_BASE : Field := ⟨memPage + 0x40, 22, 16⟩
/-- MEM_STAT_CH_LOST (R258). -/
def R.MEM_STAT_CH_LOST : Field := ⟨memPage + 0x44, 3, 0⟩
/-- MEM_STAT_JRN_A (R258). -/
def R.MEM_STAT_JRN_A : Field := ⟨memPage + 0x44, 5, 4⟩
/-- MEM_STAT_JRN_B (R258). -/
def R.MEM_STAT_JRN_B : Field := ⟨memPage + 0x44, 7, 6⟩
/-- MEM_STAT_KEY_VALID (R258). -/
def R.MEM_STAT_KEY_VALID : Field := ⟨memPage + 0x44, 8, 8⟩
/-- MEM_STAT_SCRUB (R258). -/
def R.MEM_STAT_SCRUB : Field := ⟨memPage + 0x44, 9, 9⟩
/-- MEM_ECC_CNT_COUNT (R258). -/
def R.MEM_ECC_CNT_COUNT : Field := ⟨memPage + 0x48, 31, 0⟩
/-- MEM_UE_CNT_COUNT (R258). -/
def R.MEM_UE_CNT_COUNT : Field := ⟨memPage + 0x4C, 31, 0⟩
/-- MEM_UE_ADDR (R258). -/
def R.MEM_UE_ADDR : Field := ⟨memPage + 0x50, 31, 0⟩
/-- MEM_UE_INFO_CH (R258). -/
def R.MEM_UE_INFO_CH : Field := ⟨memPage + 0x54, 1, 0⟩
/-- MEM_UE_INFO_AREA (R258). -/
def R.MEM_UE_INFO_AREA : Field := ⟨memPage + 0x54, 2, 2⟩
/-- MEM_TLBI_OP (R258). -/
def R.MEM_TLBI_OP : Field := ⟨memPage + 0x58, 2, 0⟩
/-- MEM_TLBI_ASID (R258). -/
def R.MEM_TLBI_ASID : Field := ⟨memPage + 0x58, 15, 4⟩
/-- MEM_TLBI_BUSY (R258). -/
def R.MEM_TLBI_BUSY : Field := ⟨memPage + 0x58, 30, 30⟩
/-- MEM_TLBI_GO (R258). -/
def R.MEM_TLBI_GO : Field := ⟨memPage + 0x58, 31, 31⟩
/-- MEM_TLBI_VA_LO_VA (R258). -/
def R.MEM_TLBI_VA_LO_VA : Field := ⟨memPage + 0x5C, 31, 12⟩
/-- MEM_TLBI_VA_HI_VA (R258). -/
def R.MEM_TLBI_VA_HI_VA : Field := ⟨memPage + 0x60, 15, 0⟩
/-- CL_TLBI_OP (R259). -/
def R.CL_TLBI_OP (c : Nat) : Field := ⟨clPage c + 0x40, 2, 0⟩
/-- CL_TLBI_ASID (R259). -/
def R.CL_TLBI_ASID (c : Nat) : Field := ⟨clPage c + 0x40, 15, 4⟩
/-- CL_TLBI_TARGET (R259). -/
def R.CL_TLBI_TARGET (c : Nat) : Field := ⟨clPage c + 0x40, 24, 16⟩
/-- CL_TLBI_BUSY (R259). -/
def R.CL_TLBI_BUSY (c : Nat) : Field := ⟨clPage c + 0x40, 30, 30⟩
/-- CL_TLBI_GO (R259). -/
def R.CL_TLBI_GO (c : Nat) : Field := ⟨clPage c + 0x40, 31, 31⟩
/-- CL_TLBI_VA_LO_VA (R259). -/
def R.CL_TLBI_VA_LO_VA (c : Nat) : Field := ⟨clPage c + 0x44, 31, 12⟩
/-- CL_TLBI_VA_HI_VA (R259). -/
def R.CL_TLBI_VA_HI_VA (c : Nat) : Field := ⟨clPage c + 0x48, 15, 0⟩
/-- CL_FAULT_TMO (R259). -/
def R.CL_FAULT_TMO (c : Nat) : Field := ⟨clPage c + 0x4C, 15, 0⟩
/-- CL_TLB_MISS_COUNT (R259). -/
def R.CL_TLB_MISS_COUNT (c : Nat) : Field := ⟨clPage c + 0x50, 31, 0⟩
/-- CL_EFLT_CAUSE (R259). -/
def R.CL_EFLT_CAUSE (c j : Nat) : Field := ⟨clPage c + 0x80 + 0x20 * j, 3, 0⟩
/-- CL_EFLT_WRITE (R259). -/
def R.CL_EFLT_WRITE (c j : Nat) : Field := ⟨clPage c + 0x80 + 0x20 * j, 4, 4⟩
/-- CL_EFLT_SUSP (R259). -/
def R.CL_EFLT_SUSP (c j : Nat) : Field := ⟨clPage c + 0x80 + 0x20 * j, 5, 5⟩
/-- CL_EFLT_PRI (R259). -/
def R.CL_EFLT_PRI (c j : Nat) : Field := ⟨clPage c + 0x80 + 0x20 * j, 7, 6⟩
/-- CL_EFLT_ASID (R259). -/
def R.CL_EFLT_ASID (c j : Nat) : Field := ⟨clPage c + 0x80 + 0x20 * j, 19, 8⟩
/-- CL_EFLT_PC (R259). -/
def R.CL_EFLT_PC (c j : Nat) : Field := ⟨clPage c + 0x80 + 0x20 * j, 31, 20⟩
/-- CL_EFLT_VA_LO (R259). -/
def R.CL_EFLT_VA_LO (c j : Nat) : Field := ⟨clPage c + 0x84 + 0x20 * j, 31, 0⟩
/-- CL_EFLT_VA_HI (R259). -/
def R.CL_EFLT_VA_HI (c j : Nat) : Field := ⟨clPage c + 0x88 + 0x20 * j, 15, 0⟩
/-- CL_ECMD_CMD (R259). -/
def R.CL_ECMD_CMD (c j : Nat) : Field := ⟨clPage c + 0x8C + 0x20 * j, 1, 0⟩
/-- CL_EFLT_CNT_COUNT (R259). -/
def R.CL_EFLT_CNT_COUNT (c j : Nat) : Field := ⟨clPage c + 0x90 + 0x20 * j, 31, 0⟩
/-- DMA_CTRL_FAULT_TMO (R260). -/
def R.DMA_CTRL_FAULT_TMO (c : Nat) : Field := ⟨dmaPage c + 0x40, 15, 0⟩
/-- DMA_STAT_SUSP (R260). -/
def R.DMA_STAT_SUSP (c : Nat) : Field := ⟨dmaPage c + 0x44, 15, 0⟩
/-- DMA_STAT_ACTIVE (R260). -/
def R.DMA_STAT_ACTIVE (c : Nat) : Field := ⟨dmaPage c + 0x44, 31, 16⟩
/-- DMA_TLB_MISS_COUNT (R260). -/
def R.DMA_TLB_MISS_COUNT (c : Nat) : Field := ⟨dmaPage c + 0x48, 31, 0⟩
/-- DMA_CH_CFG_MODE (R260). -/
def R.DMA_CH_CFG_MODE (c j : Nat) : Field := ⟨dmaPage c + 0x100 + 0x40 * j, 0, 0⟩
/-- DMA_CH_CFG_TAGS (R260). -/
def R.DMA_CH_CFG_TAGS (c j : Nat) : Field := ⟨dmaPage c + 0x100 + 0x40 * j, 1, 1⟩
/-- DMA_CH_CFG_FULL_STOP (R260). -/
def R.DMA_CH_CFG_FULL_STOP (c j : Nat) : Field := ⟨dmaPage c + 0x100 + 0x40 * j, 2, 2⟩
/-- DMA_CH_STAT_CAUSE (R260). -/
def R.DMA_CH_STAT_CAUSE (c j : Nat) : Field := ⟨dmaPage c + 0x104 + 0x40 * j, 3, 0⟩
/-- DMA_CH_STAT_SUSP (R260). -/
def R.DMA_CH_STAT_SUSP (c j : Nat) : Field := ⟨dmaPage c + 0x104 + 0x40 * j, 4, 4⟩
/-- DMA_CH_STAT_ACTIVE (R260). -/
def R.DMA_CH_STAT_ACTIVE (c j : Nat) : Field := ⟨dmaPage c + 0x104 + 0x40 * j, 5, 5⟩
/-- DMA_CH_STAT_WRITE (R260). -/
def R.DMA_CH_STAT_WRITE (c j : Nat) : Field := ⟨dmaPage c + 0x104 + 0x40 * j, 6, 6⟩
/-- DMA_CH_STAT_ASID (R260). -/
def R.DMA_CH_STAT_ASID (c j : Nat) : Field := ⟨dmaPage c + 0x104 + 0x40 * j, 19, 8⟩
/-- DMA_CH_STAT_WRAPPED (R260). -/
def R.DMA_CH_STAT_WRAPPED (c j : Nat) : Field := ⟨dmaPage c + 0x104 + 0x40 * j, 20, 20⟩
/-- DMA_CH_STAT_STOPPED (R260). -/
def R.DMA_CH_STAT_STOPPED (c j : Nat) : Field := ⟨dmaPage c + 0x104 + 0x40 * j, 21, 21⟩
/-- DMA_CH_CMD (R260). -/
def R.DMA_CH_CMD (c j : Nat) : Field := ⟨dmaPage c + 0x108 + 0x40 * j, 1, 0⟩
/-- DMA_CH_FVA_VA_LO (R260). -/
def R.DMA_CH_FVA_VA_LO (c j : Nat) : Field := ⟨dmaPage c + 0x10C + 0x40 * j, 31, 0⟩
/-- DMA_CH_FVA_VA_HI (R260). -/
def R.DMA_CH_FVA_VA_HI (c j : Nat) : Field := ⟨dmaPage c + 0x110 + 0x40 * j, 15, 0⟩
/-- DMA_CH_RES_DESC (R260). -/
def R.DMA_CH_RES_DESC (c j : Nat) : Field := ⟨dmaPage c + 0x114 + 0x40 * j, 15, 0⟩
/-- DMA_CH_RES_ROW (R260). -/
def R.DMA_CH_RES_ROW (c j : Nat) : Field := ⟨dmaPage c + 0x118 + 0x40 * j, 15, 0⟩
/-- DMA_CH_RES_OFF (R260). -/
def R.DMA_CH_RES_OFF (c j : Nat) : Field := ⟨dmaPage c + 0x11C + 0x40 * j, 31, 0⟩
/-- DMA_CH_CAP_BASE_LO_VA (R260). -/
def R.DMA_CH_CAP_BASE_LO_VA (c j : Nat) : Field := ⟨dmaPage c + 0x120 + 0x40 * j, 31, 12⟩
/-- DMA_CH_CAP_BASE_HI_VA (R260). -/
def R.DMA_CH_CAP_BASE_HI_VA (c j : Nat) : Field := ⟨dmaPage c + 0x124 + 0x40 * j, 15, 0⟩
/-- DMA_CH_CAP_SIZE (R260). -/
def R.DMA_CH_CAP_SIZE (c j : Nat) : Field := ⟨dmaPage c + 0x128 + 0x40 * j, 23, 0⟩
/-- DMA_CH_CAP_WP (R260). -/
def R.DMA_CH_CAP_WP (c j : Nat) : Field := ⟨dmaPage c + 0x12C + 0x40 * j, 31, 0⟩
/-- DMA_CH_CAP_RECS_COUNT (R260). -/
def R.DMA_CH_CAP_RECS_COUNT (c j : Nat) : Field := ⟨dmaPage c + 0x130 + 0x40 * j, 31, 0⟩
/-- SCHED_STRM_TBL_EN (R302). -/
def R.SCHED_STRM_TBL_EN : Field := ⟨schPage + 0x40, 0, 0⟩
/-- SCHED_STRM_TBL_BASE (R302). -/
def R.SCHED_STRM_TBL_BASE : Field := ⟨schPage + 0x40, 22, 16⟩
/-- SCHED_COMPL_BASE_LO_ADDR (R302). -/
def R.SCHED_COMPL_BASE_LO_ADDR : Field := ⟨schPage + 0x44, 31, 12⟩
/-- SCHED_COMPL_BASE_HI_ADDR (R302). -/
def R.SCHED_COMPL_BASE_HI_ADDR : Field := ⟨schPage + 0x48, 19, 0⟩
/-- SCHED_QUIESCE_TMO (R302). -/
def R.SCHED_QUIESCE_TMO : Field := ⟨schPage + 0x4C, 15, 0⟩
/-- SCHED_STAT_ITEMS (R302). -/
def R.SCHED_STAT_ITEMS : Field := ⟨schPage + 0x50, 17, 0⟩
/-- SCHED_STAT_JRN_SINGLE (R302). -/
def R.SCHED_STAT_JRN_SINGLE : Field := ⟨schPage + 0x50, 18, 18⟩
/-- SCHED_STAT_JRN_FULL (R302). -/
def R.SCHED_STAT_JRN_FULL : Field := ⟨schPage + 0x50, 19, 19⟩
/-- SCHED_STAT_REBUILD (R302). -/
def R.SCHED_STAT_REBUILD : Field := ⟨schPage + 0x50, 20, 20⟩
/-- SCHED_JRN_FREE (R302). -/
def R.SCHED_JRN_FREE : Field := ⟨schPage + 0x54, 16, 0⟩
/-- SCHED_STRM_CMD_STREAM (R302). -/
def R.SCHED_STRM_CMD_STREAM : Field := ⟨schPage + 0x58, 11, 0⟩
/-- SCHED_STRM_CMD_OP (R302). -/
def R.SCHED_STRM_CMD_OP : Field := ⟨schPage + 0x58, 14, 12⟩
/-- SCHED_STRM_CMD_RESULT (R302). -/
def R.SCHED_STRM_CMD_RESULT : Field := ⟨schPage + 0x58, 17, 16⟩
/-- SCHED_STRM_CMD_BUSY (R302). -/
def R.SCHED_STRM_CMD_BUSY : Field := ⟨schPage + 0x58, 30, 30⟩
/-- SCHED_STRM_CMD_GO (R302). -/
def R.SCHED_STRM_CMD_GO : Field := ⟨schPage + 0x58, 31, 31⟩
/-- SCHED_STRM_ARG_LO (R302). -/
def R.SCHED_STRM_ARG_LO : Field := ⟨schPage + 0x5C, 31, 0⟩
/-- SCHED_STRM_ARG_HI (R302). -/
def R.SCHED_STRM_ARG_HI : Field := ⟨schPage + 0x60, 15, 0⟩
/-- SCHED_STRM_Q_STATE (R302). -/
def R.SCHED_STRM_Q_STATE : Field := ⟨schPage + 0x64, 2, 0⟩
/-- SCHED_STRM_Q_CLASS (R302). -/
def R.SCHED_STRM_Q_CLASS : Field := ⟨schPage + 0x64, 3, 3⟩
/-- SCHED_STRM_Q_ACK_WAIT (R302). -/
def R.SCHED_STRM_Q_ACK_WAIT : Field := ⟨schPage + 0x64, 4, 4⟩
/-- SCHED_STRM_Q_HELD (R302). -/
def R.SCHED_STRM_Q_HELD : Field := ⟨schPage + 0x64, 16, 8⟩
/-- SCHED_STRM_QV_LO (R302). -/
def R.SCHED_STRM_QV_LO (k : Nat) : Field := ⟨schPage + 0x68 + 8 * k, 31, 0⟩
/-- SCHED_STRM_QV_HI (R302). -/
def R.SCHED_STRM_QV_HI (k : Nat) : Field := ⟨schPage + 0x6C + 8 * k, 15, 0⟩
/-- SCHED_REJ_CNT_COUNT (R302). -/
def R.SCHED_REJ_CNT_COUNT : Field := ⟨schPage + 0x80, 31, 0⟩
/-- SCHED_DUP_CNT_COUNT (R302). -/
def R.SCHED_DUP_CNT_COUNT : Field := ⟨schPage + 0x84, 31, 0⟩
/-- SCHED_RETRY_CNT_COUNT (R302). -/
def R.SCHED_RETRY_CNT_COUNT : Field := ⟨schPage + 0x88, 31, 0⟩
/-- SCHED_LOSS_CNT_COUNT (R302). -/
def R.SCHED_LOSS_CNT_COUNT : Field := ⟨schPage + 0x8C, 31, 0⟩
/-- SCHED_KEYHIT_CNT_COUNT (R302). -/
def R.SCHED_KEYHIT_CNT_COUNT : Field := ⟨schPage + 0x90, 31, 0⟩
/-- SCHED_LAST_REJ_CODE (R302). -/
def R.SCHED_LAST_REJ_CODE : Field := ⟨schPage + 0x94, 7, 0⟩
/-- SCHED_LAST_REJ_STREAM (R302). -/
def R.SCHED_LAST_REJ_STREAM : Field := ⟨schPage + 0x94, 19, 8⟩
/-- SCHED_EPOCH (R302). -/
def R.SCHED_EPOCH : Field := ⟨schPage + 0x98, 31, 0⟩
/-- SCHED_WARM (R302). -/
def R.SCHED_WARM : Field := ⟨schPage + 0x9C, 31, 0⟩
/-- SCHED_SYNC_RESTORED (R302). -/
def R.SCHED_SYNC_RESTORED : Field := ⟨schPage + 0xA0, 0, 0⟩
/-- SCHED_SYNC_WAIT (R302). -/
def R.SCHED_SYNC_WAIT : Field := ⟨schPage + 0xA0, 1, 1⟩
/-- SQ_CFG_EN (R303). -/
def R.SQ_CFG_EN (j : Nat) : Field := ⟨rngPage + 0x100 + 0x10 * j, 0, 0⟩
/-- SQ_CFG_LOG2_NENT (R303). -/
def R.SQ_CFG_LOG2_NENT (j : Nat) : Field := ⟨rngPage + 0x100 + 0x10 * j, 8, 4⟩
/-- SQ_BASE_LO_ADDR (R303). -/
def R.SQ_BASE_LO_ADDR (j : Nat) : Field := ⟨rngPage + 0x104 + 0x10 * j, 31, 12⟩
/-- SQ_BASE_HI_ADDR (R303). -/
def R.SQ_BASE_HI_ADDR (j : Nat) : Field := ⟨rngPage + 0x108 + 0x10 * j, 19, 0⟩
/-- SQ_STAT_ERR (R303). -/
def R.SQ_STAT_ERR (j : Nat) : Field := ⟨rngPage + 0x10C + 0x10 * j, 0, 0⟩
/-- SQ_STAT_STALL (R303). -/
def R.SQ_STAT_STALL (j : Nat) : Field := ⟨rngPage + 0x10C + 0x10 * j, 1, 1⟩
/-- SQ_STAT_PEND (R303). -/
def R.SQ_STAT_PEND (j : Nat) : Field := ⟨rngPage + 0x10C + 0x10 * j, 31, 16⟩
/-- FAB_REG_STAT_STATE (R320). -/
def R.FAB_REG_STAT_STATE (r : Nat) : Field := ⟨fabPage + 0x40 + 4 * r, 1, 0⟩
/-- FAB_REG_STAT_QUAD_ON (R320). -/
def R.FAB_REG_STAT_QUAD_ON (r : Nat) : Field := ⟨fabPage + 0x40 + 4 * r, 2, 2⟩
/-- FAB_REG_STAT_FROZEN_IN (R320). -/
def R.FAB_REG_STAT_FROZEN_IN (r : Nat) : Field := ⟨fabPage + 0x40 + 4 * r, 15, 8⟩
/-- FAB_REG_STAT_LOADS (R320). -/
def R.FAB_REG_STAT_LOADS (r : Nat) : Field := ⟨fabPage + 0x40 + 4 * r, 31, 16⟩
/-- FAB_RCFG_KIND (R320). -/
def R.FAB_RCFG_KIND : Field := ⟨fabPage + 0x60, 1, 0⟩
/-- FAB_RCFG_INDEX (R320). -/
def R.FAB_RCFG_INDEX : Field := ⟨fabPage + 0x60, 10, 4⟩
/-- FAB_RCFG_GO (R320). -/
def R.FAB_RCFG_GO : Field := ⟨fabPage + 0x60, 31, 31⟩
/-- FAB_RCFG_ADDR_LO (R320). -/
def R.FAB_RCFG_ADDR_LO : Field := ⟨fabPage + 0x64, 31, 0⟩
/-- FAB_RCFG_ADDR_HI (R320). -/
def R.FAB_RCFG_ADDR_HI : Field := ⟨fabPage + 0x68, 19, 0⟩
/-- FAB_RCFG_ADDR_HI_SPACE (R320). -/
def R.FAB_RCFG_ADDR_HI_SPACE : Field := ⟨fabPage + 0x68, 23, 20⟩
/-- FAB_RCFG_LEN (R320). -/
def R.FAB_RCFG_LEN : Field := ⟨fabPage + 0x6C, 22, 0⟩
/-- FAB_RCFG_STAT_BUSY (R320). -/
def R.FAB_RCFG_STAT_BUSY : Field := ⟨fabPage + 0x70, 0, 0⟩
/-- FAB_RCFG_STAT_PHASE (R320). -/
def R.FAB_RCFG_STAT_PHASE : Field := ⟨fabPage + 0x70, 2, 1⟩
/-- FAB_RCFG_STAT_RESULT (R320). -/
def R.FAB_RCFG_STAT_RESULT : Field := ⟨fabPage + 0x70, 7, 4⟩
/-- FAB_RCFG_GIRTH_TIME (R320). -/
def R.FAB_RCFG_GIRTH_TIME : Field := ⟨fabPage + 0x74, 31, 0⟩
/-- FAB_CNT_COUNT (R320). -/
def R.FAB_CNT_COUNT (n : Nat) : Field := ⟨fabPage + 0x400 + 4 * n, 31, 0⟩
/-- FAB_CNT_HI_COUNT_HI (R320). -/
def R.FAB_CNT_HI_COUNT_HI (n : Nat) : Field := ⟨fabPage + 0xC00 + 4 * n, 15, 0⟩
/-- LAT_CFG_BEACON_PER (R346). -/
def R.LAT_CFG_BEACON_PER : Field := ⟨latPage + 0x40, 6, 0⟩
/-- LAT_CFG_FAULT_JOIN (R346). -/
def R.LAT_CFG_FAULT_JOIN : Field := ⟨latPage + 0x40, 7, 7⟩
/-- LAT_CFG_DOWN_TMO (R346). -/
def R.LAT_CFG_DOWN_TMO : Field := ⟨latPage + 0x40, 31, 16⟩
/-- LAT_POS (R346). -/
def R.LAT_POS : Field := ⟨latPage + 0x44, 2, 0⟩
/-- LAT_POS_HEAD (R346). -/
def R.LAT_POS_HEAD : Field := ⟨latPage + 0x44, 3, 3⟩
/-- LAT_POS_CHAIN_LEN (R346). -/
def R.LAT_POS_CHAIN_LEN : Field := ⟨latPage + 0x44, 7, 4⟩
/-- LAT_LOAD_STAT_STATE (R346). -/
def R.LAT_LOAD_STAT_STATE : Field := ⟨latPage + 0x48, 2, 0⟩
/-- LAT_LOAD_STAT_CODE (R346). -/
def R.LAT_LOAD_STAT_CODE : Field := ⟨latPage + 0x48, 11, 8⟩
/-- LAT_LOAD_STAT_REJ_POS (R346). -/
def R.LAT_LOAD_STAT_REJ_POS : Field := ⟨latPage + 0x48, 14, 12⟩
/-- LAT_TIME_STAT_LOCK (R346). -/
def R.LAT_TIME_STAT_LOCK : Field := ⟨latPage + 0x4C, 0, 0⟩
/-- LAT_TIME_ERR (R346). -/
def R.LAT_TIME_ERR : Field := ⟨latPage + 0x50, 31, 0⟩
/-- LAT_PSTAT_LTSTATE (R346). -/
def R.LAT_PSTAT_LTSTATE (p : Nat) : Field := ⟨latPage + 0x100 + 0x80 * p, 2, 0⟩
/-- LAT_PSTAT_WIDTH (R346). -/
def R.LAT_PSTAT_WIDTH (p : Nat) : Field := ⟨latPage + 0x100 + 0x80 * p, 4, 3⟩
/-- LAT_PSTAT_REVERSED (R346). -/
def R.LAT_PSTAT_REVERSED (p : Nat) : Field := ⟨latPage + 0x100 + 0x80 * p, 5, 5⟩
/-- LAT_PSTAT_EXCESS (R346). -/
def R.LAT_PSTAT_EXCESS (p : Nat) : Field := ⟨latPage + 0x100 + 0x80 * p, 6, 6⟩
/-- LAT_TRAIN_CNT_COUNT (R346). -/
def R.LAT_TRAIN_CNT_COUNT (p : Nat) : Field := ⟨latPage + 0x104 + 0x80 * p, 31, 0⟩
/-- LAT_CRC_CNT_COUNT (R346). -/
def R.LAT_CRC_CNT_COUNT (p : Nat) : Field := ⟨latPage + 0x108 + 0x80 * p, 31, 0⟩
/-- LAT_REPLAY_CNT_COUNT (R346). -/
def R.LAT_REPLAY_CNT_COUNT (p : Nat) : Field := ⟨latPage + 0x10C + 0x80 * p, 31, 0⟩
/-- LAT_DELAY (R346). -/
def R.LAT_DELAY (p : Nat) : Field := ⟨latPage + 0x110 + 0x80 * p, 31, 0⟩
/-- DVSEC_CAP_ID (R353). -/
def R.DVSEC_CAP_ID : Field := ⟨cfgBase + 0x0, 15, 0⟩
/-- DVSEC_CAP_VER (R353). -/
def R.DVSEC_CAP_VER : Field := ⟨cfgBase + 0x0, 19, 16⟩
/-- DVSEC_CAP_NEXT (R353). -/
def R.DVSEC_CAP_NEXT : Field := ⟨cfgBase + 0x0, 31, 20⟩
/-- DVSEC_HDR1_VENDOR (R353). -/
def R.DVSEC_HDR1_VENDOR : Field := ⟨cfgBase + 0x4, 15, 0⟩
/-- DVSEC_HDR1_REV (R353). -/
def R.DVSEC_HDR1_REV : Field := ⟨cfgBase + 0x4, 19, 16⟩
/-- DVSEC_HDR1_LENGTH (R353). -/
def R.DVSEC_HDR1_LENGTH : Field := ⟨cfgBase + 0x4, 31, 20⟩
/-- DVSEC_HDR2_ID (R353). -/
def R.DVSEC_HDR2_ID : Field := ⟨cfgBase + 0x8, 15, 0⟩
/-- YDVSEC_ID_STEPPING (R353). -/
def R.YDVSEC_ID_STEPPING : Field := ⟨cfgBase + 0xC, 3, 0⟩
/-- YDVSEC_ID_POS (R353). -/
def R.YDVSEC_ID_POS : Field := ⟨cfgBase + 0xC, 6, 4⟩
/-- YDVSEC_ID_HEAD (R353). -/
def R.YDVSEC_ID_HEAD : Field := ⟨cfgBase + 0xC, 7, 7⟩
/-- YDVSEC_ID_CHAIN_LEN (R353). -/
def R.YDVSEC_ID_CHAIN_LEN : Field := ⟨cfgBase + 0xC, 11, 8⟩
/-- YDVSEC_ID_PCIE_ONLY (R353). -/
def R.YDVSEC_ID_PCIE_ONLY : Field := ⟨cfgBase + 0xC, 12, 12⟩
/-- YDVSEC_ID_WIDTH (R353). -/
def R.YDVSEC_ID_WIDTH : Field := ⟨cfgBase + 0xC, 19, 16⟩
/-- YDVSEC_ID_RATE (R353). -/
def R.YDVSEC_ID_RATE : Field := ⟨cfgBase + 0xC, 22, 20⟩
/-- YDVSEC_LOAD_ADDR_LO_ADDR (R353). -/
def R.YDVSEC_LOAD_ADDR_LO_ADDR : Field := ⟨cfgBase + 0x10, 31, 6⟩
/-- YDVSEC_LOAD_ADDR_HI_ADDR (R353). -/
def R.YDVSEC_LOAD_ADDR_HI_ADDR : Field := ⟨cfgBase + 0x14, 19, 0⟩
/-- YDVSEC_LOAD_LEN (R353). -/
def R.YDVSEC_LOAD_LEN : Field := ⟨cfgBase + 0x18, 29, 0⟩
/-- YDVSEC_LOAD_CTRL_DEADLINE (R353). -/
def R.YDVSEC_LOAD_CTRL_DEADLINE : Field := ⟨cfgBase + 0x1C, 12, 0⟩
/-- YDVSEC_LOAD_CTRL_CLEAR (R353). -/
def R.YDVSEC_LOAD_CTRL_CLEAR : Field := ⟨cfgBase + 0x1C, 30, 30⟩
/-- YDVSEC_LOAD_CTRL_GO (R353). -/
def R.YDVSEC_LOAD_CTRL_GO : Field := ⟨cfgBase + 0x1C, 31, 31⟩
/-- YDVSEC_LOAD_STAT_STATE (R353). -/
def R.YDVSEC_LOAD_STAT_STATE : Field := ⟨cfgBase + 0x20, 2, 0⟩
/-- YDVSEC_LOAD_STAT_CODE (R353). -/
def R.YDVSEC_LOAD_STAT_CODE : Field := ⟨cfgBase + 0x20, 11, 8⟩
/-- YDVSEC_LOAD_STAT_REJ_POS (R353). -/
def R.YDVSEC_LOAD_STAT_REJ_POS : Field := ⟨cfgBase + 0x20, 14, 12⟩
/-- YDVSEC_LOAD_LEFT (R353). -/
def R.YDVSEC_LOAD_LEFT : Field := ⟨cfgBase + 0x24, 12, 0⟩
/-- YDVSEC_RESET_CTRL_KIND (R353). -/
def R.YDVSEC_RESET_CTRL_KIND : Field := ⟨cfgBase + 0x28, 1, 0⟩
/-- YDVSEC_RESET_CTRL_KEY (R353). -/
def R.YDVSEC_RESET_CTRL_KEY : Field := ⟨cfgBase + 0x28, 15, 8⟩
/-- YDVSEC_RESET_CTRL_GO (R353). -/
def R.YDVSEC_RESET_CTRL_GO : Field := ⟨cfgBase + 0x28, 31, 31⟩
/-- YDVSEC_RESET_STAT_BUSY (R353). -/
def R.YDVSEC_RESET_STAT_BUSY : Field := ⟨cfgBase + 0x2C, 0, 0⟩
/-- YDVSEC_RESET_STAT_LAST (R353). -/
def R.YDVSEC_RESET_STAT_LAST : Field := ⟨cfgBase + 0x2C, 2, 1⟩
/-- YDVSEC_RESET_STAT_REFUSED (R353). -/
def R.YDVSEC_RESET_STAT_REFUSED : Field := ⟨cfgBase + 0x2C, 3, 3⟩
/-- YDVSEC_SERIAL (R353). -/
def R.YDVSEC_SERIAL (i : Nat) : Field := ⟨cfgBase + 0x30 + 4 * i, 31, 0⟩
/-- CFG_VENDOR_ID, of the function's configuration header (R347); its words stand where every PCI function has them. -/
def R.CFG_VENDOR_ID : Field := ⟨cfgBase + 0x1000, 15, 0⟩
/-- CFG_DEVICE_ID (R347). -/
def R.CFG_DEVICE_ID : Field := ⟨cfgBase + 0x1000, 31, 16⟩
/-- CFG_REVISION: the stepping code (R2, R347). -/
def R.CFG_REVISION : Field := ⟨cfgBase + 0x1008, 7, 0⟩
/-- CFG_CLASS (R347). -/
def R.CFG_CLASS : Field := ⟨cfgBase + 0x1008, 31, 8⟩
/-- CFG_SUBSYS_VENDOR (R347). -/
def R.CFG_SUBSYS_VENDOR : Field := ⟨cfgBase + 0x102C, 15, 0⟩
/-- CFG_SUBSYS (R347). -/
def R.CFG_SUBSYS : Field := ⟨cfgBase + 0x102C, 31, 16⟩
/-- HDM_DECODER_EN: the host has enabled the HDM range (R231, assumption log 146). -/
def R.HDM_DECODER_EN : Field := ⟨cfgBase + 0x2000, 0, 0⟩
/-- HDM_DECODER_SIZE: the decoder's size in 256 MiB units (R359). -/
def R.HDM_DECODER_SIZE : Field := ⟨cfgBase + 0x2000, 13, 8⟩
/-- CXL_MEM_ACTIVE: Memory_Active, in Range 1 of the CXL Device DVSEC (R359); its words stand where CXL 2.0 has them. -/
def R.CXL_MEM_ACTIVE : Field := ⟨cfgBase + 0x118C, 1, 1⟩
/-- AER_UE_STAT, AER_UE_MASK, AER_UE_SEV: the uncorrectable errors reported, masked and fatal (R366), by their bits in PCIe. -/
def R.AER_UE_STAT : Field := ⟨cfgBase + 0x1104, 31, 0⟩
def R.AER_UE_MASK : Field := ⟨cfgBase + 0x1108, 31, 0⟩
def R.AER_UE_SEV : Field := ⟨cfgBase + 0x110C, 31, 0⟩
/-- CXL_RAS_MEM: an uncorrectable memory error, in the CXL component registers of BAR4 (R356, R366). -/
def R.CXL_RAS_MEM : Field := ⟨cfgBase + 0x30000, 7, 7⟩
/-- SEC_STAT_OWNERS (R399). -/
def R.SEC_STAT_OWNERS : Field := ⟨secPage + 0x40, 3, 0⟩
/-- SEC_STAT_OWN_EN (R399). -/
def R.SEC_STAT_OWN_EN : Field := ⟨secPage + 0x40, 4, 4⟩
/-- SEC_STAT_DEBUG (R399). -/
def R.SEC_STAT_DEBUG : Field := ⟨secPage + 0x40, 7, 5⟩
/-- SEC_STAT_FW_BANK (R399). -/
def R.SEC_STAT_FW_BANK : Field := ⟨secPage + 0x40, 9, 8⟩
/-- SEC_STAT_FW_UNCOMMITTED (R399). -/
def R.SEC_STAT_FW_UNCOMMITTED : Field := ⟨secPage + 0x40, 10, 10⟩
/-- SEC_STAT_FW_SVN (R399). -/
def R.SEC_STAT_FW_SVN : Field := ⟨secPage + 0x40, 18, 12⟩
/-- SEC_STAT_OTP_SVN (R399). -/
def R.SEC_STAT_OTP_SVN : Field := ⟨secPage + 0x40, 25, 19⟩
/-- SEC_LMS_NEXT_LO (R399). -/
def R.SEC_LMS_NEXT_LO : Field := ⟨secPage + 0x44, 31, 0⟩
/-- SEC_LMS_NEXT_HI (R399). -/
def R.SEC_LMS_NEXT_HI : Field := ⟨secPage + 0x48, 2, 0⟩
/-- SEC_LMS_RSV_LO (R399). -/
def R.SEC_LMS_RSV_LO : Field := ⟨secPage + 0x4C, 31, 0⟩
/-- SEC_LMS_RSV_HI (R399). -/
def R.SEC_LMS_RSV_HI : Field := ⟨secPage + 0x50, 2, 0⟩
/-- SEC_GLITCH_CFG_FATAL (R399). -/
def R.SEC_GLITCH_CFG_FATAL : Field := ⟨secPage + 0x54, 5, 0⟩
/-- SEC_GLITCH_CNT_COUNT (R399). -/
def R.SEC_GLITCH_CNT_COUNT : Field := ⟨secPage + 0x58, 31, 0⟩
/-- SEC_GLITCH_LAST_MON (R399). -/
def R.SEC_GLITCH_LAST_MON : Field := ⟨secPage + 0x5C, 2, 0⟩
/-- SEC_QUOTE_CTRL_GO (R399). -/
def R.SEC_QUOTE_CTRL_GO : Field := ⟨secPage + 0x60, 0, 0⟩
/-- SEC_QUOTE_CTRL_BUSY (R399). -/
def R.SEC_QUOTE_CTRL_BUSY : Field := ⟨secPage + 0x60, 1, 1⟩
/-- SEC_QUOTE_CTRL_STATUS (R399). -/
def R.SEC_QUOTE_CTRL_STATUS : Field := ⟨secPage + 0x60, 9, 2⟩
/-- SEC_QUOTE_LEN (R399). -/
def R.SEC_QUOTE_LEN : Field := ⟨secPage + 0x64, 15, 0⟩
/-- SEC_FWUP_ADDR_LO (R399). -/
def R.SEC_FWUP_ADDR_LO : Field := ⟨secPage + 0x68, 31, 0⟩
/-- SEC_FWUP_ADDR_HI (R399). -/
def R.SEC_FWUP_ADDR_HI : Field := ⟨secPage + 0x6C, 19, 0⟩
/-- SEC_FWUP_ADDR_HI_SPACE (R399). -/
def R.SEC_FWUP_ADDR_HI_SPACE : Field := ⟨secPage + 0x6C, 23, 20⟩
/-- SEC_FWUP_LEN (R399). -/
def R.SEC_FWUP_LEN : Field := ⟨secPage + 0x70, 19, 0⟩
/-- SEC_FWUP_CTRL_OP (R399). -/
def R.SEC_FWUP_CTRL_OP : Field := ⟨secPage + 0x74, 1, 0⟩
/-- SEC_FWUP_CTRL_GO (R399). -/
def R.SEC_FWUP_CTRL_GO : Field := ⟨secPage + 0x74, 31, 31⟩
/-- SEC_FWUP_STAT_BUSY (R399). -/
def R.SEC_FWUP_STAT_BUSY : Field := ⟨secPage + 0x78, 0, 0⟩
/-- SEC_FWUP_STAT_STATUS (R399). -/
def R.SEC_FWUP_STAT_STATUS : Field := ⟨secPage + 0x78, 8, 1⟩
/-- SEC_QUOTE_NONCE (R399). -/
def R.SEC_QUOTE_NONCE (i : Nat) : Field := ⟨secPage + 0x80 + 4 * i, 31, 0⟩
/-- SEC_QUOTE_IDX_BLK (R399). -/
def R.SEC_QUOTE_IDX_BLK : Field := ⟨secPage + 0xA0, 6, 0⟩
/-- SEC_QUOTE_WIN_DATA (R399). -/
def R.SEC_QUOTE_WIN_DATA (w : Nat) : Field := ⟨secPage + 0x100 + 4 * w, 31, 0⟩
/-- RTC_SEC_LO_SEC (R430). -/
def R.RTC_SEC_LO_SEC : Field := ⟨licPage + 0x40, 31, 0⟩
/-- RTC_SEC_HI_SEC (R430). -/
def R.RTC_SEC_HI_SEC : Field := ⟨licPage + 0x44, 7, 0⟩
/-- RTC_SEC_HI_SUBSEC (R430). -/
def R.RTC_SEC_HI_SUBSEC : Field := ⟨licPage + 0x44, 22, 8⟩
/-- RTC_SET_LO_SEC (R430). -/
def R.RTC_SET_LO_SEC : Field := ⟨licPage + 0x48, 31, 0⟩
/-- RTC_SET_HI_SEC (R430). -/
def R.RTC_SET_HI_SEC : Field := ⟨licPage + 0x4C, 7, 0⟩
/-- RTC_SET_HI_GO (R430). -/
def R.RTC_SET_HI_GO : Field := ⟨licPage + 0x4C, 31, 31⟩
/-- RTC_TRIM (R430). -/
def R.RTC_TRIM : Field := ⟨licPage + 0x50, 15, 0⟩
/-- RTC_STAT_VALID (R430). -/
def R.RTC_STAT_VALID : Field := ⟨licPage + 0x54, 0, 0⟩
/-- RTC_STAT_ON_VBAT (R430). -/
def R.RTC_STAT_ON_VBAT : Field := ⟨licPage + 0x54, 1, 1⟩
/-- RTC_STAT_VBAT_LOW (R430). -/
def R.RTC_STAT_VBAT_LOW : Field := ⟨licPage + 0x54, 2, 2⟩
/-- RTC_STAT_SETS (R430). -/
def R.RTC_STAT_SETS : Field := ⟨licPage + 0x54, 31, 16⟩
/-- TIME_LO_NS (R430). -/
def R.TIME_LO_NS : Field := ⟨licPage + 0x58, 31, 0⟩
/-- TIME_HI_NS (R430). -/
def R.TIME_HI_NS : Field := ⟨licPage + 0x5C, 31, 0⟩
/-- TIME_SLEW (R430). -/
def R.TIME_SLEW : Field := ⟨licPage + 0x60, 17, 0⟩
/-- TIME_STAT_SRC (R430). -/
def R.TIME_STAT_SRC : Field := ⟨licPage + 0x64, 0, 0⟩
/-- TIME_STAT_PPS_NEW (R430). -/
def R.TIME_STAT_PPS_NEW : Field := ⟨licPage + 0x64, 1, 1⟩
/-- TIME_PPS_LO_NS (R430). -/
def R.TIME_PPS_LO_NS : Field := ⟨licPage + 0x68, 31, 0⟩
/-- TIME_PPS_HI_NS (R430). -/
def R.TIME_PPS_HI_NS : Field := ⟨licPage + 0x6C, 31, 0⟩
/-- PFAIL_CFG_V24_TH (R430). -/
def R.PFAIL_CFG_V24_TH : Field := ⟨licPage + 0x70, 7, 0⟩
/-- PFAIL_CFG_V24_EN (R430). -/
def R.PFAIL_CFG_V24_EN : Field := ⟨licPage + 0x70, 8, 8⟩
/-- PFAIL_STAT_MAIN_OK (R430). -/
def R.PFAIL_STAT_MAIN_OK : Field := ⟨licPage + 0x74, 0, 0⟩
/-- PFAIL_STAT_V24_OK (R430). -/
def R.PFAIL_STAT_V24_OK : Field := ⟨licPage + 0x74, 1, 1⟩
/-- PFAIL_STAT_LAST_CLEAN (R430). -/
def R.PFAIL_STAT_LAST_CLEAN : Field := ⟨licPage + 0x74, 2, 2⟩
/-- PFAIL_STAT_LAST_V24 (R430). -/
def R.PFAIL_STAT_LAST_V24 : Field := ⟨licPage + 0x74, 3, 3⟩
/-- PFAIL_STAT_V24_ARMED (R430). -/
def R.PFAIL_STAT_V24_ARMED : Field := ⟨licPage + 0x74, 4, 4⟩
/-- LDG_CMD_OP (R430). -/
def R.LDG_CMD_OP : Field := ⟨licPage + 0x78, 7, 0⟩
/-- LDG_CMD_GO (R430). -/
def R.LDG_CMD_GO : Field := ⟨licPage + 0x78, 31, 31⟩
/-- LDG_ARG (R430). -/
def R.LDG_ARG : Field := ⟨licPage + 0x7C, 31, 0⟩
/-- LDG_STAT_BUSY (R430). -/
def R.LDG_STAT_BUSY : Field := ⟨licPage + 0x80, 0, 0⟩
/-- LDG_STAT_STATUS (R430). -/
def R.LDG_STAT_STATUS : Field := ⟨licPage + 0x80, 4, 1⟩
/-- LDG_STAT_LEN (R430). -/
def R.LDG_STAT_LEN : Field := ⟨licPage + 0x80, 31, 16⟩
/-- LDG_WEAR_PCT (R430). -/
def R.LDG_WEAR_PCT : Field := ⟨licPage + 0x84, 7, 0⟩
/-- LDG_REM_DUE (R430). -/
def R.LDG_REM_DUE : Field := ⟨licPage + 0x88, 31, 0⟩
/-- LDG_DATA (R430). -/
def R.LDG_DATA (i : Nat) : Field := ⟨licPage + 0x8C + 4 * i, 31, 0⟩
/-- LDG_BUF_DATA (R430). -/
def R.LDG_BUF_DATA (w : Nat) : Field := ⟨licPage + 0x100 + 4 * w, 31, 0⟩
/-- PWR_CMD_DOMAIN (R431). -/
def R.PWR_CMD_DOMAIN : Field := ⟨pwrPage + 0x40, 7, 0⟩
/-- PWR_CMD_OP (R431). -/
def R.PWR_CMD_OP : Field := ⟨pwrPage + 0x40, 9, 8⟩
/-- PWR_CMD_BUSY (R431). -/
def R.PWR_CMD_BUSY : Field := ⟨pwrPage + 0x40, 30, 30⟩
/-- PWR_CMD_GO (R431). -/
def R.PWR_CMD_GO : Field := ⟨pwrPage + 0x40, 31, 31⟩
/-- PWR_RESULT (R431). -/
def R.PWR_RESULT : Field := ⟨pwrPage + 0x44, 1, 0⟩
/-- PWR_STAT_ON (R431). -/
def R.PWR_STAT_ON (i : Nat) : Field := ⟨pwrPage + 0x48 + 4 * i, 31, 0⟩
/-- PWR_FAIL_CNT_COUNT (R431). -/
def R.PWR_FAIL_CNT_COUNT : Field := ⟨pwrPage + 0x64, 31, 0⟩
/-- PWR_EST (R431). -/
def R.PWR_EST : Field := ⟨pwrPage + 0x68, 15, 0⟩
/-- FLT_STAT_CLASS (R453). -/
def R.FLT_STAT_CLASS : Field := ⟨fltPage + 0x40, 2, 0⟩
/-- FLT_STAT_C4 (R453). -/
def R.FLT_STAT_C4 : Field := ⟨fltPage + 0x40, 3, 3⟩
/-- FLT_STAT_SAFE_N (R453). -/
def R.FLT_STAT_SAFE_N : Field := ⟨fltPage + 0x40, 4, 4⟩
/-- FLT_STAT_FAULT_N (R453). -/
def R.FLT_STAT_FAULT_N : Field := ⟨fltPage + 0x40, 5, 5⟩
/-- FLT_STAT_OVF (R453). -/
def R.FLT_STAT_OVF : Field := ⟨fltPage + 0x40, 6, 6⟩
/-- FLT_STAT_LAST_C5 (R453). -/
def R.FLT_STAT_LAST_C5 : Field := ⟨fltPage + 0x40, 7, 7⟩
/-- FLT_STAT_COUNT (R453). -/
def R.FLT_STAT_COUNT : Field := ⟨fltPage + 0x40, 23, 16⟩
/-- FLT_STAT_ACTIVE (R453). -/
def R.FLT_STAT_ACTIVE : Field := ⟨fltPage + 0x40, 31, 24⟩
/-- FLT_C4_CAUSE (R453). -/
def R.FLT_C4_CAUSE : Field := ⟨fltPage + 0x44, 15, 0⟩
/-- FLT_C4_CAUSE_UNIT (R453). -/
def R.FLT_C4_CAUSE_UNIT : Field := ⟨fltPage + 0x44, 31, 16⟩
/-- FLT_CFG_LOG_C0 (R453). -/
def R.FLT_CFG_LOG_C0 : Field := ⟨fltPage + 0x48, 0, 0⟩
/-- FLT_CFG_LOG_C1 (R453). -/
def R.FLT_CFG_LOG_C1 : Field := ⟨fltPage + 0x48, 1, 1⟩
/-- FLT_CFG_POP_ACK (R453). -/
def R.FLT_CFG_POP_ACK : Field := ⟨fltPage + 0x48, 2, 2⟩
/-- FLT_CTRL_POP (R453). -/
def R.FLT_CTRL_POP : Field := ⟨fltPage + 0x4C, 0, 0⟩
/-- FLT_CTRL_EXIT (R453). -/
def R.FLT_CTRL_EXIT : Field := ⟨fltPage + 0x4C, 1, 1⟩
/-- FLT_ACK_RSEQ (R453). -/
def R.FLT_ACK_RSEQ : Field := ⟨fltPage + 0x50, 15, 0⟩
/-- FLT_RELEASE_UNIT (R453). -/
def R.FLT_RELEASE_UNIT : Field := ⟨fltPage + 0x54, 12, 0⟩
/-- FLT_RELEASE_GO (R453). -/
def R.FLT_RELEASE_GO : Field := ⟨fltPage + 0x54, 31, 31⟩
/-- FLT_REL_STAT_REFUSED (R453). -/
def R.FLT_REL_STAT_REFUSED : Field := ⟨fltPage + 0x58, 0, 0⟩
/-- FLT_EXIT_STAT_RESULT (R453). -/
def R.FLT_EXIT_STAT_RESULT : Field := ⟨fltPage + 0x5C, 2, 0⟩
/-- FLT_DROP_CNT_COUNT (R453). -/
def R.FLT_DROP_CNT_COUNT : Field := ⟨fltPage + 0x60, 31, 0⟩
/-- FLT_HEAD_DATA (R453). -/
def R.FLT_HEAD_DATA (w : Nat) : Field := ⟨fltPage + 0x80 + 4 * w, 31, 0⟩
/-- FLT_ACT_UNIT (R453). -/
def R.FLT_ACT_UNIT (i : Nat) : Field := ⟨fltPage + 0x100 + 8 * i, 15, 0⟩
/-- FLT_ACT_SUB (R453). -/
def R.FLT_ACT_SUB (i : Nat) : Field := ⟨fltPage + 0x100 + 8 * i, 31, 16⟩
/-- FLT_ACT_CLASS (R453). -/
def R.FLT_ACT_CLASS (i : Nat) : Field := ⟨fltPage + 0x104 + 8 * i, 2, 0⟩
/-- FLT_ACT_V (R453). -/
def R.FLT_ACT_V (i : Nat) : Field := ⟨fltPage + 0x104 + 8 * i, 3, 3⟩
/-- FLT_ACT_RSEQ (R453). -/
def R.FLT_ACT_RSEQ (i : Nat) : Field := ⟨fltPage + 0x104 + 8 * i, 31, 16⟩
/-- IRQ_SRC_RAW (R454). -/
def R.IRQ_SRC_RAW (w : Nat) : Field := ⟨irqPage + 0x100 + 4 * w, 31, 0⟩
/-- IRQ_SWI (R454). -/
def R.IRQ_SWI : Field := ⟨irqPage + 0x140, 7, 0⟩
/-- IRQ_ROUTE_VECTOR (R454). -/
def R.IRQ_ROUTE_VECTOR (i : Nat) : Field := ⟨irqPage + 0x400 + 4 * i, 10, 0⟩
/-- IRQ_ROUTE_MSIX_EN (R454). -/
def R.IRQ_ROUTE_MSIX_EN (i : Nat) : Field := ⟨irqPage + 0x400 + 4 * i, 11, 11⟩
/-- IRQ_ROUTE_MGMT (R454). -/
def R.IRQ_ROUTE_MGMT (i : Nat) : Field := ⟨irqPage + 0x400 + 4 * i, 12, 12⟩
/-- IRQ_ROUTE_COUNT (R454). -/
def R.IRQ_ROUTE_COUNT (i : Nat) : Field := ⟨irqPage + 0x400 + 4 * i, 31, 16⟩
/-- EVC_SNAP_GROUPS (R455). -/
def R.EVC_SNAP_GROUPS : Field := ⟨evcPage + 0x40, 15, 0⟩
/-- EVC_SNAP_TIME_LO_NS (R455). -/
def R.EVC_SNAP_TIME_LO_NS : Field := ⟨evcPage + 0x44, 31, 0⟩
/-- EVC_SNAP_TIME_HI_NS (R455). -/
def R.EVC_SNAP_TIME_HI_NS : Field := ⟨evcPage + 0x48, 31, 0⟩
/-- EVC_SWTRIG_TRIG (R455). -/
def R.EVC_SWTRIG_TRIG : Field := ⟨evcPage + 0x4C, 15, 0⟩
/-- EVC_SNAP_TRIG (R455). -/
def R.EVC_SNAP_TRIG : Field := ⟨evcPage + 0x50, 7, 0⟩
/-- EVC_SNAP_TRIG_EN (R455). -/
def R.EVC_SNAP_TRIG_EN : Field := ⟨evcPage + 0x50, 8, 8⟩
/-- EVC_SNAP_TRIG_GROUPS (R455). -/
def R.EVC_SNAP_TRIG_GROUPS : Field := ⟨evcPage + 0x50, 31, 16⟩
/-- EVT_TRIG_SRC (R455). -/
def R.EVT_TRIG_SRC (n : Nat) : Field := ⟨evcPage + 0x400 + 4 * n, 9, 0⟩
/-- EVT_TRIG_LEVEL (R455). -/
def R.EVT_TRIG_LEVEL (n : Nat) : Field := ⟨evcPage + 0x400 + 4 * n, 31, 31⟩
/-- EVC_CFG_CODE (R455). -/
def R.EVC_CFG_CODE (n : Nat) : Field := ⟨evfPage + 0x100 + 8 * n, 9, 0⟩
/-- EVC_CFG_INST (R455). -/
def R.EVC_CFG_INST (n : Nat) : Field := ⟨evfPage + 0x100 + 8 * n, 17, 10⟩
/-- EVC_CFG_ALL (R455). -/
def R.EVC_CFG_ALL (n : Nat) : Field := ⟨evfPage + 0x100 + 8 * n, 18, 18⟩
/-- EVC_CFG_EN (R455). -/
def R.EVC_CFG_EN (n : Nat) : Field := ⟨evfPage + 0x100 + 8 * n, 19, 19⟩
/-- EVC_CFG_START_EN (R455). -/
def R.EVC_CFG_START_EN (n : Nat) : Field := ⟨evfPage + 0x100 + 8 * n, 20, 20⟩
/-- EVC_CFG_STOP_EN (R455). -/
def R.EVC_CFG_STOP_EN (n : Nat) : Field := ⟨evfPage + 0x100 + 8 * n, 21, 21⟩
/-- EVC_CFG_GROUP (R455). -/
def R.EVC_CFG_GROUP (n : Nat) : Field := ⟨evfPage + 0x100 + 8 * n, 25, 22⟩
/-- EVC_CFG_IRQ (R455). -/
def R.EVC_CFG_IRQ (n : Nat) : Field := ⟨evfPage + 0x100 + 8 * n, 26, 26⟩
/-- EVC_TRG_START (R455). -/
def R.EVC_TRG_START (n : Nat) : Field := ⟨evfPage + 0x104 + 8 * n, 7, 0⟩
/-- EVC_TRG_STOP (R455). -/
def R.EVC_TRG_STOP (n : Nat) : Field := ⟨evfPage + 0x104 + 8 * n, 15, 8⟩
/-- EVC_TRG_STOPPED (R455). -/
def R.EVC_TRG_STOPPED (n : Nat) : Field := ⟨evfPage + 0x104 + 8 * n, 29, 29⟩
/-- EVC_TRG_RUN (R455). -/
def R.EVC_TRG_RUN (n : Nat) : Field := ⟨evfPage + 0x104 + 8 * n, 30, 30⟩
/-- EVC_TRG_OVF (R455). -/
def R.EVC_TRG_OVF (n : Nat) : Field := ⟨evfPage + 0x104 + 8 * n, 31, 31⟩
/-- EVC_VAL_LO (R455). -/
def R.EVC_VAL_LO (n : Nat) : Field := ⟨evlPage + 0x100 + 8 * n, 31, 0⟩
/-- EVC_VAL_HI (R455). -/
def R.EVC_VAL_HI (n : Nat) : Field := ⟨evlPage + 0x104 + 8 * n, 31, 0⟩
/-- EVC_SNAPVAL_LO (R455). -/
def R.EVC_SNAPVAL_LO (n : Nat) : Field := ⟨evsPage + 0x100 + 8 * n, 31, 0⟩
/-- EVC_SNAPVAL_HI (R455). -/
def R.EVC_SNAPVAL_HI (n : Nat) : Field := ⟨evsPage + 0x104 + 8 * n, 31, 0⟩
/-- PAGE_ID_TYPE (R460). -/
def R.PAGE_ID_TYPE (pg : Nat) : Field := ⟨pg + 0x0, 5, 0⟩
/-- PAGE_ID_INSTANCE (R460). -/
def R.PAGE_ID_INSTANCE (pg : Nat) : Field := ⟨pg + 0x0, 15, 8⟩
/-- PAGE_ID_VERSION (R460). -/
def R.PAGE_ID_VERSION (pg : Nat) : Field := ⟨pg + 0x0, 23, 16⟩
/-- PAGE_ID_POS (R460). -/
def R.PAGE_ID_POS (pg : Nat) : Field := ⟨pg + 0x0, 26, 24⟩
/-- PAGE_CAP_STAGED (R460). -/
def R.PAGE_CAP_STAGED (pg : Nat) : Field := ⟨pg + 0x4, 0, 0⟩
/-- PAGE_CAP_PIN_OWNERS (R460). -/
def R.PAGE_CAP_PIN_OWNERS (pg : Nat) : Field := ⟨pg + 0x4, 1, 1⟩
/-- PAGE_CAP_EVENTS (R460). -/
def R.PAGE_CAP_EVENTS (pg : Nat) : Field := ⟨pg + 0x4, 2, 2⟩
/-- PAGE_CAP_SWITCHED (R460). -/
def R.PAGE_CAP_SWITCHED (pg : Nat) : Field := ⟨pg + 0x4, 3, 3⟩
/-- PAGE_CAP_NIRQ (R460). -/
def R.PAGE_CAP_NIRQ (pg : Nat) : Field := ⟨pg + 0x4, 15, 8⟩
/-- PAGE_CTRL_COMMIT (R460). -/
def R.PAGE_CTRL_COMMIT (pg : Nat) : Field := ⟨pg + 0x8, 0, 0⟩
/-- PAGE_CTRL_DISCARD (R460). -/
def R.PAGE_CTRL_DISCARD (pg : Nat) : Field := ⟨pg + 0x8, 1, 1⟩
/-- PAGE_STAT_PENDING (R460). -/
def R.PAGE_STAT_PENDING (pg : Nat) : Field := ⟨pg + 0xC, 0, 0⟩
/-- PAGE_STAT_APPLYING (R460). -/
def R.PAGE_STAT_APPLYING (pg : Nat) : Field := ⟨pg + 0xC, 1, 1⟩
/-- PAGE_STAT_LOCKED (R460). -/
def R.PAGE_STAT_LOCKED (pg : Nat) : Field := ⟨pg + 0xC, 2, 2⟩
/-- PAGE_STAT_REFUSED (R460). -/
def R.PAGE_STAT_REFUSED (pg : Nat) : Field := ⟨pg + 0xC, 3, 3⟩
/-- PAGE_STAT_DOMAIN_OFF (R460). -/
def R.PAGE_STAT_DOMAIN_OFF (pg : Nat) : Field := ⟨pg + 0xC, 4, 4⟩
/-- PAGE_STAT_GIRTH (R460). -/
def R.PAGE_STAT_GIRTH (pg : Nat) : Field := ⟨pg + 0xC, 5, 5⟩
/-- PAGE_STAT_COMMITS (R460). -/
def R.PAGE_STAT_COMMITS (pg : Nat) : Field := ⟨pg + 0xC, 15, 8⟩
/-- IRQ_RAW (R460). -/
def R.IRQ_RAW (pg : Nat) : Field := ⟨pg + 0x10, 31, 0⟩
/-- IRQ_EN (R460). -/
def R.IRQ_EN (pg : Nat) : Field := ⟨pg + 0x14, 31, 0⟩
/-- IRQ_PEND (R460). -/
def R.IRQ_PEND (pg : Nat) : Field := ⟨pg + 0x18, 31, 0⟩
/-- PAGE_OWNER (R460). -/
def R.PAGE_OWNER (pg : Nat) : Field := ⟨pg + 0x1C, 7, 0⟩
/-- PAGE_LOCK (R460). -/
def R.PAGE_LOCK (pg : Nat) : Field := ⟨pg + 0x20, 0, 0⟩
/-- EVT_SEL0_SUB (R460). -/
def R.EVT_SEL0_SUB (pg : Nat) : Field := ⟨pg + 0x24, 31, 0⟩
/-- EVT_SEL1_STREAM (R460). -/
def R.EVT_SEL1_STREAM (pg : Nat) : Field := ⟨pg + 0x28, 11, 0⟩
/-- EVT_SEL1_STRM_EN (R460). -/
def R.EVT_SEL1_STRM_EN (pg : Nat) : Field := ⟨pg + 0x28, 12, 12⟩
/-- EVT_SEL2_PRI (R460). -/
def R.EVT_SEL2_PRI (pg : Nat) : Field := ⟨pg + 0x2C, 3, 0⟩
/-- FAULT_LAST_RSEQ (R460). -/
def R.FAULT_LAST_RSEQ (pg : Nat) : Field := ⟨pg + 0x30, 15, 0⟩
/-- FAULT_LAST_CAUSE (R460). -/
def R.FAULT_LAST_CAUSE (pg : Nat) : Field := ⟨pg + 0x30, 31, 16⟩
/-- FAULT_LAST_SRC_SUB (R460). -/
def R.FAULT_LAST_SRC_SUB (pg : Nat) : Field := ⟨pg + 0x34, 15, 0⟩
/-- FAULT_LAST_SRC_CLASS (R460). -/
def R.FAULT_LAST_SRC_CLASS (pg : Nat) : Field := ⟨pg + 0x34, 18, 16⟩
/-- FAULT_LAST_SRC_ESC (R460). -/
def R.FAULT_LAST_SRC_ESC (pg : Nat) : Field := ⟨pg + 0x34, 19, 19⟩
/-- GID_PART_DEVICE (R467). -/
def R.GID_PART_DEVICE : Field := ⟨idPage + 0x40, 15, 0⟩
/-- GID_PART_FAMILY (R467). -/
def R.GID_PART_FAMILY : Field := ⟨idPage + 0x40, 31, 16⟩
/-- GID_STEP_STEPPING (R467). -/
def R.GID_STEP_STEPPING : Field := ⟨idPage + 0x44, 3, 0⟩
/-- GID_CAP0_TILES (R467). -/
def R.GID_CAP0_TILES : Field := ⟨idPage + 0x48, 7, 0⟩
/-- GID_CAP0_ENGINES (R467). -/
def R.GID_CAP0_ENGINES : Field := ⟨idPage + 0x48, 15, 8⟩
/-- GID_CAP0_REGIONS (R467). -/
def R.GID_CAP0_REGIONS : Field := ⟨idPage + 0x48, 23, 16⟩
/-- GID_CAP0_CLUSTERS (R467). -/
def R.GID_CAP0_CLUSTERS : Field := ⟨idPage + 0x48, 31, 24⟩
/-- GID_CAP1_DRAM (R467). -/
def R.GID_CAP1_DRAM : Field := ⟨idPage + 0x4C, 15, 0⟩
/-- GID_CAP1_SRAM (R467). -/
def R.GID_CAP1_SRAM : Field := ⟨idPage + 0x4C, 31, 16⟩
/-- GID_SERIAL (R467). -/
def R.GID_SERIAL (i : Nat) : Field := ⟨idPage + 0x50 + 4 * i, 31, 0⟩
/-- GID_FW_VER (R467). -/
def R.GID_FW_VER : Field := ⟨idPage + 0x60, 15, 0⟩
/-- GID_FW_ROM_VER (R467). -/
def R.GID_FW_ROM_VER : Field := ⟨idPage + 0x60, 23, 16⟩
/-- GID_SCRATCH (R467). -/
def R.GID_SCRATCH (i : Nat) : Field := ⟨idPage + 0x64 + 4 * i, 31, 0⟩

end Sys2Proof.Machine
end

