-- ==== Sys2Proof/Machine/Table.lean ====
section
/-! DEFINITION. Sparse tables in canonical form: sorted lists of key and value pairs that list no default value. The
register bank, the memories and the per-unit states are tables; equal tables are equal data. -/

namespace Sys2Proof.Machine

section
variable {α : Type}

/-- The value at key `k`; an unlisted key holds its default `d k`. -/
def tblGet (d : Nat → α) : List (Nat × α) → Nat → α
  | [], k => d k
  | (j, x) :: t, k => if k = j then x else tblGet d t k

/-- Put `v` at key `k`, keeping the keys strictly rising. -/
def tblIns : List (Nat × α) → Nat → α → List (Nat × α)
  | [], k, v => [(k, v)]
  | (j, x) :: t, k, v =>
    if k < j then (k, v) :: (j, x) :: t
    else if k = j then (k, v) :: t
    else (j, x) :: tblIns t k v

/-- Drop every entry at key `k`. -/
def tblDel : List (Nat × α) → Nat → List (Nat × α)
  | [], _ => []
  | (j, x) :: t, k => if k = j then tblDel t k else (j, x) :: tblDel t k

/-- Write `v` at key `k` in canonical form: writing the default removes the entry. -/
def tblSet [DecidableEq α] (d : Nat → α) (t : List (Nat × α)) (k : Nat) (v : α) : List (Nat × α) :=
  if v = d k then tblDel t k else tblIns t k v

/-- The entry at key `k`, if one is listed. -/
def tblFind : List (Nat × α) → Nat → Option α
  | [], _ => none
  | (j, x) :: t, k => if k = j then some x else tblFind t k

/-- The keys rise strictly. -/
def tblSorted : List (Nat × α) → Bool
  | [] => true
  | (j, _) :: t => t.all (fun e => j < e.1) && tblSorted t

/-- The canonical form: the keys rise strictly and no entry holds its key's default. -/
def tblWf [DecidableEq α] (d : Nat → α) (t : List (Nat × α)) : Bool :=
  tblSorted t && t.all fun e => decide (e.2 ≠ d e.1)

end

end Sys2Proof.Machine
end

