-- ==== Sys2Proof/Machine/State.lean ====
section
/-! DEFINITION. The state of the block as plain data: the register bank, the memories, and the state behind the registers
of every unit. A unit's part that no register shows stands in a structure of its own, listed here chapter by chapter. -/

namespace Sys2Proof.Machine

/-- Why the block stops. No rule of the spec stops it, so no meaning raises one. -/
inductive Fault where
  /-- Raised by nobody: every command ends in a next state. Safe. -/
  | none
deriving DecidableEq, Repr

/-- Why a command has no meaning here. -/
inductive Refusal where
  /-- A command that has no meaning yet: its arm of `exec` names it. Safe. -/
  | notModelled (mnemonic : String)
deriving DecidableEq, Repr

/-- A fault record (R433). -/
structure FltRec where
  rseq : Nat
  cls : Nat
  esc : Bool
  remote : Bool
  orig : Nat
  unit : Nat
  sub : Nat
  cause : Nat
  isrc : Nat
  info : Nat
  time : Nat
  cal : Nat
deriving DecidableEq, Repr

/-- An active source (R441): its unit and part, the class and RSEQ it holds, its cause, and the page that raised it. -/
structure ActSrc where
  unit : Nat
  sub : Nat
  cls : Nat
  rseq : Nat
  cause : Nat
  page : Page
deriving DecidableEq, Repr

/-- An entry of the lichen ledger's log (R428 READ_LOG). -/
inductive LogEntry where
  | record (r : FltRec)
  | irq (source : Nat) (cal : Nat)
  | rtcSet (old new : Nat)
  | pfail (v24 : Bool) (cal : Nat)
  | unlock (scope notAfter cal : Nat)
  | glitch (mon cal : Nat)
deriving DecidableEq, Repr

/-- What a log entry records, as numbers. -/
def LogEntry.parts : LogEntry → List Nat
  | .record r => [0, r.rseq, r.cls, r.esc.toNat, r.remote.toNat, r.orig, r.unit, r.sub, r.cause, r.isrc, r.info, r.time, r.cal]
  | .irq source cal => [1, source, cal]
  | .rtcSet old new => [2, old, new]
  | .pfail v24 cal => [3, v24.toNat, cal]
  | .unlock scope notAfter cal => [4, scope, notAfter, cal]
  | .glitch mon cal => [5, mon, cal]

/-- What the device reports to the host through AER or the CXL RAS registers (R365, R366, R439). -/
inductive AerReport where
  | completionTimeout
  | poisonedCompletion
  | ideCheckFailed
  /-- A malformed or unsupported host request: Unsupported Request or Completer Abort. -/
  | unsupported
  /-- The device enters class 4, or class 5. -/
  | internalNonFatal
  | internalFatal
  /-- Uncorrectable ECC on a CXL.mem read: a CXL RAS uncorrectable memory error. -/
  | memoryError
deriving DecidableEq, Repr

/-- What the fault page's registers do not show (R438 to R443). -/
structure FltSt where
  /-- RSEQ of the last record raised; the first record takes 1. -/
  rseq : Nat := 0
  /-- The FIFO, oldest first. -/
  fifo : List FltRec := []
  /-- The 64 slots of the active table in use. -/
  active : List (Nat × ActSrc) := []
  /-- Causes of the class 4 records since the entry into class 4 (R440). -/
  c4Causes : List Nat := []
  /-- SAFE_N is asserted. -/
  safeN : Bool := false
  /-- A class 5 reset runs (R444). -/
  c5Reset : Bool := false
  /-- PFAIL is asserted (R419). -/
  pfail : Bool := false
  /-- The errors reported to the host, newest first, each with whether its message is the fatal one (R366). -/
  aer : List (AerReport × Bool) := []
deriving DecidableEq, Repr

/-- Interrupt delivery (R361, R447): MSI-X enable and function mask, each vector's mask, the pending bits, the messages
sent (newest first) and the calendar second of each source's last log entry. -/
structure MsixSt where
  enabled : Bool := false
  funcMask : Bool := false
  unmasked : List Nat := []
  pending : List Nat := []
  sent : List Nat := []
  logged : List (Nat × Nat) := []
deriving DecidableEq, Repr

/-- A pin cell behind its registers (chapters 02, 03 and 05). -/
structure PinSt where
  /-- Voltage in microvolts and line receiver as last seen (R35). -/
  uV : Int := 0
  line : Bool := false
  /-- Window comparator output (R26). -/
  cmp : Bool := false
  /-- DIN24 threshold state before the debounce (R27). -/
  dinRaw : Bool := false
  din : Bool := false
  /-- Zero-crossing comparator of an ENC_SINCOS pair, at its lead pin (R24). -/
  zeroX : Bool := false
  /-- The owner has set the output enable since the function attached (R43). -/
  oeArmed : Bool := false
  /-- Device time at which the function attached: an ISRC ramps from then on (R43). -/
  since : Nat := 0
  /-- The function that attaches at the end of the gap (R42), and whether the gap is the 2 µs one (R41). -/
  nextFunc : Nat := 0
  longGap : Bool := false
  /-- The criteria that hold a live wire condition (R51). -/
  crits : List Crit := []
  openRun : Nat := 0
  openGood : Nat := 0
  shortRun : Nat := 0
  shortGood : Nat := 0
  pairRun : Nat := 0
  pairGood : Nat := 0
  overload : Bool := false
  /-- SN is open after a trip (R59). -/
  snOpen : Bool := false
  /-- The pin's SL switch is closed (R70), and the lane it joins. -/
  slClosed : Bool := false
  /-- Output level, enable and declared safe value from the owning region's port (R40, R307). -/
  fabLevel : Bool := false
  /-- The safe value that its region's section declares for the output enable (R307): 0, 1, or 2 for HOLD. -/
  fabSafeOe : Nat := 0
  fabOe : Bool := false
  fabSafe : Nat := 0
  /-- The DOUT24 switch is on (R28). -/
  doutOn : Bool := false
  /-- The slew limiter's target (R123); OUT_TARGET can run ahead of it. -/
  limit : Nat := 0x8000
  /-- The code that waits under R133 or R134. -/
  defer : Option Nat := none
  /-- The level at the output stage, none while it is disconnected. -/
  stage : Option Nat := none
  /-- The slew settings that a range change, or a ramp to the fault value, still uses (R132, R135): SLEW_EN, STEP and INTV. -/
  oldSlew : Nat × Nat × Nat := (0, 1, 0)
  /-- A fault event met the range change (R135). -/
  rchgFault : Bool := false
  /-- FAULT_HOLD was cleared during the range change: at its step 3 the output ramps to OUT_TARGET (R131). -/
  rampBack : Bool := false
  /-- The watchdog event persists: no accepted write since the expiry (R131). -/
  wdogLive : Bool := false
  /-- A write was accepted since attach (R135), or since the last range change. -/
  written : Bool := false
  /-- STALE stands for a range change: only a write that is applied clears it (R132). -/
  rangeStale : Bool := false
deriving DecidableEq, Repr

/-- A frame of sample words (R91): its words in order, the first word's instant, its stream, and FLAGS.LAST. -/
structure Frame where
  words : List Word
  time : Nat
  stream : Nat
  last : Bool
deriving DecidableEq, Repr

/-- A decimator channel behind its registers (R112 to R115): input words not yet consumed with their instants, the q integrators and q combs,
the half-band delay lines (newest first), the flag counters of R114 other than SETTLE's (OVR, STALE, PLAUS, UNCAL, WIRE, INTLV) and the output
SEQ. -/
structure DecSt where
  inq : List (Word × Nat) := []
  integ : List Int := []
  comb : List Int := []
  hb0 : List Int := []
  hb1 : List Int := []
  hb2 : List Int := []
  flags : List Nat := [0, 0, 0, 0, 0, 0]
  seq : Nat := 0
deriving DecidableEq, Repr

/-- A sine generator behind its registers (R136 to R139): accumulator, last phase address and output code. -/
structure SgSt where
  acc : Nat := 0
  lastP : Nat := 0
  code : Nat := 0x8000
  /-- SG_AMP_PH of a commit without RESYNC that still waits for its phase wrap while a later commit waits for SG_T0 (R138, R139). -/
  early : Option Word := none
deriving DecidableEq, Repr

/-- A ramp of a channel's coefficients (R157): the sets it leaves and reaches, its step and its number of steps. -/
structure Ramp where
  off0 : Int
  gain0 : Nat
  off1 : Int
  gain1 : Nat
  step : Nat
  steps : Nat
deriving DecidableEq, Repr

/-- The capture of a system calibration (R154): channel and point; words taken, their sum, smallest and largest x16; B's
checked conversions and their sum; the accepted means; and the coefficients found. -/
structure Capture where
  ch : Nat := 0
  point : Nat := 0
  count : Nat := 0
  sum : Int := 0
  low : Int := 0
  high : Int := 0
  bCount : Nat := 0
  bSum : Int := 0
  m0 : Int := 0
  m1 : Int := 0
  off : Int := 0
  gain : Nat := 0
deriving DecidableEq, Repr

/-- What one on-request or power-up calibration works on (R144, R147). -/
inductive CalWork where
  | powerUp
  | request (scope ch : Nat)
deriving DecidableEq, Repr

/-- A tile behind its registers (chapters 03 to 06). -/
structure TileSt where
  /-- Power-up self-calibration completed (R143). -/
  selfCal : Bool := false
  /-- A fiddlehead start of the tile is wanted by a restart or a release (R75, R437). -/
  restarting : Bool := false
  /-- Consecutive reference and zero comparisons beyond and within their limits (R73). -/
  refBad : Nat := 0
  refGood : Nat := 0
  zeroBad : Nat := 0
  zeroGood : Nat := 0
  /-- Consecutive readings at or above 120.0 °C (R75). -/
  hot : Nat := 0
  /-- Lane drive connections actually closed, and the taps' connected lanes (R70). -/
  drvClosed : List Nat := []
  tapLane : List (Nat × Nat) := []
  /-- Closings that wait for step 3 of R70: segments, drive entries. -/
  segWant : Nat := 0
  drvWant : List Nat := []
  /-- Nets, as tile and lane, that the openings of the commit in progress changed (R70). -/
  netChg : List (Nat × Nat) := []
  /-- Connections whose PROT bit was cleared and that close again (R71). -/
  protWait : List LaneConn := []
  /-- A triggered pass runs (R87); the pass number (R97); the source converted last (R88). -/
  passRun : Bool := false
  passNo : Nat := 0
  /-- Device times in 250 ps units: the end of the pass begun last, and before which no pass, and no interleaved word, starts (R86,
  R87, R109). -/
  passEnd : Nat := 0
  passFrom : Nat := 0
  lastSrc : Nat := 0xA
  /-- Conversions of A and of B that still recover from an overdrive (R99). -/
  recover : Nat := 0
  recoverB : Nat := 0
  /-- Words since the last check (R102). -/
  chkWait : Nat := 0
  /-- Partial frames by output: 0 to 15 raw slots, 16 interleave, 17 to 24 decimators (R91). -/
  part : List (Nat × Frame) := []
  /-- Words of the running pass, slot, word and sampling instant, which leave when it ends (R117). -/
  passOut : List (Nat × Word × Nat) := []
  /-- Complete or cut frames that wait for the scheduler, oldest first, with their output. -/
  ready : List (Nat × Frame) := []
  /-- The OVERRUN episode of R93 runs. -/
  overrun : Bool := false
  /-- SEQ of the interleave output (R97). -/
  intlvSeq : Nat := 0
  /-- Words of a slot before its calibration began (R96). -/
  lastVal : List (Nat × Nat) := []
  decs : List (Nat × DecSt) := []
  sgs : List (Nat × SgSt) := []
  /-- Sequencer stopping for interleave entry (R110) or exit (R111). -/
  intlvEnter : Bool := false
  intlvExit : Bool := false
  /-- Calibration work in progress (R144, R147). -/
  work : Option CalWork := none
  /-- Device time at which a self-calibration on request began (R147). -/
  workAt : Nat := 0
  /-- Cores that failed a calibration and are retired (R146). -/
  retired : Nat := 0
  /-- The self-calibration is wanted, or runs, for want of a valid TILE_SELF record at a fiddlehead start (R166). -/
  recal : Bool := false
  /-- The power-up self-calibration has begun (R144). -/
  begun : Bool := false
  /-- A self-calibration failed and none has succeeded since (R145). -/
  selfFail : Bool := false
  /-- The rotation in progress: the logical core it serves, 2 for none; which one the next serves; a rotation that waits for
  a range change (R135, R159). -/
  rotCore : Nat := 2
  rotNext : Nat := 0
  rotDue : Bool := false
  cap : Capture := {}
  /-- Ramps in progress by channel (R157), and the RANGE whose set each channel uses (R151). -/
  ramps : List (Nat × Ramp) := []
  setRange : List (Nat × Nat) := []
deriving DecidableEq, Repr

/-- Where an item stands in the scheduler (R273, R285, R288, R293): held behind a gap, taken but not yet accepted, waiting
for dispatch, in its unit's input buffer, being executed, executed. -/
inductive Phase where
  | held | taken | waiting | sent | running | executed
deriving DecidableEq, Repr

/-- An item in flight. `tmp` marks an item that a quiesce parked in the journal (R291). -/
structure Flight where
  item : Item
  phase : Phase
  isD : Bool
  tmp : Bool := false
  /-- The item is in the journal copies (R285). -/
  jrn : Bool := false
  /-- Its idempotency key is committed (R300). -/
  keyed : Bool := false
  /-- The latigo port it arrived through (R339). -/
  via : Option Nat := none
  /-- The result item, by stream and SEQ, whose acceptance its execution waits for (R286). -/
  owes : Option (Nat × Nat) := none
deriving DecidableEq, Repr

/-- An item that a unit offers to the scheduler (R270, R271): its tag without SEQ, the item whose result it is (R286), and the
fabric output port that presents it (R310). -/
structure Offer where
  item : Item
  serves : Option (Nat × Nat) := none
  port : Option Nat := none
deriving DecidableEq, Repr

/-- A stream behind its table entry (R262 to R284). The fields of the entry are those read at the OPEN. -/
structure StreamSt where
  state : Nat := 0
  isD : Bool := false
  pri : Nat := 0
  wake : Bool := false
  spri : Nat := 0
  bind : Nat := 0
  src : Nat := 0
  dst : Nat := 0
  reply : Nat := 0
  replyEn : Bool := false
  gapTmo : Nat := 1000
  keyed : Bool := false
  logNent : Nat := 0
  esz : Nat := 0
  dbase : Nat := 0
  valid : Bool := false
  /-- E, TX and CKPT (R273, R275). -/
  exp : Nat := 1
  tx : Nat := 0
  ckpt : Nat := 0
  /-- ACC_SEQ, RET_SEQ and the refusal part of the completion record (R281). -/
  acc : Nat := 0
  ret : Nat := 0
  rejSeq : Nat := 0
  rejCode : Nat := 0
  rejCnt : Nat := 0
  gen : Nat := 0
  dirty : Bool := false
  /-- RET_SEQ of the last record written (R287). -/
  retOut : Nat := 0
  /-- The ACK_SEQ in use, the value an OPEN accepts, and the last SEQ written into the ring (R284). -/
  ack : Option Nat := none
  ackBase : Nat := 0
  lastOut : Nat := 0
  /-- SEQ values accepted, or executed, ahead of ACC_SEQ or RET_SEQ, or passed by a SKIP. -/
  accAhead : List Nat := []
  retAhead : List Nat := []
  /-- The next item carries LOSS (R295). -/
  loss : Bool := false
  /-- The gap of a DRAINING stream has raised its fault (R274). -/
  gapRaised : Bool := false
  /-- SEQ and key of the item whose key is being committed (R300). -/
  keyWork : Option (Nat × Nat) := none
deriving DecidableEq, Repr

/-- A submission ring behind its registers (R276, R278): the values in effect and the lines' contents. -/
structure RingSt where
  run : Bool := false
  nent : Nat := 16
  base : Nat := 0
  prod : Nat := 0
  cons : Nat := 0
  /-- Index of the next entry to take, and the entries from CONS on that wait for the journal: none once the outcome is
  fixed, else the item's stream and SEQ (R278). -/
  next : Nat := 0
  open_ : List (Option (Nat × Nat)) := []
  rejIdx : Nat := 0
  rejCode : Nat := 0
  gen : Nat := 0
  dirty : Bool := false
  /-- The ring was enabled while no host line could be read: PROD and CONS are read when one can. -/
  fresh : Bool := false
deriving DecidableEq, Repr

/-- What an output port of a region shows its logic (R310): an item presented and not yet taken, TAKEN, and REFUSED with its
code. -/
structure FabPort where
  busy : Bool := false
  taken : Bool := false
  refused : Option Nat := none
deriving DecidableEq, Repr

/-- The scheduler (chapter 10). -/
structure SchedSt where
  streams : List (Nat × StreamSt) := []
  rings : List (Nat × RingSt) := []
  /-- Items in flight, oldest first. -/
  flights : List Flight := []
  /-- Items that units offer, oldest first (R271). -/
  offers : List Offer := []
  /-- Units that quiesce (R293): 1 waiting for running work, 2 abandoning it, 3 returned. -/
  quiesce : List (Nat × Nat) := []
  /-- A warm reset or PFAIL has stopped the taking of ring entries (R368, R419). -/
  stopped : Bool := false
  /-- Output ports of the regions at key 16 * region + port (R310). -/
  ports : List (Nat × FabPort) := []
deriving DecidableEq, Repr

/-- An invocation of an engine (R173): its input item, handler, PRI, entry bundle (R202), and where the item lies in the
input buffer; the device time at which it was queued. -/
structure Inv where
  stream : Nat
  seq : Nat
  handler : Nat
  pri : Nat
  entry : Nat
  addr : Nat
  len : Nat
  flags : Nat
  ctx : Nat
  queued : Nat
  /-- A running invocation of a lower level was, or stands, pre-empted for it (R203). -/
  pre : Bool := false
deriving DecidableEq, Repr

/-- An accumulator (R180). -/
structure Accum where
  v : BitVec 72 := 0
  aov : Bool := false
  dir : Bool := false
deriving DecidableEq, Repr

/-- The registers that a program sees (R172); `rpt…` is RPT: remaining count, body start, length and position, and whether a
body runs. -/
structure EngRegs where
  g : List (Nat × Word) := []
  p : List (Nat × BitVec 48) := []
  m : List (Nat × Word) := []
  l : List (Nat × BitVec 24) := []
  /-- Staged lengths with their pending bits. -/
  lst : List (Nat × (BitVec 24 × Bool)) := []
  b : List (Nat × BitVec 48) := []
  acc : List (Nat × Accum) := []
  wsel : List (Nat × Word) := []
  bexp : Word := 31
  flg : Word := 0
  pc : Nat := 0
  rptOn : Bool := false
  rptCnt : Nat := 0
  rptStart : Nat := 0
  rptLen : Nat := 1
  rptPos : Nat := 0
deriving DecidableEq, Repr

/-- What a slot of a bundle does beyond its register writes (R206). Addresses are device virtual. -/
inductive Act where
  | none
  /-- A load of `size` bytes into G `d`, sign-extended; a pair for LDD; scaled by SHIFT for BLD. -/
  | load (d size addr : Nat) (sign pair bld : Bool)
  | store (size addr val : Nat)
  /-- TAPM: accumulator, addresses of c and x, address of the move (none for .NM and .H), halves (R192). -/
  | tapm (n c x : Nat) (move : Option Nat) (halves : Bool)
  | branch (tgt : Nat)
  | loop (cnt len : Nat)
  | send (gs pt pp len : Nat) (e : Bool)
  | finish
  | fence
  | trap (imm : Nat)
deriving DecidableEq, Repr

/-- What the instruction of one slot does, computed from the registers before its bundle (R176): the exceptions it raises,
the registers it writes, the pointer steps, and its action. -/
structure Eff where
  slot : Nat
  exc : List Nat := []
  g : List (Nat × Word) := []
  p : List (Nat × BitVec 48) := []
  m : List (Nat × Word) := []
  l : List (Nat × BitVec 24) := []
  limm : List (Nat × BitVec 24) := []
  b : List (Nat × BitVec 48) := []
  acc : List (Nat × Accum) := []
  wsel : List (Nat × Word) := []
  /-- Bits of BEXP written, their values, and what kind of BEXP access it is (R221): 1 a move, 2 BINIT, BEND or BADJ, 3
  BBEGIN, 4 BLD, 5 BST. -/
  bexpMask : Word := 0
  bexp : Word := 0
  bexpKind : Nat := 0
  /-- Bits of FLG written, their values, and the bits it counts as writing (R221). -/
  flgMask : Word := 0
  flg : Word := 0
  flgHit : Bool := false
  steps : List (Nat × Int) := []
  act : Act := .none
  /-- G registers that its action writes (R221), and whether R194 bars it from a REPEAT body. -/
  gAct : List Nat := []
  accAct : List Nat := []
  barred : Bool := false
  stalls : Nat := 0
  /-- Products that its MAC units form (R448). -/
  products : Nat := 0
  /-- What the ECC of the memories it reads finds (R222, R228). -/
  ecc : EccOutcome := .clean
deriving DecidableEq, Repr

/-- Flags STALE and OVR_ANY of inputs that a program consumed since its last result on a stream (R19), by stream; and those that
every stream with no result since carries. -/
structure MarkSt where
  tab : List (Nat × Nat) := []
  all : Nat := 0
deriving DecidableEq, Repr

/-- An engine behind its registers (chapters 07 and 08). -/
structure EngSt where
  /-- Invocations queued, oldest first; the one that issues; those pre-empted, by level. -/
  queue : List Inv := []
  run : Option Inv := none
  saved : List (Nat × Inv) := []
  /-- Items in ENG_INBUF: offset from BASE and room, in order of delivery, and the write position (R174). -/
  slots : List (Nat × Nat) := []
  wr : Nat := 0
  /-- The running invocation, or the pre-empted one of a level, is suspended on an access (R250, R254). -/
  susp : Bool := false
  suspLvl : Nat := 0
  /-- The access that is suspended waits for the link (R254). -/
  link : Bool := false
  regs : EngRegs := {}
  /-- The slot of the current bundle that was issued first. -/
  half : Option Eff := none
  /-- Cycles of the running iteration of a REPEAT body (R194). -/
  iter : Nat := 0
  /-- HALT was written inside a REPEAT body (R202); TEST waits for the last invocation (R182); a self-test runs. -/
  haltWant : Bool := false
  testWant : Bool := false
  /-- What a result sent now carries of its inputs (R19); what it would carry without the inputs of the running invocation and of
  those pre-empted; and the marks of each pre-empted invocation, by level, which a pre-empting one neither sees nor disturbs
  (R200). -/
  marks : MarkSt := {}
  base : MarkSt := {}
  kept : List (Nat × MarkSt) := []
  /-- The invocations are abandoned at the next pre-emption point (R294). -/
  abandonWant : Bool := false
  /-- Program reloaded since the entry into RECOVER (R181). -/
  reloaded : Bool := false
  /-- The self-test of the state has passed while the program is not reloaded yet (R181). -/
  tested : Bool := false
deriving DecidableEq, Repr

/-- An entry of a TLB (R239): ASID, page size in bits, page number, physical page base, G, and the rights of the walk. -/
structure TlbEnt where
  asid : Nat
  size : Nat
  page : Nat
  base : Nat
  glob : Bool
  r : Bool
  w : Bool
deriving DecidableEq, Repr

/-- A DMA channel behind its registers (R242 to R257). -/
structure DmaSt where
  /-- The item it serves: stream, SEQ, CTX and PRI; whether REPLAY marks it (R270). -/
  item : Option (Nat × Nat) := none
  ctx : Nat := 0
  pri : Nat := 0
  replay : Bool := false
  /-- The list it works on: none for the payload, else the virtual address and length; the position in that list. -/
  list : Option (Nat × Nat) := none
  pos : Nat := 0
  /-- Index of the descriptor reached, whether it was fetched and has passed its checks, and its bytes; the row and offset
  reached; the bytes written. -/
  desc : Nat := 0
  begun : Bool := false
  cur : List Byte := []
  row : Nat := 0
  off : Nat := 0
  bytes : Nat := 0
  /-- STATUS and CAUSE with which the item ends (R247). -/
  ended : Option (Nat × Nat) := none
  /-- CAP_STOP was written; the offset of the next record in the capture buffer (R249). -/
  stop : Bool := false
  wp : Nat := 0
  /-- The suspension waits for the link (R254). -/
  link : Bool := false
deriving DecidableEq, Repr

/-- The memories (R224), by address: data memory of engine e at e * 0x1_0000, shared SRAM, the DRAM user area, instruction
memory of engine e at e * 0x8000, and the last byte the device wrote at each host address; and the TLBs, most recently used
entry first, at key e for engine e and 128 + c for DMA unit c (R239). `hostOwn` lists 1 for each host byte that the device wrote.
`key` is the 512-bit memory key that the controller holds (R229), and `turns` gives, for each DMA unit that has issued a burst, 1
plus the channel of the last one (R242). -/
structure MemSt where
  loc : List Host.Cell := []
  sram : List Host.Cell := []
  dram : List Host.Cell := []
  imem : List Host.Cell := []
  hostOut : List Host.Cell := []
  hostOwn : List Host.Cell := []
  key : Option Nat := none
  turns : List (Nat × Nat) := []
  tlbs : List (Nat × List TlbEnt) := []
deriving DecidableEq, Repr

/-- An operation of a COUNTER item that waits for its START (R312). -/
structure CntOp where
  op : Nat
  count : Nat
  period : Nat
  width : Nat
  start : Nat
deriving DecidableEq, Repr

/-- A hard counter block (R311 to R313): its mode, what a Z pulse does (0 nothing, 1 latch, 2 clear), the edge that CAPTURE
selects (0 rising, 1 falling, 2 both), its inputs as last seen, the counts that Z and the device times that CAPTURE latched,
and its output with period, width and the pulses left. -/
structure CntSt where
  mode : Nat := 0
  zact : Nat := 0
  edge : Nat := 0
  count : BitVec 48 := 0
  a : Bool := false
  b : Bool := false
  z : Bool := false
  latched : Nat := 0
  captured : Nat := 0
  period : Nat := 2
  width : Nat := 1
  left : Nat := 0
  run : Bool := false
  out : Bool := false
  /-- Operations accepted whose START lies ahead. -/
  waiting : List CntOp := []
  /-- The glitch filter in FCLK periods, and the inputs whose change it still holds back, with the device time of the change. -/
  filt : Nat := 0
  glitch : List (Nat × Nat) := []
  /-- The field pins that the region routes to the inputs: input q and pin 8 t + n. -/
  pins : List (Nat × Nat) := []
deriving DecidableEq, Repr

/-- A GIO pin's output from its region (R307), the declared safe values of its level and its enable, the pulses that PPS_OUT made
on it with the device time of the last one (R34), and the counter output that HOLD keeps behind the girth (R313). -/
structure GioOut where
  level : Bool := false
  oe : Bool := false
  safe : Nat := 0
  safeOe : Nat := 0
  pulses : Nat := 0
  ppsAt : Option Nat := none
  held : Bool := false
deriving DecidableEq, Repr

/-- The cells of a region (R304): the configuration that was loaded, in the fabric's own format, and the flip-flops of its 16,384
cells, cell k at bit k. -/
structure CellSt where
  cfg : List Byte := []
  flops : Nat := 0
deriving DecidableEq, Repr

/-- The fabric behind its registers (chapter 11): the cells of each region, crossings at key 64 * region + k, GIO outputs, counter
blocks, and the unit codes whose girth a reload holds closed. -/
structure FabSt where
  cells : List (Nat × CellSt) := []
  cross : List (Nat × Bool) := []
  gioOut : List (Nat × GioOut) := []
  cnts : List (Nat × CntSt) := []
  shut : List Nat := []
  /-- The instant of the last pulse of each trigger source, for the TRIG_OUT pins (R450). -/
  pulse : List (Nat × Nat) := []
deriving DecidableEq, Repr

/-- The reconfiguration controller behind its registers (R314 to R319). -/
structure RcfgSt where
  img : Option PersStream := none
  /-- KIND and INDEX of the command, and the target's unit code. -/
  kind : Nat := 0
  index : Nat := 0
  target : Nat := 0
  /-- The target's girth is closed (step 4 of R315), since the device time given. -/
  girth : Bool := false
  since : Nat := 0
deriving DecidableEq, Repr

/-- A personality load behind LOAD_STAT (R327 to R332): the stream being loaded and the sections applied; the end of the
running deadline in device time, and whether the first one has begun; step 3 passed; the
positions that reported VERIFIED and DONE; the digest of the loaded personality (R325); and whether a class 4 fault or PFAIL
stopped the load at step 6 (R345). -/
structure LoadSt where
  img : Option PersStream := none
  staged : Option PersStream := none
  deadline : Option Nat := none
  begun : Bool := false
  sigOk : Bool := false
  verified : List Nat := []
  done : List Nat := []
  digest : Nat := 0
  stopped : Bool := false
  len : Nat := 0
deriving DecidableEq, Repr

/-- Device time behind its registers (R342, R343, R413): lock counts, missed beacons, the error still to be slewed away in fs,
and the fraction of a ns in ppb that the rate has accumulated. -/
structure TimeSt where
  good : Nat := 0
  bad : Nat := 0
  missed : Nat := 0
  everLocked : Bool := false
  slew : Int := 0
  frac : Nat := 0
deriving DecidableEq, Repr

/-- A latigo frame's content (R337). -/
inductive LatMsg where
  | ack | nak
  | credit (counts : List Nat)
  | item (it : Item)
  | itemAcc (stream seq : Nat)
  | load (off : Nat) (bytes : List Byte)
  | loadctl (op pos code deadline : Nat)
  | beacon (t1 d : Int)
  | beaconReply (t1 t2 t3 : Int)
  | fault (cls origin cause source : Nat)
  | reg (op tag off value : Nat)
deriving DecidableEq, Repr

/-- A frame as it leaves a port (R336): its FSEQ, its ACK and its content. -/
structure LatFrame where
  fseq : Nat
  ack : Nat
  msg : LatMsg
deriving DecidableEq, Repr

/-- A latigo port behind its registers (R336 to R343). -/
structure PortSt where
  /-- FSEQ of the next frame sent and of the next frame expected. -/
  txSeq : Nat := 1
  rxSeq : Nat := 1
  /-- Frames sent and not acknowledged, oldest first (at most 64), and frames that wait for room or credit. -/
  replay : List (Nat × LatMsg) := []
  waiting : List LatMsg := []
  /-- Frames that left the port, newest first. -/
  out : List LatFrame := []
  /-- The highest FSEQ received in order. -/
  rxLast : Nat := 0
  /-- Items that the receive buffer keeps until the journal has room (R290, R339), oldest first. -/
  inbox : List Item := []
  /-- Frames that the partner may never have had were given up: their items leave again once the link is ACTIVE (R296, R338). -/
  lost : Bool := true
  /-- Replays of the oldest frame without progress. -/
  tries : Nat := 0
  /-- Credits the partner grants, and receive room this port has still to grant, by PRI, in 64-byte units (R339). -/
  credits : List Nat := [0, 0, 0, 0]
  room : List Nat := [1024, 1024, 1024, 1024]
  /-- Frames received since the last acknowledgement (R338). -/
  unacked : Nat := 0
  /-- A powered partner is present; its serial number, stepping and position from the parameter exchange (R333). -/
  partner : Bool := false
  partnerSerial : Nat := 0
  partnerStep : Nat := 0
  partnerPos : Nat := 0
deriving DecidableEq, Repr

/-- A system calibration record's payload (R165). -/
structure CalRec where
  off : Int := 0
  gain : Nat := 0x400000
  m0 : Int := 0
  m1 : Int := 0
  ref0 : Int := 0
  ref1 : Int := 0
  time : Nat := 0
  hours : Nat := 0
  count : Nat := 0
  avg : Nat := 0
  flags : Nat := 0
deriving DecidableEq, Repr

/-- A slot of a calibration record (R163): TYPE, VER, KEY, LEN, SEQ, whether DIGEST matches what the slot holds, and the payload. Of
the payload of TILE_SELF, whose content the spec leaves to the tile, COUNT and CAL_TIME are used. -/
structure CalSlot where
  typ : Nat := 0
  ver : Nat := 1
  key : Nat := 0
  len : Nat := 0
  seq : Nat := 0
  ok : Bool := true
  body : CalRec := {}
deriving DecidableEq, Repr

/-- The two slots of a record (R163). -/
structure CalPair where
  a : CalSlot := {}
  b : CalSlot := {}
deriving DecidableEq, Repr

/-- The lifetime counters (R423, R424) and the histograms (R425): overload and switching counts by field pin, energised hours
at 3 * tile + core, bins at 18 * tile + bin. -/
structure Counts where
  hours : Nat := 0
  epoch : Nat := 0
  loads : Nat := 0
  unlocks : Nat := 0
  glitches : Nat := 0
  owners : Nat := 0
  fwUpdates : Nat := 0
  rtcSets : Nat := 0
  overloads : List (Nat × Nat) := []
  switches : List (Nat × Nat) := []
  energised : List (Nat × Nat) := []
  hist : List (Nat × Nat) := []
deriving DecidableEq, Repr

/-- A ledger command in progress (R428): OP, LDG_ARG, and the bytes of LDG_DATA. -/
structure LdgWork where
  op : Nat
  arg : Nat
  data : Nat
deriving DecidableEq, Repr

/-- The lichen ledger (chapter 15): its log, newest first, lifetime counters, reminders, calibration records, stream records. -/
structure LedgerSt where
  log : List LogEntry := []
  /-- The counters as they count, and as they were last committed (R423). -/
  live : Counts := {}
  kept : Counts := {}
  /-- Physical cores, at 3 * tile + core, that served a connected output in the current hour (R423). -/
  served : List Nat := []
  reminders : List (Nat × Reminder) := []
  /-- SYS_CH records by KEY, and TILE_SELF records by tile (R163). -/
  cal : List (Nat × CalPair) := []
  selfRec : List (Nat × CalPair) := []
  /-- Keys committed by stream, newest first, at most 256 (R300). -/
  keys : List (Nat × List Nat) := []
  /-- The records of a flush (R299): RET_SEQ by stream, the personality digest, and CLEAN. -/
  strRet : List (Nat × Nat) := []
  digest : Nat := 0
  clean : Bool := false
  /-- The ledger command in progress (R428). -/
  work : Option LdgWork := none
  /-- Commits of each record, and the bytes of the wear reserve taken by slots that have moved (R421). -/
  writes : List (Nat × Nat) := []
  reserve : Nat := 0
deriving DecidableEq, Repr

/-- A record of the ledger's areas (R420), all but the firmware banks and the certificates, which no command writes: the owner records,
RSV and the anti-rollback mirror; TILE_SELF by tile and SYS_CH by KEY; the lifetime counters; stream records; keys by stream; reminders
by slot. -/
inductive LedgerRec where
  | owners | rsv | fuses
  | tileSelf (t : Nat)
  | sysCh (key : Nat)
  | counters | restore
  | keys (stream : Nat)
  | reminder (k : Nat)
deriving DecidableEq, Repr

/-- The number under which a record's commits are counted. -/
def LedgerRec.index : LedgerRec → Nat
  | .owners => 0
  | .rsv => 1
  | .fuses => 2
  | .counters => 3
  | .restore => 4
  | .tileSelf t => 0x100 + t
  | .reminder k => 0x200 + k
  | .keys k => 0x1000 + k
  | .sysCh k => 0x2000 + k

/-- The bytes of a record's slot, header and payload (R163, R300, R380, R424 to R426). -/
def LedgerRec.bytes : LedgerRec → Nat
  | .owners => 352
  | .rsv => 64
  | .fuses => 64
  | .counters => 5952
  | .restore => 65600
  | .tileSelf _ => 4128
  | .sysCh _ => 96
  | .keys _ => 2080
  | .reminder _ => 64

/-- The wear reserve, and the log entries that fit beside the reminders in their area (R420). -/
def ledgerReserve : Nat := 768 * 1024
def logRoom : Nat := 7936

/-- A commit of a record (R421): it takes the two slots in turn, and a slot moves to spare blocks after every 2^20 writes to it, as long as
the wear reserve has room; after that it is written in place (R429). -/
def LedgerSt.commit (l : LedgerSt) (r : LedgerRec) : LedgerSt :=
  let n := tblGet (fun _ => 0) l.writes r.index + 1
  let moves := (n + 1) / 2 % 2 ^ 20 = 0 && l.reserve + r.bytes ≤ ledgerReserve
  { l with writes := tblSet (fun _ => 0) l.writes r.index n, reserve := if moves then l.reserve + r.bytes else l.reserve }

/-- Power sequencing (R402 to R409): the domains whose fiddlehead start runs, at 1 while the switch ramps, 2 while the PLL
starts, 3 once it is locked; the domains whose power is to be removed; the domain of the command that runs. -/
structure PwrSt where
  starts : List (Nat × Nat) := []
  offs : List Nat := []
  cmd : Option Nat := none
  /-- How far the start of R402 has come: 0 before power-good, 1 the ROM runs, 2 the firmware runs, 3 memory is trained. -/
  phase : Nat := 0
  /-- Neither firmware bank qualifies (R391). -/
  noFw : Bool := false
  /-- VBAT is applied (R416); the lichen domain has lost both supplies (R414). -/
  vbat : Bool := true
  dark : Bool := false
  /-- The flush of the PFAIL in progress is complete (R419). -/
  flushed : Bool := false
  /-- A rail that the converter cores need (VDDA, VDDA_HV), or one that the field drivers need (VFP, VFN), is lost (R12). -/
  convRail : Bool := false
  fieldRail : Bool := false
deriving DecidableEq, Repr

/-- An owner record (R380): STATE, the key and the calendar time of its enrolment. -/
structure OwnerSlot where
  state : Nat := 0
  key : Nat := 0
  time : Nat := 0
deriving DecidableEq, Repr

/-- A session (R385): its SID, and N_H, N_D and the shared secret that its keys derive from. -/
structure Session where
  sid : Nat
  nonceH : Nat
  nonceD : Nat
  secret : Nat
deriving DecidableEq, Repr

/-- An IDE stream (R364, R387): the highest GEN of the session, the key sets loaded (set and what its keys derive from), the set
in use, and whether the stream is secure. -/
structure IdeSt where
  gen : Option Nat := none
  loaded : List (Nat × List Nat) := []
  active : Option (Nat × List Nat) := none
  secure : Bool := false
  /-- The loaded set that GO has chosen for the next key-set change. -/
  next : Option Nat := none
  /-- A check failed and no new keys are installed yet (R365); the sets that were loaded before the failure. -/
  failed : Bool := false
  stale : List Nat := []
deriving DecidableEq, Repr

/-- A quote being built by the mailbox (R390, R399): its nonce. -/
structure QuoteWork where
  nonce : Nat
deriving DecidableEq, Repr

/-- A firmware image (R391, R392): its SVN and its bytes. -/
structure FwImage where
  svn : Nat := 0
  bytes : List Byte := []
deriving DecidableEq, Repr

/-- A firmware operation that runs (R392, R393): its OP, the STATUS it will end with, and the image staged or committed. -/
structure FwWork where
  op : Nat
  status : Nat
  img : FwImage
deriving DecidableEq, Repr

/-- A slot of the RSV record (R164, R375). A commit that power cuts off leaves the slot in use as it was (R398). -/
structure RsvSlot where
  seq : Nat := 0
  value : Nat := 0
  /-- DIGEST matches what the slot holds. -/
  ok : Bool := true
deriving DecidableEq, Repr

/-- Security state (chapter 14). -/
structure SecSt where
  /-- NEXT of the LMS key and the two slots of its RSV record (R375), and whether its exhaustion has raised its fault (R376). -/
  next : Nat := 0
  rsvA : RsvSlot := {}
  rsvB : RsvSlot := {}
  spent : Bool := false
  /-- OTP_SVN, the images in banks A and B and whether each was found to verify, the bank marked active, an image staged and not
  committed, and the running firmware (R391 to R393). -/
  otpSvn : Nat := 0
  bankA : FwImage := {}
  bankB : FwImage := {}
  okA : Bool := false
  okB : Bool := false
  activeB : Bool := false
  uncommitted : Bool := false
  running : FwImage := {}
  /-- The owner slots (R380). -/
  slots : List (Nat × OwnerSlot) := []
  /-- The challenges in force for owner and debug operations (R378). -/
  chalOwner : Option Nat := none
  chalDebug : Option Nat := none
  /-- The sessions of DOE and of SMBus (R386), and the IDE streams. -/
  doe : Option Session := none
  smbus : Option Session := none
  ide : List (Nat × IdeSt) := []
  /-- The debug unlocks in force: scopes and NOT_AFTER (R395); a glitch was logged since power-up (R389). -/
  unlocks : List (Nat × Nat) := []
  glitched : Bool := false
  /-- The quote in the mailbox, the quote being built, what MCTP READ serves, and the firmware operation that runs. -/
  quote : List Byte := []
  quoteWork : Option QuoteWork := none
  mctp : List Byte := []
  fwWork : Option FwWork := none
deriving DecidableEq, Repr

/-- Slot A of the RSV record is in use: the valid slot, or the one with the higher SEQ (R164, R375). -/
def SecSt.rsvUseA (x : SecSt) : Bool := x.rsvA.ok && (!x.rsvB.ok || x.rsvB.seq ≤ x.rsvA.seq)

/-- RSV: the value of the slot in use. -/
def SecSt.rsv (x : SecSt) : Nat := if x.rsvUseA then x.rsvA.value else x.rsvB.value


/-- The host link and its interface behind its registers (chapter 13). -/
structure HostSt where
  /-- 0 down, 1 L0, 2 L1 (R350). -/
  link : Nat := 0
  /-- D3hot stops CXL traffic (R350). -/
  d3 : Bool := false
  /-- Register accesses carried to other positions whose response is open: tag and position (R357), and the next tag. -/
  regTags : List (Nat × Nat) := []
  nextTag : Nat := 0
  /-- Device reads that timed out once and were reissued (R366). -/
  late : List HostRead := []
  /-- The steps of a warm reset passed (R368), 0 while none runs. -/
  warm : Nat := 0
  /-- The boundary-scan instruction in effect (R371): 0 BYPASS, 1 IDCODE, 2 SAMPLE/PRELOAD, 3 EXTEST, 4 CLAMP, 5 HIGHZ. -/
  scan : Nat := 0
  /-- What PRELOAD put into the cells of the GIO pins. -/
  preload : Nat := 0
  /-- The DOE mailbox (R363): the words written, the words of the response not read yet, and its error bit. -/
  doeIn : List Word := []
  doeOut : List Word := []
  doeError : Bool := false
  /-- The sideband's 7-bit address, sampled at a cold reset (R370). -/
  smbAddr : Nat := 0
deriving DecidableEq, Repr

/-- The levels of the board's straps: OWN_EN (R383), TCXO_SEL (R411), SMB_A (R370). -/
structure Straps where
  ownEn : Bool := false
  tcxoSel : Bool := false
  smbA : Fin 4 := 0
deriving DecidableEq, Repr

/-- The whole block. -/
structure State where
  /-- The commands that wait, first in, first out. -/
  pending : List Instr
  /-- The register bank: effective values by window offset. -/
  regs : List (Nat × Word)
  /-- Staged words of RWS fields (R8), and committed words that wait for their effective point (R462). -/
  stg : List (Nat × Word)
  wait : List (Nat × Word)
  /-- What the last read on a bus returned: a register word, or bytes. -/
  busRead : Word
  busBytes : List Byte
  /-- The model's own counter of free values drawn (assumption log 3). -/
  free : Nat
  /-- Device time in ns (R412). -/
  time : Nat
  flt : FltSt
  /-- Unit codes (R16) of the tiles and DMA units contained as class 3 units (R436). -/
  contained : List Nat
  msix : MsixSt
  /-- HI words that a read of their LO word latched, by the HI word's offset (R55, R412, R452). -/
  latch : List (Nat × Word)
  /-- Commits that wait for their unit's domain or restart (R466, R77), oldest first. -/
  deferred : List (Page × Writer)
  /-- V24 is below −1 V (R50). -/
  v24Rev : Bool
  /-- Fraction of a calendar subsecond, in units of 1 / (32,768 × 10 ^ 7) ns (R414). -/
  rtcNs : Nat
  ledger : LedgerSt
  /-- Field pins at key 8 * t + n, and GIO levels. -/
  pins : List (Nat × PinSt)
  gio : List (Nat × Bool)
  tiles : List (Nat × TileSt)
  sched : SchedSt
  ports : List (Nat × PortSt)
  engs : List (Nat × EngSt)
  /-- DMA channels at key 16 * unit + channel. -/
  dmas : List (Nat × DmaSt)
  mem : MemSt
  fab : FabSt
  rcfg : RcfgSt
  pwr : PwrSt
  host : HostSt
  load : LoadSt
  clock : TimeSt
  sec : SecSt
  straps : Straps
deriving DecidableEq, Repr

/-- The block right after a cold reset: every table lists nothing, so every register reads as `resetWord` says. -/
def State.reset : State :=
  { pending := [], regs := [], stg := [], wait := [], busRead := 0, busBytes := [], free := 0, time := 0,
    flt := {}, contained := [], msix := {}, latch := [], deferred := [],
    v24Rev := false, rtcNs := 0, ledger := {}, pins := [], gio := [], tiles := [], sched := {}, ports := [],
    engs := [], dmas := [], mem := {}, fab := {}, rcfg := {}, pwr := {}, host := {}, load := {}, clock := {},
    sec := {}, straps := {} }

end Sys2Proof.Machine
end

