-- ==== Sys2Proof/Machine/Ops.lean ====
section
/-! DEFINITION. The named operations over the state: the register bank, the byte memories' access, the units' parts, owners
(R36), event counters (R448 to R452), interrupt sources (R446, R486) and MSI-X (R361, R447). -/

namespace Sys2Proof.Machine

/-! ### Bits -/

/-- Bits `hi` down to `lo` of a word, as a number. -/
def getBits (w : Word) (hi lo : Nat) : Nat := w.toNat / 2 ^ lo % 2 ^ (hi + 1 - lo)

/-- `w` with bits `hi` down to `lo` replaced by those of `v`. -/
def putBits (w : Word) (hi lo v : Nat) : Word :=
  let m := BitVec.ofNat 32 (bitMask hi lo)
  (w &&& ~~~m) ||| (BitVec.ofNat 32 (v * 2 ^ lo) &&& m)

/-- `w` with the bits of mask `m` taken from `v`. -/
def mergeBits (w v m : Word) : Word := (w &&& ~~~m) ||| (v &&& m)

/-- Ceiling division, 0 for a divisor of 0. -/
def ceilDiv (a b : Nat) : Nat := (a + b - 1) / b

/-- A number as a two's complement value of `n` bits. -/
def sext (n v : Nat) : Int := if v % 2 ^ n < 2 ^ (n - 1) then (v % 2 ^ n : Nat) else (v % 2 ^ n : Nat) - (2 ^ n : Nat)

/-- The low `n` bits of an integer. -/
def lowBits (n : Nat) (x : Int) : Nat := (x % (2 ^ n : Nat)).toNat

/-- `x` clamped between `lo` and `hi`. -/
def clampInt (lo hi x : Int) : Int := if x < lo then lo else if hi < x then hi else x

/-- Bytes, little-endian (R6), of the low `n` bytes of `v`. -/
def leBytes : Nat → Nat → List Byte
  | 0, _ => []
  | n + 1, v => BitVec.ofNat 8 v :: leBytes n (v / 256)

/-- The number that little-endian bytes hold (R6). -/
def fromLe : List Byte → Nat
  | [] => 0
  | b :: t => b.toNat + 256 * fromLe t

/-! ### The register bank -/

/-- The effective word at window offset `a`. -/
def State.word (s : State) (a : Nat) : Word := tblGet resetWord s.regs a

def State.setWord (s : State) (a : Nat) (w : Word) : State := { s with regs := tblSet resetWord s.regs a w }

/-- A register field's effective value. -/
def State.get (s : State) (f : Field) : Nat := getBits (s.word f.addr) f.hi f.lo

/-- Write a register field's effective value. -/
def State.put (s : State) (f : Field) (v : Nat) : State := s.setWord f.addr (putBits (s.word f.addr) f.hi f.lo v)

def State.bit (s : State) (f : Field) : Bool := s.get f != 0

def State.putB (s : State) (f : Field) (b : Bool) : State := s.put f b.toNat

/-- Add to a counter field; the field keeps the low bits (modulo its width). -/
def State.bump (s : State) (f : Field) (n : Nat := 1) : State := s.put f (s.get f + n)

/-- Add to a counter field that stops at its highest value. -/
def State.bumpSat (s : State) (f : Field) (n : Nat := 1) : State :=
  s.put f (min (s.get f + n) (2 ^ (f.hi + 1 - f.lo) - 1))

/-- Bit `k` of a field. -/
def State.getIdx (s : State) (f : Field) (k : Nat) : Bool := (s.get f).testBit k

/-- Write bit `k` of a field. -/
def State.putIdx (s : State) (f : Field) (k : Nat) (b : Bool) : State :=
  s.putB ⟨f.addr, f.lo + k, f.lo + k⟩ b

/-- The staged word at `a` (R8): a committed one that still waits, or the effective one, where nothing is staged. -/
def State.stagedWord (s : State) (a : Nat) : Word :=
  match tblFind s.stg a with
  | some w => w
  | none =>
    match tblFind s.wait a with
    | some w => w
    | none => s.word a

/-- A staged field's value. -/
def State.sget (s : State) (f : Field) : Nat := getBits (s.stagedWord f.addr) f.hi f.lo

/-- Stage the RWS bits of `w` at `a` (R8). -/
def State.stageWord (s : State) (a : Nat) (w : Word) : State :=
  { s with stg := tblIns s.stg a (mergeBits (s.stagedWord a) w (BitVec.ofNat 32 (accMask a .rws))) }

/-- The staged word at `a` becomes effective (R462). -/
def State.applyStaged (s : State) (a : Nat) : State :=
  match tblFind s.stg a with
  | none => s
  | some w => { s.setWord a (mergeBits (s.word a) w (BitVec.ofNat 32 (accMask a .rws))) with stg := tblDel s.stg a }

/-- The staged word at `a` is committed and waits for its effective point (R462). -/
def State.toWait (s : State) (a : Nat) : State :=
  match tblFind s.stg a with
  | none => s
  | some w => { s with stg := tblDel s.stg a, wait := tblIns s.wait a w }

/-- A waiting word at `a` becomes effective (R462). -/
def State.applyWait (s : State) (a : Nat) : State :=
  match tblFind s.wait a with
  | none => s
  | some w => { s.setWord a (mergeBits (s.word a) w (BitVec.ofNat 32 (accMask a .rws))) with wait := tblDel s.wait a }

/-- A committed word at `a` waits. -/
def State.waits (s : State) (a : Nat) : Bool := (tblFind s.wait a).isSome

/-- The staged word at `a` is discarded (R460). -/
def State.dropStaged (s : State) (a : Nat) : State := { s with stg := tblDel s.stg a }

/-- A staged RWS field at `a` differs from its effective value (R460, PENDING). -/
def State.stagedDiffers (s : State) (a : Nat) : Bool :=
  (s.stagedWord a &&& BitVec.ofNat 32 (accMask a .rws)) != (s.word a &&& BitVec.ofNat 32 (accMask a .rws))

/-- The offsets with staged words in a page. -/
def State.stagedIn (s : State) (pg : Nat) : List Nat :=
  s.stg.filterMap fun e => if pg ≤ e.1 ∧ e.1 < pg + 0x1000 then some e.1 else none

/-- A commit of page base `pg` has reached its last effective point (R462). -/
def State.commitsUp (s : State) (pg : Nat) : State :=
  (s.putB (R.PAGE_STAT_APPLYING pg) false).bump (R.PAGE_STAT_COMMITS pg)

/-- Drop every key of a table from `lo` up to and not including `hi`. -/
def tblClear {α : Type} (t : List (Nat × α)) (lo hi : Nat) : List (Nat × α) :=
  t.filter fun e => e.1 < lo || hi ≤ e.1

/-- Return the words of a range of the window to their reset values, staged and waiting ones with them. -/
def State.resetRange (s : State) (lo hi : Nat) : State :=
  { s with regs := tblClear s.regs lo hi, stg := tblClear s.stg lo hi, wait := tblClear s.wait lo hi }

/-! ### Units' parts -/

def State.pin (s : State) (t n : Nat) : PinSt := tblGet (fun _ => {}) s.pins (8 * t + n)
def State.setPin (s : State) (t n : Nat) (p : PinSt) : State := { s with pins := tblSet (fun _ => {}) s.pins (8 * t + n) p }
def State.modPin (s : State) (t n : Nat) (f : PinSt → PinSt) : State := s.setPin t n (f (s.pin t n))
def State.tile (s : State) (t : Nat) : TileSt := tblGet (fun _ => {}) s.tiles t
def State.setTile (s : State) (t : Nat) (x : TileSt) : State := { s with tiles := tblSet (fun _ => {}) s.tiles t x }
def State.modTile (s : State) (t : Nat) (f : TileSt → TileSt) : State := s.setTile t (f (s.tile t))
def State.port (s : State) (p : Nat) : PortSt := tblGet (fun _ => {}) s.ports p
def State.setPort (s : State) (p : Nat) (x : PortSt) : State := { s with ports := tblSet (fun _ => {}) s.ports p x }
def State.modPort (s : State) (p : Nat) (f : PortSt → PortSt) : State := s.setPort p (f (s.port p))
def State.stream (s : State) (k : Nat) : StreamSt := tblGet (fun _ => {}) s.sched.streams k
def State.setStream (s : State) (k : Nat) (x : StreamSt) : State :=
  { s with sched := { s.sched with streams := tblSet (fun _ => {}) s.sched.streams k x } }
def State.modStream (s : State) (k : Nat) (f : StreamSt → StreamSt) : State := s.setStream k (f (s.stream k))
def State.ring (s : State) (r : Nat) : RingSt := tblGet (fun _ => {}) s.sched.rings r
def State.setRing (s : State) (r : Nat) (x : RingSt) : State :=
  { s with sched := { s.sched with rings := tblSet (fun _ => {}) s.sched.rings r x } }
def State.modRing (s : State) (r : Nat) (f : RingSt → RingSt) : State := s.setRing r (f (s.ring r))

def State.eng (s : State) (e : Nat) : EngSt := tblGet (fun _ => {}) s.engs e
def State.setEng (s : State) (e : Nat) (x : EngSt) : State := { s with engs := tblSet (fun _ => {}) s.engs e x }
def State.modEng (s : State) (e : Nat) (f : EngSt → EngSt) : State := s.setEng e (f (s.eng e))

def State.cnt (s : State) (b : Nat) : CntSt := tblGet (fun _ => {}) s.fab.cnts b
def State.setCnt (s : State) (b : Nat) (x : CntSt) : State :=
  { s with fab := { s.fab with cnts := tblSet (fun _ => {}) s.fab.cnts b x } }
def State.modCnt (s : State) (b : Nat) (f : CntSt → CntSt) : State := s.setCnt b (f (s.cnt b))

def State.gioOut (s : State) (g : Nat) : GioOut := tblGet (fun _ => {}) s.fab.gioOut g
def State.modGio (s : State) (g : Nat) (f : GioOut → GioOut) : State :=
  { s with fab := { s.fab with gioOut := tblSet (fun _ => {}) s.fab.gioOut g (f (s.gioOut g)) } }

/-- Draw a free value below `n` (assumption log 3). -/
def State.draw (s : State) (n : Nat) : Nat × State := (Config.freeNat s.free % n, { s with free := s.free + 1 })

/-- What a read on a bus returns. -/
def State.answer (s : State) (w : Word) : State := { s with busRead := w }

/-- A read of a read-to-clear field of a word returns the word and clears the field (R8). -/
def State.readClear (s : State) (f : Field) : State := (s.answer (s.word f.addr)).put f 0

/-! ### Unit IDs and owners -/

/-- The device's chain position (R335). -/
def State.pos (s : State) : Nat := s.get R.LAT_POS

/-- A unit ID of this device (R15). -/
def State.unitId (s : State) (u : Nat) : Nat := s.pos * 0x2000 + u

/-- The management unit's ID (R17). -/
def State.mgmtId (s : State) : Nat := s.unitId 0x1F10

/-- A writer's unit ID, as INFO of a NOT_OWNER record gives it (R461). -/
def State.writerId (s : State) : Writer → Nat
  | .secure => s.mgmtId
  | .host => 0x1F00
  | .unit id => id

/-- Whether an owner code is one that R36 defines. -/
def ownerCodeOk (c : Nat) : Bool := c = 0 || c = 1 || (0x10 ≤ c && c ≤ 0x1F) || (0x20 ≤ c && c ≤ 0x27)

/-- Whether a writer matches an owner code (R36). The secure owner matches every code (R38, R39; assumption log 7). -/
def State.matchesOwner (s : State) (w : Writer) (c : Nat) : Bool :=
  match w with
  | .secure => true
  | .host => c = 1
  | .unit id =>
    let u := id % 0x2000
    id / 0x2000 = s.pos &&
      ((0x100 ≤ u && u < 0x180 && c = 0x10 + (u - 0x100) / 8) ||
       (0x200 ≤ u && u < 0x210 && c = 0x10 + (u - 0x200)) ||
       (0x300 ≤ u && u < 0x308 && c = 0x20 + (u - 0x300)))

/-- The writer that a work item's SRC stands for (R36, R37). -/
def writerOfSrc (src : Nat) : Writer := if src = 0x1F00 then .host else .unit src

/-- The owner code of pin `n` of tile `t` (R36). -/
def State.pinOwner (s : State) (t n : Nat) : Nat := s.get (R.PIN_OWNER t n)

/-- The fabric region that owns a pin, if one does (R40). -/
def State.pinRegion (s : State) (t n : Nat) : Option Nat :=
  let c := s.pinOwner t n
  if 0x20 ≤ c ∧ c ≤ 0x27 then some (c - 0x20) else none

/-! ### Power domains (R403) -/

def domEngine (e : Nat) : Nat := e
def domCluster (c : Nat) : Nat := 128 + c
def domConv (t : Nat) : Nat := 144 + t
def domField (t : Nat) : Nat := 176 + t
def domQuad (q : Nat) : Nat := 208 + q

/-- Whether a switched domain is on (PWR_STAT, R431). -/
def State.domOn (s : State) (d : Nat) : Bool := s.getIdx (R.PWR_STAT_ON (d / 32)) (d % 32)
def State.setDom (s : State) (d : Nat) (on : Bool) : State := s.putIdx (R.PWR_STAT_ON (d / 32)) (d % 32) on

/-- The main rails that a tile's domain needs beside its own power have failed (R12). -/
def State.railGone (s : State) (d : Nat) : Bool :=
  (s.pwr.convRail && 144 ≤ d && d < 176) || (s.pwr.fieldRail && 176 ≤ d && d < 208)

/-- A domain is on, no fiddlehead start of it runs (R407), and its rails are there (R12). -/
def State.domReady (s : State) (d : Nat) : Bool := s.domOn d && (tblFind s.pwr.starts d).isNone && !s.railGone d

/-- A fiddlehead start begins (R407): PWR_STAT reads 1 and the domain ramps. -/
def State.startDomain (s : State) (d : Nat) : State :=
  { s.setDom d true with pwr := { s.pwr with starts := tblIns s.pwr.starts d 1 } }

/-! ### Calendar and device time -/

/-- Calendar seconds (R414) and the CAL_TIME format of R165: bits 14:0 subseconds, bits 54:15 seconds. -/
def State.rtcSec (s : State) : Nat := s.get R.RTC_SEC_LO_SEC + s.get R.RTC_SEC_HI_SEC * 2 ^ 32
def State.calTime (s : State) : Nat := s.get R.RTC_SEC_HI_SUBSEC + s.rtcSec * 2 ^ 15

/-! ### Lifetime counters (R423) -/

/-- Add one to a counter of a table, which stops below `lim` and never wraps. -/
def bumpAt (t : List (Nat × Nat)) (k lim : Nat) : List (Nat × Nat) :=
  tblSet (fun _ => 0) t k (min (lim - 1) (tblGet (fun _ => 0) t k + 1))

/-- One more, up to the highest value of `n` bits. -/
def satSucc (n v : Nat) : Nat := min (2 ^ n - 1) (v + 1)

/-- Change the counters as they count. -/
def State.count (s : State) (f : Counts → Counts) : State := { s with ledger := { s.ledger with live := f s.ledger.live } }

/-- A count that is committed at once: EPOCH, and what a record of its own keeps. -/
def State.countNow (s : State) (f : Counts → Counts) : State :=
  { s with ledger := { s.ledger with live := f s.ledger.live, kept := f s.ledger.kept } }

/-! ### Interrupt sources (R446, R486) -/

/-- The interrupt source that a page drives (R486). -/
def pageSrc : Page → Nat
  | .pins t => t | .input t => t | .output t => t | .calib t => t
  | .engine e => 32 + e | .cluster c => 160 + c | .dma c => 176 + c
  | .sched => 264 | .rings => 265 | .mem => 266 | .latigo => 267
  | .security => 270 | .lichen => 271 | .power => 272 | .fabric => 276 | .fault => 277
  | .ident => 278 | .irq => 278 | .evCtl => 278 | .evCfg => 278 | .evLive => 278 | .evSnap => 278

/-- IRQ_PEND AND IRQ_EN of the page at `pg` is not zero. -/
def State.pageAsserted (s : State) (pg : Nat) : Bool := (s.word (pg + 0x18) &&& s.word (pg + 0x14)) != 0

/-- An active source with this SUB exists. -/
def State.subActive (s : State) (sub : Nat) : Bool := s.flt.active.any fun e => e.2.sub = sub

/-- An event counter of group `k` of 32 asserts its interrupt (R451). -/
def State.evcIrq (s : State) (k : Nat) : Bool :=
  s.regs.any fun e =>
    evfPage + 0x104 + 256 * k ≤ e.1 && e.1 < evfPage + 0x104 + 256 * (k + 1) && (e.1 - evfPage) % 8 = 4 &&
      (e.2.getLsbD 29 || e.2.getLsbD 31) && (s.word (e.1 - 4)).getLsbD 26

/-- The level of interrupt source `i` (R446, R486); a pulse source has none. -/
def State.srcLevel (s : State) (i : Nat) : Bool :=
  if i < 32 then
    s.pageAsserted (pinPage i) || s.pageAsserted (inPage i) || s.pageAsserted (outPage i) || s.pageAsserted (calPage i)
  else if i < 160 then s.pageAsserted (engPage (i - 32))
  else if i < 176 then s.pageAsserted (clPage (i - 160))
  else if i < 192 then s.pageAsserted (dmaPage (i - 176))
  else if i < 200 then s.flt.active.any fun e => e.2.unit = s.unitId (0x300 + (i - 192))
  else if i = 264 then s.pageAsserted schPage
  else if i = 265 then s.pageAsserted rngPage
  else if i = 266 then s.pageAsserted memPage
  else if i = 267 then s.pageAsserted latPage
  else if i = 268 then s.subActive 0x13
  else if i = 269 then s.subActive 0x14
  else if i = 270 then s.pageAsserted secPage
  else if i = 271 then s.pageAsserted licPage
  else if i = 272 then s.pageAsserted pwrPage
  else if i = 273 then s.subActive 0x18
  else if i = 274 then s.subActive 0x10
  else if i = 275 then s.bit R.TIME_STAT_PPS_NEW
  else if i = 276 then s.pageAsserted fabPage
  else if i = 277 then s.pageAsserted fltPage
  else if i = 278 then
    s.pageAsserted idPage || s.pageAsserted irqPage || s.pageAsserted evcPage || s.pageAsserted evfPage ||
      s.pageAsserted evlPage || s.pageAsserted evsPage
  else if 280 ≤ i && i < 288 then s.evcIrq (i - 280)
  else if i = 304 then !s.flt.fifo.isEmpty
  else if i = 310 then 48 ≤ s.flt.fifo.length
  else if 312 ≤ i && i < 320 then s.getIdx R.IRQ_SWI (i - 312)
  else false

/-- An IDE check failed and no new keys are installed (R365): the link is handled as down. -/
def State.ideBad (s : State) : Bool := s.sec.ide.any fun e => e.2.failed

/-- The host can be reached: the link is in L0 or L1, the function in D0, and no IDE check has failed (R232, R350, R365). -/
def State.hostReady (s : State) : Bool := s.host.link != 0 && !s.host.d3 && !s.ideBad

/-- A configuration request reaches the device (R353, R402 step 3): the link is in L0 or L1, and the firmware completes it. -/
def State.configReach (s : State) : Bool := s.host.link != 0 && 2 ≤ s.pwr.phase

/-- A configuration write that the firmware carries out acts: a device with no firmware accepts only SEC_FWUP STAGE (R391). -/
def State.configActs (s : State) : Bool := s.configReach && !s.pwr.noFw

/-- EXTEST, CLAMP and HIGHZ act in WAIT and FAILED (R371). -/
def State.scanActs (s : State) : Bool := s.get R.LAT_LOAD_STAT_STATE = 0 || s.get R.LAT_LOAD_STAT_STATE = 6

/-- The firmware runs, so that writes of registers act (R391, R402, R418): from step 3 of a start on, where a bank qualified. -/
def State.awake (s : State) : Bool := 2 ≤ s.pwr.phase && !s.pwr.noFw

/-- A message of vector `v` can leave: it is not masked (R361), and the host can be reached. -/
def State.vecOpen (s : State) (v : Nat) : Bool :=
  s.hostReady && s.msix.enabled && !s.msix.funcMask && s.msix.unmasked.contains v

/-- A message of vector `v`, or its pending bit while it is masked (R361). -/
def State.msixQueue (s : State) (v : Nat) : State :=
  if s.vecOpen v then { s with msix := { s.msix with sent := v :: s.msix.sent } }
  else if s.msix.pending.contains v then s
  else { s with msix := { s.msix with pending := v :: s.msix.pending } }

/-- Add an entry to the lichen ledger log (R428), whose area holds as many as R420 gives it room for: the oldest gives way. -/
def State.logAdd (s : State) (e : LogEntry) : State :=
  { s with ledger := { s.ledger with log := (e :: s.ledger.log).take logRoom } }

/-- A record of the ledger is committed (R421). -/
def State.ledgerWrite (s : State) (r : LedgerRec) : State := { s with ledger := s.ledger.commit r }

/-- Source `i` goes from deasserted to asserted, or pulses (R447): COUNT, the message of its vector, and the log of MGMT,
at most once per source per second. -/
def State.srcNote (s : State) (i : Nat) : State :=
  let s := s.bump (R.IRQ_ROUTE_COUNT i)
  let s := if s.bit (R.IRQ_ROUTE_MSIX_EN i) then s.msixQueue (s.get (R.IRQ_ROUTE_VECTOR i)) else s
  if s.bit (R.IRQ_ROUTE_MGMT i) && tblFind s.msix.logged i != some s.rtcSec then
    { s with msix := { s.msix with logged := tblIns s.msix.logged i s.rtcSec } }.logAdd (.irq i s.calTime)
  else s

/-! ### Event counters (R448 to R452) -/

/-- The counters whose RUN is 1. -/
def State.evcRunning (s : State) : List Nat :=
  s.regs.filterMap fun e =>
    if evfPage + 0x104 ≤ e.1 ∧ e.1 < evfPage + 0x904 ∧ (e.1 - evfPage) % 8 = 4 ∧ e.2.getLsbD 30 then
      some ((e.1 - (evfPage + 0x104)) / 8) else none

/-- The number of instances of a page's event TYPE (R448). -/
def evInstances (ty : Nat) : Nat :=
  if 1 ≤ ty && ty ≤ 4 then 32 else if ty = 0x10 then 128 else if ty = 0x11 || ty = 0x12 then 16
  else if ty = 0x18 then 8 else if ty = 0x23 then 2 else 1

/-- Counter `n` selects the event (R449). -/
def State.evcHit (s : State) (n ty ev inst : Nat) : Bool :=
  s.get (R.EVC_CFG_CODE n) = ty * 16 + ev &&
    (evInstances ty = 1 || s.bit (R.EVC_CFG_ALL n) || s.get (R.EVC_CFG_INST n) = inst)

/-- A counter's 64-bit value. -/
def State.evcVal (s : State) (n : Nat) : Nat := s.get (R.EVC_VAL_LO n) + s.get (R.EVC_VAL_HI n) * 2 ^ 32
def State.setEvcVal (s : State) (n v : Nat) : State :=
  (s.put (R.EVC_VAL_LO n) (v % 2 ^ 32)).put (R.EVC_VAL_HI n) (v / 2 ^ 32 % 2 ^ 32)

/-- What the raising page's filters see of an event: its sub-unit, stream and PRI, where it has them (R449). -/
structure EvTag where
  sub : Option Nat := none
  stream : Option Nat := none
  pri : Option Nat := none
deriving DecidableEq, Repr

/-- An event of an item. -/
def evOf (it : Item) (sub : Option Nat := none) : EvTag := { sub := sub, stream := some it.tag.stream, pri := some it.tag.pri }

/-- The event passes the page's EVT_SEL filters (R449). -/
def State.evPasses (s : State) (pg : Nat) (g : EvTag) : Bool :=
  (match g.sub with | none => true | some k => (s.get (R.EVT_SEL0_SUB pg)).testBit (k % 32)) &&
  (match g.stream with
   | none => true
   | some k => !s.bit (R.EVT_SEL1_STRM_EN pg) || s.get (R.EVT_SEL1_STREAM pg) = k) &&
  (match g.pri with | none => true | some k => (s.get (R.EVT_SEL2_PRI pg)).testBit k)

/-- The message of source `i` leaves now (R447). -/
def State.srcSends (s : State) (i : Nat) : Bool := s.bit (R.IRQ_ROUTE_MSIX_EN i) && s.vecOpen (s.get (R.IRQ_ROUTE_VECTOR i))

/-- Count `k` events in counter `n`; a wrap sets OVF, and the source of its 32 counters asserts where it has IRQ set (R451). A message that
leaves for it is an event too (R448); a source asserts once, so that at most 8 of them follow on one event. -/
def State.evcAdd : Nat → State → Nat → Nat → State
  | fuel, s, n, k =>
    let v := s.evcVal n + k
    let s := s.setEvcVal n v
    if v < 2 ^ 64 then s
    else
      let i := 280 + n / 32
      let t := s.putB (R.EVC_TRG_OVF n) true
      if s.srcLevel i || !t.srcLevel i then t
      else match fuel with
        | 0 => t.srcNote i
        | f + 1 =>
          let u := t.srcNote i
          if t.srcSends i && u.evPasses rngPage {} then
            u.evcRunning.foldl (fun u m => if u.evcHit m (pageType .rings) 2 (pageInstance .rings) then State.evcAdd f u m 1 else u) u
          else u

/-- `k` events `ev` of page `p` (its instance and TYPE) reach the counters (R448, R451). -/
def State.events (s : State) (p : Page) (ev k : Nat) (g : EvTag := {}) : State :=
  if s.evPasses (pageBase p) g then
    s.evcRunning.foldl (fun s n => if s.evcHit n (pageType p) ev (pageInstance p) then s.evcAdd 8 n k else s) s
  else s

/-- One event of page `p` (R448). -/
def State.event (s : State) (p : Page) (ev : Nat) (g : EvTag := {}) : State := s.events p ev 1 g

/-- One event of instance `inst` of a page that carries several instances: fabric regions and latigo ports (R458). -/
def State.eventInst (s : State) (p : Page) (inst ev : Nat) (g : EvTag := {}) : State :=
  if s.evPasses (pageBase p) g then
    s.evcRunning.foldl (fun s n => if s.evcHit n (pageType p) ev inst then s.evcAdd 8 n 1 else s) s
  else s

/-- Network words into or out of a cluster (R448). The spec does not give the width of a word: how many an item or a memory
transaction takes is a free value (assumption log 150). -/
def State.netWords (s : State) (c : Nat) (out : Bool) : State :=
  if s.evcRunning.isEmpty then s
  else
    let d := s.draw (2 ^ 16)
    d.2.events (.cluster (Fin.ofNat 16 c)) (if out then 1 else 0) d.1

/-! ### Firing sources (R447) -/

/-- A message leaves, and counts as an event of the host interface (R361, R448). -/
def State.msixSend (s : State) (v : Nat) : State :=
  if s.vecOpen v then (s.msixQueue v).event .rings 2 else s.msixQueue v

/-- As `srcNote`, with the message counted as an event. -/
def State.srcFire (s : State) (i : Nat) : State :=
  if s.srcSends i then (s.srcNote i).event .rings 2 else s.srcNote i

/-- Do `f`, and fire source `i` if that takes it from deasserted to asserted (R447). -/
def State.withSrc (s : State) (i : Nat) (f : State → State) : State :=
  let s' := f s
  if !s.srcLevel i && s'.srcLevel i then s'.srcFire i else s'

/-- The same for several sources. -/
def State.withSrcs (s : State) (is : List Nat) (f : State → State) : State :=
  let s' := f s
  is.foldl (fun a i => if !s.srcLevel i && s'.srcLevel i then a.srcFire i else a) s'

/-- Set bits of a page's IRQ_PEND (R464). -/
def State.pend (s : State) (p : Page) (mask : Nat) : State :=
  s.withSrc (pageSrc p) fun s =>
    s.setWord (pageBase p + 0x18) (s.word (pageBase p + 0x18) ||| BitVec.ofNat 32 mask)

/-- IRQ bits of R464. -/
def irqFault : Nat := 1
def irqCommit : Nat := 2
def irqDone : Nat := 4
def irqNote : Nat := 8
def irqRefused : Nat := 16

/-- Set PAGE_STAT.REFUSED of a page; its rising edge sets IRQ_PEND bit 4 (R464). -/
def State.refuse (s : State) (p : Page) : State :=
  if s.bit (R.PAGE_STAT_REFUSED (pageBase p)) then s
  else (s.putB (R.PAGE_STAT_REFUSED (pageBase p)) true).pend p irqRefused

/-- A command started through a page has ended (R464 bit 2). -/
def State.done (s : State) (p : Page) : State := s.pend p irqDone

/-! ### Event triggers (R450 to R452) -/

/-- Copy every counter of the selected groups into the snapshot page, and record the time (R452). -/
def State.snapshot (s : State) (groups : Nat) : State :=
  let s := (List.range 256).foldl (fun s n =>
    if groups.testBit (s.get (R.EVC_CFG_GROUP n)) then
      (s.put (R.EVC_SNAPVAL_LO n) (s.get (R.EVC_VAL_LO n))).put (R.EVC_SNAPVAL_HI n) (s.get (R.EVC_VAL_HI n))
    else s) s
  (s.put R.EVC_SNAP_TIME_LO_NS s.time).put R.EVC_SNAP_TIME_HI_NS (s.time / 2 ^ 32)

/-- The counters whose configuration is not at its reset value: only they can use a trigger. -/
def State.evcUsed (s : State) : List Nat :=
  s.regs.filterMap fun e =>
    if evfPage + 0x100 ≤ e.1 ∧ e.1 < evfPage + 0x900 ∧ (e.1 - evfPage) % 8 = 0 then some ((e.1 - (evfPage + 0x100)) / 8)
    else none

/-- SEQ_LEN in effect (R118): 0 takes effect as 1, values above 16 as 16. -/
def State.seqLen (s : State) (t : Nat) : Nat := min 16 (max 1 (s.get (R.TILE_ADC_CTRL_SEQ_LEN t)))

/-- DUR of slot `k` in 250 ps units (R85). -/
def State.slotDur (s : State) (t k : Nat) : Nat := max 100 (s.get (R.TILE_ADC_SLOT_ACQ t k)) + 300

/-- T_act in 250 ps units (R85). -/
def State.tAct (s : State) (t : Nat) : Nat := (List.range (s.seqLen t)).foldl (fun a k => a + s.slotDur t k) 0

/-- A pass is running (R89): it has not reached its end. An end further away than T_act is none: device time was set back. -/
def State.passActive (s : State) (t : Nat) : Bool :=
  let e := (s.tile t).passEnd
  4 * s.time < e && e ≤ 4 * s.time + s.tAct t

/-- A trigger finds a pass (R87): one that runs, or one whose trigger has come and which starts within 20 ns. -/
def State.trigBusy (s : State) (t : Nat) : Bool := (s.tile t).passRun || s.passActive t

/-- A trigger starts a pass of a tile in triggered mode, at least 20 ns later; one during a pass sets TRIG_OVR (R87). -/
def State.adcTrig (s : State) (t : Nat) : State :=
  if s.bit (R.TILE_ADC_STAT_RUNNING t) && s.bit (R.TILE_ADC_CTRL_MODE t) then
    if s.trigBusy t then s.putB (R.TILE_ADC_STAT_TRIG_OVR t) true
    else s.modTile t fun x => { x with passRun := true, passFrom := 4 * s.time + 80 }
  else s

/-- The last value of crossing `k` of region `r`, at `64 * r + k` (R307). -/
def State.crossing (s : State) (i : Nat) : Bool := tblGet (fun _ => false) s.fab.cross i

/-- The level at a GIO pin. -/
def State.gioIn (s : State) (g : Nat) : Bool := tblGet (fun _ => false) s.gio g

/-- The level of trigger `n` (R450): its crossing, or a GIO pin in TRIG_IN; every other source pulses. -/
def State.trigLevel (s : State) (n : Nat) : Bool :=
  let src := s.get (R.EVT_TRIG_SRC n)
  (0x40 ≤ src && src < 0x240 && s.crossing (src - 0x40)) ||
    (List.range 48).any fun g => s.get (R.GIO_CFG_FUNC g) = 0xD && s.get (R.GIO_CFG_SEL g) = n && s.gioIn g

/-- The triggers `ns` rise at one FCLK edge: they start and stop counters, the stop winning (R451), take the snapshot (R452), start the
passes of the tiles that select one (R87), and show on the TRIG_OUT pins (R450). -/
def State.trigRises (s : State) (ns : List Nat) : State :=
  let s := s.evcUsed.foldl (fun s c =>
    let stop := s.bit (R.EVC_CFG_STOP_EN c) && ns.contains (s.get (R.EVC_TRG_STOP c))
    let start := s.bit (R.EVC_CFG_START_EN c) && s.bit (R.EVC_CFG_EN c) && ns.contains (s.get (R.EVC_TRG_START c))
    if stop then
      let run := s.bit (R.EVC_TRG_RUN c)
      let s := s.putB (R.EVC_TRG_RUN c) false
      if run || start then s.withSrc (280 + c / 32) fun s => s.putB (R.EVC_TRG_STOPPED c) true else s
    else if start then s.putB (R.EVC_TRG_RUN c) true
    else s) s
  let s := if s.bit R.EVC_SNAP_TRIG_EN && ns.contains (s.get R.EVC_SNAP_TRIG) then s.snapshot (s.get R.EVC_SNAP_TRIG_GROUPS) else s
  let s := (List.range 32).foldl (fun s t => if ns.contains (s.get (R.TILE_ADC_CTRL_TRIG_SEL t)) then s.adcTrig t else s) s
  { s with fab := { s.fab with pulse := ns.foldl (fun l n => tblIns l n s.time) s.fab.pulse } }

/-- A rising edge of trigger `n`. -/
def State.trigRise (s : State) (n : Nat) : State := s.trigRises [n]

/-- Trigger sources pulse at one edge (R450): every trigger whose SRC names one of them and that is not high rises. -/
def State.trigSources (s : State) (codes : List Nat) : State :=
  let hits := s.regs.filterMap fun e =>
    if evcPage + 0x400 ≤ e.1 ∧ e.1 < evcPage + 0x800 ∧ codes.contains (e.2.toNat % 1024) then some ((e.1 - (evcPage + 0x400)) / 4)
    else none
  let ns := hits.filter fun n => !s.trigLevel n
  if ns.isEmpty then s else s.trigRises ns

/-- A trigger source pulses. -/
def State.trigSource (s : State) (code : Nat) : State := s.trigSources [code]

end Sys2Proof.Machine
end

