-- ==== Sys2Proof/Machine/Stage.lean ====
section
/-! DEFINITION. The output stage behind an analogue output: the code at the core and the deglitcher (R126, R127), the slew
limiter (R124), accepted writes (R123, R133, R134), fault values (R128 to R131), attaching and detaching (R42, R43, R121);
and the DOUT24 switch (R28, R29). -/

namespace Sys2Proof.Machine

/-- AOUT_V, AOUT_I and EXC: the functions that a DAC core serves (R65). -/
def isOutFunc (f : Nat) : Bool := f = 3 || f = 4 || f = 5

/-- The active function of a pin (PIN_STAT.FUNC_ACT). -/
def State.func (s : State) (t n : Nat) : Nat := s.get (R.PIN_STAT_FUNC_ACT t n)

/-- Whether a function and an output range match in the table of R120. -/
def rangeFits (func orange : Nat) : Bool :=
  if func = 4 then orange = 4 || orange = 5 else orange < 4

/-- U(c) of the deglitcher: the unary elements switched on (R126). -/
def unary (c : Nat) : Nat := c / 1024

/-- The device is in its safe state: class 4 (R438), PFAIL (R419), or a warm reset from its step 2 on (R368). -/
def State.safeState (s : State) : Bool := s.bit R.FLT_STAT_C4 || s.flt.pfail || 2 ≤ s.host.warm

/-- The tile is contained as a unit (R436). -/
def State.tileContained (s : State) (t : Nat) : Bool := s.contained.contains t

/-- The logical core, 0 for D0, that serves pin `n` (TILE_DAC_ROUTE, R65). -/
def State.coreOf (s : State) (t n : Nat) : Option Nat :=
  if s.bit (R.TILE_DAC_ROUTE_D0_USED t) ∧ s.get (R.TILE_DAC_ROUTE_D0_PIN t) = n then some 0
  else if s.bit (R.TILE_DAC_ROUTE_D1_USED t) ∧ s.get (R.TILE_DAC_ROUTE_D1_PIN t) = n then some 1
  else none

/-- A rotation holds the pin's output: step 3 of R160 runs for its logical core (R134). Steps 1 and 2 touch no output (R160), so a
range change committed in them starts at once, and step 3 waits for its end (R135; DESIGN CHOICE, log 126). -/
def State.rotHold (s : State) (t n : Nat) : Bool :=
  s.get (R.CAL_ROT_STAT_PHASE t) = 3 && s.coreOf t n == some (s.tile t).rotCore

/-- A reload holds the tile behind its girth (R316). -/
def State.tileGirth (s : State) (t : Nat) : Bool := s.fab.shut.contains t

/-- The output holds its code: a rotation (R134) or the tile's girth (R316). -/
def State.outHeld (s : State) (t n : Nat) : Bool := s.rotHold t n || s.tileGirth t

/-- The event of R129 that put the output in FAULT_HOLD still persists (R131). -/
def State.faultPersists (s : State) (t n : Nat) : Bool :=
  s.safeState || s.tileContained t || !s.domReady (domConv t) || !s.domReady (domField t) ||
    ((s.pin t n).wdogLive && s.get (R.OUT_WDOG_TIMEOUT t n) != 0)

/-- Code `c` replaces the code at the core; the deglitcher holds the stage when too many unary elements change (R126), and
a change during a hold leaves the hold alone (R127). -/
def State.coreSet (s : State) (t n c : Nat) : State :=
  let old := s.get (R.OUT_READ_CORE t n)
  let s := s.put (R.OUT_READ_CORE t n) c
  if s.bit (R.OUT_STAT_DG_HOLD t n) then s
  else if s.get (R.OUT_CFG_DG_THRESH t n) < (unary c - unary old) + (unary old - unary c) then
    (s.putB (R.OUT_STAT_DG_HOLD t n) true).event (.output (Fin.ofNat 32 t)) 2 { sub := some n }
  else s.modPin t n fun p => { p with stage := p.stage.map fun _ => c }

/-- SLEW_EN, STEP and INTV as the registers hold them. -/
def State.slewNow (s : State) (t n : Nat) : Nat × Nat × Nat :=
  ((s.bit (R.OUT_CFG_SLEW_EN t n)).toNat, s.get (R.OUT_SLEW_STEP t n), s.get (R.OUT_SLEW_INTV t n))

/-- SLEW_EN and STEP in effect: the old range's while a range change ramps down (R132), whatever a commit of OUT_SLEW or SLEW_EN
alone writes meanwhile (DESIGN CHOICE, log 127); those that stood at the fault while FAULT_HOLD is set (R135). -/
def State.slewOf (s : State) (t n : Nat) : Bool × Nat :=
  if s.bit (R.OUT_STAT_RCHG t n) || s.bit (R.OUT_STAT_FAULT_HOLD t n) then ((s.pin t n).oldSlew.1 != 0, (s.pin t n).oldSlew.2.1)
  else (s.bit (R.OUT_CFG_SLEW_EN t n), s.get (R.OUT_SLEW_STEP t n))

/-- One step of at most `step` codes from `c` towards `goal`, never past it (R124). -/
def stepToward (c goal step : Nat) : Nat :=
  if c < goal then min goal (c + step) else max goal (c - step)

/-- The slew limiter's step, when one is due (R124); a rotation or the girth freezes it (R134, R316). -/
def State.limStep (s : State) (t n : Nat) : State :=
  let p := s.pin t n
  let c := s.get (R.OUT_READ_CORE t n)
  if s.outHeld t n || !s.domReady (domConv t) || c = p.limit then s
  else
    let (en, step) := s.slewOf t n
    let c' := if en then stepToward c p.limit (max step 1) else p.limit
    let s := (s.coreSet t n c').event (.output (Fin.ofNat 32 t)) 4 { sub := some n }
    s.putB (R.OUT_STAT_RAMPING t n) (c' != p.limit)

/-- A new limiter target; a limiter that is idle takes its first step at the next core clock (R124). -/
def State.setLimit (s : State) (t n goal : Nat) : State :=
  let idle := s.get (R.OUT_READ_CORE t n) = (s.pin t n).limit
  let s := s.modPin t n fun p => { p with limit := goal }
  let s := s.putB (R.OUT_STAT_RAMPING t n) (s.get (R.OUT_READ_CORE t n) != goal)
  if idle || !(s.slewOf t n).1 then s.limStep t n else s

/-- A code waits under R133 or R134. -/
def State.deferCode (s : State) (t n code : Nat) : State :=
  (s.modPin t n fun p => { p with defer := some code }).putB (R.OUT_STAT_DEFER t n) true

/-- An accepted write of OUT_CODE (R123): it counts, becomes OUT_TARGET and ends a watchdog event; then it is deferred
(R133, R134), held back by FAULT_HOLD (R131), or becomes the limiter's target. -/
def State.outAccept (s : State) (t n code : Nat) : State :=
  let s := (s.bump (R.OUT_WRCNT_COUNT t n)).put (R.OUT_CODE t n) code
  let s := s.put (R.OUT_TARGET t n) code
  let s := s.modPin t n fun p => { p with wdogLive := false, written := true }
  let s := s.event (.output (Fin.ofNat 32 t)) 0 { sub := some n }
  if s.outHeld t n || s.bit (R.OUT_STAT_RCHG t n) then s.deferCode t n code
  else if s.bit (R.OUT_STAT_FAULT_HOLD t n) then
    if (s.pin t n).rangeStale then s else s.putB (R.OUT_STAT_STALE t n) false
  else ((s.modPin t n fun p => { p with rangeStale := false }).putB (R.OUT_STAT_STALE t n) false).setLimit t n code

/-- The stage disconnects and the safe pull holds the pin (R22). -/
def State.stageOff (s : State) (t n : Nat) : State :=
  (s.modPin t n fun p => { p with stage := none }).putB (R.OUT_STAT_DISC t n) true

/-- The physical core that serves pin `n` counts as serving a connected output in this hour (R423). -/
def State.noteCore (s : State) (t n : Nat) : State :=
  let c := match s.coreOf t n with
    | some 0 => s.get (R.TILE_DAC_ROUTE_D0_CORE t)
    | some _ => s.get (R.TILE_DAC_ROUTE_D1_CORE t)
    | none => 3
  let i := 3 * t + c
  if c < 3 && !s.ledger.served.contains i then
    { s with ledger := { s.ledger with served := i :: s.ledger.served } } else s

/-- The stage connects at mid-scale: 0x8000 at the core and at the pin. -/
def State.stageMid (s : State) (t n : Nat) : State :=
  let s := s.noteCore t n
  let s := (s.put (R.OUT_READ_CORE t n) 0x8000).putB (R.OUT_STAT_DISC t n) false
  let s := (s.putB (R.OUT_STAT_DG_HOLD t n) false).putB (R.OUT_STAT_RAMPING t n) false
  s.modPin t n fun p => { p with stage := some 0x8000, limit := 0x8000 }

/-- The fault value is taken at the core, or ramped to (R130). -/
def State.faultValue (s : State) (t n : Nat) : State :=
  if s.bit (R.OUT_CFG_FAULT_RAMP t n) then s.setLimit t n 0x8000
  else
    let s := s.modPin t n fun p => { p with limit := 0x8000 }
    (s.coreSet t n 0x8000).putB (R.OUT_STAT_RAMPING t n) false

/-- FAULT_HOLD is set; the slew settings of that moment govern the output until the clear (R135). -/
def State.holdFault (s : State) (t n : Nat) : State :=
  let s := if s.bit (R.OUT_STAT_FAULT_HOLD t n) || s.bit (R.OUT_STAT_RCHG t n) then s
    else
      let now := s.slewNow t n
      s.modPin t n fun p => { p with oldSlew := now }
  s.putB (R.OUT_STAT_FAULT_HOLD t n) true

/-- The field drivers lose power under an output (R129): the safe pull takes the pin, a ramp is abandoned, and a range change has
met a fault event (R135). FAULT_HOLD follows when the power is back. -/
def State.fieldLost (s : State) (t n : Nat) : State :=
  let rchg := s.bit (R.OUT_STAT_RCHG t n)
  let s := (s.stageOff t n).modPin t n fun p => { p with limit := 0x8000, rchgFault := p.rchgFault || rchg }
  (s.putB (R.OUT_STAT_RAMPING t n) false).put (R.OUT_READ_CORE t n) 0x8000

/-- An event of R129 other than a watchdog expiry puts an output at its fault value and sets FAULT_HOLD; R135 says what
it does to a range change or a rotation in progress. Without its converter core the stage takes the value from its own reference.
OUT_READ of a stage that FAULT_DISC disconnects reads 0x8000 (DESIGN CHOICE, log 128). -/
def State.outFault (s : State) (t n : Nat) : State :=
  if isOutFunc (s.func t n) && !s.bit (R.PIN_STAT_SWITCHING t n) then
    let s := s.holdFault t n
    if s.bit (R.OUT_STAT_RCHG t n) then
      let c := s.get (R.OUT_READ_CORE t n)
      ((s.modPin t n fun p => { p with rchgFault := true, limit := c }).putB (R.OUT_STAT_RAMPING t n) false).stageOff t n
    else if s.bit (R.OUT_CFG_FAULT_DISC t n) then
      (((s.stageOff t n).modPin t n fun p => { p with limit := 0x8000 }).putB (R.OUT_STAT_RAMPING t n) false).put
        (R.OUT_READ_CORE t n) 0x8000
    else if s.bit (R.OUT_STAT_DISC t n) then s
    else if s.outHeld t n || !s.domReady (domConv t) then
      ((s.modPin t n fun p => { p with limit := 0x8000, stage := some 0x8000 }).putB (R.OUT_STAT_RAMPING t n) false).put
        (R.OUT_READ_CORE t n) 0x8000
    else s.faultValue t n
  else s

/-- A watchdog expiry (R129): as `outFault`, but a range change in progress completes (R135). -/
def State.outWdog (s : State) (t n : Nat) : State :=
  let s := (s.putB (R.OUT_STAT_WDOG t n) true).modPin t n fun p => { p with wdogLive := true }
  let s := s.event (.output (Fin.ofNat 32 t)) 3 { sub := some n }
  if s.bit (R.OUT_STAT_RCHG t n) then s.holdFault t n else s.outFault t n

/-- An accepted clear of FAULT_HOLD (R131): a disconnected stage reconnects at mid-scale, and the output ramps to
OUT_TARGET through the limiter; during a range change both come at its step 3. STALE stays set while a rotation or the tile's girth
holds the output (R134, R316). -/
def State.outRelease (s : State) (t n : Nat) : State :=
  let s := s.putB (R.OUT_STAT_FAULT_HOLD t n) false
  let s := if s.bit (R.OUT_STAT_RCHG t n) then s.modPin t n fun p => { p with rchgFault := false, rampBack := true } else s
  let s := if s.bit (R.OUT_STAT_DISC t n) && !s.bit (R.OUT_STAT_RCHG t n) && !s.bit (R.OUT_STAT_RANGE_ERR t n) then
    s.stageMid t n else s
  if isOutFunc (s.func t n) && !s.bit (R.OUT_STAT_RCHG t n) then
    let stale := s.outHeld t n && s.bit (R.OUT_STAT_STALE t n)
    let s := if (s.pin t n).written then
      (s.modPin t n fun p => { p with rangeStale := false }).putB (R.OUT_STAT_STALE t n) stale else s
    s.setLimit t n (s.get (R.OUT_TARGET t n))
  else s

/-- A pin attaches as an output (R43, R121, R135): at mid-scale of its effective range with STALE set, or disconnected
when range and function do not match or FAULT_HOLD still stands with FAULT_DISC (R128); at its fault value while an event of
R129 persists (R44). -/
def State.outAttach (s : State) (t n : Nat) : State :=
  let f := s.func t n
  let orange := s.get (R.OUT_CFG_ORANGE t n)
  let s := (s.put (R.OUT_STAT_ORANGE_ACT t n) orange).put (R.OUT_TARGET t n) 0x8000
  let s := (s.putB (R.OUT_STAT_STALE t n) (f != 5)).putB (R.OUT_STAT_RANGE_ERR t n) (!rangeFits f orange)
  let s := s.modPin t n fun p => { p with
    written := false, wdogLive := false, defer := none, rangeStale := false, rampBack := false }
  let s := s.stageMid t n
  let held := s.bit (R.OUT_STAT_FAULT_HOLD t n) && s.bit (R.OUT_CFG_FAULT_DISC t n)
  let s := if rangeFits f orange && !held then s else s.stageOff t n
  if s.faultPersists t n then s.outFault t n else s

/-- An output detaches (R135): a ramp, range change or deferral ends, and deferred codes are discarded. -/
def State.outDetach (s : State) (t n : Nat) : State :=
  let s := (s.putB (R.OUT_STAT_RAMPING t n) false).putB (R.OUT_STAT_RCHG t n) false
  let s := (s.putB (R.OUT_STAT_DEFER t n) false).putB (R.OUT_STAT_DG_HOLD t n) false
  let s := (s.putB (R.OUT_STAT_STALE t n) false).putB (R.OUT_STAT_RANGE_ERR t n) false
  let s := s.putB (R.OUT_STAT_DISC t n) false
  s.modPin t n fun p => { p with
    stage := none, defer := none, rchgFault := false, rampBack := false, wdogLive := false, written := false }

/-- A region runs: its section is loaded, its girth open and its quadrant on (R306, R307). -/
def State.regionRuns (s : State) (r : Nat) : Bool := s.get (R.FAB_REG_STAT_STATE r) = 1 && s.domReady (domQuad (r / 2))

/-- A border signal behind its girth (R307): its declared safe value, or with HOLD its last value. -/
def safeLevel (safe : Nat) (last : Bool) : Bool := if safe = 2 then last else safe = 1

/-- The output level and enable that a pin's driver gets: from its region's port when a region owns it (R40), with the
declared safe values while the girth is closed (R307), otherwise from PINS_OUT and PINS_OE (R37). -/
def State.pinLevel (s : State) (t n : Nat) : Bool × Bool :=
  match s.pinRegion t n with
  | some r =>
    let p := s.pin t n
    if s.regionRuns r then (p.fabLevel, p.fabOe) else (safeLevel p.fabSafe p.fabLevel, safeLevel p.fabSafeOe p.fabOe)
  | none => (s.getIdx (R.PINS_OUT t) n, s.getIdx (R.PINS_OE t) n)

/-- Whether the DOUT24 switch of a pin is on (R29, R50, R438, R12): it needs V24 above its threshold (R479). -/
def State.doutWanted (s : State) (t n : Nat) : Bool :=
  s.func t n = 8 && !s.bit (R.PIN_STAT_SWITCHING t n) && (s.pinLevel t n).1 && !s.bit (R.PIN_STAT_TRIP t n) &&
    !s.safeState && s.domReady (domField t) && s.bit R.PFAIL_STAT_V24_OK && !(s.pin t n).crits.contains .revSupply

/-- Bring the DOUT24 switch to what it should be; each off-to-on transition counts (R28). -/
def State.syncDout (s : State) (t n : Nat) : State :=
  let on := s.doutWanted t n
  let was := (s.pin t n).doutOn
  let s := s.modPin t n fun p => { p with doutOn := on }
  let s := if was && !on then s.putB (R.PIN_STAT_ILIM t n) false else s
  if on && !was then
    let k := 8 * t + n
    (s.count fun c => { c with switches := bumpAt c.switches k (2 ^ 64) }).event (.pins (Fin.ofNat 32 t)) 4 { sub := some n }
  else s

/-- The numbers of the pins of a tile. -/
def pins8 : List Nat := [0, 1, 2, 3, 4, 5, 6, 7]
/-- The numbers of the tiles. -/
def tiles32 : List Nat := List.range 32

/-- Do `f` for every pin of one tile. -/
def State.eachPin (s : State) (f : State → Nat → State) : State := pins8.foldl f s
/-- Do `f` for every pin of the device. -/
def State.eachTilePin (s : State) (f : State → Nat → Nat → State) : State :=
  tiles32.foldl (fun s t => pins8.foldl (fun s n => f s t n) s) s

/-- Every output of a tile goes to its fault value (R129). -/
def State.tileOutFault (s : State) (t : Nat) : State := s.eachPin fun s n => s.outFault t n

/-- Step 2 of R438: every analogue output takes its fault value and every DOUT24 pin turns off; DIO_LV and DIFF_LINE
drivers are off while `safeState` holds. -/
def State.allOutFault (s : State) : State := s.eachTilePin fun s t n => (s.outFault t n).syncDout t n

/-- The enable that a driver of DIO_LV or DIFF_LINE gets: a region's port drives it as it stands (R40); under any other owner it
counts from the owner's first setting of the enable after the attach (R43). -/
def State.outEnable (s : State) (t n : Nat) : Bool :=
  (s.pinLevel t n).2 && ((s.pinRegion t n).isSome || (s.pin t n).oeArmed)

/-- Whether a DIO_LV or DIFF_LINE driver is enabled (R37, R43, R438). -/
def State.driverOn (s : State) (t n : Nat) : Bool :=
  (s.func t n = 9 || s.func t n = 10) && !s.bit (R.PIN_STAT_SWITCHING t n) && s.outEnable t n && !s.safeState &&
    s.domReady (domField t)

/-- The level that a DIO_LV or DIFF_LINE driver puts on its pin (R24), none where it drives nothing: a push-pull stage drives both
levels, an open-drain stage (DIO_MODE 2) sinks at 0 and lets go at 1. A DIFF_LINE pair sends the lead pin's output while the
lead pin's enable is set, the odd leg inverted (PRESUMED, log 170). -/
def State.lineDrive (s : State) (t n : Nat) : Option Bool :=
  if s.func t n = 10 then
    let l := n / 2 * 2
    if s.driverOn t l then some ((s.pinLevel t l).1 != (n % 2 = 1)) else none
  else if !s.driverOn t n then none
  else if s.get (R.PIN_CFG_DIO_MODE t n) = 2 && (s.pinLevel t n).1 then none
  else some (s.pinLevel t n).1

end Sys2Proof.Machine
end

