-- ==== Sys2Proof/Machine/SchedOps.lean ====
section
/-! DEFINITION. Work items and streams: CRC-32C, sequence arithmetic (R272), the checks of R280 in the order of R485, taking
an item against E (R273), acceptance, execution and retirement (R285 to R287), dispatch order (R288), requeueing and loss
(R294, R295). -/

namespace Sys2Proof.Machine

/-! ### CRC-32C -/

/-- One bit of CRC-32C, reflected, polynomial 0x1EDC6F41 (R266). -/
def crcBit (c : BitVec 32) : BitVec 32 := if c.getLsbD 0 then (c >>> 1) ^^^ 0x82F63B78#32 else c >>> 1

/-- One byte of CRC-32C. -/
def crcByte (c : BitVec 32) (b : Byte) : BitVec 32 :=
  let c := c ^^^ b.setWidth 32
  crcBit (crcBit (crcBit (crcBit (crcBit (crcBit (crcBit (crcBit c)))))))

/-- CRC-32C of bytes. -/
def crc32c (bs : List Byte) : Nat := ((bs.foldl crcByte 0xFFFFFFFF#32) ^^^ 0xFFFFFFFF#32).toNat

/-- The CHK that a payload must carry (R266). -/
def chkOf (bs : List Byte) : Nat := if bs.isEmpty then 0 else crc32c bs

/-! ### Tags (R266) -/

/-- The tag that bytes 0 to 31 hold, little-endian (R6). -/
def tagOf (bs : List Byte) : Tag :=
  let at_ := fun off n => fromLe ((bs.drop off).take n)
  { stream := at_ 0 2 % 4096, seq := at_ 2 6, ctx := at_ 8 2 % 4096, pri := at_ 8 2 / 2 ^ 12 % 4, src := at_ 10 2, dst := at_ 12 2
    typ := at_ 14 1, exp := sext 8 (at_ 15 1), flags := at_ 16 2, len := at_ 18 2, chk := at_ 20 4, time := at_ 24 8
    zeroBad := at_ 0 2 / 4096 != 0 || at_ 8 2 / 2 ^ 14 != 0 }

/-- A tag's bytes (R266). -/
def tagBytes (g : Tag) : List Byte :=
  leBytes 2 (g.stream % 4096) ++ leBytes 6 g.seq ++ leBytes 2 (g.ctx % 4096 + g.pri % 4 * 4096) ++ leBytes 2 g.src ++
    leBytes 2 g.dst ++ leBytes 1 g.typ ++ leBytes 1 (lowBits 8 g.exp) ++ leBytes 2 g.flags ++ leBytes 2 g.len ++
    leBytes 4 g.chk ++ leBytes 8 g.time

/-- The item of a ring entry (R277): its payload stands inline up to LEN 32, else at the address in bytes 32 to 39. -/
def entryItem (x : RingEntry) : Item :=
  let g := tagOf x.bytes
  { tag := g, payload := if g.len ≤ 32 then (x.bytes.drop 32).take g.len else x.read.take g.len }

/-- BAD_PTR (R277, R280): the payload's address is not aligned to 64 bytes, or reading it gives an error; an inline payload has
no address. -/
def entryPtrBad (x : RingEntry) : Bool :=
  32 < (tagOf x.bytes).len && (fromLe ((x.bytes.drop 32).take 8) % 64 != 0 || x.readErr)

/-! ### Sequence numbers (R272) -/

/-- The number of nonzero SEQ values. -/
def seqN : Nat := 2 ^ 48 - 1
def seqSucc (a : Nat) : Nat := if seqN ≤ a then 1 else a + 1
/-- The distance from `b` to `a`. -/
def seqDist (a b : Nat) : Nat := (a + seqN - b) % seqN
/-- `a` is later than `b`. -/
def seqLater (a b : Nat) : Bool := 1 ≤ seqDist a b && seqDist a b ≤ 2 ^ 47 - 1

/-! ### Flags (R267) -/

def flLast : Nat := 0
def flStale : Nat := 1
def flOvr : Nat := 2
def flSat : Nat := 3
def flRnd : Nat := 4
def flReplay : Nat := 5
def flLoss : Nat := 6
def flQual : Nat := 7
def flIdem : Nat := 8

/-- The tag with flag `k` set. -/
def tagFlag (g : Tag) (k : Nat) : Tag := { g with flags := g.flags ||| 2 ^ k }
def itemFlag (it : Item) (k : Nat) : Item := { it with tag := tagFlag it.tag k }
def itemHas (it : Item) (k : Nat) : Bool := it.tag.flags.testBit k

/-! ### Units (R15 to R18) -/

/-- A unit code that R16 assigns. -/
def unitAssigned (u : Nat) : Bool :=
  u < 0x20 || (0x100 ≤ u && u < 0x180) || (0x200 ≤ u && u < 0x210) || (0x300 ≤ u && u < 0x308) || u = 0x1F00 || u = 0x1F10

/-- BAD_DST (R18): an unassigned unit, a position beyond the chain, or a host away from position 0. -/
def State.dstBad (s : State) (dst : Nat) : Bool :=
  !unitAssigned (dst % 0x2000) || max 1 (s.get R.LAT_POS_CHAIN_LEN) ≤ dst / 0x2000 ||
    (dst % 0x2000 = 0x1F00 && dst / 0x2000 != 0)

/-- The destination is a unit of this device (the host is of position 0). -/
def State.dstLocal (s : State) (dst : Nat) : Bool := dst / 0x2000 = s.pos

/-- SAMPLES, DATA and USER payloads (R268). -/
def typFree (ty : Nat) : Bool := ty = 1 || ty = 2 || 0x80 ≤ ty

/-- Whether the destination takes the item's TYPE (R268, R312). -/
def State.typOk (s : State) (st : StreamSt) (g : Tag) : Bool :=
  let u := g.dst % 0x2000
  let ty := g.typ
  if u < 0x20 then ty = 3 || ty = 4
  else if u < 0x180 then typFree ty || ty = 5 || ty = 6
  else if u < 0x210 then
    if s.dstLocal g.dst then
      if s.bit (R.DMA_CH_CFG_MODE (u - 0x200) (st.bind % 16)) then typFree ty else ty = 5
    else typFree ty || ty = 5
  else if u < 0x308 then
    if ty = 7 then st.bind % 32 = 16 && st.keyed && g.flags.testBit flIdem else (typFree ty || ty = 6) && st.bind % 32 != 16
  else u = 0x1F00 && (typFree ty || ty = 3 || ty = 4 || ty = 5 || ty = 6)

/-- Room an item takes, 32 + LEN rounded up to 64 bytes (R174, R290). -/
def footprint (len : Nat) : Nat := (32 + len + 63) / 64 * 64

/-- BAD_LEN (R280): above 4,096, not what the TYPE requires, too long for the delivery ring or the engine's ENG_INBUF, or
too short for a key. While a commit of ENG_INBUF waits, the SIZE in effect judges (DESIGN CHOICE, log 179). A descriptor list of a wrong length reaches its channel, which ends it with BAD_DESC (R246). -/
def State.lenBad (s : State) (st : StreamSt) (g : Tag) : Bool :=
  let u := g.dst % 0x2000
  4096 < g.len || ((g.typ = 3 || g.typ = 4) && g.len != 4) || (g.typ = 6 && g.len != 16) || (g.typ = 7 && g.len != 32) ||
    (u = 0x1F00 && 64 * (st.esz + 1) < 32 + g.len) ||
    (s.dstLocal g.dst && 0x100 ≤ u && u < 0x180 &&
      s.get (R.ENG_INBUF_SIZE (u - 0x100)) / 64 * 64 < footprint g.len) ||
    (g.flags.testBit flIdem && g.len < 8)

/-- A payload bit that R269 marks zero is not zero, or a COUNTER's OP is reserved (R312). -/
def payloadBad (it : Item) : Bool :=
  let v := fromLe it.payload
  (it.tag.typ = 3 && v / 2 ^ 19 != 0) || (it.tag.typ = 4 && v / 2 ^ 16 != 0) || (it.tag.typ = 7 && 3 ≤ v / 2 ^ 72 % 256)

/-- The idempotency key of an item (R267, R300). -/
def keyOf (it : Item) : Nat := fromLe (it.payload.take 8)

/-- Steps 1 to 5 of R485: 0 when the item passes them, else the code of R280. `lvl` is the sending engine's level.
A host submission has SRC 0x1F00, EXP 0, and no flag but LAST and IDEM (R270). -/
def State.checkTag (s : State) (it : Item) (host : Bool) (lvl : Nat) : Nat :=
  let g := it.tag
  let st := s.stream g.stream
  if g.zeroBad || (host && (g.flags &&& 0xFEFE != 0 || g.exp != 0)) then 7
  else if s.dstBad g.dst then 1
  else if !st.valid || !(st.state = 1 || st.state = 3) || g.src != st.src || g.dst != st.dst || (host && g.src != 0x1F00) ||
      (0x100 ≤ g.src % 0x2000 && g.src % 0x2000 < 0x180 && lvl != st.spri) then 3
  else if !s.typOk st g then 4
  else if s.lenBad st g then 2
  else 0

/-- Steps 8 and 9 of R485. -/
def State.checkPayload (s : State) (it : Item) : Nat :=
  if it.tag.chk != chkOf it.payload then 5
  else if itemHas it flIdem && (!(s.stream it.tag.stream).keyed || keyOf it = 0) then 7
  else if payloadBad it then 7
  else 0

/-- The stream starts or ends at the host (R281). -/
def StreamSt.atHost (st : StreamSt) : Bool := st.valid && (st.src = 0x1F00 || st.dst = 0x1F00)

/-- Count a refusal (R281, R302): SCHED_REJ_CNT, SCHED_LAST_REJ, and the stream's completion record where it has one. -/
def State.refuseItem (s : State) (k seq code : Nat) (pri : Option Nat := none) : State :=
  let s := (s.bump R.SCHED_REJ_CNT_COUNT).event .sched 3 { stream := some k, pri := pri }
  let s := (s.put R.SCHED_LAST_REJ_CODE code).put R.SCHED_LAST_REJ_STREAM k
  if (s.stream k).atHost then
    s.modStream k fun st =>
      { st with rejSeq := seq, rejCode := code, rejCnt := (st.rejCnt + 1) % 65536, dirty := true }
  else s

/-! ### Flights -/

def State.setFlights (s : State) (fs : List Flight) : State := { s with sched := { s.sched with flights := fs } }

/-- Whether a flight is item `seq` of stream `k`. -/
def Flight.is (f : Flight) (k seq : Nat) : Bool := f.item.tag.stream = k && f.item.tag.seq = seq

/-- Change the flight of item `seq` of stream `k`. -/
def State.modFlight (s : State) (k seq : Nat) (g : Flight → Flight) : State :=
  s.setFlights (s.sched.flights.map fun f => if f.is k seq then g f else f)

/-- The items held behind a gap of stream `k` (R273). -/
def State.heldOf (s : State) (k : Nat) : List Flight :=
  s.sched.flights.filter fun f => f.item.tag.stream = k && f.phase = .held

/-- Advance `a` over every following value listed in `xs`, at most `n` times; the values passed leave the list. -/
def runAhead : Nat → Nat → List Nat → Nat × List Nat
  | 0, a, xs => (a, xs)
  | n + 1, a, xs => if xs.contains (seqSucc a) then runAhead n (seqSucc a) (xs.erase (seqSucc a)) else (a, xs)

/-- The SEQ before `a`; 0 before 1, which stands for none. -/
def seqPred (a : Nat) : Nat := a - 1

/-- E advances past SEQ `e` and past every held item that follows in unbroken order, which is thereby taken (R273). -/
def State.advanceE : Nat → State → Nat → State
  | 0, s, _ => s
  | n + 1, s, k =>
    let e := (s.stream k).exp
    if s.sched.flights.any fun f => f.is k e && f.phase = .held then
      State.advanceE n
        ((s.modFlight k e fun f => { f with phase := if f.isD || f.jrn then .waiting else .taken }).modStream k fun st =>
          { st with exp := seqSucc e }) k
    else s

/-- What R273 does with an arriving item. -/
inductive Arrival where
  | duplicate | take | hold | tooFar | gapFull
deriving DecidableEq, Repr

/-- An item of SEQ `seq` against E and the held items (R273). -/
def State.arrival (s : State) (k seq : Nat) : Arrival :=
  let e := (s.stream k).exp
  let held := s.heldOf k
  if seq = e then .take
  else if !seqLater seq e then .duplicate
  else if 65536 < seqDist seq e then .tooFar
  else if held.any fun f => f.item.tag.seq = seq then .duplicate
  else if 256 ≤ held.length then .gapFull
  else .hold

/-- A duplicate is discarded and counted; for a host stream the completion record is written again (R273). -/
def State.duplicate (s : State) (k pri : Nat) : State :=
  let s := (s.bump R.SCHED_DUP_CNT_COUNT).event .sched 2 { stream := some k, pri := some pri }
  if (s.stream k).atHost then s.modStream k fun st => { st with dirty := true } else s

/-- A gap is removed: a GAP_STALL stream returns to OPEN, and the next gap is a new one (R274). -/
def StreamSt.gapGone (st : StreamSt) : StreamSt :=
  { st with state := if st.state = 3 then 1 else st.state, gapRaised := false }

/-- Put an item in flight (R273). A LOSS owed by its stream goes on it (R295). A D item waits for its destination at once;
a G item is accepted first (R285). The gap is removed once the oldest held item is taken, or none is held (R274). -/
def State.enter (s : State) (it : Item) (held : Bool) (via : Option Nat := none) : State :=
  let k := it.tag.stream
  let st := s.stream k
  let it := if st.loss && !held then itemFlag it flLoss else it
  let ph := if held then .held else if st.isD then .waiting else .taken
  let s := s.setFlights (s.sched.flights ++ [{ item := it, phase := ph, isD := st.isD, via := via }])
  if held then s
  else
    let n := (s.heldOf k).length
    let s := s.modStream k fun st => { st with exp := seqSucc it.tag.seq, loss := false }
    let s := s.advanceE n k
    let left := (s.heldOf k).length
    if left < n || left = 0 then s.modStream k fun st => st.gapGone else s

/-- Retire: the flight leaves the tag table and the journal (R287). -/
def State.retire (s : State) (k seq : Nat) : State :=
  let pri := (s.sched.flights.find? fun f => f.is k seq).map fun f => f.item.tag.pri
  (s.setFlights (s.sched.flights.filter fun f => !f.is k seq)).event .sched 1 { stream := some k, pri := pri }

/-- ACC_SEQ takes in an accepted or passed SEQ (R281). -/
def StreamSt.accepted (st : StreamSt) (seq : Nat) : StreamSt :=
  let r := runAhead (st.accAhead.length + 1) st.acc (seq :: st.accAhead)
  { st with acc := r.1, accAhead := r.2, dirty := true }

/-- RET_SEQ takes in an executed or passed SEQ (R281). -/
def StreamSt.retired (st : StreamSt) (seq : Nat) : StreamSt :=
  let r := runAhead (st.retAhead.length + 1) st.ret (seq :: st.retAhead)
  { st with ret := r.1, retAhead := r.2, dirty := true }

/-- An item is executed (R286): at the head, which writes completion records, an item of a host stream then waits for its record;
any other retires (R287). -/
def State.executed (s : State) (k seq : Nat) : State :=
  let s := s.modFlight k seq fun f => { f with phase := .executed }
  let s := s.modStream k fun st => st.retired seq
  if (s.stream k).atHost && s.pos = 0 then s else s.retire k seq

/-- The item that waits for the acceptance of result `seq` of stream `k` is executed, and its unit's streams are
checkpointed (R275, R286); results accepted out of order leave the later checkpoint. -/
def State.resultAccepted (s : State) (k seq : Nat) : State :=
  match s.sched.flights.find? fun f => f.owes = some (k, seq) with
  | some f =>
    (s.modStream k fun st => { st with ckpt := if seqLater st.ckpt seq then st.ckpt else seq }).executed f.item.tag.stream
      f.item.tag.seq
  | none => s

/-- CONS passes the entries whose outcome is fixed (R278). -/
def RingSt.pass (x : RingSt) : RingSt :=
  let n := (x.open_.takeWhile fun e => e.isNone).length
  if n = 0 then x else { x with open_ := x.open_.drop n, cons := (x.cons + n) % 2 ^ 32, dirty := true }

/-- The entry of item `seq` of stream `k` is in the journal (R278). -/
def State.ringAccepted (s : State) (k seq : Nat) : State :=
  (List.range 64).foldl (fun s r =>
    if (s.ring r).open_.contains (some (k, seq)) then
      s.modRing r fun x => RingSt.pass { x with open_ := x.open_.map fun e => if e = some (k, seq) then none else e }
    else s) s

/-- A G item is in the journal copies (R285): it is accepted, and waits for its destination unless a gap holds it. -/
def State.accept (s : State) (k seq : Nat) : State :=
  match s.sched.flights.find? fun f => f.is k seq && (f.phase = .taken || f.phase = .held) && !f.jrn with
  | none => s
  | some f =>
    let s := s.modFlight k seq fun f => { f with jrn := true, phase := if f.phase = .held then .held else .waiting }
    let s := s.modStream k fun st => st.accepted seq
    let s := s.event .sched 0 (evOf f.item)
    let s := s.events .sched 6 (footprint f.item.tag.len / 64) (evOf f.item)
    (s.ringAccepted k seq).resultAccepted k seq

/-! ### Dispatch (R288) -/

/-- The effective PRI of a waiting item: the highest among itself and the later waiting items of its stream. -/
def effPri (fs : List Flight) (f : Flight) : Nat :=
  fs.foldl (fun m g =>
    if g.item.tag.stream = f.item.tag.stream && g.phase = .waiting &&
        (g.item.tag.seq = f.item.tag.seq || seqLater g.item.tag.seq f.item.tag.seq) then max m g.item.tag.pri else m) 0

/-- No earlier item of the stream still waits to be dispatched. -/
def firstOfStream (fs : List Flight) (f : Flight) : Bool :=
  !fs.any fun g => g.item.tag.stream = f.item.tag.stream && seqLater f.item.tag.seq g.item.tag.seq &&
    (g.phase = .waiting || g.phase = .taken)

/-- The oldest waiting item of the highest effective PRI among those that `ok` admits. -/
def pickFlight (fs : List Flight) (ok : Flight → Bool) : Option Flight :=
  let cands := fs.filter fun f => f.phase = .waiting && ok f && firstOfStream fs f
  let top := cands.foldl (fun m f => max m (effPri fs f)) 0
  cands.find? fun f => effPri fs f = top

/-! ### Quiesce and failure (R293 to R295) -/

/-- An attempt is returned or abandoned (R302). -/
def State.retryCount (s : State) (k pri : Nat) : State :=
  (s.bump R.SCHED_RETRY_CNT_COUNT).event .sched 4 { stream := some k, pri := some pri }

/-- Items delivered to unit `u` go back to waiting with REPLAY (R293, R294); `pred` says which. An acceptance of a result that the
attempt has sent no longer executes the item: its replay sends the result again, under the same SEQ (R275). -/
def State.requeue (s : State) (u : Nat) (pred : Flight → Bool) : State :=
  s.setFlights (s.sched.flights.map fun f =>
    if f.item.tag.dst = u && (f.phase = .sent || f.phase = .running) && pred f then
      { f with phase := .waiting, item := itemFlag f.item flReplay, tmp := true, owes := none }
    else f)

/-- A stream owes LOSS: on its first waiting item, else on the next one (R295). -/
def State.oweLoss (s : State) (k : Nat) : State :=
  match s.sched.flights.find? fun f => f.item.tag.stream = k && f.phase = .waiting with
  | some g => s.modFlight k g.item.tag.seq fun f => { f with item := itemFlag f.item flLoss }
  | none => s.modStream k fun st => { st with loss := true }

/-- D items in the input buffer of unit `u` are lost (R295). -/
def State.loseD (s : State) (u : Nat) : State :=
  let gone := s.sched.flights.filter fun f => f.item.tag.dst = u && f.isD && (f.phase = .sent || f.phase = .running)
  let s := s.setFlights (s.sched.flights.filter fun f =>
    !(f.item.tag.dst = u && f.isD && (f.phase = .sent || f.phase = .running)))
  gone.foldl (fun s f =>
    ((s.bump R.SCHED_LOSS_CNT_COUNT).event .sched 5 (evOf f.item)).oweLoss f.item.tag.stream) s

/-- The streams that unit `u` sends on, with those in the table of open streams. -/
def State.streamsFrom (s : State) (u : Nat) : List Nat :=
  s.sched.streams.filterMap fun e => if e.2.src = u && e.2.state != 0 then some e.1 else none

/-- TX of every stream of unit `u` that `pred` admits returns to CKPT, and what the abandoned attempt still offered is
dropped (R275, R294). -/
def State.rewind (s : State) (u : Nat) (pred : StreamSt → Bool) : State :=
  let ks := (s.streamsFrom u).filter fun k => pred (s.stream k)
  let s := ks.foldl (fun s k => s.modStream k fun st => { st with tx := st.ckpt }) s
  { s with sched := { s.sched with offers := s.sched.offers.filter fun o =>
      !(o.item.tag.src = u && ks.contains o.item.tag.stream) } }

/-- A unit fails without quiescing (R295): running attempts count as abandoned, D inputs are lost, G inputs are requeued,
and an engine's or DMA unit's streams rewind. -/
def State.failUnit (s : State) (u : Nat) : State :=
  let run := s.sched.flights.filter fun f => f.item.tag.dst = u && f.phase = .running
  let s := run.foldl (fun s f => s.retryCount f.item.tag.stream f.item.tag.pri) s
  let s := (s.loseD u).requeue u fun _ => true
  if 0x100 ≤ u % 0x2000 && u % 0x2000 < 0x210 then s.rewind u fun _ => true else s

end Sys2Proof.Machine
end

