-- ==== Sys2Proof/Machine/UnitOps.lean ====
section
/-! DEFINITION. What happens to a unit as a whole: a tile's frames and converters stop (R92, R436), an engine or DMA unit
drops its work, a region's girth closes (R307), a latigo port sends a frame (R336, R338), and the load and reload states
change (R332, R319). -/

namespace Sys2Proof.Machine

/-! ### Sample frames (R91 to R93) -/

/-- Bytes that a tile's words take in its frame buffer: partial, ready and offered frames (R93). -/
def State.frameBytes (s : State) (t : Nat) : Nat :=
  let x := s.tile t
  let words := (x.part ++ x.ready).foldl (fun n e => n + e.2.words.length) 0
  4 * words + s.sched.offers.foldl (fun n o => if o.item.tag.src = s.unitId t then n + o.item.tag.len else n) 0

/-- The partial frame of output `k` goes to the frames that wait, with LAST when it is incomplete (R92). -/
def State.flushOut (s : State) (t k : Nat) : State :=
  let x := s.tile t
  match tblFind x.part k with
  | none => s
  | some f => s.setTile t { x with part := tblDel x.part k, ready := x.ready ++ [(k, { f with last := true })] }

/-- Every partial frame of a tile is flushed with LAST (R92). -/
def State.flushTile (s : State) (t : Nat) : State :=
  ((s.tile t).part.map (·.1)).foldl (fun s k => s.flushOut t k) s

/-- SUSP of the plausibility check (R105), the lowest code that applies. -/
def State.suspSync (s : State) (t : Nat) : State :=
  s.put (R.TILE_ADC_CHK_STAT_SUSP t)
    (if !s.bit (R.TILE_ADC_CHK_CFG_CHK_EN t) then 1 else if s.bit (R.TILE_ADC_STAT_INTLV_ACT t) then 2
     else if min 16 (max 1 (s.get (R.TILE_ADC_CTRL_SEQ_LEN t))) ≤ s.get (R.TILE_ADC_CHK_CFG_CHK_SLOT t) then 3
     else if !s.bit (R.TILE_ADC_STAT_RUNNING t) then 4 else 0)

/-- The converters of a tile stop: no pass runs, frames are flushed, checks are suspended (R75, R89, R105). Words of a pass that has
not ended are not emitted (R117). -/
def State.stopAdc (s : State) (t : Nat) : State :=
  let s := (s.flushTile t).modTile t fun x => { x with
    passRun := false, passEnd := 0, passOut := [], intlvEnter := false, intlvExit := false }
  ((s.putB (R.TILE_ADC_STAT_RUNNING t) false).putB (R.TILE_ADC_STAT_INTLV_ACT t) false).suspSync t

/-! ### Calibration work (R155, R168) -/

/-- A system calibration procedure ends with a reason code (R155). -/
def State.endProc (s : State) (t reason : Nat) : State :=
  let s := (s.put (R.CAL_SYS_STAT_STATE t) 0).put (R.CAL_SYS_STAT_REASON t) reason
  (s.event (.calib (Fin.ofNat 32 t)) (if reason = 0 then 1 else 2)).done (.calib (Fin.ofNat 32 t))

/-- Self-calibration work of a tile ends with a SELF_RESULT (R145, R147). -/
def State.endWork (s : State) (t result : Nat) : State :=
  let s := (s.modTile t fun x => { x with work := none }).putB (R.CAL_STAT_BUSY t) false
  (s.put (R.CAL_STAT_SELF_RESULT t) result).done (.calib (Fin.ofNat 32 t))

/-- A procedure in one of the states up to `last` is aborted (R168). -/
def State.abortProc (s : State) (t last : Nat) : State :=
  let st := s.get (R.CAL_SYS_STAT_STATE t)
  if 1 ≤ st && st ≤ last then s.endProc t 10 else s

/-- A tile's calibration work ends: a procedure ABORTED, a self-calibration with SELF_RESULT = ABORTED (R168). `last` is 3
where a commit in progress completes (R166), else 4. -/
def State.abortCal (s : State) (t : Nat) (last : Nat := 4) : State :=
  let s := s.abortProc t last
  if (s.tile t).work.isSome then s.endWork t 4 else s

/-- Containment of a tile (R436, R75): outputs at their fault values, converters and sine generators stopped. -/
def State.containTile (s : State) (t : Nat) : State :=
  let s := ((s.tileOutFault t).stopAdc t).abortCal t
  let s := (s.putB (R.SG_STAT_RUN t 0) false).putB (R.SG_STAT_RUN t 1) false
  let s := s.eachPin fun s n => s.syncDout t n
  s.failUnit (s.unitId t)

/-! ### Engines, DMA units and regions -/

/-- An engine loses its queued, running and pre-empted invocations; their inputs are the scheduler's (R294, R295). -/
def State.dropEngine (s : State) (e : Nat) : State :=
  let s := s.modEng e fun x => { x with
    queue := [], run := none, saved := [], slots := [], wr := 0, susp := false, link := false, half := none, iter := 0, haltWant := false
    abandonWant := false, kept := [] }
  let s := s.putB (R.CL_EFLT_SUSP (e / 8) (e % 8)) false
  let s := (s.putB (R.ENG_STAT_RUNNING e) false).put (R.ENG_STAT_PREEMPTED e) 0
  (s.put (R.ENG_STAT_PENDING e) 0).putB (R.ENG_STAT_IDLE e) true

/-- A DMA channel's part. -/
def State.dma (s : State) (c j : Nat) : DmaSt := tblGet (fun _ => {}) s.dmas (16 * c + j)
def State.setDma (s : State) (c j : Nat) (x : DmaSt) : State := { s with dmas := tblSet (fun _ => {}) s.dmas (16 * c + j) x }
def State.modDma (s : State) (c j : Nat) (f : DmaSt → DmaSt) : State := s.setDma c j (f (s.dma c j))

/-- An event of a channel, and of the item that it serves (R449). -/
def State.dmaTag (s : State) (c j : Nat) : EvTag :=
  let x := s.dma c j
  { sub := some j, stream := x.item.map (·.1), pri := x.item.map fun _ => x.pri }

/-- The channels of a DMA unit stop at an element boundary and serve no item any more (R294, R436). -/
def State.dropDma (s : State) (c : Nat) : State :=
  let s := (List.range 16).foldl (fun s j =>
    let s := s.modDma c j fun x => { stop := x.stop, wp := x.wp }
    (s.putB (R.DMA_CH_STAT_ACTIVE c j) false).putB (R.DMA_CH_STAT_SUSP c j) false) s
  (s.put (R.DMA_STAT_ACTIVE c) 0).put (R.DMA_STAT_SUSP c) 0

/-- Containment of an engine (R436). -/
def State.containEngine (s : State) (e : Nat) : State :=
  ((s.putB (R.ENG_STAT_CONTAINED e) true).dropEngine e).failUnit (s.unitId (0x100 + e))

/-- The outgoing signals of a region take their declared safe values, which they keep until its logic drives them (R307). -/
def State.latchSafe (s : State) (r : Nat) : State :=
  let s := s.eachTilePin fun s t n =>
    if s.pinRegion t n = some r then
      (s.modPin t n fun p => { p with
        fabLevel := safeLevel p.fabSafe p.fabLevel, fabOe := safeLevel p.fabSafeOe p.fabOe }).syncDout t n
    else s
  (List.range 48).foldl (fun s g =>
    if s.get (R.GIO_CFG_REGION g) = r then
      s.modGio g fun o => { o with level := safeLevel o.safe o.level, oe := safeLevel o.safeOe o.oe }
    else s) s

/-- GIO pins in PWM hold the outputs of the region's counter blocks as they stand (R313). -/
def State.holdCounters (s : State) (r : Nat) : State :=
  (List.range 48).foldl (fun s g =>
    let k := s.get (R.GIO_CFG_SEL g)
    if s.get (R.GIO_CFG_FUNC g) = 9 && k / 32 = r then s.modGio g fun o => { o with held := (s.cnt k).out } else s) s

/-- A region's girth closes (R307, R313): its outgoing signals take their declared safe values, its crossings freeze, no item
is presented, and its pulse trains stop. What HOLD keeps of a counter output it takes when the girth was open. -/
def State.closeGirth (s : State) (r st : Nat) : State :=
  let open_ : Bool := s.get (R.FAB_REG_STAT_STATE r) = 1
  let s := s.put (R.FAB_REG_STAT_STATE r) st
  let s := (List.range 8).foldl (fun s q =>
    if q = r then s else s.putIdx (R.FAB_REG_STAT_FROZEN_IN q) r true) s
  let s := if open_ then (s.latchSafe r).holdCounters r else s.latchSafe r
  let s := (List.range 32).foldl (fun s b => s.modCnt (32 * r + b) fun c =>
    if c.mode = 6 then { c with run := false, left := 0, out := false } else c) s
  let u := s.unitId (0x300 + r)
  let s := { s with sched := { s.sched with
    offers := s.sched.offers.filter fun o => o.item.tag.src != u
    ports := tblClear s.sched.ports (16 * r) (16 * r + 16) } }
  s.eventInst .fabric r 2

/-! ### Latigo frames (R336, R338) -/

/-- FSEQ after `a`; 0 is kept for ACK, NAK and CREDIT (R336; assumption log 8). -/
def fseqSucc (a : Nat) : Nat := if 65535 ≤ a then 1 else a + 1

/-- PRI of a frame's content: an item's own, the highest for everything else (R288). -/
def msgPri : LatMsg → Nat
  | .item it => it.tag.pri
  | _ => 3

/-- Credit units of 64 bytes that an item frame takes (R339). -/
def msgUnits : LatMsg → Nat
  | .item it => (32 + it.tag.len + 63) / 64
  | _ => 0

/-- Whether a frame is one of ACK, NAK and CREDIT, whose FSEQ is 0 (R336). -/
def isControl : LatMsg → Bool
  | .ack => true | .nak => true | .credit _ => true | _ => false

/-- FTYPE (R337). -/
def LatMsg.ftype : LatMsg → Nat
  | .ack => 0x01 | .nak => 0x02 | .credit _ => 0x03 | .item _ => 0x10 | .itemAcc _ _ => 0x11 | .load _ _ => 0x20
  | .loadctl _ _ _ _ => 0x21 | .beacon _ _ => 0x30 | .beaconReply _ _ _ => 0x31 | .fault _ _ _ _ => 0x40 | .reg _ _ _ _ => 0x50

/-- The payload (R337). Bytes that R337 names no content for are zero, and times are in ps (DESIGN CHOICE, log 185). -/
def LatMsg.payload : LatMsg → List Byte
  | .ack => []
  | .nak => []
  | .credit c => (List.range 4).flatMap fun k => leBytes 2 (c.getD k 0)
  | .item it => tagBytes it.tag ++ it.payload
  | .itemAcc k q => leBytes 2 k ++ leBytes 6 q
  | .load off bs => leBytes 8 off ++ bs
  | .loadctl op pos code deadline =>
    leBytes 1 op ++ leBytes 1 pos ++ leBytes 1 code ++ leBytes 5 0 ++ leBytes 8 (if op = 1 then deadline else 0)
  | .beacon t1 d => leBytes 8 (lowBits 64 t1) ++ leBytes 8 (lowBits 64 d)
  | .beaconReply t1 t2 t3 => leBytes 8 (lowBits 64 t1) ++ leBytes 8 (lowBits 64 t2) ++ leBytes 8 (lowBits 64 t3)
  | .fault cls origin cause source => leBytes 1 cls ++ leBytes 1 origin ++ leBytes 2 cause ++ leBytes 4 source
  | .reg op tag off v => leBytes 1 op ++ leBytes 1 0 ++ leBytes 2 tag ++ leBytes 4 off ++ leBytes 4 v

/-- The bytes of a frame before its CRC (R336): FTYPE, CH, LEN, FSEQ, ACK, PAYLOAD and PAD. -/
def frameBody (ftype pri fseq ack : Nat) (payload : List Byte) : List Byte :=
  let n := payload.length
  leBytes 1 ftype ++ leBytes 1 pri ++ leBytes 2 n ++ leBytes 2 fseq ++ leBytes 2 ack ++ payload ++ leBytes ((4 - n % 4) % 4) 0

/-- The bytes of a frame (R336). -/
def LatFrame.bytes (x : LatFrame) : List Byte :=
  let b := frameBody x.msg.ftype (msgPri x.msg) x.fseq x.ack x.msg.payload
  b ++ leBytes 4 (crc32c b)

/-- A frame that arrives with content `m` has its FTYPE and a good CRC (R336); one with a reserved FTYPE counts as having a bad CRC
(R337). -/
def frameGood (h : FrameHdr) (m : LatMsg) : Bool :=
  h.ftype.toNat = m.ftype && h.crc.toNat = crc32c (frameBody m.ftype h.pri.val h.fseq h.ack m.payload)

/-- A frame leaves the port now: the port is ACTIVE, the replay buffer has room and the partner's credit suffices. -/
def State.canSend (s : State) (p : Nat) (m : LatMsg) : Bool :=
  let x := s.port p
  s.get (R.LAT_PSTAT_LTSTATE p) = 5 && (isControl m || x.replay.length < 64) &&
    msgUnits m ≤ x.credits.getD (msgPri m) 0

/-- Send a frame: it gets the next FSEQ, acknowledges what was received in order, and stays in the replay buffer (R336, R338). -/
def State.transmit (s : State) (p : Nat) (m : LatMsg) : State :=
  let x := { s.port p with unacked := 0 }
  let x := if isControl m then { x with out := ⟨0, x.rxLast, m⟩ :: x.out }
    else { x with out := ⟨x.txSeq, x.rxLast, m⟩ :: x.out, replay := x.replay ++ [(x.txSeq, m)], txSeq := fseqSucc x.txSeq,
                  credits := x.credits.set (msgPri m) (x.credits.getD (msgPri m) 0 - msgUnits m) }
  (s.setPort p x).eventInst .latigo p 0

/-- The stream of an item frame. -/
def msgStream : LatMsg → Option Nat
  | .item it => some it.tag.stream
  | _ => none

/-- The frames of a queue that may leave: an item only where no earlier item of its stream waits (R288). -/
def leading (l : List LatMsg) : List LatMsg :=
  (l.foldl (fun (a : List LatMsg × List Nat) m =>
    match msgStream m with
    | none => (a.1 ++ [m], a.2)
    | some k => if a.2.contains k then a else (a.1 ++ [m], k :: a.2)) ([], [])).1

/-- Frames that wait leave in order, higher PRI first (R288, R338), while they can. -/
def State.pumpPort : Nat → State → Nat → State
  | 0, s, _ => s
  | n + 1, s, p =>
    let ok := (leading (s.port p).waiting).filter fun m => s.canSend p m
    let top := ok.foldl (fun k m => max k (msgPri m)) 0
    match ok.find? fun m => msgPri m = top with
    | none => s
    | some m => State.pumpPort n ((s.modPort p fun x => { x with waiting := x.waiting.erase m }).transmit p m) p

/-- Whether a frame carries a work item. -/
def isItem : LatMsg → Bool
  | .item _ => true | _ => false

/-- Send a frame through port `p`, or let it wait; a port that is off takes items only, which wait for its link (R12). -/
def State.latSend (s : State) (p : Nat) (m : LatMsg) : State :=
  if s.get (R.LAT_PSTAT_LTSTATE p) = 0 && !isItem m then s else
  let s := s.modPort p fun x => { x with waiting := x.waiting ++ [m] }
  s.pumpPort (s.port p).waiting.length p

/-- FAULT frames leave through both ports (R344). -/
def State.faultFrames (s : State) (cls cause source : Nat) : State :=
  (s.latSend 0 (.fault cls s.pos cause source)).latSend 1 (.fault cls s.pos cause source)

/-! ### Load and reload states -/

/-- LOAD_STAT.STATE changes; interrupt source 269 pulses at each change (R486). -/
def State.setLoad (s : State) (st : Nat) : State :=
  if s.get R.LAT_LOAD_STAT_STATE = st then s else (s.put R.LAT_LOAD_STAT_STATE st).srcFire 269

/-- The reload in progress ends (R318). -/
def State.endReload (s : State) (result : Nat) : State :=
  let s := (s.putB R.FAB_RCFG_STAT_BUSY false).put R.FAB_RCFG_STAT_PHASE 0
  let s := { s.put R.FAB_RCFG_STAT_RESULT result with rcfg := {} }
  s.done .fabric

/-- A class 4 fault, PFAIL or an OFF of the target's domain before step 4 of R315 ends the reload ABORTED (R319). -/
def State.abortReload (s : State) : State :=
  if s.bit R.FAB_RCFG_STAT_BUSY && !s.rcfg.girth then
    let u := s.unitId s.rcfg.target
    let s := { s with sched := { s.sched with quiesce := s.sched.quiesce.filter fun q => q.1 != u } }
    s.endReload 5
  else s

end Sys2Proof.Machine
end

