-- ==== Sys2Proof/Machine/Records.lean ====
section
/-! DEFINITION. Fault records (R433 to R435, R441 to R443): sources, the active table and escalation, the FIFO and the
ledger log, and the interrupt bits and event counters a record drives. -/

namespace Sys2Proof.Machine

/-- A fault source (R434) with the page its records are raised from (R465). -/
structure Src where
  page : Page
  unit : Nat
  sub : Nat
deriving DecidableEq, Repr

/-! ### Sources (R434, R465) -/

/-- Pin `n` of tile `t`. -/
def State.srcPin (s : State) (t n : Nat) : Src := ⟨.pins (Fin.ofNat 32 t), s.unitId t, 0x100 + n⟩
/-- Pin `n`, raised from the output page, which holds the status bit. -/
def State.srcOut (s : State) (t n : Nat) : Src := ⟨.output (Fin.ofNat 32 t), s.unitId t, 0x100 + n⟩
/-- Tile `t` itself, from one of its pages. -/
def State.srcTile (s : State) (t : Nat) (p : Page) : Src := ⟨p, s.unitId t, 0⟩
/-- Converter slot `k` of tile `t`. -/
def State.srcSlot (s : State) (t k : Nat) : Src := ⟨.input (Fin.ofNat 32 t), s.unitId t, 0x200 + k⟩
/-- Calibration channel `c` of tile `t`. -/
def State.srcCal (s : State) (t c : Nat) : Src := ⟨.calib (Fin.ofNat 32 t), s.unitId t, 0x200 + c⟩
/-- Engine `e`. -/
def State.srcEng (s : State) (e : Nat) : Src := ⟨.engine (Fin.ofNat 128 e), s.unitId (0x100 + e), 0⟩
/-- Engine `e`, where the record's rule sets CL_EFLT on the cluster page (R250, R465). -/
def State.srcEflt (s : State) (e : Nat) : Src := ⟨.cluster (Fin.ofNat 16 (e / 8)), s.unitId (0x100 + e), 0⟩
/-- DMA channel `j` of unit `c`. -/
def State.srcDma (s : State) (c j : Nat) : Src := ⟨.dma (Fin.ofNat 16 c), s.unitId (0x200 + c), 0x300 + j⟩
/-- Fabric region `r`. -/
def State.srcRegion (s : State) (r : Nat) : Src := ⟨.fabric, s.unitId (0x300 + r), 0⟩
/-- A device-level source, raised from the page that R465 gives its block. -/
def State.srcDev (s : State) (sub : Nat) : Src :=
  let p : Page :=
    if sub = 0x11 then .mem else if sub = 0x12 || sub = 0x13 then .latigo else if sub = 0x18 then .rings
    else if sub = 0x10 || sub = 0x19 || sub = 0x1B then .lichen else .fault
  ⟨p, s.mgmtId, sub⟩
/-- A stream source. -/
def State.srcStream (s : State) (k : Nat) : Src := ⟨.sched, s.mgmtId, 0x2000 + k⟩
/-- The source of a refusal by page `p` (R461): its unit, or the page source. -/
def State.srcPage (s : State) (p : Page) : Src :=
  match p with
  | .pins t => ⟨p, s.unitId t, 0⟩
  | .input t => ⟨p, s.unitId t, 0⟩
  | .output t => ⟨p, s.unitId t, 0⟩
  | .calib t => ⟨p, s.unitId t, 0⟩
  | .engine e => ⟨p, s.unitId (0x100 + e), 0⟩
  | .dma c => ⟨p, s.unitId (0x200 + c), 0⟩
  | _ => ⟨p, s.mgmtId, 0x1000 + pageBase p / 0x1000⟩

/-- ISRC of a record (R486). -/
def State.isrcOf (s : State) (r : Src) : Nat :=
  if s.unitId 0x300 ≤ r.unit && r.unit < s.unitId 0x308 then 192 + (r.unit - s.unitId 0x300)
  else if r.sub = 0x10 then 274 else if r.sub = 0x13 then 268 else if r.sub = 0x14 then 269
  else if r.sub = 0x18 then 273 else pageSrc r.page

/-! ### The active table (R441, R442) -/

/-- The active source of a unit's part, if it is active. -/
def State.activeOf (s : State) (unit sub : Nat) : Option ActSrc :=
  (s.flt.active.find? fun e => e.2.unit = unit && e.2.sub = sub).map (·.2)

/-- The lowest free slot of the active table (assumption log 9). -/
def freeSlot (n : Nat) (t : List (Nat × ActSrc)) : Nat :=
  match (List.range n).find? fun i => (tblFind t i).isNone with
  | some i => i
  | none => n

/-- The sources whose level the active table or the FIFO decides (R446, R486). -/
def faultSrcs : List Nat := [192, 193, 194, 195, 196, 197, 198, 199, 268, 269, 273, 274, 304, 310]

/-- A source takes a record's class and RSEQ. -/
def State.setActive (s : State) (r : Src) (cls rseq cause : Nat) : State :=
  let a : ActSrc := { unit := r.unit, sub := r.sub, cls := cls, rseq := rseq, cause := cause, page := r.page }
  let was := s.flt.active.any fun e => e.2.page = r.page
  let i := match s.flt.active.find? fun e => e.2.unit = r.unit && e.2.sub = r.sub with
    | some e => e.1
    | none => freeSlot 64 s.flt.active
  let s := { s with flt := { s.flt with active := tblIns s.flt.active i a } }
  if was then s else s.pend r.page irqFault

/-- Handling of the active sources that `p` picks ends (R441). -/
def State.endActive (s : State) (p : ActSrc → Bool) : State :=
  { s with flt := { s.flt with active := s.flt.active.filter fun e => !p e.2 } }

/-- Handling of one source ends. -/
def State.ackSource (s : State) (unit sub : Nat) : State := s.endActive fun a => a.unit = unit && a.sub = sub

/-- Handling of a source ends when it was raised for one of the causes given (R441: a clearing write to the bit that the
raising rule latched). -/
def State.ackCause (s : State) (unit sub : Nat) (causes : List Nat) : State :=
  s.endActive fun a => a.unit = unit && a.sub = sub && causes.contains a.cause

/-! ### Records (R433, R443) -/

/-- The class and ESC with which a fault of class `orig` from a source is recorded (R442). -/
def State.escalate (s : State) (r : Src) (orig : Nat) : Nat × Bool :=
  match s.activeOf r.unit r.sub with
  | some a => if 2 ≤ orig ∧ orig ≤ 4 then (min 4 (max orig (a.cls + 1)), true) else (orig, false)
  | none => (orig, false)

/-- Count a record and its class; a record of class 1 to 3 is also a trigger source, as the entry into class 4 is (R448, R450). -/
def State.countRecord (s : State) (cls : Nat) (esc : Bool) : State :=
  let s := s.event .fault 0
  let s := if 1 ≤ cls && cls ≤ 4 then s.event .fault cls else s
  let s := if 1 ≤ cls && cls ≤ 3 then s.trigSource (0x20 + cls) else s
  let s := if esc then (s.event .fault 5).srcFire 309 else s
  if cls = 2 then s.srcFire 305 else if cls = 3 then s.srcFire 306 else s

/-- FAULT_LAST and FAULT_LAST_SRC of the raising page, and its NOTE bit (R464, R465). -/
def State.lastRecord (s : State) (r : FltRec) (p : Page) : State :=
  let b := pageBase p
  let s := (s.put (R.FAULT_LAST_RSEQ b) r.rseq).put (R.FAULT_LAST_CAUSE b) r.cause
  let s := (s.put (R.FAULT_LAST_SRC_SUB b) r.sub).put (R.FAULT_LAST_SRC_CLASS b) r.cls
  let s := s.putB (R.FAULT_LAST_SRC_ESC b) r.esc
  if r.cls ≤ 1 then s.pend p irqNote else s

/-- The bit of an error in the uncorrectable status, mask and severity registers of AER (PRESUMED, log 187); a memory error is one of CXL
RAS. -/
def AerReport.bit : AerReport → Option Nat
  | .poisonedCompletion => some 12
  | .completionTimeout => some 14
  | .unsupported => some 20
  | .internalNonFatal => some 22
  | .internalFatal => some 22
  | .ideCheckFailed => some 27
  | .memoryError => none

/-- Report an error to the host (R366): its status bit, and a message of the severity that the host left it, unless it is masked. -/
def State.report (s : State) (e : AerReport) : State :=
  match e.bit with
  | none => { s.putB R.CXL_RAS_MEM true with flt := { s.flt with aer := (e, false) :: s.flt.aer } }
  | some i =>
    let fatal := decide (e = .internalFatal) || s.getIdx R.AER_UE_SEV i
    let s := s.putIdx R.AER_UE_STAT i true
    if s.getIdx R.AER_UE_MASK i then s else { s with flt := { s.flt with aer := (e, fatal) :: s.flt.aer } }

/-- Put a record into the FIFO. -/
def State.pushFifo (s : State) (r : FltRec) : State :=
  { s with flt := { s.flt with fifo := s.flt.fifo ++ [r] } }

/-- Make the next record (R433). -/
def State.mkRecord (s : State) (r : Src) (orig cause info : Nat) (remote : Bool) : FltRec :=
  let e := s.escalate r orig
  { rseq := (s.flt.rseq + 1) % 65536, cls := e.1, esc := e.2, remote := remote, orig := orig, unit := r.unit,
    sub := r.sub, cause := cause, isrc := s.isrcOf r, info := info % 2 ^ 32, time := s.time, cal := s.calTime }

/-- Raise a record and place it (R432, R443); the answer says whether it was discarded for want of room. -/
def State.place (s : State) (r : Src) (fr : FltRec) : State × Bool :=
  let s := { s with flt := { s.flt with rseq := fr.rseq } }
  let s := (s.lastRecord fr r.page).countRecord fr.cls fr.esc
  let s := if 3 ≤ fr.cls || fr.cause = 0x61 then s.logAdd (.record fr) else s
  if 5 ≤ fr.cls then (s, false)
  else if fr.cls ≤ 1 then
    if s.getIdx ⟨fltPage + 0x48, 1, 0⟩ fr.cls && s.flt.fifo.length < 48 then (s.pushFifo fr, false)
    else (((s.bump R.FLT_DROP_CNT_COUNT).event .fault 6).srcFire 311, false)
  else
    let active := fr.esc || fr.cls = 2 || fr.cls = 3
    let full := 64 ≤ s.flt.fifo.length ||
      (active && (s.activeOf r.unit r.sub).isNone && 64 ≤ s.flt.active.length)
    if full then (s.putB R.FLT_STAT_OVF true, true)
    else
      let s := s.pushFifo fr
      (if active then s.setActive r fr.cls fr.rseq fr.cause else s, false)

/-- Raise a record: its number, place, counters and interrupt levels; no containment and no entry into class 4. -/
def State.record (s : State) (r : Src) (orig cause info : Nat) (remote : Bool := false) : State × Bool :=
  let fr := s.mkRecord r orig cause info remote
  let out := s.place r fr
  (faultSrcs.foldl (fun a i => if !s.srcLevel i && out.1.srcLevel i then a.srcFire i else a) out.1, out.2)

end Sys2Proof.Machine
end

