-- ==== Sys2Proof/Machine/Attach.lean ====
section
/-! DEFINITION. The pin cell up to the attach: SETTLE counters (R100, R101), groups (R30), the front end's status (R58, R61),
live wire conditions (R51), DAC cores (R65), the lane matrix (R68 to R71) and step 3 of a function switch (R42, R43). -/

namespace Sys2Proof.Machine

/-! ### SETTLE (R86, R100, R101) -/

/-- T_seq in 250 ps units (R86, R100). -/
def State.tSeq (s : State) (t : Nat) : Nat :=
  if s.bit (R.TILE_ADC_CTRL_MODE t) || s.get (R.TILE_ADC_SEQ_PER t) = 0 then s.tAct t else s.get (R.TILE_ADC_SEQ_PER t)

/-- Words that a settling time in 50 ps units marks (R100). -/
def State.settleWords (s : State) (t dur : Nat) : Nat := ceilDiv dur (5 * s.tSeq t)

/-- 2 µs and 200 µs in 50 ps units (R100). -/
def settle2us : Nat := 40000
def settle200us : Nat := 4000000

/-- 5τ of a FILT code in 50 ps units, as the table of R60 gives it. -/
def fiveTau (filt : Nat) : Nat :=
  [3184, 7958, 15916, 39780, 159160, 636600, 3184000, 15916000].getD filt 0

/-- Load slot `k`'s counter with the larger of its value and `cnt` (R101). -/
def State.settleSlot (s : State) (t k cnt : Nat) : State :=
  s.put (R.TILE_ADC_SETTLECNT_COUNT t k) (min 65535 (max (s.get (R.TILE_ADC_SETTLECNT_COUNT t k)) cnt))

/-- Every slot whose source is `src` is touched (R100). -/
def State.settleSrc (s : State) (t src cnt : Nat) : State :=
  (List.range 16).foldl (fun s k => if s.get (R.TILE_ADC_SLOT_SRC t k) = src then s.settleSlot t k cnt else s) s

/-- Every slot is touched: a fiddlehead start (R100). -/
def State.settleAll (s : State) (t cnt : Nat) : State := (List.range 16).foldl (fun s k => s.settleSlot t k cnt) s

/-! ### Groups (R30) -/

/-- AIN_DIFF, DIFF_LINE and ENC_SINCOS. -/
def isPair (f : Nat) : Bool := f = 2 || f = 10 || f = 11
def isGroup (f : Nat) : Bool := isPair f || f = 13
/-- The lead pin of pin `n` in a group of function `f`. -/
def leadOf (f n : Nat) : Nat := if isPair f then n / 2 * 2 else if f = 13 then n / 4 * 4 else n
/-- The pins of the group that pin `n` is in under function `f`; `n` alone for a single-pin function. -/
def groupOf (f n : Nat) : List Nat :=
  if isPair f then [n / 2 * 2, n / 2 * 2 + 1]
  else if f = 13 then [n / 4 * 4, n / 4 * 4 + 1, n / 4 * 4 + 2, n / 4 * 4 + 3] else [n]

/-- The functions of class analogue (R41). -/
def isAnalogue (f : Nat) : Bool :=
  f = 1 || f = 2 || f = 3 || f = 4 || f = 5 || f = 6 || f = 11 || f = 13 || f = 14 || f = 15

/-- The function a pin has, or will attach while a switch runs (R42, R44). -/
def State.funcGoal (s : State) (t n : Nat) : Nat :=
  if s.bit (R.PIN_STAT_SWITCHING t n) then (s.pin t n).nextFunc else s.func t n

/-! ### AFE status (R58, R61) -/

/-- RANGE and FILT in effect for pin `n`: a group takes the lead pin's (R24, R61); codes 6 and 7 limit FILT to 3. -/
def State.rangeOf (s : State) (t n : Nat) : Nat := s.get (R.PIN_CFG_RANGE t (leadOf (s.func t n) n))
def filtLimit (range filt : Nat) : Nat := if 6 ≤ range ∧ filt < 3 then 3 else filt
def State.filtOf (s : State) (t n : Nat) : Nat :=
  filtLimit (s.rangeOf t n) (s.get (R.TILE_AFE_FILT t (leadOf (s.func t n) n)))

/-- FILT_LIM and SENSE_IGN of pin `n` follow its configuration (R58, R61). -/
def State.afeStat (s : State) (t n : Nat) : State :=
  let s := s.putIdx (R.TILE_AFE_STAT_FILT_LIM t) n (6 ≤ s.rangeOf t n && s.get (R.TILE_AFE_FILT t (leadOf (s.func t n) n)) < 3)
  s.putIdx (R.TILE_AFE_STAT_SENSE_IGN t) n (s.bit (R.TILE_AFE_SENSE t n) && s.func t n != 1)

/-! ### The digital state (R26, R27, R35) -/

/-- Positive full scale of a RANGE code, in microvolts (R57). -/
def fullScale (range : Nat) : Int := [36000000, 12000000, 6000000, 2500000, 1000000, 250000, 62500, 25000].getD range 25000

/-- A pin voltage is above, or below, the threshold of a comparator code: 512 V against (code − 512) FS (R26). -/
def State.overCode (s : State) (t n code : Nat) : Bool :=
  ((code : Int) - 512) * fullScale (s.rangeOf t n) < 512 * (s.pin t n).uV
def State.underCode (s : State) (t n code : Nat) : Bool :=
  512 * (s.pin t n).uV < ((code : Int) - 512) * fullScale (s.rangeOf t n)

/-- The window comparator follows the pin (R26). -/
def State.cmpSync (s : State) (t n : Nat) : State :=
  let hi := s.get (R.PIN_THR_TH_HI t n)
  let lo := if hi < s.get (R.PIN_THR_TH_LO t n) then hi else s.get (R.PIN_THR_TH_LO t n)
  if s.overCode t n hi then s.modPin t n fun p => { p with cmp := true }
  else if s.underCode t n lo then s.modPin t n fun p => { p with cmp := false }
  else s

/-- The DIN24 input's threshold state (R27); with DIN_FILT = 0 it passes at once. -/
def State.dinSync (s : State) (t n : Nat) : State :=
  let typ := s.get (R.PIN_CFG_DIN_TYPE t n)
  let v := (s.pin t n).uV
  let raw := if (if typ = 0 then 12000000 else 9000000) ≤ v then true
    else if v ≤ (if typ = 0 then 9000000 else 7000000) then false else (s.pin t n).dinRaw
  let s := s.modPin t n fun p => { p with dinRaw := raw }
  if s.get (R.PIN_CFG_DIN_FILT t n) = 0 then s.modPin t n fun p => { p with din := raw } else s

/-- The zero-crossing comparator of an ENC_SINCOS pair follows the sign of the track: a pair at zero holds it (R24). -/
def State.zeroSync (s : State) (t n : Nat) : State :=
  let l := n / 2 * 2
  let d := (s.pin t l).uV - (s.pin t (l + 1)).uV
  if s.func t n = 11 && d != 0 then s.modPin t l fun p => { p with zeroX := decide (0 < d) } else s

/-- The line receiver: certain beyond its thresholds, and what the pin's receiver decided between them (R24). -/
def State.receiver (s : State) (t n : Nat) : Bool :=
  if s.func t n = 10 then
    let l := n / 2 * 2
    let d := (s.pin t l).uV - (s.pin t (l + 1)).uV
    if 200000 ≤ d then true else if d ≤ -200000 then false else (s.pin t l).line
  else
    let five := s.get (R.PIN_CFG_DIO_MODE t n) = 1
    let v := (s.pin t n).uV
    if (if five then 3500000 else 2000000) ≤ v then true
    else if v ≤ (if five then 1500000 else 800000) then false else (s.pin t n).line

/-- The digital state of a field pin: in the gap of a switch the last one, else by its active function (R35). -/
def State.pinState (s : State) (t n : Nat) : Bool :=
  let f := s.func t n
  if s.bit (R.PIN_STAT_SWITCHING t n) then s.getIdx (R.PINS_IN t) n
  else if f = 0 || f = 13 || f = 14 then false
  else if f = 7 then (s.pin t n).din
  else if f = 8 then decide (12000000 < (s.pin t n).uV)
  else if f = 9 || f = 10 then s.receiver t n
  else (s.pin t n).cmp

/-- The state that a pin gives the fabric: in ENC_SINCOS the pair's zero-crossing comparator (R24), else its digital state. -/
def State.fabricIn (s : State) (t n : Nat) : Bool :=
  if s.func t n = 11 && !s.bit (R.PIN_STAT_SWITCHING t n) then (s.pin t (n / 2 * 2)).zeroX else s.pinState t n

/-! ### Wire conditions (R49 to R51) -/

/-- The condition that a criterion detects: 0 OPEN, 1 SHORT, 2 SHORT_HI, 3 REVERSED (R49). -/
def critCond : Crit → Nat
  | .openPilot => 0 | .openCompliance => 0 | .openForced => 0
  | .shortPilot => 1 | .shortCurrent => 1 | .shortSupply => 2
  | .revPolarity => 3 | .revPair => 3 | .revSupply => 3

/-- PIN_STAT's live bit and PIN_FLT's latched bit of a condition. -/
def condStat (t n : Nat) : Nat → Field
  | 0 => R.PIN_STAT_OPEN t n | 1 => R.PIN_STAT_SHORT t n | 2 => R.PIN_STAT_SHORT_HI t n | _ => R.PIN_STAT_REVERSED t n
def condFlt (t n : Nat) : Nat → Field
  | 0 => R.PIN_FLT_OPEN t n | 1 => R.PIN_FLT_SHORT t n | 2 => R.PIN_FLT_SHORT_HI t n | _ => R.PIN_FLT_REVERSED t n
/-- CAUSE of a condition's detection (R435). -/
def condCause : Nat → Nat
  | 0 => 0x01 | 1 => 0x02 | 2 => 0x02 | _ => 0x03

/-- WIRE is the OR of the live conditions (R51). -/
def State.wireSync (s : State) (t n : Nat) : State :=
  s.putB (R.PIN_STAT_WIRE t n) (s.bit (R.PIN_STAT_OPEN t n) || s.bit (R.PIN_STAT_SHORT t n) ||
    s.bit (R.PIN_STAT_SHORT_HI t n) || s.bit (R.PIN_STAT_REVERSED t n))

/-- A criterion is met: it holds its condition, which goes live with its latched bit if it was absent (R51). -/
def State.critLive (s : State) (t n : Nat) (c : Crit) : State :=
  let k := critCond c
  let live := s.bit (condStat t n k)
  let s := s.modPin t n fun p => { p with crits := if p.crits.contains c then p.crits else c :: p.crits }
  if live then s
  else
    let s := (s.putB (condStat t n k) true).putB (condFlt t n k) true
    (s.wireSync t n).event (.pins (Fin.ofNat 32 t)) 0 { sub := some n }

/-- A criterion clears; its condition ends once no criterion holds it (R51). -/
def State.critGone (s : State) (t n : Nat) (c : Crit) : State :=
  let k := critCond c
  let s := s.modPin t n fun p => { p with crits := p.crits.erase c }
  if (s.pin t n).crits.any fun d => critCond d = k then s
  else (s.putB (condStat t n k) false).wireSync t n

/-! ### DAC cores (R65) -/

def State.releaseCore (s : State) (t n : Nat) : State :=
  match s.coreOf t n with
  | some 0 => s.putB (R.TILE_DAC_ROUTE_D0_USED t) false
  | some _ => s.putB (R.TILE_DAC_ROUTE_D1_USED t) false
  | none => s

/-- The number of logical cores that a tile's good physical cores can serve (R146). -/
def State.goodCores (s : State) (t : Nat) : Nat :=
  min 2 (([0, 1, 2].filter fun k => !s.getIdx (R.CAL_STAT_CORE_BAD t) k).length)

/-- The lowest-numbered free logical core goes to pin `n` (R65), of those that good physical cores serve (R146). -/
def State.assignCore (s : State) (t n : Nat) : State :=
  if (s.coreOf t n).isSome then s
  else if !s.bit (R.TILE_DAC_ROUTE_D0_USED t) && 0 < s.goodCores t then
    (s.put (R.TILE_DAC_ROUTE_D0_PIN t) n).putB (R.TILE_DAC_ROUTE_D0_USED t) true
  else if !s.bit (R.TILE_DAC_ROUTE_D1_USED t) && 1 < s.goodCores t then
    (s.put (R.TILE_DAC_ROUTE_D1_PIN t) n).putB (R.TILE_DAC_ROUTE_D1_USED t) true
  else s

/-! ### Lanes (R68 to R71) -/

/-- Lane and pin of drive entry `k` of tile `t`. -/
def State.drvLane (s : State) (t k : Nat) : Nat :=
  if k = 0 then s.get (R.TILE_LANE_DRV_LANE0 t) else s.get (R.TILE_LANE_DRV_LANE1 t)
def State.drvPin (s : State) (t k : Nat) : Nat :=
  if k = 0 then s.get (R.TILE_LANE_DRV_PIN0 t) else s.get (R.TILE_LANE_DRV_PIN1 t)
def State.drvEn (s : State) (t k : Nat) : Bool :=
  if k = 0 then s.bit (R.TILE_LANE_DRV_EN0 t) else s.bit (R.TILE_LANE_DRV_EN1 t)

/-- The segment switch of lane `l` between tiles `t` and `t + 1` is closed (R66). -/
def State.segClosed (s : State) (l t : Nat) : Bool := (s.get (R.TILE_LANE_SEG_ACT t)).testBit l

/-- It is closed, or a check has let it close at step 3 of its commit (R69, R70). -/
def State.segOn (s : State) (l t : Nat) : Bool := s.segClosed l t || (s.tile t).segWant.testBit l

/-- The lowest and the highest tile reached from tile `t` through joined boundaries; the count bounds the walk. -/
def netLo (joined : Nat → Bool) : Nat → Nat → Nat
  | 0, t => t
  | n + 1, t => if t != 0 && joined (t - 1) then netLo joined n (t - 1) else t
def netHi (joined : Nat → Bool) : Nat → Nat → Nat
  | 0, t => t
  | n + 1, t => if t < 31 && joined t then netHi joined n (t + 1) else t

/-- The tiles reached from tile `t`. -/
def netOf (joined : Nat → Bool) (t : Nat) : List Nat :=
  let lo := netLo joined 32 t
  (List.range (netHi joined 32 t + 1 - lo)).map (· + lo)

/-- The tiles of the net of lane `l` at tile `t`, as its switches stand (R66). -/
def State.netTiles (s : State) (t l : Nat) : List Nat := netOf (s.segClosed l) t
/-- The same with the switches that are about to close, as the net check sees it (R69). -/
def State.netPlan (s : State) (t l : Nat) : List Nat := netOf (s.segOn l) t

/-- Drive entry `k` of tile `t` is closed or about to close. -/
def State.drvOn (s : State) (t k : Nat) : Bool := (s.tile t).drvClosed.contains k || (s.tile t).drvWant.contains k

/-- The drivers on the net of lane `l` at tile `t` (R68). -/
def State.netDrivers (s : State) (t l : Nat) : Nat :=
  (s.netPlan t l).foldl (fun a u => [0, 1].foldl (fun a k => if s.drvOn u k && s.drvLane u k = l then a + 1 else a) a) 0

/-- A class 1 CONFLICT from the tile, with the matching bit set (R69). -/
def State.laneConflict (s : State) (t : Nat) (f : Field) : State :=
  let s := s.putB f true
  (s.record (s.srcTile t (.pins (Fin.ofNat 32 t))) 1 0x08 0).1

/-- Whether drive entry `k` should be closed: enabled, its pin an active AOUT_V or EXC, and no PROT bit (R68, R71). -/
def State.drvWanted (s : State) (t k : Nat) : Bool :=
  s.drvEn t k && (s.func t (s.drvPin t k) = 3 || s.func t (s.drvPin t k) = 5) &&
    !s.bit (R.PIN_STAT_SWITCHING t (s.drvPin t k)) && !s.getIdx (R.TILE_LANE_STAT_DRV_PROT t) k && s.domReady (domField t)

/-- The net check of drive entry `k` (R69): it may close if its net has no driver. -/
def State.checkDrv (s : State) (t k : Nat) : State :=
  if s.drvWanted t k && !s.drvOn t k then
    if s.netDrivers t (s.drvLane t k) = 0 then s.modTile t fun x => { x with drvWant := k :: x.drvWant }
    else s.laneConflict t (if k = 0 then R.TILE_LANE_STAT_DRV0_CONFLICT t else R.TILE_LANE_STAT_DRV1_CONFLICT t)
  else s

/-- The net check of the segment of lane `l` (R69): it may close if it does not join two drivers. -/
def State.checkSeg (s : State) (t l : Nat) : State :=
  if (s.get (R.TILE_LANE_SEG t)).testBit l && !s.segOn l t then
    if s.netDrivers t l + s.netDrivers (t + 1) l ≤ 1 then
      s.modTile t fun x => { x with segWant := x.segWant ||| 2 ^ l }
    else s.laneConflict t (R.TILE_LANE_STAT_SEG_CONFLICT t)
  else s

/-- Drive entry `k` opens; the net that it drove has changed (R70). -/
def State.openDrv (s : State) (t k : Nat) : State :=
  let l := s.drvLane t k
  s.modTile t fun x => { x with
    drvClosed := x.drvClosed.erase k, drvWant := x.drvWant.erase k
    netChg := if x.drvClosed.contains k then (t, l) :: x.netChg else x.netChg }

/-- Drive entry `k` closes where a check has let it (R69). -/
def State.closeDrv (s : State) (t k : Nat) : State :=
  s.modTile t fun x =>
    if x.drvWant.contains k then { x with drvWant := x.drvWant.erase k, drvClosed := k :: x.drvClosed } else x

/-- The taps that their registers enable, with their lanes. -/
def State.tapsWanted (s : State) (t : Nat) : List (Nat × Nat) :=
  [0, 1].filterMap fun k => if s.bit (R.TILE_LANE_TAP_EN t k) then some (k, s.get (R.TILE_LANE_TAP_LANE t k)) else none

/-- A commit has opened a lane switch of tile `t` or left one to close (R70); `taps` were connected before it. -/
def State.laneMoves (s : State) (t : Nat) (taps : List (Nat × Nat)) : Bool :=
  let x := s.tile t
  !x.netChg.isEmpty || x.segWant != 0 || !x.drvWant.isEmpty ||
    !((s.tapsWanted t).all fun e => taps.contains e) || !(taps.all fun e => (s.tapsWanted t).contains e)

/-- Steps 1 and 2 of R70 for tile `t`: what opens, opens; what may close after the net check waits for step 3. Segments and
drive entries are checked at a commit of their own register (`segs`, `drvs`; R69, R80). A commit that moves no switch leaves
SEG_PENDING as it is. -/
def State.laneCommit (s : State) (t : Nat) (segs drvs : Bool) : State :=
  let taps := (s.tile t).tapLane
  let seg := s.get (R.TILE_LANE_SEG t)
  let act := s.get (R.TILE_LANE_SEG_ACT t)
  let s := s.put (R.TILE_LANE_SEG_ACT t) (act &&& seg)
  let s := [0, 1].foldl (fun s k => if s.drvWanted t k then s else s.openDrv t k) s
  let cut := (List.range 16).filter fun l => act.testBit l && !seg.testBit l
  let x := s.tile t
  let s := s.setTile t { x with
    segWant := x.segWant &&& seg
    netChg := cut.map (fun l => (t, l)) ++ cut.map (fun l => (t + 1, l)) ++ x.netChg
    tapLane := x.tapLane.filter fun e =>
      s.bit (R.TILE_LANE_TAP_EN t e.1) && s.get (R.TILE_LANE_TAP_LANE t e.1) = e.2 }
  let s := if drvs then [0, 1].foldl (fun s k => s.checkDrv t k) s else s
  let s := if segs && t != 31 then (List.range 16).foldl (fun s l => s.checkSeg t l) s else s
  if s.laneMoves t taps then s.putB (R.TILE_LANE_STAT_SEG_PENDING t) true else s

/-- Every tap on the net of lane `l` at tile `t` has a new membership: SETTLE for 2 µs (R70 step 4). -/
def State.settleNet (s : State) (t l : Nat) : State :=
  (s.netTiles t l).foldl (fun s u =>
    (s.tile u).tapLane.foldl (fun s e => if e.2 = l then s.settleSrc u (8 + e.1) (s.settleWords u settle2us) else s) s) s

/-- Step 3 of R70: segments and drive connections that passed the check close, enabled taps connect;
the taps on every net that changed follow step 4. -/
def State.laneClose (s : State) (t : Nat) : State :=
  let x := s.tile t
  let s := s.put (R.TILE_LANE_SEG_ACT t) (s.get (R.TILE_LANE_SEG_ACT t) ||| x.segWant)
  let taps := s.tapsWanted t
  let s := s.setTile t { x with
    segWant := 0, drvWant := [], netChg := [], drvClosed := x.drvWant ++ x.drvClosed, tapLane := taps }
  let s := s.putB (R.TILE_LANE_STAT_SEG_PENDING t) false
  let s := (taps.filter fun e => !x.tapLane.contains e).foldl
    (fun s e => s.settleSrc t (8 + e.1) (s.settleWords t settle2us)) s
  let s := x.netChg.foldl (fun s e => s.settleNet e.1 e.2) s
  let s := x.drvWant.foldl (fun s k => s.settleNet t (s.drvLane t k)) s
  (List.range 16).foldl (fun s l => if x.segWant.testBit l then s.settleNet t l else s) s

/-- A pin that has become AOUT_V or EXC drives its lane (R68, R69): its connection closes at once, or with the lane commit in
progress. -/
def State.attachDrv (s : State) (t k : Nat) : State :=
  let s := s.checkDrv t k
  if (s.tile t).drvWant.contains k && !s.bit (R.TILE_LANE_STAT_SEG_PENDING t) then
    (s.closeDrv t k).settleNet t (s.drvLane t k)
  else s

/-- A tile's lane switches lose their power (R11): all of them open, and closings that wait are dropped. -/
def State.laneOff (s : State) (t : Nat) : State :=
  let s := (s.put (R.TILE_LANE_SEG_ACT t) 0).putB (R.TILE_LANE_STAT_SEG_PENDING t) false
  let s := s.modTile t fun x => { x with segWant := 0, drvWant := [], netChg := [], drvClosed := [], tapLane := [], protWait := [] }
  s.eachPin fun s n => s.modPin t n fun p => { p with slClosed := false }

/-- They have power again: what the registers ask for closes as after a commit of them (R69, R70). -/
def State.laneOn (s : State) (t : Nat) : State :=
  let s := s.eachPin fun s n => s.modPin t n fun p => { p with
    slClosed := s.func t n = 15 && !s.bit (R.PIN_STAT_SWITCHING t n) && !s.getIdx (R.TILE_LANE_STAT_PIN_PROT t) n }
  s.laneCommit t true true

/-! ### Attaching (R42, R43) -/

/-- A field driver may connect (R14): the personality is loaded (R329 step 7, R402), the tile's self-calibration is complete, its
domains are on and it is not contained (R77). -/
def State.driversReady (s : State) (t : Nat) : Bool :=
  s.get R.LAT_LOAD_STAT_STATE = 5 && (s.tile t).selfCal &&
    s.domReady (domField t) && s.domReady (domConv t) && !s.tileContained t

/-- The pin page's commit is complete once no pin switches and no lane change waits (R462). -/
def State.pinsSettled (s : State) (t : Nat) : Bool :=
  (pins8.all fun n => !s.bit (R.PIN_STAT_SWITCHING t n)) && !s.bit (R.TILE_LANE_STAT_SEG_PENDING t)

/-- COMMITS and IRQ bit 1 when a waiting commit of page `p` has passed its last effective point (R462). -/
def State.finishCommit (s : State) (p : Page) : State :=
  if s.bit (R.PAGE_STAT_APPLYING (pageBase p)) then (s.commitsUp (pageBase p)).pend p irqCommit else s

/-- Offsets of a generator's words: base of SG `k` (R141). -/
def sgBase (t k : Nat) : Nat := outPage t + 0x40 + 0x20 * k

/-- Whether commits of the output page have nothing left that waits (R462): range changes and generators. -/
def State.outSettled (s : State) (t : Nat) : Bool :=
  (pins8.all fun n => !s.bit (R.OUT_STAT_RCHG t n)) &&
    ([0, 1].all fun k => !s.bit (R.SG_STAT_RESYNC_PEND t k) && !s.waits (sgBase t k + 0x0C))

/-- The commit of the output page is complete once nothing waits. -/
def State.outFinish (s : State) (t : Nat) : State :=
  if s.outSettled t then s.finishCommit (.output (Fin.ofNat 32 t)) else s

/-- A switch that R44 or R77 abandons: no function attaches, the pin stays on the safe pull, and its front end's status is that of
an OFF pin (R58, R61). -/
def State.abandonSwitch (s : State) (t n : Nat) : State :=
  if s.bit (R.PIN_STAT_SWITCHING t n) then
    let s := ((s.putB (R.PIN_STAT_SWITCHING t n) false).putB (R.PIN_STAT_DETACHED t n) false).put (R.PIN_STAT_FUNC_ACT t n) 0
    ((s.modPin t n fun p => { p with nextFunc := 0 }).releaseCore t n).afeStat t n
  else s

/-- Every switch of a tile is abandoned, and a commit of the pin page that waited for them is complete. -/
def State.abandonSwitches (s : State) (t : Nat) : State :=
  let s := s.eachPin fun s n => s.abandonSwitch t n
  if s.pinsSettled t then s.finishCommit (.pins (Fin.ofNat 32 t)) else s

/-- Step 3 of R42 for one pin: the new function attaches from its safe value (R43). An output function that no good core is left for
is refused now (R146; DESIGN CHOICE, log 142). -/
def State.attach (s : State) (t n : Nat) : State :=
  let want := (s.pin t n).nextFunc
  let s := if isOutFunc want then s.assignCore t n else s
  let refused := isOutFunc want && (s.coreOf t n).isNone
  let f := if refused then 0 else want
  let s := if refused then s.putB (R.PIN_STAT_CFG_ERR t n) true else s
  let s := (s.put (R.PIN_STAT_FUNC_ACT t n) f).putB (R.PIN_STAT_SWITCHING t n) false
  let s := s.putB (R.PIN_STAT_DETACHED t n) false
  let s := if isOutFunc f then s.outAttach t n else s
  let s := s.modPin t n fun p => { p with
    slClosed := f = 15 && !(s.get (R.TILE_LANE_STAT_PIN_PROT t)).testBit n }
  let s := if (f = 7 || f = 8) && s.v24Rev then s.critLive t n .revSupply else s
  let s := if !(f = 7 || f = 8) then s.critGone t n .revSupply else s
  let s := s.modPin t n fun p => { p with since := s.time }
  let s := ((((s.syncDout t n).afeStat t n).cmpSync t n).dinSync t n).zeroSync t n
  let s := s.settleSrc t n (s.settleWords t settle2us)
  let s := if f = 3 || f = 5 then [0, 1].foldl (fun s k => if s.drvPin t k = n then s.attachDrv t k else s) s else s
  if s.pinsSettled t then s.finishCommit (.pins (Fin.ofNat 32 t)) else s

end Sys2Proof.Machine
end

