-- ==== Sys2Proof/Machine/Faults.lean ====
section
/-! DEFINITION. Raising a fault (R432): containment of a unit (R436) and entry into class 4 (R438). -/

namespace Sys2Proof.Machine

/-! ### Containment (R436) -/

/-- Containment of the unit with unit code `u` of this device (R436). -/
def State.contain (s : State) (u : Nat) : State :=
  if u < 0x20 then
    if s.contained.contains u then s else { s with contained := u :: s.contained }.containTile u
  else if 0x100 ≤ u && u < 0x180 then s.containEngine (u - 0x100)
  else if 0x200 ≤ u && u < 0x210 then
    if s.contained.contains u then s
    else (({ s with contained := u :: s.contained } : State).dropDma (u - 0x200)).failUnit (s.unitId u)
  else if 0x300 ≤ u && u < 0x308 then (s.closeGirth (u - 0x300) 3).failUnit (s.unitId u)
  else s

/-! ### Class 4 (R438) -/

/-- This device is the head of its chain (R335). -/
def State.isHead (s : State) : Bool := s.pos = 0

/-- A load that a class 4 fault or a rejection ends before step 5 of R329 goes FAILED (R332, R345): the head sends ABORT
down the chain, any other device reports REJECT upstream. -/
def State.failLoad (s : State) (code pos : Nat) : State :=
  let s := (s.put R.LAT_LOAD_STAT_CODE code).put R.LAT_LOAD_STAT_REJ_POS pos
  let s := { s.setLoad 6 with load := { s.load with img := none, deadline := none } }
  if s.isHead then s.latSend 1 (.loadctl 5 pos code 0) else s.latSend 0 (.loadctl 3 pos code 0)

/-- What a class 4 fault does to a load (R345): one before step 5 of R329 ends ABORTED, with the position `pos` that failed first
(R331), and its own record; one at step 6 stops. A record that finds no room enters FIFO_OVF with it (R443). -/
def State.loadMeetsC4 (s : State) (pos : Nat) : State :=
  let st : Nat := s.get R.LAT_LOAD_STAT_STATE
  if 1 ≤ st && st ≤ 3 then
    let o := (s.failLoad 11 pos).record (s.srcDev 0x14) 4 0x50 11
    let s : State := { o.1 with flt := { o.1.flt with c4Causes := 0x50 :: o.1.flt.c4Causes } }
    if o.2 then
      let s := (s.record (s.srcDev 0x17) 4 0x61 0).1
      { s with flt := { s.flt with c4Causes := 0x61 :: s.flt.c4Causes } }
    else s
  else if st = 4 then ({ s with load := { s.load with stopped := true } } : State)
  else s

/-- A class 4 record has been raised: entry into class 4, unless the device is in it already (R438, R445). A running load
or reload that a class 4 fault ends is ended here (R319, R345). In class 4 a load rejection and an assertion of SAFE_N still
send their FAULT frames (R344). -/
def State.enterC4 (s : State) (cause unit pos : Nat) : State :=
  if s.bit R.FLT_STAT_C4 then
    let s : State := { s with flt := { s.flt with c4Causes := cause :: s.flt.c4Causes } }
    (if cause = 0x50 || cause = 0x60 then s.faultFrames 4 cause unit else s).loadMeetsC4 pos
  else
    let s := ({ s with flt := { s.flt with c4Causes := [cause] } } : State).report .internalNonFatal
    let s := ((s.putB R.FLT_STAT_C4 true).put R.FLT_C4_CAUSE cause).put R.FLT_C4_CAUSE_UNIT unit
    let s := ((s.srcFire 307).trigSource 0x24).faultFrames 4 cause unit
    let s := s.eachTilePin fun s t n =>
      if s.bit (R.PIN_STAT_SWITCHING t n) && isOutFunc (s.pin t n).nextFunc && s.driversReady t then s.attach t n else s
    (tiles32.foldl (fun s t => s.abortCal t) s.allOutFault.abortReload).loadMeetsC4 pos

/-- FLT_EXIT_STAT.RESULT of an EXIT: the first condition that fails (R440). -/
def State.exitCode (s : State) : Nat :=
  if s.flt.safeN then 1
  else if s.flt.c4Causes.any fun c => c = 0x50 || c = 0x33 || c = 0x44 then 2
  else if 64 ≤ s.flt.fifo.length then 3
  else 0

/-- A write of 1 to FLT_CTRL.EXIT (R440): out of class 4 when every condition holds. -/
def State.exitC4 (s : State) : State :=
  if s.bit R.FLT_STAT_C4 then
    let c := s.exitCode
    let s := s.put R.FLT_EXIT_STAT_RESULT c
    if c = 0 then
      let s := ((s.putB R.FLT_STAT_C4 false).srcFire 308)
      { s with flt := { s.flt with c4Causes := [] } }.eachTilePin fun s t n => s.syncDout t n
    else s
  else s

/-- Raise a fault of class 0 to 4 (R432): the record, then what its class does. A record discarded for want of room
enters class 4 with cause FIFO_OVF (R443), whose own record is kept in the ledger log (R438). A class 3 fault contains its
unit whatever class it is recorded with (assumption log 11). The origin of a REMOTE fault is the position that failed first (R331). -/
def State.raise (s : State) (r : Src) (orig cause info : Nat) (remote : Bool := false) : State :=
  let cls := (s.escalate r orig).1
  let out := s.record r orig cause info remote
  let s := out.1
  let s := if (cls = 3 || orig = 3) && r.unit / 0x2000 = s.pos then s.contain (r.unit % 0x2000) else s
  let s := if cls = 4 then s.enterC4 cause r.unit (if cause = 0x41 then info % 8 else s.pos) else s
  if out.2 then
    let o := s.srcDev 0x17
    ((s.record o 4 0x61 0).1).enterC4 0x61 o.unit s.pos
  else s

/-- A write that an owner rule refuses: REFUSED and a class 1 NOT_OWNER record from the page (R461). -/
def State.refuseNotOwner (s : State) (p : Page) (w : Writer) : State :=
  let t := s.refuse p
  let t := match p with
    | .pins _ => t.event p 3
    | _ => t
  t.raise (s.srcPage p) 1 0x07 (s.writerId w)

/-- A write to a page-wide field of page `p`, refused unless `w` matches PAGE_OWNER (R461). -/
def State.byOwner (s : State) (w : Writer) (p : Page) (f : State → State) : State :=
  if !s.awake then s
  else if s.matchesOwner w (s.get (R.PAGE_OWNER (pageBase p))) then f s else s.refuseNotOwner p w

end Sys2Proof.Machine
end

