-- ==== Sys2Proof/Machine/PinOps.lean ====
section
/-! DEFINITION. The pin cell: pin-owned writes (R37), wire conditions (R49 to R52), the start of a function switch (R42) and a
commit of the pin page (R30 to R32, R39, R65, R69). -/

namespace Sys2Proof.Machine

/-! ### Pin-owned writes (R37) -/

/-- A write that pin `n`'s owner rule refuses (R37). -/
def State.refusePin (s : State) (w : Writer) (t n : Nat) : State :=
  let s := (s.putB (R.PIN_FLT_NOT_OWNER t n) true).event (.pins (Fin.ofNat 32 t)) 3 { sub := some n }
  s.raise (s.srcPin t n) 1 0x07 (s.writerId w)

/-- A write that acts on pin `n`: refused unless `w` matches the pin's owner (R37). -/
def State.byPin (s : State) (w : Writer) (t n : Nat) (f : State → State) : State :=
  if !s.awake then s
  else if s.matchesOwner w (s.pinOwner t n) then f s else s.refusePin w t n

/-- The bits of `mask` take their values of `v` in a register whose bit n belongs to pin n; a bit of a pin the writer does
not own is refused (R37). -/
def State.pinBits (s : State) (w : Writer) (t : Nat) (f : Field) (mask v : Nat) : State :=
  s.eachPin fun s n => if mask.testBit n then s.byPin w t n fun s => s.putIdx f n (v.testBit n) else s

/-- A write of PINS_OE that carries a pin's bit as 1, by its owner, sets the pin's output enable (R43). -/
def State.armEnables (s : State) (w : Writer) (t v : Nat) : State :=
  s.eachPin fun s n =>
    if v.testBit n && s.awake && s.matchesOwner w (s.pinOwner t n) then s.modPin t n fun p => { p with oeArmed := true } else s

/-- After a write of PINS_OUT or PINS_OE the drivers of the tile follow it (R28). -/
def State.syncTile (s : State) (t : Nat) : State := s.eachPin fun s n => s.syncDout t n

/-! ### Wire conditions (R49 to R51) -/

/-- A criterion is met: a change of its condition from absent to live is a detection and raises a class 2 fault (R49, R51). -/
def State.critMet (s : State) (t n : Nat) (c : Crit) : State :=
  let k := critCond c
  if s.bit (condStat t n k) then s.critLive t n c
  else
    (s.critLive t n c).raise (s.srcPin t n) 2 (condCause k)
      (if k = 3 then 0 else (s.word (pinPage t + 0x118 + 0x40 * n)).toNat)

/-- OPEN_TH in 0.1 ohm units, none where open-wire detection is disabled (R52). -/
def State.openTh (s : State) (t n : Nat) : Option Nat :=
  let v := s.get (R.PIN_DIAG_OPEN_TH t n)
  if v = 0xFFFF then none
  else if v = 0 then (if s.func t n = 7 then none else some 5000000) else some (v * 1000)

/-- SHORT_TH in 0.1 ohm units (R52). -/
def State.shortTh (s : State) (t n : Nat) : Nat :=
  let v := s.get (R.PIN_DIAG_SHORT_TH t n)
  if v = 0 then 10 else v

/-- The functions whose shorts a pilot estimate finds (R49). -/
def shortByPilot (f n : Nat) : Bool :=
  f = 1 || f = 2 || f = 4 || f = 6 || f = 7 || f = 11 || f = 12 || f = 15 || f = 14 || (f = 13 && 2 ≤ n % 4)
/-- The functions whose shorts the driver's current limit finds (R49). -/
def shortByCurrent (f n : Nat) : Bool :=
  f = 3 || f = 5 || f = 9 || f = 10 || f = 8 || (f = 13 && n % 4 < 2)

/-! ### Function switches (R42, R43) -/

/-- Step 1 of R42: the old function detaches, the safe pull connects, live conditions end (R51), and
the core is released unless an output function follows (R65). -/
def State.detach (s : State) (t n next : Nat) : State :=
  let old := s.func t n
  let s := if isOutFunc old then
    let s := s.outDetach t n
    (if isOutFunc next then s else s.releaseCore t n).outFinish t
  else s
  let s := s.putIdx (R.PINS_IN t) n (s.pinState t n)
  let s := (s.putB (R.PIN_STAT_SWITCHING t n) true).putB (R.PIN_STAT_DETACHED t n) true
  let rev := (s.pin t n).crits.contains .revSupply
  let s := s.modPin t n fun p => { p with
    nextFunc := next, longGap := isAnalogue old || isAnalogue next
    crits := if rev then [.revSupply] else []
    openRun := 0, openGood := 0, shortRun := 0, shortGood := 0, pairRun := 0, pairGood := 0
    slClosed := false, oeArmed := false }
  let s := (s.putB (R.PIN_STAT_OPEN t n) false).putB (R.PIN_STAT_SHORT t n) false
  let s := (s.putB (R.PIN_STAT_SHORT_HI t n) false).putB (R.PIN_STAT_REVERSED t n) rev
  let s := ((s.wireSync t n).put (R.PIN_CAP_ESTCNT t n) 0).putB (R.PIN_STAT_EST_VALID t n) false
  let s := [0, 1].foldl (fun s k => if s.drvPin t k = n then s.openDrv t k else s) (s.putB (R.PIN_STAT_ILIM t n) false)
  (s.syncDout t n).event (.pins (Fin.ofNat 32 t)) 2 { sub := some n }

/-- Every pin goes back to its safe pull (R332); its function attaches again when drivers may connect (R14). -/
def State.dropPins (s : State) : State :=
  s.eachTilePin fun s t n =>
    if s.func t n = 0 || s.bit (R.PIN_STAT_SWITCHING t n) then s else s.detach t n (s.func t n)

/-- A new function for a pin: a switch starts, or a switch in progress takes the latest function (R44). -/
def State.switchTo (s : State) (t n next : Nat) : State :=
  if s.bit (R.PIN_STAT_SWITCHING t n) then
    (if isOutFunc next then s else s.releaseCore t n).modPin t n fun p => { p with
      nextFunc := next, longGap := p.longGap || isAnalogue next }
  else s.detach t n next

/-- A commit of page `p` with nothing that waits completes at once; otherwise APPLYING reads 1 (R462). -/
def State.commitDone (s : State) (p : Page) (waits : Bool) : State :=
  if waits then s.putB (R.PAGE_STAT_APPLYING (pageBase p)) true
  else (s.commitsUp (pageBase p)).pend p irqCommit

/-! ### A commit of the pin page -/

/-- The words of pin `n`'s block that a commit applies: PIN_CFG, PIN_OWNER, PIN_DIAG, PIN_ISRC and TILE_AFE_n. -/
def pinWords (t n : Nat) : List Nat :=
  [pinPage t + 0x100 + 0x40 * n, pinPage t + 0x104 + 0x40 * n, pinPage t + 0x114 + 0x40 * n,
   pinPage t + 0x128 + 0x40 * n, pinPage t + 0x300 + 4 * n]

/-- FUNC of pin `n` after the commit of the pins `ps`. -/
def State.cfgFunc (s : State) (ps : List Nat) (t n : Nat) : Nat :=
  if ps.contains n then s.sget (R.PIN_CFG_FUNC t n) else s.get (R.PIN_CFG_FUNC t n)

/-- The commit writes to pin `n` a FUNC other than the function it has: its owner has staged one (R32), whatever the FUNC that
R30 ignored in its PIN_CFG until now. -/
def State.newFuncAt (s : State) (ps : List Nat) (t n : Nat) : Bool :=
  ps.contains n && (tblFind s.stg (R.PIN_CFG_FUNC t n).addr).isSome && s.sget (R.PIN_CFG_FUNC t n) != s.funcGoal t n

/-- The owner of pin `n` after the commit of the pins `ps`. -/
def State.ownerAfter (s : State) (ps : List Nat) (t n : Nat) : Nat :=
  if ps.contains n then s.sget (R.PIN_OWNER t n) else s.pinOwner t n

/-- A staged code of pin `n` is reserved or out of range (R31, R36). -/
def State.pinCodesBad (s : State) (t n : Nat) : Bool :=
  let f := s.sget (R.PIN_CFG_FUNC t n)
  let i := s.sget (R.PIN_ISRC t n)
  2 ≤ s.sget (R.PIN_CFG_DIN_TYPE t n) || s.sget (R.PIN_CFG_DIO_MODE t n) = 3 || 2 ≤ s.sget (R.PIN_CFG_PILOT_LVL t n) ||
    s.sget (R.PIN_CFG_BRG_EXC t n) = 3 || s.sget (R.PIN_CFG_PAIR_REF t n) = 3 || 12 ≤ s.sget (R.PIN_CFG_DIN_FILT t n) ||
    12 ≤ s.sget (R.PIN_DIAG_SHORT_T t n) || !ownerCodeOk (s.sget (R.PIN_OWNER t n)) ||
    ((f = 6 || i != s.get (R.PIN_ISRC t n)) && !(200 ≤ i && i ≤ 40000))

/-- The groups that were in effect before the commit and stay: lead pins whose FUNC the commit does not change. -/
def State.keptLead (s : State) (ps bad : List Nat) (t n : Nat) : Bool :=
  let f := s.funcGoal t n
  isGroup f && leadOf f n = n && (!s.newFuncAt ps t n || bad.contains n)

/-- A group newly written by the commit and not refused. -/
def State.newLead (s : State) (ps bad : List Nat) (t n : Nat) : Bool :=
  s.newFuncAt ps t n && isGroup (s.cfgFunc ps t n) && !bad.contains n

/-- The members of the group that pin `n` leads after the commit. -/
def State.groupAfter (s : State) (ps bad : List Nat) (t n : Nat) : List Nat :=
  if s.newLead ps bad t n then groupOf (s.cfgFunc ps t n) n
  else if s.keptLead ps bad t n then groupOf (s.funcGoal t n) n else []

/-- Whether two pin lists meet. -/
def meets (a b : List Nat) : Bool := a.any fun x => b.contains x

/-- The pins of the group of function `f` that pin `m` leads would not all have its owner after the commit (R31). -/
def State.ownersSplit (s : State) (ps : List Nat) (t m f : Nat) : Bool :=
  (groupOf f m).any fun k => s.ownerAfter ps t k != s.ownerAfter ps t m

/-- Pin `n` belongs to a group, newly written or kept, that the commit would leave with more than one owner (R31). -/
def State.ownerRefused (s : State) (ps : List Nat) (t n : Nat) : Bool :=
  pins8.any fun m =>
    let new := s.newFuncAt ps t m
    let f := if new then s.cfgFunc ps t m else s.funcGoal t m
    isGroup f && leadOf f m = m && (groupOf f m).contains n && s.ownersSplit ps t m f

/-- Pin `n` is refused by the checks of R31 that concern it alone, its group or interleave (R107). -/
def State.pinRefused1 (s : State) (ps : List Nat) (t n : Nat) : Bool :=
  let f := s.cfgFunc ps t n
  let partner := isGroup (s.funcGoal t n) && leadOf (s.funcGoal t n) n != n
  let intlv := s.bit (R.TILE_ADC_STAT_INTLV_ACT t) || (s.tile t).intlvEnter
  s.pinCodesBad t n ||
    (s.newFuncAt ps t n && isGroup f && leadOf f n != n) ||
    s.ownerRefused ps t n ||
    (intlv && s.newFuncAt ps t n && n != 0 && f != 0 && !partner) ||
    (intlv && n = 0 && !(f = 1 && s.sget (R.PIN_CFG_RANGE t 0) ≤ 5 && s.sget (R.TILE_AFE_FILT t 0) ≤ 2))

/-- The group newly written to pin `n` overlaps that of another lead pin (R31). -/
def State.overlaps (s : State) (ps bad : List Nat) (t n : Nat) : Bool :=
  s.newLead ps bad t n &&
    pins8.any fun m => m != n && (s.newLead ps bad t m || s.keptLead ps bad t m) &&
      meets (s.groupAfter ps bad t n) (s.groupAfter ps bad t m)

/-- A group newly written to pin `n` has a partner that is refused on its own account: the group is refused with it, since the
partner keeps its previous function (R31; DESIGN CHOICE, log 171). -/
def State.partnerRefused (s : State) (ps bad : List Nat) (t n : Nat) : Bool :=
  s.newLead ps bad t n && meets (groupOf (s.cfgFunc ps t n) n) bad

/-- Pin `n` is refused for an overlap of groups (R31): the lead and its partners, but for the pins of a group that is kept. -/
def State.pinRefused2 (s : State) (ps bad : List Nat) (t n : Nat) : Bool :=
  s.overlaps ps bad t n ||
    (pins8.any fun m => s.overlaps ps bad t m && (s.groupAfter ps bad t m).contains n) &&
      !pins8.any fun m => s.keptLead ps bad t m && (s.groupAfter ps bad t m).contains n

/-- The function each pin has after the commit (R30, R32): its group's; its own newly written FUNC; OFF for a partner whose
lead left the group; otherwise what it was. -/
def State.funcAfter (s : State) (ps bad : List Nat) (t n : Nat) : Nat :=
  match pins8.find? fun m => (s.groupAfter ps bad t m).contains n with
  | some m => if s.newLead ps bad t m then s.cfgFunc ps t m else s.funcGoal t m
  | none =>
    if s.newFuncAt ps t n && !bad.contains n then s.cfgFunc ps t n
    else if isGroup (s.funcGoal t n) then 0 else s.funcGoal t n

/-- The pins refused because the tile's two logical cores are taken (R65). -/
def State.coreRefused (s : State) (ps bad : List Nat) (t : Nat) : List Nat :=
  let outs := pins8.filter fun n => isOutFunc (s.funcAfter ps bad t n)
  let kept := outs.filter fun n => isOutFunc (s.funcGoal t n)
  (outs.filter fun n => !isOutFunc (s.funcGoal t n)).drop (s.goodCores t - kept.length)

/-- The pins whose staged fields a writer may commit (R39). -/
def State.committable (s : State) (w : Writer) (t : Nat) : List Nat :=
  pins8.filter fun n => s.matchesOwner w (s.pinOwner t n)

/-- The staged words of pin `n` apply, with SETTLE where RANGE, SENSE or FILT in effect changes (R76, R100); a group's members
follow their lead (R24, R61). -/
def State.applyPin (s : State) (t n : Nat) : State :=
  let range := s.rangeOf t n
  let sense := s.get (R.TILE_AFE_SENSE t n)
  let filt := s.filtOf t n
  let s := (pinWords t n).foldl (fun s a => s.applyStaged a) s
  let s := s.putB (R.PIN_STAT_CFG_ERR t n) false
  let s := if s.rangeOf t n != range || s.get (R.TILE_AFE_SENSE t n) != sense then
    s.settleSrc t n (s.settleWords t settle2us) else s
  let s := if s.filtOf t n != filt then s.settleSrc t n (s.settleWords t (fiveTau (s.filtOf t n))) else s
  (groupOf (s.func t n) n).foldl (fun s m => (((s.afeStat t m).cmpSync t m).dinSync t m).syncDout t m) s

/-- RANGE and FILT in effect at tap `k` (R72). -/
def State.tapRange (s : State) (t k : Nat) : Nat := max 1 (s.get (R.TILE_LANE_TAP_RANGE t k))
def State.tapFilt (s : State) (t k : Nat) : Nat := filtLimit (s.tapRange t k) (s.get (R.TILE_LANE_TAP_FILT t k))

/-- SETTLE at tap `k` where the RANGE or FILT in effect changed from `old` (R76, R100). -/
def State.settleTap (s : State) (t k : Nat) (old : Nat × Nat) : State :=
  let s := if s.tapRange t k != old.1 then s.settleSrc t (8 + k) (s.settleWords t settle2us) else s
  if s.tapFilt t k != old.2 then s.settleSrc t (8 + k) (s.settleWords t (fiveTau (s.tapFilt t k))) else s

/-- The staged word of TILE_LANE_DRV names another pin or lane for entry `k`: the connection opens (R70). -/
def State.drvMoves (s : State) (t k : Nat) : Bool :=
  if k = 0 then s.sget (R.TILE_LANE_DRV_PIN0 t) != s.get (R.TILE_LANE_DRV_PIN0 t) ||
    s.sget (R.TILE_LANE_DRV_LANE0 t) != s.get (R.TILE_LANE_DRV_LANE0 t)
  else s.sget (R.TILE_LANE_DRV_PIN1 t) != s.get (R.TILE_LANE_DRV_PIN1 t) ||
    s.sget (R.TILE_LANE_DRV_LANE1 t) != s.get (R.TILE_LANE_DRV_LANE1 t)

/-- The page-wide words of the pin page: PILOT_CFG, the lane taps, TILE_LANE_DRV and TILE_LANE_SEG (R39, R78). -/
def State.commitPinPage (s : State) (t : Nat) : State :=
  let a := pinPage t
  let staged := fun x => (tblFind s.stg (a + x)).isSome
  let old0 := (s.tapRange t 0, s.tapFilt t 0)
  let old1 := (s.tapRange t 1, s.tapFilt t 1)
  let r := [0, 1].foldl (fun s k => if s.drvMoves t k then s.openDrv t k else s) s
  let r := [a + 0x54, a + 0x330, a + 0x334, a + 0x338, a + 0x33C].foldl (fun s x => s.applyStaged x) r
  let r := (r.settleTap t 0 old0).settleTap t 1 old1
  if [0x330, 0x334, 0x338, 0x33C].any staged then r.laneCommit t (staged 0x33C) (staged 0x338) else r

/-- A commit of tile `t`'s pin page by `w` (R30 to R32, R39, R65, R69): refused pins keep their function and report CFG_ERR; their
staged fields stay staged after the commit, on which the spec is silent (DESIGN CHOICE, log 172); the other pins' fields apply, and
pins whose function changes switch. A drive connection that a switch opens is a change of lane switches: R70 runs for its net. -/
def State.commitPins (s : State) (w : Writer) (t : Nat) : State :=
  let ps := s.committable w t
  let bad := ps.filter fun n => s.pinRefused1 ps t n
  let bad := bad ++ ps.filter fun n => !bad.contains n && s.partnerRefused ps bad t n
  let bad := bad ++ ps.filter fun n => !bad.contains n && s.pinRefused2 ps bad t n
  let bad := bad ++ (s.coreRefused ps bad t)
  let goals := pins8.map fun n => (n, s.funcAfter ps bad t n)
  let olds := pins8.map fun n => s.funcGoal t n
  let s := ps.foldl (fun s n => if bad.contains n then s.putB (R.PIN_STAT_CFG_ERR t n) true else s.applyPin t n) s
  let s := goals.foldl (fun s e => if olds.getD e.1 0 = e.2 then s else s.switchTo t e.1 e.2) s
  let s := if s.matchesOwner w (s.get (R.PAGE_OWNER (pinPage t))) then s.commitPinPage t else s
  let s := if (s.tile t).netChg.isEmpty then s else s.putB (R.TILE_LANE_STAT_SEG_PENDING t) true
  s.commitDone (.pins (Fin.ofNat 32 t)) (!s.pinsSettled t)

end Sys2Proof.Machine
end

