-- ==== Sys2Proof/Machine/CalOps.lean ====
section
/-! DEFINITION. Calibration coefficients: the ledger's records (R163, R164), the set in effect (R150, R151), ramps (R157,
R158), and the start of a DAC core rotation (R159, R160). -/

namespace Sys2Proof.Machine

/-! ### Records (R163 to R167) -/

/-- KEY of a SYS_CH record (R163). -/
def calKey (t ch range : Nat) : Nat := t * 256 + ch * 16 + range

/-- Which record a slot is to hold: TYPE, KEY and LEN (R163). KEY of TILE_SELF names the tile, with channel and RANGE zero. -/
structure RecId where
  typ : Nat
  key : Nat
  len : Nat
deriving DecidableEq, Repr
def selfRecord (t : Nat) : RecId := { typ := 1, key := calKey t 0 0, len := 4096 }
def chRecord (t ch range : Nat) : RecId := { typ := 2, key := calKey t ch range, len := 64 }

/-- A slot is valid when its TYPE, KEY and LEN match the record and its DIGEST matches (R164). -/
def CalSlot.valid (x : CalSlot) (i : RecId) : Bool := x.typ = i.typ && x.key = i.key && x.len = i.len && x.ok

/-- The record in use: the valid slot with the higher SEQ (R164). -/
def CalPair.current (p : CalPair) (i : RecId) : Option CalRec :=
  if p.a.valid i && p.b.valid i then some (if p.b.seq < p.a.seq then p.a.body else p.b.body)
  else if p.a.valid i then some p.a.body else if p.b.valid i then some p.b.body else none

/-- The slot in use (R164). -/
def CalPair.inUse (p : CalPair) (i : RecId) : Option CalSlot :=
  if p.a.valid i && p.b.valid i then some (if p.b.seq < p.a.seq then p.a else p.b)
  else if p.a.valid i then some p.a else if p.b.valid i then some p.b else none

/-- Both slots are invalid and at least one was written (R167). -/
def CalPair.lost (p : CalPair) (i : RecId) : Bool := !p.a.valid i && !p.b.valid i && (p.a.typ != 0 || p.b.typ != 0)

/-- A commit writes the invalid slot, or the one with the lower SEQ, with SEQ one above the higher (R164). -/
def CalPair.commit (p : CalPair) (i : RecId) (r : CalRec) : CalPair :=
  let x : CalSlot := { typ := i.typ, key := i.key, len := i.len, seq := max p.a.seq p.b.seq + 1, body := r }
  if !p.a.valid i || (p.b.valid i && p.a.seq < p.b.seq) then { p with a := x } else { p with b := x }

/-- A slot's DIGEST no longer matches what the slot holds: power failed while it was written (R166). -/
def CalPair.tear (p : CalPair) (second : Bool) : CalPair :=
  let bad := fun x : CalSlot => { x with ok := false, typ := if x.typ = 0 then 2 else x.typ }
  if second then { p with b := bad p.b } else { p with a := bad p.a }

/-- A tile's TILE_SELF record, and the one in use. -/
def State.selfPair (s : State) (t : Nat) : CalPair := tblGet (fun _ => {}) s.ledger.selfRec t
def State.setSelfPair (s : State) (t : Nat) (p : CalPair) : State :=
  { s with ledger := { s.ledger with selfRec := tblSet (fun _ => {}) s.ledger.selfRec t p } }
def State.selfStored (s : State) (t : Nat) : Option CalRec := (s.selfPair t).current (selfRecord t)

/-- CAL_TILE_CNT and CAL_TILE_TIME follow the tile's record (R169). -/
def State.showSelf (s : State) (t : Nat) : State :=
  let r := (s.selfStored t).getD {}
  let s := (s.put (R.CAL_TILE_CNT_COUNT t) r.count).put (R.CAL_TILE_TIME_LO_SEC_LO t) (r.time / 2 ^ 15)
  (s.put (R.CAL_TILE_TIME_HI_SEC_HI t) (r.time / 2 ^ 47)).put (R.CAL_TILE_TIME_HI_SUBSEC t) r.time

/-- The record of a channel at a RANGE. -/
def State.calPair (s : State) (t ch range : Nat) : CalPair := tblGet (fun _ => {}) s.ledger.cal (calKey t ch range)
def State.setCalPair (s : State) (t ch range : Nat) (p : CalPair) : State :=
  { s with ledger := { s.ledger with cal := tblSet (fun _ => {}) s.ledger.cal (calKey t ch range) p } }

/-- The stored set: the record's, or the defaults of R151. -/
def State.stored (s : State) (t ch range : Nat) : CalRec := ((s.calPair t ch range).current (chRecord t ch range)).getD {}

/-! ### The set in effect -/

/-- The effective RANGE of a channel (R58, R72, R151). -/
def State.chRange (s : State) (t ch : Nat) : Nat :=
  if ch < 8 then s.rangeOf t ch else max 1 (s.get (R.TILE_LANE_TAP_RANGE t (ch - 8)))

/-- OFF and G in effect: CAL_CHn_OFF and CAL_CHn_GAIN hold them (R150). -/
def State.offOf (s : State) (t ch : Nat) : Int := sext 24 (s.get (R.CAL_CH_OFF t ch))
def State.gainOf (s : State) (t ch : Nat) : Nat := s.get (R.CAL_CH_GAIN t ch)
def State.setCoef (s : State) (t ch : Nat) (off : Int) (gain : Nat) : State :=
  (s.put (R.CAL_CH_OFF t ch) (lowBits 24 off)).put (R.CAL_CH_GAIN t ch) gain

/-- COUNT, CAL_TIME and CAL_LOST of a channel follow the record of its effective RANGE (R167, R169). -/
def State.showRecord (s : State) (t ch : Nat) : State :=
  let p := s.calPair t ch (s.chRange t ch)
  let i := chRecord t ch (s.chRange t ch)
  let r := (p.current i).getD {}
  let s := (s.put (R.CAL_CH_CNT_COUNT t ch) r.count).put (R.CAL_CH_TIME_LO_SEC_LO t ch) (r.time / 2 ^ 15)
  let s := (s.put (R.CAL_CH_TIME_HI_SEC_HI t ch) (r.time / 2 ^ 47)).put (R.CAL_CH_TIME_HI_SUBSEC t ch) r.time
  s.putIdx (R.CAL_LOST t) ch (p.lost i)

/-- The stored set of a channel's effective RANGE applies at once, and its ramp ends (R158). -/
def State.loadSet (s : State) (t ch : Nat) : State :=
  let range := s.chRange t ch
  let r := s.stored t ch range
  let s := (s.setCoef t ch r.off r.gain).putIdx (R.CAL_STAT_RAMPING t) ch false
  let s := s.modTile t fun x => { x with
    ramps := tblDel x.ramps ch, setRange := tblSet (fun k => if k < 8 then 0 else 1) x.setRange ch range }
  s.showRecord t ch

/-- After a change of the pin page, a channel whose effective RANGE changed takes the new range's set (R158). -/
def State.syncSet (s : State) (t ch : Nat) : State :=
  if tblGet (fun k => if k < 8 then 0 else 1) (s.tile t).setRange ch = s.chRange t ch then s else s.loadSet t ch

/-- The channels of a tile. -/
def channels : List Nat := [0, 1, 2, 3, 4, 5, 6, 7, 8, 9]
def State.syncSets (s : State) (t : Nat) : State := channels.foldl (fun s ch => s.syncSet t ch) s
def State.loadSets (s : State) (t : Nat) : State := channels.foldl (fun s ch => s.loadSet t ch) s

/-- A new set enters through a ramp from the set in effect (R157, R158). -/
def State.startRamp (s : State) (t ch : Nat) (off : Int) (gain : Nat) : State :=
  let steps := 10 * min 16000 (max 1 (s.get (R.CAL_CTRL_RAMP t)))
  let r : Ramp := { off0 := s.offOf t ch, gain0 := s.gainOf t ch, off1 := off, gain1 := gain, step := 0, steps := steps }
  (s.modTile t fun x => { x with ramps := tblIns x.ramps ch r }).putIdx (R.CAL_STAT_RAMPING t) ch true

/-- The pins that wait for their tile's drivers attach (R14, R402). -/
def State.connectTile (s : State) (t : Nat) : State :=
  if s.driversReady t then
    (s.eachPin fun s n => if s.bit (R.PIN_STAT_SWITCHING t n) then s.attach t n else s).syncSets t
  else s

/-! ### Aborts by a commit (R168) -/

/-- What a procedure's channel depends on in the pin page: RANGE, SENSE and function. -/
def State.chSetup (s : State) (t ch : Nat) : List Nat :=
  if ch < 8 then [s.rangeOf t ch, s.get (R.TILE_AFE_SENSE t ch), s.funcGoal t ch] else [s.chRange t ch]

/-- Do `f`, a commit of tile `t`'s pin page, and abort a procedure whose channel it changed; channels take the sets of
their new ranges. -/
def State.withSetup (s : State) (t : Nat) (f : State → State) : State :=
  let ch := (s.tile t).cap.ch
  let s' := f s
  let s' := if s.chSetup t ch != s'.chSetup t ch then s'.abortProc t 4 else s'
  s'.syncSets t

/-! ### Rotation (R159) -/

/-- A logical core whose rotation is skipped: it serves an EXC pin and EXC_EN is 0. -/
def State.rotSkips (s : State) (t core : Nat) : Bool :=
  !s.bit (R.CAL_ROT_EXC_EN t) && pins8.any fun n => s.coreOf t n == some core && s.func t n = 5

/-- A range change runs on a pin of the tile. -/
def State.anyRchg (s : State) (t : Nat) : Bool := pins8.any fun n => s.bit (R.OUT_STAT_RCHG t n)

/-- A rotation falls due: inhibited by CORE_BAD and SPARE_BAD, deferred by a range change (R135) or the tile's girth (R316), else it
starts (R160). -/
def State.rotStart (s : State) (t : Nat) : State :=
  if s.get (R.CAL_STAT_CORE_BAD t) != 0 || s.bit (R.CAL_ROT_STAT_SPARE_BAD t) || s.get (R.CAL_ROT_STAT_PHASE t) != 0 ||
      !s.domReady (domConv t) || s.tileContained t then s
  else if s.anyRchg t || s.tileGirth t then s.modTile t fun x => { x with rotDue := true }
  else
    let a := (s.tile t).rotNext
    let core := if !s.rotSkips t a then a else if !s.rotSkips t (1 - a) then 1 - a else 2
    (s.modTile t fun x => { x with rotCore := core, rotDue := false }).put (R.CAL_ROT_STAT_PHASE t) 1

/-- A deferred rotation starts once no range change runs and the girth is open (R135, R316). -/
def State.rotResume (s : State) (t : Nat) : State := if (s.tile t).rotDue && !s.anyRchg t && !s.tileGirth t then s.rotStart t else s

end Sys2Proof.Machine
end

