-- ==== Sys2Proof/Machine/Cell.lean ====
section
/-! DEFINITION. What a pin cell connects and puts out (chapters 02, 03 and 05): its switches (R56), front-end path and gain (R57),
safe pull (R22), current source and bridge excitation (R24, R43, R63), and the field value of its output (R120). -/

namespace Sys2Proof.Machine

/-! ### Switches (R56, R57) -/

/-- The switches of a pin cell by the names of R56: safe pull, attenuated and direct path, filter, comparator, sense element, DAC
stage, current source, DIN24 sink, high-side switch, transceiver and termination, bridge excitation, lane, pilot injector. -/
inductive CellSwitch where
  | sp | sa | sb | sf | sc | sn | sd | si | sk | sh | st | sx | sl | spi
deriving DecidableEq, Repr

/-- The front-end path of a RANGE code (R57). -/
def rangePath (range : Nat) : CellSwitch := if range < 2 then .sa else .sb

/-- The nominal gain to the core of a RANGE code, as numerator and denominator (R57). -/
def rangeGain (range : Nat) : Nat × Nat :=
  [(5, 72), (5, 24), (5, 12), (1, 1), (5, 2), (10, 1), (40, 1), (100, 1)].getD range (100, 1)

/-- The switches that function `f` closes on pin `n` with its RANGE, SENSE and TERM (R56). -/
def cellSwitches (f n range : Nat) (sense term : Bool) : List CellSwitch :=
  let p := rangePath range
  match f with
  | 1 => [p, .sf, .sc, .spi] ++ (if sense then [.sn] else [])
  | 2 => [p, .sf, .sc, .spi]
  | 3 => [.sd, p, .sf, .sc, .spi]
  | 4 => [.sd, p, .sf, .sc, .spi]
  | 5 => [.sd, p, .sf, .sc, .spi]
  | 6 => [.si, p, .sf, .sc, .spi]
  | 7 => [.sa, .sk, .sc, .spi]
  | 8 => [.sh, .sa, .sc, .spi]
  | 9 => [.st, .spi]
  | 10 => [.st, .spi]
  | 11 => [.sb, .sf, .sc, .spi] ++ (if term then [.st] else [])
  | 12 => [p, .sc, .spi]
  | 13 => if n % 4 < 2 then [.sx, .sb, .spi] else [.sb, .sf, .spi]
  | 14 => [.sb, .spi]
  | 15 => [.sl, p, .sf, .sc, .spi]
  | _ => [.sp]

/-- The pin's output stage is disconnected by a fault, FAULT_DISC or a range change. -/
def State.stageOpen (s : State) (t n : Nat) : Bool := isOutFunc (s.func t n) && s.bit (R.OUT_STAT_DISC t n)

/-- The 100 kΩ safe pull is connected (R22): OFF, the gap of a switch, a disconnected output, no field-driver power (R12). -/
def State.safePull (s : State) (t n : Nat) : Bool :=
  s.func t n = 0 || s.bit (R.PIN_STAT_SWITCHING t n) || s.stageOpen t n || !s.domReady (domField t)

/-- The switches of a pin cell that are closed (R56): the safe pull alone in OFF, in a gap and without power; the safe pull in
place of SD while the output stage is disconnected; SN not after a trip (R59), SL only where protection has not opened it (R71). -/
def State.closedSwitches (s : State) (t n : Nat) : List CellSwitch :=
  let f := s.func t n
  if f = 0 || s.bit (R.PIN_STAT_SWITCHING t n) || !s.domReady (domField t) then [.sp]
  else
    let l := cellSwitches f n (s.rangeOf t n) (s.bit (R.TILE_AFE_SENSE t n) && !(s.pin t n).snOpen)
      (s.bit (R.PIN_CFG_TERM t (leadOf f n)))
    if s.stageOpen t n then .sp :: l.filter (· != .sd) else if (s.pin t n).slClosed then l else l.filter (· != .sl)

/-! ### Sources and drivers -/

/-- The function `f` works at pin `n`: it is attached and has power. -/
def State.works (s : State) (t n f : Nat) : Bool :=
  s.func t n = f && !s.bit (R.PIN_STAT_SWITCHING t n) && s.domReady (domField t)

/-- The current of an ISRC pin, in 50 nA units (R24): from 0 at the attach to PIN_ISRC in 10 µs (R43). -/
def State.sourceCurrent (s : State) (t n : Nat) : Nat :=
  if s.works t n 6 then s.get (R.PIN_ISRC t n) * min 10000 (s.time - (s.pin t n).since) / 10000 else 0

/-- V_EXC_nom of BRG_EXC, in microvolts (R24). -/
def excNominal (code : Nat) : Int := [2500000, 5000000, 10000000].getD code 10000000

/-- The excitation that pin `n` of a quad drives against FGND, in microvolts: half the total, symmetric about FGND (R24). It starts
at the safe value of an output, 0 V (R43, R130); how long it stands there the spec does not give (log 152). -/
def State.excitation (s : State) (t n : Nat) : Int :=
  let v := excNominal (s.get (R.PIN_CFG_BRG_EXC t (leadOf 13 n))) / 2
  if !s.works t n 13 || 2 ≤ n % 4 || s.time ≤ (s.pin t n).since + Config.bridgeRise then 0 else if n % 4 = 0 then v else -v

/-- The field value of output code `c` in range `orange`, in units of 1/65,536 mV, or of 1/65,536 µA in ranges 4 and 5 (R120). -/
def fieldValue (orange c : Nat) : Int :=
  let x : Int := c
  match orange with
  | 0 => (x - 32768) * 24000
  | 1 => (x - 32768) * 12000
  | 2 => x * 12000
  | 3 => x * 6000
  | 4 => x * 24000
  | 5 => (x - 32768) * 48000
  | _ => 0

/-- What an output stage drives (R120), none while it is disconnected. -/
def State.fieldOut (s : State) (t n : Nat) : Option Int :=
  if isOutFunc (s.func t n) then (s.pin t n).stage.map fun c => fieldValue (s.get (R.OUT_STAT_ORANGE_ACT t n)) c else none

end Sys2Proof.Machine
end

