-- ==== Sys2Proof/Machine/Adc.lean ====
section
/-! DEFINITION. Input converters (chapter 04): correction, sample words and frames, the slots of a pass, the plausibility
check, interleave, decimators, and a commit of the input page. -/

namespace Sys2Proof.Machine

/-! ### Arithmetic (R113, R150) -/

/-- `n / d` rounded half away from zero, for `d > 0`. -/
def rndPos (n d : Int) : Int := if 0 ≤ n then (2 * n + d) / (2 * d) else -((-2 * n + d) / (2 * d))

/-- `n / d` rounded half away from zero; 0 for `d = 0`. -/
def rnd (n d : Int) : Int := if 0 < d then rndPos n d else if d < 0 then rndPos (-n) (-d) else 0

/-- A result clamped to 20 bits, and whether it was outside (R98, R113). -/
def sat20 (v : Int) : Int × Bool := (clampInt (-524288) 524287 v, v < -524288 || 524287 < v)

/-- VALUE of a conversion under a channel's coefficients, and whether it was clamped (R150). -/
def correct (x16 off : Int) (gain : Nat) : Int × Bool := sat20 (rnd ((x16 + off) * gain) (2 ^ 26))

/-- Flags of a sample word as the number in its bits 11:5 (R94). -/
def flOf (ovr settle stale plaus uncal wire intlv : Bool) : Nat :=
  ovr.toNat * 64 + settle.toNat * 32 + stale.toNat * 16 + plaus.toNat * 8 + uncal.toNat * 4 + wire.toNat * 2 + intlv.toNat

/-- A sample word (R94). -/
def mkWord (value : Int) (fl seq : Nat) : Word := BitVec.ofNat 32 (lowBits 20 value * 4096 + fl % 128 * 32 + seq % 32)
def wordFlags (w : Word) : Nat := getBits w 11 5
def wordValue (w : Word) : Int := sext 20 (getBits w 31 12)

/-! ### Frames (R91 to R93) -/

/-- STREAM and FRAME_LEN of an output: 0 to 15 raw slots, 16 interleave, 17 to 24 decimators. -/
def State.outCfg (s : State) (t k : Nat) : Nat × Nat :=
  if k < 16 then (s.get (R.TILE_ADC_OUT_STREAM t k), s.get (R.TILE_ADC_OUT_FRLEN t k) + 1)
  else if k = 16 then (s.get (R.TILE_ADC_INTLV_STREAM t), s.get (R.TILE_ADC_INTLV_FRLEN t) + 1)
  else (s.get (R.TILE_DEC_OUT_STREAM t (k - 17)), s.get (R.TILE_DEC_OUT_FRLEN t (k - 17)) + 1)

/-- Append a word, sampled at `time`, to the frame of output `k`; a full frame buffer discards it (R93). -/
def State.emit (s : State) (t k : Nat) (w : Word) (time : Nat) : State :=
  let (stream, len) := s.outCfg t k
  let p : Page := .input (Fin.ofNat 32 t)
  if 32768 < s.frameBytes t + 4 then
    let first := !(s.tile t).overrun
    let s := s.event p 6 { sub := some k, stream := some stream, pri := some (s.stream stream).pri }
    let s := (s.putB (R.TILE_ADC_STAT_OVERRUN t) true).modTile t fun x => { x with overrun := true }
    if first then s.raise (s.srcTile t p) 2 0x12 0 else s
  else
    let x := s.tile t
    let f := (tblFind x.part k).getD { words := [], time := time, stream := stream, last := false }
    let f := { f with words := f.words ++ [w] }
    let x := { x with overrun := false }
    let s := s.setTile t (if len ≤ f.words.length then { x with part := tblDel x.part k, ready := x.ready ++ [(k, f)] }
      else { x with part := tblIns x.part k f })
    let g : EvTag := { sub := some k, stream := some stream, pri := some (s.stream stream).pri }
    let s := s.event p 0 g
    let s := if w.getLsbD 11 then s.event p 1 g else s
    if w.getLsbD 10 then s.event p 2 g else s

/-! ### Sources (R82, R84, R88) -/

/-- A pin source carries a signal (R84). -/
def State.hasSignal (s : State) (t n : Nat) : Bool :=
  let f := s.func t n
  s.bit (R.PIN_STAT_SWITCHING t n) ||
    (f = 1 || f = 3 || f = 4 || f = 5 || f = 6 || f = 15 || ((f = 2 || f = 11 || f = 13) && leadOf f n = n))

/-- A slot's source is without signal (R84). -/
def State.noSignal (s : State) (t src : Nat) : Bool := src < 8 && !s.hasSignal t src

/-- A slot's source is a pin in the gap of a function switch (R43). -/
def State.srcDetached (s : State) (t src : Nat) : Bool := src < 8 && s.bit (R.PIN_STAT_SWITCHING t src)

/-- WIRE of a source: the pin's live condition, the OR of both pins' for a pair, whichever of them is named (R51, R94). -/
def State.srcWire (s : State) (t src : Nat) : Bool :=
  let lead := if isPair (s.func t src) then leadOf (s.func t src) src else src
  src < 8 && (s.bit (R.PIN_STAT_WIRE t lead) || (isPair (s.func t src) && s.bit (R.PIN_STAT_WIRE t (lead + 1))))

/-- UNCAL of a source (R73, R94, R143, R145, R167). -/
def State.srcUncal (s : State) (t src : Nat) : Bool :=
  !(s.tile t).selfCal || (s.tile t).selfFail || s.bit (R.TILE_REF_STAT_REF_ERR t) || s.bit (R.TILE_REF_STAT_ZERO_ERR t) ||
    (src < 10 && s.getIdx (R.CAL_LOST t) src)

/-- tACQ_MIN of a source in 250 ps units (R88). -/
def State.acqMin (s : State) (t src : Nat) : Nat :=
  if src = 8 || src = 9 || (src < 8 && 5 ≤ s.rangeOf t src) then 200 else 100

/-- A source is held STALE: its converter or front end is being calibrated, or a procedure runs on its channel (R96, R147,
R153). TILE_IN holds its words for the 18 ms that converter A and the front ends take; a calibration for want of a valid record at a
fiddlehead start marks SETTLE instead (R166). -/
def State.srcStale (s : State) (t src : Nat) : Bool :=
  (match (s.tile t).work with
   | some .powerUp => !(s.tile t).recal
   | some (.request scope ch) => 
     (scope = 0 && s.time < (s.tile t).workAt + 18000000) || scope = 1 || (scope = 3 && src = ch)
   | none => false) ||
  (s.get (R.CAL_SYS_STAT_STATE t) != 0 && src = (s.tile t).cap.ch)

/-- Converter B is being calibrated (R149). -/
def State.calB (s : State) (t : Nat) : Bool :=
  match (s.tile t).work with
  | some .powerUp => true
  | some (.request scope _) => scope = 0 || scope = 2
  | none => false

/-- V_EXC_sensed of a quad, between its excitation pins in microvolts; below 25 % of V_EXC_nom, 25 % of V_EXC_nom (R64). -/
def State.sensedExc (s : State) (t lead : Nat) : Int :=
  let v := (s.pin t lead).uV - (s.pin t (lead + 1)).uV
  let nom := excNominal (s.get (R.PIN_CFG_BRG_EXC t lead))
  if 4 * v.natAbs < nom.natAbs then nom / 4 else v

/-- A conversion as its source gives it: that of BRIDGE is ratiometric, V_SIG × V_EXC_nom ÷ V_EXC_sensed (R64). -/
def State.sourceX16 (s : State) (t src : Nat) (x16 : Int) : Int :=
  if src < 8 && s.func t src = 13 && leadOf 13 src = src then
    rnd (x16 * excNominal (s.get (R.PIN_CFG_BRG_EXC t src))) (s.sensedExc t src)
  else x16

/-- VALUE and the clamp flag of a conversion of a source (R64, R82, R84, R150). -/
def State.convert (s : State) (t src : Nat) (x16 : Int) : Int × Bool :=
  if src < 10 && !s.noSignal t src then correct (s.sourceX16 t src x16) (s.offOf t src) (s.gainOf t src)
  else correct x16 0 0x400000

/-! ### The plausibility check (R102 to R104) -/

/-- CHK_RATE in effect (R105). -/
def State.chkRate (s : State) (t : Nat) : Nat := max 4 (s.get (R.TILE_ADC_CHK_CFG_CHK_RATE t))

/-- The result of a check: whether the two words differ beyond CHK_TOL sets MISCNT and the check fault (R102, R104). -/
def State.chkResult (s : State) (t : Nat) (bad : Bool) : State :=
  let p : Page := .input (Fin.ofNat 32 t)
  let s := (s.bump (R.TILE_ADC_CHK_STAT_CHKCNT t)).event p 4
  if bad then
    let s := (s.bumpSat (R.TILE_ADC_CHK_STAT_MISCNT t)).event p 3
    if max 1 (s.get (R.TILE_ADC_CHK_CFG_CHK_FAULT t)) ≤ s.get (R.TILE_ADC_CHK_STAT_MISCNT t) &&
        !s.bit (R.TILE_ADC_CHK_STAT_FAULT t) then
      let s := s.putB (R.TILE_ADC_CHK_STAT_FAULT t) true
      s.raise (s.srcSlot t (s.get (R.TILE_ADC_CHK_CFG_CHK_SLOT t))) 2 0x13 (s.get (R.TILE_ADC_CHK_STAT_MISCNT t))
    else s
  else (s.put (R.TILE_ADC_CHK_STAT_MISCNT t) 0).putB (R.TILE_ADC_CHK_STAT_FAULT t) false

/-! ### Captures (R153, R154) -/

/-- Words of a point: 2^(AVG + 4) (R169). -/
def State.capAvg (s : State) (t : Nat) : Nat := 2 ^ (min 8 (s.get (R.CAL_SYS_CFG_AVG t)) + 4)

/-- The lowest-numbered slot within SEQ_LEN whose SRC names the channel (R154). -/
def State.capSlot (s : State) (t ch : Nat) : Option Nat :=
  (List.range (s.seqLen t)).find? fun k => s.get (R.TILE_ADC_SLOT_SRC t k) = ch

/-- A word of the captured slot as it would be without STALE, with the x16 that OFF and G act on, and B's where B checked the word
(R154): SETTLE words are passed over, and a word with OVR, PLAUS, UNCAL or WIRE ends the procedure FLAGGED. STALE, which every word
of the procedure carries, does not keep B's conversion out of the mean; an overdrive of B or its recovery does (R103). -/
def State.capWord (s : State) (t : Nat) (w : Word) (x16 : Int) (b : Option Int) : State :=
  let c := (s.tile t).cap
  if w.getLsbD 10 || s.capAvg t ≤ c.count then s
  else if w.getLsbD 11 || w.getLsbD 8 || w.getLsbD 7 || w.getLsbD 6 then s.endProc t 3
  else
    let c := { c with
      count := c.count + 1, sum := c.sum + x16
      low := if c.count = 0 then x16 else min c.low x16
      high := if c.count = 0 then x16 else max c.high x16
      bCount := c.bCount + (if b.isSome then 1 else 0), bSum := c.bSum + b.getD 0 }
    (s.modTile t fun x => { x with cap := c }).put (R.CAL_SYS_STAT_WORDS t) c.count

/-! ### Decimators (R112 to R115) -/

/-- m, q and h in effect (R112). -/
def State.decM (s : State) (t d : Nat) : Nat := max 1 (s.get (R.TILE_DEC_CFG_CIC_RATE t d))
def State.decQ (s : State) (t d : Nat) : Nat :=
  if s.decM t d = 1 then 0 else max 1 (s.get (R.TILE_DEC_CFG_CIC_N t d))
def State.decH (s : State) (t d : Nat) : Nat := s.get (R.TILE_DEC_CFG_HB t d)

/-- L_out (R115). -/
def State.decLout (s : State) (t d : Nat) : Nat :=
  let m := s.decM t d
  let p := 2 ^ s.decH t d
  ceilDiv (s.decQ t d * (m - 1) + 1 + 46 * m * (p - 1)) (m * p)

def State.dec (s : State) (t d : Nat) : DecSt := tblGet (fun _ => {}) (s.tile t).decs d
def State.setDec (s : State) (t d : Nat) (x : DecSt) : State :=
  s.modTile t fun y => { y with decs := tblSet (fun _ => {}) y.decs d x }

/-- A decimator is reconfigured: its state clears and its next L_out outputs carry SETTLE (R97, R101, R115). -/
def State.decReset (s : State) (t d : Nat) : State :=
  (s.setDec t d {}).put (R.TILE_DEC_STAT_COUNT t d) (max (s.get (R.TILE_DEC_STAT_COUNT t d)) (s.decLout t d))

/-- The words of slot `k`, or of the interleave output for 16, sampled at `time`, go to the decimators that name it (R112). -/
def State.feedDecs (s : State) (t k : Nat) (w : Word) (time : Nat) : State :=
  (List.range 8).foldl (fun s d =>
    if s.bit (R.TILE_DEC_CFG_EN t d) && s.get (R.TILE_DEC_CFG_SRC_SLOT t d) = k then
      let x := s.dec t d
      s.setDec t d { x with inq := x.inq ++ [(w, time)] }
    else s) s

/-- The integrators take one input: each adds the one before it. -/
def integStep : List Int → Int → List Int
  | [], _ => []
  | a :: t, v => (a + v) :: integStep t (a + v)

/-- The combs take one input: each passes the difference from its last input. The new combs and the output. -/
def combStep : List Int → Int → List Int × Int
  | [], v => ([], v)
  | a :: t, v => let r := combStep t (v - a); (v :: r.1, r.2)

/-- One half-band output from the delay line, newest first (R113). -/
def halfBand (line : List Int) : Int :=
  let tap := fun k => line.getD k 0
  let odd := (List.range 12).foldl (fun (a : Int) i =>
    a + sext 24 (Config.hbCoef i % 2 ^ 24) * (tap (23 - (2 * i + 1)) + tap (23 + (2 * i + 1)))) 0
  rnd (odd + 2 ^ 22 * tap 23) (2 ^ 23)

/-- A half-band stage over its inputs: an output after every second one. The delay line, the outputs, and OVR. -/
def hbStage : List Int → List Int → List Int × List Int × Bool
  | line, a :: b :: xs =>
    let line := (b :: a :: line).take 47
    let y := sat20 (halfBand line)
    let r := hbStage line xs
    (r.1, y.1 :: r.2.1, y.2 || r.2.2)
  | line, _ => (line, [], false)

/-- The CIC stage over `m` words: its new state, its output and OVR (R113). -/
def cicStage (x : DecSt) (q m : Nat) (vs : List Int) : DecSt × Int × Bool :=
  if q = 0 then (x, vs.getD 0 0, false)
  else
    let zero := List.replicate q (0 : Int)
    let integ := vs.foldl integStep (if x.integ.isEmpty then zero else x.integ)
    let r := combStep (if x.comb.isEmpty then zero else x.comb) (integ.getLastD 0)
    let y := sat20 (rnd r.2 (m ^ q : Nat))
    ({ x with integ := integ, comb := r.1 }, y.1, y.2)

/-- `n` CIC outputs of `m` words each. -/
def cicRun (q m : Nat) : Nat → DecSt → List Int → DecSt × List Int × Bool
  | 0, x, _ => (x, [], false)
  | n + 1, x, vs =>
    let a := cicStage x q m (vs.take m)
    let r := cicRun q m n a.1 (vs.drop m)
    (r.1, a.2.1 :: r.2.1, a.2.2 || r.2.2)

/-- The whole chain over the words of one output: the new state, VALUE and OVR (R112, R113). A result that saturates in a stage before
the last marks the one output computed with it and no later one (DESIGN CHOICE, log 173: R113 does not say how long it is carried). -/
def decChain (x : DecSt) (q m h : Nat) (vs : List Int) : DecSt × Int × Bool :=
  let c := cicRun q m (2 ^ h) x vs
  let a := if 1 ≤ h then hbStage c.1.hb0 c.2.1 else (c.1.hb0, c.2.1, false)
  let b := if 2 ≤ h then hbStage c.1.hb1 a.2.1 else (c.1.hb1, a.2.1, false)
  let d := if 3 ≤ h then hbStage c.1.hb2 b.2.1 else (c.1.hb2, b.2.1, false)
  ({ c.1 with hb0 := a.1, hb1 := b.1, hb2 := d.1 }, d.2.1.getD 0 0, c.2.2 || a.2.2 || b.2.2 || d.2.2)

/-- The flag bits of a word whose counters R114 keeps beside SETTLE's: OVR, STALE, PLAUS, UNCAL, WIRE, INTLV. -/
def decFlagBits : List Nat := [6, 4, 3, 2, 1, 0]

/-- DECIMATOR_OUTPUT (R91, R112 to R114): one output from m × 2^h input words, when they are there. Its sampling instant is that
of its last input word (DESIGN CHOICE, log 141). -/
def execDecimatorOutput (t : Fin 32) (d : Fin 8) (s : State) : Host.Outcome State Fault Refusal :=
  let m := s.decM t d
  let h := s.decH t d
  let n := m * 2 ^ h
  let x := s.dec t d
  if s.bit (R.TILE_DEC_CFG_EN t d) && n ≤ x.inq.length then
    let ws := (x.inq.take n).map (·.1)
    let lout := s.decLout t d
    let has := fun b => ws.any fun w => (wordFlags w).testBit b
    let ctr := (decFlagBits.zip x.flags).map fun e => if has e.1 then lout else e.2
    let set := if has 5 then lout else s.get (R.TILE_DEC_STAT_COUNT t d)
    let r := decChain { x with inq := x.inq.drop n } (s.decQ t d) m h (ws.map wordValue)
    let fl := (decFlagBits.zip ctr).foldl (fun a e => if 0 < e.2 then a ||| 2 ^ e.1 else a) 0
    let fl := (if 0 < set then fl ||| 32 else fl) ||| (if r.2.2 then 64 else 0)
    let s := s.setDec t d { r.1 with flags := ctr.map fun c => c - 1, seq := (x.seq + 1) % 32 }
    let s := s.put (R.TILE_DEC_STAT_COUNT t d) (set - 1)
    .next (s.emit t (17 + d) (mkWord r.2.1 fl x.seq) ((x.inq.getD (n - 1) (0, 0)).2))
  else .next s

/-! ### Slots of a pass (R86, R96 to R104) -/

/-- What converter A's conversion of a slot gives before STALE: flags without PLAUS, and VALUE. -/
structure Raw where
  value : Int
  ovr : Bool
  settle : Bool
  uncal : Bool
  wire : Bool
deriving DecidableEq, Repr

/-- A conversion of source `src` with `settle` already decided: at an end of the code range VALUE clamps by its sign (R98). -/
def State.rawConv (s : State) (t src : Nat) (x16 : Int) (clip settle : Bool) : Raw :=
  let v := s.convert t src x16
  { value := if clip then (if v.1 < 0 then -524288 else 524287) else v.1, ovr := clip || v.2, settle := settle, uncal := s.srcUncal t src, wire := s.srcWire t src }

/-- Whether the word of slot `k` is due for a check (R102, R105). -/
def State.chkDue (s : State) (t k : Nat) : Bool :=
  s.get (R.TILE_ADC_CHK_STAT_SUSP t) = 0 && s.get (R.TILE_ADC_CHK_CFG_CHK_SLOT t) = k &&
    s.chkRate t ≤ (s.tile t).chkWait + 1

/-- Count the words of the checked slot towards the next check. The count goes on when CHK_EN, CHK_SLOT or CHK_RATE change (DESIGN
CHOICE, log 174: R102 does not say that it restarts). -/
def State.chkCount (s : State) (t k : Nat) : State :=
  if s.get (R.TILE_ADC_CHK_CFG_CHK_SLOT t) = k then
    s.modTile t fun x => { x with chkWait := if s.chkDue t k then 0 else x.chkWait + 1 }
  else s

/-- The check of a due word (R102, R103): A's word `a` against B's conversion. The new state and A's PLAUS. -/
def State.check (s : State) (t src : Nat) (a : Raw) (stale : Bool) (b : Option (Int × Bool)) (seq : Nat) : State × Bool :=
  match b with
  | none => (s, false)
  | some (bx, bclip) =>
    let bv := s.rawConv t src bx bclip false
    if a.ovr || a.settle || a.uncal || stale || bv.ovr || 0 < (s.tile t).recoverB || s.noSignal t src || s.calB t then
      (s, false)
    else
      let bad := s.get (R.TILE_ADC_CHK_TOL t) < (a.value - bv.value).natAbs
      let s := s.chkResult t bad
      let plaus := bad || s.bit (R.TILE_ADC_CHK_STAT_FAULT t)
      let s := s.setWord (R.TILE_ADC_CHK_LAST_A_WORD t).addr
        (mkWord a.value (flOf false false false plaus false a.wire false) seq)
      (s.setWord (R.TILE_ADC_CHK_LAST_B_WORD t).addr
        (mkWord bv.value (flOf false false false false false a.wire false) seq), bad)

/-- The channel whose latest word CAL_SYS_MON shows (R153): that of the procedure, or the one that CAL_SYS_CFG names. -/
def State.monCh (s : State) (t : Nat) : Nat :=
  if s.get (R.CAL_SYS_STAT_STATE t) = 0 then s.get (R.CAL_SYS_CFG_CH t) else (s.tile t).cap.ch

/-- One slot of a pass, sampled at `time`: its conversion becomes a sample word, which goes to the check, to CAL_SYS_MON, to a running
capture, and out when the pass ends. A STALE word counts down its slot's SETTLE counter as any word
does (DESIGN CHOICE, log 138); a slot with no word from before the calibration gives a fresh free VALUE in each of its STALE words
(DESIGN CHOICE, log 137). Converter B converts once with each of A's conversions, the pilot's where no check is due (R99, R117). -/
def State.slotWord (s : State) (t k : Nat) (cv : Conv) (time : Nat) : State :=
  let src := s.get (R.TILE_ADC_SLOT_SRC t k)
  let x := s.tile t
  let nosig := s.noSignal t src
  let s := s.putIdx (R.TILE_ADC_STAT_SRC_NOSIG t) k nosig
  let cnt := s.get (R.TILE_ADC_SETTLECNT_COUNT t k)
  let short := src != x.lastSrc && max 100 (s.get (R.TILE_ADC_SLOT_ACQ t k)) < s.acqMin t src
  let settle := 0 < cnt || short || nosig || s.srcDetached t src || 0 < x.recover || x.recal
  let a := s.rawConv t src cv.x16 cv.clip settle
  let stale := s.srcStale t src
  let due := s.chkDue t k
  let s := (s.chkCount t k).put (R.TILE_ADC_SETTLECNT_COUNT t k) (cnt - 1)
  let c := if due then s.check t src a stale cv.b x.passNo else (s, false)
  let s := c.1
  let bOvr := due && (match cv.b with | some b => (s.rawConv t src b.1 b.2 false).ovr | none => false)
  let s := s.modTile t fun x => { x with
    lastSrc := src
    recover := if a.ovr then 2 else x.recover - 1
    recoverB := if bOvr || (due && a.ovr) then 2 else x.recoverB - 1 }
  let plaus := c.2 || s.bit (R.TILE_ADC_CHK_STAT_FAULT t)
  let live := mkWord a.value (flOf a.ovr a.settle false plaus a.uncal a.wire false) x.passNo
  let ps := s.get (R.CAL_SYS_STAT_STATE t)
  let bGood := due && !s.calB t && !bOvr && x.recoverB = 0
  let s := if src = s.monCh t then s.setWord (R.CAL_SYS_MON_WORD t).addr live else s
  let s := if (ps = 1 || ps = 3) && src = x.cap.ch && s.capSlot t src == some k then
      s.capWord t live (s.sourceX16 t src cv.x16) (if bGood then cv.b.map fun b => s.sourceX16 t src b.1 else none)
    else s
  let held := match tblFind (s.tile t).lastVal k with
    | some v => (v, s)
    | none => s.draw (2 ^ 20)
  let s := if stale then held.2 else s.modTile t fun x => { x with lastVal := tblIns x.lastVal k (lowBits 20 a.value) }
  let w := if stale then mkWord held.1 (flOf false false true false a.uncal a.wire false) x.passNo else live
  s.modTile t fun x => { x with passOut := x.passOut ++ [(k, w, time)] }

/-- The words of a pass that has ended leave, each to the decimators and, with RAW_EN, into its slot's frame (R91, R112, R117). -/
def State.passClose (s : State) (t : Nat) : State :=
  let ws := (s.tile t).passOut
  ws.foldl (fun s e =>
    let s := s.feedDecs t e.1 e.2.1 e.2.2
    if s.bit (R.TILE_ADC_SLOT_RAW_EN t e.1) then s.emit t e.1 e.2.1 e.2.2 else s)
    (if ws.isEmpty then s else s.modTile t fun x => { x with passOut := [] })

/-- The slots of a pass from slot `k` on; `at250` is the device time of the slot's start in 250 ps units (R85, R91). -/
def State.passSlots (t : Nat) : List Conv → Nat → Nat → State → State
  | [], _, _, s => s
  | cv :: cs, k, at250, s =>
    if k < s.seqLen t then
      let acq := max 100 (s.get (R.TILE_ADC_SLOT_ACQ t k))
      State.passSlots t cs (k + 1) (at250 + s.slotDur t k) (s.slotWord t k cv ((at250 + acq) / 4))
    else s

/-- The first 250 ps grid instant of this nanosecond at which a pass starts (R86, R87): not before the last pass has ended, and with
SEQ_PER where (t − PHASE) mod SEQ_PER = 0. A bound further away than T_act, 100 ns or 20 ns allow is none. -/
def State.passStart (s : State) (t : Nat) : Option Nat :=
  let lo := 4 * s.time
  let per := s.get (R.TILE_ADC_SEQ_PER t)
  let far := lo + max 400 (s.tAct t)
  let live := fun (v : Nat) => if v ≤ far then v else lo
  let lo' := max lo (max (live (s.tile t).passFrom) (live (s.tile t).passEnd))
  let u := if !s.bit (R.TILE_ADC_CTRL_MODE t) && 0 < per then
      lo' + (s.get (R.TILE_ADC_PHASE t) % per + per - lo' % per) % per else lo'
  if u < lo + 4 then some u else none

/-- The conversions of a pass: those given, and conversions of zero where fewer are given (assumption log 1). -/
def passConvs (n : Nat) (cs : List Conv) : List Conv :=
  (List.range n).map fun k => cs.getD k { x16 := 0, clip := false, b := none }

/-- ADC_TRIGGER (R87): the trigger that TRIG_SEL selects. -/
def execAdcTrigger (t : Fin 32) (s : State) : Host.Outcome State Fault Refusal := .next (s.adcTrig t)

/-- ADC_TRIG_START (R87, R118): a write of 1 to TILE_ADC_TRIG.START by the page's owner. -/
def execAdcTrigStart (w : Writer) (t : Fin 32) (s : State) : Host.Outcome State Fault Refusal :=
  .next (s.byOwner w (.input t) fun s => s.adcTrig t)

/-- FLAGS of a frame's item (R92, R267). -/
def frameFlags (f : Frame) : Nat :=
  let has := fun b => f.words.any fun w => w.getLsbD b
  f.last.toNat + (if has 9 then 2 else 0) + (if has 11 then 4 else 0) +
    (if has 10 || has 8 || has 7 || has 6 then 128 else 0)

/-- The item that a frame makes (R91, R270). -/
def State.frameItem (s : State) (t : Nat) (f : Frame) : Item :=
  let st := s.stream f.stream
  let bytes := f.words.flatMap fun w => leBytes 4 w.toNat
  { tag := { stream := f.stream, seq := 0, ctx := 0, pri := st.pri, src := s.unitId t, dst := st.dst, typ := 1, exp := 0,
             flags := frameFlags f, len := bytes.length, chk := chkOf bytes, time := f.time, zeroBad := false },
    payload := bytes }

/-- FRAME_EMIT (R91): the oldest finished frame of an output is offered to the scheduler. -/
def execFrameEmit (t : Fin 32) (out : Fin 25) (s : State) : Host.Outcome State Fault Refusal :=
  match (s.tile t).ready.find? fun e => e.1 = out.val with
  | none => .next s
  | some e =>
    let s := s.modTile t fun x => { x with ready := x.ready.erase e }
    let s := { s with sched := { s.sched with offers := s.sched.offers ++ [({ item := s.frameItem t e.2 } : Offer)] } }
    .next (s.event (.input t) 5 { sub := some out, stream := some e.2.stream, pri := some (s.stream e.2.stream).pri })

/-! ### Interleave (R106 to R111) -/

/-- SEQ of every decimator restarts (R97). -/
def seqRestart (decs : List (Nat × DecSt)) : List (Nat × DecSt) :=
  [0, 1, 2, 3, 4, 5, 6, 7].foldl (fun l d =>
    tblSet (fun _ => {}) l d { tblGet (fun _ => {}) l d with seq := 0 }) decs

/-- Attached outputs return at their safe values, in FAULT_HOLD where an event of R129 put them there (R129, R166). -/
def State.reattachOuts (s : State) (t : Nat) : State :=
  s.eachPin fun s n =>
    if isOutFunc (s.func t n) && !s.bit (R.PIN_STAT_SWITCHING t n) && s.bit (R.OUT_STAT_DISC t n) && !s.bit (R.OUT_STAT_RCHG t n) &&
        !s.bit (R.OUT_STAT_RANGE_ERR t n) && !(s.bit (R.OUT_CFG_FAULT_DISC t n) && s.bit (R.OUT_STAT_FAULT_HOLD t n)) then
      s.stageMid t n else s

/-- The sequencer starts (R86, R88, R97): back to back passes begin at least 100 ns later. -/
def State.startSeq (s : State) (t : Nat) : State :=
  ((s.putB (R.TILE_ADC_STAT_RUNNING t) true).modTile t fun x => { x with
    passNo := 0, lastSrc := 0xA, passRun := false, passEnd := 0
    passFrom := 4 * s.time + (if s.get (R.TILE_ADC_SEQ_PER t) = 0 then 400 else 0), decs := seqRestart x.decs }).suspSync t

/-- INTLV_EXIT (R111): the last frame is flushed; with RUN = 1 the sequencer resumes, decimators fed by a slot restart, and
slots on pin 0 mark 64 words. -/
def execIntlvExit (t : Fin 32) (s : State) : Host.Outcome State Fault Refusal :=
  if (s.tile t).intlvExit && s.bit (R.TILE_ADC_STAT_INTLV_ACT t) then
    let s := (s.flushTile t).modTile t fun x => { x with intlvExit := false }
    let s := s.putB (R.TILE_ADC_STAT_INTLV_ACT t) false
    if s.bit (R.TILE_ADC_CTRL_RUN t) then
      let s := s.settleSrc t 0 64
      let s := (List.range 8).foldl (fun s d =>
        if s.bit (R.TILE_DEC_CFG_EN t d) && s.get (R.TILE_DEC_CFG_SRC_SLOT t d) < 16 then s.decReset t d else s) s
      .next (s.startSeq t)
    else .next (s.suspSync t)
  else .next s

/-- The background correction of skew and its convergence, which the spec does not compute: free values (R109). -/
def State.correctSkew (s : State) (t : Nat) : State :=
  let a := s.draw 65536
  let b := a.2.draw 2
  (b.2.put (R.TILE_ADC_INTLV_STAT_SKEW t) a.1).put (R.TILE_ADC_INTLV_STAT_CONV t) b.1

/-- INTLV_SAMPLE (R109): one interleaved word of pin 0 at a device time that is a multiple of 50 ns; converter A takes the even
instants, B the odd ones, and the correction between them goes on. It is no word of a slot, so R104 does not mark it. -/
def execIntlvSample (t : Fin 32) (cv : Conv) (s : State) : Host.Outcome State Fault Refusal :=
  let next := (s.tile t).passFrom
  if s.bit (R.TILE_ADC_STAT_INTLV_ACT t) && s.time % 50 = 0 && (next ≤ 4 * s.time || 4 * s.time + 200 < next) then
    let x := s.tile t
    let isA := s.time / 50 % 2 = 0
    let cnt := s.get (R.TILE_ADC_SETTLECNT_INTLV_COUNT t)
    let rcv := if isA then x.recover else x.recoverB
    let a := s.rawConv t 0 cv.x16 cv.clip (0 < cnt || 0 < rcv)
    let rcv := if a.ovr then 2 else rcv - 1
    let w := mkWord a.value (flOf a.ovr a.settle false false a.uncal a.wire true) x.intlvSeq
    let s := s.modTile t fun x => { x with
      intlvSeq := (x.intlvSeq + 1) % 32
      passFrom := 4 * s.time + 200
      recover := if isA then rcv else x.recover
      recoverB := if isA then x.recoverB else rcv }
    let s := ((s.put (R.TILE_ADC_SETTLECNT_INTLV_COUNT t) (cnt - 1)).correctSkew t).feedDecs t 16 w s.time
    .next (s.emit t 16 w s.time)
  else .next s

/-! ### A commit of the input page (R83, R86, R89, R106, R115, R117) -/

/-- Offsets of the input page's words with a later effective point (R89): SEQ_LEN, MODE, RUN and INTLV_EN, SEQ_PER, PHASE, the slot
table and the decimators. TRIG_SEL, the interleave output and the check have none. -/
def inputLate (t : Nat) : List Nat :=
  [0x40, 0x44, 0x48].map (· + inPage t) ++ (List.range 32).map (fun i => inPage t + 0x100 + 4 * i) ++
    (List.range 8).flatMap (fun d => [inPage t + 0x280 + 16 * d, inPage t + 0x284 + 16 * d])

/-- The bits of the word at `a` that a refusal under R83 keeps: the slot table, SEQ_LEN and the stream assignments. -/
def inputKept (t a : Nat) : Word :=
  if a = inPage t + 0x40 then 0x1F0
  else if (List.range 16).any fun k => a = inPage t + 0x100 + 8 * k then 0xFFFFFFFF
  else if a = inPage t + 0x64 || ((List.range 16).any fun k => a = inPage t + 0x104 + 8 * k) ||
    ((List.range 8).any fun d => a = inPage t + 0x284 + 16 * d) then 0xFFF
  else 0

/-- SEQ_LEN in effect after a commit (R118). -/
def State.newLen (s : State) (t : Nat) : Nat := min 16 (max 1 (s.sget (R.TILE_ADC_CTRL_SEQ_LEN t)))

/-- The streams of the outputs that would be active (R83). -/
def State.newStreams (s : State) (t : Nat) : List Nat :=
  ((List.range (s.newLen t)).filterMap fun k =>
    if s.sget (R.TILE_ADC_SLOT_RAW_EN t k) = 1 then some (s.sget (R.TILE_ADC_OUT_STREAM t k)) else none) ++
  ((List.range 8).filterMap fun d =>
    if s.sget (R.TILE_DEC_CFG_EN t d) = 1 then some (s.sget (R.TILE_DEC_OUT_STREAM t d)) else none) ++
  (if s.sget (R.TILE_ADC_CTRL_INTLV_EN t) = 1 then [s.sget (R.TILE_ADC_INTLV_STREAM t)] else [])

/-- No value stands twice in a list. -/
def noRepeat : List Nat → Bool
  | [] => true
  | a :: t => !t.contains a && noRepeat t

/-- The slot table is refused (R83). -/
def State.slotBad (s : State) (t : Nat) : Bool :=
  ((List.range (s.newLen t)).any fun k => 12 ≤ s.sget (R.TILE_ADC_SLOT_SRC t k)) || !noRepeat (s.newStreams t) ||
    ((List.range 8).any fun d => s.sget (R.TILE_DEC_CFG_EN t d) = 1 && s.newLen t ≤ s.sget (R.TILE_DEC_CFG_SRC_SLOT t d) &&
      s.sget (R.TILE_DEC_CFG_SRC_SLOT t d) != 16)

/-- SEQ_PER is refused (R86). -/
def State.perBad (s : State) (t : Nat) : Bool :=
  let per := s.sget (R.TILE_ADC_SEQ_PER t)
  let act := (List.range (s.newLen t)).foldl (fun a k => a + (max 100 (s.sget (R.TILE_ADC_SLOT_ACQ t k)) + 300)) 0
  s.sget (R.TILE_ADC_CTRL_MODE t) = 0 && 0 < per && per < act

/-- A decimator code is reserved (R118). -/
def State.decBad (s : State) (t : Nat) : Bool :=
  (List.range 8).any fun d => 1024 < s.sget (R.TILE_DEC_CFG_CIC_RATE t d) || 6 ≤ s.sget (R.TILE_DEC_CFG_CIC_N t d)

/-- The conditions of R106 for interleave. A pin in the gap of a switch counts with the function that it will attach (DESIGN CHOICE, log
175: R106 does not say which function it is in). -/
def State.intlvOk (s : State) (t : Nat) : Bool :=
  24 ≤ t && s.sget (R.TILE_ADC_CTRL_RUN t) = 1 && s.funcGoal t 0 = 1 && s.rangeOf t 0 ≤ 5 && s.filtOf t 0 ≤ 2 &&
    ([1, 2, 3, 4, 5, 6, 7].all fun n => s.funcGoal t n = 0)

/-- A staged word at `a` is committed in the bits of `m` only: those wait, or apply at once, also beneath a word that waits; the
rest stays staged. -/
def State.commitBits (s : State) (a : Nat) (m : Word) (late : Bool) : State :=
  match tblFind s.stg a with
  | none => s
  | some w =>
    let base := match tblFind s.wait a with | some x => x | none => s.word a
    let m := m &&& BitVec.ofNat 32 (accMask a .rws)
    let v := mergeBits base w m
    let s1 := if late then s else s.setWord a (mergeBits (s.word a) w m)
    let s := if late || s.waits a then { s1 with wait := tblIns s1.wait a v } else s1
    if v = w then { s with stg := tblDel s.stg a } else s

/-- What a change of the input page's words in effect causes, `s0` being the state before it: frames of changed outputs are
flushed, changed decimators restart, a procedure whose slot changed is aborted, and the sequencer starts or stops. -/
def State.inputEffects (s : State) (s0 : State) (t : Nat) : State :=
  let srcOf := fun (z : State) k =>
    if k < 16 then z.get (R.TILE_ADC_SLOT_SRC t k)
    else if k = 16 then 0 else z.get (R.TILE_DEC_CFG_SRC_SLOT t (k - 17))
  let s := (List.range 25).foldl (fun s k =>
    if s.outCfg t k != s0.outCfg t k || srcOf s k != srcOf s0 k then s.flushOut t k else s) s
  let s := (List.range 8).foldl (fun s d =>
    let a := inPage t + 0x280 + 16 * d
    let cfg := fun (z : State) => (z.word a) &&& ~~~(0x20#32)
    if cfg s != cfg s0 || (s.bit (R.TILE_DEC_CFG_EN t d) && !s0.bit (R.TILE_DEC_CFG_EN t d)) then s.decReset t d else s) s
  let ch := (s.tile t).cap.ch
  let names := fun (z : State) => (List.range (z.seqLen t)).filterMap fun k =>
    if z.get (R.TILE_ADC_SLOT_SRC t k) = ch then some (k, z.word (inPage t + 0x100 + 8 * k)) else none
  let s := if names s != names s0 then s.abortProc t 4 else s
  let run := s.bit (R.TILE_ADC_CTRL_RUN t)
  let s :=
    if s.bit (R.TILE_ADC_STAT_INTLV_ACT t) then
      if !run || !s.bit (R.TILE_ADC_CTRL_INTLV_EN t) then s.modTile t fun x => { x with intlvExit := true } else s
    else if run && !s.bit (R.TILE_ADC_STAT_RUNNING t) && !s.tileContained t && !s.tileGirth t && s.domReady (domConv t) then
      s.startSeq t
    else if !run && s.bit (R.TILE_ADC_STAT_RUNNING t) then s.stopAdc t
    else s
  s.suspSync t

/-- The waiting words of the input page become the page's words. -/
def State.inputWords (s : State) (t : Nat) : State := (inputLate t).foldl (fun s a => s.applyWait a) s

/-- Every waiting word of the input page takes effect. -/
def State.inputApply (s : State) (t : Nat) : State := (s.inputWords t).inputEffects s t

/-- A commit of tile `t`'s input page (R83, R89, R106). The fields that a refusal keeps out stay staged: the next commit checks them
again (DESIGN CHOICE, log 136). -/
def State.commitInput (s : State) (t : Nat) : State :=
  let p : Page := .input (Fin.ofNat 32 t)
  let s := if s.passActive t then s else s.passClose t
  let s0 := s
  let slotErr := s.slotBad t || s.decBad t
  let perErr := s.perBad t
  let keep := s.slotBad t || perErr
  let wantsIntlv := s.sget (R.TILE_ADC_CTRL_INTLV_EN t) = 1 && !s.bit (R.TILE_ADC_CTRL_INTLV_EN t)
  let intlvErr := wantsIntlv && !s.intlvOk t
  let out := fun (a : Nat) => (if keep then inputKept t a else 0#32) |||
    (if (perErr && a = inPage t + 0x44) || (s0.decBad t && inPage t + 0x280 ≤ a && a < inPage t + 0x300) then 0xFFFFFFFF#32
     else if intlvErr && a = inPage t + 0x40 then 4#32 else 0#32)
  let late := s.bit (R.TILE_ADC_STAT_RUNNING t) && s.passActive t
  let s := if late then s else s.inputWords t
  let s := s.commitBits (inPage t + 0x40) 0xFF0000#32 false
  let s := s.commitBits (inPage t + 0x64) (~~~(out (inPage t + 0x64))) false
  let s := (inputLate t).foldl (fun s a => s.commitBits a (~~~(out a)) late) s
  let s := [0x50, 0x54].foldl (fun s o => s.applyStaged (inPage t + o)) s
  let s := s.putB (R.TILE_ADC_STAT_SLOT_ERR t)
    (slotErr || ((perErr || intlvErr) && s.bit (R.TILE_ADC_STAT_SLOT_ERR t)))
  let s := s.putB (R.TILE_ADC_STAT_PER_ERR t) perErr
  let s := s.putB (R.TILE_ADC_STAT_INTLV_ERR t)
    (intlvErr || ((slotErr || perErr) && s.bit (R.TILE_ADC_STAT_INTLV_ERR t)))
  let s := if intlvErr then s.raise (s.srcTile t p) 1 0x08 0 else s
  let s := s.modTile t fun x => { x with
    intlvEnter := ((wantsIntlv && !intlvErr) || x.intlvEnter) && s.sget (R.TILE_ADC_CTRL_INTLV_EN t) = 1 &&
      s.sget (R.TILE_ADC_CTRL_RUN t) = 1 }
  let s := (if late then s else s.inputEffects s0 t).suspSync t
  s.commitDone p ((inputLate t).any fun a => s.waits a)

/-- INTLV_ENTRY (R110): at the end of the running pass. A trigger that has come meanwhile starts no pass. -/
def execIntlvEntry (t : Fin 32) (s : State) : Host.Outcome State Fault Refusal :=
  if (s.tile t).intlvEnter && !s.passActive t then
    let s := (((s.passClose t).inputApply t).finishCommit (.input t)).abortProc t 4
    let s := s.flushTile t
    let s := s.modTile t fun x => { x with
      intlvEnter := false, passRun := false, passEnd := 0, passFrom := 0, intlvSeq := 0, decs := seqRestart x.decs }
    let s := (s.putB (R.TILE_ADC_STAT_RUNNING t) false).putB (R.TILE_ADC_STAT_INTLV_ACT t) true
    let s := s.put (R.TILE_ADC_SETTLECNT_INTLV_COUNT t) (max 64 (s.get (R.TILE_ADC_SETTLECNT_INTLV_COUNT t)))
    .next ((s.correctSkew t).suspSync t)
  else .next s

/-- A pass has ended: its words leave (R117), and what a commit left waiting takes effect (R89). -/
def State.passBoundary (s : State) (t : Nat) : State :=
  let s := s.passClose t
  if (inputLate t).any fun a => s.waits a then (s.inputApply t).finishCommit (.input (Fin.ofNat 32 t)) else s

/-- PASS_BOUNDARY_APPLY (R89): the running pass has ended. -/
def execPassBoundaryApply (t : Fin 32) (s : State) : Host.Outcome State Fault Refusal :=
  if s.passActive t then .next s else .next (s.passBoundary t)

/-- SEQ_PASS (R86, R87, R89): one whole pass, at the grid instant that R86 and R87 give; the pass before it ends first, which may be in
the same nanosecond, and what a commit left waiting takes effect. In triggered mode it needs the trigger that ADC_TRIGGER
accepted. -/
def execSeqPass (t : Fin 32) (convs : List Conv) (s : State) : Host.Outcome State Fault Refusal :=
  let s := if s.passActive t && (s.passStart t).isNone then s else s.passBoundary t
  match s.passStart t with
  | some u =>
    if s.bit (R.TILE_ADC_STAT_RUNNING t) && (!s.bit (R.TILE_ADC_CTRL_MODE t) || (s.tile t).passRun) &&
        !(s.tile t).intlvEnter then
      let s := (s.syncSets t).trigSource (0x240 + t)
      let s := State.passSlots t (passConvs (s.seqLen t) convs) 0 u s
      .next (s.modTile t fun x => { x with
        passNo := (x.passNo + 1) % 32, passRun := false, passEnd := u + s.tAct t, passFrom := u + s.tAct t })
    else .next s
  | none => .next s

end Sys2Proof.Machine
end

