-- ==== Sys2Proof/Machine/Mem.lean ====
section
/-! DEFINITION. The memories (R224 to R232): bytes, physical accesses with their error responses (R225, R228, R230), contexts
and page tables (R233 to R238) and the TLBs (R239, R240). Memory that nothing has written reads 0 (assumption log 14). -/

namespace Sys2Proof.Machine

/-! ### Bytes -/

/-- What an unlisted address of a memory reads as (assumption log 14). -/
def memZero (_ : Nat) : Byte := 0

/-- A memory is in canonical form: addresses strictly rising, no entry equal to what an unlisted address reads as. -/
abbrev memWf (m : List Host.Cell) : Prop := tblWf memZero m = true

/-- One byte. -/
def memByte (m : List Host.Cell) (a : Nat) : Byte := tblGet memZero m a

/-- `n` bytes from `a` on. -/
def memRead (m : List Host.Cell) : Nat → Nat → List Byte
  | 0, _ => []
  | n + 1, a => memByte m a :: memRead m n (a + 1)

/-- Write bytes from `a` on. -/
def memWrite (m : List Host.Cell) : Nat → List Byte → List Host.Cell
  | _, [] => m
  | a, b :: t => memWrite (tblSet memZero m a b) (a + 1) t

/-! ### The memories -/

/-- Bytes of an engine's data memory (R171). -/
def State.dataRead (s : State) (e a n : Nat) : List Byte := memRead s.mem.loc n (e * 0x10000 + a)
def State.dataWrite (s : State) (e a : Nat) (bs : List Byte) : State :=
  { s with mem := { s.mem with loc := memWrite s.mem.loc (e * 0x10000 + a) bs } }

def State.sramRead (s : State) (a n : Nat) : List Byte := memRead s.mem.sram n a
def State.sramWrite (s : State) (a : Nat) (bs : List Byte) : State :=
  { s with mem := { s.mem with sram := memWrite s.mem.sram a bs } }

def State.dramRead (s : State) (a n : Nat) : List Byte := memRead s.mem.dram n a
def State.dramWrite (s : State) (a : Nat) (bs : List Byte) : State :=
  { s with mem := { s.mem with dram := memWrite s.mem.dram a bs } }

/-- Instruction memory, written by a load or a reload only (R171). -/
def State.imemWrite (s : State) (e a : Nat) (bs : List Byte) : State :=
  { s with mem := { s.mem with imem := memWrite s.mem.imem (e * 0x8000 + a) bs } }

/-- The device writes host memory (R232). -/
def State.hostWrite (s : State) (a : Nat) (bs : List Byte) : State :=
  { s with mem := { s.mem with
    hostOut := memWrite s.mem.hostOut a bs, hostOwn := memWrite s.mem.hostOwn a (bs.map fun _ => 1) } }

/-- A byte of host memory as the device reads it, coherently (R226, R232): what the device wrote last, unless the host has written
it since; else what the host answers (assumption log 4). -/
def State.hostSeen (s : State) (a : Nat) : Byte :=
  if memByte s.mem.hostOwn a = 1 && !Config.hostWrote a s.free then memByte s.mem.hostOut a else Config.hostByte a s.free

/-- The device reads host memory, which is outside the block. -/
def State.hostRead (s : State) (a n : Nat) : List Byte × State :=
  ((List.range n).map fun i => s.hostSeen (a + i), { s with free := s.free + 1 })

/-! ### DRAM channels (R227 to R230) -/

/-- The channel of a DRAM offset (R227). -/
def dramChannel (o : Nat) : Nat := o / 1024 % 4
/-- Its channel address (R227). -/
def dramAddress (o : Nat) : Nat := o / 4096 * 1024 + o % 1024

/-- The tweak of the line at a channel address (R229). -/
def lineTweak (ch addr : Nat) : Nat := ch * 2 ^ 26 + addr / 64

/-- The DRAM offset of a channel address below 0xF000_0000 (R227). -/
def dramOffset (ch addr : Nat) : Nat := addr / 1024 * 4096 + ch * 1024 + addr % 1024

/-- A channel is out of service (R230). -/
def State.chLost (s : State) (c : Nat) : Bool := s.getIdx R.MEM_STAT_CH_LOST c

/-- A corrected error (R228): counted, and a class 1 fault. -/
def State.eccCorrected (s : State) (ch : Nat) : State :=
  ((s.bump R.MEM_ECC_CNT_COUNT).event .mem 2).raise (s.srcDev 0x11) 1 0x30 ch

/-- An uncorrectable error on a read (R228): its place recorded, and a class 2 fault. `area` is 1 outside the DRAM space. -/
def State.eccUncorrectable (s : State) (ch addr area : Nat) : State :=
  let s := ((s.bump R.MEM_UE_CNT_COUNT).put R.MEM_UE_ADDR addr).put R.MEM_UE_INFO_CH ch
  ((s.put R.MEM_UE_INFO_AREA area).event .mem 3).raise (s.srcDev 0x11) 2 0x31 ch

/-- What an ECC check of a DRAM read found (R228): the state after it, and whether the read fails. -/
def State.eccCheck (s : State) (o : Nat) (found : EccOutcome) : State × Bool :=
  match found with
  | .clean => (s, false)
  | .corrected => (s.eccCorrected (dramChannel o), false)
  | .uncorrectable => (s.eccUncorrectable (dramChannel o) (dramAddress o) 0, true)

/-! ### Physical accesses (R224, R225) -/

/-- What the LPDDR5X holds for the line at a channel address of the DRAM space: its 64 bytes under XTS-AES-256 with the memory key
(R229). Every access through the controller reads and writes them decrypted. -/
def State.storedLine (s : State) (ch addr : Nat) : Option Nat :=
  s.mem.key.map fun k =>
    Config.digest 0xAE5 (k :: lineTweak ch addr :: (s.dramRead (dramOffset ch (addr / 64 * 64)) 64).map (·.toNat))

/-- What a physical access meets before it is made. -/
inductive PhysKind where
  | ok | bus | link
deriving DecidableEq, Repr


/-- R225 and R230: an access of `n` bytes, at most 1,024, at an offset of a space other than REG; it touches the channels of its
first and its last byte. -/
def State.physCheck (s : State) (sp off n : Nat) : PhysKind :=
  if sp = 0 then if 0x800000 < off + n || 0x10000 < off % 0x10000 + n || 0xF000 < off % 0x10000 + n then .bus else .ok
  else if sp = 1 then
    let base := s.get R.MEM_CTX_BASE * 0x10000
    if 0x800000 < off + n || (base < off + n && off < base + 0x10000) then .bus else .ok
  else if sp = 2 then
    if 0x3C0000000 < off + n || s.chLost (dramChannel off) || s.chLost (dramChannel (off + (n - 1))) then .bus else .ok
  else if sp = 3 then if s.hostReady then .ok else .link
  else .bus

/-- Read `n` bytes of a space other than REG. -/
def State.physRead (s : State) (sp off n : Nat) : List Byte × State :=
  if sp = 0 then (memRead s.mem.loc n off, s)
  else if sp = 1 then (s.sramRead off n, s)
  else if sp = 2 then (s.dramRead off n, s)
  else s.hostRead off n

/-- Write bytes to a space other than REG. -/
def State.physWrite (s : State) (sp off : Nat) (bs : List Byte) : State :=
  if sp = 0 then { s with mem := { s.mem with loc := memWrite s.mem.loc off bs } }
  else if sp = 1 then s.sramWrite off bs
  else if sp = 2 then s.dramWrite off bs
  else s.hostWrite off bs

/-- The 64-byte lines that `n` bytes from `off` on touch. -/
def linesOf (off n : Nat) : Nat := if n = 0 then 0 else (off + n - 1) / 64 + 1 - off / 64

/-- The memory events of an access of `n` bytes (R448): one for each 64-byte DRAM line, one for a HOST access. -/
def State.memEvents (s : State) (sp off n : Nat) (write : Bool) : State :=
  if sp = 2 then s.events .mem (if write then 1 else 0) (linesOf off n)
  else if sp = 3 && n != 0 then s.event .mem 4
  else s

/-! ### Translation (R233 to R239) -/

/-- A table read of 8 bytes; none where it meets an error response (R237, WALK_BUS). -/
def State.tableRead (s : State) (sp off : Nat) : Option Nat :=
  if sp = 1 then if 0x800000 < off + 8 then none else some (fromLe (s.sramRead off 8))
  else if 0x3C0000000 < off + 8 || s.chLost (dramChannel off) then none else some (fromLe (s.dramRead off 8))

/-- Bits `hi` down to `lo` of a number. -/
def natBits (v hi lo : Nat) : Nat := v / 2 ^ lo % 2 ^ (hi + 1 - lo)

/-- The level-1 or level-2 entry of a leaf gives a page of `2 ^ sz` bytes (R237), if its space and rights allow the access. -/
def leafEntry (e sz asid va : Nat) (ro write : Bool) : Except Nat TlbEnt :=
  let w := e.testBit 3 && !ro
  if 4 < natBits e 55 52 then .error 6
  else if (if write then !w else !e.testBit 2) then .error 7
  else .ok { asid := asid, size := sz, page := va / 2 ^ sz,
             base := natBits e 55 52 * 2 ^ 52 + natBits e 51 12 * 2 ^ 12 / 2 ^ sz * 2 ^ sz,
             glob := e.testBit 5, r := e.testBit 2, w := w }

/-- The walk of R237: the entry it finds, or the cause code of R238. -/
def State.walk (s : State) (asid va : Nat) (write : Bool) : Except Nat TlbEnt :=
  let c := s.get R.MEM_CTX_BASE * 0x10000 + 16 * asid
  if !s.bit R.MEM_CTX_BASE_EN then .error 2
  else if 0x800000 < c + 16 then .error 8
  else
    let ce := fromLe (s.sramRead c 16)
    let vasz := natBits ce 69 64
    let sp1 := natBits ce 55 52
    if !ce.testBit 0 || vasz < 32 || 48 < vasz || natBits ce 11 1 != 0 || natBits ce 63 56 != 0 ||
        natBits ce 71 70 != 0 || natBits ce 127 73 != 0 || !(sp1 = 1 || sp1 = 2) then .error 2
    else if va / 2 ^ vasz != 0 then .error 1
    else
      match s.tableRead sp1 (natBits ce 51 12 * 4096 + 8 * (va / 2 ^ 21)) with
      | none => .error 8
      | some e1 =>
        if !e1.testBit 0 then .error 3
        else if natBits e1 11 6 != 0 || natBits e1 63 56 != 0 || e1.testBit 4 then .error 5
        else if e1.testBit 1 then
          let sp2 := natBits e1 55 52
          if !(sp2 = 1 || sp2 = 2) then .error 5
          else
            match s.tableRead sp2 (natBits e1 51 12 * 4096 + 8 * (va / 2 ^ 12 % 512)) with
            | none => .error 8
            | some e2 =>
              if !e2.testBit 0 then .error 4
              else if natBits e2 11 6 != 0 || natBits e2 63 56 != 0 || e2.testBit 1 then .error 5
              else leafEntry e2 (if e2.testBit 4 then 16 else 12) asid va (ce.testBit 72) write
        else leafEntry e1 21 asid va (ce.testBit 72) write

/-- The DRAM offset of the first table read of a walk that lies in DRAM and is made, if there is one (R228, R237). -/
def State.walkDram (s : State) (asid va : Nat) : Option Nat :=
  let c := s.get R.MEM_CTX_BASE * 0x10000 + 16 * asid
  let ce := fromLe (s.sramRead c 16)
  let read := fun sp off : Nat => if sp = 2 && (s.tableRead 2 off).isSome then some off else none
  match s.walk asid va false with
  | .error 1 => none
  | .error 2 => none
  | _ =>
    if 0x800000 < c + 16 then none
    else
      let sp1 := natBits ce 55 52
      let o1 := natBits ce 51 12 * 4096 + 8 * (va / 2 ^ 21)
      match read sp1 o1 with
      | some o => some o
      | none =>
        match s.tableRead sp1 o1 with
        | none => none
        | some e1 =>
          if e1.testBit 0 && natBits e1 11 6 = 0 && natBits e1 63 56 = 0 && !e1.testBit 4 && e1.testBit 1 then
            read (natBits e1 55 52) (natBits e1 51 12 * 4096 + 8 * (va / 2 ^ 12 % 512))
          else none

/-- A TLB entry covers a virtual address of an ASID and allows the access; one that does not allow it is walked again
(assumption log 15). -/
def TlbEnt.hits (x : TlbEnt) (asid va : Nat) (write : Bool) : Bool :=
  (x.glob || x.asid = asid) && x.page = va / 2 ^ x.size && (if write then x.w else x.r)

/-- The entries that a TLB holds: 48 of an engine, 64 of a DMA unit (R239). -/
def tlbSize (key : Nat) : Nat := if key < 128 then 48 else 64

def State.tlb (s : State) (key : Nat) : List TlbEnt := tblGet (fun _ => []) s.mem.tlbs key
def State.setTlb (s : State) (key : Nat) (l : List TlbEnt) : State :=
  { s with mem := { s.mem with tlbs := tblSet (fun _ => []) s.mem.tlbs key l } }

/-- A walk counts in CL_TLB_MISS or DMA_TLB_MISS (R259, R260). -/
def State.countWalk (s : State) (key : Nat) : State :=
  if key < 128 then (s.bump (R.CL_TLB_MISS_COUNT (key / 8))).event (.engine (Fin.ofNat 128 key)) 7
  else s.bump (R.DMA_TLB_MISS_COUNT (key - 128))

/-- The TLB entry that an access uses. -/
def State.tlbHit (s : State) (key asid va : Nat) (write : Bool) : Option TlbEnt :=
  (s.tlb key).find? fun x => s.bit R.MEM_CTX_BASE_EN && x.hits asid va write

/-- A translation reads a table in DRAM. -/
def State.walkReads (s : State) (key asid va : Nat) (write : Bool) : Bool :=
  (s.tlbHit key asid va write).isNone && (s.walkDram asid va).isSome

/-- What the ECC finds at the access itself, where `found` is what it finds at the first DRAM read: a walk's table read comes
before it (R228, R237). -/
def State.leftFound (s : State) (key asid va : Nat) (write : Bool) (found : EccOutcome) : EccOutcome :=
  if s.walkReads key asid va write then .clean else found

/-- Translate through the TLB of `key` (R237, R239): the physical address, or a cause code; the entry used becomes the most
recently used one, and the least recently used one leaves a full TLB. A table read that meets an uncorrectable error ends the walk
with WALK_BUS (R228, R257). -/
def State.translate (s : State) (key asid va : Nat) (write : Bool) (found : EccOutcome := .clean) : State × Except Nat Nat :=
  let l := s.tlb key
  match s.tlbHit key asid va write with
  | some x => (s.setTlb key (x :: l.erase x), .ok (x.base + va % 2 ^ x.size))
  | none =>
    let at_ := s.walkDram asid va
    let out := if at_.isSome && found = .uncorrectable then .error 8 else s.walk asid va write
    let s := s.countWalk key
    let s := match at_ with
      | none => s
      | some o => (s.eccCheck o found).1
    match out with
    | .error c => (s, .error c)
    | .ok x =>
      let keep := l.filter fun y => !(y.page = x.page && y.size = x.size && (y.glob || y.asid = asid))
      (s.setTlb key (x :: keep.take (tlbSize key - 1)), .ok (x.base + va % 2 ^ x.size))

/-! ### Invalidation (R240) -/

/-- What an invalidation removes. -/
inductive TlbiOp where
  | all
  | asid (a : Nat)
  | vaAsid (a va : Nat)
  | vaAll (va : Nat)
deriving DecidableEq, Repr

/-- Whether an operation removes an entry (R240). -/
def TlbEnt.removed (x : TlbEnt) : TlbiOp → Bool
  | .all => true
  | .asid a => x.asid = a && !x.glob
  | .vaAsid a va => x.page = va / 2 ^ x.size && (x.asid = a || x.glob)
  | .vaAll va => x.page = va / 2 ^ x.size

/-- The TLBs that a scope selects. -/
def tlbKeys : TlbScope → List Nat
  | .all => List.range 144
  | .cluster c t => ((List.range 8).filter t.getLsbD).map (8 * c.val + ·) ++ if t.getLsbD 8 then [128 + c.val] else []

/-- The BUSY bit of a scope's page. -/
def tlbBusy : TlbScope → Field
  | .all => R.MEM_TLBI_BUSY
  | .cluster c _ => R.CL_TLBI_BUSY c.val

/-- The page that a scope's invalidation is started through. -/
def tlbPage : TlbScope → Page
  | .all => .mem
  | .cluster c _ => .cluster c

/-- GO of an invalidation (R240): the entries are removed and BUSY reads 1; ignored while BUSY reads 1. -/
def State.tlbi (s : State) (sc : TlbScope) (op : TlbiOp) : State :=
  if s.bit (tlbBusy sc) then s
  else
    let s := (tlbKeys sc).foldl (fun s k => s.setTlb k ((s.tlb k).filter fun x => !x.removed op)) s
    let s := match sc with
      | .all => s
      | .cluster c _ => s.event (.cluster c) 2
    s.putB (tlbBusy sc) true

/-- An invalidation completes (R240). -/
def State.tlbiEnd (s : State) (sc : TlbScope) : State :=
  if s.bit (tlbBusy sc) then (s.putB (tlbBusy sc) false).done (tlbPage sc) else s

end Sys2Proof.Machine
end

