-- ==== Sys2Proof/Machine/Pers.lean ====
section
/-! DEFINITION. What the bytes of a personality stream say (R321 to R326): the header, the section table, and the layout checks of
R330; every field is little-endian (R6). -/

namespace Sys2Proof.Machine

/-- The cells of `n` bytes of a memory from `a` on, counted from `a`. -/
def cellSlice (m : List Host.Cell) (a n : Nat) : List Host.Cell :=
  (m.filter fun c => a ≤ c.1 && c.1 < a + n).map fun c => (c.1 - a, c.2)

/-- Bytes as the cells of a memory whose unlisted bytes are 0. -/
def cellsOf (bs : List Byte) : List Host.Cell := memWrite [] 0 bs

/-- Two ranges of bytes, given by offset and length, share a byte. -/
def rangesMeet (a b : Nat × Nat) : Bool := a.1 < b.1 + b.2 && b.1 < a.1 + a.2

/-- Some two ranges of a list share a byte. -/
def anyOverlap : List (Nat × Nat) → Bool
  | [] => false
  | a :: t => t.any (rangesMeet a) || anyOverlap t

/-- Some value of a list comes twice. -/
def anyTwice : List Nat → Bool
  | [] => false
  | a :: t => t.contains a || anyTwice t

end Sys2Proof.Machine

namespace Sys2Proof

open Machine

/-- The number that `n` bytes from `off` on hold. -/
def PersStream.num (x : PersStream) (off n : Nat) : Nat := fromLe (memRead x.bytes n off)

/-- The bytes from `a` up to `b` are zero. -/
def PersStream.zero (x : PersStream) (a b : Nat) : Bool := x.bytes.all fun c => c.1 < a || b ≤ c.1 || c.2 = 0

/-! ### The header (R321) -/

def PersStream.stepMask (x : PersStream) : BitVec 16 := BitVec.ofNat 16 (x.num 10 2)
def PersStream.ndev (x : PersStream) : Nat := x.num 12 1
def PersStream.bind (x : PersStream) : Nat := x.num 13 1
def PersStream.reload (x : PersStream) : Bool := (x.num 14 2).testBit 0
def PersStream.totalLen (x : PersStream) : Nat := x.num 16 8
def PersStream.trailerOff (x : PersStream) : Nat := x.num 24 8
def PersStream.trailerLen (x : PersStream) : Nat := x.num 32 4
def PersStream.ownerSlot (x : PersStream) : Nat := x.num 36 4
/-- BUILD_ID, free for the builder. -/
def PersStream.buildId (x : PersStream) : Nat := x.num 40 32
/-- SERIAL of each chain position. -/
def PersStream.serials (x : PersStream) : List Nat := (List.range 8).map fun p => x.num (128 + 16 * p) 16
/-- SIG_LEN of the trailer (R325). -/
def PersStream.sigLen (x : PersStream) : Nat := x.num x.trailerOff 4
/-- The signed range: the header and the section table (R325). -/
def PersStream.signed (x : PersStream) : List Byte := memRead x.bytes (4096 + 1024 * x.ndev) 0
/-- SHA-256 (assumption log 6). -/
def sha256 (bs : List Byte) : Nat := Config.digest 0x256 (bs.map (·.toNat)) % 2 ^ 256
/-- The personality digest: SHA-256 of the signed range (R325). -/
def PersStream.digest (x : PersStream) : Nat := sha256 x.signed

/-- MAGIC "FDPS", FMT_VER 1, FAMILY 0x0F0D and DEVICE 0x8128 (check 1 of R330). -/
def PersStream.idOk (x : PersStream) : Bool :=
  x.num 0 4 = 0x53504446 && x.num 4 2 = 0x0001 && x.num 6 2 = 0x0F0D && x.num 8 2 = 0x8128

/-! ### The section table (R322, R323) -/

/-- Where entry `j` stands, and whether it is used: an unused entry is all zero. -/
def entryAt (j : Nat) : Nat := 4096 + 64 * j
def PersStream.used (x : PersStream) (j : Nat) : Bool := !x.zero (entryAt j) (entryAt j + 64)

/-- OFFSET, LEN, TYPE, TARGET, payload and HASH of an entry. -/
def PersStream.entOff (x : PersStream) (j : Nat) : Nat := x.num (entryAt j) 8
def PersStream.entLen (x : PersStream) (j : Nat) : Nat := x.num (entryAt j + 8) 4
def PersStream.entTyp (x : PersStream) (j : Nat) : Nat := x.num (entryAt j + 12) 1
def PersStream.entTarget (x : PersStream) (j : Nat) : Nat := x.num (entryAt j + 14) 2
def PersStream.entPayload (x : PersStream) (j : Nat) : List Byte := memRead x.bytes (x.entLen j) (x.entOff j)
/-- SHA-256 values as the number that their bytes hold. -/
def PersStream.entHash (x : PersStream) (j : Nat) : Nat := x.num (entryAt j + 32) 32

/-- The used entries, in order. -/
def PersStream.entries (x : PersStream) : List Nat := (List.range (16 * x.ndev)).filter x.used

/-- The section of an entry. What a FABRIC section says in the fabric's own format comes with the stream (assumption log 21). -/
def PersStream.sectionAt (x : PersStream) (j : Nat) : Section :=
  let cfg : RegionCfg := (x.chk.fabric.find? fun c => c.entry = j).getD {}
  { pos := j / 16, typ := x.entTyp j, target := x.entTarget j, payload := x.entPayload j
    hashOk := x.entHash j = sha256 (x.entPayload j), safe := cfg.safe, counters := cfg.counters, routes := cfg.routes }

/-- The sections of the stream. -/
def PersStream.sections (x : PersStream) : List Section := x.entries.map x.sectionAt

/-! ### The layout (check 3 of R330) -/

/-- A reserved field, a length or an alignment of the header or the trailer is wrong (R321, R325). -/
def PersStream.headerBad (x : PersStream) : Bool :=
  x.ndev = 0 || 8 < x.ndev || 2 ≤ x.bind || 2 ≤ x.num 14 2 || 0x20000000 < x.totalLen || x.trailerOff % 64 != 0 ||
    x.trailerLen % 64 != 0 || x.totalLen != x.trailerOff + x.trailerLen || 4 ≤ x.ownerSlot || !x.zero 72 128 || !x.zero 256 4096 ||
    !x.zero (if x.bind = 0 then 128 else 128 + 16 * x.ndev) 256 || x.trailerOff < 4096 + 1024 * x.ndev ||
    x.trailerLen < 4 + x.sigLen || !x.zero (x.trailerOff + 4 + x.sigLen) x.totalLen

/-- An entry's reserved bytes, alignment, place, type or target is wrong (R322, R323). In a reload image the TARGET of a TILE_CFG or
ENGINE section names a unit (R326). -/
def PersStream.entryBad (x : PersStream) (j : Nat) : Bool :=
  let ty := x.entTyp j
  x.entOff j % 64 != 0 || x.entLen j = 0 || !x.zero (entryAt j + 13) (entryAt j + 14) || !x.zero (entryAt j + 16) (entryAt j + 32) ||
    x.entOff j < 4096 + 1024 * x.ndev || x.trailerOff < x.entOff j + x.entLen j || ty = 0 || 7 < ty ||
    (ty = 1 && (x.entTarget j < 0x300 || 0x308 ≤ x.entTarget j || 0x400000 < x.entLen j)) ||
    (ty != 1 && x.entTarget j != 0xFFFF && !(x.reload && (ty = 2 || ty = 4)))

/-- One position has more sections of a kind than R323 allows, or more than 64 MiB of them. -/
def PersStream.positionBad (x : PersStream) (p : Nat) : Bool :=
  let es := x.entries.filter fun j => j / 16 = p
  anyTwice ((es.filter fun j => x.entTyp j != 1 && x.entTyp j != 5).map x.entTyp) ||
    anyTwice ((es.filter fun j => x.entTyp j = 1).map x.entTarget) || 0x4000000 < es.foldl (fun n j => n + x.entLen j) 0

/-- BAD_LAYOUT by check 3 of R330. -/
def PersStream.layoutBad (x : PersStream) : Bool :=
  x.headerBad || x.entries.any x.entryBad || anyOverlap (x.entries.map fun j => (x.entOff j, x.entLen j)) ||
    (List.range x.ndev).any x.positionBad

end Sys2Proof
end

