-- ==== Sys2Proof/Machine/EngOps.lean ====
section
/-! DEFINITION. The engine as a unit (chapter 07): the input buffer (R174), invocations and levels (R173, R175, R182), the
context save area (R200), service states (R181) and the commands of the engine and cluster pages (R203, R251). -/

namespace Sys2Proof.Machine

/-! ### Status -/

/-- The engine's source page. -/
def engP (e : Nat) : Page := .engine (Fin.ofNat 128 e)

/-- ENG_STAT shows what the engine holds (R203). -/
def State.syncEng (s : State) (e : Nat) : State :=
  let x := s.eng e
  let idle := x.queue.isEmpty && x.run.isNone && x.saved.isEmpty
  let halted := s.bit (R.ENG_STAT_HALTED e)
  let issuing := match x.run with
    | some i => !halted && !(x.susp && x.suspLvl = i.pri)
    | none => false
  let pris := x.queue.foldl (fun m i => m ||| 2 ^ i.pri) 0
  let lvls := x.saved.foldl (fun m l => m ||| 2 ^ l.1) 0
  let s := (s.putB (R.ENG_STAT_IDLE e) idle).putB (R.ENG_STAT_RUNNING e) issuing
  let s := (s.put (R.ENG_STAT_PENDING e) pris).put (R.ENG_STAT_PREEMPTED e) lvls
  let s := match x.run with
    | some i => s.put (R.ENG_STAT_RUN_PRI e) i.pri
    | none => s
  s.put (R.ENG_PC e) x.regs.pc

/-- The engine's domain and its cluster's are on (R12). -/
def State.engReady (s : State) (e : Nat) : Bool := s.domReady (domEngine e) && s.domOn (domCluster (e / 8))

/-- User invocations are dispatched (R181). -/
def State.engDispatches (s : State) (e : Nat) : Bool :=
  let st := s.get (R.ENG_STAT_STATE e)
  st = 1 || (st = 3 && s.bit (R.ENG_CFG_RUN_RECOVER e))

/-- Invocations may start and change: powered, neither contained nor halted, and the device not in class 4 (R203, R436, R438). -/
def State.engLive (s : State) (e : Nat) : Bool :=
  s.engReady e && !s.bit (R.ENG_STAT_CONTAINED e) && !s.bit (R.ENG_STAT_HALTED e) && !s.bit R.FLT_STAT_C4

/-! ### The input buffer (R174) -/

/-- The committed ENG_INBUF in multiples of 64. -/
def State.inbufBase (s : State) (e : Nat) : Nat := s.get (R.ENG_INBUF_BASE e) / 64 * 64
def State.inbufSize (s : State) (e : Nat) : Nat := s.get (R.ENG_INBUF_SIZE e) / 64 * 64

/-- Where an item of `need` bytes goes: behind the last one, or at BASE where the tail is too short; none while an item in the
buffer is in the way. -/
def EngSt.alloc (x : EngSt) (need size : Nat) : Option Nat :=
  let pos := if x.wr + need ≤ size then x.wr else 0
  if size < need || x.slots.any fun l => l.1 < pos + need && pos < l.1 + l.2 then none else some pos

/-- ENG_INBUF may take items: no commit of it waits (R174). -/
def State.inbufOpen (s : State) (e : Nat) : Bool := !s.waits (R.ENG_INBUF_BASE e).addr

/-- An accepted item that the committed SIZE never holds shows in INBUF_SMALL (R174). -/
def State.inbufSmall (s : State) (e : Nat) : State :=
  s.putB (R.ENG_STAT_INBUF_SMALL e) (s.sched.flights.any fun f =>
    f.item.tag.dst = s.unitId (0x100 + e) && f.phase = .waiting && s.inbufSize e < footprint f.item.tag.len)

/-- A committed ENG_INBUF takes effect once no delivered item remains in the buffer (R174). -/
def State.inbufApply (s : State) (e : Nat) : State :=
  if !s.inbufOpen e && (s.eng e).slots.isEmpty then
    let s := (s.applyWait (R.ENG_INBUF_BASE e).addr).modEng e fun x => { x with wr := 0 }
    let s := s.commitsUp (engPage e)
    (s.inbufSmall e).pend (engP e) irqCommit
  else s

/-- Whether items for handler `h` are delivered at all now (R174, R181, R204). -/
def State.engTakes (s : State) (e h : Nat) : Bool :=
  s.engLive e && s.engDispatches e && s.bit (R.ENG_HANDLER_EN e h) && s.inbufOpen e

/-- The buffer has room for an item (R174). -/
def State.engRoom (s : State) (e : Nat) (it : Item) : Bool := ((s.eng e).alloc (footprint it.tag.len) (s.inbufSize e)).isSome

/-- A level stands above every pre-empted one and every pending one, while something is pre-empted: what is queued at it starts
first (R175, R202). -/
def EngSt.aboveAll (x : EngSt) (pri : Nat) : Bool :=
  !x.saved.isEmpty && (x.saved.all fun l => l.1 < pri) && x.queue.all fun i => i.pri < pri

/-- Delivery of an item (R173, R174): its tag and payload are written into ENG_INBUF, and an invocation of the handler is
queued with the handler entry as it stands. -/
def State.engDeliver (s : State) (e h : Nat) (it : Item) : State :=
  let need := footprint it.tag.len
  match (s.eng e).alloc need (s.inbufSize e) with
  | none => s
  | some pos =>
    let addr := s.inbufBase e + pos
    let s := s.dataWrite e addr (tagBytes it.tag ++ it.payload)
    let i : Inv := { stream := it.tag.stream, seq := it.tag.seq, handler := h, pri := s.get (R.ENG_HANDLER_PRI e h)
                     entry := s.get (R.ENG_HANDLER_ENTRY e h), addr := addr, len := it.tag.len
                     flags := it.tag.flags, ctx := it.tag.ctx, queued := s.time
                     pre := (s.eng e).run.isNone && (s.eng e).aboveAll (s.get (R.ENG_HANDLER_PRI e h)) }
    let s := s.modEng e fun x => { x with queue := x.queue ++ [i], slots := x.slots ++ [(pos, need)], wr := pos + need }
    s.syncEng e

/-- The space of an item is freed (R174). -/
def State.inbufFree (s : State) (e : Nat) (i : Inv) : State :=
  let base := s.inbufBase e
  s.modEng e fun x => { x with slots := x.slots.filter fun l => base + l.1 != i.addr }

/-! ### Registers by number -/

def EngRegs.gR (r : EngRegs) (k : Nat) : Word := tblGet (fun _ => 0) r.g k
def EngRegs.pR (r : EngRegs) (k : Nat) : BitVec 48 := tblGet (fun _ => 0) r.p k
def EngRegs.mR (r : EngRegs) (k : Nat) : Word := tblGet (fun _ => 0) r.m k
def EngRegs.lR (r : EngRegs) (k : Nat) : BitVec 24 := tblGet (fun _ => 0) r.l k
def EngRegs.lstR (r : EngRegs) (k : Nat) : BitVec 24 × Bool := tblGet (fun _ => (0, false)) r.lst k
def EngRegs.bR (r : EngRegs) (k : Nat) : BitVec 48 := tblGet (fun _ => 0) r.b k
def EngRegs.accR (r : EngRegs) (k : Nat) : Accum := tblGet (fun _ => {}) r.acc k
def EngRegs.wselR (r : EngRegs) (k : Nat) : Word := tblGet (fun _ => 31) r.wsel k
def EngRegs.setG (r : EngRegs) (k : Nat) (v : Word) : EngRegs := { r with g := tblSet (fun _ => 0) r.g k v }
def EngRegs.setP (r : EngRegs) (k : Nat) (v : BitVec 48) : EngRegs := { r with p := tblSet (fun _ => 0) r.p k v }
def EngRegs.setM (r : EngRegs) (k : Nat) (v : Word) : EngRegs := { r with m := tblSet (fun _ => 0) r.m k v }
def EngRegs.setL (r : EngRegs) (k : Nat) (v : BitVec 24) : EngRegs := { r with l := tblSet (fun _ => 0) r.l k v }
def EngRegs.setLst (r : EngRegs) (k : Nat) (v : BitVec 24 × Bool) : EngRegs :=
  { r with lst := tblSet (fun _ => (0, false)) r.lst k v }
def EngRegs.setB (r : EngRegs) (k : Nat) (v : BitVec 48) : EngRegs := { r with b := tblSet (fun _ => 0) r.b k v }
def EngRegs.setAcc (r : EngRegs) (k : Nat) (v : Accum) : EngRegs := { r with acc := tblSet (fun _ => {}) r.acc k v }
def EngRegs.setWsel (r : EngRegs) (k : Nat) (v : Word) : EngRegs := { r with wsel := tblSet (fun _ => 31) r.wsel k v }

/-! ### The context save area (R200) -/

/-- The words of `n` registers. -/
def words (n k : Nat) (f : Nat → Nat) : List Byte := (List.range n).flatMap fun i => leBytes k (f i)

/-- The 0x36C bytes that a save writes. -/
def contextBytes (r : EngRegs) (handler pri : Nat) : List Byte :=
  words 64 4 (fun i => (r.gR i).toNat) ++ words 16 8 (fun i => (r.pR i).toNat) ++ words 16 8 (fun i => (r.bR i).toNat) ++
    words 16 4 (fun i => (r.mR i).toNat) ++ words 16 4 (fun i => (r.lR i).toNat) ++
    words 16 4 (fun i => (r.lstR i).1.toNat + (r.lstR i).2.toNat * 2 ^ 31) ++
    words 8 16 (fun i => (r.accR i).v.toNat + (r.accR i).aov.toNat * 2 ^ 72 + (r.accR i).dir.toNat * 2 ^ 73) ++
    words 4 4 (fun i => (r.wselR i).toNat) ++ leBytes 4 r.bexp.toNat ++ leBytes 4 r.flg.toNat ++
    leBytes 4 (r.pc % 4096 + r.rptOn.toNat * 2 ^ 31) ++ leBytes 4 (r.rptCnt % 8192 + (r.rptLen - 1) % 64 * 2 ^ 16) ++
    leBytes 4 (r.rptStart % 4096 + r.rptPos % 64 * 2 ^ 12) ++ leBytes 4 (handler % 64 + pri % 4 * 64) ++ leBytes 4 0

/-- A table of `n` values, in canonical form. -/
def tblOf {α : Type} [DecidableEq α] (d : Nat → α) (n : Nat) (f : Nat → α) : List (Nat × α) :=
  (List.range n).foldl (fun t i => tblSet d t i (f i)) []

/-- The registers that saved bytes hold. -/
def contextRegs (bs : List Byte) : EngRegs :=
  let at_ := fun off n => fromLe ((bs.drop off).take n)
  { g := tblOf (fun _ => 0) 64 fun i => BitVec.ofNat 32 (at_ (4 * i) 4)
    p := tblOf (fun _ => 0) 16 fun i => BitVec.ofNat 48 (at_ (0x100 + 8 * i) 8)
    b := tblOf (fun _ => 0) 16 fun i => BitVec.ofNat 48 (at_ (0x180 + 8 * i) 8)
    m := tblOf (fun _ => 0) 16 fun i => BitVec.ofNat 32 (at_ (0x200 + 4 * i) 4)
    l := tblOf (fun _ => 0) 16 fun i => BitVec.ofNat 24 (at_ (0x240 + 4 * i) 4)
    lst := tblOf (fun _ => (0, false)) 16 fun i =>
      (BitVec.ofNat 24 (at_ (0x280 + 4 * i) 4), (at_ (0x280 + 4 * i) 4).testBit 31)
    acc := tblOf (fun _ => {}) 8 fun i =>
      { v := BitVec.ofNat 72 (at_ (0x2C0 + 16 * i) 9), aov := (at_ (0x2C9 + 16 * i) 1).testBit 0
        dir := (at_ (0x2C9 + 16 * i) 1).testBit 1 }
    wsel := tblOf (fun _ => 31) 4 fun i => BitVec.ofNat 32 (at_ (0x340 + 4 * i) 4)
    bexp := BitVec.ofNat 32 (at_ 0x350 4)
    flg := BitVec.ofNat 32 (at_ 0x354 4)
    pc := at_ 0x358 4 % 4096
    rptOn := (at_ 0x358 4).testBit 31
    rptCnt := at_ 0x35C 4 % 8192
    rptLen := at_ 0x35C 4 / 2 ^ 16 % 64 + 1
    rptStart := at_ 0x360 4 % 4096
    rptPos := at_ 0x360 4 / 2 ^ 12 % 64 }

/-- The offset of a level's save area (R170). -/
def saveArea (pri : Nat) : Nat := 0xF000 + 0x400 * pri

/-! ### Exceptions (R222) -/

/-- An exception that contains the engine (R222): recorded, and a class 3 fault. -/
def State.engException (s : State) (e code : Nat) : State :=
  let pc := min (s.eng e).regs.pc 4095
  let s := ((s.put (R.ENG_LAST_EXC_CODE e) code).put (R.ENG_LAST_EXC_PC e) pc).event (engP e) 11
  (s.modEng e fun x => { x with half := none }).raise (s.srcEng e) 3 0x20 (code + pc * 256)

/-! ### Invocations and levels (R173, R175, R182) -/

/-- NORMAL is entered (R181). -/
def State.engNormal (s : State) (e : Nat) : State :=
  let s := (s.put (R.ENG_STAT_STATE e) 1).putB (R.ENG_STAT_RMODE e) false
  s.modEng e fun x => { x with tested := false, reloaded := false }

/-- No invocation runs or is pre-empted: the service state may change (R182). -/
def EngSt.still (x : EngSt) : Bool := x.run.isNone && x.saved.isEmpty

/-- A change of state that waits takes place once no invocation runs or is pre-empted (R182): TEST, or NORMAL from RECOVER. -/
def State.engTestDue (s : State) (e : Nat) : State :=
  let x := s.eng e
  if !x.still then s
  else if x.testWant then
    ((s.put (R.ENG_STAT_STATE e) 2).putB (R.ENG_STAT_RMODE e) true).modEng e fun x => { x with testWant := false }
  else if s.get (R.ENG_STAT_STATE e) = 3 && x.tested && x.reloaded then s.engNormal e
  else s

/-! ### Marks of consumed inputs (R19, R200) -/

/-- What a result on stream `k` carries. -/
def MarkSt.get (m : MarkSt) (k : Nat) : Nat :=
  match tblFind m.tab k with
  | some f => f
  | none => m.all

/-- An input with flags `fl` is consumed: it counts for every stream. -/
def MarkSt.into (m : MarkSt) (fl : Nat) : MarkSt := { tab := m.tab.map fun t => (t.1, t.2 ||| fl), all := m.all ||| fl }

/-- A result left on stream `k`. -/
def MarkSt.out (m : MarkSt) (k : Nat) : MarkSt := { m with tab := tblIns m.tab k 0 }

/-- What either carries. -/
def MarkSt.or (a b : MarkSt) : MarkSt :=
  { tab := (a.tab ++ b.tab).foldl (fun t x => tblIns t x.1 (a.get x.1 ||| b.get x.1)) [], all := a.all ||| b.all }

/-- The marks of the pre-empted invocation of a level. -/
def EngSt.keptOf (x : EngSt) (pri : Nat) : MarkSt :=
  match x.kept.find? fun l => l.1 = pri with
  | some l => l.2
  | none => {}

/-- The highest level with an invocation pending. -/
def EngSt.topPending (x : EngSt) : Option Nat :=
  x.queue.foldl (fun m i => match m with
    | none => some i.pri
    | some p => some (max p i.pri)) none

/-- The highest level with a saved context. -/
def EngSt.topSaved (x : EngSt) : Option Nat :=
  x.saved.foldl (fun m l => match m with
    | none => some l.1
    | some p => some (max p l.1)) none

/-- The level that R175 runs next when nothing runs: a pending one only above every pre-empted one. -/
def EngSt.startLevel (x : EngSt) : Option Nat :=
  match x.topPending, x.topSaved with
  | some p, some q => if q < p then some p else none
  | p, _ => p

/-- The queued invocation `i` starts (R173, R184, R19): P14, P15, G62 and G63 are set, SATS clears, and the flags of its input
count for every stream that the program sends on. One that pre-empts another feeds ENG_PRE_MAX (R203). -/
def State.invStart (s : State) (e : Nat) (i : Inv) : State :=
  let fl := i.flags / 2 % 4
  let s := s.modEng e fun x =>
    let r := (x.regs.setP 14 (BitVec.ofNat 48 i.addr)).setP 15 (BitVec.ofNat 48 (i.addr + 32))
    let r := (r.setG 63 (BitVec.ofNat 32 i.len)).setG 62 (BitVec.ofNat 32 i.stream)
    { x with
      queue := x.queue.erase i, run := some i, half := none, iter := 0
      regs := { r with pc := i.entry, flg := r.flg &&& 0xF#32, rptOn := false }
      base := x.marks, marks := x.marks.into fl }
  let s := s.modFlight i.stream i.seq fun f => { f with phase := .running }
  let late := min (s.time - i.queued) 65535
  let s := if !i.pre then s else s.put (R.ENG_PRE_MAX e) (max (s.get (R.ENG_PRE_MAX e)) late)
  s.syncEng e

/-- The first invocation of the highest pending level is marked as pre-empting (R203). -/
def EngSt.markPre (x : EngSt) : EngSt :=
  match x.queue.find? fun i => some i.pri = x.topPending with
  | none => x
  | some i => { x with queue := x.queue.map fun j => if j = i then { j with pre := true } else j }

/-- The context of the running invocation is saved (R198, R200). -/
def State.invSave (s : State) (e : Nat) : State :=
  match (s.eng e).run with
  | none => s
  | some i =>
    let s := s.dataWrite e (saveArea i.pri) (contextBytes (s.eng e).regs i.handler i.pri)
    let s := s.modEng e fun x =>
      ({ x with
        run := none, saved := x.saved ++ [(i.pri, i)], half := none, iter := 0
        kept := x.kept ++ [(i.pri, x.marks)], marks := x.base } : EngSt).markPre
    ((s.bump (R.ENG_PRE_CNT_COUNT e)).event (engP e) 6
      { sub := some i.handler, stream := some i.stream, pri := some i.pri }).syncEng e

/-- The context of a level is restored (R200). -/
def State.invRestore (s : State) (e pri : Nat) : State :=
  match (s.eng e).saved.find? fun l => l.1 = pri with
  | none => s
  | some l =>
    let bs := s.dataRead e (saveArea pri) 0x36C
    let s := s.modEng e fun x => { x with
      run := some l.2, saved := x.saved.filter fun l => l.1 != pri, regs := contextRegs bs, half := none, iter := 0
      base := x.marks, marks := x.keptOf pri, kept := x.kept.filter fun l => l.1 != pri }
    s.syncEng e

/-- Execution stands at a pre-emption point: no slot of a bundle waits, and a REPEAT body stands at an iteration boundary
(R198). Past bundle 4,095 the PC_END fault comes first (R202, R222). -/
def EngSt.atPoint (x : EngSt) : Bool := x.half.isNone && (!x.regs.rptOn || x.regs.rptPos = 0) && x.regs.pc < 4096

/-- Bundles issue: an invocation runs and is not suspended (R175, R250). In class 4 the engine goes on to its next pre-emption
point, where it halts without a save (R438). -/
def State.engIssues (s : State) (e : Nat) : Bool :=
  s.engReady e && !s.bit (R.ENG_STAT_CONTAINED e) && !s.bit (R.ENG_STAT_HALTED e) &&
    !(s.bit R.FLT_STAT_C4 && (s.eng e).atPoint) &&
    match (s.eng e).run with
    | some i => !((s.eng e).susp && (s.eng e).suspLvl = i.pri)
    | none => false

/-- The invocation reached END (R173, R286): its item is executed, its space freed, and the streams of its level are
checkpointed (R275). -/
def State.invEnd (s : State) (e : Nat) : State :=
  match (s.eng e).run with
  | none => s
  | some i =>
    let s := s.inbufFree e i
    let s := s.modEng e fun x => { x with run := none, half := none, iter := 0, marks := x.marks.or x.base }
    let s := ((s.streamsFrom (s.unitId (0x100 + e))).filter fun k => (s.stream k).spri = i.pri).foldl
      (fun s k => s.modStream k fun st => { st with ckpt := st.tx }) s
    let s := ((s.executed i.stream i.seq).bump (R.ENG_INV_CNT_COUNT e)).event (engP e) 5 { sub := some i.handler, stream := some i.stream, pri := some i.pri }
    ((s.engTestDue e).inbufApply e).syncEng e

/-- Every invocation that runs, is pre-empted or is queued leaves the engine; `pred` picks the levels whose streams rewind
(R275, R294). -/
def State.engAbandon (s : State) (e : Nat) : State :=
  let x := s.eng e
  let begun := (match x.run with
    | some i => [i]
    | none => []) ++ x.saved.map (·.2)
  let u := s.unitId (0x100 + e)
  let s := begun.foldl (fun s i =>
    let s := (s.retryCount i.stream i.pri).rewind u fun st => st.spri = i.pri
    (s.modFlight i.stream i.seq fun f => { f with phase := .waiting, item := itemFlag f.item flReplay, tmp := true }).inbufFree e i) s
  let s := s.modEng e fun x => { x with
    run := none, saved := [], half := none, iter := 0, susp := false, link := false, abandonWant := false
    marks := x.kept.foldl (fun m l => m.or l.2) x.marks, kept := [] }
  let s := s.putB (R.CL_EFLT_SUSP (e / 8) (e % 8)) false
  (((s.ackSource u 0).engTestDue e).inbufApply e).syncEng e

/-- An abandoned invocation stops at its next pre-emption point (R294); a suspended one stands at one. -/
def State.engStop (s : State) (e : Nat) : State :=
  let x := s.eng e
  if x.run.isNone || x.atPoint || x.susp then s.engAbandon e else s.modEng e fun x => { x with abandonWant := true }

/-- An abandonment that waited takes place at a pre-emption point, or once the invocation has ended. -/
def State.abandonDue (s : State) (e : Nat) : State :=
  if (s.eng e).abandonWant && ((s.eng e).run.isNone || (s.eng e).atPoint) then s.engAbandon e else s

/-! ### Answers to a suspended access (R251, R254, R256) -/

/-- A suspension ends, and with it the handling of its fault (R256). -/
def State.engUnsuspend (s : State) (e : Nat) : State :=
  let s := (s.modEng e fun x => { x with susp := false, link := false }).putB (R.CL_EFLT_SUSP (e / 8) (e % 8)) false
  (s.ackSource (s.unitId (0x100 + e)) 0).syncEng e

/-- RETRY (R251): the bundle is issued again when its invocation next runs. -/
def State.engRetry (s : State) (e : Nat) : State := if (s.eng e).susp then s.engUnsuspend e else s

/-- ABANDON (R251): the engine is contained as a class 3 unit fault. -/
def State.engGiveUp (s : State) (e : Nat) : State :=
  if (s.eng e).susp then (s.engUnsuspend e).engException e 0x10 else s

/-! ### Commands of the engine page (R203) -/

/-- HALT: the engine stops at the next pre-emption point (R202, R203). -/
def State.engHalt (s : State) (e : Nat) : State :=
  if (s.eng e).run.isNone || (s.eng e).atPoint then
    (s.putB (R.ENG_STAT_HALTED e) true).syncEng e
  else s.modEng e fun x => { x with haltWant := true }

/-- RESUME. -/
def State.engResume (s : State) (e : Nat) : State :=
  ((s.putB (R.ENG_STAT_HALTED e) false).modEng e fun x => { x with haltWant := false }).syncEng e

/-- TEST: from NORMAL, once no invocation runs (R181, R182). -/
def State.engTest (s : State) (e : Nat) : State :=
  if s.get (R.ENG_STAT_STATE e) = 1 then (s.modEng e fun x => { x with testWant := true }).engTestDue e else s

/-- A HALT that waited takes effect at a pre-emption point. -/
def State.haltDue (s : State) (e : Nat) : State :=
  if (s.eng e).haltWant && (s.eng e).atPoint then
    ((s.putB (R.ENG_STAT_HALTED e) true).modEng e fun x => { x with haltWant := false }).syncEng e
  else s

/-- START is entered, with its rounding mode (R181). -/
def State.engStart (s : State) (e : Nat) : State :=
  let s := (s.put (R.ENG_STAT_STATE e) 0).putB (R.ENG_STAT_RMODE e) true
  s.modEng e fun x => { x with tested := false, reloaded := false, testWant := false }

end Sys2Proof.Machine
end

