-- ==== Sys2Proof/Machine/Streams.lean ====
section
/-! DEFINITION. Streams and items in motion (chapter 10): the stream table (R262, R265), room (R279, R290), taking items from
units and from rings (R271, R278, R485), ACK_SEQ (R284), delivery to units and to the host (R174, R283, R288) and quiesce
(R293). -/

namespace Sys2Proof.Machine

/-! ### Units and their domains -/

/-- The source of a unit of this device as a whole. -/
def State.srcUnit (s : State) (id : Nat) : Src :=
  let u := id % 0x2000
  if u < 0x20 then ⟨.pins (Fin.ofNat 32 u), id, 0⟩
  else if 0x100 ≤ u && u < 0x180 then ⟨.engine (Fin.ofNat 128 (u - 0x100)), id, 0⟩
  else if 0x200 ≤ u && u < 0x210 then ⟨.dma (Fin.ofNat 16 (u - 0x200)), id, 0⟩
  else if 0x300 ≤ u && u < 0x308 then ⟨.fabric, id, 0⟩
  else ⟨.fault, s.mgmtId, 0x17⟩

/-- The switched domains of a unit code (R403). -/
def unitDomains (u : Nat) : List Nat :=
  if u < 0x20 then [domConv u, domField u]
  else if 0x100 ≤ u && u < 0x180 then [domEngine (u - 0x100)]
  else if 0x200 ≤ u && u < 0x210 then [domCluster (u - 0x200)]
  else if 0x300 ≤ u && u < 0x308 then [domQuad ((u - 0x300) / 2)]
  else []

/-- A unit's domains are on and ready. -/
def State.unitOn (s : State) (u : Nat) : Bool :=
  (unitDomains u).all s.domReady && (!(0x100 ≤ u && u < 0x180) || s.domOn (domCluster ((u - 0x100) / 8)))

/-- An item wakes its unit (R289, R406): each of its domains that is off starts, an engine only with its cluster on (R12). -/
def State.wakeUnit (s : State) (u : Nat) : State :=
  if 0x100 ≤ u && u < 0x180 && !s.domOn (domCluster ((u - 0x100) / 8)) then s
  else (unitDomains u).foldl (fun s d => if s.domOn d then s else s.startDomain d) s

/-- A unit quiesces (R293): from the request to its reissue, dispatch to it stops. -/
def State.quiescing (s : State) (id : Nat) : Bool := s.sched.quiesce.any fun q => q.1 = id

/-- A unit is behind its girth (R307, R316, R317). -/
def State.behindGirth (s : State) (u : Nat) : Bool :=
  s.fab.shut.contains u || (0x300 ≤ u && u < 0x308 && s.get (R.FAB_REG_STAT_STATE (u - 0x300)) != 1)

/-- A unit of this device takes items at all: on, neither contained nor quiescing nor behind its girth, and the device not in
class 4 (R288, R289, R298, R438). -/
def State.unitTakes (s : State) (u : Nat) : Bool :=
  s.unitOn u && !s.contained.contains u && !s.quiescing (s.unitId u) && !s.behindGirth u && !s.bit R.FLT_STAT_C4

/-- The request to quiesce a unit (R293); a request for a unit that is quiescing joins it. -/
def State.startQuiesce (s : State) (u : Nat) : State :=
  let id := s.unitId u
  if s.quiescing id then s else { s with sched := { s.sched with quiesce := s.sched.quiesce ++ [(id, 1)] } }

def State.setQuiesce (s : State) (id ph : Nat) : State :=
  { s with sched := { s.sched with quiesce := s.sched.quiesce.map fun q => if q.1 = id then (id, ph) else q } }

/-- The quiesce of a unit is over (R293). -/
def State.endQuiesce (s : State) (id : Nat) : State :=
  { s with sched := { s.sched with quiesce := s.sched.quiesce.filter fun q => q.1 != id } }

/-! ### Room (R279, R290) -/

/-- Bytes of each journal copy in use: G items and parked items. -/
def State.jrnBytes (s : State) : Nat :=
  s.sched.flights.foldl (fun n f => if f.isD && !f.tmp then n else n + footprint f.item.tag.len) 0

/-- Room for an item: a tag table entry, and for a G item its footprint in each journal copy; a D item is never journalled
(R263, R290, R291). -/
def State.hasRoomFor (s : State) (it : Item) : Bool :=
  s.sched.flights.length < 131072 && ((s.stream it.tag.stream).isD || s.jrnBytes + footprint it.tag.len ≤ 96 * 2 ^ 20)

/-- Room for an item of `n` bytes in each journal copy, and a tag table entry. -/
def State.hasRoom (s : State) (n : Nat) : Bool :=
  s.jrnBytes + n ≤ 96 * 2 ^ 20 && s.sched.flights.length < 131072

/-- Taking of ring entries is stalled: no room for the largest entry (R279). SCHED_STAT.JRN_FULL and the SQ_STAT.STALL of a running
ring show it. -/
def State.stalled (s : State) : Bool := !s.hasRoom 4160

/-! ### The stream table (R262, R265) -/

/-- The 32 bytes of an entry; one beyond the end of the SRAM reads as zero. -/
def State.strmEntry (s : State) (k : Nat) : Nat :=
  let a := s.get R.SCHED_STRM_TBL_BASE * 0x10000 + 32 * k
  if 0x800000 < a + 32 then 0 else fromLe (s.sramRead a 32)

/-- What an entry says (R262). -/
def entryFields (v : Nat) (st : StreamSt) : StreamSt :=
  { st with
    valid := v.testBit 0, isD := v.testBit 1, pri := natBits v 3 2, wake := v.testBit 4, spri := natBits v 6 5
    bind := natBits v 15 8, src := natBits v 31 16, dst := natBits v 47 32, reply := natBits v 59 48
    replyEn := v.testBit 63, gapTmo := if natBits v 79 64 = 0 then 1000 else natBits v 79 64
    keyed := v.testBit 80, logNent := natBits v 132 128, esz := natBits v 139 133
    dbase := natBits v 179 140 * 4096 }

/-- A unit of this device, among those R16 assigns, other than the host and the management unit. -/
def State.isOwnUnit (s : State) (id : Nat) : Bool :=
  id / 0x2000 = s.pos && unitAssigned (id % 0x2000) && id % 0x2000 != 0x1F00 && id % 0x2000 != 0x1F10

/-- The KEYED streams open beside stream `k`. -/
def State.keyedOpen (s : State) (k : Nat) : Nat :=
  (s.sched.streams.filter fun e => e.1 != k && e.2.state != 0 && e.2.state != 4 && e.2.keyed).length

/-- BAD_ENTRY of R265, for an OPEN of stream `k`. -/
def State.entryBad (s : State) (k : Nat) (st : StreamSt) : Bool :=
  !s.bit R.SCHED_STRM_TBL_EN || !st.valid || st.src % 0x2000 = 0x1F10 || st.dst % 0x2000 = 0x1F10 ||
    (st.isD && !(s.isOwnUnit st.src && s.isOwnUnit st.dst)) ||
    (0x300 ≤ st.dst % 0x2000 && st.dst % 0x2000 < 0x308 && 17 ≤ st.bind % 32) ||
    (st.dst = 0x1F00 && (st.logNent = 0 || 16 < st.logNent)) || (st.keyed && 64 ≤ s.keyedOpen k)

/-- SCHED_SYNC.WAIT: some stream is in WAIT_SYNC. -/
def State.syncWait (s : State) : State :=
  s.putB R.SCHED_SYNC_WAIT (s.sched.streams.any fun e => e.2.state = 4)

/-- An ACK_SEQ that the device reads (R284): the first must equal the OPEN base minus 1; a later one is accepted when it lies
after the one in use and not after the last SEQ written. -/
def State.seeAck (s : State) (k v : Nat) : State :=
  let st := s.stream k
  if st.dst != 0x1F00 || st.state = 0 || st.state = 4 then s
  else match st.ack with
    | none => if v = st.ackBase then s.modStream k fun st => { st with ack := some v } else s
    | some a =>
      let late := v != 0 && v ≤ seqN && seqLater v a && !(seqLater v st.lastOut) && st.lastOut != 0
      if late then s.modStream k fun st => { st with ack := some v } else s

/-- Every completion record is due (R282): that of each stream that was opened and starts or ends at the host. -/
def State.dirtyAll (s : State) : State :=
  { s with sched := { s.sched with streams := s.sched.streams.map fun e =>
      if e.2.atHost then (e.1, { e.2 with dirty := true }) else e } }

/-- OPEN with a base (R265): E and TX take it, ACC_SEQ and RET_SEQ stand before it, every record is due (R282), and the ACK_SEQ of
a host-bound stream is read afresh (R284). The answer is RESULT. -/
def State.openStream (s : State) (k base : Nat) : State × Nat :=
  let b := if base = 0 then 1 else base
  let old := s.stream k
  let st := entryFields (s.strmEntry k) old
  if s.entryBad k st then (s, 2)
  else
    let p := seqPred b
    let st := { st with
      state := 1, exp := b, tx := p, ckpt := p, acc := p, ret := p, accAhead := [], retAhead := [], ack := none
      ackBase := p, lastOut := 0, loss := false, gapRaised := false, keyWork := none, dirty := true }
    let s := (s.setStream k st).syncWait.dirtyAll
    if st.dst = 0x1F00 && s.hostReady then
      let r := s.hostRead st.dbase 8
      (r.2.seeAck k (fromLe r.1), 0)
    else (s, 0)

/-- Items of a stream in flight. -/
def State.inFlight (s : State) (k : Nat) : Bool := s.sched.flights.any fun f => f.item.tag.stream = k

/-- The operation of SCHED_STRM_CMD ends with a RESULT. -/
def State.strmResult (s : State) (r : Nat) : State := (s.put R.SCHED_STRM_CMD_RESULT r).done .sched

/-- The lowest held SEQ of a stream: the one nearest to E. -/
def State.lowestHeld (s : State) (k : Nat) : Option Nat :=
  let e := (s.stream k).exp
  (s.heldOf k).foldl (fun m f => match m with
    | none => some f.item.tag.seq
    | some q => if seqDist f.item.tag.seq e < seqDist q e then some f.item.tag.seq else some q) none

/-- SKIP (R265, R274): every SEQ from E up to the lowest held one counts as rejected with SKIPPED, and what follows in
unbroken order is taken. ACC_SEQ and RET_SEQ pass a skipped SEQ (assumption log 17). -/
def State.skip (s : State) (k : Nat) : State :=
  match s.lowestHeld k with
  | none => s
  | some q =>
    let e := (s.stream k).exp
    let n := seqDist q e
    let s := (List.range n).foldl (fun s i =>
      let x := if seqN < e + i then e + i - seqN else e + i
      (s.refuseItem k x 10).modStream k fun st => (st.accepted x).retired x) s
    let s := s.modStream k fun st => { st.gapGone with exp := q }
    s.advanceE (s.heldOf k).length k

/-! ### Taking items (R271, R273, R485) -/

/-- What a refusal of a unit's item does (R271): a class 1 fault of the unit, and the counts. -/
def State.refuseUnit (s : State) (it : Item) (code : Nat) : State :=
  (s.refuseItem it.tag.stream 0 code (some it.tag.pri)).raise (s.srcUnit it.tag.src) 1 0x24 code

/-- A region's output port shows the outcome of its item (R310). -/
def State.portSignal (s : State) (port : Option Nat) (it : Item) (code : Nat) : State :=
  match port with
  | none => s
  | some p =>
    let x : FabPort := { busy := false, taken := code = 0, refused := if code = 0 then none else some code }
    { s with sched := { s.sched with ports := tblSet (fun _ => {}) s.sched.ports p x } }.eventInst .fabric (p / 16)
      (if code = 0 then 1 else 3) (evOf it (some (p % 16)))

/-- The served item waits for the acceptance of its result (R286); a result that is discarded, or accepted before, holds
nothing back. -/
def State.serve (s : State) (serves : Option (Nat × Nat)) (k seq : Nat) : State :=
  match serves with
  | none => s
  | some q =>
    if seq != 0 && s.sched.flights.any fun f => f.is k seq && !f.jrn && !(f.isD && f.phase != .waiting && f.phase != .held) then
      s.modFlight q.1 q.2 fun f => { f with owes := some (k, seq) }
    else (s.modStream k fun st => { st with ckpt := st.tx }).executed q.1 q.2

/-- The scheduler takes an item from a unit (R271, R273, R275): the checks, SEQ = TX + 1, and its place against E. The answer
is the refusal code, 0 for none. `lvl` is the sending engine's level. -/
def State.takeItem (s : State) (it : Item) (lvl : Nat) (serves : Option (Nat × Nat)) : State × Nat :=
  let k := it.tag.stream
  let c := s.checkTag it false lvl
  let c := if c = 0 then s.checkPayload it else c
  if c != 0 then ((s.refuseUnit it c).serve serves k 0, c)
  else
    let seq := seqSucc (s.stream k).tx
    let it := { it with tag := { it.tag with seq := seq } }
    let s := s.modStream k fun st => { st with tx := seq }
    if !(s.dstLocal it.tag.dst) then ((s.enter it false).serve serves k seq, 0)
    else match s.arrival k seq with
      | .take => ((s.enter it false).serve serves k seq, 0)
      | .hold => ((s.enter it true).serve serves k seq, 0)
      | .duplicate => ((s.duplicate k it.tag.pri).serve serves k seq, 0)
      | .tooFar => ((s.refuseUnit it 6).serve serves k 0, 6)
      | .gapFull => ((s.refuseUnit it 9).serve serves k 0, 9)

/-- The outcome of a host item's checks (R485): a code and the arrival that R273 gives it. `ptrBad` is step 7. -/
def State.checkHost (s : State) (it : Item) (ptrBad : Bool) : Nat × Arrival :=
  let c := s.checkTag it true 0
  if c != 0 then (c, .take)
  else if it.tag.seq = 0 then (6, .take)
  else
    let a := s.arrival it.tag.stream it.tag.seq
    if a = .tooFar then (6, a)
    else if a = .duplicate then (0, a)
    else if ptrBad then (8, a)
    else
      let c := s.checkPayload it
      if c != 0 then (c, a) else if a = .gapFull then (9, a) else (0, a)

/-! ### Rings (R276, R278) -/

/-- NENT of a ring (R303). -/
def State.ringNent (s : State) (r : Nat) : Nat := 2 ^ min 16 (max 4 (s.get (R.SQ_CFG_LOG2_NENT r)))

/-- A ring stops with RING_ERR (R278). -/
def State.ringStop (s : State) (r : Nat) : State :=
  let s := (s.modRing r fun x => { x with run := false }).putB (R.SQ_STAT_ERR r) true
  s.raise (s.srcDev 0x18) 2 0x35 r

/-- PROD as the device reads it (R278): more than NENT entries ahead of CONS stops the ring. -/
def State.seeProd (s : State) (r v : Nat) : State :=
  if (s.ring r).run then
    let s := s.modRing r fun x => { x with prod := v % 2 ^ 32 }
    let x := s.ring r
    let s := s.put (R.SQ_STAT_PEND r) (min 65535 ((x.prod + 2 ^ 32 - x.cons) % 2 ^ 32))
    if x.nent < (x.prod + 2 ^ 32 - x.cons) % 2 ^ 32 then s.ringStop r else s
  else s

/-- A ring is enabled (R278): base and size take effect, PROD and CONS are read afresh. -/
def State.ringEnable (s : State) (r : Nat) : State :=
  let base := (s.get (R.SQ_BASE_LO_ADDR r) + s.get (R.SQ_BASE_HI_ADDR r) * 2 ^ 20) * 4096
  let s := (s.putB (R.SQ_STAT_ERR r) false).modRing r fun x => { x with
    run := true, nent := s.ringNent r, base := base, open_ := [], fresh := false }
  if s.hostReady then
    let p := s.hostRead base 4
    let c := p.2.hostRead (base + 0x40) 4
    let s := c.2.modRing r fun x => { x with cons := fromLe c.1, next := fromLe c.1 }
    s.seeProd r (fromLe p.1)
  else s.modRing r fun x => { x with fresh := true }

/-- A ring is disabled. -/
def State.ringDisable (s : State) (r : Nat) : State :=
  (s.modRing r fun x => { x with run := false, open_ := [] }).putB (R.SQ_STAT_ERR r) false

/-! ### Delivery (R174, R283, R288) -/

/-- What the idempotency key of a waiting item asks for first (R300): nothing, retirement with no effect, or a commit. -/
inductive KeyGate where
  | pass | hit | commit
deriving DecidableEq, Repr

def State.keyGate (s : State) (f : Flight) : KeyGate :=
  if !itemHas f.item flIdem || f.keyed then .pass
  else if (tblGet (fun _ => []) s.ledger.keys f.item.tag.stream).contains (keyOf f.item) then .hit else .commit

/-- A key hit (R300): the item is retired with no effect and counted. A commit begins otherwise. -/
def State.keyStep (s : State) (f : Flight) : State :=
  let k := f.item.tag.stream
  match s.keyGate f with
  | .pass => s
  | .hit => ((s.bump R.SCHED_KEYHIT_CNT_COUNT).event .sched 7 (evOf f.item)).executed k f.item.tag.seq
  | .commit => s.modStream k fun st => { st with keyWork := some (f.item.tag.seq, keyOf f.item) }

/-- A unit of this device can be given a waiting item, room apart. -/
def State.canDeliver (s : State) (u : Nat) (f : Flight) : Bool :=
  let st := s.stream f.item.tag.stream
  if 0x100 ≤ u && u < 0x180 then s.engTakes (u - 0x100) (st.bind % 64)
  else if 0x300 ≤ u && u < 0x308 then
    !s.sched.flights.any fun g => g.item.tag.dst = f.item.tag.dst && g.phase = .sent &&
      (s.stream g.item.tag.stream).bind % 32 = st.bind % 32
  else true

/-- The unit has room for an item (R174). -/
def State.roomAt (s : State) (u : Nat) (f : Flight) : Bool :=
  if 0x100 ≤ u && u < 0x180 then s.engRoom (u - 0x100) f.item else true

/-- The item is delivered to its unit: an engine's is written into its input buffer, any other stands at its unit. A D item
is thereby accepted (R285). -/
def State.deliver (s : State) (u : Nat) (f : Flight) : State :=
  let k := f.item.tag.stream
  let q := f.item.tag.seq
  let s := s.modFlight k q fun f => { f with phase := .sent }
  let s := if 0x100 ≤ u && u < 0x180 then s.netWords ((u - 0x100) / 8) false
    else if 0x200 ≤ u && u < 0x210 then s.netWords (u - 0x200) false else s
  let s := if 0x100 ≤ u && u < 0x180 then s.engDeliver (u - 0x100) ((s.stream k).bind % 64) f.item
    else if 0x300 ≤ u && u < 0x308 then s.eventInst .fabric (u - 0x300) 0 (evOf f.item (some ((s.stream k).bind % 32)))
    else s
  if f.isD then (s.event .sched 0 (evOf f.item)).resultAccepted k q else s

/-- The item leaves for another chain position (R285, R339): it stays in the journal until that device has accepted it. -/
def State.forward (s : State) (f : Flight) : State :=
  let s := s.modFlight f.item.tag.stream f.item.tag.seq fun f => { f with phase := .sent }
  s.latSend (if f.item.tag.dst / 0x2000 < s.pos then 0 else 1) (.item f.item)

/-- Dispatch to a unit of this device (R288, R289): the oldest waiting item of the highest effective PRI that it can take. An engine
whose buffer lacks room for that item takes no other in its place (R174). -/
def State.dispatch (s : State) (u : Nat) : State :=
  let id := s.unitId u
  let here := fun f : Flight => f.item.tag.dst = id
  let s := if 0x100 ≤ u && u < 0x180 then s.inbufSmall (u - 0x100) else s
  if !s.unitOn u then
    if s.sched.flights.any fun f => here f && f.phase = .waiting && (s.stream f.item.tag.stream).wake then s.wakeUnit u else s
  else if !s.unitTakes u then s
  else match pickFlight s.sched.flights fun f => here f && s.canDeliver u f with
    | none => s
    | some f => if s.keyGate f != .pass then s.keyStep f else if s.roomAt u f then s.deliver u f else s

/-- Dispatch goes on while the unit takes items, at most `n` times (R174). -/
def State.dispatchAll : Nat → State → Nat → State
  | 0, s, _ => s
  | n + 1, s, u => State.dispatchAll n (s.dispatch u) u

/-- Space was freed in an engine's buffer: what waits is delivered as far as it fits (R174). -/
def State.feedEngine (s : State) (e : Nat) : State :=
  let id := s.unitId (0x100 + e)
  State.dispatchAll (s.sched.flights.filter fun f => f.item.tag.dst = id && f.phase = .waiting).length s (0x100 + e)

/-- A D item for a unit of this device is accepted when that unit takes it; until then its sender holds it (R285). `t` is the
state with the item taken: the state with it delivered, or none while the unit cannot take it. -/
def State.sendDelivered (t : State) (it : Item) : Option State :=
  let k := it.tag.stream
  match t.sched.flights.find? fun f => f.is k (t.stream k).tx with
  | none => some t
  | some f =>
    let u := it.tag.dst % 0x2000
    if !f.isD || f.phase != .waiting || !(t.dstLocal it.tag.dst) then some t
    else if t.unitOn u && t.unitTakes u &&
        ((pickFlight t.sched.flights fun g => g.item.tag.dst = t.unitId u && t.canDeliver u g) = some f) && t.roomAt u f then
      some (t.dispatch u)
    else none

/-- A unit that cannot take an item is woken by it where its stream says so (R289). -/
def State.wakeFor (s : State) (it : Item) : State :=
  let u := it.tag.dst % 0x2000
  if !s.unitOn u && (s.stream it.tag.stream).wake then s.wakeUnit u else s

end Sys2Proof.Machine
end

