-- ==== Sys2Proof/Machine/Sched.lean ====
section
/-! DEFINITION. Scheduler and ring commands (chapter 10): stream operations (R265), watched lines (R360, R349), ring entries
(R278), taking, accepting, dispatching and delivering items (R271 to R289), completion records (R281, R282), gaps (R274), keys
(R300) and quiesce (R293, R294). -/

namespace Sys2Proof.Machine

/-! ### Stream operations (R265) -/

/-- SCHED_STRM_CMD and _ARG hold the operation written. -/
def State.strmFields (s : State) (k op : Nat) : State :=
  (s.put R.SCHED_STRM_CMD_STREAM k).put R.SCHED_STRM_CMD_OP op

/-- STREAM_OPEN (R265): accepted in CLOSED and WAIT_SYNC. -/
def execStreamOpen (w : Writer) (k : Fin 4096) (base : BitVec 48) (s : State) : Host.Outcome State Fault Refusal :=
  .next (s.byOwner w .sched fun s =>
    let s := s.strmFields k.val 1
    let s := (s.put R.SCHED_STRM_ARG_LO base.toNat).put R.SCHED_STRM_ARG_HI (base.toNat / 2 ^ 32)
    let st := (s.stream k.val).state
    if st = 0 || st = 4 then
      let r := s.openStream k.val base.toNat
      r.1.strmResult r.2
    else s.strmResult 1)

/-- STREAM_CLOSE (R265): an OPEN or GAP_STALL stream drains; one in WAIT_SYNC is closed at once. -/
def execStreamClose (w : Writer) (k : Fin 4096) (s : State) : Host.Outcome State Fault Refusal :=
  .next (s.byOwner w .sched fun s =>
    let s := s.strmFields k.val 2
    let st := (s.stream k.val).state
    if st = 1 || st = 3 then (s.modStream k.val fun st => { st with state := 2 }).strmResult 0
    else if st = 4 then ((s.modStream k.val fun st => { st with state := 0 }).syncWait).strmResult 0
    else s.strmResult 1)

/-- STREAM_SKIP (R265): accepted in OPEN, GAP_STALL and DRAINING. -/
def execStreamSkip (w : Writer) (k : Fin 4096) (s : State) : Host.Outcome State Fault Refusal :=
  .next (s.byOwner w .sched fun s =>
    let s := s.strmFields k.val 3
    let st := (s.stream k.val).state
    if st = 1 || st = 2 || st = 3 then (s.skip k.val).strmResult 0 else s.strmResult 1)

/-- A 48-bit value in a LO and HI pair of the query registers. -/
def State.putQ (s : State) (k v : Nat) : State := (s.put (R.SCHED_STRM_QV_LO k) v).put (R.SCHED_STRM_QV_HI k) (v / 2 ^ 32)

/-- STREAM_QUERY (R265): the SCHED_STRM_Q registers are loaded. -/
def execStreamQuery (w : Writer) (k : Fin 4096) (s : State) : Host.Outcome State Fault Refusal :=
  .next (s.byOwner w .sched fun s =>
    let s := s.strmFields k.val 4
    let st := s.stream k.val
    let s := (s.put R.SCHED_STRM_Q_STATE st.state).putB R.SCHED_STRM_Q_CLASS st.isD
    let s := s.putB R.SCHED_STRM_Q_ACK_WAIT (st.dst = 0x1F00 && st.state != 0 && st.ack.isNone)
    let s := s.put R.SCHED_STRM_Q_HELD (s.heldOf k.val).length
    (((s.putQ 0 st.exp).putQ 1 st.tx).putQ 2 st.ret).strmResult 0)

/-- STREAM_CLOSED (R265): a DRAINING stream with no item in flight is closed. -/
def execStreamClosed (k : Fin 4096) (s : State) : Host.Outcome State Fault Refusal :=
  .next (if (s.stream k.val).state = 2 && !s.inFlight k.val then s.modStream k.val fun st => { st with state := 0 } else s)

/-! ### Watched lines (R276, R284, R349, R360) -/

/-- The device reads a watched line and finds the value given. -/
def State.seeLine (s : State) (l : WatchedLine) : State :=
  match l with
  | .prod r v => s.seeProd r.val v.toNat
  | .ackSeq k v => s.seeAck k.val v

/-- WATCHED_LINE_SNOOP (R360): in CXL operation a snoop makes the device read a watched line again. -/
def execWatchedLineSnoop (l : WatchedLine) (s : State) : Host.Outcome State Fault Refusal :=
  .next (if s.hostReady && !s.bit R.YDVSEC_ID_PCIE_ONLY then s.seeLine l else s)

/-- RING_POLL (R349): in PCIe-only operation the device reads the lines at intervals. -/
def execRingPoll (l : WatchedLine) (s : State) : Host.Outcome State Fault Refusal :=
  .next (if s.hostReady && s.bit R.YDVSEC_ID_PCIE_ONLY then s.seeLine l else s)

/-! ### Rings (R277 to R279) -/

/-- The refusal of a ring entry (R276, R281): in its stream's completion record, or in the ring's device line. -/
def State.refuseEntry (s : State) (r : Nat) (it : Item) (code : Nat) : State :=
  let idx := (s.ring r).next
  let s := s.refuseItem it.tag.stream it.tag.seq code (some it.tag.pri)
  if (s.stream it.tag.stream).atHost then s
  else s.modRing r fun x => { x with rejIdx := idx, rejCode := code, dirty := true }

/-- The next entry of a ring is behind the device, its outcome fixed or waiting for the journal. -/
def State.passEntry (s : State) (r : Nat) (e : Option (Nat × Nat)) : State :=
  let s := s.modRing r fun x => RingSt.pass { x with next := (x.next + 1) % 2 ^ 32, open_ := x.open_ ++ [e] }
  s.put (R.SQ_STAT_PEND r) (min 65535 (((s.ring r).prod + 2 ^ 32 - (s.ring r).cons) % 2 ^ 32))

/-- RING_ENTRY_TAKE (R278, R279, R485): with room for the largest entry, the next entry between CONS and PROD is read,
checked, and accepted for the journal, held, found a duplicate, or refused. -/
def execRingEntryTake (r : Fin 64) (ent : RingEntry) (s : State) : Host.Outcome State Fault Refusal :=
  let x := s.ring r.val
  if !s.hostReady || !x.run || x.next = x.prod || s.stalled || s.sched.stopped then .next s
  else
    let it := entryItem ent
    let s := s.event .rings 0 (evOf it (some r.val))
    let k := it.tag.stream
    let out := s.checkHost it (entryPtrBad ent)
    if out.1 != 0 then .next ((s.refuseEntry r.val it out.1).passEntry r.val none)
    else match out.2 with
      | .duplicate => .next ((s.duplicate k it.tag.pri).passEntry r.val none)
      | .take => .next ((s.enter it false).passEntry r.val (some (k, it.tag.seq)))
      | .hold => .next ((s.enter it true).passEntry r.val (some (k, it.tag.seq)))
      | _ => .next s

/-- RING_LINE_WRITE (R276, R278): CONS, REJ_IDX, its code and GEN go to the ring's device line. -/
def execRingLineWrite (r : Fin 64) (s : State) : Host.Outcome State Fault Refusal :=
  let x := s.ring r.val
  if x.dirty && s.hostReady then
    let g := (x.gen + 1) % 2 ^ 32
    let s := s.hostWrite (x.base + 0x40) (leBytes 4 x.cons ++ leBytes 4 x.rejIdx ++ leBytes 4 x.rejCode ++ leBytes 4 g)
    .next (s.modRing r.val fun x => { x with gen := g, dirty := false })
  else .next s

/-! ### Items from units (R271, R285, R288) -/

/-- ITEM_TAKE (R271, R285): the oldest item that a unit offers is taken when there is room; a D item stays with its sender until its
destination takes it. -/
def execItemTake (src : Nat) (s : State) : Host.Outcome State Fault Refusal :=
  match s.sched.offers.find? fun o => o.item.tag.src = src with
  | none => .next s
  | some o =>
    if s.hasRoomFor o.item then
      let r := ({ s with sched := { s.sched with offers := s.sched.offers.erase o } } : State).takeItem o.item 0 o.serves
      if r.2 != 0 then .next (r.1.portSignal o.port o.item r.2)
      else match r.1.sendDelivered o.item with
        | some t => .next (t.portSignal o.port o.item 0)
        | none => .next (s.wakeFor o.item)
    else .next s

/-- An item is in the journal copies, and its port's partner hears of it (R285, R339). -/
def State.acceptFlight (s : State) (f : Flight) : State :=
  let s := s.accept f.item.tag.stream f.item.tag.seq
  let u := f.item.tag.dst % 0x2000
  let s := if s.dstLocal f.item.tag.dst && 0x100 ≤ u && u < 0x180 then s.inbufSmall (u - 0x100) else s
  match f.via with
  | some p => s.latSend p (.itemAcc f.item.tag.stream f.item.tag.seq)
  | none => s

/-- A journal copy is left (R292). -/
def State.journalUp (s : State) : Bool := !(s.chLost (s.get R.MEM_STAT_JRN_A) && s.chLost (s.get R.MEM_STAT_JRN_B))

/-- ITEM_ACCEPT (R285): the item is in the journal copies. -/
def execItemAccept (k : Fin 4096) (seq : Nat) (s : State) : Host.Outcome State Fault Refusal :=
  if !s.journalUp then .next s else
  match s.sched.flights.find? fun f => f.is k.val seq && (f.phase = .taken || f.phase = .held) && !f.jrn && !f.isD with
  | none => .next s
  | some f => .next (s.acceptFlight f)

/-- ITEM_DISPATCH (R288): to a unit of this device, or over a latigo port to another position (R341). The host's items leave
by DELIVERY_RING_WRITE. -/
def execItemDispatch (dst : Nat) (s : State) : Host.Outcome State Fault Refusal :=
  if !(s.dstLocal dst) then
    match pickFlight s.sched.flights fun f => f.item.tag.dst = dst with
    | none => .next s
    | some f => .next (s.forward f)
  else if dst % 0x2000 = 0x1F00 then .next s
  else .next (s.dispatch (dst % 0x2000))

/-! ### The host's side (R281 to R284) -/

/-- The address of a stream's completion record (R281). -/
def State.complAddr (s : State) (k : Nat) : Nat :=
  (s.get R.SCHED_COMPL_BASE_LO_ADDR + s.get R.SCHED_COMPL_BASE_HI_ADDR * 2 ^ 20) * 4096 + 64 * k

/-- The 64 bytes of a completion record (R281). -/
def State.complBytes (s : State) (k gen : Nat) : List Byte :=
  let st := s.stream k
  leBytes 8 st.acc ++ leBytes 8 st.ret ++ leBytes 8 st.rejSeq ++ leBytes 1 st.rejCode ++ leBytes 1 st.state ++
    leBytes 2 st.rejCnt ++ leBytes 4 gen ++ leBytes 8 s.ledger.live.epoch ++ leBytes 4 (s.get R.SCHED_WARM) ++
    leBytes 20 0

/-- COMPLETION_RECORD_WRITE (R282, R287): a record that a change made due is written in one line; the items that its RET_SEQ
covers retire; the first record of a power cycle clears CLEAN (R299); completion notify (R446). -/
def execCompletionRecordWrite (k : Fin 4096) (s : State) : Host.Outcome State Fault Refusal :=
  let st := s.stream k.val
  if st.dirty && st.atHost && s.pos = 0 && s.hostReady then
    let g := (st.gen + 1) % 2 ^ 32
    let s := (s.hostWrite (s.complAddr k.val) (s.complBytes k.val g)).event .rings 1 { stream := some k.val }
    let s := s.modStream k.val fun st => { st with gen := g, dirty := false, retOut := st.ret }
    let s := { s with ledger := { s.ledger with clean := false } }
    let done := s.sched.flights.filter fun f =>
      f.item.tag.stream = k.val && f.phase = .executed && !seqLater f.item.tag.seq st.ret
    let s := done.foldl (fun s f => s.retire k.val f.item.tag.seq) s
    .next (s.srcFire (200 + k.val % 64))
  else .next s

/-- DELIVERY_RING_WRITE (R283, R284): the next item of a host-bound stream is written while it is at most NENT later than the
ACK_SEQ in use. -/
def execDeliveryRingWrite (k : Fin 4096) (s : State) : Host.Outcome State Fault Refusal :=
  let st := s.stream k.val
  match st.ack, pickFlight s.sched.flights fun f => f.item.tag.stream = k.val && f.item.tag.dst = 0x1F00 with
  | some a, some f =>
    let q := f.item.tag.seq
    let dist := if a = 0 then q else seqDist q a
    if !s.hostReady || !s.dstLocal 0x1F00 || 2 ^ st.logNent < dist then .next s
    else if s.keyGate f != .pass then .next (s.keyStep f)
    else
      let slot := st.dbase + 0x40 + 64 * (st.esz + 1) * (q % 2 ^ st.logNent)
      let s := s.hostWrite slot (tagBytes f.item.tag ++ f.item.payload)
      .next ((s.modStream k.val fun st => { st with lastOut := q }).executed k.val q)
  | _, _ => .next s

/-! ### Gaps and keys (R274, R300) -/

/-- GAP_TIMEOUT (R274): an OPEN stream stalls, a DRAINING one raises its fault once for the gap. -/
def execGapTimeout (k : Fin 4096) (s : State) : Host.Outcome State Fault Refusal :=
  let st := s.stream k.val
  let n := (s.heldOf k.val).length
  if n = 0 then .next s
  else if st.state = 1 then
    .next ((s.modStream k.val fun st => { st with state := 3 }).raise (s.srcStream k.val) 2 0x34 n)
  else if st.state = 2 && !st.gapRaised then
    .next ((s.modStream k.val fun st => { st with gapRaised := true }).raise (s.srcStream k.val) 2 0x34 n)
  else .next s

/-- KEY_COMMIT (R300): the key is in the stream's key record, which holds the last 256, and its item may take effect. -/
def execKeyCommit (k : Fin 4096) (s : State) : Host.Outcome State Fault Refusal :=
  match (s.stream k.val).keyWork with
  | none => .next s
  | some w =>
    let ks := (w.2 :: tblGet (fun _ => []) s.ledger.keys k.val).take 256
    let s := { s with ledger := { s.ledger with keys := tblSet (fun _ => []) s.ledger.keys k.val ks } }.ledgerWrite (.keys k.val)
    let s := s.modFlight k.val w.1 fun f => { f with keyed := true }
    .next (s.modStream k.val fun st => { st with keyWork := none })

/-! ### DMA channels: commits between items (R249) -/

/-- The page of a DMA unit. -/
def dmaP (c : Nat) : Page := .dma (Fin.ofNat 16 c)

/-- The words of a channel that a commit holds until no item is served (R249). -/
def dmaWords (c j : Nat) : List Nat := [0x100, 0x120, 0x124, 0x128].map (· + dmaPage c + 0x40 * j)

/-- A committed CFG, CAP_BASE or CAP_SIZE of an idle channel takes effect (R249). -/
def State.dmaApply (s : State) (c j : Nat) : State :=
  if ((dmaWords c j).any fun a => s.waits a) && !s.bit (R.DMA_CH_STAT_ACTIVE c j) then
    let s := (dmaWords c j).foldl (fun s a => s.applyWait a) s
    let s := (s.put (R.DMA_CH_CAP_WP c j) 0).modDma c j fun x => { x with wp := 0, stop := false }
    (s.putB (R.DMA_CH_STAT_WRAPPED c j) false).putB (R.DMA_CH_STAT_STOPPED c j) false
  else s

/-- A channel of the page still holds a committed word back. -/
def State.dmaWaits (s : State) (c : Nat) : Bool := (List.range 16).any fun j => (dmaWords c j).any fun a => s.waits a

/-- The last effective point of the page's commit has passed (R462). -/
def State.dmaCommitted (s : State) (c : Nat) : State :=
  if s.bit (R.PAGE_STAT_APPLYING (dmaPage c)) && !s.dmaWaits c then (s.commitsUp (dmaPage c)).pend (dmaP c) irqCommit else s

/-! ### Quiesce (R293, R294) -/

/-- Work still running at the unit is abandoned (R294): an engine's invocations at their next pre-emption point, or `now`; a DMA
unit's items. -/
def State.abandonUnit (s : State) (id : Nat) (now : Bool := false) : State :=
  let u := id % 0x2000
  if 0x100 ≤ u && u < 0x180 then (if now then s.engAbandon (u - 0x100) else s.engStop (u - 0x100))
  else if 0x200 ≤ u && u < 0x210 then
    let run := s.sched.flights.filter fun f => f.item.tag.dst = id && f.phase = .running
    let s := run.foldl (fun s f => s.retryCount f.item.tag.stream f.item.tag.pri) s
    let c := u - 0x200
    let s := (List.range 16).foldl (fun s j => (s.ackSource id (0x300 + j)).dmaApply c j) (s.dropDma c)
    ((s.dmaCommitted c).requeue id fun f => f.phase = .running).rewind id fun _ => true
  else s.requeue id fun f => f.phase = .running

/-- QUIESCE_TIMEOUT (R293, step 3). -/
def execQuiesceTimeout (u : Nat) (s : State) : Host.Outcome State Fault Refusal :=
  .next (if s.sched.quiesce.contains (u, 1) then (s.abandonUnit u).setQuiesce u 2 else s)

/-- Items delivered to a unit but not begun are returned and parked in the journal; work that still runs is abandoned first
(R293, steps 3 and 4). -/
def State.quiesceReturn (s : State) (u : Nat) : State :=
  if s.sched.quiesce.contains (u, 1) || s.sched.quiesce.contains (u, 2) then
    let c := u % 0x2000
    let late := 0x100 ≤ c && c < 0x180 && (s.eng (c - 0x100)).abandonWant
    let s := if s.sched.quiesce.contains (u, 1) || late then s.abandonUnit u true else s
    let back := s.sched.flights.filter fun f => f.item.tag.dst = u && f.phase = .sent
    let s := back.foldl (fun s f => s.retryCount f.item.tag.stream f.item.tag.pri) s
    let s := s.requeue u fun _ => true
    let s := if 0x100 ≤ c && c < 0x180 then ((s.dropEngine (c - 0x100)).inbufApply (c - 0x100)).syncEng (c - 0x100) else s
    s.setQuiesce u 3
  else s

/-- QUIESCE_RETURN (R293, step 4). -/
def execQuiesceReturn (u : Nat) (s : State) : Host.Outcome State Fault Refusal := .next (s.quiesceReturn u)

/-- What unit `u` was quiesced for is not over: a reload (R315), an OFF of its domain (R405) or a warm reset (R368). -/
def State.quiesceHeld (s : State) (u : Nat) : Bool :=
  (s.bit R.FAB_RCFG_STAT_BUSY && s.unitId s.rcfg.target = u) || ((unitDomains (u % 0x2000)).any s.pwr.offs.contains) ||
    s.host.warm != 0

/-- REPLAY_REISSUE (R293, step 6): the unit is ready, and what was returned is dispatched again. -/
def execReplayReissue (u : Nat) (s : State) : Host.Outcome State Fault Refusal :=
  .next (if s.sched.quiesce.contains (u, 3) && u / 0x2000 = s.pos && s.unitOn (u % 0x2000) && !s.quiesceHeld u then
    s.endQuiesce u else s)

/-! ### Counters that a read clears (R302) -/

/-- SCHED_REJ_CNT_READ. -/
def execSchedRejCntRead (s : State) : Host.Outcome State Fault Refusal := .next (s.readClear R.SCHED_REJ_CNT_COUNT)
/-- SCHED_DUP_CNT_READ. -/
def execSchedDupCntRead (s : State) : Host.Outcome State Fault Refusal := .next (s.readClear R.SCHED_DUP_CNT_COUNT)
/-- SCHED_RETRY_CNT_READ. -/
def execSchedRetryCntRead (s : State) : Host.Outcome State Fault Refusal := .next (s.readClear R.SCHED_RETRY_CNT_COUNT)
/-- SCHED_LOSS_CNT_READ. -/
def execSchedLossCntRead (s : State) : Host.Outcome State Fault Refusal := .next (s.readClear R.SCHED_LOSS_CNT_COUNT)
/-- SCHED_KEYHIT_CNT_READ. -/
def execSchedKeyhitCntRead (s : State) : Host.Outcome State Fault Refusal := .next (s.readClear R.SCHED_KEYHIT_CNT_COUNT)

end Sys2Proof.Machine
end

