-- ==== Sys2Proof/Machine/Load.lean ====
section
/-! DEFINITION. Personality loads (R321 to R332) up to the application of the sections: the checks of R330, the load states,
the deadline (R327) and LOAD_CLEAR (R332). -/

namespace Sys2Proof.Machine

/-! ### The structure of sections (R323, R324) -/

/-- The two numbers of a register record: its offset and its value (R324). -/
def recordOf (bs : List Byte) : Nat × Nat := (fromLe (bs.take 4), fromLe ((bs.drop 4).take 4))

/-- Cut bytes into register records of 8 bytes. -/
def records : Nat → List Byte → List (Nat × Nat)
  | 0, _ => []
  | n + 1, bs => if bs.isEmpty then [] else recordOf bs :: records n (bs.drop 8)

def recordsOf (bs : List Byte) : List (Nat × Nat) := records (bs.length / 8) bs

/-- Tile, engine, cluster and DMA pages; every other page is global. -/
def isUnitPage : Page → Bool
  | .pins _ => true | .input _ => true | .output _ => true | .calib _ => true
  | .engine _ => true | .cluster _ => true | .dma _ => true | _ => false

/-- The page belongs to tile `t`. -/
def isTilePage (t : Nat) : Page → Bool
  | .pins u => u.val = t | .input u => u.val = t | .output u => u.val = t | .calib u => u.val = t | _ => false

/-- A record names a page that `ok` admits and a register with fields that are not RO, and sets no RO bit (R330 check 9). -/
def recordOk (ok : Page → Bool) (r : Nat × Nat) : Bool :=
  let ro := accMask r.1 .ro ||| accMask r.1 .rc
  let wr := accMask r.1 .rw ||| accMask r.1 .rws ||| accMask r.1 .w1c ||| accMask r.1 .w1s ||| accMask r.1 .wo
  r.1 % 4 = 0 && (match pageOf r.1 with | some p => ok p | none => false) && wr != 0 && r.2 &&& ro = 0

/-- Unit blocks (R324): unit code and body; none where the bytes are no blocks. -/
def blocks : Nat → List Byte → Option (List (Nat × List Byte))
  | 0, bs => if bs.isEmpty then some [] else none
  | n + 1, bs =>
    if bs.isEmpty then some []
    else
      let len := fromLe ((bs.drop 4).take 4)
      let next := (8 + len + 7) / 8 * 8
      if bs.length < 8 + len || fromLe ((bs.drop 2).take 2) != 0 then none
      else (blocks n (bs.drop next)).map fun t => (fromLe (bs.take 2), (bs.drop 8).take len) :: t

def blocksOf (bs : List Byte) : Option (List (Nat × List Byte)) := blocks (bs.length / 8 + 1) bs

/-- A register-record body of tile `t`. -/
def tileBlockOk (b : Nat × List Byte) : Bool :=
  b.1 < 32 && b.2.length % 8 = 0 && (recordsOf b.2).all (recordOk (isTilePage b.1))

/-- IMEM_LEN and DMEM_LEN of an ENGINE body (R324). -/
def imemLen (bs : List Byte) : Nat := fromLe (bs.take 4)
def dmemLen (bs : List Byte) : Nat := fromLe ((bs.drop 4).take 4)

/-- An ENGINE body of an engine (R324). -/
def engineBlockOk (b : Nat × List Byte) : Bool :=
  0x100 ≤ b.1 && b.1 < 0x180 && imemLen b.2 % 8 = 0 && imemLen b.2 ≤ 0x8000 && dmemLen b.2 ≤ 0xF000 &&
    fromLe ((b.2.drop 12).take 4) = 0 && b.2.length = 272 + imemLen b.2 + dmemLen b.2

/-- The space and offset of a MEM_IMAGE (R323). -/
def imageAt (bs : List Byte) : Nat × Nat := (fromLe (bs.take 8) / 2 ^ 52, fromLe (bs.take 8) % 2 ^ 52)

/-- A section's structure (R323, R324); a FABRIC section has a format of its own. -/
def sectionOk (sec : Section) : Bool :=
  let bs := sec.payload
  if sec.typ = 1 then true
  else if sec.typ = 2 then (match blocksOf bs with | some l => l.all tileBlockOk | none => false)
  else if sec.typ = 3 then
    bs.length = 2240 && (List.range 256).all fun k => fromLe ((bs.drop (8 * k + 5)).take 3) = 0
  else if sec.typ = 4 then (match blocksOf bs with | some l => l.all engineBlockOk | none => false)
  else if sec.typ = 5 then
    let a := imageAt bs
    16 ≤ bs.length && fromLe ((bs.drop 8).take 8) = 0 &&
      ((a.1 = 1 && a.2 + (bs.length - 16) ≤ 0x800000) || (a.1 = 2 && a.2 + (bs.length - 16) ≤ 0x3C0000000))
  else if sec.typ = 6 then
    bs.length = 64 && fromLe (bs.take 1) ≤ 1 && fromLe ((bs.drop 1).take 3) = 0 &&
      (List.range 5).all fun k => fromLe ((bs.drop (4 + 12 * k)).take 1) ≤ 3
  else sec.typ = 7 && bs.length % 8 = 0 && (recordsOf bs).all (recordOk fun p => !isUnitPage p)

/-- The sections of this device's position. -/
def State.ownSections (s : State) (img : PersStream) : List Section := img.sections.filter fun x => x.pos = s.pos

/-! ### Load states -/

/-- The unit serial as one number. -/
def State.serialNo (s : State) : Nat := (List.range 4).foldl (fun n i => n + s.get (R.GID_SERIAL i) * 2 ^ (32 * i)) 0

/-- A DEADLINE value in ns: 10 to 6,000 units of 10 ms (R327). -/
def deadlineNs (v : Nat) : Nat := min 6000 (max 10 v) * 10000000

/-- A deadline starts. -/
def State.startDeadline (s : State) (v : Nat) : State :=
  { s with load := { s.load with deadline := some (s.time + deadlineNs v), begun := true } }

/-- This device rejects the load (R332): FAILED, the report or ABORT, every pin on its safe pull, and a class 4 fault of cause
LOAD. -/
def State.rejectLoad (s : State) (code pos : Nat) : State :=
  let s := (s.failLoad code pos).dropPins
  s.raise (s.srcDev 0x14) 4 0x50 code

/-- Step 5 of R329: the head sends APPLY, and the deadline ends for good. -/
def State.applyStarts (s : State) : State :=
  { (s.latSend 1 (.loadctl 4 0 0 0)).setLoad 4 with load := { s.load with deadline := none, stopped := false } }

/-- Every device of the chain has reported VERIFIED. -/
def State.allVerified (s : State) : Bool :=
  match s.load.img with
  | some img => (List.range img.ndev).all fun p => s.load.verified.contains p
  | none => false

/-- The head sends APPLY once it and every other device have verified. -/
def State.tryApply (s : State) : State :=
  if s.isHead && s.get R.LAT_LOAD_STAT_STATE = 3 && s.allVerified then s.applyStarts else s

/-- The extents of the list at `a` that the first `left` bytes of a stream take up, each an address and a length (R355). -/
def State.extents (s : State) : Nat → Nat → Nat → List (Nat × Nat)
  | 0, _, _ => []
  | n + 1, a, left =>
    let e := (s.hostRead a 16).1
    let len := fromLe ((e.drop 8).take 4)
    if left = 0 || len = 0 then [] else (fromLe (e.take 8), min len left) :: s.extents n (a + 16) (left - len)

/-- The extents of the load (R353, R355). -/
def State.loadExtents (s : State) : List (Nat × Nat) :=
  let at64 := s.get R.YDVSEC_LOAD_ADDR_LO_ADDR * 64 + s.get R.YDVSEC_LOAD_ADDR_HI_ADDR * 2 ^ 32
  s.extents 4096 at64 (s.get R.YDVSEC_LOAD_LEN)

/-- The bytes that they hold: fewer than LOAD_LEN where the list ends early. -/
def State.extentBytes (s : State) : Nat := s.loadExtents.foldl (fun n e => n + e.2) 0

/-- The stream in host memory that the load fields name (R355). A load that a register write starts brings no verdicts with it: they
are free values (assumption log 40). -/
def State.hostStream (s : State) : PersStream :=
  let bytes := cellsOf (s.loadExtents.flatMap fun e => (s.hostRead e.1 e.2).1)
  { bytes := bytes, chk := Config.streamCheck bytes, len := s.extentBytes }

/-- LOAD_GO (R328, R329, R353): at the head, in WAIT. The head sends START down the chain. -/
def execLoadGo (img : PersStream) (s : State) : Host.Outcome State Fault Refusal :=
  if s.configActs && s.isHead && s.get R.LAT_LOAD_STAT_STATE = 0 then
    let ld := { s.load with
      img := some img, sigOk := false, verified := [], done := [], len := s.get R.YDVSEC_LOAD_LEN }
    let s := { s with load := ld }
    .next ((s.latSend 1 (.loadctl 1 0 0 (s.load.deadline.getD 0))).setLoad 1)
  else .next s

/-- The owner key of a slot is enrolled (R383). -/
def State.ownerSlot (s : State) (k : Nat) : Bool := k < 4 && s.getIdx R.SEC_STAT_OWNERS k

/-- The first of the checks 1 to 6 of R330 that fails; a RELOAD image is no full load (R326). -/
def State.headerCode (s : State) (img : PersStream) (sigOk : Bool) : Nat :=
  if !img.idOk then 1
  else if !img.stepMask.getLsbD (s.get R.GID_STEP_STEPPING) then 2
  else if img.layoutBad || img.reload then 3
  else if img.ndev != s.get R.LAT_POS_CHAIN_LEN then 4
  else if img.bind = 1 && img.serials.getD s.pos 0 != s.serialNo then 5
  else if !sigOk || !s.ownerSlot img.ownerSlot then 6
  else 0

/-- The counted chain length (R335): `n` is what the chain counts where a downstream partner is active. -/
def State.chainCount (s : State) (n : Nat) : Nat :=
  if s.get (R.LAT_PSTAT_LTSTATE 1) = 5 then max (s.pos + 2) (min 8 n) else s.pos + 1

/-- LOAD_SIGNATURE_VERIFIED (R329 steps 2 and 3, R330 checks 1 to 6). -/
def execLoadSignatureVerified (sigOk : Bool) (chain : Nat) (s : State) : Host.Outcome State Fault Refusal :=
  if s.get R.LAT_LOAD_STAT_STATE = 1 then
    match s.load.img with
    | none => .next s
    | some img =>
      let s := s.put R.LAT_POS_CHAIN_LEN (s.chainCount chain)
      let c := s.headerCode img sigOk
      if c != 0 then .next (s.rejectLoad c s.pos)
      else .next ({ s with load := { s.load with sigOk := true } }.setLoad 2)
  else .next s

/-- The stream in LOAD frames of up to 4,096 bytes (R337). -/
def loadFrames (img : PersStream) : List LatMsg :=
  (List.range ((img.totalLen + 4095) / 4096)).map fun i =>
    .load (4096 * i) (memRead img.bytes (min 4096 (img.totalLen - 4096 * i)) (4096 * i))

/-- Not every byte of the stream has arrived (R330 check 7, R331, R355): at the head LOAD_LEN is below TOTAL_LEN or the extent list
ends before LOAD_LEN; at any other device fewer bytes came than TOTAL_LEN. -/
def State.loadShort (s : State) (img : PersStream) : Bool :=
  if s.isHead then decide (s.load.len < img.totalLen) || decide (img.len < s.load.len) else decide (img.len < img.totalLen)

/-- LOAD_VERIFIED (R329 step 4, R330 checks 7 to 9): the device has its stream, or a part of it is missing, or a read of host memory
failed (`short`); the head has forwarded it, any other device reports VERIFIED upstream, and the head sends APPLY once every device has verified. -/
def execLoadVerified (short : Bool) (s : State) : Host.Outcome State Fault Refusal :=
  if s.get R.LAT_LOAD_STAT_STATE = 2 then
    match s.load.img with
    | none => .next s
    | some img =>
      let own := s.ownSections img
      if short || s.loadShort img then .next (s.rejectLoad 7 s.pos)
      else if own.any fun x => !x.hashOk then .next (s.rejectLoad 8 s.pos)
      else if !own.all sectionOk then .next (s.rejectLoad 3 s.pos)
      else
        let s := (if s.isHead then (loadFrames img).foldl (fun s m => s.latSend 1 m) s
          else s.latSend 0 (.loadctl 2 s.pos 0 0)).setLoad 3
        .next { s with load := { s.load with verified := s.pos :: s.load.verified } }.tryApply
  else .next s

/-- LOAD_DEADLINE (R327): it runs in WAIT, READING, VERIFYING and VERIFIED only. -/
def execLoadDeadline (s : State) : Host.Outcome State Fault Refusal :=
  if s.load.deadline.isSome && s.get R.LAT_LOAD_STAT_STATE ≤ 3 then .next (s.rejectLoad 9 s.pos) else .next s

/-- A FAILED device returns to WAIT (R332); class 4 records of cause LOAD no longer block EXIT, and the clear acts as a write
of EXIT (R445). -/
def State.clearLoad (s : State) : State :=
  let s := ((s.put R.LAT_LOAD_STAT_CODE 0).put R.LAT_LOAD_STAT_REJ_POS 0).setLoad 0
  let s := { s with load := { s.load with img := none, staged := none }
                    flt := { s.flt with c4Causes := s.flt.c4Causes.filter fun c => c != 0x50 } }
  s.exitC4

/-- LOAD_CLEAR (R332, R353, R457): at the head the access writes DEADLINE; in FAILED, CLEAR goes down the chain and a deadline of that value
starts. The load fields act only on a device that holds position 0. -/
def execLoadClear (deadline : BitVec 13) (s : State) : Host.Outcome State Fault Refusal :=
  if !s.configActs || !s.isHead then .next s
  else
  let s := s.put R.YDVSEC_LOAD_CTRL_DEADLINE deadline.toNat
  if s.get R.LAT_LOAD_STAT_STATE = 6 && !s.pwr.noFw then
    .next (((s.latSend 1 (.loadctl 7 0 0 0)).clearLoad).startDeadline deadline.toNat)
  else .next s

end Sys2Proof.Machine
end

