-- ==== Sys2Proof/Machine/Chain.lean ====
section
/-! DEFINITION. The latigo chain (R333 to R345): training, the link protocol, work items and load control between devices, time
beacons and fault propagation. Port 0 is the upstream port, port 1 the downstream one. -/

namespace Sys2Proof.Machine

/-! ### Training (R333 to R335) -/

/-- The downstream port of position 7 is off, and shows a partner that is present (R335). -/
def State.portExcess (s : State) : State :=
  ((s.put (R.LAT_PSTAT_LTSTATE 1) 0).put (R.LAT_PSTAT_WIDTH 1) 0).putB (R.LAT_PSTAT_EXCESS 1) (s.port 1).partner

/-- The device takes chain position `n` (R335): 0 makes it the head, 7 turns its downstream port off. -/
def State.takePos (s : State) (n : Nat) : State :=
  let s := (s.put R.LAT_POS n).putB R.LAT_POS_HEAD (n = 0)
  if n = 7 then s.portExcess else s

/-- A port starts training; position 7 never trains its downstream port. With its upstream port not active, a device whose link to the
host is up takes position 0 (R335). -/
def State.trainPort (s : State) (p : Nat) : State :=
  if p = 1 && s.pos = 7 then s.portExcess
  else
    let s := (s.put (R.LAT_PSTAT_LTSTATE p) 1).put (R.LAT_PSTAT_WIDTH p) 0
    let s := (s.putB (R.LAT_PSTAT_REVERSED p) false).bump (R.LAT_TRAIN_CNT_COUNT p)
    if p = 0 && s.host.link != 0 then s.takePos 0 else s

/-- LATIGO_TRAIN_START (R333): a powered partner is present. -/
def execLatigoTrainStart (p : Fin 2) (s : State) : Host.Outcome State Fault Refusal :=
  .next ((s.modPort p fun x => { x with partner := true }).trainPort p)

/-- Frames of the replay buffer leave again, oldest first, and count as replayed (R338, R346). -/
def State.resend (s : State) (p : Nat) : State :=
  let l := (s.port p).replay
  let s := l.foldl (fun s e => s.modPort p fun x => { x with out := ⟨e.1, x.rxLast, e.2⟩ :: x.out }) s
  (List.range l.length).foldl (fun s _ => s.eventInst .latigo p 2) (s.bump (R.LAT_REPLAY_CNT_COUNT p) l.length)

/-- Device time in ps at 250 ps resolution (R342), `q` quarters of a ns into the present one. -/
def State.stamp (s : State) (q : Nat := 0) : Int := (1000 * s.time + s.clock.frac / 1000000 + 250 * q) / 250 * 250

/-- The next BEACON of a link (R342): T1 is its departure, and D the last delay. -/
def State.sendBeacon (s : State) (p : Nat) : State :=
  (s.latSend p (.beacon s.stamp (s.get (R.LAT_DELAY p)))).eventInst .latigo p 4

/-- A port grants the receive room that it has not granted yet, 64 KiB for each PRI from the start (R339). -/
def State.grantRoom (s : State) (p : Nat) : State :=
  let r := (s.port p).room
  if r.all fun n => n = 0 then s else (s.modPort p fun x => { x with room := [0, 0, 0, 0] }).latSend p (.credit r)

/-- The port that leads to a chain position. -/
def State.portTo (s : State) (pos : Nat) : Nat := if pos < s.pos then 0 else 1

/-- Items sent over a port whose frames were given up leave again: each stays covered by this device's journal until its destination
has accepted it (R285, R296, R338); one that had arrived is a duplicate there. -/
def State.reforward (s : State) (p : Nat) : State :=
  if (s.port p).lost then
    let back := s.sched.flights.filter fun f =>
      f.phase = .sent && !(s.dstLocal f.item.tag.dst) && s.portTo (f.item.tag.dst / 0x2000) = p
    back.foldl (fun s f => s.latSend p (.item f.item)) (s.modPort p fun x => { x with lost := false })
  else s

/-- LATIGO_ACTIVE (R333 step 5, R334, R335), after the parameter exchange: positions are taken, the replay buffers that survived the
training leave again, and the upstream side sends its first beacon. -/
def execLatigoActive (p : Fin 2) (width : Fin 4) (par : PortParams) (partnerPos : Fin 8) (s : State) :
    Host.Outcome State Fault Refusal :=
  if s.get (R.LAT_PSTAT_LTSTATE p) = 4 && width.val != 0 then
    let s := (s.put (R.LAT_PSTAT_LTSTATE p) 5).put (R.LAT_PSTAT_WIDTH p) width
    let s := s.modPort p fun x => { x with
      partner := true, partnerSerial := par.serial.toNat, partnerStep := par.stepping.val, partnerPos := partnerPos, tries := 0 }
    let s := if p = 0 then s.takePos (partnerPos + 1) else s
    let s := ((s.resend p).grantRoom p).reforward p
    let s := s.pumpPort (s.port p).waiting.length p
    .next (if p = 1 then s.sendBeacon p else s)
  else .next s

/-- TRAINING_TIMEOUT (R334). -/
def execTrainingTimeout (p : Fin 2) (s : State) : Host.Outcome State Fault Refusal :=
  let st := s.get (R.LAT_PSTAT_LTSTATE p)
  .next (if 1 ≤ st && st ≤ 4 then s.trainPort p else s)

/-! ### The link protocol (R336 to R339) -/

/-- The frames of the replay buffer behind the one with FSEQ `a`; all of them where it is not in the buffer. -/
def afterAck (l : List (Nat × LatMsg)) (a : Nat) : List (Nat × LatMsg) :=
  if l.any fun e => e.1 = a then (l.dropWhile fun e => e.1 != a).drop 1 else l

/-- The partner has every frame up to FSEQ `a`. -/
def State.acked (s : State) (p a : Nat) : State :=
  let l := afterAck (s.port p).replay a
  let s := if l.length < (s.port p).replay.length then s.modPort p fun x => { x with replay := l, tries := 0 } else s
  s.pumpPort (s.port p).waiting.length p

/-- The oldest frames are replayed; the eighth replay without progress sends the link back to training (R338). -/
def State.replayPort (s : State) (p : Nat) : State :=
  let n := (s.port p).replay.length
  if n = 0 || s.get (R.LAT_PSTAT_LTSTATE p) != 5 then s
  else
    let s := (s.resend p).modPort p fun x => { x with tries := x.tries + 1 }
    if 8 ≤ (s.port p).tries then (s.modPort p fun x => { x with tries := 0 }).trainPort p else s

/-- A frame with a bad CRC or FTYPE, or out of order, is answered with NAK (R338). -/
def State.nakFrame (s : State) (p : Nat) : State := s.latSend p .nak

/-- A frame with content `m` arrives at an ACTIVE port (R338): one with a good CRC and the expected FSEQ is taken and `f` done; the
sixteenth since the last acknowledgement is acknowledged at once. -/
def State.receive (s : State) (h : FrameHdr) (m : LatMsg) (f : State → State) : State :=
  let p := h.port.val
  if s.get (R.LAT_PSTAT_LTSTATE p) != 5 then s
  else if !frameGood h m then ((s.bump (R.LAT_CRC_CNT_COUNT p)).eventInst .latigo p 3).nakFrame p
  else if h.fseq != (s.port p).rxSeq then s.nakFrame p
  else
    let s := (s.eventInst .latigo p 1).modPort p fun x => { x with
      rxSeq := fseqSucc x.rxSeq, rxLast := h.fseq, unacked := x.unacked + 1 }
    let s := f (s.acked p h.ack)
    if 16 ≤ (s.port p).unacked then s.latSend p .ack else s

/-- A frame of type ACK, NAK or CREDIT arrives: its FSEQ is 0 and it has no place in the sequence. -/
def State.receiveCtl (s : State) (h : FrameHdr) (m : LatMsg) (f : State → State) : State :=
  let p := h.port.val
  if s.get (R.LAT_PSTAT_LTSTATE p) != 5 then s
  else if !frameGood h m then ((s.bump (R.LAT_CRC_CNT_COUNT p)).eventInst .latigo p 3).nakFrame p
  else f ((s.eventInst .latigo p 1).acked p h.ack)

/-- ACK (R338). -/
def execAck (h : FrameHdr) (s : State) : Host.Outcome State Fault Refusal := .next (s.receiveCtl h .ack id)

/-- NAK (R338): replay from the frame after the last good one. -/
def execNak (h : FrameHdr) (s : State) : Host.Outcome State Fault Refusal :=
  .next (s.receiveCtl h .nak fun s => s.replayPort h.port)

/-- CREDIT (R339): credits per PRI, at most 64 KiB of 64-byte units a level. -/
def execCredit (h : FrameHdr) (counts : List Nat) (s : State) : Host.Outcome State Fault Refusal :=
  .next (s.receiveCtl h (.credit counts) fun s =>
    let p := h.port.val
    let s := s.modPort p fun x => { x with credits := (List.range 4).map fun k => min 1024 (x.credits.getD k 0 + counts.getD k 0) }
    s.pumpPort (s.port p).waiting.length p)

/-- REPLAY_TIMEOUT (R338). -/
def execReplayTimeout (p : Fin 2) (s : State) : Host.Outcome State Fault Refusal := .next (s.replayPort p)

/-- ACK_TIMER (R338): 16 frames or 1 µs. -/
def execAckTimer (p : Fin 2) (s : State) : Host.Outcome State Fault Refusal :=
  .next (if 0 < (s.port p).unacked then s.latSend p .ack else s)

/-- LINK_DOWN_TIMEOUT (R338, R344): the replay buffer is discarded and a class 3 fault raised from the port. -/
def execLinkDownTimeout (p : Fin 2) (s : State) : Host.Outcome State Fault Refusal :=
  if s.get (R.LAT_PSTAT_LTSTATE p) = 5 || s.get (R.LAT_PSTAT_LTSTATE p) = 0 then .next s
  else
    let s := s.modPort p fun x => { x with replay := [], tries := 0, lost := true }
    .next (s.raise (s.srcDev (0x12 + p)) 3 0x40 0)

/-- LAT_CRC_CNT_READ (R346). -/
def execLatCrcCntRead (p : Fin 2) (s : State) : Host.Outcome State Fault Refusal :=
  .next (s.readClear (R.LAT_CRC_CNT_COUNT p))

/-- LAT_REPLAY_CNT_READ (R346). -/
def execLatReplayCntRead (p : Fin 2) (s : State) : Host.Outcome State Fault Refusal :=
  .next (s.readClear (R.LAT_REPLAY_CNT_COUNT p))

/-! ### Work items (R285, R339) -/

/-- The checks that only the destination's device can make (R18, R268, R280), in the order of R485: its unit, the stream, the TYPE
that the unit takes, and the LEN it has room for. -/
def State.arrivalBad (s : State) (it : Item) : Nat :=
  let g := it.tag
  let st := s.stream g.stream
  if s.dstBad g.dst then 1
  else if !(st.state = 1 || st.state = 3) || g.dst != st.dst then 3
  else if !s.typOk st g then 4
  else if s.lenBad st g then 2
  else 0

/-- An item for this device (R273, R485): accepted, held, answered again as a duplicate, or refused. -/
def State.itemArrives (s : State) (p : Nat) (it : Item) : State :=
  let k := it.tag.stream
  let bad := s.arrivalBad it
  if bad != 0 then s.refuseItem k it.tag.seq bad (some it.tag.pri)
  else match s.arrival k it.tag.seq with
    | .duplicate => (s.duplicate k it.tag.pri).latSend p (.itemAcc k it.tag.seq)
    | .take => s.enter it false (some p)
    | .hold => s.enter it true (some p)
    | .tooFar => s.refuseItem k it.tag.seq 6 (some it.tag.pri)
    | .gapFull => s.refuseItem k it.tag.seq 9 (some it.tag.pri)

/-- An item can leave the receive buffer: it enters nothing, or there is room for it (R290). -/
def State.itemFits (s : State) (it : Item) : Bool :=
  s.arrivalBad it != 0 || !(s.arrival it.tag.stream it.tag.seq = .take || s.arrival it.tag.stream it.tag.seq = .hold) || s.hasRoomFor it

/-- The receive buffer that an item took is granted again (R339). -/
def State.creditItem (s : State) (p : Nat) (it : Item) : State :=
  s.latSend p (.credit ((List.range 4).map fun k => if k = it.tag.pri then msgUnits (.item it) else 0))

/-- Items in a port's receive buffer enter in order while they fit, at most `n` (R290, R339). -/
def State.drainInbox : Nat → State → Nat → State
  | 0, s, _ => s
  | n + 1, s, p =>
    match (s.port p).inbox with
    | [] => s
    | it :: l =>
      if s.itemFits it then
        State.drainInbox n (((s.modPort p fun x => { x with inbox := l }).itemArrives p it).creditItem p it) p
      else s

/-- ITEM (R339): an item for this device enters its scheduler, or waits in the receive buffer for room (R290); any other passes
through. -/
def execItem (h : FrameHdr) (it : Item) (s : State) : Host.Outcome State Fault Refusal :=
  .next (s.receive h (.item it) fun s =>
    let p := h.port.val
    if s.dstLocal it.tag.dst then
      let s := s.modPort p fun x => { x with inbox := x.inbox ++ [it] }
      State.drainInbox (s.port p).inbox.length s p
    else (s.latSend (s.portTo (it.tag.dst / 0x2000)) (.item it)).creditItem p it)

/-- ITEM_ACC (R286, R339): the item's device has accepted it, which executes it here; on a device between, the frame passes
on. -/
def execItemAcc (h : FrameHdr) (k : Fin 4096) (seq : Nat) (s : State) : Host.Outcome State Fault Refusal :=
  .next (s.receive h (.itemAcc k seq) fun s =>
    if s.sched.flights.any fun f => f.is k seq && f.phase = .sent && !(s.dstLocal f.item.tag.dst) then s.executed k seq
    else s.latSend (1 - h.port) (.itemAcc k seq))

/-! ### Load frames (R329, R332, R337) -/

/-- Stream bytes join those that have come; `len` counts what came without a gap. -/
def persAdd (x : PersStream) (off : Nat) (bs : List Byte) : PersStream :=
  { x with bytes := memWrite x.bytes off bs, len := if off ≤ x.len then max x.len (off + bs.length) else x.len }

/-- LOAD (R329): stream bytes arrive from upstream and go on downstream. -/
def execLoad (h : FrameHdr) (off : Nat) (bytes : List Byte) (s : State) : Host.Outcome State Fault Refusal :=
  .next (s.receive h (.load off bytes) fun s =>
    let ld := match s.load.img with
      | some x => if s.isHead then s.load else { s.load with img := some (persAdd x off bytes) }
      | none => s.load
    ({ s with load := ld } : State).latSend 1 (.load off bytes))

/-- LOADCTL_START (R337): the stream comes in the LOAD frames behind it; `chk` is what its FABRIC sections will say in the fabric's own
format. -/
def execLoadctlStart (h : FrameHdr) (deadline : Nat) (chk : StreamCheck) (s : State) : Host.Outcome State Fault Refusal :=
  .next (s.receive h (.loadctl 1 0 0 deadline) fun s =>
    let s := s.latSend 1 (.loadctl 1 0 0 deadline)
    if !s.isHead && s.get R.LAT_LOAD_STAT_STATE = 0 then
      let img : PersStream := { bytes := [], chk := chk }
      let ld := { s.load with img := some img, sigOk := false, verified := [], done := [], deadline := some deadline }
      { s with load := ld }.setLoad 1
    else s)

/-- LOADCTL_VERIFIED (R329): the head counts it, any other device passes it upstream. -/
def execLoadctlVerified (h : FrameHdr) (pos : Fin 8) (s : State) : Host.Outcome State Fault Refusal :=
  .next (s.receive h (.loadctl 2 pos 0 0) fun s =>
    if s.isHead then { s with load := { s.load with verified := pos.val :: s.load.verified } }.tryApply
    else s.latSend 0 (.loadctl 2 pos 0 0))

/-- LOADCTL_REJECT (R332): it ends the load at the head, also where the head itself is LOADED already. -/
def execLoadctlReject (h : FrameHdr) (pos : Fin 8) (code : Fin 16) (s : State) : Host.Outcome State Fault Refusal :=
  .next (s.receive h (.loadctl 3 pos code 0) fun s =>
    let st := s.get R.LAT_LOAD_STAT_STATE
    if !s.isHead then s.latSend 0 (.loadctl 3 pos code 0)
    else if 1 ≤ st && st ≤ 5 then s.rejectLoad code pos
    else s)

/-- LOADCTL_APPLY (R329 step 5). -/
def execLoadctlApply (h : FrameHdr) (s : State) : Host.Outcome State Fault Refusal :=
  .next (s.receive h (.loadctl 4 0 0 0) fun s => if s.get R.LAT_LOAD_STAT_STATE = 3 then s.applyStarts else s)

/-- LOADCTL_ABORT (R332): the device goes FAILED with a class 4 fault and every pin on its safe pull, whatever it has reached, and
passes it on. -/
def execLoadctlAbort (h : FrameHdr) (pos : Fin 8) (code : Fin 16) (s : State) : Host.Outcome State Fault Refusal :=
  .next (s.receive h (.loadctl 5 pos code 0) fun s =>
    let s := s.latSend 1 (.loadctl 5 pos code 0)
    if s.get R.LAT_LOAD_STAT_STATE ≤ 5 then
      let s := ((s.put R.LAT_LOAD_STAT_CODE code).put R.LAT_LOAD_STAT_REJ_POS pos).setLoad 6
      let s := ({ s with load := { s.load with img := none, deadline := none } } : State).dropPins
      s.raise (s.srcDev 0x14) 4 0x50 code
    else s)

/-- LOADCTL_DONE (R337): a device finished applying. -/
def execLoadctlDone (h : FrameHdr) (pos : Fin 8) (s : State) : Host.Outcome State Fault Refusal :=
  .next (s.receive h (.loadctl 6 pos 0 0) fun s =>
    if s.isHead then { s with load := { s.load with done := pos.val :: s.load.done } } else s.latSend 0 (.loadctl 6 pos 0 0))

/-- LOADCTL_CLEAR (R332). -/
def execLoadctlClear (h : FrameHdr) (s : State) : Host.Outcome State Fault Refusal :=
  .next (s.receive h (.loadctl 7 0 0 0) fun s =>
    let s := s.latSend 1 (.loadctl 7 0 0 0)
    if s.get R.LAT_LOAD_STAT_STATE = 6 then s.clearLoad else s)

/-! ### Time beacons (R342, R343) -/

/-- BEACON_SEND (R342): the upstream side of an active link. -/
def execBeaconSend (s : State) : Host.Outcome State Fault Refusal :=
  .next (if s.get (R.LAT_PSTAT_LTSTATE 1) = 5 then s.sendBeacon 1 else s)

/-- Whether |e| in ps is at most `lim`. -/
def within (e : Int) (lim : Nat) : Bool := -(lim : Int) ≤ e && e ≤ lim

/-- The error of a beacon (R343): a step before the first lock, a slew after it; four good beacons set LOCK, two bad ones clear
it. Times are in ps. -/
def State.beaconError (s : State) (e : Int) : State :=
  let s := s.put R.LAT_TIME_ERR (lowBits 32 (clampInt (-2147483648) 2147483647 e))
  let c := s.clock
  let c := { c with good := if within e 1000 then c.good + 1 else 0, bad := if within e 2000 then 0 else c.bad + 1, missed := 0 }
  let s := if c.everLocked then { s with clock := { c with slew := -1000 * e } }
    else
      let now : Int := (s.time : Int) * 1000000000 + c.frac - e * 1000000
      { s with clock := { c with frac := (now % 1000000000).toNat }, time := (now / 1000000000 % (2 ^ 64 : Nat)).toNat }
  let s := if 4 ≤ c.good then { s.putB R.LAT_TIME_STAT_LOCK true with clock := { s.clock with everLocked := true } } else s
  if 2 ≤ c.bad then s.putB R.LAT_TIME_STAT_LOCK false else s

/-- A beacon is missed (R343): the third one clears LOCK. -/
def State.missBeacon (s : State) : State :=
  let s := { s with clock := { s.clock with missed := s.clock.missed + 1, good := 0 } }
  if 3 ≤ s.clock.missed then s.putB R.LAT_TIME_STAT_LOCK false else s

/-- BEACON (R342, R343, R345): it arrives at T2, `q` quarters of a ns into the present one; the downstream device keeps the link's
delay, answers, and forms e = T2 − T1 − D. One lost to a replay counts as missed. -/
def execBeacon (h : FrameHdr) (t1 d : Int) (q : Fin 4) (s : State) : Host.Outcome State Fault Refusal :=
  .next (s.receive h (.beacon t1 d) fun s =>
    let t2 := s.stamp q
    let s := s.latSend h.port (.beaconReply t1 t2 (s.stamp q))
    if h.port != 0 then s
    else if h.replayed then s.missBeacon
    else (s.put (R.LAT_DELAY 0) (lowBits 32 d)).beaconError (t2 - t1 - d))

/-- BEACON_REPLY (R342): it arrives at T4, `q` quarters of a ns into the present one; D = ((T4 − T1) − (T3 − T2)) ÷ 2. -/
def execBeaconReply (h : FrameHdr) (t1 t2 t3 : Int) (q : Fin 4) (s : State) : Host.Outcome State Fault Refusal :=
  .next (s.receive h (.beaconReply t1 t2 t3) fun s =>
    s.put (R.LAT_DELAY h.port) (lowBits 32 (((s.stamp q - t1) - (t3 - t2)) / 2)))

/-- BEACON_MISSED (R343). -/
def execBeaconMissed (s : State) : Host.Outcome State Fault Refusal := .next s.missBeacon

/-! ### Faults (R344) -/

/-- FAULT (R344): passed on away from its port, and joined as class 4 or recorded as class 2. A FAILED device records it
(R345). -/
def execFault (h : FrameHdr) (cls : Nat) (origin : Fin 8) (cause : Nat) (source : Nat) (s : State) :
    Host.Outcome State Fault Refusal :=
  .next (s.receive h (.fault cls origin cause source) fun s =>
    let s := s.latSend (1 - h.port) (.fault cls origin cause source)
    let info := origin.val + cls % 256 * 2 ^ 8 + cause % 65536 * 2 ^ 16
    let join := s.bit R.LAT_CFG_FAULT_JOIN && s.get R.LAT_LOAD_STAT_STATE != 6
    s.raise (s.srcDev (0x12 + h.port)) (if join then 4 else 2) 0x41 info true)

end Sys2Proof.Machine
end

