-- ==== Sys2Proof/Machine/Memory.lean ====
section
/-! DEFINITION. Memory commands (chapter 09): TLB invalidations (R240), the patrol scrub (R228), the loss of a DRAM channel and
the journal's copies (R230, R292), and reads of the read-to-clear counters (R258 to R260). -/

namespace Sys2Proof.Machine

/-! ### TLB invalidation (R240) -/

/-- The operation fields of a TLBI register take what the command writes. -/
def State.tlbiFields (s : State) (sc : TlbScope) (op : Nat) : State :=
  match sc with
  | .all => s.put R.MEM_TLBI_OP op
  | .cluster c t => (s.put (R.CL_TLBI_OP c.val) op).put (R.CL_TLBI_TARGET c.val) t.toNat

/-- ASID of a TLBI register takes what a command with an ASID writes. -/
def State.tlbiAsid (s : State) (sc : TlbScope) (asid : Nat) : State :=
  match sc with
  | .all => s.put R.MEM_TLBI_ASID asid
  | .cluster c _ => s.put (R.CL_TLBI_ASID c.val) asid

/-- The VA registers of a scope hold what the command acts on. -/
def State.tlbiVa (s : State) (sc : TlbScope) (va : Nat) : State :=
  match sc with
  | .all => (s.put R.MEM_TLBI_VA_LO_VA (va / 4096)).put R.MEM_TLBI_VA_HI_VA (va / 2 ^ 32)
  | .cluster c _ => (s.put (R.CL_TLBI_VA_LO_VA c.val) (va / 4096)).put (R.CL_TLBI_VA_HI_VA c.val) (va / 2 ^ 32)

/-- TLBI_ALL (R240): every entry of the selected TLBs is removed. -/
def execTlbiAll (w : Writer) (sc : TlbScope) (s : State) : Host.Outcome State Fault Refusal :=
  .next (s.byOwner w (tlbPage sc) fun s => (s.tlbiFields sc 1).tlbi sc .all)

/-- TLBI_ASID (R240): every entry of the ASID that is not global. -/
def execTlbiAsid (w : Writer) (sc : TlbScope) (asid : BitVec 12) (s : State) : Host.Outcome State Fault Refusal :=
  .next (s.byOwner w (tlbPage sc) fun s => ((s.tlbiFields sc 2).tlbiAsid sc asid.toNat).tlbi sc (.asid asid.toNat))

/-- TLBI_VA_ASID (R240): every entry covering VA whose ASID matches or that is global. -/
def execTlbiVaAsid (w : Writer) (sc : TlbScope) (asid : BitVec 12) (va : BitVec 48) (s : State) :
    Host.Outcome State Fault Refusal :=
  .next (s.byOwner w (tlbPage sc) fun s =>
    (((s.tlbiFields sc 3).tlbiAsid sc asid.toNat).tlbiVa sc va.toNat).tlbi sc (.vaAsid asid.toNat va.toNat))

/-- TLBI_VA_ALL (R240): every entry covering VA. -/
def execTlbiVaAll (w : Writer) (sc : TlbScope) (va : BitVec 48) (s : State) : Host.Outcome State Fault Refusal :=
  .next (s.byOwner w (tlbPage sc) fun s => ((s.tlbiFields sc 4).tlbiVa sc va.toNat).tlbi sc (.vaAll va.toNat))

/-- TLBI_DONE (R240): the entries are removed and every access through them has completed, so BUSY reads 0. -/
def execTlbiDone (sc : TlbScope) (s : State) : Host.Outcome State Fault Refusal := .next (s.tlbiEnd sc)

/-! ### Errors and channels (R228, R230, R292) -/

/-- PATROL_SCRUB (R228): the scrub reads a line at a channel address; an error is handled as at any read. MEM_STAT.SCRUB reads 1
until the pass has read the last line of the last channel (R258, assumption log 145). -/
def execPatrolScrub (ch : Fin 4) (addr : BitVec 32) (found : EccOutcome) (s : State) : Host.Outcome State Fault Refusal :=
  let s := s.putB R.MEM_STAT_SCRUB (!(ch = 3 && addr.toNat / 64 = 2 ^ 26 - 1))
  .next (match found with
    | .clean => s
    | .corrected => s.eccCorrected ch.val
    | .uncorrectable => s.eccUncorrectable ch.val addr.toNat (if addr.toNat < 0xF0000000 then 0 else 1))

/-- An item that was taken and not accepted is gone: its stream expects it again (R301). -/
def State.expectAgain (s : State) (f : Flight) : State :=
  if f.jrn || f.isD || f.phase = .held then s else s.modStream f.item.tag.stream fun st => { st with exp := seqSucc st.acc }

/-- What was taken and is in no journal copy is gone: its streams expect it again, and CONS passes no entry that was being
journalled, so that the rings' entries from CONS on are read again (R301). -/
def State.forgetTaken (s : State) : State :=
  let s := s.sched.flights.foldl (fun s f => s.expectAgain f) s
  s.sched.rings.foldl (fun s e => s.modRing e.1 fun x => { x with next := x.cons, open_ := [] }) s

/-- Loss of the last journal copy (R292, R298): a class 4 fault, and every item the journal held is gone (assumption
log 16). -/
def State.journalLost (s : State) : State :=
  let s := s.forgetTaken.setFlights []
  s.raise (s.srcDev 0x15) 4 0x33 0

/-- A journal copy is lost with its channel (R292): the journal continues on the other, and is rebuilt while two channels
remain. -/
def State.journalCopyLost (s : State) (ch : Nat) : State :=
  let a := s.get R.MEM_STAT_JRN_A
  let b := s.get R.MEM_STAT_JRN_B
  let lost := (List.range 4).filter fun c => s.chLost c
  if s.chLost a && s.chLost b then (s.putB R.SCHED_STAT_REBUILD false).journalLost
  else if ch = a || ch = b then
    (s.putB R.SCHED_STAT_JRN_SINGLE true).putB R.SCHED_STAT_REBUILD (lost.length < 3)
  else s.putB R.SCHED_STAT_REBUILD (s.bit R.SCHED_STAT_REBUILD && lost.length < 3)

/-- DRAM_CHANNEL_LOST (R230): the channel's bit is set, a class 3 fault is raised, and the journal runs on what is left. -/
def execDramChannelLost (ch : Fin 4) (s : State) : Host.Outcome State Fault Refusal :=
  .next (if s.chLost ch.val then s
    else ((s.putIdx R.MEM_STAT_CH_LOST ch.val true).journalCopyLost ch.val).raise (s.srcDev 0x11) 3 0x32 ch.val)

/-- JOURNAL_REBUILD_DONE (R292): every live entry is in a new second channel, which JRN_B names; the surviving copy is the
first. -/
def execJournalRebuildDone (ch : Fin 4) (s : State) : Host.Outcome State Fault Refusal :=
  .next (
    let a := s.get R.MEM_STAT_JRN_A
    let keep := if s.chLost a then s.get R.MEM_STAT_JRN_B else a
    if s.bit R.SCHED_STAT_REBUILD && !s.chLost ch.val && ch.val != keep then
      let s := (s.put R.MEM_STAT_JRN_A keep).put R.MEM_STAT_JRN_B ch.val
      (s.putB R.SCHED_STAT_JRN_SINGLE false).putB R.SCHED_STAT_REBUILD false
    else s)

/-! ### Counters that a read clears (R258 to R260) -/

/-- MEM_ECC_CNT_READ (R258). -/
def execMemEccCntRead (s : State) : Host.Outcome State Fault Refusal := .next (s.readClear R.MEM_ECC_CNT_COUNT)

/-- CL_TLB_MISS_READ (R259). -/
def execClTlbMissRead (c : Fin 16) (s : State) : Host.Outcome State Fault Refusal :=
  .next (s.readClear (R.CL_TLB_MISS_COUNT c.val))

/-- DMA_TLB_MISS_READ (R260). -/
def execDmaTlbMissRead (c : Fin 16) (s : State) : Host.Outcome State Fault Refusal :=
  .next (s.readClear (R.DMA_TLB_MISS_COUNT c.val))

end Sys2Proof.Machine
end

