-- ==== Sys2Proof/Machine/EngPage.lean ====
section
/-! DEFINITION. Engine commands that carry no instruction: invocations and levels (R173 to R175, R198 to R202), service states
(R181, R182), the engine page's commands (R203), and the answers to a suspended access (R251, R254). -/

namespace Sys2Proof.Machine

/-! ### Invocations and levels -/

/-- The queued invocation that R175 starts next, if nothing runs. -/
def EngSt.nextInv (x : EngSt) : Option Inv :=
  if x.run.isSome then none
  else match x.startLevel with
    | none => none
    | some p => x.queue.find? fun i => i.pri = p

/-- A quiesce of unit `id` has abandoned its work, or is past that (R293 steps 3 and later). -/
def State.quiesceLate (s : State) (id : Nat) : Bool := s.sched.quiesce.any fun q => q.1 = id && 2 ≤ q.2

/-- INVOCATION_START (R173, R175, R181); none once a quiesce has abandoned what ran (R293). -/
def execInvocationStart (e : Fin 128) (s : State) : Host.Outcome State Fault Refusal :=
  .next (if s.engLive e && s.engDispatches e && !s.quiesceLate (s.unitId (0x100 + e.val)) then
    match (s.eng e).nextInv with
    | none => s
    | some i => s.invStart e i
  else s)

/-- A pending invocation stands above the running one (R175). -/
def EngSt.preempts (x : EngSt) : Bool :=
  match x.run, x.topPending with
  | some i, some p => i.pri < p
  | _, _ => false

/-- PREEMPTION (R175, R198, R200): the running context is saved at a pre-emption point. A fault during the save is a double
fault (R201). -/
def execPreemption (e : Fin 128) (faulty : Bool) (s : State) : Host.Outcome State Fault Refusal :=
  .next (if s.engLive e && s.engDispatches e && (s.eng e).preempts && (s.eng e).atPoint then
    if faulty then s.engException e 0x30 else s.invSave e
  else s)

/-- The level that R175 resumes: nothing runs, and nothing higher is pending. -/
def EngSt.resumeLevel (x : EngSt) : Option Nat :=
  if x.run.isSome then none
  else match x.topSaved, x.startLevel with
    | some p, none => some p
    | _, _ => none

/-- INVOCATION_RESUME (R175, R200). A fault during the restore is a double fault (R201). -/
def execInvocationResume (e : Fin 128) (faulty : Bool) (s : State) : Host.Outcome State Fault Refusal :=
  .next (if s.engLive e then
    match (s.eng e).resumeLevel with
    | none => s
    | some p => if faulty then s.engException e 0x30 else s.invRestore e p
  else s)

/-- INBUF_APPLY (R174): what waits is delivered into the new buffer. -/
def execInbufApply (e : Fin 128) (s : State) : Host.Outcome State Fault Refusal := .next ((s.inbufApply e).feedEngine e)

/-! ### Service states (R181) -/

/-- SELF_TEST_DONE (R181, R182): a passed test leads to NORMAL, from RECOVER once the program is reloaded and no invocation runs or
is pre-empted; a failed one contains the engine. -/
def execSelfTestDone (e : Fin 128) (pass : Bool) (s : State) : Host.Outcome State Fault Refusal :=
  let st := s.get (R.ENG_STAT_STATE e)
  .next (if st = 1 || !s.engReady e || s.bit (R.ENG_STAT_CONTAINED e) then s
  else if !pass then s.raise (s.srcEng e) 3 0x23 0
  else if st = 3 && !((s.eng e).reloaded && (s.eng e).still) then s.modEng e fun x => { x with tested := true }
  else s.engNormal e)

/-! ### The engine page (R203) -/

/-- ENG_HALT (R203). -/
def execEngHalt (w : Writer) (e : Fin 128) (s : State) : Host.Outcome State Fault Refusal :=
  .next (s.byOwner w (.engine e) fun s => s.engHalt e)

/-- ENG_RESUME (R203). -/
def execEngResume (w : Writer) (e : Fin 128) (s : State) : Host.Outcome State Fault Refusal :=
  .next (s.byOwner w (.engine e) fun s => s.engResume e)

/-- ENG_TEST (R203). -/
def execEngTest (w : Writer) (e : Fin 128) (s : State) : Host.Outcome State Fault Refusal :=
  .next (s.byOwner w (.engine e) fun s => s.engTest e)

/-- ENG_PRE_MAX_READ (R203, RC). -/
def execEngPreMaxRead (e : Fin 128) (s : State) : Host.Outcome State Fault Refusal :=
  .next (s.readClear (R.ENG_PRE_MAX e))

/-! ### Answers to a suspended access (R251) -/

/-- The page of an engine's cluster. -/
def clusterOf (e : Nat) : Page := .cluster (Fin.ofNat 16 (e / 8))

/-- RETRY (R251, R257). -/
def execRetry (w : Writer) (e : Fin 128) (s : State) : Host.Outcome State Fault Refusal :=
  .next (s.byOwner w (clusterOf e) fun s => s.engRetry e)

/-- ABANDON (R251, R254). -/
def execAbandon (w : Writer) (e : Fin 128) (s : State) : Host.Outcome State Fault Refusal :=
  .next (s.byOwner w (clusterOf e) fun s => s.engGiveUp e)

/-- CL_FAULT_TIMEOUT (R251): as ABANDON; none while CL_FAULT_TMO is 0, or for an access that waits for the link (R254). -/
def execClFaultTimeout (e : Fin 128) (s : State) : Host.Outcome State Fault Refusal :=
  .next (if s.get (R.CL_FAULT_TMO (e.val / 8)) = 0 || (s.eng e).link then s else s.engGiveUp e)

end Sys2Proof.Machine
end

