-- ==== Sys2Proof/Machine/Cal.lean ====
section
/-! DEFINITION. Calibration commands (chapter 06): self-calibration, the system calibration procedure, coefficient ramps
and DAC core rotation. -/

namespace Sys2Proof.Machine

/-! ### Self-calibration (R143 to R149) -/

/-- SELF_CAL_GROUP (R144): the tiles of the group whose domains are ready and that have not been calibrated. -/
def execSelfCalGroup (g : Fin 4) (s : State) : Host.Outcome State Fault Refusal :=
  .next ((List.range 8).foldl (fun s i =>
    let t := 8 * g.val + i
    if !(s.tile t).selfCal && (s.tile t).work.isNone && s.domReady (domConv t) && s.domReady (domField t) then
      (s.modTile t fun x => { x with work := some .powerUp, begun := true }).putB (R.CAL_STAT_BUSY t) true
    else s) s)

/-- A successful self-calibration is committed to the tile's record (R143, R164). -/
def State.commitSelf (s : State) (t : Nat) : State :=
  let r : CalRec := { time := s.calTime, count := ((s.selfStored t).getD {}).count + 1 }
  ((s.setSelfPair t ((s.selfPair t).commit (selfRecord t) r)).ledgerWrite (.tileSelf t)).showSelf t

/-- The channels that a scope calibrates: new input coefficients of each ramp (R147); converter B converts every channel's source. -/
def State.scopeChannels (s : State) (t scope ch : Nat) : List Nat :=
  if scope = 0 then channels.filter fun c => 8 ≤ c || isAnalogue (s.func t c) && s.func t c != 14
  else if scope = 1 || scope = 2 then channels else if scope = 3 then [ch] else []

/-- Retired cores leave the route: D0 and D1 take the lowest good cores (R146). -/
def State.routeCores (s : State) (t : Nat) : State :=
  let good := [0, 1, 2].filter fun k => !s.getIdx (R.CAL_STAT_CORE_BAD t) k
  let all := good ++ [0, 1, 2].filter fun k => !good.contains k
  let s := (s.put (R.TILE_DAC_ROUTE_D0_CORE t) (all.getD 0 0)).put (R.TILE_DAC_ROUTE_D1_CORE t) (all.getD 1 1)
  s.put (R.TILE_DAC_ROUTE_SPARE_CORE t) (all.getD 2 2)

/-- A pin whose logical core has no good physical core any more loses its output function (R146, R31; DESIGN CHOICE, log 142). -/
def State.dropCores (s : State) (t : Nat) : State :=
  s.eachPin fun s n =>
    match s.coreOf t n with
    | some k =>
      if k < s.goodCores t then s
      else (((s.outDetach t n).put (R.PIN_STAT_FUNC_ACT t n) 0).putB (R.PIN_STAT_CFG_ERR t n) true).releaseCore t n
    | none => s

/-- SELF_RESULT of a self-calibration that found `limit` or not: REF, LIMIT, LEDGER or OK (R145, R169). -/
def State.selfResult (s : State) (t : Nat) (r : SelfCal) (limit : Bool) : Nat :=
  if r.ref || s.bit (R.TILE_REF_STAT_REF_ERR t) || s.bit (R.TILE_REF_STAT_ZERO_ERR t) then 1
  else if limit then 2 else if r.ledgerBad then 5 else 0

/-- A self-calibration ends with result `res`: one that failed under R145 raises its class 2 fault and marks the tile's words UNCAL
until one succeeds; one that the ledger did not take (LEDGER) is in effect all the same (DESIGN CHOICE, log 143). -/
def State.selfEnded (s : State) (t res : Nat) : State :=
  let fail := res = 1 || res = 2
  let s := (s.modTile t fun x => { x with selfFail := fail }).endWork t res
  if fail then s.raise (s.srcTile t (.calib (Fin.ofNat 32 t))) 2 0x15 res else s

/-- The end of a tile's power-up self-calibration (R143 to R146); outputs that waited for it on the safe pull return (R166). A retired
core stays retired until the next power-up, also where the calibration is that of a later fiddlehead start. -/
def State.powerUpCal (s : State) (t : Nat) (r : SelfCal) : State :=
  let res := s.selfResult t r r.limit
  let again := (s.tile t).recal
  let s := s.modTile t fun x => { x with selfCal := true, recal := false }
  let s := s.put (R.CAL_STAT_CORE_BAD t) (s.get (R.CAL_STAT_CORE_BAD t) ||| r.coreBad.toNat)
  let s := if r.coreBad = 0 then s else (s.routeCores t).dropCores t
  let s := s.selfEnded t res
  let s := if res = 0 then s.commitSelf t else s
  (if again then s.reattachOuts t else s).connectTile t

/-- The spare core failed (R161). -/
def State.spareBad (s : State) (t : Nat) : State :=
  let s := s.putB (R.CAL_ROT_STAT_SPARE_BAD t) true
  s.raise (s.srcTile t (.calib (Fin.ofNat 32 t))) 1 0x17 0

/-- A channel's ramp after a self-calibration on request (R157, R158): to the set that the channel has or was ramping to. -/
def State.rerunRamp (s : State) (t ch : Nat) : State :=
  match tblFind (s.tile t).ramps ch with
  | some r => s.startRamp t ch r.off1 r.gain1
  | none => s.startRamp t ch (s.offOf t ch) (s.gainOf t ch)

/-- The end of a self-calibration on request (R145, R147, R157, R161). Scopes 0 to 3 count in CAL_TILE_CNT and commit the tile's
record; SPARE, which finds no input coefficients, does not (DESIGN CHOICE, log 140). A SPARE that finds the core outside its limits
retires it as R161 says and ends LIMIT without the class 2 fault of an input element (R145, R146). -/
def State.requestCal (s : State) (t scope ch : Nat) (r : SelfCal) : State :=
  if scope = 4 then
    let bad := s.get (R.TILE_DAC_ROUTE_SPARE_CORE t) < 3 && r.coreBad.toNat.testBit (s.get (R.TILE_DAC_ROUTE_SPARE_CORE t))
    let res := s.selfResult t { r with ledgerBad := false } false
    if res = 0 && bad then (s.endWork t 2).spareBad t
    else
      let s := s.selfEnded t res
      if res = 0 then s.putB (R.CAL_ROT_STAT_SPARE_BAD t) false else s
  else
    let res := s.selfResult t r r.limit
    let s := s.selfEnded t res
    let s := if res = 0 then s.commitSelf t else s
    if res = 0 || res = 5 then (s.scopeChannels t scope ch).foldl (fun s c => s.rerunRamp t c) s else s

/-- SELF_CAL_DONE (R145, R147). -/
def execSelfCalDone (t : Fin 32) (r : SelfCal) (s : State) : Host.Outcome State Fault Refusal :=
  match (s.tile t).work with
  | none => .next s
  | some k =>
    if r.aborted then .next (s.endWork t 4)
    else
      let s := s.event (.calib t) 0
      match k with
      | .powerUp => .next (s.powerUpCal t r)
      | .request scope ch => .next (s.requestCal t scope ch r)

/-- The cases of R148 that refuse every scope. -/
def State.calBusy (s : State) (t : Nat) : Bool :=
  s.bit (R.TILE_ADC_STAT_INTLV_ACT t) || (s.tile t).intlvEnter || (s.tile t).work.isSome ||
    s.get (R.CAL_SYS_STAT_STATE t) != 0

/-- A request of scope `scope` (R147), or its refusal (R148) when it is busy or `bad`. -/
def State.calRequest (s : State) (w : Writer) (t scope ch : Nat) (bad : Bool := false) : State :=
  let p : Page := .calib (Fin.ofNat 32 t)
  s.byOwner w p fun s =>
    if bad || s.calBusy t then (s.put (R.CAL_STAT_SELF_RESULT t) 3).done p
    else
      let s := s.modTile t fun x => { x with work := some (.request scope ch), workAt := s.time }
      (s.putB (R.CAL_STAT_BUSY t) true).put (R.CAL_STAT_SCOPE_ACT t) scope

/-- CAL_REQ_TILE_IN (R147). -/
def execCalReqTileIn (w : Writer) (t : Fin 32) (s : State) : Host.Outcome State Fault Refusal :=
  .next (s.calRequest w t 0 0)
/-- CAL_REQ_CONV_A (R147). -/
def execCalReqConvA (w : Writer) (t : Fin 32) (s : State) : Host.Outcome State Fault Refusal :=
  .next (s.calRequest w t 1 0)
/-- CAL_REQ_CONV_B (R147). -/
def execCalReqConvB (w : Writer) (t : Fin 32) (s : State) : Host.Outcome State Fault Refusal :=
  .next (s.calRequest w t 2 0)
/-- CAL_REQ_FRONT_END (R147): refused for a channel whose function has no analogue input (R148), and for CH 10 to 15, which name no
channel (DESIGN CHOICE, log 139: R148 does not list them). -/
def execCalReqFrontEnd (w : Writer) (t : Fin 32) (ch : Fin 16) (s : State) : Host.Outcome State Fault Refusal :=
  let f := s.func t ch
  let none_ := f = 0 || f = 7 || f = 8 || f = 9 || f = 10 || f = 12 || f = 14
  .next (s.calRequest w t 3 ch (10 ≤ ch.val || (ch.val < 8 && none_)))
/-- CAL_REQ_SPARE (R147). -/
def execCalReqSpare (w : Writer) (t : Fin 32) (s : State) : Host.Outcome State Fault Refusal :=
  .next (s.calRequest w t 4 0)

/-! ### The system calibration procedure (R152 to R156) -/

/-- A command that is not accepted in the current STATE (R152). -/
def State.calState (s : State) (t : Nat) : State := s.put (R.CAL_SYS_STAT_REASON t) 9

def State.ref0 (s : State) (t : Nat) : Int := sext 20 (s.get (R.CAL_SYS_REF0 t))
def State.ref1 (s : State) (t : Nat) : Int := sext 20 (s.get (R.CAL_SYS_REF1 t))

/-- Point `point` of a capture begins (R154). -/
def State.beginPoint (s : State) (t point : Nat) : State :=
  let c := (s.tile t).cap
  if !s.bit (R.TILE_ADC_STAT_RUNNING t) || (s.capSlot t c.ch).isNone then s.endProc t 1
  else if point = 0 && (s.ref1 t - s.ref0 t).natAbs < s.get (R.CAL_SYS_LIM_MINSPAN t) then s.endProc t 2
  else
    let s := s.modTile t fun x => { x with cap := { c with
      point := point, count := 0, sum := 0, low := 0, high := 0, bCount := 0, bSum := 0 } }
    (s.put (R.CAL_SYS_STAT_STATE t) (if point = 0 then 1 else 3)).put (R.CAL_SYS_STAT_WORDS t) 0

/-- CAPTURE0 (R152). -/
def execCapture0 (w : Writer) (t : Fin 32) (s : State) : Host.Outcome State Fault Refusal :=
  .next (s.byOwner w (.calib t) fun s =>
    if s.get (R.CAL_SYS_STAT_STATE t) != 0 || (s.tile t).work.isSome then s.calState t
    else
      let ch := s.get (R.CAL_SYS_CFG_CH t)
      let s := s.put (R.CAL_SYS_STAT_REASON t) 0
      if 10 ≤ ch then s.endProc t 2
      else (s.modTile t fun x => { x with cap := { ch := ch } }).beginPoint t 0)

/-- CAPTURE1 (R152). -/
def execCapture1 (w : Writer) (t : Fin 32) (s : State) : Host.Outcome State Fault Refusal :=
  .next (s.byOwner w (.calib t) fun s =>
    if s.get (R.CAL_SYS_STAT_STATE t) = 2 then s.beginPoint t 1 else s.calState t)

/-- CANCEL (R152): in IDLE there is no procedure to end. -/
def execCancel (w : Writer) (t : Fin 32) (s : State) : Host.Outcome State Fault Refusal :=
  .next (s.byOwner w (.calib t) fun s =>
    if s.get (R.CAL_SYS_STAT_STATE t) = 0 then s.calState t else s.endProc t 10)

/-- The record of a channel at its effective RANGE is committed (R164), and the channel's registers follow. -/
def State.commitRecord (s : State) (t ch : Nat) (r : CalRec) : State :=
  let range := s.chRange t ch
  ((s.setCalPair t ch range ((s.calPair t ch range).commit (chRecord t ch range) r)).ledgerWrite (.sysCh (calKey t ch range))).showRecord t ch

/-- CLEAR_LOST (R152, R167): a record of the defaults with COUNT = 0 is committed for channel CH at its effective RANGE, in any STATE
and whether or not CAL_LOST is set; where it was not, the channel ramps to the defaults (DESIGN CHOICE, log 144). With CH of 10 or more, which names no channel, it
does nothing (DESIGN CHOICE, log 176: R152 gives no result for it). -/
def execClearLost (w : Writer) (t : Fin 32) (s : State) : Host.Outcome State Fault Refusal :=
  .next (s.byOwner w (.calib t) fun s =>
    let ch := s.get (R.CAL_SYS_CFG_CH t)
    if 10 ≤ ch then s
    else
      let u := s.commitRecord t ch { time := s.calTime, hours := s.ledger.live.hours, flags := 2 }
      if s.getIdx (R.CAL_LOST t) ch then u else u.startRamp t ch 0 0x400000)

/-- G and OFF of two accepted points, or the reason they fail (R154, R155). With REF0 = REF1, which MINSPAN 0 lets pass, the nominal
span is 0 and the ratio is not defined: GAIN_IMPLAUS (DESIGN CHOICE, log 177). -/
def calSolve (m0 m1 ref0 ref1 : Int) (minspan : Nat) : Nat ⊕ (Int × Nat) :=
  let span := m1 - m0
  let n := 16 * (ref1 - ref0)
  let sg : Int := if n < 0 then -1 else 1
  if span.natAbs < 16 * minspan then .inl 5
  else if n = 0 || 100 * (span * sg) < 95 * (n * sg) || 105 * (n * sg) < 100 * (span * sg) then .inl 6
  else
    let g := rnd (2 ^ 22 * n) span
    let off := rnd (16 * ref0 * 2 ^ 22) g - m0
    if off < -(2 ^ 23) || 2 ^ 23 - 1 < off then .inl 8 else .inr (off, g.toNat)

/-- A point is judged once AVG words are taken (R154); after point 1 the coefficients are computed. -/
def State.judge (s : State) (t : Nat) : State :=
  let c := (s.tile t).cap
  let m := rnd c.sum (s.capAvg t)
  let bMean := rnd c.bSum c.bCount
  if 16 * (s.get (R.CAL_SYS_LIM_STAB_PP t) : Int) < c.high - c.low then s.endProc t 4
  else if 4 ≤ c.bCount && 16 * s.get (R.TILE_ADC_CHK_TOL t) < (bMean - m).natAbs then s.endProc t 7
  else
    let s := s.putB (R.CAL_SYS_STAT_B_CHK t) (4 ≤ c.bCount)
    if c.point = 0 then
      let s := (s.modTile t fun x => { x with cap := { c with m0 := m } }).put (R.CAL_SYS_M0 t) (lowBits 24 m)
      s.put (R.CAL_SYS_STAT_STATE t) 2
    else
      let s := s.put (R.CAL_SYS_M1 t) (lowBits 24 m)
      match calSolve c.m0 m (s.ref0 t) (s.ref1 t) (s.get (R.CAL_SYS_LIM_MINSPAN t)) with
      | .inl reason => s.endProc t reason
      | .inr (off, gain) =>
        (s.modTile t fun x => { x with cap := { c with m1 := m, off := off, gain := gain } }).put (R.CAL_SYS_STAT_STATE t) 4

/-- CAPTURE_DONE (R154). -/
def execCaptureDone (t : Fin 32) (s : State) : Host.Outcome State Fault Refusal :=
  let st := s.get (R.CAL_SYS_STAT_STATE t)
  if (st = 1 || st = 3) && s.capAvg t ≤ (s.tile t).cap.count then .next (s.judge t) else .next s

/-- The record that an accepted procedure commits (R165). -/
def State.newRecord (s : State) (t : Nat) : CalRec :=
  let c := (s.tile t).cap
  { off := c.off, gain := c.gain, m0 := c.m0, m1 := c.m1, ref0 := s.ref0 t, ref1 := s.ref1 t, time := s.calTime,
    hours := s.ledger.live.hours, count := (s.stored t c.ch (s.chRange t c.ch)).count + 1, avg := s.capAvg t,
    flags := (s.bit (R.CAL_SYS_STAT_B_CHK t)).toNat }

/-- CAL_LEDGER_COMMIT_DONE (R156, R157): the coefficients are committed and their ramp starts, or the procedure ends LEDGER. -/
def execCalLedgerCommitDone (t : Fin 32) (ok : Bool) (s : State) : Host.Outcome State Fault Refusal :=
  if s.get (R.CAL_SYS_STAT_STATE t) = 4 then
    if ok then
      let c := (s.tile t).cap
      .next (((s.commitRecord t c.ch (s.newRecord t)).startRamp t c.ch c.off c.gain).endProc t 0)
    else .next (s.endProc t 12)
  else .next s

/-- CAL_WAIT1_TIMEOUT (R155). -/
def execCalWait1Timeout (t : Fin 32) (s : State) : Host.Outcome State Fault Refusal :=
  if s.get (R.CAL_SYS_STAT_STATE t) = 2 then .next (s.endProc t 11) else .next s

/-- CAPTURE_TMO (R155). -/
def execCaptureTmo (t : Fin 32) (s : State) : Host.Outcome State Fault Refusal :=
  let st := s.get (R.CAL_SYS_STAT_STATE t)
  if (st = 1 || st = 3) && (s.tile t).cap.count < s.capAvg t then .next (s.endProc t 13) else .next s

/-! ### Ramps (R157) -/

/-- A value `k` of `n` steps from `a` to `b`, truncated towards zero (R157). -/
def rampAt (a b : Int) (k n : Nat) : Int := a + Int.tdiv ((b - a) * k) n

/-- CAL_RAMP_STEP (R157). -/
def execCalRampStep (t : Fin 32) (ch : Fin 10) (s : State) : Host.Outcome State Fault Refusal :=
  match tblFind (s.tile t).ramps ch with
  | none => .next s
  | some r =>
    let k := r.step + 1
    let s := s.setCoef t ch (rampAt r.off0 r.off1 k r.steps) (rampAt r.gain0 r.gain1 k r.steps).toNat
    let s := s.event (.calib t) 4
    if r.steps ≤ k then
      .next ((s.modTile t fun x => { x with ramps := tblDel x.ramps ch }).putIdx (R.CAL_STAT_RAMPING t) ch false)
    else .next (s.modTile t fun x => { x with ramps := tblIns x.ramps ch { r with step := k } })

/-! ### Rotation (R159 to R161) -/

/-- CAL_ROT_NOW (R159). -/
def execCalRotNow (w : Writer) (t : Fin 32) (s : State) : Host.Outcome State Fault Refusal :=
  .next (s.byOwner w (.calib t) fun s => s.rotStart t)

/-- ROTATION_PERIOD (R159): PER = 0 disables periodic rotation. -/
def execRotationPeriod (t : Fin 32) (s : State) : Host.Outcome State Fault Refusal :=
  if s.get (R.CAL_ROT_PER t) = 0 then .next s else .next (s.rotStart t)

/-- ROTATION_FOLLOW (R160 step 2, R161); with no core to hand over to, the rotation ends here (R159). -/
def execRotationFollow (t : Fin 32) (spareOk : Bool) (s : State) : Host.Outcome State Fault Refusal :=
  if s.get (R.CAL_ROT_STAT_PHASE t) = 1 then
    if !spareOk then .next ((s.put (R.CAL_ROT_STAT_PHASE t) 0).spareBad t)
    else .next (s.put (R.CAL_ROT_STAT_PHASE t) (if (s.tile t).rotCore = 2 then 0 else 2))
  else .next s

/-- The pin that a logical core serves. -/
def State.corePin (s : State) (t core : Nat) : Option Nat := pins8.find? fun n => s.coreOf t n == some core

/-- The spare takes over the logical core (R160 step 4). -/
def State.rotSwap (s : State) (t : Nat) : State :=
  let core := (s.tile t).rotCore
  let f := if core = 0 then R.TILE_DAC_ROUTE_D0_CORE t else R.TILE_DAC_ROUTE_D1_CORE t
  let old := s.get f
  let s := (s.put f (s.get (R.TILE_DAC_ROUTE_SPARE_CORE t))).put (R.TILE_DAC_ROUTE_SPARE_CORE t) old
  let s := (s.put (R.CAL_ROT_STAT_PHASE t) 0).put (R.CAL_ROT_STAT_LCORE t) core
  let s := (s.bump (R.CAL_ROT_STAT_COUNT t)).modTile t fun x => { x with rotNext := 1 - core }
  s.event (.calib (Fin.ofNat 32 t)) 3

/-- ROTATION_HANDOVER (R160 step 3): the output holds under R134; a core with no pin hands over at once. While a range change of its pin
runs, the rotation waits (R135). -/
def execRotationHandover (t : Fin 32) (s : State) : Host.Outcome State Fault Refusal :=
  if s.get (R.CAL_ROT_STAT_PHASE t) = 2 then
    match s.corePin t (s.tile t).rotCore with
    | none => .next (s.rotSwap t)
    | some n =>
      if s.bit (R.OUT_STAT_RCHG t n) then .next s else
      let s := (s.put (R.CAL_ROT_STAT_PHASE t) 3).putB (R.OUT_STAT_STALE t n) true
      .next (s.putB (R.OUT_STAT_DEFER t n) true)
  else .next s

/-- After a takeover the stage tracks the new core and the limiter resumes with the latest target (R134); a range change
committed meanwhile takes its first step (R135). Behind the tile's girth the output is held on (R316). -/
def State.rotRelease (s : State) (t n : Nat) : State :=
  let p := s.pin t n
  let s := s.modPin t n fun x => { x with stage := x.stage.map fun _ => s.get (R.OUT_READ_CORE t n) }
  if s.tileGirth t then s else
  let now := p.defer.isSome && !s.bit (R.OUT_STAT_RCHG t n) && !s.bit (R.OUT_STAT_FAULT_HOLD t n)
  let s := s.putB (R.OUT_STAT_STALE t n) (!now && (p.rangeStale || (!p.written && s.func t n != 5)))
  let s := s.modPin t n fun x => { x with rangeStale := x.rangeStale && !now }
  if s.bit (R.OUT_STAT_RCHG t n) then (s.putB (R.OUT_STAT_DEFER t n) p.defer.isSome).setLimit t n p.limit
  else
    let s := (s.modPin t n fun x => { x with defer := none }).putB (R.OUT_STAT_DEFER t n) false
    match p.defer with
    | some c => if s.bit (R.OUT_STAT_FAULT_HOLD t n) then s.setLimit t n p.limit else s.setLimit t n c
    | none => s.setLimit t n p.limit

/-- ROTATION_TAKEOVER (R160 step 4). -/
def execRotationTakeover (t : Fin 32) (s : State) : Host.Outcome State Fault Refusal :=
  if s.get (R.CAL_ROT_STAT_PHASE t) = 3 then
    let pin := s.corePin t (s.tile t).rotCore
    let s := s.rotSwap t
    match pin with
    | none => .next s
    | some n => .next ((if s.bit (R.OUT_STAT_DISC t n) then s else s.noteCore t n).rotRelease t n)
  else .next s

end Sys2Proof.Machine
end

