-- ==== Sys2Proof/Machine/Fabric.lean ====
section
/-! DEFINITION. The logic fabric (chapter 11): pin levels (R35), GIO pins (R34), border signals and ports (R307 to R310),
hard counter blocks (R311 to R313), and reloads up to the closing of the girth (R314 to R319). -/

namespace Sys2Proof.Machine

/-! ### Hard counter blocks (R311 to R313) -/

/-- Add to a block's count, which wraps. -/
def CntSt.add (c : CntSt) (k : Int) : CntSt := { c with count := c.count + BitVec.ofInt 48 k }

/-- Input `q` of a block (0 A, 1 B, 2 Z) goes to `v` at device time `now` (R311). A leading B counts up, and a direction input
that is high counts up (assumption log 18). -/
def CntSt.input (c : CntSt) (q : Nat) (v : Bool) (now : Nat) : CntSt :=
  let was := if q = 0 then c.a else if q = 1 then c.b else c.z
  let c' : CntSt := if q = 0 then { c with a := v } else if q = 1 then { c with b := v } else { c with z := v }
  if was = v then c'
  else if c.mode = 1 then
    if q = 0 then c'.add (if v != c.b then 1 else -1)
    else if q = 1 then c'.add (if v = c.a then 1 else -1)
    else if v && c.zact = 1 then { c' with latched := c.count.toNat }
    else if v && c.zact = 2 then { c' with count := 0 }
    else c'
  else if c.mode = 2 then if q = 0 && v then c'.add (if c.b then 1 else -1) else c'
  else if c.mode = 3 then if v && q = 0 then c'.add 1 else if v && q = 1 then c'.add (-1) else c'
  else if c.mode = 4 then
    if c.edge = 2 || (c.edge = 0 && v) || (c.edge = 1 && !v) then { c' with captured := now } else c'
  else c'

/-- An input of a block changes in front of its glitch filter (R311): a change shorter than the filter never reaches the block. -/
def CntSt.feed (c : CntSt) (q : Nat) (v : Bool) (now : Nat) : CntSt :=
  let was := if q = 0 then c.a else if q = 1 then c.b else c.z
  if c.filt = 0 then c.input q v now
  else if v = was then { c with glitch := tblDel c.glitch q }
  else if (tblFind c.glitch q).isSome then c
  else { c with glitch := tblIns c.glitch q now }

/-- At an FCLK edge the filter passes every change that has stood for its length (R311). -/
def CntSt.settle (c : CntSt) (now : Nat) : CntSt :=
  c.glitch.foldl (fun c g =>
    if now < g.2 + 5 * c.filt then c
    else
      let was := if g.1 = 0 then c.a else if g.1 = 1 then c.b else c.z
      { c with glitch := tblDel c.glitch g.1 }.input g.1 (!was) now) c

/-- A block accepts an operation (R312): PRESET, PULSES, STOP. A pulse train runs in PULSE_TRAIN only (assumption log 19). -/
def CntSt.apply (c : CntSt) (o : CntOp) : CntSt :=
  if o.op = 0 then { c with count := BitVec.ofInt 48 (sext 32 o.count) }
  else if o.op = 1 then
    if c.mode = 6 then
      { c with period := o.period, width := o.width, left := o.count, run := o.count != 0, out := o.count != 0 }
    else c
  else { c with run := false, left := 0, out := false }

/-- The operation of a COUNTER payload, its block and its START (R312). A BLOCK, PERIOD or WIDTH outside the range that R312
gives is a free value of that range. -/
def State.counterOp (s : State) (v : Nat) : (Nat × CntOp) × State :=
  let blk := v / 2 ^ 64 % 256
  let per := v / 2 ^ 128 % 2 ^ 32
  let wid := v / 2 ^ 160 % 2 ^ 32
  let a := if blk < 32 then (blk, s) else s.draw 32
  let b := if 2 ≤ per then (per, a.2) else let d := a.2.draw (2 ^ 32 - 2); (d.1 + 2, d.2)
  let c := if 1 ≤ wid && wid < b.1 then (wid, b.2) else let d := b.2.draw (b.1 - 1); (d.1 + 1, d.2)
  let o : CntOp := { op := v / 2 ^ 72 % 256, count := v / 2 ^ 96 % 2 ^ 32, period := b.1, width := c.1
                     start := v / 2 ^ 192 % 2 ^ 64 }
  ((a.1, o), c.2)

/-- COUNTER_ITEM_EXECUTE (R312): the block accepts the operation of the region's oldest COUNTER item; a START that is 0 or
has passed acts at once, any other waits; in class 4 the item is held (R298). -/
def execCounterItemExecute (r : Fin 8) (s : State) : Host.Outcome State Fault Refusal :=
  if s.bit R.FLT_STAT_C4 then .next s
  else match s.sched.flights.find? fun f => f.item.tag.dst = s.unitId (0x300 + r) && f.phase = .sent && f.item.tag.typ = 7 with
  | none => .next s
  | some f =>
    let x := s.counterOp (fromLe f.item.payload)
    let o := x.1.2
    let s := x.2
    let s := s.modCnt (32 * r + x.1.1) fun c =>
      if o.start ≤ s.time then c.apply o else { c with waiting := c.waiting ++ [o] }
    .next (s.executed f.item.tag.stream f.item.tag.seq)

/-- The operation whose START comes first, the older one of two. -/
def firstOp (l : List CntOp) : Option CntOp :=
  l.foldl (fun m o => match m with
    | none => some o
    | some p => if o.start < p.start then some o else some p) none

/-- COUNTER_START (R312): device time reaches the next START of a block. Behind the girth no pulse train starts, since one in
progress stops there (R313); the block counts on, so a PRESET and a STOP act (DEDUCED, assumption log 147). -/
def execCounterStart (b : Fin 256) (s : State) : Host.Outcome State Fault Refusal :=
  match firstOp (s.cnt b).waiting with
  | none => .next s
  | some o =>
    let acts := o.op != 1 || s.regionRuns (b / 32)
    .next (s.modCnt b fun c => { (if acts then c.apply o else c) with waiting := c.waiting.erase o })

/-- COMPARE_OUTPUT (R311): a running PWM or PULSE_TRAIN output toggles; the fall of a pulse counts it off. Behind its girth
the output stands at its safe value (R313). -/
def execCompareOutput (b : Fin 256) (s : State) : Host.Outcome State Fault Refusal :=
  let c := s.cnt b
  if !s.regionRuns (b / 32) then .next s
  else if c.mode = 5 then .next (s.setCnt b { c with out := !c.out })
  else if c.mode = 6 && c.run && 0 < c.left then
    .next (s.setCnt b { c with out := !c.out, left := if c.out then c.left - 1 else c.left })
  else .next s

/-- PULSE_TRAIN_END (R311): every pulse of the train is out. -/
def execPulseTrainEnd (b : Fin 256) (s : State) : Host.Outcome State Fault Refusal :=
  .next (s.modCnt b fun c => if c.mode = 6 && c.run && c.left = 0 then { c with run := false, out := false } else c)

/-- FAB_CNT_READ (R320): the read returns bits 31:0 and latches bits 47:32. -/
def execFabCntRead (b : Fin 256) (s : State) : Host.Outcome State Fault Refusal :=
  let c := (s.cnt b).count.toNat
  .next ((s.answer (BitVec.ofNat 32 c)).put (R.FAB_CNT_HI_COUNT_HI b) (c / 2 ^ 32))

/-! ### Pins (R34, R35) -/

/-- The output and its enable that a GIO pin's region gives it, behind the girth the declared safe values (R307). -/
def State.gioLevel (s : State) (g : Nat) : Bool × Bool :=
  let o := s.gioOut g
  if s.regionRuns (s.get (R.GIO_CFG_REGION g)) then (o.level, o.oe) else (safeLevel o.safe o.level, safeLevel o.safeOe o.oe)

/-- The level that the device gives a GIO pin, none where it drives nothing (R34, R307, R313, R438, R450). A clock output is a
fabric output as OUT is; PPS_OUT is high at the instant of its pulse, whose width the spec does not give (assumption log 41), and so is
TRIG_OUT at a pulse of its trigger (log 195). -/
def State.gioFunc (s : State) (g : Nat) : Option Bool :=
  let f := s.get (R.GIO_CFG_FUNC g)
  let sel := s.get (R.GIO_CFG_SEL g)
  let o := s.gioOut g
  let l := s.gioLevel g
  if f = 2 || f = 6 then some l.1
  else if f = 3 then if l.1 then none else some false
  else if f = 4 then if l.2 then some l.1 else none
  else if f = 9 then some (if s.regionRuns (sel / 32) then (s.cnt sel).out else safeLevel o.safe o.held)
  else if f = 0xB then some (o.ppsAt = some s.time)
  else if f = 0xC then some (s.bit R.FLT_STAT_C4)
  else if f = 0xE then some (s.trigLevel sel || tblFind s.fab.pulse sel = some s.time)
  else none

/-- The level that the device gives a GIO pin; in WAIT and FAILED the boundary scan takes the pin over (R371). -/
def State.gioDrive (s : State) (g : Nat) : Option Bool :=
  if s.scanActs && 3 ≤ s.host.scan then (if s.host.scan = 5 then none else some (s.host.preload.testBit g))
  else s.gioFunc g

/-- A rising edge of a GIO pin in PPS_IN (R413): device time goes to TIME_PPS and PPS_NEW is set, on the head device. -/
def State.capturePps (s : State) : State :=
  if s.pos = 0 then
    s.withSrc 275 fun s =>
      ((s.put R.TIME_PPS_LO_NS s.time).put R.TIME_PPS_HI_NS (s.time / 2 ^ 32)).putB R.TIME_STAT_PPS_NEW true
  else s

/-- A GIO pin changes its level (R34): counter inputs, PPS_IN, TRIG_IN and INT_IN act on it. -/
def State.gioChange (s : State) (g : Nat) (v : Bool) : State :=
  let f := s.get (R.GIO_CFG_FUNC g)
  let sel := s.get (R.GIO_CFG_SEL g)
  let rises := v && !s.gioIn g
  let trig := f = 0xD && rises && !s.trigLevel sel
  let s := { s with gio := tblSet (fun _ => false) s.gio g v }
  if f = 7 || f = 8 then
    let q := s.get (R.GIO_CFG_QIN g)
    if q < 3 && s.domReady (domQuad (sel / 64)) then s.modCnt sel fun c => c.feed q v s.time else s
  else if f = 0xA && rises then s.capturePps
  else if trig then s.trigRise sel
  else if f = 0xF && rises && sel < 16 then s.srcFire (288 + sel)
  else s

/-- What a field pin gives the fabric (R24, R35) reaches the counter blocks that it is routed to (R308, R311); they lie outside the
girth. -/
def State.feedPin (s : State) (t n : Nat) : State :=
  s.fab.cnts.foldl (fun s e =>
    if s.domReady (domQuad (e.1 / 64)) then
      (e.2.pins.filter fun x => x.2 = 8 * t + n).foldl (fun s x => s.modCnt e.1 fun c => c.feed x.1 (s.fabricIn t n) s.time) s
    else s) s

/-- PIN_STATE_CHANGE (R35): the pin cell, its comparator and its receivers see the new level. -/
def execPinStateChange (c : PinChange) (s : State) : Host.Outcome State Fault Refusal :=
  match c with
  | .field t n uV line =>
    .next ((((s.modPin t n fun p => { p with uV := uV, line := line }).cmpSync t n).dinSync t n).zeroSync t n |>.feedPin t n)
  | .gio g v => .next (s.gioChange g v)

/-- PPS_OUT (R34): one pulse on a GIO pin in PPS_OUT, at the boundary of the time grid that SEL chooses (assumption log 41). -/
def execPpsOut (g : Fin 48) (s : State) : Host.Outcome State Fault Refusal :=
  .next (if s.get (R.GIO_CFG_FUNC g) = 0xB then s.modGio g fun o => { o with pulses := o.pulses + 1, ppsAt := some s.time } else s)

/-- PPS_CAPTURE (R413): a rising edge on a GIO pin in PPS_IN. -/
def execPpsCapture (g : Fin 48) (s : State) : Host.Outcome State Fault Refusal :=
  .next (if s.get (R.GIO_CFG_FUNC g) = 0xA then s.capturePps else s)

/-! ### The border (R307 to R310) -/

/-- A crossing signal changes; a rising one raises the triggers that name it (R307, R450). -/
def State.cross (s : State) (i : Nat) (v : Bool) : State :=
  let rises := v && !s.crossing i
  let s' := { s with fab := { s.fab with cross := tblSet (fun _ => false) s.fab.cross i v } }
  let ns := if rises then (List.range 256).filter fun n => s.get (R.EVT_TRIG_SRC n) = 0x40 + i && !s.trigLevel n else []
  if ns.isEmpty then s' else s'.trigRises ns

/-- BORDER_SIGNAL_CHANGE (R307): the logic of a running region drives only the pins it owns (R308). -/
def execBorderSignalChange (r : Fin 8) (sig : BorderSignal) (s : State) : Host.Outcome State Fault Refusal :=
  if s.regionRuns r then
    match sig with
    | .pin t n level oe =>
      if s.pinRegion t n = some r.val then
        .next ((s.modPin t n fun p => { p with fabLevel := level, fabOe := oe }).syncDout t n)
      else .next s
    | .gio g level oe =>
      if s.get (R.GIO_CFG_REGION g) = r then .next (s.modGio g fun o => { o with level := level, oe := oe }) else .next s
    | .crossing k level => .next (s.cross (64 * r + k) level)
  else .next s

/-- The item that a region's port presents: the device fills SRC and CHK and sets CTX to 0 (R270). -/
def State.portItem (s : State) (r : Nat) (it : Item) : Item :=
  { it with tag := { it.tag with
    seq := 0, ctx := 0, exp := 0, src := s.unitId (0x300 + r), chk := chkOf it.payload
    flags := it.tag.flags &&& (2 ^ flLast + 2 ^ flIdem) } }

/-- The item that port `k` presents waits: the port is busy and the item an offer until the scheduler takes it. -/
def State.portWait (s : State) (k : Nat) (it : Item) : State :=
  let p : FabPort := tblGet (fun _ => {}) s.sched.ports k
  let o : Offer := { item := it, port := some k }
  { s with sched := { s.sched with
    offers := s.sched.offers ++ [o], ports := tblSet (fun _ => {}) s.sched.ports k { p with busy := true } } }

/-- FABRIC_PORT_SEND (R310, R285): the scheduler takes the item, with room for it and, for a D item, at its destination, or refuses
it, and the port's signals say which; else it waits at the port. A port whose last item is not yet taken presents nothing. -/
def execFabricPortSend (r : Fin 8) (port : Fin 16) (it : Item) (s : State) : Host.Outcome State Fault Refusal :=
  let k := 16 * r.val + port.val
  let p : FabPort := tblGet (fun _ => {}) s.sched.ports k
  if !s.regionRuns r || p.busy then .next s
  else
    let it := s.portItem r it
    if s.hasRoomFor it then
      let x := s.takeItem it 0 none
      if x.2 != 0 then .next (x.1.portSignal (some k) it x.2)
      else match x.1.sendDelivered it with
        | some t => .next (t.portSignal (some k) it 0)
        | none => .next ((s.wakeFor it).portWait k it)
    else .next (s.portWait k it)

/-- FABRIC_PORT_ACK (R309): the region acknowledges the last word of the item at an input port, which executes it; in class 4 the
item is held (R298). -/
def execFabricPortAck (r : Fin 8) (port : Fin 16) (s : State) : Host.Outcome State Fault Refusal :=
  match s.sched.flights.find? fun f => f.item.tag.dst = s.unitId (0x300 + r) && f.phase = .sent &&
      (s.stream f.item.tag.stream).bind % 32 = port with
  | none => .next s
  | some f => .next (if s.regionRuns r && !s.bit R.FLT_STAT_C4 then s.executed f.item.tag.stream f.item.tag.seq else s)

/-! ### Reloads (R314 to R319) -/

/-- The unit code of a reload's target. -/
def rcfgUnit (kind index : Nat) : Nat := if kind = 0 then 0x300 + index else if kind = 1 then index else 0x100 + index

/-- The image's physical address: offset and space. -/
def State.rcfgAddr (s : State) : Nat := s.get R.FAB_RCFG_ADDR_LO + s.get R.FAB_RCFG_ADDR_HI * 2 ^ 32

/-- The bytes of the image as they stand in shared SRAM or the DRAM space. -/
def State.imageBytes (s : State) (sp off len : Nat) : List Host.Cell :=
  if sp = 1 then cellSlice s.mem.sram off len else if sp = 2 then cellSlice s.mem.dram off len else []

/-- `n` bytes can be read at an offset of shared SRAM or the DRAM space (R225, R230). -/
def State.imageReadable (s : State) (sp off n : Nat) : Bool :=
  s.physCheck sp off n = .ok &&
    (sp != 2 || (List.range 16).all fun i => n ≤ 1024 * i || !s.chLost (dramChannel (off + 1024 * i)))

/-- The reload image, read at step 1 of R315. -/
def State.rcfgBytes (s : State) : List Host.Cell :=
  s.imageBytes (s.get R.FAB_RCFG_ADDR_HI_SPACE) s.rcfgAddr (s.get R.FAB_RCFG_LEN)

/-- GO of FAB_RCFG (R315, R318): the image is read from device memory, and `chk` is what its checks find. -/
def State.reload (s : State) (kind index : Nat) (chk : StreamCheck) : State :=
  let s := (s.put R.FAB_RCFG_KIND kind).put R.FAB_RCFG_INDEX index
  if s.bit R.FAB_RCFG_STAT_BUSY then s.put R.FAB_RCFG_STAT_RESULT 4
  else
    let s := (s.putB R.FAB_RCFG_STAT_BUSY true).put R.FAB_RCFG_STAT_PHASE 1
    let img : PersStream := { bytes := s.rcfgBytes, chk := chk }
    { s with rcfg := { img := some img, kind := kind, index := index, target := rcfgUnit kind index } }

/-- RELOAD_REGION (R314). -/
def execReloadRegion (w : Writer) (r : Fin 128) (chk : StreamCheck) (s : State) : Host.Outcome State Fault Refusal :=
  .next (s.byOwner w .fabric fun s => s.reload 0 r chk)

/-- RELOAD_TILE (R314). -/
def execReloadTile (w : Writer) (t : Fin 128) (chk : StreamCheck) (s : State) : Host.Outcome State Fault Refusal :=
  .next (s.byOwner w .fabric fun s => s.reload 1 t chk)

/-- RELOAD_ENGINE (R314). -/
def execReloadEngine (w : Writer) (e : Fin 128) (chk : StreamCheck) (s : State) : Host.Outcome State Fault Refusal :=
  .next (s.byOwner w .fabric fun s => s.reload 2 e chk)

/-- BAD_ADDR (R318). -/
def State.rcfgAddrBad (s : State) (readOk : Bool) : Bool :=
  let sp := s.get R.FAB_RCFG_ADDR_HI_SPACE
  !(sp = 1 || sp = 2) || s.rcfgAddr % 64 != 0 || !readOk || !s.imageReadable sp s.rcfgAddr (s.get R.FAB_RCFG_LEN)

/-- The image limit of a KIND in bytes (R314). -/
def rcfgLimit (kind : Nat) : Nat := if kind = 0 then 0x400000 else if kind = 1 then 0x10000 else 0x18000

/-- The section of a reload image suits its target (R326): for TILE_CFG and ENGINE it holds exactly one unit block, of that unit,
and its structure is right (R323, R324). -/
def reloadBodyOk (sec : Section) : Bool :=
  sec.typ = 1 || (sectionOk sec && match blocksOf sec.payload with
    | some [b] => b.1 = sec.target
    | _ => false)

/-- BAD_TARGET (R314): the image is no reload image of this device and stepping for this target (R326). -/
def State.rcfgTargetBad (s : State) (img : PersStream) : Bool :=
  let k := s.rcfg.kind
  let last := if k = 0 then 8 else if k = 1 then 32 else 128
  3 ≤ k || !img.used 0 || !img.idOk || !(img.stepMask.getLsbD (s.get R.GID_STEP_STEPPING)) || img.layoutBad || img.ndev != 1 || !img.reload ||
    last ≤ s.rcfg.index || rcfgLimit k < s.get R.FAB_RCFG_LEN ||
    match img.sections with
    | [sec] => sec.pos != 0 || sec.typ != (if k = 0 then 1 else if k = 1 then 2 else 4) || sec.target != s.rcfg.target ||
      !reloadBodyOk sec
    | _ => true

/-- What verification finds (R318), in the order address, signature, hash, target (assumption log 20). -/
def State.rcfgResult (s : State) (img : PersStream) (readOk sigOk : Bool) : Nat :=
  if s.rcfgAddrBad readOk then 7
  else if !sigOk || !s.ownerSlot img.ownerSlot then 1
  else if img.sections.any fun sec => !sec.hashOk then 2
  else if s.rcfgTargetBad img then 3
  else 0

/-- RELOAD_VERIFIED (R315 step 2): on failure the reload ends with no effect, else the target quiesces (R293); one whose
domain is off starts. -/
def execReloadVerified (readOk sigOk : Bool) (s : State) : Host.Outcome State Fault Refusal :=
  if s.bit R.FAB_RCFG_STAT_BUSY && s.get R.FAB_RCFG_STAT_PHASE = 1 then
    match s.rcfg.img with
    | none => .next (s.endReload 7)
    | some img =>
      let c := s.rcfgResult img readOk sigOk
      if c != 0 then .next (s.endReload c)
      else .next (((s.put R.FAB_RCFG_STAT_PHASE 2).startQuiesce s.rcfg.target).wakeUnit s.rcfg.target)
  else .next s

/-- The tile's girth closes (R316): the sequencer stops with its pass, frames are flushed, a procedure is aborted, outputs hold. -/
def State.closeTile (s : State) (t : Nat) : State :=
  let s := ((s.passClose t).stopAdc t).abortProc t 4
  let s := { s with fab := { s.fab with shut := t :: s.fab.shut.erase t } }
  s.eachPin fun s n =>
    if isOutFunc (s.func t n) && !s.bit (R.PIN_STAT_SWITCHING t n) then s.putB (R.OUT_STAT_STALE t n) true else s

/-- The engine's girth closes (R317): its invocations are abandoned and its streams rewind. -/
def State.closeEngine (s : State) (e : Nat) : State :=
  let s := (s.engAbandon e).rewind (s.unitId (0x100 + e)) fun _ => true
  { s with fab := { s.fab with shut := (0x100 + e) :: s.fab.shut.erase (0x100 + e) } }

/-- The target has quiesced and nothing of R316 holds the girth open: a core rotation or a calibration. -/
def State.girthReady (s : State) : Bool :=
  s.bit R.FAB_RCFG_STAT_BUSY && s.get R.FAB_RCFG_STAT_PHASE = 2 && !s.rcfg.girth &&
    s.sched.quiesce.contains (s.unitId s.rcfg.target, 3) && s.unitOn s.rcfg.target &&
    (s.rcfg.kind != 1 ||
      (s.get (R.CAL_ROT_STAT_PHASE s.rcfg.index) = 0 && (s.tile s.rcfg.index).work.isNone &&
        s.get (R.CAL_SYS_STAT_STATE s.rcfg.index) = 0))

/-- GIRTH_CLOSE (R315 step 4): the target goes behind its girth, and the section is written from then on. -/
def execGirthClose (s : State) : Host.Outcome State Fault Refusal :=
  if s.girthReady then
    let s := { s with rcfg := { s.rcfg with girth := true, since := s.time } }.put R.FAB_RCFG_STAT_PHASE 3
    .next (if s.rcfg.kind = 0 then s.closeGirth s.rcfg.index 2
      else if s.rcfg.kind = 1 then s.closeTile s.rcfg.index else s.closeEngine s.rcfg.index)
  else .next s

/-- FRAME_ERR (R319): the target stays behind its girth with a class 3 fault. -/
def State.frameErr (s : State) : State :=
  let u := s.rcfg.target
  let s := if s.rcfg.kind = 0 then s.put (R.FAB_REG_STAT_STATE s.rcfg.index) 3 else s
  let s := (s.endReload 6).endQuiesce (s.unitId u)
  s.raise (s.srcUnit (s.unitId u)) 3 0x51 6

/-- The section of a region takes effect (R313, R314): declared safe values and the counter blocks it names. The packing of a
block's configuration is the model's (assumption log 21). -/
def State.regionSection (s : State) (sec : Section) : State :=
  let s := sec.safe.foldl (fun s e =>
    let k := e.1 % 512
    let oe : Bool := 512 ≤ e.1
    if k < 256 then s.modPin (k / 8) (k % 8) fun p => if oe then { p with fabSafeOe := e.2 % 4 } else { p with fabSafe := e.2 % 4 }
    else s.modGio (k - 256) fun o => if oe then { o with safeOe := e.2 % 4 } else { o with safe := e.2 % 4 }) s
  let r := sec.target - 0x300
  sec.counters.foldl (fun s e => s.modCnt (32 * r + e.1 % 32) fun c => { c with
    mode := e.2 % 8, zact := e.2 / 8 % 4, edge := e.2 / 32 % 4, filt := e.2 / 2 ^ 121 % 16, glitch := []
    pins := (sec.routes.filter fun x => x.1 / 3 = e.1 % 32).map fun x => (x.1 % 3, x.2)
    period := e.2 / 2 ^ 8 % 2 ^ 32, width := e.2 / 2 ^ 40 % 2 ^ 32
    count := if (e.2 / 2 ^ 72).testBit 0 then BitVec.ofNat 48 (e.2 / 2 ^ 73) else c.count }) s

/-- The flip-flops of a region's cells after a clock of its logic, whose configuration the spec does not describe: a free value
(R304, assumption log 21). -/
def State.clockCells (s : State) (r : Nat) (cfg : List Byte) : State :=
  let d := s.draw (2 ^ 16384)
  { d.2 with fab := { d.2.fab with cells := tblSet (fun _ => {}) d.2.fab.cells r { cfg := cfg, flops := d.1 } } }

/-- A region runs with a section: its cells hold it, its crossings unfreeze and LOADS counts (R315 step 6, R320). -/
def State.openRegion (s : State) (sec : Section) : State :=
  let r := sec.target - 0x300
  let s := ((((s.regionSection sec).latchSafe r).clockCells r sec.payload)).put (R.FAB_REG_STAT_STATE r) 1
  let s := s.bump (R.FAB_REG_STAT_LOADS r)
  let s := (List.range 8).foldl (fun s q => s.putIdx (R.FAB_REG_STAT_FROZEN_IN q) r false) s
  { s with fab := { s.fab with shut := s.fab.shut.erase (0x300 + r) } }

end Sys2Proof.Machine
end

