-- ==== Sys2Proof/Machine/Images.lean ====
section
/-! DEFINITION. What a staged personality holds for one unit (R324), engine programs (R171, R324), and a unit's power: removal
(R404, R405), and readiness after a fiddlehead start (R408). -/

namespace Sys2Proof.Machine

/-! ### The staged personality -/

/-- The sections of one TYPE that this device staged (R329). -/
def State.stagedOf (s : State) (typ : Nat) : List Section :=
  match s.load.staged with
  | some img => (s.ownSections img).filter fun x => x.typ = typ
  | none => []

/-- The unit blocks of a section (R324). -/
def sectionBlocks (x : Section) : List (Nat × List Byte) := (blocksOf x.payload).getD []

/-- The body of an engine's block in the staged ENGINE section. -/
def State.stagedEngine (s : State) (e : Nat) : Option (List Byte) :=
  (((s.stagedOf 4).flatMap sectionBlocks).find? fun b => b.1 = 0x100 + e).map (·.2)

/-- The staged FABRIC section of a region. -/
def State.stagedRegion (s : State) (r : Nat) : Option Section := (s.stagedOf 1).find? fun x => x.target = 0x300 + r

/-! ### Engine programs -/

/-- The bits of a word that a write reaches at once or through a commit. -/
def writeMask (a : Nat) : Word := BitVec.ofNat 32 (accMask a .rw ||| accMask a .rws)

/-- A word takes a value in its writable fields, past staging. -/
def State.loadWord (s : State) (a v : Nat) : State := s.setWord a (mergeBits (s.word a) (BitVec.ofNat 32 v) (writeMask a))

/-- An ENGINE body is written to its engine (R324): ENG_INBUF, the handler table, the instruction image and the data image. -/
def State.applyEngine (s : State) (e : Nat) (body : List Byte) : State :=
  let il := imemLen body
  let s := s.loadWord (R.ENG_INBUF_BASE e).addr (fromLe ((body.drop 8).take 4))
  let s := (List.range 64).foldl (fun s h =>
    s.loadWord (R.ENG_HANDLER_EN e h).addr (fromLe ((body.drop (16 + 4 * h)).take 4))) s
  let s := s.imemWrite e 0 ((body.drop 272).take il)
  let s := s.dataWrite e 0 ((body.drop (272 + il)).take (dmemLen body))
  (s.modEng e fun x => { x with slots := [], wr := 0, reloaded := true }).inbufSmall e

/-- An engine reloads its staged program and enters START (R181, R408). -/
def State.reloadEngine (s : State) (e : Nat) : State :=
  let s := match s.stagedEngine e with
    | some b => s.applyEngine e b
    | none => s
  s.engStart e

/-- A region reloads its staged section (R408, R436); one with no section stays empty. -/
def State.reloadRegion (s : State) (r : Nat) : State :=
  match s.stagedRegion r with
  | some x => s.openRegion x
  | none => s

/-! ### Power removed (R404, R405) -/

/-- What an engine loses with its domain: both memories and every register (R404). -/
def State.loseEngine (s : State) (e : Nat) : State :=
  let s := (s.dropEngine e).setEng e {}
  { s with mem := { s.mem with
    loc := tblClear s.mem.loc (e * 0x10000) ((e + 1) * 0x10000)
    imem := tblClear s.mem.imem (e * 0x8000) ((e + 1) * 0x8000) } }

/-- What a region loses with its quadrant: its configuration and its counts (R306, R404); a reload of it in step 5 ends
FRAME_ERR (R319). -/
def State.loseRegion (s : State) (r : Nat) : State :=
  let s := if s.bit R.FAB_RCFG_STAT_BUSY && s.rcfg.girth && s.rcfg.target = 0x300 + r then s.frameErr else s
  let st : Nat := s.get (R.FAB_REG_STAT_STATE r)
  let s := s.closeGirth r (if st = 3 then 3 else 0)
  { s with fab := { s.fab with cnts := tblClear s.fab.cnts (32 * r) (32 * r + 32), cells := tblDel s.fab.cells r } }

/-- A tile's converter core stops for want of a supply (R12, R129): samples stop, and its outputs go to their fault values. -/
def State.stopConv (s : State) (t : Nat) : State :=
  (((s.tileOutFault t).stopAdc t).putB (R.SG_STAT_RUN t 0) false).putB (R.SG_STAT_RUN t 1) false

/-- A tile's converter core loses power (R12, R404): its calibration ends too, and what it held is gone. -/
def State.loseConv (s : State) (t : Nat) : State :=
  let s := (s.stopConv t).abortCal t
  (s.putB (R.TILE_TEMP_VALID t) false).modTile t fun x => { x with
    hot := 0, refBad := 0, refGood := 0, zeroBad := 0, zeroGood := 0, recover := 0, recoverB := 0, decs := [] }

/-- A tile's field drivers lose power (R12, R44, R129): every pin falls to the safe pull, and a switch is abandoned. -/
def State.loseField (s : State) (t : Nat) : State :=
  let s := s.laneOff t
  let s := s.eachPin fun s n =>
    if s.bit (R.PIN_STAT_SWITCHING t n) then s
    else if isOutFunc (s.func t n) then s.fieldLost t n
    else (s.modPin t n fun p => { p with oeArmed := false }).syncDout t n
  s.abandonSwitches t

/-- Power leaves a domain (R404, R405). -/
def State.removeDomain (s : State) (d : Nat) : State :=
  let s := { s.setDom d false with pwr := { s.pwr with starts := tblDel s.pwr.starts d, offs := s.pwr.offs.erase d } }
  if d < 128 then s.loseEngine d
  else if d < 144 then s
  else if d < 176 then s.loseConv (d - 144)
  else if d < 208 then s.loseField (d - 176)
  else (s.loseRegion (2 * (d - 208))).loseRegion (2 * (d - 208) + 1)

/-- The unit codes that a domain powers (R403). -/
def domUnits (d : Nat) : List Nat :=
  if d < 128 then [0x100 + d] else if d < 144 then [0x200 + (d - 128)] else if d < 176 then [d - 144]
  else if d < 208 then [d - 176] else [0x300 + 2 * (d - 208), 0x301 + 2 * (d - 208)]

/-! ### Readiness after a fiddlehead start (R408) -/

/-- The quiesce of a unit that is up again is over (R293 step 6). -/
def State.unitUp (s : State) (u : Nat) : State :=
  if s.unitOn u && !s.quiesceHeld (s.unitId u) then s.endQuiesce (s.unitId u) else s

/-- A tile's converter core is ready (R158, R166, R408): stored coefficients apply, words carry SETTLE for 200 µs, and a tile
whose self-calibration record is not valid calibrates again: at power-up in its group (R144), later at once (R166). The tile works as its registers say: the sequencer runs where RUN is
1 and a generator where EN is 1 (R75, R136), from the accumulator at which it stopped (DESIGN CHOICE, log 132). -/
def State.convReady (s : State) (t : Nat) : State :=
  let s := (s.loadSets t).settleAll t (s.settleWords t settle200us)
  let s := (s.putB (R.TILE_TEMP_VALID t) false).modTile t fun x => { x with restarting := false }
  let s := if s.bit (R.TILE_ADC_CTRL_RUN t) && !s.bit (R.TILE_ADC_STAT_RUNNING t) && !s.tileGirth t then s.startSeq t else s
  let s := [0, 1].foldl (fun s k => s.putB (R.SG_STAT_RUN t k) (s.bit (R.SG_CTRL_EN t k) && !s.tileContained t)) s
  if !(s.tile t).begun && (s.selfStored t).isNone then s.modTile t fun x => { x with recal := true }
  else if (s.tile t).work.isNone && (s.selfStored t).isNone then
    let s := (s.modTile t fun x => { x with selfCal := false, recal := true, work := some .powerUp }).putB (R.CAL_STAT_BUSY t) true
    s.eachPin fun s n => if isOutFunc (s.func t n) && !s.bit (R.PIN_STAT_SWITCHING t n) then s.stageOff t n else s
  else s

/-- A tile's field drivers are ready (R129, R408): attached outputs reattach at their safe values in FAULT_HOLD, and pins that
waited attach. -/
def State.fieldReady (s : State) (t : Nat) : State :=
  let s := s.eachPin fun s n =>
    if isOutFunc (s.func t n) && !s.bit (R.PIN_STAT_SWITCHING t n) then
      s.holdFault t n
    else (s.modPin t n fun p => { p with since := s.time }).syncDout t n
  let s := if (s.tile t).selfCal then s.reattachOuts t else s
  (s.laneOn t).connectTile t

/-- The unit of a domain is ready (R408). -/
def State.domainReady (s : State) (d : Nat) : State :=
  let s := { s with pwr := { s.pwr with starts := tblDel s.pwr.starts d } }
  let s := if d < 128 then s.reloadEngine d
    else if d < 144 then s
    else if d < 176 then (s.convReady (d - 144)).connectTile (d - 144)
    else if d < 208 then s.fieldReady (d - 176)
    else (s.reloadRegion (2 * (d - 208))).reloadRegion (2 * (d - 208) + 1)
  (domUnits d).foldl (fun s u => s.unitUp u) s

end Sys2Proof.Machine
end

