-- ==== Sys2Proof/Machine/Power.lean ====
section
/-! DEFINITION. Power (chapter 15): switched domains (R403 to R409), the ledger flush (R299, R419), cold starts (R367, R402), the
class 5 reset (R439), and the steps from power-good to trained memory (R402). -/

namespace Sys2Proof.Machine

/-! ### Commands of the power page (R405, R431) -/

/-- PWR_CMD ends with a RESULT (R431). -/
def State.pwrResult (s : State) (r : Nat) : State :=
  ({ (s.putB R.PWR_CMD_BUSY false).put R.PWR_RESULT r with pwr := { s.pwr with cmd := none } }).done .power

/-- The command that runs for domain `d` ends. -/
def State.pwrDone (s : State) (d r : Nat) : State := if s.pwr.cmd = some d then s.pwrResult r else s

/-- A command of PWR_CMD: its fields are taken; while BUSY reads 1 it starts nothing. -/
def State.pwrCmd (s : State) (w : Writer) (d op : Nat) (f : State → State) : State :=
  s.byOwner w .power fun s =>
    let s := (s.put R.PWR_CMD_DOMAIN d).put R.PWR_CMD_OP op
    if s.bit R.PWR_CMD_BUSY then s else f s

/-- The command runs until its domain gets there. -/
def State.pwrStart (s : State) (d : Nat) : State :=
  { s.putB R.PWR_CMD_BUSY true with pwr := { s.pwr with cmd := some d } }

/-- ON is refused: no such domain, or what it depends on is off (R405). -/
def State.onRefused (s : State) (d : Nat) : Bool :=
  212 ≤ d || (d < 128 && !s.domOn (domCluster (d / 8))) || (176 ≤ d && d < 208 && !s.domOn (domConv (d - 176)))

/-- OFF is refused: no such domain, or what depends on it is on (R405). -/
def State.offRefused (s : State) (d : Nat) : Bool :=
  212 ≤ d || (128 ≤ d && d < 144 && (List.range 8).any fun i => s.domOn (domEngine (8 * (d - 128) + i))) ||
    (144 ≤ d && d < 176 && s.domOn (domField (d - 144)))

/-- DOMAIN_ON (R405): a fiddlehead start, DONE at once, or a refusal. -/
def execDomainOn (w : Writer) (d : Byte) (s : State) : Host.Outcome State Fault Refusal :=
  .next (s.pwrCmd w d.toNat 1 fun s =>
    if 212 ≤ d.toNat then s.pwrResult 1
    else if s.domOn d.toNat then s.pwrResult 0
    else if s.onRefused d.toNat then s.pwrResult 1
    else (s.pwrStart d.toNat).startDomain d.toNat)

/-- A reload of one of a domain's units that has not reached step 4 of R315 ends ABORTED (R319, R429). -/
def State.offAborts (s : State) (d : Nat) : State :=
  if (domUnits d).contains s.rcfg.target then s.abortReload else s

/-- DOMAIN_OFF (R405): the units of the domain quiesce, or DONE at once, or a refusal. -/
def execDomainOff (w : Writer) (d : Byte) (s : State) : Host.Outcome State Fault Refusal :=
  .next (s.pwrCmd w d.toNat 2 fun s =>
    if 212 ≤ d.toNat then s.pwrResult 1
    else if !s.domOn d.toNat then s.pwrResult 0
    else if s.offRefused d.toNat then s.pwrResult 1
    else
      let s := (s.pwrStart d.toNat).offAborts d.toNat
      let s := { s with pwr := { s.pwr with offs := d.toNat :: s.pwr.offs } }
      (domUnits d.toNat).foldl (fun s u => s.startQuiesce u) s)

/-- DOMAIN_POWER_REMOVE (R405): the quiesce of every unit of the domain has ended. What was returned stays held, because the
domain is off. -/
def execDomainPowerRemove (d : Fin 212) (s : State) : Host.Outcome State Fault Refusal :=
  let us := domUnits d
  .next (if s.pwr.offs.contains d.val && us.all fun u => s.sched.quiesce.contains (s.unitId u, 3) then
    (us.foldl (fun s u => s.endQuiesce (s.unitId u)) (s.removeDomain d)).pwrDone d 0
  else s)

/-! ### Fiddlehead starts (R407 to R409) -/

/-- A fiddlehead start passes from step `a` to step `b`. -/
def State.startStep (s : State) (d a b : Nat) : State :=
  if tblFind s.pwr.starts d = some a then { s with pwr := { s.pwr with starts := tblIns s.pwr.starts d b } } else s

/-- FIDDLEHEAD_RAMP_DONE (R407). -/
def execFiddleheadRampDone (d : Fin 212) (s : State) : Host.Outcome State Fault Refusal := .next (s.startStep d 1 2)

/-- FIDDLEHEAD_PLL_LOCK (R407). -/
def execFiddleheadPllLock (d : Fin 212) (s : State) : Host.Outcome State Fault Refusal := .next (s.startStep d 2 3)

/-- PLL_LOCK_TIMEOUT (R409): the domain goes off again, the command ends FAILED, and each unit of the domain raises a class 3
fault. -/
def execPllLockTimeout (d : Fin 212) (s : State) : Host.Outcome State Fault Refusal :=
  let late : Bool := match tblFind s.pwr.starts d with
    | some k => decide (k < 3)
    | none => false
  .next (if late then
    let s := ((s.removeDomain d).bump R.PWR_FAIL_CNT_COUNT).put R.PWR_RESULT 2
    let s := s.pwrDone d 2
    (domUnits d).foldl (fun s u => s.raise (s.srcUnit (s.unitId u)) 3 0x52 d) s
  else s)

/-! ### The ledger flush (R166, R299, R300, R419) -/

/-- The fuses of the anti-rollback counter are blown up to an SVN (R393). -/
def SecSt.fuse (x : SecSt) (svn : Nat) : SecSt :=
  { x with otpSvn := max x.otpSvn (min 64 svn), uncommitted := false }

/-- A fuse operation that has started completes within the hold-up (R398), and its update is counted. -/
def State.flushFuse (s : State) : State :=
  match s.sec.fwWork with
  | some w =>
    if w.op = 2 && w.status = 0 then
      { s with sec := { s.sec.fuse w.img.svn with fwWork := none },
               ledger := { s.ledger.commit .fuses with
                 live := { s.ledger.live with fwUpdates := satSucc 32 s.ledger.live.fwUpdates } } }
    else s
  | none => s

/-- Commits that have begun or are pending complete: the fuses, calibration records, and keys. -/
def State.flushCommits (s : State) : State :=
  let s := s.flushFuse
  let s := tiles32.foldl (fun s t =>
    if s.get (R.CAL_SYS_STAT_STATE t) = 4 then s.commitRecord t (s.tile t).cap.ch (s.newRecord t) else s) s
  s.sched.streams.foldl (fun s e =>
    match e.2.keyWork with
    | none => s
    | some w =>
      let ks := (w.2 :: tblGet (fun _ => []) s.ledger.keys e.1).take 256
      { s with ledger := { s.ledger with keys := tblSet (fun _ => []) s.ledger.keys e.1 ks } }.ledgerWrite (.keys e.1)) s

/-- Stream records, digest and lifetime counters are written, and the CLEAN marker last. -/
def State.flush (s : State) : State :=
  let s := s.flushCommits
  let rets := s.sched.streams.filterMap fun e => if e.2.atHost then some (e.1, e.2.retOut) else none
  let led := { s.ledger with strRet := rets, digest := s.load.digest, kept := s.ledger.live, clean := true }
  ({ s with ledger := led } : State).ledgerWrite .restore |>.ledgerWrite .counters

/-! ### Cold starts (R367, R402) -/

/-- The words that a cold start keeps: identity, the calendar, and what the ledger shows. -/
def coldWords : List Nat :=
  [idPage + 0x40, idPage + 0x44, idPage + 0x48, idPage + 0x4C, idPage + 0x50, idPage + 0x54, idPage + 0x58, idPage + 0x5C,
   idPage + 0x60, licPage + 0x40, licPage + 0x44, licPage + 0x54, licPage + 0x74, licPage + 0x84, licPage + 0x88]

/-- What of the security state outlasts a cold reset: records in the ledger, fuses and the firmware banks. -/
def SecSt.kept (x : SecSt) : SecSt :=
  { rsvA := x.rsvA, rsvB := x.rsvB, next := x.rsv, spent := x.spent, otpSvn := x.otpSvn, bankA := x.bankA, bankB := x.bankB,
    okA := x.okA, okB := x.okB, activeB := x.activeB, uncommitted := x.uncommitted, slots := x.slots }

/-- The registers of the security page that show its state (R399). -/
def State.secSync (s : State) : State :=
  let owners := (List.range 4).foldl (fun m k =>
    if (tblGet (fun _ => ({} : OwnerSlot)) s.sec.slots k).state = 1 then m + 2 ^ k else m) 0
  let s := (s.put R.SEC_STAT_OWNERS owners).putB R.SEC_STAT_FW_UNCOMMITTED s.sec.uncommitted
  let s := (s.put R.SEC_STAT_FW_SVN s.sec.running.svn).put R.SEC_STAT_OTP_SVN s.sec.otpSvn
  let s := (s.put R.SEC_LMS_NEXT_LO s.sec.next).put R.SEC_LMS_NEXT_HI (s.sec.next / 2 ^ 32)
  let s := (s.put R.SEC_LMS_RSV_LO s.sec.rsv).put R.SEC_LMS_RSV_HI (s.sec.rsv / 2 ^ 32)
  (s.put R.SEC_GLITCH_CNT_COUNT s.ledger.live.glitches).putB R.SEC_STAT_OWN_EN s.straps.ownEn

/-- A cold reset (R367, R229): everything but the lichen domain, and what stands outside the device, returns to reset. The straps
are sampled (R370, R411). -/
def State.coldReset (s : State) : State :=
  let pins := s.pins.filterMap fun e =>
    if e.2.uV = 0 && !e.2.line then none else some (e.1, ({ uV := e.2.uV, line := e.2.line } : PinSt))
  let led := { s.ledger with live := s.ledger.kept, served := [], work := none }
  let base : State := { State.reset with
    pending := s.pending, free := s.free, busRead := s.busRead, busBytes := s.busBytes, v24Rev := s.v24Rev, rtcNs := s.rtcNs,
    ledger := led, pins := pins, gio := s.gio, sec := s.sec.kept, pwr := { dark := s.pwr.dark, vbat := s.pwr.vbat },
    straps := s.straps, mem := { hostOut := s.mem.hostOut, hostOwn := s.mem.hostOwn },
    host := { smbAddr := 0x58 + s.straps.smbA } }
  let base := base.putB R.TIME_STAT_SRC s.straps.tcxoSel
  ((coldWords.foldl (fun b a => b.setWord a (s.word a)) base).putB R.PFAIL_STAT_V24_ARMED false).secSync

/-- The lichen domain runs again after it had lost both supplies (R414): the calendar restarts from 0. -/
def State.relight (s : State) : State :=
  if s.pwr.dark then
    let s := (s.put R.RTC_SEC_LO_SEC 0).setWord R.RTC_SEC_HI_SEC.addr 0
    { s with rtcNs := 0, pwr := { s.pwr with dark := false } }
  else s

/-- Step 1 of R402: the lichen domain runs from main power, the ROM starts, device time starts at 0, EPOCH counts the cold
start (R423), and every domain but those of the tiles is powered (R405, R429). -/
def State.powerUp (s : State) : State :=
  let s := s.relight
  let s := (s.putB R.RTC_STAT_ON_VBAT false).putB R.PFAIL_STAT_MAIN_OK true
  let s := s.countNow fun c => { c with epoch := satSucc 64 c.epoch }
  let s := (List.range 144 ++ [208, 209, 210, 211]).foldl (fun (s : State) d => s.setDom d true) s
  { s with time := 0, pwr := { s.pwr with phase := 1 }, sec := { s.sec with glitched := false } }

/-- POWER_GOOD (R401, R402): every main rail has been in tolerance with SYS_RST_N high, on a device that waits for it; one whose
supplies recovered after a complete flush, before hold-up ended, waits too (R418, R429). -/
def execPowerGood (s : State) : Host.Outcome State Fault Refusal :=
  .next (if s.pwr.phase = 0 then
    ({ s with flt := { s.flt with pfail := false }, pwr := { s.pwr with flushed := false } } : State).powerUp
  else s)

/-- The lichen domain runs from VBAT (R416); without VBAT the calendar is lost (R414). -/
def State.onVbat (s : State) : State :=
  let s := s.putB R.RTC_STAT_ON_VBAT true
  if s.pwr.vbat then s else { s.putB R.RTC_STAT_VALID false with pwr := { s.pwr with dark := true } }

/-- SYS_RST_N (R367): a cold reset after the flush; the device waits for power-good, which does not hold, so that the lichen domain runs
from VBAT (R416, DEDUCED, assumption log 191). -/
def execSysRstN (s : State) : Host.Outcome State Fault Refusal :=
  .next (if s.pwr.phase = 0 then s else (s.flush.putB R.PFAIL_STAT_LAST_CLEAN true).coldReset.onVbat)

/-- A class 5 fault (R439): its record is in the ledger log, FAULT frames and the fatal error message leave, and a cold reset runs
without a flush. What has left through the ports stays listed. -/
def State.class5 (s : State) (r : Src) (cause info : Nat) : State :=
  let s := (((s.record r 5 cause info).1).faultFrames 5 cause r.unit).report .internalFatal
  let left := fun p : Nat => (s.port p).out
  let aer := s.flt.aer
  let s := (s.coldReset.putB R.FLT_STAT_LAST_C5 true).powerUp
  let s := [0, 1].foldl (fun s p => s.modPort p fun x => { x with out := left p }) s
  { s with flt := { s.flt with c5Reset := true, aer := aer } }

/-- LOCKSTEP_MISMATCH (R12, R435). -/
def execLockstepMismatch (pair : Fin 2) (s : State) : Host.Outcome State Fault Refusal :=
  .next (s.class5 (s.srcDev 0x1A) 0x69 pair)

/-! ### From power-good to trained memory (R402) -/

/-- A bank qualifies (R391): it verifies, and its SVN is at least OTP_SVN. -/
def SecSt.qualA (x : SecSt) : Bool := x.okA && x.otpSvn ≤ x.bankA.svn
def SecSt.qualB (x : SecSt) : Bool := x.okB && x.otpSvn ≤ x.bankB.svn

/-- The bank that the ROM boots where one qualifies: the one marked active if it does, else the other (R391). -/
def SecSt.bootB (x : SecSt) : Bool := if x.activeB then x.qualB else !x.qualA

/-- The ROM boots a bank, and latigo training begins; where neither bank qualifies the device enumerates FAILED (R391). -/
def State.bootRom (s : State) : State :=
  let b := s.sec.bootB
  if s.sec.qualA || s.sec.qualB then
    let s := { s with pwr := { s.pwr with noFw := false }, sec := { s.sec with running := if b then s.sec.bankB else s.sec.bankA } }
    ((s.secSync.put R.SEC_STAT_FW_BANK b.toNat).trainPort 0).trainPort 1
  else (({ s with pwr := { s.pwr with noFw := true } } : State).put R.SEC_STAT_FW_BANK 3).setLoad 6

/-- FIRMWARE_VERIFIED (R391, R402 step 3): whether each bank's image verifies (log 189), and the boot. -/
def execFirmwareVerified (aOk bOk : Bool) (s : State) : Host.Outcome State Fault Refusal :=
  .next (if s.pwr.phase = 1 then
    ({ s with flt := { s.flt with c5Reset := false }, pwr := { s.pwr with phase := 2 },
              sec := { s.sec with okA := aOk, okB := bOk } } : State).bootRom
  else s)

/-- A slot of the RSV record that was found torn (R375). -/
def SecSt.tearRsv (x : SecSt) (second : Bool) : SecSt :=
  if second then { x with rsvB := { x.rsvB with ok := false } } else { x with rsvA := { x.rsvA with ok := false } }

/-- A slot that was found torn (R164, R166, R375). -/
def State.loseRecord (s : State) (x : TornSlot) : State :=
  if x.rsv then { s with sec := s.sec.tearRsv x.second }
  else match x.chan with
  | some c => s.setCalPair x.tile c.1 c.2 ((s.calPair x.tile c.1 c.2).tear x.second)
  | none => s.setSelfPair x.tile ((s.selfPair x.tile).tear x.second)

/-- Every channel's coefficients and every tile's record are restored, and each lost record raises CAL_LOST (R151, R164, R167,
R169). -/
def State.restoreCal (s : State) : State :=
  let s := tiles32.foldl (fun s t => (s.loadSets t).showSelf t) s
  s.ledger.cal.foldl (fun s e =>
    if e.2.lost (chRecord (e.1 / 256) (e.1 / 16 % 16) (e.1 % 16)) then
      (s.putIdx (R.CAL_LOST (e.1 / 256)) (e.1 / 16 % 16) true).raise (s.srcCal (e.1 / 256) (e.1 / 16 % 16)) 2 0x16 (e.1 % 16)
    else s) s

/-- The memory key is drawn: any of its values (R229). -/
def State.drawKey (s : State) : State :=
  let d := s.draw (2 ^ 512)
  { d.2 with mem := { d.2.mem with key := some d.1 } }

/-- MEMORY_TRAINED (R402 step 4): a channel that did not train is out of service (R230), the memory key is drawn (R229), the
ledger is restored, NEXT takes RSV (R375), and the tile domains make their fiddlehead starts. -/
def execMemoryTrained (trained : BitVec 4) (torn : List TornSlot) (s : State) :
    Host.Outcome State Fault Refusal :=
  .next (if s.pwr.phase = 2 && !s.pwr.noFw then
    let s := { s with pwr := { s.pwr with phase := 3 } }
    let s := (List.range 4).foldl (fun s c =>
      if trained.getLsbD c then s
      else ((s.putIdx R.MEM_STAT_CH_LOST c true).journalCopyLost c).raise (s.srcDev 0x11) 3 0x32 c) s
    let s := (s.drawKey.putB R.MEM_STAT_KEY_VALID true).putB R.CXL_MEM_ACTIVE true
    let s := torn.foldl (fun s x => s.loseRecord x) s
    let s := ({ s with sec := { s.sec with next := s.sec.rsv } } : State).secSync.restoreCal
    tiles32.foldl (fun s t => (s.startDomain (domConv t)).startDomain (domField t)) s
  else s)

/-! ### PFAIL (R418, R419) -/

/-- PFAIL asserts (R419 step 1): ring taking stops, outputs take their class 4 state, calibration work ends, a fiddlehead start
is abandoned (R429), a reload ends (R319), a load stops (R345), a ledger command ends PFAIL (R429). The monitors arm at
power-good (R402 step 1). -/
def State.powerFail (s : State) (v24 : Bool) : State :=
  if s.flt.pfail || s.pwr.phase = 0 then s
  else
    let s := { s with
      flt := { s.flt with pfail := true }
      sched := { s.sched with stopped := true }
      pwr := { s.pwr with starts := [], offs := [], flushed := false }
      load := { s.load with stopped := s.load.stopped || s.get R.LAT_LOAD_STAT_STATE = 4 } }
    let s := (s.putB R.PFAIL_STAT_LAST_V24 v24).logAdd (.pfail v24 s.calTime)
    let s := if v24 then s else s.putB R.PFAIL_STAT_MAIN_OK false
    let s := tiles32.foldl (fun s t => s.abortCal t 3) s.allOutFault
    let s := if s.bit R.FAB_RCFG_STAT_BUSY then (if s.rcfg.girth then s.frameErr else s.abortReload) else s
    if s.bit R.LDG_STAT_BUSY then
      ((s.putB R.LDG_STAT_BUSY false).put R.LDG_STAT_STATUS 4).done .lichen
    else s

/-- What a main rail takes with it beside the PFAIL (R12): without VDDA or VDDA_HV every converter core stops, without VFP or VFN
every pin falls to the safe pull. A PFAIL ends in a cold start, so the rail comes back with it. -/
def State.railLost (s : State) (rail : Rail) : State :=
  match rail with
  | .vdda | .vddaHv => tiles32.foldl (fun s t => s.stopConv t) { s with pwr := { s.pwr with convRail := true } }
  | .vfp | .vfn => tiles32.foldl (fun s t => s.loseField t) { s with pwr := { s.pwr with fieldRail := true } }
  | _ => s

/-- V24 can raise PFAIL (R418): it is watched and its monitor is armed. -/
def State.v24Watched (s : State) : Bool := s.bit R.PFAIL_CFG_V24_EN && s.bit R.PFAIL_STAT_V24_ARMED

/-- V24 is no longer above its threshold: DOUT24 pins turn off (R479). -/
def State.v24Fell (s : State) : State := (s.putB R.PFAIL_STAT_V24_OK false).eachTilePin fun s t n => s.syncDout t n

/-- PFAIL (R418, R419): a main rail leaves its tolerance, or V24 falls. -/
def execPfail (rail : Rail) (s : State) : Host.Outcome State Fault Refusal :=
  .next (if rail = .v24 then
    let s := s.v24Fell
    if s.v24Watched then s.powerFail true else s
  else if s.pwr.phase = 0 then s
  else (s.powerFail false).railLost rail)

/-- V24_ARM (R418): V24 has stayed above its threshold; the monitor arms for the time since power-good. -/
def execV24Arm (s : State) : Host.Outcome State Fault Refusal :=
  .next (
    let s := (s.putB R.PFAIL_STAT_V24_OK true).eachTilePin fun s t n => s.syncDout t n
    if s.pwr.phase = 0 then s else s.putB R.PFAIL_STAT_V24_ARMED true)

/-- V24_LOW (R418): PFAIL while the monitor is armed and watched. -/
def execV24Low (s : State) : Host.Outcome State Fault Refusal :=
  .next (
    let s := s.v24Fell
    if s.v24Watched then s.powerFail true else s)

end Sys2Proof.Machine
end

