-- ==== Sys2Proof/Machine/Lichen.lean ====
section
/-! DEFINITION. Time and the lichen domain (chapter 15): reads that latch (R412, R430), the calendar (R414 to R416), the end of a
flush (R419), lifetime counters and histograms (R423, R425), reminders (R426, R427) and ledger commands (R428). -/

namespace Sys2Proof.Machine

/-! ### Reads (R412, R430) -/

/-- TIME_STAT_READ (R430): PPS_NEW clears. -/
def execTimeStatRead (s : State) : Host.Outcome State Fault Refusal := .next (s.readClear R.TIME_STAT_PPS_NEW)

/-- TIME_LO_READ (R412): TIME_HI is latched until the next read. -/
def execTimeLoRead (s : State) : Host.Outcome State Fault Refusal :=
  .next ({ s with latch := tblIns s.latch R.TIME_HI_NS.addr (BitVec.ofNat 32 (s.time / 2 ^ 32)) }.answer (BitVec.ofNat 32 s.time))

/-- RTC_SEC_READ (R430): RTC_SEC_HI is latched. -/
def execRtcSecRead (s : State) : Host.Outcome State Fault Refusal :=
  let hi := R.RTC_SEC_HI_SEC.addr
  .next ({ s with latch := tblIns s.latch hi (s.word hi) }.answer (s.word R.RTC_SEC_LO_SEC.addr))

/-! ### Reminders (R426, R427) -/

def State.reminder (s : State) (k : Nat) : Reminder := tblGet (fun _ => ⟨0, 0, 0, 0⟩) s.ledger.reminders k
def State.setReminder (s : State) (k : Nat) (r : Reminder) : State :=
  { s with ledger := { s.ledger with reminders := tblSet (fun _ => ⟨0, 0, 0, 0⟩) s.ledger.reminders k r } }.ledgerWrite (.reminder k)

/-- What a reminder watches has reached its THRESH (R426). -/
def State.reached (s : State) (r : Reminder) : Bool :=
  if r.kind = 1 then s.bit R.RTC_STAT_VALID && r.thresh ≤ s.rtcSec
  else if r.kind = 2 then r.thresh ≤ s.ledger.live.hours
  else if r.kind = 3 then r.thresh ≤ tblGet (fun _ => 0) s.ledger.live.switches r.pin
  else false

/-- A reminder that has reached its threshold falls due once, with a class 0 event (R427). -/
def State.fallDue (s : State) (k : Nat) : State :=
  if s.reached (s.reminder k) && !s.getIdx R.LDG_REM_DUE k then
    (s.putIdx R.LDG_REM_DUE k true).raise (s.srcDev 0x1B) 0 0x65 k
  else s

/-- REMINDER_DUE (R427). -/
def execReminderDue (k : Fin 32) (s : State) : Host.Outcome State Fault Refusal := .next (s.fallDue k)

/-- A reminder from its 12 bytes as one number (R426). -/
def reminderOf (v : Nat) : Reminder :=
  { kind := v % 256, pin := v / 2 ^ 8 % 256, id := v / 2 ^ 16 % 65536, thresh := v / 2 ^ 32 % 2 ^ 64 }

/-- Its bytes. -/
def reminderBytes (r : Reminder) : List Byte := leBytes 1 r.kind ++ leBytes 1 r.pin ++ leBytes 2 r.id ++ leBytes 8 r.thresh

/-! ### The calendar (R414 to R416) -/

/-- RTC_SET (R414, R415): the seconds are loaded with subseconds 0, VALID is set, the set is counted and logged, and a CALENDAR
reminder that it passes falls due at once (R429). -/
def execRtcSet (w : Writer) (sec : BitVec 40) (s : State) : Host.Outcome State Fault Refusal :=
  .next (s.byOwner w .lichen fun s =>
    let old := s.rtcSec
    let s := (s.put R.RTC_SET_LO_SEC sec.toNat).put R.RTC_SET_HI_SEC (sec.toNat / 2 ^ 32)
    let s := (s.put R.RTC_SEC_LO_SEC sec.toNat).put R.RTC_SEC_HI_SEC (sec.toNat / 2 ^ 32)
    let s := { s.put R.RTC_SEC_HI_SUBSEC 0 with rtcNs := 0 }
    let s := (s.putB R.RTC_STAT_VALID true).bump R.RTC_STAT_SETS
    let s := (s.count fun c => { c with rtcSets := satSucc 32 c.rtcSets }).logAdd (.rtcSet old sec.toNat)
    let s := (List.range 32).foldl (fun s k => if (s.reminder k).kind = 1 then s.fallDue k else s) s
    s.done .lichen)

/-- VBAT_LOSS (R414, R416): VBAT is absent; with main power absent too, the lichen domain stops, VALID clears and the calendar is
lost. -/
def execVbatLoss (s : State) : Host.Outcome State Fault Refusal :=
  let s := { s with pwr := { s.pwr with vbat := false } }
  .next (if s.bit R.RTC_STAT_ON_VBAT then s.onVbat else s)

/-- VBAT_RETURN (R414). -/
def execVbatReturn (s : State) : Host.Outcome State Fault Refusal :=
  .next ({ s with pwr := { s.pwr with vbat := true } } : State).relight

/-- VBAT_LOW (R416). -/
def execVbatLow (low : Bool) (s : State) : Host.Outcome State Fault Refusal := .next (s.putB R.RTC_STAT_VBAT_LOW low)

/-! ### The end of a power failure (R418, R419) -/

/-- A reminder being stored when PFAIL asserts is stored (R428, R429). -/
def State.storeRem (s : State) (x : LdgWork) : State :=
  if x.op = 5 then s.setReminder x.arg (reminderOf x.data)
  else if x.op = 6 then
    (s.setReminder x.arg { s.reminder x.arg with thresh := (reminderOf x.data).thresh }).putIdx R.LDG_REM_DUE x.arg false
  else s

/-- LEDGER_FLUSH_DONE (R418, R419 steps 2 to 4): the device holds itself in reset until power-good or the end of the hold-up. -/
def execLedgerFlushDone (s : State) : Host.Outcome State Fault Refusal :=
  .next (if s.flt.pfail && !s.pwr.flushed then
    let s := match s.ledger.work with
      | some x => s.storeRem x
      | none => s
    let s := (s.flush.putB R.PFAIL_STAT_LAST_CLEAN true).coldReset
    { s with flt := { s.flt with pfail := true }, pwr := { s.pwr with flushed := true } }
  else s)

/-- HOLDUP_END (R419 step 5): power is gone; without a complete flush CLEAN is not set. The device stands in reset until
power-good, and the lichen domain runs from VBAT. -/
def execHoldupEnd (s : State) : Host.Outcome State Fault Refusal :=
  .next (if s.flt.pfail then
    let s := { s with ledger := { s.ledger with clean := s.pwr.flushed } }
    ((s.putB R.PFAIL_STAT_LAST_CLEAN s.pwr.flushed).coldReset).onVbat
  else s)

/-! ### Lifetime counters (R421, R423, R425) -/

/-- The physical cores, at 3 * tile + core, that serve a connected output now. -/
def State.servingNow (s : State) : List Nat :=
  tiles32.flatMap fun t => pins8.filterMap fun n =>
    if isOutFunc (s.func t n) && !s.bit (R.PIN_STAT_SWITCHING t n) && !s.bit (R.OUT_STAT_DISC t n) then
      match s.coreOf t n with
      | some 0 => some (3 * t + s.get (R.TILE_DAC_ROUTE_D0_CORE t))
      | some _ => some (3 * t + s.get (R.TILE_DAC_ROUTE_D1_CORE t))
      | none => none
    else none

/-- LDG_WEAR takes a new worst percentage (R421): a class 0 event at 50 %, a class 2 fault at 90 %. -/
def State.wear (s : State) (pct : Nat) : State :=
  let old := s.get R.LDG_WEAR_PCT
  if pct ≤ old then s
  else
    let s := s.put R.LDG_WEAR_PCT pct
    let s := if old < 50 && 50 ≤ pct then s.raise (s.srcDev 0x1B) 0 0x66 pct else s
    if old < 90 && 90 ≤ pct then s.raise (s.srcDev 0x1B) 2 0x66 pct else s

/-- COUNTER_COMMIT (R423): an operating hour, one with power-good, ends; the counters are committed, and `wear` is what the worst line has
then been used. -/
def execCounterCommit (wear : Fin 256) (s : State) : Host.Outcome State Fault Refusal :=
  if s.pwr.phase = 0 then .next s
  else
    let now := s.servingNow
    let cores := s.ledger.served ++ now.filter fun i => !s.ledger.served.contains i
    let s := s.count fun c => { c with
      hours := satSucc 32 c.hours, energised := cores.eraseDups.foldl (fun t i => bumpAt t i (2 ^ 32)) c.energised }
    let s := { s with ledger := { s.ledger with kept := s.ledger.live, served := now.eraseDups } }.ledgerWrite .counters
    .next (s.wear wear.val)

/-- The bin of a temperature in 1/16 °C (R425). -/
def histBin (temp : Int) : Nat :=
  if temp < -640 then 0 else if 1920 < temp then 17 else min 16 (1 + ((temp + 640) / 160).toNat)

/-- HISTOGRAM_MINUTE (R425). -/
def execHistogramMinute (t : Fin 32) (s : State) : Host.Outcome State Fault Refusal :=
  .next (if s.domOn (domConv t) && s.bit (R.TILE_TEMP_VALID t) then
    s.count fun c => { c with hist := bumpAt c.hist (18 * t.val + histBin (sext 16 (s.get (R.TILE_TEMP t)))) (2 ^ 32) }
  else s)

/-! ### Ledger commands (R428) -/

/-- A ledger command ends with STATUS and LEN. -/
def State.ldgEnd (s : State) (status len : Nat) : State :=
  let s := (s.putB R.LDG_STAT_BUSY false).put R.LDG_STAT_STATUS status
  ({ s.put R.LDG_STAT_LEN len with ledger := { s.ledger with work := none } }).done .lichen

/-- STATUS with which a command ends before its MRAM access: 1 BAD_ARG, 2 NOT_PERMITTED, 0 none. -/
def ldgBad (op arg data : Nat) : Nat :=
  if op = 1 then (if arg < 14 then 0 else 1)
  else if op = 2 then (if arg < 32 then 0 else 1)
  else if op = 3 then (if arg < 8192 && arg / 16 % 16 < 10 && arg % 16 < 8 then 0 else 1)
  else if op = 4 then (if arg = 0 || arg = 16 then 0 else 1)
  else if op = 5 then (if arg < 5 then 2 else if 32 ≤ arg || 4 ≤ data % 256 then 1 else 0)
  else if op = 6 then (if arg < 32 then 0 else 1)
  else if op = 7 then 0
  else 1

/-- GO of LDG_CMD with OP and LDG_ARG (R428): ignored while BUSY reads 1; during a PFAIL, which still has to complete a staged write, it
ends PFAIL (R429). -/
def State.ldgCmd (s : State) (w : Writer) (op arg : Nat) : State :=
  s.byOwner w .lichen fun s =>
    let s := (s.put R.LDG_CMD_OP op).put R.LDG_ARG arg
    if s.bit R.LDG_STAT_BUSY then s
    else if s.flt.pfail then (s.put R.LDG_STAT_STATUS 4).done .lichen
    else
      let data := s.get (R.LDG_DATA 0) + s.get (R.LDG_DATA 1) * 2 ^ 32 + s.get (R.LDG_DATA 2) * 2 ^ 64
      let bad := ldgBad op arg data
      if bad != 0 then s.ldgEnd bad 0
      else { s.putB R.LDG_STAT_BUSY true with ledger := { s.ledger with work := some ⟨op, arg, data⟩ } }

/-- READ_COUNTERS (R424). -/
def execReadCounters (w : Writer) (arg : Word) (s : State) : Host.Outcome State Fault Refusal := .next (s.ldgCmd w 1 arg.toNat)
/-- READ_HIST (R425). -/
def execReadHist (w : Writer) (arg : Word) (s : State) : Host.Outcome State Fault Refusal := .next (s.ldgCmd w 2 arg.toNat)
/-- READ_CAL (R428). -/
def execReadCal (w : Writer) (arg : Word) (s : State) : Host.Outcome State Fault Refusal := .next (s.ldgCmd w 3 arg.toNat)
/-- READ_REM (R428). -/
def execReadRem (w : Writer) (arg : Word) (s : State) : Host.Outcome State Fault Refusal := .next (s.ldgCmd w 4 arg.toNat)
/-- SET_REM (R426, R428). -/
def execSetRem (w : Writer) (arg : Word) (s : State) : Host.Outcome State Fault Refusal := .next (s.ldgCmd w 5 arg.toNat)
/-- ACK_REM (R427). -/
def execAckRem (w : Writer) (arg : Word) (s : State) : Host.Outcome State Fault Refusal := .next (s.ldgCmd w 6 arg.toNat)
/-- READ_LOG (R428). -/
def execReadLog (w : Writer) (arg : Word) (s : State) : Host.Outcome State Fault Refusal := .next (s.ldgCmd w 7 arg.toNat)

/-- The counter table (R424). -/
def State.counterTable (s : State) : List Byte :=
  let c := s.ledger.live
  leBytes 4 c.hours ++ leBytes 8 c.epoch ++ leBytes 4 c.loads ++ leBytes 4 c.unlocks ++ leBytes 4 c.glitches ++
    leBytes 4 c.owners ++ leBytes 4 c.fwUpdates ++ leBytes 4 c.rtcSets ++ leBytes 28 0 ++ leBytes 8 s.sec.rsv ++
    leBytes 1 s.sec.otpSvn ++ leBytes 55 0 ++
    ((List.range 256).flatMap fun k => leBytes 4 (tblGet (fun _ => 0) c.overloads k)) ++
    ((List.range 256).flatMap fun k => leBytes 8 (tblGet (fun _ => 0) c.switches k)) ++
    ((List.range 96).flatMap fun k => leBytes 4 (tblGet (fun _ => 0) c.energised k))

/-- The payload of a SYS_CH record (R165); only COUNT and CAL_TIME where CALVIS is 0 (R162). -/
def calBytes (r : CalRec) (vis : Bool) : List Byte :=
  let v := fun n (x : Int) => if vis then leBytes n (lowBits (8 * n) x) else leBytes n 0
  v 4 r.off ++ v 4 r.gain ++ v 4 r.m0 ++ v 4 r.m1 ++ v 4 r.ref0 ++ v 4 r.ref1 ++
    leBytes 8 (r.time % 2 ^ 55) ++ v 4 r.hours ++ leBytes 4 r.count ++ v 2 r.avg ++ v 2 r.flags ++ leBytes 20 0

/-- 16 log entries of 16 bytes from entry `k` on, the oldest being entry 0; past the newest, zeros. -/
def State.logBytes (s : State) (k : Nat) : List Byte :=
  let l := ((s.ledger.log.reverse.drop k).take 16).flatMap fun e =>
    (List.range 4).flatMap fun w => leBytes 4 (Config.logWord e.parts w).toNat
  l ++ leBytes (256 - l.length) 0

/-- The bytes that a reading command returns. -/
def State.ldgResult (s : State) (x : LdgWork) : List Byte :=
  if x.op = 1 then (s.counterTable.drop (256 * x.arg)).take 256
  else if x.op = 2 then
    (List.range 18).flatMap fun k => leBytes 4 (tblGet (fun _ => 0) s.ledger.live.hist (18 * x.arg + k))
  else if x.op = 3 then
    let t := x.arg / 256
    calBytes (s.stored t (x.arg / 16 % 16) (x.arg % 16)) (s.bit (R.CAL_STAT_CALVIS t))
  else if x.op = 4 then (List.range 16).flatMap fun i => reminderBytes (s.reminder (x.arg + i))
  else if x.op = 7 then s.logBytes x.arg
  else []

/-- Bytes go to LDG_BUF. -/
def State.ldgBuf (s : State) (bs : List Byte) : State :=
  (List.range ((bs.length + 3) / 4)).foldl (fun s w => s.put (R.LDG_BUF_DATA w) (fromLe ((bs.drop (4 * w)).take 4))) s

/-- LEDGER_COMMAND_DONE (R428): the MRAM access ends; FAILED when it met an error. -/
def execLedgerCommandDone (ok : Bool) (s : State) : Host.Outcome State Fault Refusal :=
  .next (if s.bit R.LDG_STAT_BUSY then
    match s.ledger.work with
    | none => s
    | some x =>
      if !ok then s.ldgEnd 3 0
      else
        let bs := s.ldgResult x
        ((s.storeRem x).ldgBuf bs).ldgEnd 0 bs.length
  else s)

end Sys2Proof.Machine
end

