-- ==== Sys2Proof/Machine/Pins.lean ====
section
/-! DEFINITION. Commands of field pins and analogue tiles (chapters 02 and 03). -/

namespace Sys2Proof.Machine

/-! ### Outputs and latched bits -/

/-- PINS_OUT_WRITE (R37): the bits that differ from their present value. -/
def execPinsOutWrite (w : Writer) (t : Fin 32) (v : Byte) (s : State) : Host.Outcome State Fault Refusal :=
  .next ((s.pinBits w t (R.PINS_OUT t) (s.get (R.PINS_OUT t) ^^^ v.toNat) v.toNat).syncTile t)

/-- PINS_OUT_SET (R37). -/
def execPinsOutSet (w : Writer) (t : Fin 32) (v : Byte) (s : State) : Host.Outcome State Fault Refusal :=
  .next ((s.pinBits w t (R.PINS_OUT t) v.toNat 0xFF).syncTile t)

/-- PINS_OUT_CLR (R37). -/
def execPinsOutClr (w : Writer) (t : Fin 32) (v : Byte) (s : State) : Host.Outcome State Fault Refusal :=
  .next ((s.pinBits w t (R.PINS_OUT t) v.toNat 0).syncTile t)

/-- PINS_OE_WRITE (R37): the bits that differ from their present value. -/
def execPinsOeWrite (w : Writer) (t : Fin 32) (v : Byte) (s : State) : Host.Outcome State Fault Refusal :=
  .next ((s.pinBits w t (R.PINS_OE t) (s.get (R.PINS_OE t) ^^^ v.toNat) v.toNat).armEnables w t v.toNat)

/-- The latched bits of PIN_FLT that raise a fault, with the CAUSE of their records (R435). -/
def pinFltCauses : List (Nat × Nat) := [(0, 0x01), (1, 0x02), (2, 0x02), (3, 0x03), (4, 0x04)]

/-- A clearing write of the bits of `mask` to a pin's PIN_FLT: the bits clear, handling of what they latched ends (R441),
and clearing TRIP re-arms a DOUT24 pin (R29). Clearing a REVERSED that V24 caused also ends the V24 monitor's handling
(assumption log 12). -/
def State.clearPinFlt (s : State) (t n mask : Nat) : State :=
  let f : Field := ⟨pinPage t + 0x10C + 0x40 * n, 6, 0⟩
  let old := s.get f
  let hit := fun k => mask.testBit k && old.testBit k
  let s := s.put f (old &&& (0x7F ^^^ (mask % 128)))
  let s := s.ackCause (s.unitId t) (0x100 + n) ((pinFltCauses.filter fun e => hit e.1).map (·.2))
  let s := if hit 3 && (s.pin t n).crits.contains .revSupply then s.ackCause s.mgmtId 0x10 [0x03] else s
  if mask.testBit 4 then (s.putB (R.PIN_STAT_TRIP t n) false).syncDout t n else s

/-- PIN_FLT_CLEAR (R29, R37): a write of no 1 changes and refuses nothing. -/
def execPinFltClear (w : Writer) (t : Fin 32) (n : Fin 8) (mask : Word) (s : State) : Host.Outcome State Fault Refusal :=
  .next (if mask.toNat % 128 = 0 then s else s.byPin w t n fun s => s.clearPinFlt t n mask.toNat)

/-- PIN_EST_TIME_READ (R55). -/
def execPinEstTimeRead (t : Fin 32) (n : Fin 8) (s : State) : Host.Outcome State Fault Refusal :=
  let hi := R.PIN_EST_TIME_TIME_HI t n
  .next ({ s with latch := tblIns s.latch hi.addr (s.word hi.addr) }.answer (s.word (R.PIN_EST_TIME_TIME_LO t n).addr))

/-! ### Function switches -/

/-- FUNCTION_ATTACH (R42): every pin of the group attaches together. A tile that may not drive its pins, or that has lost
power or is contained, leaves the pin on the safe pull (R14, R44, R77). -/
def execFunctionAttach (t : Fin 32) (n : Fin 8) (s : State) : Host.Outcome State Fault Refusal :=
  if s.bit (R.PIN_STAT_SWITCHING t n) && s.driversReady t then
    .next (((groupOf (s.pin t n).nextFunc n).foldl
      (fun s m => if s.bit (R.PIN_STAT_SWITCHING t m) then s.attach t m else s) s).syncSets t)
  else .next s

/-! ### Wiring -/

/-- DIN_DEBOUNCE (R27). -/
def execDinDebounce (t : Fin 32) (n : Fin 8) (s : State) : Host.Outcome State Fault Refusal :=
  if s.func t n = 7 && s.get (R.PIN_CFG_DIN_FILT t n) != 0 then
    .next (s.modPin t n fun p => { p with din := p.dinRaw })
  else .next s

/-- DOUT24_TRIP (R29). -/
def execDout24Trip (t : Fin 32) (n : Fin 8) (s : State) : Host.Outcome State Fault Refusal :=
  if (s.pin t n).doutOn then
    let s := (s.putIdx (R.PINS_OUT t) n false).putB (R.PIN_STAT_TRIP t n) true
    let s := (s.putB (R.PIN_FLT_TRIP t n) true).syncDout t n
    .next (s.raise (s.srcPin t n) 2 0x04 0)
  else .next s

/-- OVERLOAD_START (R46): counted once per overload, in PIN_OVLD_CNT and in the ledger's lifetime count. On a function with a
current limit, an overload whose pin lies within ±36 V is the driver's current limit (R55 ILIM). -/
def execOverloadStart (t : Fin 32) (n : Fin 8) (s : State) : Host.Outcome State Fault Refusal :=
  if (s.pin t n).overload then .next s
  else
    let s := (s.modPin t n fun p => { p with overload := true }).bump (R.PIN_OVLD_CNT_OVLD t n)
    let s := s.putB (R.PIN_FLT_OVERLOAD t n) true
    let k := 8 * t.val + n.val
    let s := s.count fun c => { c with overloads := bumpAt c.overloads k (2 ^ 32) }
    let s := if shortByCurrent (s.func t n) n && (s.pin t n).uV.natAbs ≤ 36000000 then s.putB (R.PIN_STAT_ILIM t n) true else s
    .next (s.event (.pins t) 1 { sub := some n })

/-- OVERLOAD_END (R46): neither cause has been present for 1 ms. -/
def execOverloadEnd (t : Fin 32) (n : Fin 8) (s : State) : Host.Outcome State Fault Refusal :=
  .next ((s.modPin t n fun p => { p with overload := false }).putB (R.PIN_STAT_ILIM t n) false)

/-- Two consecutive estimates decide a pilot criterion (R49, R51): `run` counts those that meet it, `good` those that do
not. -/
def State.pilotCrit (s : State) (t n : Nat) (c : Crit) (run good : Nat) : State :=
  if 2 ≤ run then s.critMet t n c else if 2 ≤ good && (s.pin t n).crits.contains c then s.critGone t n c else s

/-- The next length of a run of estimates that `hold` a criterion. -/
def nextRun (hold : Bool) (n : Nat) : Nat := if hold then min 2 (n + 1) else 0

/-- PILOT_ESTIMATE (R47): PIN_OHMS, PIN_CAP, the estimate's time, and the pilot criteria of R49. -/
def execPilotEstimate (t : Fin 32) (n : Fin 8) (est : Estimate) (s : State) : Host.Outcome State Fault Refusal :=
  let f := s.func t n
  if f = 0 || s.bit (R.PIN_STAT_SWITCHING t n) || !s.domOn (domConv t) then .next s
  else
    let s := s.put (R.PIN_OHMS_RES t n) (min est.res 0x0FFFFFFF)
    let s := (s.put (R.PIN_CAP t n) (min est.cap 0xFFFF)).bump (R.PIN_CAP_ESTCNT t n)
    let s := (s.putB (R.PIN_STAT_EST_VALID t n) true).put (R.PIN_EST_TIME_TIME_LO t n) s.time
    let s := s.put (R.PIN_EST_TIME_TIME_HI t n) (s.time / 2 ^ 32)
    let open_ := match s.openTh t n with | some th => th < est.res | none => false
    let short := shortByPilot f n && est.res < s.shortTh t n
    let ref := s.get (R.PIN_CFG_PAIR_REF t (leadOf f n))
    let rev := (f = 2 || f = 11) &&
      ((ref = 1 && 10 * est.legOdd < est.legEven) || (ref = 2 && 10 * est.legEven < est.legOdd))
    let s := s.modPin t n fun p => { p with
      openRun := nextRun open_ p.openRun, openGood := nextRun (!open_) p.openGood
      shortRun := nextRun short p.shortRun, shortGood := nextRun (!short) p.shortGood
      pairRun := nextRun rev p.pairRun, pairGood := nextRun (!rev) p.pairGood }
    let p := s.pin t n
    let s := s.pilotCrit t n (if f = 14 then .openForced else .openPilot) p.openRun p.openGood
    let s := s.pilotCrit t n .shortPilot p.shortRun p.shortGood
    .next (s.pilotCrit t n .revPair p.pairRun p.pairGood)

/-- SHORT_T_EXPIRY (R49): the criteria that hold for SHORT_T, on the functions that have them. -/
def execShortTExpiry (t : Fin 32) (n : Fin 8) (c : Crit) (s : State) : Host.Outcome State Fault Refusal :=
  let f := s.func t n
  if s.bit (R.PIN_STAT_SWITCHING t n) then .next s
  else
    match c with
    | .openCompliance => .next (if f = 4 || f = 6 then s.critMet t n c else s)
    | .shortCurrent =>
      .next (if shortByCurrent f n then (s.putB (R.PIN_STAT_ILIM t n) true).critMet t n c else s)
    | .shortSupply => .next (if f = 8 && !(s.pin t n).doutOn then s.critMet t n c else s)
    | _ => .next s

/-- REVERSED_POLARITY (R49). -/
def execReversedPolarity (t : Fin 32) (n : Fin 8) (s : State) : Host.Outcome State Fault Refusal :=
  let f := s.func t n
  if !s.bit (R.PIN_STAT_SWITCHING t n) && (f = 4 || f = 6 || f = 7 || f = 13) then .next (s.critMet t n .revPolarity)
  else .next s

/-- The pins whose wiring a reversed V24 concerns (R50). -/
def State.onV24 (s : State) (t n : Nat) : Bool :=
  (s.func t n = 7 || s.func t n = 8) && !s.bit (R.PIN_STAT_SWITCHING t n)

/-- V24_REVERSED (R50): one class 2 fault from the V24 monitor, none from a pin. -/
def execV24Reversed (s : State) : Host.Outcome State Fault Refusal :=
  if s.v24Rev then .next s
  else
    let s := { s with v24Rev := true }.eachTilePin fun s t n =>
      if s.onV24 t n then (s.critLive t n .revSupply).syncDout t n else s
    .next (s.raise (s.srcDev 0x10) 2 0x03 0)

/-- V24_REVERSE_CLEAR (R50). -/
def execV24ReverseClear (s : State) : Host.Outcome State Fault Refusal :=
  .next ({ s with v24Rev := false }.eachTilePin fun s t n =>
    if (s.pin t n).crits.contains .revSupply then (s.critGone t n .revSupply).syncDout t n else s)

/-- CRITERION_CLEAR (R51): the current-based and voltage-based criteria. -/
def execCriterionClear (t : Fin 32) (n : Fin 8) (c : Crit) (s : State) : Host.Outcome State Fault Refusal :=
  match c with
  | .openCompliance | .shortSupply | .revPolarity => .next (s.critGone t n c)
  | .shortCurrent => .next ((s.putB (R.PIN_STAT_ILIM t n) false).critGone t n c)
  | _ => .next s

/-! ### The sense element (R59) -/

/-- SENSE_TRIP (R59). -/
def execSenseTrip (t : Fin 32) (n : Fin 8) (s : State) : Host.Outcome State Fault Refusal :=
  if s.func t n = 1 && s.bit (R.TILE_AFE_SENSE t n) && !(s.pin t n).snOpen then
    let s := (s.modPin t n fun p => { p with snOpen := true }).putIdx (R.TILE_AFE_STAT_SENSE_TRIP t) n true
    .next (s.raise (s.srcPin t n) 2 0x05 0)
  else .next s

/-- SENSE_TRIP_CLEAR (R59, R78). -/
def execSenseTripClear (w : Writer) (t : Fin 32) (n : Fin 8) (s : State) : Host.Outcome State Fault Refusal :=
  .next (s.byPin w t n fun s =>
    let was := s.getIdx (R.TILE_AFE_STAT_SENSE_TRIP t) n
    let s := s.putIdx (R.TILE_AFE_STAT_SENSE_TRIP t) n false
    if was then s.ackCause (s.unitId t) (0x100 + n) [0x05] else s)

/-- SN_RECLOSE (R59): not while SENSE_TRIP is set. -/
def execSnReclose (t : Fin 32) (n : Fin 8) (s : State) : Host.Outcome State Fault Refusal :=
  if s.getIdx (R.TILE_AFE_STAT_SENSE_TRIP t) n then .next s
  else .next (s.modPin t n fun p => { p with snOpen := false })

/-! ### Lanes (R70, R71) -/

/-- LANE_SWITCH_CLOSE (R70 step 3). -/
def execLaneSwitchClose (t : Fin 32) (s : State) : Host.Outcome State Fault Refusal :=
  if s.bit (R.TILE_LANE_STAT_SEG_PENDING t) && s.domReady (domField t) then
    let s := s.laneClose t
    .next (if s.pinsSettled t then s.finishCommit (.pins t) else s)
  else .next s

/-- Protection opens pin `n`'s SL switch of tile `u` if it joins lane `l` (R71). -/
def State.protPin (s : State) (l u n : Nat) : State :=
  if (s.pin u n).slClosed && s.get (R.PIN_CFG_LANE u n) = l then
    let s := (s.modPin u n fun p => { p with slClosed := false }).putIdx (R.TILE_LANE_STAT_PIN_PROT u) n true
    s.raise (s.srcPin u n) 2 0x06 l
  else s

/-- Protection opens drive entry `k` of tile `u` if it drives lane `l` (R71). -/
def State.protDrv (s : State) (l u k : Nat) : State :=
  if (s.tile u).drvClosed.contains k && s.drvLane u k = l then
    let s := (s.modTile u fun x => { x with drvClosed := x.drvClosed.erase k }).putIdx (R.TILE_LANE_STAT_DRV_PROT u) k true
    s.raise (s.srcPin u (s.drvPin u k)) 2 0x06 l
  else s

/-- LANE_PROTECTION (R71): every SL and drive connection of the net opens. -/
def execLaneProtection (t : Fin 32) (lane : Fin 16) (s : State) : Host.Outcome State Fault Refusal :=
  .next ((s.netTiles t lane).foldl (fun s u =>
    [0, 1].foldl (fun s k => s.protDrv lane u k) (s.eachPin fun s n => s.protPin lane u n)) s)

/-- The PROT bit of a connection and the pin whose owner clears it (R71, R78). -/
def State.protBit (s : State) (t : Nat) : LaneConn → Field × Nat × Nat
  | .sl n => (R.TILE_LANE_STAT_PIN_PROT t, n, n)
  | .drv k => (R.TILE_LANE_STAT_DRV_PROT t, k, s.drvPin t k)

/-- LANE_PROT_CLEAR (R71). -/
def execLaneProtClear (w : Writer) (t : Fin 32) (c : LaneConn) (s : State) : Host.Outcome State Fault Refusal :=
  let (f, k, n) := s.protBit t c
  .next (s.byPin w t n fun s =>
    if s.getIdx f k then
      ((s.putIdx f k false).ackCause (s.unitId t) (0x100 + n) [0x06]).modTile t fun x =>
        { x with protWait := c :: x.protWait.erase c }
    else s)

/-- LANE_RECONNECT (R71): subject to the net check of R69 for a drive connection. -/
def execLaneReconnect (t : Fin 32) (c : LaneConn) (s : State) : Host.Outcome State Fault Refusal :=
  if (s.tile t).protWait.contains c then
    let s := s.modTile t fun x => { x with protWait := x.protWait.erase c }
    match c with
    | .sl n =>
      let on := s.func t n = 15 && !s.bit (R.PIN_STAT_SWITCHING t n) && !s.getIdx (R.TILE_LANE_STAT_PIN_PROT t) n &&
        s.domReady (domField t)
      .next (s.modPin t n fun p => { p with slClosed := on })
    | .drv k =>
      .next ((s.checkDrv t k).closeDrv t k)
  else .next s

/-! ### Reference and temperature (R73 to R75) -/

/-- TILE_REF_STAT as a record's INFO (R435). -/
def State.refStat (s : State) (t : Nat) : Nat := (s.word (R.TILE_REF_STAT_DEV t).addr).toNat

/-- REF_CHECK (R73): `dev` in ppm, `zero` in µV referred to the ±2.5 V core. -/
def execRefCheck (t : Fin 32) (dev zero : Int) (s : State) : Host.Outcome State Fault Refusal :=
  let s := s.put (R.TILE_REF_STAT_DEV t) (lowBits 16 (clampInt (-32768) 32767 dev))
  let rb := 500 < dev || dev < -500
  let zb := 400 < zero || zero < -400
  let s := s.modTile t fun x => { x with
    refBad := nextRun rb x.refBad, refGood := nextRun (!rb) x.refGood
    zeroBad := nextRun zb x.zeroBad, zeroGood := nextRun (!zb) x.zeroGood }
  let x := s.tile t
  let setR := 2 ≤ x.refBad && !s.bit (R.TILE_REF_STAT_REF_ERR t)
  let setZ := 2 ≤ x.zeroBad && !s.bit (R.TILE_REF_STAT_ZERO_ERR t)
  let s := if setR then s.putB (R.TILE_REF_STAT_REF_ERR t) true
    else if 2 ≤ x.refGood then s.putB (R.TILE_REF_STAT_REF_ERR t) false else s
  let s := if setZ then s.putB (R.TILE_REF_STAT_ZERO_ERR t) true
    else if 2 ≤ x.zeroGood then s.putB (R.TILE_REF_STAT_ZERO_ERR t) false else s
  .next (if setR || setZ then s.raise (s.srcTile t (.pins t)) 2 0x10 (s.refStat t) else s)

/-- 120.0 °C in 1/16 °C (R75). -/
def tempMax : Int := 1920

/-- TEMP_READING (R74, R75): `temp` in 1/16 °C. -/
def execTempReading (t : Fin 32) (temp : Int) (s : State) : Host.Outcome State Fault Refusal :=
  if !s.domOn (domConv t) then .next s
  else
    let temp := clampInt (-32768) 32767 temp
    let s := (s.put (R.TILE_TEMP t) (lowBits 16 temp)).putB (R.TILE_TEMP_VALID t) true
    let s := if sext 16 (s.get (R.TILE_TEMP_MAX t)) < temp then s.put (R.TILE_TEMP_MAX t) (lowBits 16 temp) else s
    let th := sext 16 (s.get (R.TILE_TEMP_WARN_WARN_TH t))
    let s :=
      if th ≤ temp && !s.bit (R.TILE_TEMP_WARN t) then
        let s := s.putB (R.TILE_TEMP_WARN t) true
        s.raise (s.srcTile t (.pins t)) 0 0x62 (lowBits 16 temp)
      else if temp ≤ th - 32 then s.putB (R.TILE_TEMP_WARN t) false else s
    let s := s.modTile t fun x => { x with hot := nextRun (decide (tempMax ≤ temp)) x.hot }
    if 2 ≤ (s.tile t).hot && !s.bit (R.TILE_TEMP_SHUTDOWN t) then
      let s := (s.putB (R.TILE_TEMP_SHUTDOWN t) true).abandonSwitches t
      .next (s.raise (s.srcTile t (.pins t)) 3 0x11 (lowBits 16 temp))
    else .next s

/-- A contained tile restarts (R75, R437): both of its domains make a fiddlehead start. -/
def State.restartTile (s : State) (t : Nat) : State :=
  let s := { s with contained := s.contained.erase t }
  let s := s.modTile t fun x => { x with restarting := true, hot := 0 }
  (s.startDomain (domConv t)).startDomain (domField t)

/-- TILE_RESTART (R75, R461): ignored at or above the warning threshold. -/
def execTileRestart (w : Writer) (t : Fin 32) (s : State) : Host.Outcome State Fault Refusal :=
  .next (s.byOwner w (.pins t) fun s =>
    if s.bit (R.TILE_TEMP_SHUTDOWN t) && sext 16 (s.get (R.TILE_TEMP t)) < sext 16 (s.get (R.TILE_TEMP_WARN_WARN_TH t)) then
      let s := (s.putB (R.TILE_TEMP_SHUTDOWN t) false).endActive fun a => a.unit = s.unitId t
      s.restartTile t
    else s)

/-- TILE_TEMP_MAX_READ (R80, RC): the answer and the value that stands for no reading. -/
def execTileTempMaxRead (t : Fin 32) (s : State) : Host.Outcome State Fault Refusal :=
  .next ((s.answer (s.word (R.TILE_TEMP_MAX t).addr)).put (R.TILE_TEMP_MAX t) 0x8000)

end Sys2Proof.Machine
end

