-- ==== Sys2Proof/Machine/Events.lean ====
section
/-! DEFINITION. Faults, interrupts and event counters as commands (chapter 16): SAFE_N (R444), the fault page's commands (R437,
R440, R441, R443), software interrupts (R446), triggers, snapshots and live values (R450 to R452, R455), and glitch monitors
(R396, R397). -/

namespace Sys2Proof.Machine

/-! ### SAFE_N (R444) -/

/-- SAFE_N_ASSERT (R438, R444). -/
def execSafeNAssert (s : State) : Host.Outcome State Fault Refusal :=
  if s.flt.safeN then .next s
  else
    let s := { s.putB R.FLT_STAT_SAFE_N true with flt := { s.flt with safeN := true } }
    .next (s.raise (s.srcDev 0x16) 4 0x60 0)

/-- SAFE_N_DEASSERT (R440, R444): class 4 stays until an EXIT. -/
def execSafeNDeassert (s : State) : Host.Outcome State Fault Refusal :=
  .next { s.putB R.FLT_STAT_SAFE_N false with flt := { s.flt with safeN := false } }

/-! ### The fault page (R453) -/

/-- POP (R443, R441): the oldest record leaves the FIFO; with POP_ACK a class 2 record acknowledges its source, unless that
holds a later RSEQ. -/
def State.popRecord (s : State) : State :=
  match s.flt.fifo with
  | [] => s
  | r :: l =>
    let s := { s with flt := { s.flt with fifo := l } }
    if s.bit R.FLT_CFG_POP_ACK && r.cls = 2 then
      s.endActive fun a => a.unit = r.unit && a.sub = r.sub && a.rseq = r.rseq
    else s

/-- POP. -/
def execPop (w : Writer) (s : State) : Host.Outcome State Fault Refusal :=
  .next (s.byOwner w .fault fun s => s.popRecord)

/-- EXIT (R440). -/
def execExit (w : Writer) (s : State) : Host.Outcome State Fault Refusal :=
  .next (s.byOwner w .fault fun s => s.exitC4.done .fault)

/-- FLT_ACK (R441): an RSEQ that no active source holds is ignored (R445). -/
def execFltAck (w : Writer) (rseq : BitVec 16) (s : State) : Host.Outcome State Fault Refusal :=
  .next (s.byOwner w .fault fun s => s.endActive fun a => a.rseq = rseq.toNat)

/-- A unit of this device is contained (R436). -/
def State.isContained (s : State) (u : Nat) : Bool :=
  s.contained.contains u || (0x100 ≤ u && u < 0x180 && s.bit (R.ENG_STAT_CONTAINED (u - 0x100))) ||
    (0x300 ≤ u && u < 0x308 && s.get (R.FAB_REG_STAT_STATE (u - 0x300)) = 3)

/-- A contained engine reloads its staged program and enters RECOVER (R181, R436). -/
def State.recoverEngine (s : State) (e : Nat) : State :=
  (((s.putB (R.ENG_STAT_CONTAINED e) false).reloadEngine e).put (R.ENG_STAT_STATE e) 3).modEng e fun x =>
    { x with reloaded := true }

/-- What FLT_RELEASE does with a contained unit (R436). -/
def State.releaseUnit (s : State) (u : Nat) : State :=
  if u < 0x20 then s.restartTile u
  else if u < 0x180 then s.recoverEngine (u - 0x100)
  else if u < 0x210 then
    let c := u - 0x200
    let s := { s with contained := s.contained.erase u, dmas := tblClear s.dmas (16 * c) (16 * c + 16) }
    let s := (List.range 16).foldl (fun s j =>
      let s := (s.putB (R.DMA_CH_STAT_ACTIVE c j) false).putB (R.DMA_CH_STAT_SUSP c j) false
      let s := (s.putB (R.DMA_CH_STAT_WRAPPED c j) false).putB (R.DMA_CH_STAT_STOPPED c j) false
      s.put (R.DMA_CH_CAP_WP c j) 0) s
    let s := (s.put (R.DMA_STAT_ACTIVE c) 0).put (R.DMA_STAT_SUSP c) 0
    ((List.range 16).foldl (fun s j => s.dmaApply c j) s).dmaCommitted c
  else
    match s.stagedRegion (u - 0x300) with
    | some x => s.openRegion x
    | none => s.put (R.FAB_REG_STAT_STATE (u - 0x300)) 0

/-- FLT_RELEASE (R437): refused while a source of the unit is active or it is not contained; an over-temperature tile is
released only as R75 states. -/
def execFltRelease (w : Writer) (u : BitVec 13) (s : State) : Host.Outcome State Fault Refusal :=
  .next (s.byOwner w .fault fun s =>
    let u := u.toNat
    let hot := u < 0x20 && s.bit (R.TILE_TEMP_SHUTDOWN u)
    if !s.isContained u || hot || s.flt.active.any fun e => e.2.unit = s.unitId u then
      (s.putB R.FLT_REL_STAT_REFUSED true).done .fault
    else ((s.putB R.FLT_REL_STAT_REFUSED false).releaseUnit u).done .fault)

/-- FLT_DROP_CNT_READ (R453). -/
def execFltDropCntRead (s : State) : Host.Outcome State Fault Refusal := .next (s.readClear R.FLT_DROP_CNT_COUNT)

/-! ### Software interrupts (R446, R454) -/

/-- IRQ_SWI_WRITE. -/
def execIrqSwiWrite (w : Writer) (v : Byte) (s : State) : Host.Outcome State Fault Refusal :=
  .next (s.byOwner w .irq fun s =>
    s.withSrcs ((List.range 8).map (· + 312)) fun s => s.put R.IRQ_SWI v.toNat)

/-! ### Event counters (R450 to R452, R455) -/

/-- EVENT_TRIGGER (R450): a rising edge of trigger `n`. -/
def execEventTrigger (n : Fin 256) (s : State) : Host.Outcome State Fault Refusal := .next (s.trigRise n)

/-- EVC_SNAP (R452). -/
def execEvcSnap (w : Writer) (groups : BitVec 16) (s : State) : Host.Outcome State Fault Refusal :=
  .next (s.byOwner w .evCtl fun s => s.snapshot groups.toNat)

/-- EVC_SWTRIG (R450): software trigger k is source 1 + k. -/
def execEvcSwtrig (w : Writer) (trigs : BitVec 16) (s : State) : Host.Outcome State Fault Refusal :=
  .next (s.byOwner w .evCtl fun s =>
    s.trigSources (((List.range 16).filter fun k => trigs.getLsbD k).map (1 + ·)))

/-- EVC_WRAP (R451): a running counter passes 2^64 − 1. -/
def execEvcWrap (n : Fin 256) (s : State) : Host.Outcome State Fault Refusal :=
  .next (if s.bit (R.EVC_TRG_RUN n) then s.evcAdd 8 n (2 ^ 64 - s.evcVal n) else s)

/-- EVC_VAL_READ (R452): the read of LO latches HI. -/
def execEvcValRead (n : Fin 256) (s : State) : Host.Outcome State Fault Refusal :=
  let hi := (R.EVC_VAL_HI n).addr
  .next ({ s with latch := tblIns s.latch hi (s.word hi) }.answer (s.word (R.EVC_VAL_LO n).addr))

/-- EVC_VAL_WRITE (R455): only while EN is 0. -/
def execEvcValWrite (w : Writer) (n : Fin 256) (hi : Bool) (v : Word) (s : State) : Host.Outcome State Fault Refusal :=
  .next (s.byOwner w .evLive fun s =>
    if s.bit (R.EVC_CFG_EN n) then s else s.put (if hi then R.EVC_VAL_HI n else R.EVC_VAL_LO n) v.toNat)

/-! ### Glitch monitors (R396, R397) -/

/-- GLITCH_TRIP: a voltage condition after PFAIL is a loss of power; a trip is recorded and counted, and with main power
present it is a class 5 fault or a class 0 event. -/
def execGlitchTrip (m : Fin 6) (s : State) : Host.Outcome State Fault Refusal :=
  .next (if s.flt.pfail && (m = 0 || m = 1 || m = 5) then s
  else
    let s := (s.logAdd (.glitch m s.calTime)).countNow fun c => { c with glitches := satSucc 32 c.glitches }
    let s := { (s.secSync).put R.SEC_GLITCH_LAST_MON m with sec := { s.sec with glitched := true } }
    if s.bit R.RTC_STAT_ON_VBAT then s
    else if s.getIdx R.SEC_GLITCH_CFG_FATAL m then s.class5 (s.srcDev 0x19) 0x68 m
    else s.raise (s.srcDev 0x19) 0 0x68 m)

end Sys2Proof.Machine
end

