-- ==== Sys2Proof/Machine/Dac.lean ====
section
/-! DEFINITION. Output converters and sine generators (chapter 05): a commit of the output page, the generators, and the
commands of the write path. -/

namespace Sys2Proof.Machine

/-! ### Sine generators (R136 to R139) -/

/-- π in units of 2^-96. -/
def piFix : Int := 248902613312231085230521944622

/-- The next term of the sine series of `x` after term `k`, in units of 2^-96. -/
def sineTerm (x t : Int) (k : Nat) : Int := t * x / 2 ^ 96 * x / 2 ^ 96 / ((2 * k) * (2 * k + 1))

/-- `n` further terms of the sine series, with alternating sign. -/
def sineSum (x : Int) : Nat → Nat → Int → Int
  | 0, _, t => t
  | n + 1, k, t => t - sineSum x n (k + 1) (sineTerm x t k)

/-- Entry `i` of the quarter-wave table: 131,071 × sin(2π(i + 0.5) ÷ 16,384), rounded (R137). -/
def sineTab (i : Nat) : Int :=
  let x := (2 * i + 1) * piFix / 16384
  (sineSum x 14 1 x * 131071 + 2 ^ 95) / 2 ^ 96

/-- The 16-bit phase address of an accumulator (R137). -/
def phaseAddr (acc phoff : Nat) : Nat := (acc / 2 ^ 32 + phoff) % 65536

/-- The sine value of a phase address (R137). -/
def sineAt (p : Nat) : Int :=
  let idx := p / 4 % 4096
  let s := if p / 16384 % 2 = 1 then sineTab (4095 - idx) else sineTab idx
  if p / 32768 % 2 = 1 then -s else s

/-- The output code of a phase address at amplitude `amp` (R137). -/
def sineCode (p amp : Nat) : Nat := (0x8000 + (sineAt p * amp + 0x10000) / 2 ^ 17).toNat

def State.sg (s : State) (t k : Nat) : SgSt := tblGet (fun _ => {}) (s.tile t).sgs k
def State.setSg (s : State) (t k : Nat) (x : SgSt) : State :=
  s.modTile t fun y => { y with sgs := tblSet (fun _ => {}) y.sgs k x }

/-- FTW in effect (R136). -/
def State.ftw (s : State) (t k : Nat) : Nat := s.get (R.SG_FTW_LO t k) + s.get (R.SG_FTW_HI t k) * 2 ^ 32

/-- The generator's code enters the write path of every EXC pin that it serves (R66, R137). A held output, a range change and
a rotation keep it out, as they keep writes out. Its code is what ends STALE there, as an applied write does elsewhere (R132). -/
def State.sgDrive (s : State) (t k code : Nat) : State :=
  s.eachPin fun s n =>
    if s.func t n = 5 && !s.bit (R.PIN_STAT_SWITCHING t n) && s.get (R.TILE_AFE_SG_SEL t n) = k &&
        !s.bit (R.OUT_STAT_FAULT_HOLD t n) && !s.bit (R.OUT_STAT_RCHG t n) && !s.outHeld t n then
      ((s.modPin t n fun p => { p with rangeStale := false }).putB (R.OUT_STAT_STALE t n) false).setLimit t n code
    else s

/-- The generator forms its code from the accumulator `acc` and drives its pins. -/
def State.sgOut (s : State) (t k acc : Nat) : State :=
  let p := phaseAddr acc (s.get (R.SG_AMP_PH_PHOFF t k))
  let code := if s.bit (R.SG_STAT_RUN t k) then sineCode p (s.get (R.SG_AMP_PH_AMP t k)) else 0x8000
  (s.setSg t k { s.sg t k with acc := acc, lastP := p, code := code }).sgDrive t k code

/-- AMP and PHOFF that wait for a phase wrap take effect (R138); those of a commit with RESYNC wait on for SG_T0 (R139). -/
def State.sgWrap (s : State) (t k : Nat) : State :=
  let a := sgBase t k + 0x0C
  if s.bit (R.SG_STAT_RESYNC_PEND t k) then
    match (s.sg t k).early with
    | some w => (s.setWord a (mergeBits (s.word a) w (BitVec.ofNat 32 (accMask a .rws)))).setSg t k { s.sg t k with early := none }
    | none => s
  else s.applyWait a

/-- SG_CORE_CLOCK (R136 to R138): the accumulator advances; at a phase wrap waiting AMP and PHOFF take effect. -/
def execSgCoreClock (t : Fin 32) (k : Fin 2) (s : State) : Host.Outcome State Fault Refusal :=
  if s.bit (R.SG_STAT_RUN t k) then
    let g := s.sg t k
    let acc := (g.acc + s.ftw t k) % 2 ^ 48
    let s := if phaseAddr acc (s.get (R.SG_AMP_PH_PHOFF t k)) < g.lastP then s.sgWrap t k else s
    .next ((s.sgOut t k acc).outFinish t)
  else .next (s.sgOut t k (s.sg t k).acc)

/-- SG_AMP_PHASE_APPLY (R138). -/
def execSgAmpPhaseApply (t : Fin 32) (k : Fin 2) (s : State) : Host.Outcome State Fault Refusal :=
  if s.waits (sgBase t k + 0x0C) then .next (((s.sgWrap t k).sgOut t k (s.sg t k).acc).outFinish t) else .next s

/-- SG_RESYNC (R139). -/
def execSgResync (t : Fin 32) (k : Fin 2) (s : State) : Host.Outcome State Fault Refusal :=
  if s.bit (R.SG_STAT_RESYNC_PEND t k) then
    let s := [0x04, 0x08, 0x0C].foldl (fun s o => s.applyWait (sgBase t k + o)) s
    let s := (s.putB (R.SG_STAT_RESYNC_PEND t k) false).putB (R.SG_CTRL_RESYNC t k) false
    let s := s.setSg t k { s.sg t k with early := none }
    .next ((s.sgOut t k 0).outFinish t)
  else .next s

/-! ### A commit of the output page (R39, R132, R138, R139) -/

/-- A commit applies pin `n`'s words of the output page; a new ORANGE of an output starts a range change (R121, R132). A new
ORANGE during a range change starts no other one: step 3 of the running change takes it (DESIGN CHOICE, log 129). A code that waits
from before the commit is dropped: only a write accepted after it may end the change (R132, R133). -/
def State.commitOutPin (s : State) (t n : Nat) : State :=
  let slew := if s.bit (R.OUT_STAT_FAULT_HOLD t n) then (s.pin t n).oldSlew else s.slewNow t n
  let b := outPage t + 0x100 + 0x40 * n
  let s := [b + 0x08, b + 0x0C, b + 0x10].foldl (fun s a => s.applyStaged a) s
  let orange := s.get (R.OUT_CFG_ORANGE t n)
  if isOutFunc (s.func t n) && !s.bit (R.PIN_STAT_SWITCHING t n) then
    if s.bit (R.OUT_STAT_RCHG t n) || orange = s.get (R.OUT_STAT_ORANGE_ACT t n) then s
    else
      let off := s.bit (R.OUT_STAT_DISC t n) && s.bit (R.OUT_STAT_FAULT_HOLD t n)
      let s := s.modPin t n fun p => { p with oldSlew := slew, rchgFault := off, rampBack := false, defer := none }
      let s := if s.outHeld t n then s else s.putB (R.OUT_STAT_DEFER t n) false
      (s.putB (R.OUT_STAT_RCHG t n) true).setLimit t n 0x8000
  else s.put (R.OUT_STAT_ORANGE_ACT t n) orange

/-- A commit applies the words of generator `k`. With RESYNC the new FTW, AMP and PHOFF wait for SG_T0, and what an earlier commit
left waiting for a phase wrap still takes effect there; without it FTW takes effect and AMP and PHOFF wait for a phase wrap. Any
commit while RESYNC_PEND is 1, even of RESYNC 0, keeps the resync pending, and its values wait for SG_T0 too (DESIGN CHOICE, log
130). -/
def State.commitSg (s : State) (t k : Nat) : State :=
  let b := sgBase t k
  let fresh := (tblFind s.stg b).isSome
  let s := [b, b + 0x10, b + 0x14].foldl (fun s a => s.applyStaged a) s
  let s := s.putB (R.SG_STAT_RUN t k) (s.bit (R.SG_CTRL_EN t k) && !s.tileContained t)
  if (fresh && s.bit (R.SG_CTRL_RESYNC t k)) || s.bit (R.SG_STAT_RESYNC_PEND t k) then
    let s := if s.bit (R.SG_STAT_RESYNC_PEND t k) then s else s.setSg t k { s.sg t k with early := tblFind s.wait (b + 0x0C) }
    let t0 := (s.get (R.SG_T0_LO t k) + s.get (R.SG_T0_HI t k) * 2 ^ 32) / 4 * 4
    let s := [b + 0x04, b + 0x08, b + 0x0C].foldl (fun s a => s.toWait a) s
    let s := s.putB (R.SG_STAT_RESYNC_PEND t k) true
    if t0 < s.time then s.putB (R.SG_STAT_LATE t k) true else s
  else ([b + 0x04, b + 0x08].foldl (fun s a => s.applyStaged a) s).toWait (b + 0x0C)

/-- A commit of tile `t`'s output page by `w` (R39). -/
def State.commitOut (s : State) (w : Writer) (t : Nat) : State :=
  let ps := s.committable w t
  let s := ps.foldl (fun s n => s.commitOutPin t n) s
  let s := if s.matchesOwner w (s.get (R.PAGE_OWNER (outPage t))) then [0, 1].foldl (fun s k => s.commitSg t k) s else s
  s.commitDone (.output (Fin.ofNat 32 t)) (!s.outSettled t)

/-! ### The write path -/

/-- A write of OUT_CODE by `w` (R122): refused, ignored, or accepted. -/
def State.writeOutCode (s : State) (w : Writer) (t n code : Nat) : State :=
  s.byPin w t n fun s =>
    if (s.func t n = 3 || s.func t n = 4) && !s.bit (R.PIN_STAT_SWITCHING t n) then s.outAccept t n code
    else (s.putB (R.OUT_STAT_IGN t n) true).event (.output (Fin.ofNat 32 t)) 1 { sub := some n }

/-- OUT_CODE_WRITE (R122). -/
def execOutCodeWrite (w : Writer) (t : Fin 32) (n : Fin 8) (code : BitVec 16) (s : State) :
    Host.Outcome State Fault Refusal :=
  .next (s.writeOutCode w t n code.toNat)

/-- The item of TYPE `ty` that tile `t` executes next: the oldest one delivered to it. -/
def State.tileItem (s : State) (t ty : Nat) : Option Item :=
  let here := s.sched.flights.filter fun f => f.item.tag.dst = s.unitId t && f.phase = .sent
  let first := fun f : Flight => !here.any fun g =>
    g.item.tag.stream = f.item.tag.stream && seqLater f.item.tag.seq g.item.tag.seq
  if s.bit R.FLT_STAT_C4 then none else (here.find? fun f => f.item.tag.typ = ty && first f).map (·.item)

/-- SETPOINT_EXECUTE (R269, R286): the write of the item's CODE by its SRC; the item is executed. -/
def execSetpointExecute (t : Fin 32) (s : State) : Host.Outcome State Fault Refusal :=
  match s.tileItem t 3 with
  | none => .next s
  | some it =>
    let v := fromLe it.payload
    let s := s.writeOutCode (writerOfSrc it.tag.src) t (v / 2 ^ 16 % 8) (v % 2 ^ 16)
    .next (s.executed it.tag.stream it.tag.seq)

/-- PINS_OUT_EXECUTE (R269, R286): every pin that MASK selects is written by the item's SRC. -/
def execPinsOutExecute (t : Fin 32) (s : State) : Host.Outcome State Fault Refusal :=
  match s.tileItem t 4 with
  | none => .next s
  | some it =>
    let v := fromLe it.payload
    let s := (s.pinBits (writerOfSrc it.tag.src) t (R.PINS_OUT t) (v % 256) (v / 256 % 256)).syncTile t
    .next (s.executed it.tag.stream it.tag.seq)

/-- SLEW_STEP (R124). -/
def execSlewStep (t : Fin 32) (n : Fin 8) (s : State) : Host.Outcome State Fault Refusal :=
  if isOutFunc (s.func t n) && !s.bit (R.PIN_STAT_SWITCHING t n) then .next (s.limStep t n) else .next s

/-- DEGLITCH_HOLD_END (R127): the stage tracks the code that the core holds. -/
def execDeglitchHoldEnd (t : Fin 32) (n : Fin 8) (s : State) : Host.Outcome State Fault Refusal :=
  if s.bit (R.OUT_STAT_DG_HOLD t n) then
    let c := s.get (R.OUT_READ_CORE t n)
    let s := s.putB (R.OUT_STAT_DG_HOLD t n) false
    .next (s.modPin t n fun p => { p with stage := p.stage.map fun _ => c })
  else .next s

/-- OUT_WDOG_EXPIRY (R129): once for each silence. -/
def execOutWdogExpiry (t : Fin 32) (n : Fin 8) (s : State) : Host.Outcome State Fault Refusal :=
  if s.get (R.OUT_WDOG_TIMEOUT t n) != 0 && (s.func t n = 3 || s.func t n = 4) &&
      !s.bit (R.PIN_STAT_SWITCHING t n) && !(s.pin t n).wdogLive then
    let s := s.outWdog t n
    .next (s.raise (s.srcOut t n) 2 0x14 0)
  else .next s

/-- FAULT_HOLD_CLEAR (R131): ignored while the event that set it persists. -/
def execFaultHoldClear (w : Writer) (t : Fin 32) (n : Fin 8) (s : State) : Host.Outcome State Fault Refusal :=
  .next (s.byPin w t n fun s =>
    if s.bit (R.OUT_STAT_FAULT_HOLD t n) && !s.faultPersists t n then s.outRelease t n else s)

/-! ### Range changes (R132, R133, R135) -/

/-- RANGE_CHANGE_DISCONNECT (R132 step 2): once the ramp to mid-scale is complete. -/
def execRangeChangeDisconnect (t : Fin 32) (n : Fin 8) (s : State) : Host.Outcome State Fault Refusal :=
  if s.bit (R.OUT_STAT_RCHG t n) && !s.rotHold t n && s.get (R.OUT_READ_CORE t n) = 0x8000 then .next (s.stageOff t n)
  else .next s

/-- RANGE_CHANGE_RECONNECT (R132 step 3): the stage reconnects at mid-scale of the new range, or stays disconnected for a
fault with FAULT_DISC (R135), a range that does not fit (R121) or want of power (R129); a deferred code is applied (R133), but waits
on behind the tile's girth (R316), or the ramp of a clear made meanwhile begins (R131). A deferred code at a step 3 that ends in RANGE_ERR shows in OUT_TARGET and does not
reach the limiter (DESIGN CHOICE, log 131). -/
def execRangeChangeReconnect (t : Fin 32) (n : Fin 8) (s : State) : Host.Outcome State Fault Refusal :=
  if s.bit (R.OUT_STAT_RCHG t n) && s.bit (R.OUT_STAT_DISC t n) then
    let f := s.func t n
    let orange := s.get (R.OUT_CFG_ORANGE t n)
    let p := s.pin t n
    let s := (s.put (R.OUT_STAT_ORANGE_ACT t n) orange).putB (R.OUT_STAT_RCHG t n) false
    let s := (s.putB (R.OUT_STAT_RANGE_ERR t n) (!rangeFits f orange)).putB (R.OUT_STAT_STALE t n) true
    let s := s.modPin t n fun x => { x with
      rchgFault := false, rampBack := false, written := p.defer.isSome, rangeStale := true
      defer := if s.tileGirth t then p.defer else none }
    let off := !rangeFits f orange || (p.rchgFault && s.bit (R.OUT_CFG_FAULT_DISC t n)) || !s.domReady (domField t)
    let s := (s.stageMid t n).putB (R.OUT_STAT_DEFER t n) (s.tileGirth t && p.defer.isSome)
    let s := if off then s.stageOff t n else s
    let s := match p.defer with
      | none => if p.rampBack && !off && !s.bit (R.OUT_STAT_FAULT_HOLD t n) then s.setLimit t n (s.get (R.OUT_TARGET t n)) else s
      | some c =>
        let s := s.put (R.OUT_TARGET t n) c
        if s.bit (R.OUT_STAT_FAULT_HOLD t n) || off || s.tileGirth t then s
        else ((s.modPin t n fun x => { x with rangeStale := false }).putB (R.OUT_STAT_STALE t n) false).setLimit t n c
    .next ((s.outFinish t).rotResume t)
  else .next s

end Sys2Proof.Machine
end

