-- ==== Sys2Proof/Machine/Host.lean ====
section
/-! DEFINITION. The host interface (chapter 13): the link and power states (R348 to R350), host resets (R364, R367), viral and
errors (R351, R365, R366), CXL.mem (R359), MSI-X (R361), commanded resets (R354, R368), DOE and MCTP control (R363, R370), and
boundary scan (R371). -/

namespace Sys2Proof.Machine

/-! ### What follows when the host can be reached again (R276, R282, R284, R361) -/

/-- PROD of a running ring is read; CONS too where the ring's enable could not read it. -/
def State.readRing (s : State) (r : Nat) : State :=
  let x := s.ring r
  if !x.run then s
  else
    let s := if x.fresh then
        let c := s.hostRead (x.base + 0x40) 4
        c.2.modRing r fun x => { x with cons := fromLe c.1, next := fromLe c.1, fresh := false }
      else s
    let p := s.hostRead x.base 4
    p.2.seeProd r (fromLe p.1)

/-- Every watched line is read: the host line of each running ring, ACK_SEQ of each open host-bound stream (R360). -/
def State.readLines (s : State) : State :=
  let s := s.sched.rings.foldl (fun s e => s.readRing e.1) s
  s.sched.streams.foldl (fun s e =>
    if e.2.dst = 0x1F00 && e.2.state != 0 && e.2.state != 4 then
      let a := s.hostRead e.2.dbase 8
      a.2.seeAck e.1 (fromLe a.1)
    else s) s

/-- Messages whose vectors are open leave, and their pending bits clear (R361). -/
def State.sendPending (s : State) : State :=
  if s.hostReady then
    let vs := s.msix.pending.filter fun v => s.vecOpen v
    let s := { s with msix := { s.msix with pending := s.msix.pending.filter fun v => !s.vecOpen v } }
    vs.foldl (fun s v => s.msixSend v) s
  else s

/-- The link is in L0 again, or the function in D0. -/
def State.hostBack (s : State) : State := if s.hostReady then s.dirtyAll.readLines.sendPending else s

/-! ### Link and power states (R348, R350) -/

/-- The widest of x8, x4, x2 and x1 on which all lanes pass (R348): a narrower link takes its lanes from lane 0 on, or, lane reversal
being accepted, from lane 7 down. 0 where no width passes. -/
def widestLink (lanes : BitVec 8) : Nat :=
  if lanes = 0xFF then 8
  else if lanes &&& 0x0F = 0x0F || lanes &&& 0xF0 = 0xF0 then 4
  else if lanes &&& 0x03 = 0x03 || lanes &&& 0xC0 = 0xC0 then 2
  else if lanes.getLsbD 0 || lanes.getLsbD 7 then 1
  else 0

/-- The code of the highest rate that both partners support (R348, R353); every partner supports 2.5 GT/s. -/
def rateCode (rates : BitVec 5) : Nat :=
  if rates.getLsbD 4 then 5 else if rates.getLsbD 3 then 4 else if rates.getLsbD 2 then 3 else if rates.getLsbD 1 then 2 else 1

/-- LINK_L0_ENTRY (R282, R327, R335, R348): the link trains once the device has power (R402 step 2), where a width passes. Without CXL,
or below 8 GT/s, the device runs as a PCIe endpoint. A device whose upstream latigo port is not active takes position 0, and the
head's first entry starts the deadline. -/
def execLinkL0Entry (lanes : BitVec 8) (rates : BitVec 5) (cxl : Bool) (s : State) : Host.Outcome State Fault Refusal :=
  if s.pwr.phase = 0 || widestLink lanes = 0 then .next s
  else
    let s := { s with host := { s.host with link := 1 } }
    let s := (s.put R.YDVSEC_ID_WIDTH (widestLink lanes)).put R.YDVSEC_ID_RATE (rateCode rates)
    let s := s.putB R.YDVSEC_ID_PCIE_ONLY (!cxl || rateCode rates < 3)
    let s := if s.get (R.LAT_PSTAT_LTSTATE 0) = 5 then s else (s.put R.LAT_POS 0).putB R.LAT_POS_HEAD true
    let s := if s.isHead && !s.load.begun then s.startDeadline (s.get R.YDVSEC_LOAD_CTRL_DEADLINE) else s
    .next s.hostBack

/-- Keys of IDE streams are cleared, and with them every session ends (R364, R386). -/
def State.clearIde (s : State) : State := { s with sec := { s.sec with ide := [], doe := none, smbus := none } }

/-- The link is lost: no lane is trained. -/
def State.dropLink (s : State) : State :=
  { (s.put R.YDVSEC_ID_WIDTH 0).put R.YDVSEC_ID_RATE 0 with host := { s.host with link := 0 } }

/-- Reads of host memory by a load fail (R369): at the head, in READING and VERIFYING. -/
def State.loadReadFails (s : State) : State :=
  let st := s.get R.LAT_LOAD_STAT_STATE
  if s.isHead && (st = 1 || st = 2) then s.rejectLoad 7 s.pos else s

/-- The DOE object in progress is discarded, a response not read with it; the error bit clears (R363, R367, R369). -/
def State.dropDoe (s : State) : State :=
  { s with host := { s.host with doeIn := [], doeOut := [], doeError := false }, busBytes := [] }

/-- LINK_DOWN (R367, R369): rings and MSI-X are kept, IDE keys are cleared, a DOE object is discarded. -/
def execLinkDown (s : State) : Host.Outcome State Fault Refusal := .next (s.dropLink.clearIde.dropDoe).loadReadFails

/-- LINK_L1_ENTRY (R350). -/
def execLinkL1Entry (s : State) : Host.Outcome State Fault Refusal :=
  .next (if s.host.link = 1 then { s with host := { s.host with link := 2 } }.event .rings 3 else s)

/-- LINK_L1_EXIT (R350): back to L0, so every record is written (R282). -/
def execLinkL1Exit (s : State) : Host.Outcome State Fault Refusal :=
  .next (if s.host.link = 2 then { s with host := { s.host with link := 1 } }.hostBack else s)

/-- D3HOT_ENTRY (R350): cache and memory traffic stop, and delivery to the host waits in the journal. -/
def execD3hotEntry (s : State) : Host.Outcome State Fault Refusal := .next { s with host := { s.host with d3 := true } }

/-- D0_RETURN (R350, R369). -/
def execD0Return (s : State) : Host.Outcome State Fault Refusal :=
  .next (if s.host.d3 then { s with host := { s.host with d3 := false } }.hostBack else s)

/-! ### Resets of the host interface (R367) -/

/-- MSI-X is reset: disabled, with every vector masked and no pending bit (R361), and its table at its reset values. -/
def State.msixReset (s : State) : State :=
  { s.resetRange (cfgBase + 0x20000) (cfgBase + 0x28000) with msix := { s.msix with enabled := false, funcMask := false, unmasked := [], pending := [] } }

/-- MSI-X, DOE and the BARs are reset and IDE keys cleared; the function is in D0. -/
def State.functionReset (s : State) : State :=
  let s := (s.resetRange (cfgBase + 0x1010) (cfgBase + 0x1028)).msixReset.clearIde.dropDoe
  { s with host := { s.host with d3 := false, late := [] } }.loadReadFails

/-- The HDM decoder is disabled: accesses complete as plain DRAM accesses (R367, R369). -/
def State.hdmOff (s : State) : State := (s.putB R.HDM_DECODER_EN false).put R.HDM_DECODER_SIZE 0

/-- The words of configuration space that PERST_N resets: the capabilities, the HDM decoder, PCIE_ONLY, LOAD_ADDR, LOAD_LEN, LOAD_CTRL,
RESET_CTRL, and of RESET_STAT all but BUSY. Memory_Active stays: the memory is trained. -/
def State.configReset (s : State) : State :=
  let busy := s.bit R.YDVSEC_RESET_STAT_BUSY
  let mem := s.bit R.CXL_MEM_ACTIVE
  (s.resetRange (cfgBase + 0x10) (cfgBase + 0x20)).resetRange (cfgBase + 0x28) (cfgBase + 0x30)
    |>.resetRange (cfgBase + 0x1000) (cfgBase + 0x40000) |>.putB R.CXL_MEM_ACTIVE mem
    |>.putB R.YDVSEC_RESET_STAT_BUSY busy |>.putB R.YDVSEC_ID_PCIE_ONLY false |>.hdmOff

/-- PERST_N and a hot reset (R367): configuration space, every ring block, MSI-X and DOE are reset, IDE keys are cleared, and the
link trains again. -/
def State.hostReset (s : State) : State :=
  let s := (s.configReset).resetRange (rngPage + 0x100) (rngPage + 0x500)
  let s := s.putB (R.PAGE_STAT_APPLYING rngPage) false
  { s with sched := { s.sched with rings := [] } }.dropLink.functionReset

/-- PERST_N (R367). -/
def execPerstN (s : State) : Host.Outcome State Fault Refusal := .next s.hostReset

/-- HOT_RESET (R367). -/
def execHotReset (s : State) : Host.Outcome State Fault Refusal := .next s.hostReset

/-- A field's staged and committed values give way to the effective one. -/
def State.unstage (s : State) (f : Field) : State :=
  let clr := fun (l : List (Nat × Word)) => l.map fun e =>
    if e.1 = f.addr then (e.1, mergeBits e.2 (s.word f.addr) (BitVec.ofNat 32 ((2 ^ (f.hi + 1 - f.lo) - 1) * 2 ^ f.lo))) else e
  { s with stg := clr s.stg, wait := clr s.wait }

/-- SQ_CFG.EN of every ring is cleared, staged or not, and the records are due (R298, R367). -/
def State.flrReset (s : State) : State :=
  let s := (List.range 64).foldl (fun s r =>
    ((s.putB (R.SQ_CFG_EN r) false).unstage (R.SQ_CFG_EN r)).ringDisable r) s
  s.functionReset.dirtyAll

/-- FLR (R367): the link and the Yerekel DVSEC are kept. -/
def execFlr (s : State) : Host.Outcome State Fault Refusal := .next s.flrReset

/-- CXL_RESET (R367): as FLR, after the device cache is written back and invalidated; its lines are clean. The HDM decoder is
disabled, and the range's content is kept. -/
def execCxlReset (s : State) : Host.Outcome State Fault Refusal := .next s.flrReset.hdmOff

/-! ### CXL (R351, R359) -/

/-- The link runs CXL (R348, R349). -/
def State.cxlUp (s : State) : Bool := s.host.link != 0 && !s.bit R.YDVSEC_ID_PCIE_ONLY

/-- VIRAL (R351): an indication over a CXL link takes the device to class 4. -/
def execViral (s : State) : Host.Outcome State Fault Refusal := .next (if s.cxlUp then s.raise (s.srcDev 0x18) 4 0x44 0 else s)

/-- CACHE_WRITEBACK_INVALIDATE (R351, R360): the cache holds watched lines in Shared state, which are read again. -/
def execCacheWritebackInvalidate (s : State) : Host.Outcome State Fault Refusal :=
  .next (if s.hostReady && !s.bit R.YDVSEC_ID_PCIE_ONLY then s.readLines else s)

/-- The bytes that a read of a 64-byte line returns, none for poison (R228, R230, R359). -/
def State.hdmRead (s : State) (off : Nat) (found : EccOutcome) : State :=
  if s.physCheck 2 off 64 != .ok then { s with busBytes := [] }
  else
    let c := s.eccCheck off found
    if c.2 then { c.1.report .memoryError with busBytes := [] }
    else
      let r := (c.1.memEvents 2 off 64 false).physRead 2 off 64
      { r.2 with busBytes := r.1 }

/-- A write of bytes of a line: one that leaves a part of a half-line reads it first, and an uncorrectable error of that read keeps
the line as it was (R228). Nothing is reported to the host: R366 reports reads. -/
def State.hdmWrite (s : State) (off : Nat) (bs : List Byte) (found : EccOutcome) : State :=
  if s.physCheck 2 off 64 != .ok then s
  else
    let c : State × Bool := if bs.length % 32 = 0 then (s, false) else s.eccCheck off found
    if c.2 then c.1 else (c.1.memEvents 2 off 64 true).physWrite 2 off bs

/-- The size of the HDM range: the host has enabled the decoder for 256 MiB to 8 GiB (R231, R359). The range is unavailable in
PCIe-only operation (R349) and in D3hot (R350). -/
def State.hdmSize (s : State) : Nat :=
  if s.hostReady && !s.bit R.YDVSEC_ID_PCIE_ONLY && s.bit R.HDM_DECODER_EN then 2 ^ 28 * min 32 (s.get R.HDM_DECODER_SIZE) else 0

/-- CXL_MEM_ACCESS (R359): a line of the HDM range, which is mapped to DRAM offsets from 0. A store that the host still holds in its
caches comes as such a write before any device access that it must precede (R231, assumption log 146). Another address is an
unsupported request (R366). -/
def execCxlMemAccess (line : Nat) (op : BusOp) (found : EccOutcome) (s : State) : Host.Outcome State Fault Refusal :=
  .next (if s.hdmSize < 64 * line + 64 then (if s.cxlUp then s.report .unsupported else s)
  else match op with
    | .read _ => s.hdmRead (64 * line) found
    | .write bs => s.hdmWrite (64 * line) (bs.take 64) found)

/-! ### MSI-X (R361) -/

/-- MSIX_UNMASK: pending messages that are no longer masked are sent. -/
def execMsixUnmask (m : MsixTarget) (s : State) : Host.Outcome State Fault Refusal :=
  .next (match m with
    | .vector v =>
      if s.msix.unmasked.contains v.val then s.sendPending
      else { s with msix := { s.msix with unmasked := v.val :: s.msix.unmasked } }.sendPending
    | .function => { s with msix := { s.msix with enabled := true, funcMask := false } }.sendPending)

/-! ### Failed reads (R255, R365, R366) -/

/-- The next entry of a ring is refused BAD_PTR; one that could not be read has no stream to report to (R276). -/
def State.refusePtr (s : State) (r : Nat) (it : Option Item) : State :=
  let x := s.ring r
  if !s.hostReady || !x.run || x.next = x.prod || s.sched.stopped then s
  else match it with
    | some it => (s.refuseEntry r it 8).passEntry r none
    | none => (s.modRing r fun x => { x with rejIdx := x.next, rejCode := 8, dirty := true }).passEntry r none

/-- The BUS response to an engine's or a channel's access (R255). -/
def State.busResponse (s : State) (q : Requester) : State :=
  match q with
  | .engine e => if s.engIssues e then s.engException e 0x11 else s
  | .channel c j =>
    if s.bit (R.DMA_CH_STAT_ACTIVE c j) then
      let k := 16 * c.val + j.val
      let x := tblGet (fun _ => ({} : DmaSt)) s.dmas k
      let s := ({ s with dmas := tblSet (fun _ => {}) s.dmas k { x with ended := some (2, 10) } } : State).event (.dma c) 2 (s.dmaTag c j)
      s.raise (s.srcDma c j) 2 0x22 10
    else s

/-- A read of host memory fails for good. -/
def State.readFails (s : State) (r : HostRead) : State :=
  match r with
  | .entry r => s.refusePtr r none
  | .payload r it => s.refusePtr r (some it)
  | .extent => s.loadReadFails
  | .unit q => s.busResponse q

/-- COMPLETION_TIMEOUT (R366): a read is reissued once; its second timeout fails it. -/
def execCompletionTimeout (r : HostRead) (s : State) : Host.Outcome State Fault Refusal :=
  let s := s.report .completionTimeout
  .next (if s.host.late.contains r then { s with host := { s.host with late := s.host.late.erase r } }.readFails r
  else { s with host := { s.host with late := r :: s.host.late } })

/-- POISONED_COMPLETION (R366). -/
def execPoisonedCompletion (r : HostRead) (s : State) : Host.Outcome State Fault Refusal :=
  .next ((s.report .poisonedCompletion).readFails r)

/-- IDE_CHECK_FAILURE (R365): a stream in use becomes insecure, and the link is handled as down until new keys are installed: sets
loaded before the failure are none. A stream without keys has no check to fail. -/
def execIdeCheckFailure (str : Fin 2) (s : State) : Host.Outcome State Fault Refusal :=
  let i := tblGet (fun _ => ({} : IdeSt)) s.sec.ide str
  if i.active.isNone then .next s
  else
    let x := { i with secure := false, failed := true, next := none, stale := i.loaded.map (·.1) }
    let s := { s with sec := { s.sec with ide := tblSet (fun _ => {}) s.sec.ide str x } }
    let s := s.report .ideCheckFailed
    .next (s.raise (s.srcDev 0x18) 2 0x43 str)

/-! ### Commanded resets (R354, R368) -/

/-- GO of RESET_CTRL with a KIND of 1 or 2 (R354), a configuration write (R353). -/
def State.resetGo (s : State) (kind : Nat) (key : Byte) (f : State → State) : State :=
  let st := s.get R.LAT_LOAD_STAT_STATE
  if key != 0xA5 || !s.configActs then s
  else if (st = 0 || st = 5 || st = 6) && !s.bit R.YDVSEC_RESET_STAT_BUSY then
    f ((s.putB R.YDVSEC_RESET_STAT_REFUSED false).put R.YDVSEC_RESET_STAT_LAST kind)
  else s.putB R.YDVSEC_RESET_STAT_REFUSED true

/-- The unit codes of a device's tiles, engines, DMA units and regions (R16). -/
def allUnits : List Nat :=
  List.range 32 ++ (List.range 128).map (· + 0x100) ++ (List.range 16).map (· + 0x200) ++ (List.range 8).map (· + 0x300)

/-- RESET_WARM (R368 step 1): ring taking stops and every unit starts to quiesce. -/
def execResetWarm (key : Byte) (s : State) : Host.Outcome State Fault Refusal :=
  .next (s.resetGo 1 key fun s =>
    let s := s.putB R.YDVSEC_RESET_STAT_BUSY true
    let s := { s with sched := { s.sched with stopped := true }, host := { s.host with warm := 1 } }
    allUnits.foldl (fun s u => s.startQuiesce u) s)

/-- WARM_RESET_SAFE (R368 step 2): what still runs has been abandoned, every output takes its class 4 state, and what was taken is
written out to the journal; with no copy of it left, it is not accepted (R301). -/
def execWarmResetSafe (s : State) : Host.Outcome State Fault Refusal :=
  .next (if s.host.warm = 1 then
    let s := allUnits.foldl (fun s u => s.quiesceReturn (s.unitId u)) s
    let s := { s with host := { s.host with warm := 2 } }.allOutFault
    let s := if s.journalUp then s.sched.flights.foldl (fun s f =>
        if (f.phase = .taken || f.phase = .held) && !f.jrn && !f.isD then s.acceptFlight f else s) s
      else s.forgetTaken
    s.putB R.MEM_STAT_SCRUB false
  else s)

/-- The words that a warm reset keeps (R367, R368, R466): the pages of the tiles' field drivers, of the lichen domain and of the
CXL port, identity and scratch words, and what shows a state that the reset does not touch. -/
def warmKeeps (a : Nat) : Bool :=
  if cfgBase ≤ a then true
  else match pageOf a with
    | some (.pins _) => true
    | some (.output _) => true
    | some .lichen => true
    | some .rings => true
    | some .ident => 0x40 ≤ a
    | some .power => pwrPage + 0x48 ≤ a && a < pwrPage + 0x68
    | some .mem => a = memPage + 0x44
    | some .sched => [0x40, 0x44, 0x48, 0x50, 0x98, 0x9C, 0xA0].contains (a - schPage)
    | some .latigo => a = latPage + 0x44 || a = latPage + 0x48
    | some (.calib _) => a % 0x1000 = 0x48
    | _ => false

/-- What a warm reset keeps of a tile: its calibration's standing. -/
def TileSt.kept (x : TileSt) : TileSt := { selfCal := x.selfCal, retired := x.retired, selfFail := x.selfFail }

/-- What a warm reset keeps of the scheduler (R298): the streams and the items in the journal; D items are lost. -/
def SchedSt.kept (x : SchedSt) : SchedSt :=
  { streams := x.streams, rings := x.rings, flights := x.flights.filter fun f => !f.isD && f.jrn
    quiesce := x.quiesce, stopped := true }

/-- Step 3 of R368: the reset itself. The fault FIFO and the active table are cleared, and the device leaves class 4 (R445); debug
scopes close (R395); page locks clear (R463). -/
def State.warmReset (s : State) : State :=
  let tiles := s.tiles.filterMap fun e => if e.2.kept = {} then none else some (e.1, e.2.kept)
  let sec := { s.sec with quote := [], quoteWork := none, mctp := [], fwWork := none, unlocks := [] }
  let flt : FltSt := { rseq := s.flt.rseq, safeN := s.flt.safeN, pfail := s.flt.pfail, aer := s.flt.aer,
                       c4Causes := s.flt.c4Causes.filter fun c => c = 0x50 || c = 0x33 || c = 0x44 }
  let keep : State := { s with
    regs := s.regs.filter (fun e => warmKeeps e.1), stg := s.stg.filter (fun e => warmKeeps e.1)
    wait := s.wait.filter (fun e => warmKeeps e.1), flt := flt, contained := []
    latch := s.latch.filter (fun e => pageOf e.1 = some .lichen), deferred := []
    tiles := tiles, sched := s.sched.kept, ports := [], engs := [], dmas := [], mem := { s.mem with tlbs := [] }
    fab := {}, rcfg := {}, pwr := { s.pwr with offs := [], cmd := none }, sec := sec }
  let keep := tiles32.foldl (fun (s : State) t =>
    let s := ((s.putB (R.PAGE_LOCK (pinPage t)) false).putB (R.PAGE_LOCK (outPage t)) false).putB (R.CAL_STAT_BUSY t) false
    ((s.putB (R.SG_STAT_RUN t 0) false).putB (R.SG_STAT_RUN t 1) false).put (R.CAL_STAT_RAMPING t) 0) keep
  ((keep.putB (R.PAGE_LOCK licPage) false).putB (R.PAGE_LOCK rngPage) false).secSync

/-- WARM_RESET_DOMAINS (R368 step 3). -/
def execWarmResetDomains (s : State) : Host.Outcome State Fault Refusal :=
  .next (if s.host.warm = 2 then { s.warmReset with host := { s.host with warm := 3 } } else s)

/-- WARM_RESET_ROM (R368 step 4, R391, R392): the ROM starts the firmware anew, a staged image with it, and latigo training begins. The
journal is as it was. -/
def execWarmResetRom (s : State) : Host.Outcome State Fault Refusal :=
  .next (if s.host.warm = 3 then { s with host := { s.host with warm := 4 } }.bootRom else s)

/-- RESET_COLD (R354, R367): the ledger flush, then a cold reset; main power is good, so the device starts at once (R402). LAST
shows the reset (R353). -/
def execResetCold (key : Byte) (s : State) : Host.Outcome State Fault Refusal :=
  .next (s.resetGo 2 key fun s =>
    ((s.flush.putB R.PFAIL_STAT_LAST_CLEAN true).coldReset.put R.YDVSEC_RESET_STAT_LAST 2).powerUp)

/-! ### DOE and MCTP control (R363, R370) -/

/-- The data objects of R363, in the order in which DOE Discovery gives them: vendor and type. -/
def doeObjects : List (Nat × Nat) :=
  [(0x0001, 0), (0x1E98, 2), (0x1FA9, 1), (0x1FA9, 2), (0x1FA9, 3), (0x1FA9, 4), (0x1FA9, 5)]

/-- What DOE Discovery gives at an index: the object there, and the next index, 0 at the end of the list (PCIe DOE). -/
def doeEntry (index : Nat) : List Byte :=
  let o := doeObjects.getD index (0xFFFF, 0)
  leBytes 2 o.1 ++ leBytes 1 o.2 ++ leBytes 1 (if index + 1 < doeObjects.length then index + 1 else 0)

/-- DOE_DISCOVERY (R363). -/
def execDoeDiscovery (index : Nat) (s : State) : Host.Outcome State Fault Refusal := .next { s with busBytes := doeEntry index }

/-- The CDAT of the HDM range, whose bytes the spec does not give: free values. -/
def cdatBytes : List Byte := (List.range 64).map fun i => BitVec.ofNat 8 (Config.digest 0xCDA7 [i])

/-- TABLE_ACCESS (R363). -/
def execTableAccess (s : State) : Host.Outcome State Fault Refusal := .next { s with busBytes := cdatBytes }

/-- DOE_ABORT (R363): the object in progress, and a response not read, are discarded. -/
def execDoeAbort (s : State) : Host.Outcome State Fault Refusal := .next s.dropDoe

/-- The bytes of a response in 32-bit words, `n` of them. -/
def doeWords : Nat → List Byte → List Word
  | 0, _ => []
  | n + 1, bs => BitVec.ofNat 32 (fromLe (bs.take 4)) :: doeWords n (bs.drop 4)

/-- GO of the DOE mailbox (R363) on an object of two header words, vendor and type, and its length in words (PCIe DOE, PRESUMED, log 187),
and its body: DOE Discovery and Table Access are answered here, a security object is the row's own command (log 188). An object
longer than 64 KiB, not as long as it says, or of no listed type gets no response and sets the error bit. -/
def State.doeGo (s : State) : State :=
  let o := s.host.doeIn
  let w := o.headD 0
  let id := ((w.setWidth 16).toNat, getBits w 23 16)
  let answer := fun (s : State) (bs : List Byte) =>
    let n := (bs.length + 3) / 4
    { s with host := { s.host with doeOut := w :: BitVec.ofNat 32 (n + 2) :: doeWords n bs } }
  let s := { s with host := { s.host with doeIn := [], doeOut := [] } }
  if o.length != getBits (o.getD 1 0) 17 0 || 16384 < o.length || !doeObjects.contains id then
    { s with host := { s.host with doeError := true } }
  else if id = (1, 0) then answer s (doeEntry (getBits (o.getD 2 0) 7 0))
  else if id = (0x1E98, 2) then answer s cdatBytes
  else s

/-- MCTP_CONTROL (R370): answered with the command and a completion code of 0; the sideband writes nothing. -/
def execMctpControl (cmd : Nat) (s : State) : Host.Outcome State Fault Refusal :=
  .next { s with busBytes := leBytes 1 cmd ++ leBytes 1 0 }

/-! ### Boundary scan (R371) -/

/-- An instruction is in effect, and `bs` is what its register captures. -/
def State.scanIr (s : State) (ir : Nat) (bs : List Byte) : State :=
  { s with host := { s.host with scan := ir }, busBytes := bs }

/-- BYPASS (R371): one bit between TDI and TDO, which captures 0. -/
def execBypass (s : State) : Host.Outcome State Fault Refusal := .next (s.scanIr 0 [0])

/-- IDCODE (R371): the stepping in bits 31:28, 0x8128 in bits 27:12; the manufacturer field is a free value, and bit 0 is 1. -/
def execIdcode (s : State) : Host.Outcome State Fault Refusal :=
  let m := s.draw 2048
  .next (m.2.scanIr 1 (leBytes 4 (s.get R.GID_STEP_STEPPING * 2 ^ 28 + 0x8128 * 2 ^ 12 + m.1 * 2 + 1)))

/-- The synchronised states of the field pins (R35), pin n of tile t at bit 8 t + n, and the GIO levels. -/
def State.scanCells (s : State) : List Byte :=
  let tileByte := fun t => BitVec.ofNat 8 (pins8.foldl (fun m n => if s.pinState t n then m + 2 ^ n else m) 0)
  tiles32.map tileByte ++
    (List.range 6).map fun b => BitVec.ofNat 8 (pins8.foldl (fun m n => if s.gioIn (8 * b + n) then m + 2 ^ n else m) 0)

/-- SAMPLE_PRELOAD (R371): the cells are sampled, and those of the GIO pins take what is shifted in, on which the spec says nothing: a free
value. -/
def execSamplePreload (s : State) : Host.Outcome State Fault Refusal :=
  let d := s.draw (2 ^ 48)
  .next ({ d.2 with host := { d.2.host with preload := d.1 } }.scanIr 2 s.scanCells)

/-- EXTEST (R371): in WAIT and FAILED it captures the cells, drives the GIO pins from what was preloaded, and drives no field pin; otherwise
it behaves as BYPASS. -/
def execExtest (s : State) : Host.Outcome State Fault Refusal := .next (s.scanIr 3 (if s.scanActs then s.scanCells else [0]))

/-- CLAMP (R371): in WAIT and FAILED the GIO pins hold what was preloaded; otherwise it behaves as BYPASS. -/
def execClamp (s : State) : Host.Outcome State Fault Refusal := .next (s.scanIr 4 [0])

/-- HIGHZ (R371): in WAIT and FAILED no GIO pin is driven; otherwise it behaves as BYPASS. -/
def execHighz (s : State) : Host.Outcome State Fault Refusal := .next (s.scanIr 5 [0])

end Sys2Proof.Machine
end

