-- ==== Sys2Proof/Machine/DmaOps.lean ====
section
/-! DEFINITION. DMA channels as units: commits (R249), suspension (R252, R254), the end of an item (R247), and the commands of
the DMA page (R249, R253); and the return of the link (R254). -/

namespace Sys2Proof.Machine

/-- The ACTIVE and SUSP bits of a channel, in its own register and in DMA_STAT. -/
def State.dmaActive (s : State) (c j : Nat) (on : Bool) : State :=
  (s.putB (R.DMA_CH_STAT_ACTIVE c j) on).putIdx (R.DMA_STAT_ACTIVE c) j on
def State.dmaSusp (s : State) (c j : Nat) (on : Bool) : State :=
  (s.putB (R.DMA_CH_STAT_SUSP c j) on).putIdx (R.DMA_STAT_SUSP c) j on

/-- The channel suspends at the resume point it has reached (R252, R254). -/
def State.dmaSuspend (s : State) (c j cause va : Nat) (write : Bool) : State :=
  let x := s.dma c j
  let s := (s.put (R.DMA_CH_STAT_CAUSE c j) cause).putB (R.DMA_CH_STAT_WRITE c j) write
  let s := (s.put (R.DMA_CH_FVA_VA_LO c j) va).put (R.DMA_CH_FVA_VA_HI c j) (va / 2 ^ 32)
  let s := (s.put (R.DMA_CH_RES_DESC c j) x.desc).put (R.DMA_CH_RES_ROW c j) x.row
  let s := (s.put (R.DMA_CH_RES_OFF c j) x.off).dmaSusp c j true
  let s := s.event (dmaP c) 2 (s.dmaTag c j)
  if cause = 9 then (s.modDma c j fun x => { x with link := true }).raise (s.srcDma c j) 0 0x64 0
  else s.raise (s.srcDma c j) 2 0x21 cause

/-- A suspension ends, and with it the handling of its fault (R256). -/
def State.dmaUnsuspend (s : State) (c j : Nat) : State :=
  let s := (s.dmaSusp c j false).modDma c j fun x => { x with link := false }
  s.ackSource (s.unitId (0x200 + c)) (0x300 + j)

/-- The item will end with a STATUS, and the CAUSE of what suspended it (R247, R248). -/
def State.dmaOver (s : State) (c j status : Nat) : State :=
  let cause := if s.bit (R.DMA_CH_STAT_SUSP c j) then s.get (R.DMA_CH_STAT_CAUSE c j) else 0
  let s := if s.bit (R.DMA_CH_STAT_SUSP c j) then s.dmaUnsuspend c j else s
  s.modDma c j fun x => { x with ended := some (status, cause) }

/-! ### Commands of the DMA page (R249, R253) -/

/-- Handling of the channel's fault ends: the answer to a BUS fault, whose channel is not suspended (R255, R256, R441). -/
def State.dmaAnswer (s : State) (c j : Nat) : State := s.ackSource (s.unitId (0x200 + c)) (0x300 + j)

/-- DMA_RESUME (R253, R256). -/
def execDmaResume (w : Writer) (c : Fin 16) (j : Fin 16) (s : State) : Host.Outcome State Fault Refusal :=
  .next (s.byOwner w (.dma c) fun s => if s.bit (R.DMA_CH_STAT_SUSP c j) then s.dmaUnsuspend c j else s.dmaAnswer c j)

/-- DMA_ABORT (R253, R254, R256): the item that the channel serves ends ABORTED. -/
def execDmaAbort (w : Writer) (c : Fin 16) (j : Fin 16) (s : State) : Host.Outcome State Fault Refusal :=
  .next (s.byOwner w (.dma c) fun s =>
    let s := s.dmaAnswer c j
    if s.bit (R.DMA_CH_STAT_ACTIVE c j) && (s.dma c j).ended.isNone then s.dmaOver c j 3 else s)

/-- CAP_STOP (R249): the current item completes, and later ones end STOPPED. -/
def execCapStop (w : Writer) (c : Fin 16) (j : Fin 16) (s : State) : Host.Outcome State Fault Refusal :=
  .next (s.byOwner w (.dma c) fun s =>
    let s := s.modDma c j fun x => { x with stop := true }
    if s.bit (R.DMA_CH_STAT_ACTIVE c j) then s else s.putB (R.DMA_CH_STAT_STOPPED c j) true)

/-- DMA_FAULT_TIMEOUT (R253, R254): the item ends TIMEOUT, with no further fault; none while FAULT_TMO is 0 or the channel waits
for the link. -/
def execDmaFaultTimeout (c : Fin 16) (j : Fin 16) (s : State) : Host.Outcome State Fault Refusal :=
  .next (if s.bit (R.DMA_CH_STAT_SUSP c j) && !(s.dma c j).link && s.get (R.DMA_CTRL_FAULT_TMO c) != 0 then s.dmaOver c j 4
  else s)

/-- LINK_RESUME (R254): an access that waited for the link resumes by itself. -/
def execLinkResume (r : Requester) (s : State) : Host.Outcome State Fault Refusal :=
  .next (if s.hostReady then
    match r with
    | .engine e => if (s.eng e).susp && (s.eng e).link then s.engUnsuspend e else s
    | .channel c j => if s.bit (R.DMA_CH_STAT_SUSP c j) && (s.dma c j).link then s.dmaUnsuspend c j else s
  else s)

end Sys2Proof.Machine
end

