-- ==== Sys2Proof/Machine/Security.lean ====
section
/-! DEFINITION. Security (chapter 14): keys and certificates (R372 to R374), signature indices (R375, R376), sessions and IDE keys
(R385 to R387), quotes (R388 to R390), owners (R378 to R383), debug unlock (R394, R395) and firmware updates (R392, R393). What a
cryptographic function gives is a free value (assumption log 6). -/

namespace Sys2Proof.Machine

/-! ### Responses (R377) -/

/-- The body of a response: OP, STATUS, zeros, TAG, then what follows. -/
def objBody (op status tag : Nat) (bs : List Byte) : List Byte :=
  leBytes 1 op ++ leBytes 1 status ++ leBytes 2 0 ++ leBytes 4 tag ++ bs

/-- An object is answered. -/
def State.reply (s : State) (op status tag : Nat) (bs : List Byte := []) : State :=
  { s with busBytes := objBody op status tag bs }

/-- A request of an object (R377): nothing answers before the firmware runs (R402); it is NOT_PERMITTED where no bank qualified (R391),
and BAD_FORMAT with a wrong length or a byte that must be zero. -/
def State.object (s : State) (op : Nat) (r : ObjReq) (f : State → State) : State :=
  if s.pwr.phase < 2 then s
  else if s.pwr.noFw then s.reply op 4 r.tag
  else if !r.ok then s.reply op 1 r.tag
  else f s

/-! ### The unit's keys (R372, R373) and key derivation (R385) -/

/-- Bytes as the inputs of a cryptographic function. -/
def nums (bs : List Byte) : List Nat := bs.map (·.toNat)

/-- The unit signing key and the unit KEM key, derived from the OTP seed. -/
def signingKey : Nat := Config.digest 0x20 [Config.unitSeed]
def kemKey : Nat := Config.digest 0x21 [Config.unitSeed]

/-- The public keys in the unit's certificates: an HSS public key of 60 bytes, and an ML-KEM-768 public key of 1,184. -/
def signingPublic : List Byte := leBytes 60 (Config.digest 0x22 [signingKey])
def kemPublic : List Byte := leBytes 1184 (Config.digest 0x23 [kemKey])

/-- ML-KEM-768 decapsulation: every ciphertext gives a shared secret. -/
def decaps (ct : List Byte) : Nat := Config.digest 0x24 (kemKey :: nums ct)

/-- HMAC-SHA-256 and the two steps of HKDF-SHA-256. -/
def hmac (key : Nat) (bs : List Byte) : Nat := Config.digest 0x25 (key :: nums bs) % 2 ^ 256
def hkdfExtract (salt : List Byte) (ikm : Nat) : Nat := Config.digest 0x26 (ikm :: nums salt) % 2 ^ 256
def hkdfExpand (prk : Nat) (info : List Byte) : Nat := Config.digest 0x27 (prk :: nums info) % 2 ^ 256

/-- An HSS signature of the unit signing key with index `q`, 5,556 bytes long (R372, R389): it is made by leaf q >> 20 of the upper
tree and leaf q & 0xFFFFF of the lower (R376). -/
def hssSign (q : Nat) (bs : List Byte) : List Byte :=
  leBytes 5556 (Config.digest 7 (signingKey :: q / 2 ^ 20 :: q % 2 ^ 20 :: nums bs))

/-- k(lbl) of a session (R385): the label stands between "FD8128 " and the SID. -/
def Session.key (x : Session) (label : List Byte) : Nat :=
  hkdfExpand (hkdfExtract (leBytes 32 x.nonceH ++ leBytes 32 x.nonceD) x.secret)
    ([0x46, 0x44, 0x38, 0x31, 0x32, 0x38, 0x20] ++ label ++ leBytes 4 x.sid)

/-- k("conf") and k("att") (R385, R387, R388). -/
def Session.confKey (x : Session) : Nat := x.key [0x63, 0x6F, 0x6E, 0x66]
def Session.attKey (x : Session) : Nat := x.key [0x61, 0x74, 0x74]

/-- The keys of an IDE stream's key set, one for each direction: k("ide" || S || K || G || dir) (R387). -/
def Session.ideKeys (x : Session) (str kset gen : Nat) : List Nat :=
  [0, 1].map fun dir => x.key ([0x69, 0x64, 0x65] ++ leBytes 1 str ++ leBytes 1 kset ++ leBytes 4 gen ++ leBytes 1 dir)

/-! ### REG frames (R340, R357) -/

/-- A register access to another position leaves as a REG frame, and its response is awaited. -/
def State.regFrame (s : State) (op off v : Nat) : State :=
  let pos := off / 0x400000
  let tag := s.host.nextTag
  let s := { s with host := { s.host with regTags := s.host.regTags ++ [(tag, pos)], nextTag := (tag + 1) % 65536 } }
  s.latSend (s.portTo pos) (.reg op tag off v)

/-- A chain position is present: this one, or one that an active port leads to. -/
def State.posPresent (s : State) (p : Nat) : Bool :=
  p = s.pos || (p < s.pos && s.get (R.LAT_PSTAT_LTSTATE 0) = 5) ||
    (s.pos < p && s.get (R.LAT_PSTAT_LTSTATE 1) = 5 && (p = s.pos + 1 || p < s.get R.LAT_POS_CHAIN_LEN))

/-! ### Signature indices (R375, R376) -/

/-- A ledger commit of RSV: the slot that is not in use, an invalid one or the one with the lower SEQ, takes it with the next SEQ
(R164, R375). -/
def SecSt.commitRsv (x : SecSt) (v : Nat) : SecSt :=
  let y : RsvSlot := { seq := max x.rsvA.seq x.rsvB.seq + 1, value := v }
  if x.rsvUseA then { x with rsvB := y } else { x with rsvA := y }

/-- The index of the next signature: the state, STATUS, and the index. An exhausted key raises its fault once. -/
def State.signIndex (s : State) (ledgerOk : Bool) : State × Nat × Nat :=
  let q := s.sec.next
  if 2 ^ 35 ≤ q then
    if s.sec.spent then (s, 7, 0)
    else (({ s with sec := { s.sec with spent := true } } : State).raise (s.srcPage .security) 2 0x6A 0, 7, 0)
  else if q = s.sec.rsv && !ledgerOk then (s, 8, 0)
  else
    let s := if q = s.sec.rsv then { s with sec := s.sec.commitRsv (q + 256) }.ledgerWrite .rsv else s
    (({ s with sec := { s.sec with next := q + 1 } } : State).secSync, 0, q)

/-! ### Quotes (R388 to R390, R399) -/

/-- The highest fault class active. -/
def State.topClass (s : State) : Nat :=
  if s.bit R.FLT_STAT_C4 then 4 else s.flt.active.foldl (fun m e => max m e.2.cls) 0

/-- An owner slot. -/
def State.slot (s : State) (k : Nat) : OwnerSlot := tblGet (fun _ => {}) s.sec.slots k

/-- The four 80-byte owner records (R380). -/
def State.ownerBytes (s : State) : List Byte :=
  (List.range 4).flatMap fun k =>
    let x := s.slot k
    leBytes 1 x.state ++ leBytes 3 0 ++ leBytes 60 x.key ++ leBytes 8 x.time ++ leBytes 8 0

/-- The 16 bytes of the unit serial. -/
def State.serialBytes (s : State) : List Byte := leBytes 16 s.serialNo

/-- FLAGS of a quote. -/
def State.quoteFlags (s : State) : Nat :=
  (!s.sec.unlocks.isEmpty).toNat + (s.get R.LAT_LOAD_STAT_STATE = 5 : Bool).toNat * 2 + s.sec.uncommitted.toNat * 4 +
    s.sec.glitched.toNat * 8

/-- DIGEST of a calibration slot, over its header and payload (R163): the first 16 bytes of a digest of all that it holds. -/
def slotDigest (x : CalSlot) : List Byte :=
  let b := x.body
  leBytes 16 (Config.digest 12 ([x.typ, x.ver, x.key, x.len, x.seq, b.gain, b.time, b.hours, b.count, b.avg, b.flags] ++
    [b.off, b.m0, b.m1, b.ref0, b.ref1].map fun z => lowBits 32 z))

/-- SHA-256 over the DIGEST fields of the calibration slots in use, by TYPE and then KEY (R389). -/
def State.calDigest (s : State) : Nat :=
  let slots := s.ledger.selfRec.filterMap (fun e => e.2.inUse (selfRecord e.1)) ++
    s.ledger.cal.filterMap fun e => e.2.inUse (chRecord (e.1 / 256) (e.1 / 16 % 16) (e.1 % 16))
  sha256 (slots.flatMap slotDigest)

/-- Bytes 0 to 271 of a quote (R389). -/
def State.quoteHead (s : State) (nonce q : Nat) : List Byte :=
  let c := s.ledger.live
  leBytes 4 0x54514446 ++ leBytes 2 1 ++ leBytes 2 s.quoteFlags ++ s.serialBytes ++ leBytes 1 (s.get R.GID_STEP_STEPPING) ++
    leBytes 1 s.pos ++ leBytes 1 s.sec.running.svn ++ leBytes 1 s.sec.otpSvn ++
    leBytes 1 (s.get R.LAT_LOAD_STAT_STATE + s.get R.LAT_LOAD_STAT_CODE * 8) ++ leBytes 1 s.topClass ++ leBytes 2 0 ++
    leBytes 32 nonce ++ leBytes 32 (sha256 Config.rom) ++ leBytes 32 (sha256 s.sec.running.bytes) ++
    leBytes 32 (if s.get R.LAT_LOAD_STAT_STATE = 5 then s.load.digest else 0) ++ leBytes 32 s.calDigest ++
    leBytes 32 (sha256 s.ownerBytes) ++
    leBytes 8 s.calTime ++ leBytes 8 s.time ++ leBytes 4 c.hours ++ leBytes 4 c.loads ++ leBytes 4 c.unlocks ++
    leBytes 4 c.glitches ++ leBytes 4 c.owners ++ leBytes 4 c.fwUpdates ++ leBytes 8 q

/-- A quote of 5,832 bytes: the signed part, SIG_LEN and the signature. -/
def State.quoteBytes (s : State) (nonce q : Nat) : List Byte :=
  let head := s.quoteHead nonce q
  head ++ leBytes 4 5556 ++ hssSign q head

/-- The session of an interface. -/
def State.session (s : State) (p : SecPort) : Option Session :=
  match p with
  | .doe => s.sec.doe
  | .smbus => s.sec.smbus
def State.setSession (s : State) (p : SecPort) (x : Option Session) : State :=
  match p with
  | .doe => { s with sec := { s.sec with doe := x } }
  | .smbus => { s with sec := { s.sec with smbus := x } }

/-- The open session of an interface that a SID names. -/
def State.openSid (s : State) (p : SecPort) (sid : Nat) : Option Session :=
  match s.session p with
  | some x => if x.sid = sid then some x else none
  | none => none

/-- An answer with prepared bytes: whole over DOE; over MCTP the bytes are prepared for READ (R390). -/
def State.prepared (s : State) (p : SecPort) (op tag : Nat) (bs : List Byte) : State :=
  match p with
  | .doe => s.reply op 0 tag bs
  | .smbus => { s with sec := { s.sec with mctp := bs } }.reply op 0 tag

/-- The REG frames with which the head runs another device's mailbox (R390, R399): the nonce and GO are written, SEC_QUOTE_CTRL and
SEC_QUOTE_LEN are read, and then the quote, `len` bytes of it, a block of 64 bytes at a time. What comes back is the command's operand. -/
def State.runMailbox (s : State) (pos nonce len : Nat) : State :=
  let reg := fun o : Nat => pos * 0x400000 + secPage + o
  let s := (List.range 8).foldl (fun (s : State) (i : Nat) => s.regFrame 2 (reg (0x80 + 4 * i)) (nonce / 2 ^ (32 * i) % 2 ^ 32)) s
  let s := ((s.regFrame 2 (reg 0x60) 1).regFrame 1 (reg 0x60) 0).regFrame 1 (reg 0x64) 0
  (List.range ((len + 63) / 64)).foldl (fun (s : State) (b : Nat) =>
    (List.range 16).foldl (fun (s : State) (w : Nat) => s.regFrame 1 (reg (0x100 + 4 * w)) 0) (s.regFrame 2 (reg 0xA0) b)) s

/-- A quote, with the session's HMAC behind it where an open SID is named (R388). -/
def State.attested (s : State) (p : SecPort) (sid : Nat) (q : List Byte) : List Byte :=
  match s.openSid p sid with
  | some x => q ++ leBytes 32 (hmac x.attKey q)
  | none => q

/-- QUOTE (R388, R390). `far` is what the mailbox of another position gives, none where it is building a quote. -/
def execQuote (p : SecPort) (req : ObjReq) (nonce : Nat) (pos : Byte) (sid : Nat) (ledgerOk : Bool) (far : Option (List Byte))
    (s : State) : Host.Outcome State Fault Refusal :=
  .next (s.object 2 req fun s =>
    if !s.posPresent pos.toNat then s.reply 2 4 req.tag
    else if sid != 0 && (s.openSid p sid).isNone then s.reply 2 5 req.tag
    else if pos.toNat = s.pos then
      if s.sec.quoteWork.isSome then s.reply 2 9 req.tag
      else
        let r := s.signIndex ledgerOk
        if r.2.1 != 0 then r.1.reply 2 r.2.1 req.tag
        else r.1.prepared p 2 req.tag (s.attested p sid (s.quoteBytes nonce r.2.2))
    else match far with
      | none => s.reply 2 9 req.tag
      | some q => (s.runMailbox pos.toNat nonce q.length).prepared p 2 req.tag (s.attested p sid q))

/-! ### Certificates (R374) -/

/-- A DER element: its tag, its length and its content. -/
def der (tag : Byte) (bs : List Byte) : List Byte :=
  let n := bs.length
  tag :: (if n < 128 then [BitVec.ofNat 8 n] else [0x82, BitVec.ofNat 8 (n / 256), BitVec.ofNat 8 n]) ++ bs

/-- id-alg-hss-lms-hashsig, id-alg-ml-kem-768, and X.520's serialNumber attribute, as DER object identifiers. -/
def oidHss : List Byte := der 0x06 [0x2A, 0x86, 0x48, 0x86, 0xF7, 0x0D, 0x01, 0x09, 0x10, 0x03, 0x11]
def oidKem : List Byte := der 0x06 [0x60, 0x86, 0x48, 0x01, 0x65, 0x03, 0x04, 0x04, 0x02]
def oidSerial : List Byte := der 0x06 [0x55, 0x04, 0x05]

/-- A hexadecimal digit in ASCII, and the serial's 32 digits, byte by byte. -/
def hexDigit (n : Nat) : Byte := BitVec.ofNat 8 (if n < 10 then 0x30 + n else 0x37 + n)
def State.serialHex (s : State) : List Byte := s.serialBytes.flatMap fun b => [hexDigit (b.toNat / 16), hexDigit (b.toNat % 16)]

/-- The subject of the unit's certificates: its serial as the serialNumber attribute. -/
def State.unitName (s : State) : List Byte := der 0x30 (der 0x31 (der 0x30 (oidSerial ++ der 0x13 s.serialHex)))

/-- An X.509 v3 certificate (R374): version 3, a number, the signature's algorithm, the issuer, a validity, the subject and its key, and
the issuer's signature. Number, validity and signature are free values; `kind` tells the certificates apart. -/
def certificate (kind : Nat) (issuer subject alg key : List Byte) (sign : List Byte → List Byte) : List Byte :=
  let free := fun i n : Nat => leBytes n (Config.digest 9 [kind, i, Config.unitSeed])
  let body := der 0x30 (der 0xA0 [0x02, 0x01, 0x02] ++ der 0x02 (free 0 16) ++ der 0x30 oidHss ++ issuer ++
    der 0x30 (der 0x17 (free 1 13) ++ der 0x17 (free 2 13)) ++ subject ++ der 0x30 (der 0x30 alg ++ der 0x03 (0 :: key)))
  der 0x30 (body ++ der 0x30 oidHss ++ der 0x03 (0 :: sign body))

/-- The certificates of this device, in DER (R374, R390): the manufacturing CA's, the unit signing certificate issued by it, and the unit
KEM certificate issued by the unit signing key. -/
def State.certBytes (s : State) : List Byte :=
  Config.caCert ++
    certificate 0 Config.caName s.unitName oidHss signingPublic (fun b => leBytes 5556 (Config.digest 10 (nums b))) ++
    certificate 1 s.unitName s.unitName oidKem kemPublic (fun b => leBytes 5556 (Config.digest 10 (signingKey :: nums b)))

/-- CERTS (R390): no access of the spec carries the certificates of another position, so they are the command's operand. -/
def execCerts (p : SecPort) (req : ObjReq) (pos : Byte) (far : Option (List Byte)) (s : State) : Host.Outcome State Fault Refusal :=
  .next (s.object 3 req fun s =>
    if !s.posPresent pos.toNat then s.reply 3 4 req.tag
    else if pos.toNat = s.pos then s.prepared p 3 req.tag s.certBytes
    else match far with
      | none => s.reply 3 9 req.tag
      | some q => s.prepared p 3 req.tag q)

/-- MCTP_READ (R390): a chunk of 1,024 bytes of what is prepared, from a byte offset on, fewer at its end. -/
def execMctpRead (r : ReadReq) (s : State) : Host.Outcome State Fault Refusal :=
  .next (s.object 4 r.req fun s => s.reply 4 0 r.req.tag ((s.sec.mctp.drop r.off).take 1024))

/-- Writers of the quote mailbox: the page owner, the secure owner and the host (R399). -/
def State.byMailbox (s : State) (w : Writer) (f : State → State) : State :=
  if w = .host && s.awake then f s else s.byOwner w .security f

/-- The nonce in the mailbox. -/
def State.mailNonce (s : State) : Nat := (List.range 8).foldl (fun n i => n + s.get (R.SEC_QUOTE_NONCE i) * 2 ^ (32 * i)) 0

/-- SEC_QUOTE_GO (R399): ignored while a quote is being built (R398). -/
def execSecQuoteGo (w : Writer) (s : State) : Host.Outcome State Fault Refusal :=
  .next (s.byMailbox w fun s =>
    if s.bit R.SEC_QUOTE_CTRL_BUSY then s
    else { s.putB R.SEC_QUOTE_CTRL_BUSY true with sec := { s.sec with quoteWork := some ⟨s.mailNonce⟩ } })

/-- QUOTE_BUILT (R399): within 20 ms of GO. -/
def execQuoteBuilt (ledgerOk : Bool) (s : State) : Host.Outcome State Fault Refusal :=
  .next (match s.sec.quoteWork with
    | none => s
    | some x =>
      let r := s.signIndex ledgerOk
      let q := s.quoteBytes x.nonce r.2.2
      let t := ({ r.1 with sec := { r.1.sec with quoteWork := none } } : State).putB R.SEC_QUOTE_CTRL_BUSY false
      let t := t.put R.SEC_QUOTE_CTRL_STATUS r.2.1
      let t := if r.2.1 = 0 then { t.put R.SEC_QUOTE_LEN 5832 with sec := { t.sec with quote := q } } else t
      t.done .security)

/-! ### Sessions (R385, R386) -/

/-- SESSION_SETUP (R385): SID and N_D are drawn, and the session replaces its interface's. The confirmation is signed by the
unit signing key (R372), so it takes a signature index (R375, assumption log 50). IDE keys in use stay until the new session's GO,
or STOP (R398); loaded sets of the old session do not. -/
def execSessionSetup (p : SecPort) (req : ObjReq) (opOk : Bool) (nonceH : BitVec 256) (ct : List Byte) (ledgerOk : Bool) (s : State) :
    Host.Outcome State Fault Refusal :=
  .next (s.object 2 req fun s =>
    let g := s.signIndex ledgerOk
    if !opOk || ct.length != 1088 then s.reply 2 1 req.tag
    else if g.2.1 != 0 then g.1.reply 2 g.2.1 req.tag
    else
      let s := g.1
      let a := s.draw (2 ^ 32 - 1)
      let b := a.2.draw (2 ^ 256)
      let x : Session := { sid := a.1 + 1, nonceH := nonceH.toNat, nonceD := b.1, secret := decaps ct }
      let s := b.2.setSession p (some x)
      let s := match p with
        | .doe => { s with sec := { s.sec with ide := s.sec.ide.map fun (e : Nat × IdeSt) => (e.1, { e.2 with gen := none, loaded := [] }) } }
        | .smbus => s
      let request := objBody 2 0 req.tag (leBytes 32 x.nonceH ++ ct)
      let confirm := hmac x.confKey (leBytes 32 (sha256 (request ++ leBytes 4 x.sid ++ leBytes 32 x.nonceD)))
      s.reply 2 0 req.tag (leBytes 4 x.sid ++ leBytes 32 x.nonceD ++ leBytes 32 confirm))

/-- SESSION_CLOSE (R386). -/
def execSessionClose (p : SecPort) (req : ObjReq) (sid : Nat) (s : State) : Host.Outcome State Fault Refusal :=
  .next (s.object 3 req fun s =>
    if (s.openSid p sid).isSome then (s.setSession p none).reply 3 0 req.tag else s.reply 3 5 req.tag)

/-! ### IDE keys (R387) -/

def State.ide (s : State) (k : Nat) : IdeSt := tblGet (fun _ => {}) s.sec.ide k
def State.setIde (s : State) (k : Nat) (x : IdeSt) : State :=
  { s with sec := { s.sec with ide := tblSet (fun _ => {}) s.sec.ide k x } }

/-- An IDE request (R387): STREAM and KSET are 0 or 1, its session is open and its MAC verifies. The spec names no OP for the object: a
free value. -/
def State.ideObject (s : State) (req : ObjReq) (sid : Nat) (str kset : Byte) (macOk : Bool) (f : Nat → Session → State → State) :
    State :=
  let r := s.draw 256
  r.2.object r.1 req fun s =>
    if 2 ≤ str.toNat || 2 ≤ kset.toNat then s.reply r.1 1 req.tag
    else match s.openSid .doe sid with
    | none => s.reply r.1 5 req.tag
    | some x => if !macOk then s.reply r.1 2 req.tag else f r.1 x s

/-- PROG (R387): the key set is derived and loaded; GEN must exceed every earlier one of the stream in the session. -/
def execProg (req : ObjReq) (sid : Nat) (str kset : Byte) (gen : Nat) (macOk : Bool) (s : State) : Host.Outcome State Fault Refusal :=
  .next (s.ideObject req sid str kset macOk fun op x s =>
    let i := s.ide str.toNat
    let old := match i.gen with
      | some g => decide (gen ≤ g)
      | none => false
    if old then s.reply op 1 req.tag
    else
      let keys := x.ideKeys str.toNat kset.toNat gen
      let stale := i.stale.filter fun k => k != kset.toNat
      (s.setIde str.toNat { i with gen := some gen, loaded := tblIns i.loaded kset.toNat keys, stale := stale }).reply op 0 req.tag)

/-- IDE_GO (R387): the stream switches to a loaded key set at the next key-set change. -/
def execIdeGo (req : ObjReq) (sid : Nat) (str kset : Byte) (macOk : Bool) (s : State) : Host.Outcome State Fault Refusal :=
  .next (s.ideObject req sid str kset macOk fun op _ s =>
    match tblFind (s.ide str.toNat).loaded kset.toNat with
    | none => s.reply op 4 req.tag
    | some _ => (s.setIde str.toNat { s.ide str.toNat with next := some kset.toNat }).reply op 0 req.tag)

/-- A key-set change of the IDE protocol (R387): the stream uses the set that GO chose and is secure; where those keys are newer than a
failed check, the link is no longer handled as down (R365). -/
def State.ideSwitch (s : State) (str : Nat) : State :=
  let i := s.ide str
  match i.next with
  | none => s
  | some k =>
    match tblFind i.loaded k with
    | none => s.setIde str { i with next := none }
    | some keys =>
      let mended := i.failed && !i.stale.contains k
      let s := s.setIde str { i with next := none, active := some (k, keys), secure := true, failed := i.failed && !mended }
      if mended && s.hostReady then s.hostBack else s

/-- IDE_STOP (R387): the stream enters the insecure state. -/
def execIdeStop (req : ObjReq) (sid : Nat) (str : Byte) (macOk : Bool) (s : State) : Host.Outcome State Fault Refusal :=
  .next (s.ideObject req sid str 0 macOk fun op _ s =>
    (s.setIde str.toNat { s.ide str.toNat with active := none, secure := false, next := none }).reply op 0 req.tag)

/-! ### Challenges (R378) -/

/-- The number that `n` bytes of a signed body hold from byte `i` on. -/
def bodyNum (b : SignedBody) (i n : Nat) : Nat := fromLe ((b.bytes.drop i).take n)

/-- OWNER_CHALLENGE (R378, R381). -/
def execOwnerChallenge (req : ObjReq) (s : State) : Host.Outcome State Fault Refusal :=
  .next (s.object 1 req fun s =>
    let c := s.draw (2 ^ 256)
    { c.2 with sec := { c.2.sec with chalOwner := some c.1 } }.reply 1 0 req.tag (leBytes 32 c.1))

/-- DEBUG_CHALLENGE (R378, R394). -/
def execDebugChallenge (req : ObjReq) (s : State) : Host.Outcome State Fault Refusal :=
  .next (s.object 1 req fun s =>
    let c := s.draw (2 ^ 256)
    { c.2 with sec := { c.2.sec with chalDebug := some c.1 } }.reply 1 0 req.tag (leBytes 32 c.1))

/-- CHALLENGE_EXPIRY (R378): 60 s after its issue. -/
def execChallengeExpiry (debug : Bool) (s : State) : Host.Outcome State Fault Refusal :=
  .next { s with sec := if debug then { s.sec with chalDebug := none } else { s.sec with chalOwner := none } }

/-! ### Owners (R379 to R383) -/

/-- The fields of an owner operation's signed body (R382). -/
def ownSlot (b : SignedBody) : Nat := bodyNum b 5 1
def ownAuth (b : SignedBody) : Nat := bodyNum b 6 1
def ownSerial (b : SignedBody) : Nat := bodyNum b 8 16
def ownChallenge (b : SignedBody) : Nat := bodyNum b 24 32
def ownKey (b : SignedBody) : Nat := bodyNum b 56 60

/-- The layout of R382 for operation `op`: "FDOW", OP, the slots, the zero bytes, and SIG_LEN bytes of signature. -/
def ownFormat (op : Nat) (b : SignedBody) : Bool :=
  b.bytes.length = 120 + bodyNum b 116 4 && bodyNum b 0 4 = 0x574F4446 && bodyNum b 4 1 = op && ownSlot b < 4 && ownAuth b < 4 &&
    bodyNum b 7 1 = 0 && ((op != 2 && op != 5) || ownSlot b = 0) && (op != 2 || ownAuth b = 0) && (op != 4 || ownKey b = 0)

/-- Four bytes of a key in the byte string of RFC 8554, most significant first. -/
def keyWord (b : SignedBody) (i : Nat) : Nat := fromLe (((b.bytes.drop (56 + i)).take 4).reverse)

/-- An owner key that R379 allows: L of 1 or 2, an LMS type of height 5 to 25 and an LMOTS type of W1 to W8. The type codes are
RFC 8554's (PRESUMED, assumption log 149). -/
def ownKeyOk (b : SignedBody) : Bool :=
  1 ≤ keyWord b 0 && keyWord b 0 ≤ 2 && 5 ≤ keyWord b 4 && keyWord b 4 ≤ 9 && 1 ≤ keyWord b 8 && keyWord b 8 ≤ 4

/-- A signed owner request (R382): its format and key parameters, serial and challenge, which it uses up; then `f` decides. The
spec states no code for a serial that is not this unit's: a free refusal code. -/
def State.ownerOp (s : State) (op : Nat) (hd : ObjReq) (req : SignedBody) (keyed : Bool) (f : State → State) : State :=
  let tag := hd.tag
  s.object op hd fun s =>
    if !ownFormat op req || (keyed && !ownKeyOk req) then s.reply op 1 tag
    else if ownSerial req != s.serialNo then
      let c := s.draw 10
      c.2.reply op (c.1 + 1) tag
    else if s.sec.chalOwner != some (ownChallenge req) then s.reply op 3 tag
    else f { s with sec := { s.sec with chalOwner := none } }

/-- An operation signed by an ACTIVE key in AUTH_SLOT. -/
def State.authOp (s : State) (op : Nat) (hd : ObjReq) (req : SignedBody) (keyed : Bool) (f : State → State) : State :=
  s.ownerOp op hd req keyed fun s =>
    if (s.slot (ownAuth req)).state != 1 then s.reply op 6 hd.tag
    else if !req.sigOk then s.reply op 2 hd.tag
    else f s

def State.setSlot (s : State) (k : Nat) (x : OwnerSlot) : State :=
  { s with sec := { s.sec with slots := tblSet (fun _ => {}) s.sec.slots k x } }

/-- An enrolled key, with the calendar time. -/
def State.enrolled (s : State) (k : Nat) : OwnerSlot := { state := 1, key := k, time := s.calTime }

/-- The ledger commit of an owner operation ends it: with LEDGER and no change, or OK. -/
def State.ownerCommit (s : State) (op tag : Nat) (ledgerOk counts : Bool) (f : State → State) : State :=
  if !ledgerOk then s.reply op 8 tag
  else
    let s := (f s).ledgerWrite .owners
    let s := if counts then s.countNow fun c => { c with owners := satSucc 32 c.owners } else s
    s.secSync.reply op 0 tag

/-- The level of the OWN_EN strap, as SEC_STAT shows it (R399). -/
def State.strapOwnEn (s : State) (v : Bool) : State := { s with straps := { s.straps with ownEn := v } }.putB R.SEC_STAT_OWN_EN v

/-- ENROLL_FIRST (R381, R383): OWN_EN is sampled; every slot must be EMPTY; NEWKEY signs itself. -/
def execEnrollFirst (hd : ObjReq) (req : SignedBody) (ownEn ledgerOk : Bool) (s : State) : Host.Outcome State Fault Refusal :=
  let tag := hd.tag
  .next ((s.strapOwnEn ownEn).ownerOp 2 hd req true fun s =>
    if !ownEn || (List.range 4).any fun k => (s.slot k).state != 0 then s.reply 2 4 tag
    else if !req.sigOk then s.reply 2 2 tag
    else s.ownerCommit 2 tag ledgerOk false fun s => s.setSlot 0 (s.enrolled (ownKey req)))

/-- OWNER_ADD (R381). -/
def execOwnerAdd (hd : ObjReq) (req : SignedBody) (ledgerOk : Bool) (s : State) : Host.Outcome State Fault Refusal :=
  let tag := hd.tag
  .next (s.authOp 3 hd req true fun s =>
    if (s.slot (ownSlot req)).state != 0 then s.reply 3 6 tag
    else s.ownerCommit 3 tag ledgerOk true fun s => s.setSlot (ownSlot req) (s.enrolled (ownKey req)))

/-- The number of ACTIVE slots. -/
def State.activeSlots (s : State) : Nat := ((List.range 4).filter fun k => (s.slot k).state = 1).length

/-- REVOKE (R381): never the last ACTIVE slot. -/
def execRevoke (hd : ObjReq) (req : SignedBody) (ledgerOk : Bool) (s : State) : Host.Outcome State Fault Refusal :=
  let tag := hd.tag
  .next (s.authOp 4 hd req false fun s =>
    if (s.slot (ownSlot req)).state != 1 then s.reply 4 6 tag
    else if s.activeSlots ≤ 1 then s.reply 4 4 tag
    else s.ownerCommit 4 tag ledgerOk true fun s =>
      s.setSlot (ownSlot req) { s.slot (ownSlot req) with state := 2 })

/-- TRANSFER (R381): every slot is cleared, and NEWKEY goes into slot 0. -/
def execTransfer (hd : ObjReq) (req : SignedBody) (ledgerOk : Bool) (s : State) : Host.Outcome State Fault Refusal :=
  .next (s.authOp 5 hd req true fun s =>
    s.ownerCommit 5 hd.tag ledgerOk true fun s =>
      ({ s with sec := { s.sec with slots := [] } } : State).setSlot 0 (s.enrolled (ownKey req)))

/-- OWNER_READ (R381). -/
def execOwnerRead (req : ObjReq) (s : State) : Host.Outcome State Fault Refusal :=
  .next (s.object 6 req fun s => s.reply 6 0 req.tag s.ownerBytes)

/-! ### Debug unlock (R394, R395) -/

/-- SEC_STAT.DEBUG shows the scopes in force. -/
def State.debugSync (s : State) : State := s.put R.SEC_STAT_DEBUG (s.sec.unlocks.foldl (fun m e => m ||| e.1) 0)

/-- The fields of a debug token (R394). -/
def tokSerial (b : SignedBody) : Nat := bodyNum b 4 16
def tokChallenge (b : SignedBody) : Nat := bodyNum b 20 32
def tokScope (b : SignedBody) : Nat := bodyNum b 52 4
def tokNotAfter (b : SignedBody) : Nat := bodyNum b 56 8
def tokAuth (b : SignedBody) : Nat := bodyNum b 64 1

/-- The layout of R394: "FDDU", the zero bits and bytes, and SIG_LEN bytes of signature. -/
def tokFormat (b : SignedBody) : Bool :=
  b.bytes.length = 72 + bodyNum b 68 4 && bodyNum b 0 4 = 0x55444446 && tokScope b < 8 && tokAuth b < 4 && bodyNum b 65 3 = 0

/-- UNLOCK (R394, R395). -/
def execUnlock (hd : ObjReq) (token sig : List Byte) (sigOk : Bool) (s : State) : Host.Outcome State Fault Refusal :=
  let tag := hd.tag
  .next (s.object 2 hd fun s =>
    let token : SignedBody := { bytes := token ++ sig, sigOk := sigOk }
    let scope := tokScope token
    let notAfter := tokNotAfter token
    if !tokFormat token then s.reply 2 1 tag
    else if tokSerial token != s.serialNo then
      let c := s.draw 10
      c.2.reply 2 (c.1 + 1) tag
    else if s.sec.chalDebug != some (tokChallenge token) then s.reply 2 3 tag
    else
      let s := { s with sec := { s.sec with chalDebug := none } }
      if (s.slot (tokAuth token)).state != 1 then s.reply 2 6 tag
      else if !token.sigOk then s.reply 2 2 tag
      else if !s.bit R.RTC_STAT_VALID then s.reply 2 4 tag
      else if s.rtcSec + 86400 < notAfter then s.reply 2 1 tag
      else
        let s := { s with sec := { s.sec with unlocks := (scope, notAfter) :: s.sec.unlocks } }.debugSync
        let s := s.countNow fun c => { c with unlocks := satSucc 32 c.unlocks }
        let s := s.logAdd (.unlock scope notAfter s.calTime)
        (s.raise (s.srcPage .security) 0 0x67 scope).reply 2 0 tag)

/-- DEBUG_LOCK (R394, R395). -/
def execDebugLock (req : ObjReq) (s : State) : Host.Outcome State Fault Refusal :=
  .next (s.object 3 req fun s => ({ s with sec := { s.sec with unlocks := [] } }.debugSync).reply 3 0 req.tag)

/-- UNLOCK_EXPIRY (R395): unlocks whose NOT_AFTER the calendar has reached end. -/
def execUnlockExpiry (s : State) : Host.Outcome State Fault Refusal :=
  .next { s with sec := { s.sec with unlocks := s.sec.unlocks.filter fun e => s.rtcSec < e.2 } }.debugSync

/-! ### Firmware (R392, R393) -/

/-- A load or a warm reset runs: STAGE and COMMIT are refused with BUSY (R398). -/
def State.fwBusy (s : State) : Bool :=
  let st := s.get R.LAT_LOAD_STAT_STATE
  (1 ≤ st && st ≤ 4) || s.host.warm != 0

/-- A write that SEC_FWUP takes (R391, R399): it is what a device accepts in which no bank qualified. -/
def State.byFwup (s : State) (w : Writer) (f : State → State) : State :=
  if 2 ≤ s.pwr.phase && s.pwr.noFw && s.matchesOwner w (s.get (R.PAGE_OWNER (pageBase .security))) then f s
  else s.byOwner w .security f

/-- GO of SEC_FWUP_CTRL: ignored while BUSY reads 1. -/
def State.fwGo (s : State) (op : Nat) (f : State → State) : State :=
  let s := s.put R.SEC_FWUP_CTRL_OP op
  if s.bit R.SEC_FWUP_STAT_BUSY then s
  else if s.fwBusy then (s.put R.SEC_FWUP_STAT_STATUS 9).done .security
  else f s

/-- A firmware operation runs until FWUP_DONE. -/
def State.fwRun (s : State) (op status : Nat) (img : FwImage) : State :=
  { s.putB R.SEC_FWUP_STAT_BUSY true with sec := { s.sec with fwWork := some ⟨op, status, img⟩ } }

/-- The image that SEC_FWUP names in shared SRAM or DRAM: whether it can be read, and its bytes (R392). -/
def State.fwOffset (s : State) : Nat := s.get R.SEC_FWUP_ADDR_LO + s.get R.SEC_FWUP_ADDR_HI * 2 ^ 32
def State.fwReadable (s : State) : Bool := s.imageReadable (s.get R.SEC_FWUP_ADDR_HI_SPACE) s.fwOffset (s.get R.SEC_FWUP_LEN)
def State.fwBytes (s : State) : List Byte :=
  let n := s.get R.SEC_FWUP_LEN
  memRead (s.imageBytes (s.get R.SEC_FWUP_ADDR_HI_SPACE) s.fwOffset n) n 0

/-- STATUS of STAGE (R392): the image is read from SPACE 1 or 2 and verified, and its SVN is not below OTP_SVN. -/
def State.stageStatus (s : State) (svn : Nat) (readOk sigOk : Bool) : Nat :=
  let sp := s.get R.SEC_FWUP_ADDR_HI_SPACE
  if !(sp = 1 || sp = 2) || 0x80000 < s.get R.SEC_FWUP_LEN || 64 < svn then 1
  else if !(readOk && s.fwReadable) || !sigOk then 2
  else if svn < s.sec.otpSvn then 10
  else 0

/-- STAGE (R392): an accepted image goes, as it is read, into the inactive bank. -/
def execStage (w : Writer) (svn : Nat) (readOk sigOk : Bool) (s : State) : Host.Outcome State Fault Refusal :=
  .next (s.byFwup w fun s => s.fwGo 1 fun s =>
    let status := s.stageStatus svn readOk sigOk
    s.fwRun 1 status { svn := svn, bytes := if status = 0 then s.fwBytes else [] })

/-- FW_COMMIT (R393). -/
def execFwCommit (w : Writer) (s : State) : Host.Outcome State Fault Refusal :=
  .next (s.byOwner w .security fun s => s.fwGo 2 fun s =>
    if !s.sec.uncommitted then (s.put R.SEC_FWUP_STAT_STATUS 4).done .security
    else if s.sec.running.svn ≤ s.sec.otpSvn then
      let s := ({ s with sec := { s.sec with uncommitted := false } } : State).secSync
      (s.put R.SEC_FWUP_STAT_STATUS 4).done .security
    else s.fwRun 2 0 s.sec.running)

/-- FWUP_DONE (R392, R393): a staged image is in the inactive bank, which is marked active; or the fuses are blown. -/
def execFwupDone (s : State) : Host.Outcome State Fault Refusal :=
  .next (match s.sec.fwWork with
    | none => s
    | some x =>
      let sec := { s.sec with fwWork := none }
      let sec := if x.status != 0 then sec
        else if x.op = 1 then
          let sec := if sec.activeB then { sec with bankA := x.img, okA := true } else { sec with bankB := x.img, okB := true }
          { sec with activeB := !sec.activeB, uncommitted := true }
        else sec.fuse x.img.svn
      let s := { s with sec := sec }
      let s := if x.op = 2 && x.status = 0 then
          (s.ledgerWrite .fuses).countNow fun c => { c with fwUpdates := satSucc 32 c.fwUpdates }
        else s
      let s := (s.putB R.SEC_FWUP_STAT_BUSY false).put R.SEC_FWUP_STAT_STATUS x.status
      s.secSync.done .security)

end Sys2Proof.Machine
end

