-- ==== Sys2Proof/Machine/View.lean ====
section
/-! DEFINITION. What a read of a register shows (R8): the staged value of staged fields, and the fields that follow the state behind
the registers. Nothing here has a side effect. -/

namespace Sys2Proof.Machine

/-- Bits, lowest first, as a number. -/
def bitsNat : List Bool → Nat
  | [] => 0
  | b :: t => b.toNat + 2 * bitsNat t

/-- The same for bits given by a function. -/
def bitsOf (n : Nat) (f : Nat → Bool) : Nat := bitsNat ((List.range n).map f)

/-- A word with the bits from `hi` down to `lo` replaced. -/
def withBits (w : Word) (hi lo v : Nat) : Word := putBits w hi lo v

/-! ### The header (R460) -/

/-- The unit code of a tile's or an engine's page. -/
def pageUnit : Page → Option Nat
  | .pins t => some t | .input t => some t | .output t => some t | .calib t => some t
  | .engine e => some (0x100 + e)
  | _ => none

/-- The switched domains that a page's unit needs (R403). -/
def pageDoms : Page → List Nat
  | .pins t => [domConv t, domField t]
  | .output t => [domConv t, domField t]
  | .input t => [domConv t]
  | .calib t => [domConv t]
  | .engine e => [domEngine e]
  | .cluster c => [domCluster c]
  | .dma c => [domCluster c]
  | _ => []

/-- A page's unit is behind its girth. -/
def State.pageGirth (s : State) (p : Page) : Bool :=
  match pageUnit p with
  | some u => s.fab.shut.contains u
  | none => false

/-- A staged field of a page differs from its effective value (PAGE_STAT.PENDING). -/
def State.pagePending (s : State) (p : Page) : Bool :=
  (s.stg ++ s.wait).any fun e => pageBase p ≤ e.1 && e.1 < pageBase p + 0x1000 && s.stagedDiffers e.1

/-- A header word (R460, R464). -/
def State.viewHeader (s : State) (p : Page) (o : Nat) (w : Word) : Word :=
  match o with
  | 0x00 => withBits w 26 24 s.pos
  | 0x08 => 0
  | 0x0C =>
    let w := withBits (withBits w 0 0 (s.pagePending p).toNat) 2 2 (s.get (R.PAGE_LOCK (pageBase p)))
    let off := (pageDoms p).any fun d => !s.domOn d
    withBits (withBits w 4 4 off.toNat) 5 5 (s.pageGirth p).toNat
  | 0x10 =>
    let fault := s.flt.active.any fun e => e.2.page = p
    BitVec.ofNat 32 (fault.toNat + 16 * s.get (R.PAGE_STAT_REFUSED (pageBase p)))
  | _ => w

/-! ### The pages -/

/-- The bytes of a fault record (R433). -/
def FltRec.bytes (r : FltRec) : List Byte :=
  leBytes 2 r.rseq ++ leBytes 1 (r.cls + 8 * r.esc.toNat + 16 * r.remote.toNat) ++ leBytes 1 r.orig ++ leBytes 2 r.unit ++
    leBytes 2 r.sub ++ leBytes 2 r.cause ++ leBytes 2 r.isrc ++ leBytes 4 r.info ++ leBytes 8 r.time ++ leBytes 8 r.cal

/-- FAULT_N is asserted (R444). -/
def State.faultN (s : State) : Bool :=
  s.bit R.FLT_STAT_C4 || s.flt.c5Reset || s.get R.LAT_LOAD_STAT_STATE = 6 || s.flt.pfail

/-- The fault page (R453). -/
def State.viewFault (s : State) (o : Nat) (w : Word) : Word :=
  if o = 0x40 then
    let w := withBits (withBits w 2 0 s.topClass) 4 4 s.flt.safeN.toNat
    let w := withBits w 5 5 s.faultN.toNat
    withBits (withBits w 23 16 s.flt.fifo.length) 31 24 s.flt.active.length
  else if 0x80 ≤ o ∧ o < 0xA0 then
    match s.flt.fifo with
    | [] => 0
    | r :: _ => BitVec.ofNat 32 (fromLe ((r.bytes.drop (o - 0x80)).take 4))
  else if 0x100 ≤ o ∧ o < 0x300 then
    match tblFind s.flt.active ((o - 0x100) / 8) with
    | none => 0
    | some a => BitVec.ofNat 32 (if o % 8 = 0 then a.unit + a.sub * 2 ^ 16 else a.cls + 8 + a.rseq * 2 ^ 16)
  else w

/-- The interrupt page (R454). -/
def State.viewIrq (s : State) (o : Nat) (w : Word) : Word :=
  if 0x100 ≤ o ∧ o < 0x128 then BitVec.ofNat 32 (bitsOf 32 fun j => s.srcLevel (8 * (o - 0x100) + j)) else w

/-- A tile's pin page (R53, R54). -/
def State.viewPins (s : State) (t o : Nat) (w : Word) : Word :=
  match o with
  | 0x40 => BitVec.ofNat 32 (bitsOf 8 (fun n => s.pinState t n) + 2 ^ 8 * bitsOf 8 fun n => s.bit (R.PIN_STAT_DETACHED t n))
  | 0x48 => 0
  | 0x4C => 0
  | 0x58 =>
    BitVec.ofNat 32 (bitsOf 8 (fun n => s.bit (R.PIN_STAT_WIRE t n)) + 2 ^ 8 * bitsOf 8 (fun n => s.bit (R.PIN_STAT_SWITCHING t n)) +
      2 ^ 16 * bitsOf 8 fun n => s.bit (R.PIN_STAT_CFG_ERR t n))
  | _ => w

/-- A tile's calibration page: CALVIS = 0 hides coefficients and points (R162). -/
def State.viewCalib (s : State) (t o : Nat) (w : Word) : Word :=
  if !s.bit (R.CAL_STAT_CALVIS t) && (o = 0x7C || o = 0x80 || (0x200 ≤ o && o < 0x250)) then 0 else w

/-- An engine's page: HALTED and not RUNNING while it is contained, or has halted in class 4 (R203, R436, R438). -/
def State.viewEngine (s : State) (e o : Nat) (w : Word) : Word :=
  let stands : Bool := (s.eng e).run.isNone || (s.eng e).atPoint
  if o = 0x44 ∧ (s.bit (R.ENG_STAT_CONTAINED e) || (s.bit R.FLT_STAT_C4 && stands)) then
    withBits (withBits w 4 4 1) 8 8 0
  else w

/-- The fabric page (R320). -/
def State.viewFabric (s : State) (o : Nat) (w : Word) : Word :=
  if 0x40 ≤ o ∧ o < 0x60 then withBits w 2 2 (s.domOn (domQuad ((o - 0x40) / 8))).toNat
  else if 0x400 ≤ o ∧ o < 0x800 then BitVec.ofNat 32 (s.cnt ((o - 0x400) / 4)).count.toNat
  else w

/-- The scheduler page (R302). -/
def State.viewSched (s : State) (o : Nat) (w : Word) : Word :=
  match o with
  | 0x50 => withBits (withBits w 17 0 s.sched.flights.length) 19 19 s.stalled.toNat
  | 0x54 => BitVec.ofNat 32 (98304 - (s.jrnBytes + 1023) / 1024)
  | 0x98 => BitVec.ofNat 32 s.ledger.live.epoch
  | _ => w

/-- The ring page (R303). -/
def State.viewRings (s : State) (o : Nat) (w : Word) : Word :=
  if 0x100 ≤ o ∧ o < 0x500 ∧ o % 16 = 12 then
    let x := s.ring ((o - 0x100) / 16)
    let w := withBits w 1 1 (s.stalled && x.run).toNat
    withBits w 31 16 (min 65535 ((x.prod + 2 ^ 32 - x.cons) % 2 ^ 32))
  else w

/-- The lichen page (R430). -/
def State.viewLichen (s : State) (o : Nat) (w : Word) : Word :=
  match o with
  | 0x58 => BitVec.ofNat 32 s.time
  | 0x5C => BitVec.ofNat 32 (s.time / 2 ^ 32)
  | _ => w

/-- The power page: PWR_EST is a measurement, a free value (R431). -/
def State.viewPower (s : State) (o : Nat) (w : Word) : Word :=
  if o = 0x68 then BitVec.ofNat 32 (Config.freeNat s.free % 2 ^ 16) else w

/-- The security page: the window shows 64 bytes of the quote (R399). -/
def State.viewSecurity (s : State) (o : Nat) (w : Word) : Word :=
  if 0x100 ≤ o ∧ o < 0x140 then
    let at_ : Nat := 64 * s.get R.SEC_QUOTE_IDX_BLK + (o - 0x100)
    BitVec.ofNat 32 (fromLe ((s.sec.quote.drop at_).take 4))
  else w

/-- The event control page: trigger levels (R450). -/
def State.viewEvCtl (s : State) (o : Nat) (w : Word) : Word :=
  if 0x400 ≤ o ∧ o < 0x800 then withBits w 31 31 (s.trigLevel ((o - 0x400) / 4)).toNat else w

/-- LEFT of YDVSEC_LOAD_LEFT: 10 ms units, 0 once the load has reached APPLY (R353). -/
def State.loadLeft (s : State) : Nat :=
  match s.load.deadline with
  | none => 0
  | some d => if s.get R.LAT_LOAD_STAT_STATE < 4 then ceilDiv (d - s.time) 10000000 else 0

/-- The state of IDE stream `k` as its status shows it: 2 secure, else 0 (PRESUMED, log 187). -/
def State.ideShown (s : State) (k : Nat) : Nat := if (tblGet (fun _ => ({} : IdeSt)) s.sec.ide k).secure then 2 else 0

/-- The MSI-X table and the pending-bit array of BAR4 (R356, R361). -/
def State.viewMsix (s : State) (o : Nat) (w : Word) : Word :=
  if o < 0x28000 then
    if o % 16 = 12 then BitVec.ofNat 32 (!s.msix.unmasked.contains ((o - 0x20000) / 16)).toNat else w
  else BitVec.ofNat 32 ((List.range 32).foldl (fun m i =>
    if s.msix.pending.contains (32 * ((o - 0x28000) / 4) + i) then m + 2 ^ i else m) 0)

/-- Configuration space: the DVSEC (R353), the header, whose revision is the stepping code (R347), the Device Serial Number
capability, bytes 0 to 7 of the unit serial (R352), and the capabilities' registers that show a state (R359, R361, R363, R364). -/
def State.viewConfig (s : State) (o : Nat) (w : Word) : Word :=
  match o with
  | 0x0C =>
    let w := withBits (withBits (withBits w 6 4 s.pos) 7 7 (s.get R.LAT_POS_HEAD)) 11 8 (s.get R.LAT_POS_CHAIN_LEN)
    withBits w 3 0 (s.get R.GID_STEP_STEPPING)
  | 0x20 => s.word R.LAT_LOAD_STAT_STATE.addr
  | 0x24 => BitVec.ofNat 32 s.loadLeft
  | 0x1008 => withBits w 7 0 (s.get R.GID_STEP_STEPPING)
  | 0x30 => BitVec.ofNat 32 (s.get (R.GID_SERIAL 0))
  | 0x34 => BitVec.ofNat 32 (s.get (R.GID_SERIAL 1))
  | 0x38 => BitVec.ofNat 32 (s.get (R.GID_SERIAL 2))
  | 0x3C => BitVec.ofNat 32 (s.get (R.GID_SERIAL 3))
  | 0x1050 => withBits (withBits w 30 30 s.msix.funcMask.toNat) 31 31 s.msix.enabled.toNat
  | 0x1124 => BitVec.ofNat 32 (s.get (R.GID_SERIAL 0))
  | 0x1128 => BitVec.ofNat 32 (s.get (R.GID_SERIAL 1))
  | 0x113C => withBits (withBits w 2 2 s.host.doeError.toNat) 31 31 (!s.host.doeOut.isEmpty).toNat
  | 0x1144 => s.host.doeOut.headD 0
  | 0x1164 => BitVec.ofNat 32 (s.ideShown 0)
  | 0x1168 => BitVec.ofNat 32 (s.ideShown 1)
  | o => if 0x20000 ≤ o ∧ o < 0x28100 then s.viewMsix o w else w

/-- A word of a page beyond the header. -/
def State.viewPage (s : State) (p : Page) (o : Nat) (w : Word) : Word :=
  match p with
  | .fault => s.viewFault o w
  | .irq => s.viewIrq o w
  | .pins t => s.viewPins t o w
  | .input _ => if 0x300 ≤ o ∧ o < 0x330 then BitVec.ofNat 32 (Config.hbCoef ((o - 0x300) / 4) % 2 ^ 24) else w
  | .calib t => s.viewCalib t o w
  | .engine e => s.viewEngine e o w
  | .fabric => s.viewFabric o w
  | .sched => s.viewSched o w
  | .rings => s.viewRings o w
  | .lichen => s.viewLichen o w
  | .power => s.viewPower o w
  | .security => s.viewSecurity o w
  | .evCtl => s.viewEvCtl o w
  | _ => w

/-- What a read of the word at window offset `a` returns: staged fields show their staged values (R8), latched words what was
latched (R55, R412, R452), write-only fields zero, reserved ranges all ones (R459). -/
def State.view (s : State) (a : Nat) : Word :=
  let w := mergeBits (s.word a) (s.stagedWord a) (BitVec.ofNat 32 (accMask a .rws))
  let w := w &&& ~~~BitVec.ofNat 32 (accMask a .wo)
  match tblFind s.latch a with
  | some v => v
  | none =>
    if cfgBase ≤ a then s.viewConfig (a - cfgBase) w
    else match pageOf a with
      | none => 0xFFFFFFFF
      | some p => if a % 0x1000 < 0x40 then s.viewHeader p (a % 0x1000) w else s.viewPage p (a % 0x1000) w

end Sys2Proof.Machine
end

