-- ==== Sys2Proof/Machine/PageOps.lean ====
section
/-! DEFINITION. Commits, discards, locks and owners of register pages (R460 to R466). -/

namespace Sys2Proof.Machine

/-! ### Who may commit what (R39, R461) -/

/-- The pin that owns a word of a pin or output page (R37, R39, R78), none for a page-wide one. -/
def wordPin (p : Page) (o : Nat) : Option Nat :=
  match p with
  | .pins _ =>
    if 0x100 ≤ o ∧ o < 0x300 then some ((o - 0x100) / 0x40)
    else if 0x300 ≤ o ∧ o < 0x320 then some ((o - 0x300) / 4) else none
  | .output _ => if 0x100 ≤ o ∧ o < 0x300 then some ((o - 0x100) / 0x40) else none
  | _ => none

/-- The owner code that a word of a page follows: its pin's, or PAGE_OWNER. -/
def State.wordOwner (s : State) (p : Page) (o : Nat) : Nat :=
  match wordPin p o with
  | some n => s.pinOwner (pageInstance p) n
  | none => s.get (R.PAGE_OWNER (pageBase p))

/-- A writer whose COMMIT and DISCARD the page accepts (R461). -/
def State.mayCommit (s : State) (w : Writer) (p : Page) : Bool :=
  s.matchesOwner w (s.get (R.PAGE_OWNER (pageBase p))) ||
    (pagePinOwners p && pins8.any fun n => s.matchesOwner w (s.pinOwner (pageInstance p) n))

/-- Do `f` for a writer that may commit the page; any other is refused (R461). -/
def State.byCommitter (s : State) (w : Writer) (p : Page) (f : State → State) : State :=
  if !s.awake then s else if s.mayCommit w p then f s else s.refuseNotOwner p w

/-- The staged words of a page that a writer could commit. -/
def State.committableWords (s : State) (w : Writer) (p : Page) : List Nat :=
  (s.stagedIn (pageBase p)).filter fun a => s.matchesOwner w (s.wordOwner p (a - pageBase p))

/-! ### Commits (R462) -/

/-- Every staged word of a page applies. -/
def State.applyPage (s : State) (pg : Nat) : State := (s.stagedIn pg).foldl (fun s a => s.applyStaged a) s

/-- A commit of a page whose fields have no later effective point. -/
def State.commitPlain (s : State) (p : Page) : State := (s.applyPage (pageBase p)).commitDone p false

/-- A commit of an engine's page: ENG_INBUF waits until no delivered item remains (R174). -/
def State.commitEngine (s : State) (e : Fin 128) : State :=
  let a := (R.ENG_INBUF_BASE e).addr
  let s := (s.toWait a).applyPage (engPage e)
  (s.commitDone (.engine e) (s.waits a)).inbufApply e

/-- A commit of a DMA page: a channel's words take effect between items (R249). -/
def State.commitDma (s : State) (c : Fin 16) : State :=
  let s := (List.range 16).foldl (fun s j =>
    ((dmaWords c j).foldl (fun s a => s.toWait a) s).dmaApply c j) s
  (s.applyPage (dmaPage c)).commitDone (.dma c) (s.dmaWaits c)

/-- The three words of a ring's block. -/
def ringWords (r : Nat) : List Nat := [(R.SQ_CFG_EN r).addr, (R.SQ_BASE_LO_ADDR r).addr, (R.SQ_BASE_HI_ADDR r).addr]

/-- A committed word that equals the effective one waits for nothing. -/
def State.dropIdle (s : State) (a : Nat) : State := if s.stagedDiffers a then s else { s with wait := tblDel s.wait a }

/-- A commit of one ring (R278): a running ring keeps base and size until its next enable, and so does what
is committed while something waits for that; clearing EN stops it; setting EN enables it with the latest values. -/
def State.commitRing (s : State) (r : Nat) : State :=
  let ws := ringWords r
  let was := s.bit (R.SQ_CFG_EN r)
  let on := s.sget (R.SQ_CFG_EN r) = 1
  let waiting := ws.any fun a => s.waits a
  let s := if on && !was then ws.foldl (fun s a => (s.applyWait a).applyStaged a) s
    else if (was && on) || waiting then
      let s := ws.foldl (fun s a => (s.toWait a).dropIdle a) s
      if was && !on then s.putB (R.SQ_CFG_EN r) false else s
    else ws.foldl (fun s a => s.applyStaged a) s
  if on && !was then s.ringEnable r else if was && !on then (ws.foldl (fun s a => s.dropIdle a) s).ringDisable r else s

/-- Words of a ring wait for its next enable. -/
def State.ringsWait (s : State) : Bool := (List.range 64).any fun r => (ringWords r).any fun a => s.waits a

/-- A commit of the ring page. -/
def State.commitRings (s : State) : State :=
  let rs := (List.range 64).filter fun r => (ringWords r).any fun a => (tblFind s.stg a).isSome
  let s := rs.foldl (fun s r => s.commitRing r) s
  s.commitDone .rings s.ringsWait

/-- Do `f`, and raise every trigger that it takes from low to high (R450). -/
def State.withTriggers (s : State) (ns : List Nat) (f : State → State) : State :=
  let s' := f s
  let rise := ns.filter fun n => !s.trigLevel n && s'.trigLevel n
  if rise.isEmpty then s' else s'.trigRises rise

/-- A commit of the event control page: a trigger whose new source is high rises (R450). -/
def State.commitEvCtl (s : State) : State :=
  let ns := (s.stagedIn evcPage).filterMap fun a =>
    if evcPage + 0x400 ≤ a ∧ a < evcPage + 0x800 then some ((a - (evcPage + 0x400)) / 4) else none
  (s.withTriggers ns fun s => s.applyPage evcPage).commitDone .evCtl false

/-- A commit of the fabric page: a GIO pin that becomes a trigger input may raise its trigger (R34, R450). -/
def State.commitFabric (s : State) : State :=
  let ns := (s.stagedIn fabPage).map fun a => getBits (s.stagedWord a) 23 16
  (s.withTriggers ns fun s => s.applyPage fabPage).commitDone .fabric false

/-- RUN of a counter after its configuration is committed (R451): it follows EN while START_EN is 0, and clears with EN. -/
def State.evcRunSync (s : State) (n : Nat) : State :=
  let en := s.bit (R.EVC_CFG_EN n)
  if !en || !s.bit (R.EVC_CFG_START_EN n) then s.putB (R.EVC_TRG_RUN n) en else s

/-- A commit of the event configuration page. -/
def State.commitEvCfg (s : State) : State :=
  let ns := (s.stagedIn evfPage).filterMap fun a =>
    if evfPage + 0x100 ≤ a ∧ (a - evfPage) % 8 = 0 then some ((a - (evfPage + 0x100)) / 8) else none
  let s := s.withSrcs ((List.range 8).map (280 + ·)) fun s => ns.foldl (fun s n => s.evcRunSync n) (s.applyPage evfPage)
  s.commitDone .evCfg false

/-- A commit of page `p` by `w` takes place. -/
def State.commitNow (s : State) (w : Writer) (p : Page) : State :=
  match p with
  | .pins t => s.withSetup t fun s => s.commitPins w t
  | .output t => s.commitOut w t
  | .input t => s.commitInput t
  | .engine e => s.commitEngine e
  | .dma c => s.commitDma c
  | .rings => s.commitRings
  | .evCtl => s.commitEvCtl
  | .evCfg => s.commitEvCfg
  | .fabric => s.commitFabric
  | p => s.commitPlain p

/-- The page's unit cannot take a commit yet: its domain is off or starting (R466), or its tile is shut down (R77). -/
def State.commitHeld (s : State) (p : Page) : Bool :=
  ((pageDoms p).any fun d => !s.domReady d) ||
    (match pageUnit p with
     | some u => decide (u < 32) && s.bit (R.TILE_TEMP_SHUTDOWN u)
     | none => false)

/-- COMMIT by a writer that may write it (R462, R466): refused behind the girth, kept while the unit cannot take it. -/
def State.commitPage (s : State) (w : Writer) (p : Page) : State :=
  if s.pageGirth p then s.refuse p
  else if s.commitHeld p then
    let s := if s.deferred.contains (p, w) then s else { s with deferred := s.deferred ++ [(p, w)] }
    s.putB (R.PAGE_STAT_APPLYING (pageBase p)) true
  else s.commitNow w p

/-- The commits that were kept and can be taken now take place, oldest first. -/
def State.commitDeferred (s : State) : State :=
  let due := s.deferred.filter fun e => !s.commitHeld e.1
  let s := { s with deferred := s.deferred.filter fun e => s.commitHeld e.1 }
  due.foldl (fun s e => s.commitNow e.2 e.1) s

/-- DISCARD by a writer that may write it (R460, R463, R466): its staged fields return to their effective values, but for those
of a commit that is kept. -/
def State.discardPage (s : State) (w : Writer) (p : Page) : State :=
  if s.bit (R.PAGE_LOCK (pageBase p)) then s.refuse p
  else
    let kept := (s.deferred.filter fun e => e.1 = p).flatMap fun e => s.committableWords e.2 p
    ((s.committableWords w p).filter fun a => !kept.contains a).foldl (fun s a => s.dropStaged a) s

/-- PAGE_COMMIT (R462). -/
def execPageCommit (w : Writer) (pg : Page) (s : State) : Host.Outcome State Fault Refusal :=
  .next (s.byCommitter w pg fun s => s.commitPage w pg)

/-- PAGE_DISCARD (R460). -/
def execPageDiscard (w : Writer) (pg : Page) (s : State) : Host.Outcome State Fault Refusal :=
  .next (s.byCommitter w pg fun s => s.discardPage w pg)

/-- COMMIT_EFFECTIVE (R462): what the page's commit waits for has passed. -/
def execCommitEffective (pg : Page) (s : State) : Host.Outcome State Fault Refusal :=
  .next (match pg with
    | .pins t => if s.pinsSettled t then s.finishCommit pg else s
    | .output t => s.outFinish t
    | .input t =>
      if s.passActive t then s else s.passBoundary t
    | .engine e => s.inbufApply e
    | .dma c => ((List.range 16).foldl (fun s j => s.dmaApply c j) s).dmaCommitted c
    | _ => s)

/-! ### Locks, owners and interrupts (R461, R463, R464) -/

/-- PAGE_LOCK (R463): set by the secure owner alone. -/
def execPageLock (w : Writer) (pg : Page) (s : State) : Host.Outcome State Fault Refusal :=
  .next (s.byOwner w pg fun s =>
    if w = .secure ∧ !s.bit (R.PAGE_LOCK (pageBase pg)) then s.putB (R.PAGE_LOCK (pageBase pg)) true else s.refuse pg)

/-- PAGE_OWNER_WRITE (R461, R463). -/
def execPageOwnerWrite (w : Writer) (pg : Page) (code : Byte) (s : State) : Host.Outcome State Fault Refusal :=
  .next (s.byOwner w pg fun s =>
    if s.bit (R.PAGE_LOCK (pageBase pg)) then s.refuse pg
    else if ownerCodeOk code.toNat then s.put (R.PAGE_OWNER (pageBase pg)) code.toNat
    else s.refuseNotOwner pg w)

/-- IRQ_PEND_CLEAR (R464). -/
def execIrqPendClear (w : Writer) (pg : Page) (mask : Word) (s : State) : Host.Outcome State Fault Refusal :=
  .next (s.byOwner w pg fun s => s.setWord (pageBase pg + 0x18) (s.word (pageBase pg + 0x18) &&& ~~~mask))

end Sys2Proof.Machine
end

