-- ==== Sys2Proof/Machine/RegAccess.lean ====
section
/-! DEFINITION. Register reads and writes by window offset (R8, R459, R461): each word's access code, the owner it follows, and the
command that a write of it starts. -/

namespace Sys2Proof.Machine

/-- The state that an outcome leads to. -/
def State.after (s : State) (o : Host.Outcome State Fault Refusal) : State :=
  match o with
  | .next t => t
  | _ => s

/-! ### Plain writes (R8, R463) -/

/-- The bits of a word that a write can act on. -/
def writable (a : Nat) : Nat :=
  (rowsAt a).foldl (fun m r => if r.acc = .ro ∨ r.acc = .rc then m else m ||| bitMask r.hi r.lo) 0

/-- A write by access code (R8): RW bits take their values, W1C bits written 1 clear, RWS bits are staged, which LOCK refuses
(R463). -/
def State.plainWrite (s : State) (p : Page) (a : Nat) (v : Word) : State :=
  let w := mergeBits (s.word a) v (BitVec.ofNat 32 (accMask a .rw))
  let s := s.setWord a (w &&& ~~~(v &&& BitVec.ofNat 32 (accMask a .w1c)))
  if accMask a .rws = 0 then s
  else if s.bit (R.PAGE_LOCK (pageBase p)) then s.refuse p
  else s.stageWord a v

/-- A plain write of a page-wide word. -/
def State.ownedWrite (s : State) (w : Writer) (p : Page) (a : Nat) (v : Word) : State :=
  s.byOwner w p fun s => s.plainWrite p a v

/-! ### The header (R460) -/

/-- A write of a header word. -/
def State.writeHeader (s : State) (w : Writer) (p : Page) (o : Nat) (v : Word) : State :=
  match o with
  | 0x08 => s.byCommitter w p fun s =>
    let s := if v.getLsbD 0 then s.commitPage w p else s
    if v.getLsbD 1 then s.discardPage w p else s
  | 0x14 => s.byOwner w p fun s => s.withSrc (pageSrc p) fun s => s.plainWrite p (pageBase p + 0x14) v
  | 0x18 => s.after (execIrqPendClear w p v s)
  | 0x1C => s.after (execPageOwnerWrite w p (v.setWidth 8) s)
  | 0x20 => if v.getLsbD 0 then s.after (execPageLock w p s) else s.byOwner w p id
  | o => s.ownedWrite w p (pageBase p + o) v

/-! ### Tile pages -/

/-- A write of the pin page (R37, R53, R54, R78, R80). Bits 3:1 of TILE_LANE_STAT written 0 are not written, as R37 has it for a pin's
bits: no refusal follows (DESIGN CHOICE, log 183). -/
def State.writePins (s : State) (w : Writer) (t : Fin 32) (o : Nat) (v : Word) : State :=
  let p : Page := .pins t
  let a := pinPage t + o
  match wordPin p o with
  | some n =>
    let r := o % 0x40
    if o < 0x300 ∧ r = 0x0C then s.after (execPinFltClear w t (Fin.ofNat 8 n) v s)
    else if o < 0x300 ∧ r = 0x10 then s.byPin w t n fun s => (s.plainWrite p a v).cmpSync t n
    else s.byPin w t n fun s => s.plainWrite p a v
  | none =>
    match o with
    | 0x44 => s.after (execPinsOutWrite w t (v.setWidth 8) s)
    | 0x48 => s.after (execPinsOutSet w t (v.setWidth 8) s)
    | 0x4C => s.after (execPinsOutClr w t (v.setWidth 8) s)
    | 0x50 => s.after (execPinsOeWrite w t (v.setWidth 8) s)
    | 0x320 => s.eachPin fun s n => if v.getLsbD n then s.after (execSenseTripClear w t (Fin.ofNat 8 n) s) else s
    | 0x340 =>
      let s := if getBits v 3 1 = 0 then s else s.byOwner w p fun s => s.setWord a (s.word a &&& ~~~(v &&& 0xE#32))
      let s := s.eachPin fun s n => if v.getLsbD (8 + n) then s.after (execLaneProtClear w t (.sl (Fin.ofNat 8 n)) s) else s
      [0, 1].foldl (fun s k => if v.getLsbD (16 + k) then s.after (execLaneProtClear w t (.drv (Fin.ofNat 2 k)) s) else s) s
    | 0x33C => if t = 31 then s.byOwner w p id else s.ownedWrite w p a v
    | 0x354 => if v.getLsbD 18 then s.after (execTileRestart w t s) else s.byOwner w p id
    | _ => s.ownedWrite w p a v

/-- A write of the input page (R118). -/
def State.writeInput (s : State) (w : Writer) (t : Fin 32) (o : Nat) (v : Word) : State :=
  let p : Page := .input t
  match o with
  | 0x4C => s.byOwner w p fun s =>
    let ended := v.getLsbD 6 && s.bit (R.TILE_ADC_STAT_OVERRUN t)
    let s := s.plainWrite p (inPage t + 0x4C) v
    if ended then s.ackCause (s.unitId t) 0 [0x12] else s
  | 0x6C => if v.getLsbD 0 then s.after (execAdcTrigStart w t s) else s.byOwner w p id
  | o => s.ownedWrite w p (inPage t + o) v

/-- A clearing write of OUT_STAT (R131, R142): a cleared WDOG ends the handling of its fault (R441). -/
def State.writeOutStat (s : State) (w : Writer) (t : Fin 32) (n : Fin 8) (v : Word) : State :=
  s.byPin w t n fun s =>
    let dog := v.getLsbD 7 && s.bit (R.OUT_STAT_WDOG t n)
    let a := (R.OUT_STAT_WDOG t n).addr
    let s := s.setWord a (s.word a &&& ~~~(v &&& 0x180#32))
    let s := if dog then s.ackCause (s.unitId t) (0x100 + n) [0x14] else s
    if v.getLsbD 6 then s.after (execFaultHoldClear w t n s) else s

/-- A write of the output page (R141, R142). -/
def State.writeOutput (s : State) (w : Writer) (t : Fin 32) (o : Nat) (v : Word) : State :=
  let p : Page := .output t
  match wordPin p o with
  | some n =>
    match o % 0x40 with
    | 0x00 => s.after (execOutCodeWrite w t (Fin.ofNat 8 n) (v.setWidth 16) s)
    | 0x14 => s.writeOutStat w t (Fin.ofNat 8 n) v
    | _ => s.byPin w t n fun s => s.plainWrite p (outPage t + o) v
  | none => s.ownedWrite w p (outPage t + o) v

/-- GO of CAL_REQ (R147, R148). -/
def State.calGo (s : State) (w : Writer) (t : Fin 32) (v : Word) : State :=
  let ch := getBits v 6 3
  match getBits v 2 0 with
  | 0 => s.after (execCalReqTileIn w t s)
  | 1 => s.after (execCalReqConvA w t s)
  | 2 => s.after (execCalReqConvB w t s)
  | 3 => s.after (execCalReqFrontEnd w t (Fin.ofNat 16 ch) s)
  | 4 => s.after (execCalReqSpare w t s)
  | k => s.calRequest w t k ch true

/-- A write of the calibration page (R169). -/
def State.writeCalib (s : State) (w : Writer) (t : Fin 32) (o : Nat) (v : Word) : State :=
  let p : Page := .calib t
  match o with
  | 0x44 => if v.getLsbD 31 then s.calGo w t v else s.byOwner w p id
  | 0x4C => s.byOwner w p fun s =>
    let s := s.plainWrite p (calPage t + 0x4C) v
    if v.getLsbD 31 then s.after (execCalRotNow w t s) else s
  | 0x70 =>
    match getBits v 2 0 with
    | 1 => s.after (execCapture0 w t s)
    | 2 => s.after (execCapture1 w t s)
    | 3 => s.after (execCancel w t s)
    | 4 => s.after (execClearLost w t s)
    | _ => s.byOwner w p id
  | o => s.ownedWrite w p (calPage t + o) v

/-! ### Engines, clusters, DMA units, memory -/

/-- A write of an engine's page (R203). -/
def State.writeEngine (s : State) (w : Writer) (e : Fin 128) (o : Nat) (v : Word) : State :=
  match o with
  | 0x40 =>
    match getBits v 2 0 with
    | 1 => s.after (execEngHalt w e s)
    | 2 => s.after (execEngResume w e s)
    | 3 => s.after (execEngTest w e s)
    | _ => s.byOwner w (.engine e) id
  | o => s.ownedWrite w (.engine e) (engPage e + o) v

/-- GO of a TLBI register with its OP, ASID and VA (R240). -/
def State.tlbiGo (s : State) (w : Writer) (sc : TlbScope) (op asid va : Nat) : State :=
  match op with
  | 1 => s.after (execTlbiAll w sc s)
  | 2 => s.after (execTlbiAsid w sc (BitVec.ofNat 12 asid) s)
  | 3 => s.after (execTlbiVaAsid w sc (BitVec.ofNat 12 asid) (BitVec.ofNat 48 va) s)
  | 4 => s.after (execTlbiVaAll w sc (BitVec.ofNat 48 va) s)
  | _ => s

/-- A write of a cluster's page (R259). -/
def State.writeCluster (s : State) (w : Writer) (c : Fin 16) (o : Nat) (v : Word) : State :=
  let p : Page := .cluster c
  if o = 0x40 then s.byOwner w p fun s =>
    let s := s.plainWrite p (clPage c + 0x40) v
    let va := s.get (R.CL_TLBI_VA_LO_VA c) * 4096 + s.get (R.CL_TLBI_VA_HI_VA c) * 2 ^ 32
    if v.getLsbD 31 then
      s.tlbiGo w (.cluster c (BitVec.ofNat 9 (getBits v 24 16))) (getBits v 2 0) (getBits v 15 4) va
    else s
  else if 0x80 ≤ o ∧ o < 0x180 ∧ o % 0x20 = 0x0C then
    let e := Fin.ofNat 128 (8 * c.val + (o - 0x80) / 0x20)
    match getBits v 1 0 with
    | 1 => s.after (execRetry w e s)
    | 2 => s.after (execAbandon w e s)
    | _ => s.byOwner w p id
  else s.ownedWrite w p (clPage c + o) v

/-- A write of a DMA unit's page (R260). -/
def State.writeDma (s : State) (w : Writer) (c : Fin 16) (o : Nat) (v : Word) : State :=
  if 0x100 ≤ o ∧ o < 0x500 ∧ o % 0x40 = 8 then
    let j := Fin.ofNat 16 ((o - 0x100) / 0x40)
    match getBits v 1 0 with
    | 1 => s.after (execDmaResume w c j s)
    | 2 => s.after (execDmaAbort w c j s)
    | 3 => s.after (execCapStop w c j s)
    | _ => s.byOwner w (.dma c) id
  else s.ownedWrite w (.dma c) (dmaPage c + o) v

/-- A write of the memory page (R258). -/
def State.writeMem (s : State) (w : Writer) (o : Nat) (v : Word) : State :=
  match o with
  | 0x58 => s.byOwner w .mem fun s =>
    let s := s.plainWrite .mem (memPage + 0x58) v
    let va := s.get R.MEM_TLBI_VA_LO_VA * 4096 + s.get R.MEM_TLBI_VA_HI_VA * 2 ^ 32
    if v.getLsbD 31 then s.tlbiGo w .all (getBits v 2 0) (getBits v 15 4) va else s
  | o => s.ownedWrite w .mem (memPage + o) v

/-! ### Global pages -/

/-- A write of the scheduler page (R265, R302). -/
def State.writeSched (s : State) (w : Writer) (o : Nat) (v : Word) : State :=
  match o with
  | 0x58 => s.byOwner w .sched fun s =>
    let s := s.plainWrite .sched (schPage + 0x58) v
    let k := Fin.ofNat 4096 (getBits v 11 0)
    if v.getLsbD 31 then
      match getBits v 14 12 with
      | 1 => s.after (execStreamOpen w k (BitVec.ofNat 48 (s.get R.SCHED_STRM_ARG_LO + s.get R.SCHED_STRM_ARG_HI * 2 ^ 32)) s)
      | 2 => s.after (execStreamClose w k s)
      | 3 => s.after (execStreamSkip w k s)
      | 4 => s.after (execStreamQuery w k s)
      | _ => s
    else s
  | o => s.ownedWrite w .sched (schPage + o) v

/-- A write of the lichen page (R415, R428, R430). -/
def State.writeLichen (s : State) (w : Writer) (o : Nat) (v : Word) : State :=
  match o with
  | 0x4C => s.byOwner w .lichen fun s =>
    let s := s.plainWrite .lichen (licPage + 0x4C) v
    if v.getLsbD 31 then
      s.after (execRtcSet w (BitVec.ofNat 40 (s.get R.RTC_SET_LO_SEC + s.get R.RTC_SET_HI_SEC * 2 ^ 32)) s)
    else s
  | 0x78 => s.byOwner w .lichen fun s =>
    if v.getLsbD 31 then s.ldgCmd w (getBits v 7 0) (s.get R.LDG_ARG) else s.plainWrite .lichen (licPage + 0x78) v
  | o => s.ownedWrite w .lichen (licPage + o) v

/-- A write of the power page (R405, R431). -/
def State.writePower (s : State) (w : Writer) (o : Nat) (v : Word) : State :=
  match o with
  | 0x40 => s.byOwner w .power fun s =>
    let s := s.plainWrite .power (pwrPage + 0x40) v
    if v.getLsbD 31 then
      match getBits v 9 8 with
      | 1 => s.after (execDomainOn w (BitVec.ofNat 8 (getBits v 7 0)) s)
      | 2 => s.after (execDomainOff w (BitVec.ofNat 8 (getBits v 7 0)) s)
      | _ => s
    else s
  | o => s.ownedWrite w .power (pwrPage + o) v

/-- A write of the fault page (R437, R440, R441, R453): a write of POP and EXIT together pops first. -/
def State.writeFault (s : State) (w : Writer) (o : Nat) (v : Word) : State :=
  match o with
  | 0x4C => s.byOwner w .fault fun s =>
    let s := if v.getLsbD 0 then s.after (execPop w s) else s
    if v.getLsbD 1 then s.after (execExit w s) else s
  | 0x50 => s.after (execFltAck w (v.setWidth 16) s)
  | 0x54 => if v.getLsbD 31 then s.after (execFltRelease w (v.setWidth 13) s) else s.byOwner w .fault id
  | o => s.ownedWrite w .fault (fltPage + o) v

/-- A write of the security page (R399): the glitch configuration takes the secure owner alone, the mailbox also the host, and
SEC_FWUP stays open where no bank qualified (R391). -/
def State.writeSecurity (s : State) (w : Writer) (o : Nat) (v : Word) : State :=
  let a := secPage + o
  if o = 0x54 then
    if !s.awake then s else if w = .secure then s.plainWrite .security a v else s.refuseNotOwner .security w
  else if o = 0x60 then if v.getLsbD 0 then s.after (execSecQuoteGo w s) else s.byMailbox w id
  else if 0x80 ≤ o ∧ o < 0xA4 then s.byMailbox w fun s => s.plainWrite .security a v
  else if 0x68 ≤ o ∧ o < 0x74 then s.byFwup w fun s => s.plainWrite .security a v
  else if o = 0x74 then s.byFwup w fun s =>
    let s := s.plainWrite .security a v
    if !v.getLsbD 31 then s
    else if getBits v 1 0 = 2 then s.after (execFwCommit w s)
    else if getBits v 1 0 = 1 then
      let img := Config.fwImage s.fwBytes
      s.after (execStage w img.1 s.fwReadable img.2 s)
    else s
  else s.ownedWrite w .security a v

/-- A write of the fabric page (R33, R320): GIO_CFG takes the secure owner alone; GO starts a reload of the image that the page's
registers name, with verdicts that are free values (assumption log 40). -/
def State.writeFabric (s : State) (w : Writer) (o : Nat) (v : Word) : State :=
  if 0x800 ≤ o ∧ o < 0x8C0 ∧ w ≠ .secure then (if s.awake then s.refuseNotOwner .fabric w else s)
  else if o = 0x60 ∧ v.getLsbD 31 then s.byOwner w .fabric fun s =>
    s.reload (getBits v 1 0) (getBits v 10 4) (Config.streamCheck s.rcfgBytes)
  else s.ownedWrite w .fabric (fabPage + o) v

/-- A write of a page's word beyond the header. -/
def State.writePage (s : State) (w : Writer) (p : Page) (o : Nat) (v : Word) : State :=
  match p with
  | .pins t => s.writePins w t o v
  | .input t => s.writeInput w t o v
  | .output t => s.writeOutput w t o v
  | .calib t => s.writeCalib w t o v
  | .engine e => s.writeEngine w e o v
  | .cluster c => s.writeCluster w c o v
  | .dma c => s.writeDma w c o v
  | .mem => s.writeMem w o v
  | .sched => s.writeSched w o v
  | .lichen => s.writeLichen w o v
  | .power => s.writePower w o v
  | .fault => s.writeFault w o v
  | .security => s.writeSecurity w o v
  | .fabric => s.writeFabric w o v
  | .irq => if o = 0x140 then s.after (execIrqSwiWrite w (v.setWidth 8) s) else s.ownedWrite w .irq (irqPage + o) v
  | .evCtl =>
    match o with
    | 0x40 => s.after (execEvcSnap w (v.setWidth 16) s)
    | 0x4C => s.after (execEvcSwtrig w (v.setWidth 16) s)
    | o => s.ownedWrite w .evCtl (evcPage + o) v
  | .evLive => s.after (execEvcValWrite w (Fin.ofNat 256 ((o - 0x100) / 8)) (o % 8 == 4) v s)
  | p => s.ownedWrite w p (pageBase p + o) v

/-! ### The DVSEC (R353, R354) -/

/-- A write of BAR4's MSI-X table or of the message control word (R356, R361): vectors are masked and unmasked, MSI-X enabled and disabled,
and what is then open leaves. -/
def State.writeMsix (s : State) (o : Nat) (v : Word) : State :=
  if o = 0x1050 then
    { s with msix := { s.msix with funcMask := v.getLsbD 30, enabled := v.getLsbD 31 } }.sendPending
  else
    let k := (o - 0x20000) / 16
    if v.getLsbD 0 then { s with msix := { s.msix with unmasked := s.msix.unmasked.filter fun x => x != k } }
    else s.after (execMsixUnmask (.vector (Fin.ofNat 2048 k)) s)

/-- A configuration write (R353), by access code; BAR4 is accessed by its offset past 0x2_0000. -/
def State.writeConfig (s : State) (o : Nat) (v : Word) : State :=
  let a := cfgBase + o
  let w := mergeBits (s.word a) v (BitVec.ofNat 32 (accMask a .rw))
  let rw := s.setWord a (w &&& ~~~(v &&& BitVec.ofNat 32 (accMask a .w1c)))
  if !s.configReach then s
  else if o = 0x1050 || (0x20000 ≤ o && o < 0x28000 && o % 16 = 12) then s.writeMsix o v
  else match o with
    | 0x1138 => if v.getLsbD 0 then s.after (execDoeAbort s) else if v.getLsbD 31 then s.doeGo else s
    | 0x1140 => { s with host := { s.host with doeIn := s.host.doeIn ++ [v] } }
    | 0x1144 => { s with host := { s.host with doeOut := s.host.doeOut.drop 1 } }
    | 0x1180 =>
      let t := if v.getLsbD 1 then rw.after (execCacheWritebackInvalidate rw) else rw
      if v.getLsbD 2 then t.after (execCxlReset t) else t
    | 0x1C =>
      if v.getLsbD 31 ∧ s.get R.LAT_LOAD_STAT_STATE = 0 then
        let t := rw.after (execLoadGo rw.hostStream rw)
        { t with load := { t.load with len := rw.extentBytes } }
      else if v.getLsbD 30 then rw.after (execLoadClear (v.setWidth 13) rw) else rw
    | 0x28 =>
      if v.getLsbD 31 then
        match getBits v 1 0 with
        | 1 => s.after (execResetWarm (BitVec.ofNat 8 (getBits v 15 8)) s)
        | 2 => s.after (execResetCold (BitVec.ofNat 8 (getBits v 15 8)) s)
        | _ => s
      else s
    | _ => rw

/-! ### Access by offset -/

/-- A write of a word on which no write acts (R8): the owner rule of the page still holds for its page-wide fields (R9, R461); a
reserved word discards it (R459), and R37 names no read-only word of a pin. SEC_QUOTE_LEN and the quote window are not of the
mailbox that R399 opens to the host: a write of them follows PAGE_OWNER (DESIGN CHOICE, log 184). -/
def State.roWrite (s : State) (w : Writer) (p : Page) (a : Nat) : State :=
  if (rowsAt a).isEmpty || (wordPin p (a % 0x1000)).isSome then s else s.byOwner w p id

/-- A register write by `w` at offset `a` of this device's window (R8, R9, R459). -/
def State.regWrite (s : State) (w : Writer) (a : Nat) (v : Word) : State :=
  if a % 4 ≠ 0 then s
  else match pageOf a with
    | none => s
    | some p =>
      if writable a = 0 then s.roWrite w p a
      else if a % 0x1000 < 0x40 then s.writeHeader w p (a % 0x1000) v else s.writePage w p (a % 0x1000) v

/-- The words whose read latches their HI word (R55, R320, R412, R452), or is a row of its own. -/
def State.latchRead (s : State) (a : Nat) : Option State :=
  match pageOf a with
  | some (.pins t) =>
    if 0x100 ≤ a % 0x1000 ∧ a % 0x1000 < 0x300 ∧ a % 0x40 = 0x20 then
      some (s.after (execPinEstTimeRead t (Fin.ofNat 8 ((a % 0x1000 - 0x100) / 0x40)) s))
    else if a % 0x1000 = 0x35C then some (s.after (execTileTempMaxRead t s)) else none
  | some .lichen =>
    if a % 0x1000 = 0x58 then some (s.after (execTimeLoRead s))
    else if a % 0x1000 = 0x40 then some (s.after (execRtcSecRead s)) else none
  | some .fabric =>
    if 0x400 ≤ a % 0x1000 ∧ a % 0x1000 < 0x800 then
      some (s.after (execFabCntRead (Fin.ofNat 256 ((a % 0x1000 - 0x400) / 4)) s)) else none
  | some .evLive =>
    if 0x100 ≤ a % 0x1000 ∧ a % 0x1000 < 0x900 ∧ a % 8 = 0 then
      some (s.after (execEvcValRead (Fin.ofNat 256 ((a % 0x1000 - 0x100) / 8)) s)) else none
  | _ => none

/-- A register read at offset `a` of this device's window (R8): what it returns, and the state after it. RC fields clear; a
measurement is a value drawn afresh. -/
def State.regRead (s : State) (a : Nat) : Word × State :=
  match s.latchRead a with
  | some t => (t.busRead, { t with busRead := s.busRead })
  | none =>
    let v := s.view a
    if a = pwrPage + 0x68 then (v, { s with free := s.free + 1 })
    else if accMask a .rc = 0 then (v, s)
    else (v, s.setWord a (s.word a &&& ~~~BitVec.ofNat 32 (accMask a .rc)))

end Sys2Proof.Machine
end

