-- ==== Sys2Proof/Machine/Bus.lean ====
section
/-! DEFINITION. Register and SRAM accesses from the host, from units and from other chain positions (R225, R340, R356 to R359). -/

namespace Sys2Proof.Machine

/-! ### Offsets of BAR0 (R356, R458) -/

/-- A write at a BAR0 offset (R357): to this device, or carried to another position; an absent position and the reserved end of
BAR0 discard it. -/
def State.busWrite (s : State) (w : Writer) (off : Nat) (v : Word) : State :=
  let p := off / 0x400000
  if 8 ≤ p then s
  else if p = s.pos then s.regWrite w (off % 0x400000) v
  else if s.posPresent p then s.regFrame 2 off v.toNat
  else s

/-- A read at a BAR0 offset: what it returns, and the state after it. What another position answers is a free value. -/
def State.busFetch (s : State) (off : Nat) : Word × State :=
  let p := off / 0x400000
  if 8 ≤ p then (0xFFFFFFFF, s)
  else if p = s.pos then s.regRead (off % 0x400000)
  else if s.posPresent p then
    let d := (s.regFrame 1 off 0).draw (2 ^ 32)
    (BitVec.ofNat 32 d.1, d.2)
  else (0xFFFFFFFF, s)

/-! ### The host's accesses -/

/-- REGISTER_WRITE (R8): by window offset for this device, by BAR0 offset for another position (R340), past `cfgBase` for the
DVSEC (R353). -/
def execRegisterWrite (w : Writer) (a : Nat) (v : Word) (s : State) : Host.Outcome State Fault Refusal :=
  .next (if cfgBase ≤ a then s.writeConfig (a - cfgBase) v
    else if a < 0x400000 then s.regWrite w a v
    else s.busWrite w a v)

/-- BAR0_BAD_ACCESS (R357): a class 1 fault from the host interface; a read returns all ones, a write is discarded. -/
def execBar0BadAccess (write : Bool) (off : Nat) (s : State) : Host.Outcome State Fault Refusal :=
  let s := s.raise (s.srcDev 0x18) 1 0x45 off
  .next (if write then s else s.answer 0xFFFFFFFF)

/-- BAR2_ACCESS (R358): 1 to 64 bytes of the shared SRAM; any other request that reaches the device is reported as unsupported (R366). -/
def execBar2Access (off : Nat) (op : BusOp) (s : State) : Host.Outcome State Fault Refusal :=
  let n := match op with
    | .read n => n
    | .write bs => bs.length
  .next (if !s.hostReady then s
  else if !(1 ≤ n && n ≤ 64 && off + n ≤ 0x800000) then s.report .unsupported
  else match op with
    | .read n => { s with busBytes := s.sramRead off n }
    | .write bs => s.sramWrite off bs)

/-! ### REG frames (R337, R340, R357) -/

/-- A frame for another position passes on, away from its port. -/
def State.passReg (s : State) (h : FrameHdr) (op tag off v : Nat) : State := s.latSend (1 - h.port) (.reg op tag off v)

/-- REG_READ (R340). -/
def execRegRead (h : FrameHdr) (tag : Nat) (off : Nat) (s : State) : Host.Outcome State Fault Refusal :=
  .next (s.receive h (.reg 1 tag off 0) fun s =>
    if off / 0x400000 = s.pos then
      let r := s.regRead (off % 0x400000)
      r.2.latSend h.port (.reg 3 tag 0 r.1.toNat)
    else s.passReg h 1 tag off 0)

/-- REG_WRITE (R340): the write of the head's host unit. -/
def execRegWrite (h : FrameHdr) (tag : Nat) (off : Nat) (v : Word) (s : State) : Host.Outcome State Fault Refusal :=
  .next (s.receive h (.reg 2 tag off v.toNat) fun s =>
    if off / 0x400000 = s.pos then (s.regWrite .host (off % 0x400000) v).latSend h.port (.reg 3 tag 0 0)
    else s.passReg h 2 tag off v.toNat)

/-- A carried access is over. -/
def State.endTag (s : State) (tag : Nat) : State :=
  { s with host := { s.host with regTags := s.host.regTags.filter fun e => e.1 != tag } }

/-- REG_RESPONSE (R340): at the head it completes the access whose tag it carries; a device between passes it on. -/
def execRegResponse (h : FrameHdr) (tag : Nat) (v : Word) (s : State) : Host.Outcome State Fault Refusal :=
  .next (s.receive h (.reg 3 tag 0 v.toNat) fun s =>
    if s.host.regTags.any fun e => e.1 = tag then (s.endTag tag).answer v
    else if s.isHead then s
    else s.passReg h 3 tag 0 v.toNat)

/-- REG_RESPONSE_TIMEOUT (R357): the access completes with all ones, and the port that leads to its position raises a class 2
fault. -/
def execRegResponseTimeout (tag : Nat) (s : State) : Host.Outcome State Fault Refusal :=
  .next (match s.host.regTags.find? fun e => e.1 = tag with
    | none => s
    | some e => ((s.endTag tag).answer 0xFFFFFFFF).raise (s.srcDev (0x12 + s.portTo e.2)) 2 0x42 e.2)

end Sys2Proof.Machine
end

