-- ==== Sys2Proof/Machine/Dma.lean ====
section
/-! DEFINITION. What DMA channels do (R242 to R249, R252, R255): the start of an item, one burst, and the end of an item. -/

namespace Sys2Proof.Machine

/-! ### Descriptors (R244 to R246) -/

/-- A descriptor's fields (R244, R245). -/
structure Desc where
  src : Nat
  dst : Nat
  len : Nat
  esize : Nat
  op : Nat
  sfix : Bool
  dfix : Bool
  rows : Nat
  sstride : Int
  dstride : Int
  ctrl : Nat
deriving DecidableEq, Repr

/-- A descriptor from its 32 bytes. -/
def descOf (bs : List Byte) : Desc :=
  let f := fun o n => fromLe ((bs.drop o).take n)
  let c := f 20 4
  { src := f 0 8, dst := f 8 8, len := f 16 4, esize := 2 ^ (c % 4), op := c / 4 % 4, sfix := c.testBit 4, dfix := c.testBit 5,
    rows := c / 2 ^ 16, sstride := sext 32 (f 24 4), dstride := sext 32 (f 28 4), ctrl := c }

/-- A value is no multiple of the element size. -/
def Desc.odd (d : Desc) (x : Int) : Bool := x % (d.esize : Int) != 0

/-- BAD_DESC of R246 for one descriptor: reserved fields, alignment, and a LIST's length. The fields that R245 reserves for a LIST
are those of CTRL; R244 reserves its DST, and no rule its strides. -/
def Desc.bad (d : Desc) : Bool :=
  if d.op = 2 then
    d.dst != 0 || d.ctrl != 8 || 2 ^ 48 ≤ d.src || d.len = 0 || d.len % 32 != 0 ||
      0x100000 < d.len
  else
    d.op = 3 || natBits d.ctrl 15 7 != 0 || 2 ^ 48 ≤ d.dst || (d.op = 0 && 2 ^ 48 ≤ d.src) || d.odd d.len || d.odd d.dst ||
      d.odd d.sstride || d.odd d.dstride || (d.op = 0 && d.odd d.src)

/-- The address of offset `off` of row `row`. -/
def Desc.at_ (base : Nat) (stride : Int) (fix : Bool) (row off : Nat) : Nat :=
  (((base : Int) + stride * row + (if fix then 0 else off)) % (2 ^ 48 : Nat)).toNat

def Desc.srcAt (d : Desc) (row off : Nat) : Nat := Desc.at_ d.src d.sstride d.sfix row off
def Desc.dstAt (d : Desc) (row off : Nat) : Nat := Desc.at_ d.dst d.dstride d.dfix row off

/-! ### Elements -/

/-- SPACE and OFFSET of a physical address (R224). -/
def spaceOf (pa : Nat) : Nat := pa / 2 ^ 52
def offsetOf (pa : Nat) : Nat := pa % 2 ^ 52

/-- Read an element: its bytes, or the cause that stops it, 9 for the link (R254) and 10 for a BUS response (R225, R228). -/
def State.elemRead (s : State) (pa n : Nat) (found : EccOutcome) : State × Except Nat (List Byte) :=
  let sp := spaceOf pa
  let off := offsetOf pa
  if sp = 4 then
    if n = 4 ∧ off % 4 = 0 ∧ off < 0x4000000 then
      let r := s.busFetch off
      (r.2, .ok (leBytes 4 r.1.toNat))
    else (s, .error 10)
  else match s.physCheck sp off n with
    | .bus => (s, .error 10)
    | .link => (s, .error 9)
    | .ok =>
      let e : State × Bool := if sp = 2 then s.eccCheck off found else (s, false)
      if e.2 then (e.1, .error 10)
      else
        let r := e.1.physRead sp off n
        (r.2, .ok r.1)

/-- Write an element: the cause that stops it, if one does. A write that leaves a part of a 32-byte half-line of DRAM reads it
first, and an error that this read meets is an error on a read (R228). -/
def State.elemWrite (s : State) (w : Writer) (pa : Nat) (bs : List Byte) (found : EccOutcome := .clean) : State × Option Nat :=
  let sp := spaceOf pa
  let off := offsetOf pa
  if sp = 4 then
    if bs.length = 4 ∧ off % 4 = 0 ∧ off < 0x4000000 then (s.busWrite w off (BitVec.ofNat 32 (fromLe bs)), none)
    else (s, some 10)
  else match s.physCheck sp off bs.length with
    | .bus => (s, some 10)
    | .link => (s, some 9)
    | .ok =>
      let part : Bool := off % 32 != 0 || bs.length % 32 != 0
      let e : State × Bool := if sp = 2 && part then s.eccCheck off found else (s, false)
      if e.2 then (e.1, some 10) else (e.1.physWrite sp off bs, none)

/-- Where a burst takes element `i` from: a physical address, or bytes. -/
inductive ElemSrc where
  | phys (a : Nat)
  | bytes (bs : List Byte)
deriving DecidableEq, Repr

/-- What the ECC finds at the next DRAM read of a list of them; clean beyond its end. -/
def nextFound (fs : List EccOutcome) : EccOutcome := fs.headD .clean

/-- What is left for the reads after one that takes place where `b` holds. -/
def laterFound (b : Bool) (fs : List EccOutcome) : List EccOutcome := if b then fs.tail else fs

/-- The destination half-line of an element is read first: it is in DRAM, and the burst leaves a part of it (R228). -/
def readsBack (dst : Nat) (part : Bool) : Bool := part && spaceOf dst = 2

/-- Move one element of `n` bytes: the cause that stops it, if one does. `fs` is what the ECC finds at its DRAM reads: of the source,
and where the burst leaves a part of the half-line (`part`), of the destination (R228). -/
def State.elemMove (s : State) (w : Writer) (src : ElemSrc) (dst n : Nat) (fs : List EccOutcome) (part : Bool) :
    State × Option Nat :=
  let back := fun fs => if readsBack dst part then nextFound fs else .clean
  match src with
  | .bytes bs => s.elemWrite w dst bs (back fs)
  | .phys a =>
    let r := s.elemRead a n (nextFound fs)
    match r.2 with
    | .error c => (r.1, some c)
    | .ok bs => r.1.elemWrite w dst bs (back (laterFound (spaceOf a = 2) fs))

/-- What is left of the list after one element. -/
def elemLater (src : ElemSrc) (dst : Nat) (part : Bool) (fs : List EccOutcome) : List EccOutcome :=
  let fs := match src with
    | .bytes _ => fs
    | .phys a => laterFound (spaceOf a = 2) fs
  laterFound (readsBack dst part) fs

/-- Move elements one at a time from the `i`th on (R246): the state, how many were moved in a row, and what stopped them. After
a BUS response each later element of the burst holds its old or its new data, as a free value says (R255). `part i` says that the
burst leaves a part of element `i`'s half-line. -/
def State.elemsMove (w : Writer) (src : Nat → ElemSrc) (dst : Nat → Nat) (n : Nat) (part : Nat → Bool) :
    Nat → Nat → Bool → List EccOutcome → State → State × Nat × Option Nat
  | 0, _, _, _, s => (s, 0, none)
  | k + 1, i, failed, fs, s =>
    if failed then
      let d := s.draw 2
      let s := if d.1 = 1 then (d.2.elemMove w (src i) (dst i) n [] (part i)).1 else d.2
      State.elemsMove w src dst n part k (i + 1) true [] s
    else
      let r := s.elemMove w (src i) (dst i) n fs (part i)
      match r.2 with
      | some 10 =>
        let t := State.elemsMove w src dst n part k (i + 1) true [] r.1
        (t.1, 0, some 10)
      | some c => (r.1, 0, some c)
      | none =>
        let t := State.elemsMove w src dst n part k (i + 1) false (elemLater (src i) (dst i) (part i) fs) r.1
        (t.1, t.2.1 + 1, t.2.2)

/-! ### Items (R242, R247, R249) -/

/-- The channel that an item's stream is bound to. -/
def State.dmaChan (s : State) (f : Flight) : Nat := (s.stream f.item.tag.stream).bind % 16

/-- The item that a channel serves. -/
def State.dmaItem (s : State) (c j : Nat) : Option Item :=
  match (s.dma c j).item with
  | none => none
  | some q => (s.sched.flights.find? fun f => f.is q.1 q.2).map (·.item)

/-- The unit works: powered, not contained, and the device not in class 4 (R257, R436). -/
def State.dmaRuns (s : State) (c : Nat) : Bool :=
  s.domReady (domCluster c) && !s.contained.contains (0x200 + c) && !s.bit R.FLT_STAT_C4

/-- The channel's item ends with a STATUS and CAUSE (R247). -/
def State.dmaEnd (s : State) (c j status cause : Nat) : State := s.modDma c j fun x => { x with ended := some (status, cause) }

/-- The record that a capture channel writes (R249): the tag where TAGS is set, and the payload padded to 32 bytes. -/
def State.capRecord (s : State) (c j : Nat) (it : Item) : List Byte :=
  let body := it.payload ++ List.replicate ((32 - it.payload.length % 32) % 32) 0
  if s.bit (R.DMA_CH_CFG_TAGS c j) then tagBytes it.tag ++ body else body

/-- The capture buffer's size in bytes. -/
def State.capSize (s : State) (c j : Nat) : Nat := s.get (R.DMA_CH_CAP_SIZE c j) * 4096

/-- STATUS with which an item ends before it begins: BAD_DESC, STOPPED or FULL (R246, R249). -/
def State.dmaRefuses (s : State) (c j : Nat) (it : Item) : Option Nat :=
  if s.bit (R.DMA_CH_CFG_MODE c j) then
    let len := (s.capRecord c j it).length
    if s.capSize c j = 0 || (s.dma c j).stop then some 6
    else if s.bit (R.DMA_CH_CFG_FULL_STOP c j) && s.capSize c j < (s.dma c j).wp + len then some 5
    else none
  else if it.payload.length % 32 != 0 then some 1
  else if it.payload.length = 0 then some 0
  else none

/-- No earlier item of the stream is still to be served (R242). -/
def servesNext (fs : List Flight) (f : Flight) : Bool :=
  !fs.any fun g => g.item.tag.stream = f.item.tag.stream && seqLater f.item.tag.seq g.item.tag.seq &&
    (g.phase = .waiting || g.phase = .taken || g.phase = .sent || g.phase = .running)

/-- The item that channel `j` of unit `c` serves next: of those delivered, the first whose stream has no earlier one (R242). -/
def State.dmaNextItem (s : State) (c j : Nat) : Option Flight :=
  s.sched.flights.find? fun f =>
    f.item.tag.dst = s.unitId (0x200 + c) && f.phase = .sent && s.dmaChan f = j && servesNext s.sched.flights f

/-- DMA_ITEM_START (R242): an idle channel takes the next item of its streams; none once a quiesce has abandoned what ran
(R293). -/
def execDmaItemStart (c : Fin 16) (j : Fin 16) (s : State) : Host.Outcome State Fault Refusal :=
  if s.dmaRuns c && !s.bit (R.DMA_CH_STAT_ACTIVE c j) && !s.quiesceLate (s.unitId (0x200 + c)) then
    match s.dmaNextItem c j with
    | none => .next s
    | some f =>
      let g := f.item.tag
      let s := (s.modFlight g.stream g.seq fun f => { f with phase := .running }).dmaActive c j true
      let s := s.modDma c j fun x => { ({} : DmaSt) with
        item := some (g.stream, g.seq), ctx := g.ctx, pri := g.pri, replay := itemHas f.item flReplay, stop := x.stop, wp := x.wp }
      let s := s.put (R.DMA_CH_STAT_ASID c j) g.ctx
      match s.dmaRefuses c j f.item with
      | none => .next s
      | some 0 => .next (s.dmaEnd c j 0 0)
      | some 1 => .next (s.dmaEnd c j 1 0)
      | some k => .next ((s.dmaEnd c j k 0).putB (R.DMA_CH_STAT_STOPPED c j) true)
  else .next s

/-- A channel that bursts can be issued for. -/
def State.dmaEligible (s : State) (c j : Nat) : Bool :=
  s.bit (R.DMA_CH_STAT_ACTIVE c j) && !s.bit (R.DMA_CH_STAT_SUSP c j) && (s.dma c j).ended.isNone

/-- Another active channel's item has a higher PRI (R242). -/
def State.dmaOutranked (s : State) (c j : Nat) : Bool :=
  (List.range 16).any fun k => s.dmaEligible c k && (s.dma c j).pri < (s.dma c k).pri

/-- The channel whose turn it is among those whose items have the highest PRI: the first in rotation behind the channel of the
unit's last burst (R242). -/
def State.dmaTurn (s : State) (c j : Nat) : Bool :=
  let last := tblGet (fun _ => 0) s.mem.turns c
  last = 0 || (((List.range 16).map fun k => (last + k) % 16).find? fun k => s.dmaEligible c k && !s.dmaOutranked c k) = some j

/-- The unit's last burst was of channel `j`. -/
def State.dmaTook (s : State) (c j : Nat) : State :=
  { s with mem := { s.mem with turns := tblSet (fun _ => 0) s.mem.turns c (j + 1) } }

/-- A BUS response ends the item, with a class 2 fault (R255). -/
def State.dmaBus (s : State) (c j : Nat) : State :=
  ((s.dmaEnd c j 2 10).event (dmaP c) 2 (s.dmaTag c j)).raise (s.srcDma c j) 2 0x22 10

/-- A burst has been stopped by a cause (R252, R254, R255). -/
def State.dmaStopped (s : State) (c j cause va : Nat) (write : Bool) : State :=
  if cause = 10 then s.dmaBus c j else s.dmaSuspend c j cause va write

/-- Count `n` bytes written by the item, and the events of a burst (R448): one for each 32 bytes moved. -/
def State.dmaMoved (s : State) (c j n : Nat) : State :=
  let b := (s.dma c j).bytes
  let s := ((s.modDma c j fun x => { x with bytes := b + n }).netWords c true).netWords c false
  (s.events (dmaP c) 0 ((b + n) / 32 - b / 32) (s.dmaTag c j)).event (dmaP c) 3 (s.dmaTag c j)

/-- The length of the list that the channel works on. -/
def State.dmaListLen (s : State) (c j : Nat) (it : Item) : Nat :=
  match (s.dma c j).list with
  | none => it.payload.length
  | some l => l.2

/-- The channel goes on to the next descriptor, or ends its item behind the last one (R247). -/
def State.dmaNext (s : State) (c j : Nat) (it : Item) : State :=
  let s := s.modDma c j fun x => { x with desc := x.desc + 1, pos := x.pos + 32, begun := false, row := 0, off := 0 }
  if s.dmaListLen c j it ≤ (s.dma c j).pos then s.dmaEnd c j 0 0 else s

/-- Read bytes at a virtual address that stay in one page (R252). -/
def State.dmaRead (s : State) (c j va n : Nat) (fs : List EccOutcome) : State × Except Nat (List Byte) × List EccOutcome :=
  let t := s.translate (128 + c) (s.dma c j).ctx va false (nextFound fs)
  match t.2 with
  | .error e => (t.1, .error e, fs)
  | .ok pa =>
    let fs := laterFound (s.walkReads (128 + c) (s.dma c j).ctx va false) fs
    let r := t.1.elemRead pa n (nextFound fs)
    (r.1.memEvents (spaceOf pa) (offsetOf pa) n false, r.2, laterFound (spaceOf pa = 2) fs)

/-- Fetch the 32 bytes of the descriptor reached: from the payload, or from a list, which may cross a page; and what the ECC finds
at the reads after it. -/
def State.dmaFetch (s : State) (c j : Nat) (it : Item) (fs : List EccOutcome) :
    State × Except (Nat × Nat) (List Byte) × List EccOutcome :=
  let x := s.dma c j
  match x.list with
  | none => (s, .ok ((it.payload.drop x.pos).take 32), fs)
  | some l =>
    let va := (l.1 + x.pos) % 2 ^ 48
    let n := min 32 (4096 - va % 4096)
    let a := s.dmaRead c j va n fs
    match a.2.1 with
    | .error e => (a.1, .error (e, va), a.2.2)
    | .ok bs =>
      if n = 32 then (a.1, .ok bs, a.2.2)
      else
        let va2 := (va + n) % 2 ^ 48
        let b := a.1.dmaRead c j va2 (32 - n) a.2.2
        match b.2.1 with
        | .error e => (b.1, .error (e, va2), b.2.2)
        | .ok bs2 => (b.1, .ok (bs ++ bs2), b.2.2)

/-- The elements that fit in a burst (R242, R246): 256 bytes, the rest of the row, and one page on each side that advances. -/
def Desc.burst (d : Desc) (row off : Nat) : Nat :=
  let n := min (256 / d.esize) ((d.len - off) / d.esize)
  let n := if d.dfix then n else min n ((4096 - d.dstAt row off % 4096) / d.esize)
  if d.sfix || d.op = 1 then n else min n ((4096 - d.srcAt row off % 4096) / d.esize)

/-- One burst of the descriptor reached, with its addresses translated. -/
def State.dmaMove (s : State) (c j : Nat) (it : Item) (d : Desc) (sp dp : Nat) (fs : List EccOutcome) : State :=
  let x := s.dma c j
  let n := d.burst x.row x.off
  let src := fun i : Nat => if d.op = 1 then ElemSrc.bytes (leBytes d.esize d.src)
    else ElemSrc.phys (if d.sfix then sp else sp + i * d.esize)
  let dst := fun i : Nat => if d.dfix then dp else dp + i * d.esize
  let part := fun i : Nat =>
    let h := dst i / 32 * 32
    d.dfix || h < dp || dp + n * d.esize < h + 32
  let r := State.elemsMove (.unit (s.unitId (0x200 + c))) src dst d.esize part n 0 false fs s
  let k : Nat := r.2.1 * d.esize
  let s := if d.op = 1 then r.1 else r.1.memEvents (spaceOf sp) (offsetOf sp) (if d.sfix then min k d.esize else k) false
  let s := s.memEvents (spaceOf dp) (offsetOf dp) (if d.dfix then min k d.esize else k) true
  let s := (s.dmaMoved c j k).modDma c j fun y => { y with off := x.off + k }
  match r.2.2 with
  | some cause =>
    let reads : Bool := d.op != 1 && spaceOf sp = 3
    s.dmaStopped c j cause (if reads then d.srcAt x.row (x.off + k) else d.dstAt x.row (x.off + k)) (!reads)
  | none =>
    if x.off + k < d.len then s
    else if x.row < d.rows then s.modDma c j fun y => { y with row := x.row + 1, off := 0 }
    else s.dmaNext c j it

/-- A burst of the descriptor reached (R246, R252). -/
def State.dmaBurstDesc (s : State) (c j : Nat) (it : Item) (d : Desc) (fs : List EccOutcome) : State :=
  let x := s.dma c j
  if d.len = 0 then s.dmaNext c j it
  else
    let sva := d.srcAt x.row x.off
    let dva := d.dstAt x.row x.off
    let a : State × Except Nat Nat := if d.op = 1 then (s, .ok 0) else s.translate (128 + c) x.ctx sva false (nextFound fs)
    let fs := laterFound (d.op != 1 && s.walkReads (128 + c) x.ctx sva false) fs
    match a.2 with
    | .error e => a.1.dmaSuspend c j e sva false
    | .ok sp =>
      let b := a.1.translate (128 + c) x.ctx dva true (nextFound fs)
      match b.2 with
      | .error e => b.1.dmaSuspend c j e dva true
      | .ok dp => b.1.dmaMove c j it d sp dp (laterFound (a.1.walkReads (128 + c) x.ctx dva true) fs)

/-- A channel in DESC mode: the next descriptor is fetched and checked (R246), then moved burst by burst. -/
def State.dmaDesc (s : State) (c j : Nat) (it : Item) (fs : List EccOutcome) : State :=
  let x := s.dma c j
  if x.begun then s.dmaBurstDesc c j it (descOf x.cur) fs
  else if 65536 ≤ x.desc then s.dmaEnd c j 1 0
  else
    let r := s.dmaFetch c j it fs
    match r.2.1 with
    | .error e => r.1.dmaStopped c j e.1 e.2 false
    | .ok bs =>
      let d := descOf bs
      let s := r.1
      if d.bad then s.dmaEnd c j 1 0
      else
        let s := s.modDma c j fun y => { y with begun := true, cur := bs, row := 0, off := 0 }
        if d.op = 2 then s.modDma c j fun y => { y with list := some (d.src, d.len), pos := 0, desc := y.desc + 1, begun := false }
        else s.dmaBurstDesc c j it d r.2.2

/-- A channel in CAPTURE mode writes the next bytes of its record, through the wrap of its buffer (R249). -/
def State.dmaCapture (s : State) (c j : Nat) (it : Item) (fs : List EccOutcome) : State :=
  let x := s.dma c j
  let bs := s.capRecord c j it
  let size := s.capSize c j
  let base := s.get (R.DMA_CH_CAP_BASE_LO_VA c j) * 4096 + s.get (R.DMA_CH_CAP_BASE_HI_VA c j) * 2 ^ 32
  let va := (base + (x.wp + x.off) % size) % 2 ^ 48
  let n := min (min 256 (bs.length - x.off)) (4096 - va % 4096)
  let t : State × Except Nat Nat := if bs.isEmpty then (s, .ok 0) else s.translate (128 + c) x.ctx va true (nextFound fs)
  match t.2 with
  | .error e => t.1.dmaSuspend c j e va true
  | .ok pa =>
    let src := fun i : Nat => ElemSrc.bytes ((bs.drop (x.off + 32 * i)).take 32)
    let r := State.elemsMove (.unit (s.unitId (0x200 + c))) src (fun i => pa + 32 * i) 32 (fun _ => false) (n / 32) 0 false [] t.1
    let k : Nat := 32 * r.2.1
    let s := (r.1.memEvents (spaceOf pa) (offsetOf pa) k true).dmaMoved c j k
    let s := s.modDma c j fun y => { y with off := x.off + k }
    match r.2.2 with
    | some cause => s.dmaStopped c j cause ((va + k) % 2 ^ 48) true
    | none =>
      if x.off + k < bs.length then s
      else
        let e : Nat := x.wp + bs.length
        let full := s.bit (R.DMA_CH_CFG_FULL_STOP c j)
        let wp : Nat := if full then e else e % size
        let s := (s.modDma c j fun y => { y with wp := wp }).put (R.DMA_CH_CAP_WP c j) wp
        let s := if !full && size ≤ e then s.putB (R.DMA_CH_STAT_WRAPPED c j) true else s
        (s.bump (R.DMA_CH_CAP_RECS_COUNT c j)).dmaEnd c j 0 0

/-- DMA_BURST (R242): for the channel whose turn it is among the active ones whose items have the highest PRI. `fs` is what the ECC
finds at the burst's DRAM reads in order (R228): tables, descriptor, and element by element. -/
def execDmaBurst (c : Fin 16) (j : Fin 16) (fs : List EccOutcome) (s : State) : Host.Outcome State Fault Refusal :=
  if s.dmaRuns c && s.dmaEligible c j && !s.dmaOutranked c j && s.dmaTurn c j then
    match s.dmaItem c j with
    | none => .next s
    | some it =>
      let s := s.dmaTook c j
      .next (if s.bit (R.DMA_CH_CFG_MODE c j) then s.dmaCapture c j it fs else s.dmaDesc c j it fs)
  else .next s

/-- The result item of an item that has ended (R247, R270). -/
def State.dmaResult (s : State) (c j : Nat) (st : StreamSt) (status cause : Nat) : Item :=
  let x := s.dma c j
  let last : Nat := if x.begun then x.desc else x.desc - 1
  let bytes := leBytes 1 status ++ leBytes 1 cause ++ leBytes 2 0 ++ leBytes 4 last ++ leBytes 8 x.bytes
  let re := s.stream st.reply
  let g : Tag := { stream := st.reply, seq := 0, ctx := x.ctx, pri := re.pri, src := s.unitId (0x200 + c), dst := re.dst, typ := 6,
                   exp := 0, flags := 0, len := 16, chk := chkOf bytes, time := s.time, zeroBad := false }
  { tag := if x.replay then tagFlag g flReplay else g, payload := bytes }

/-- DMA_ITEM_END (R247, R286, R436): the channel of a unit that is not contained is idle again; its result is offered to the scheduler, or, with no REPLY, the item is
executed. -/
def execDmaItemEnd (c : Fin 16) (j : Fin 16) (s : State) : Host.Outcome State Fault Refusal :=
  if s.contained.contains (0x200 + c.val) then .next s
  else match (s.dma c j).ended, (s.dma c j).item with
  | some o, some q =>
    let st := s.stream q.1
    let it := s.dmaResult c j st o.1 o.2
    let s := (s.dmaActive c j false).event (dmaP c) 1 (s.dmaTag c j)
    let s := s.modDma c j fun x => { ({} : DmaSt) with stop := x.stop, wp := x.wp }
    let s := if st.replyEn then
        { s with sched := { s.sched with offers := s.sched.offers ++ [({ item := it, serves := some q } : Offer)] } }
      else s.executed q.1 q.2
    .next ((s.dmaApply c j).dmaCommitted c)
  | _, _ => .next s

end Sys2Proof.Machine
end

