-- ==== Sys2Proof/Machine/Operands.lean ====
section
/-! DEFINITION. Operands of the engine instructions: signed views, rounding (R183), the legacy width of .W and write-backs
(R185 to R187), accumulators (R178 to R180), element counts (R188), register numbers (R208, R215), circular addressing (R195)
and the address modes (R216). -/

namespace Sys2Proof.Machine

/-! ### Halves, rounding and counts -/

/-- The signed low and high 16-bit halves of a word (R179). -/
def loHalf (w : Word) : Int := (w.extractLsb' 0 16).toInt
def hiHalf (w : Word) : Int := (w.extractLsb' 16 16).toInt

/-- Two 16-bit results in the halves of a word. -/
def packHalves (lo hi : Int) : Word := BitVec.ofInt 16 hi ++ BitVec.ofInt 16 lo

/-- `v` without its low `k` bits: truncated, or rounded half up (R183). -/
def roundShift (up : Bool) (v : Int) (k : Nat) : Int :=
  if up && k != 0 then (v + 2 ^ (k - 1)) / 2 ^ k else v / 2 ^ k

/-- The bits directly below the sign bit of an `n`-bit element that equal it (R188). -/
def leadingSigns (n v : Nat) : Nat :=
  let u := if v.testBit (n - 1) then 2 ^ n - 1 - v % 2 ^ n else v % 2 ^ n
  if u = 0 then n - 1 else n - 2 - Nat.log2 u

/-! ### The legacy width (R185 to R187) -/

/-- W of a WSEL register, with `top` the highest value of WM1 that takes effect. -/
def wselWidth (top : Nat) (ws : Word) : Nat := min top (max 7 (getBits ws 4 0)) + 1

/-- Whether OVF asks for wrapping. -/
def wselWraps (ws : Word) : Bool := ws.getLsbD 6

/-- The highest and lowest value of `w` bits. -/
def topOf (w : Nat) : Int := 2 ^ (w - 1) - 1
def bottomOf (w : Nat) : Int := -2 ^ (w - 1)

/-- `v` lies within `w` bits. -/
def fits (w : Nat) (v : Int) : Bool := bottomOf w ≤ v && v ≤ topOf w

/-- The low `w` bits of `v`, sign-extended. -/
def wrapTo (w : Nat) (v : Int) : Int := sext w (lowBits w v)

/-- An operand of a .W instruction (R187). -/
def wOperand (ws : Word) (x : Word) : Int := wrapTo (wselWidth 31 ws) x.toInt

/-- A .W result saturated or wrapped to W bits, and whether it was (R187). -/
def wResult (ws : Word) (v : Int) : Word × Bool :=
  let w := wselWidth 31 ws
  if fits w v then (BitVec.ofInt 32 v, false)
  else if wselWraps ws then (BitVec.ofInt 32 (wrapTo w v), true)
  else (BitVec.ofInt 32 (if 0 < v then topOf w else bottomOf w), true)

/-- R186 in a register of `n` bits: 32, or 16 for a half of WBP (R214), where WM1 stops at `n` - 1. -/
def writeBack (n : Nat) (up : Bool) (a : Accum) (ws : Word) : Int × Bool :=
  let w := wselWidth (n - 1) ws
  let t := roundShift up a.v.toInt (getBits ws 13 8)
  let sat := a.aov || !fits w t
  let r := if !sat then t
    else if wselWraps ws then wrapTo w t
    else if (if a.aov then a.dir else 0 < t) then topOf w else bottomOf w
  (if ws.getLsbD 7 then r * 2 ^ (n - w) else r, sat)

/-! ### Accumulators (R178 to R180) -/

/-- One exact accumulation (R180). -/
def Accum.accumulate (a : Accum) (p : Int) : Accum :=
  let t := a.v.toInt + p
  if -2 ^ 71 ≤ t && t < 2 ^ 71 then { a with v := BitVec.ofInt 72 t }
  else { v := BitVec.ofInt 72 t, aov := true, dir := if a.aov then a.dir else 0 < t }

/-- The accumulation of a multiply instruction: SUB subtracts, and Z clears the target first (R214). -/
def Accum.multiply (a : Accum) (sub z : Bool) (p : Int) : Accum :=
  (if z then {} else a).accumulate (if sub then -p else p)

/-- A 32-bit product by FORM or SGN 0 to 2 (R178, R214). -/
def product32 (sgn : Nat) (a b : Word) : Int :=
  if sgn = 0 then a.toInt * b.toInt else if sgn = 1 then a.toInt * (b.toNat : Int) else (a.toNat : Int) * (b.toNat : Int)

/-- The sums of products of the split forms .S, .SN and .X (R179). -/
def productS (a b : Word) : Int := loHalf a * loHalf b + hiHalf a * hiHalf b
def productSN (a b : Word) : Int := loHalf a * loHalf b - hiHalf a * hiHalf b
def productX (a b : Word) : Int := loHalf a * hiHalf b + hiHalf a * loHalf b

/-! ### Circular addressing (R195, R197) -/

/-- The signed offset of a pointer in its buffer, pointers being 48 bits wide. -/
def EngRegs.offset (r : EngRegs) (n : Nat) : Int := (r.pR n - r.bR n).toInt

/-- One step of a pointer (R195): the pointer, its length, and the pending bit of its staged length. Whether a step that lands
inside the buffer from outside it counts as a wrap follows the pseudocode of R195, not its prose (DESIGN CHOICE, log 180). -/
def EngRegs.stepOf (r : EngRegs) (n : Nat) (m : Int) : BitVec 48 × BitVec 24 × Bool :=
  let l := r.lR n
  let st := r.lstR n
  if l = 0 then (BitVec.ofInt 48 ((r.pR n).toNat + m), l, st.2)
  else
    let o := r.offset n + m
    let wrap := o < 0 || (l.toNat : Int) ≤ o
    let o := if wrap then o % (l.toNat : Int) else o
    if wrap && st.2 then
      let o := if st.1 = 0 then o else o % (st.1.toNat : Int)
      (BitVec.ofInt 48 ((r.bR n).toNat + o), st.1, false)
    else (BitVec.ofInt 48 ((r.bR n).toNat + o), l, st.2)

/-- A step taken. -/
def EngRegs.step (r : EngRegs) (n : Nat) (m : Int) : EngRegs :=
  let t := r.stepOf n m
  ((r.setP n t.1).setL n t.2.1).setLst n ((r.lstR n).1, t.2.2)

/-- The address of an indexed access (R195). -/
def EngRegs.indexed (r : EngRegs) (n : Nat) (disp : Int) : Nat :=
  let l := r.lR n
  if l = 0 then lowBits 48 ((r.pR n).toNat + disp)
  else lowBits 48 ((r.bR n).toNat + (r.offset n + disp) % (l.toNat : Int))

/-- LIMM Ln (R196): at once; the staged value is discarded, and a nonzero length brings the pointer inside its buffer at `b`, the
base as read before the bundle (R176). -/
def EngRegs.limm (r : EngRegs) (b : BitVec 48) (n : Nat) (v : BitVec 24) : EngRegs :=
  let r' := (r.setL n v).setLst n ((r.lstR n).1, false)
  if v = 0 then r' else r'.setP n (BitVec.ofInt 48 (b.toNat + (r.pR n - b).toInt % (v.toNat : Int)))

/-! ### Address modes (R216) -/

/-- What an address operand gives: the address, the exceptions of its encoding, and the pointer step. -/
structure Addr where
  va : Nat
  exc : List Nat := []
  steps : List (Nat × Int) := []
deriving DecidableEq, Repr

/-- The address of an M format operand. -/
def EngRegs.address (r : EngRegs) (m : MemAddr) : Addr :=
  let n := m.p.val
  let off := m.off.toInt
  let md := (r.mR n).toInt
  match m.mode.val with
  | 0 => { va := (r.pR n).toNat }
  | 1 => { va := r.indexed n off }
  | 2 => { va := (r.pR n).toNat, steps := [(n, md)] }
  | 3 => { va := (r.pR n).toNat, steps := [(n, off)] }
  | 4 => { va := r.indexed n (r.gR (m.off.toNat % 64)).toInt, exc := if 64 ≤ m.off.toNat then [1] else [] }
  | 5 => { va := n % 8 * 0x2000 + m.off.toNat, exc := if 8 ≤ n then [1] else [] }
  | 6 => { va := r.indexed n md }
  | _ => { va := 0, exc := [1] }

/-! ### Registers by number (R208) -/

/-- A register that a move names. -/
inductive Reg where
  | g (n : Nat) | p (n : Nat) | m (n : Nat) | l (n : Nat) | b (n : Nat) | acc (n : Nat) | wsel (n : Nat)
  | bexp | flg | rpt | pc
deriving DecidableEq, Repr

/-- The register with a number; none for 0x90 to 0xFF. -/
def regOf (k : BitVec 8) : Option Reg :=
  let n := k.toNat
  if n < 0x40 then some (.g n) else if n < 0x50 then some (.p (n - 0x40)) else if n < 0x60 then some (.m (n - 0x50))
  else if n < 0x70 then some (.l (n - 0x60)) else if n < 0x80 then some (.b (n - 0x70))
  else if n < 0x88 then some (.acc (n - 0x80)) else if n < 0x8C then some (.wsel (n - 0x88))
  else if n = 0x8C then some .bexp else if n = 0x8D then some .flg else if n = 0x8E then some .rpt
  else if n = 0x8F then some .pc else none

/-- What a move reads: the register's bits as a number. -/
def EngRegs.read (r : EngRegs) : Reg → Nat
  | .g n => (r.gR n).toNat
  | .p n => (r.pR n).toNat
  | .m n => (r.mR n).toNat
  | .l n => (r.lR n).toNat
  | .b n => (r.bR n).toNat
  | .acc n => (r.accR n).v.toNat
  | .wsel n => (r.wselR n).toNat
  | .bexp => r.bexp.toNat
  | .flg => r.flg.toNat
  | .rpt => r.rptCnt % 8192
  | .pc => r.pc % 4096

/-- The writable bits of WSEL, BEXP and FLG (R185, R189, R209, R215). -/
def wselRw : Word := 0x3FDF
def bexpRw : Word := 0x00FF00E0
def flgRw : Word := 0x1F

end Sys2Proof.Machine
end

