-- ==== Sys2Proof/Machine/Flags.lean ====
section
/-! DEFINITION. The flags of FLG (R209): how Z, N, C, V and SATS follow from a result (R211, R212), and the branch
conditions (R217). -/

namespace Sys2Proof.Machine

/-- A bit at place `k` of FLG. -/
def flagBit (k : Nat) (b : Bool) : Word := if b then BitVec.ofNat 32 (2 ^ k) else 0

/-- Z and N of a 32-bit result. -/
def zn (r : Word) : Word := flagBit 0 (r = 0) ||| flagBit 1 r.msb

/-- Masks of FLG: Z N, Z N V, Z N C V, SATS. -/
def mZN : Word := 0x3
def mZNV : Word := 0xB
def mZNCV : Word := 0xF
def mSATS : Word := 0x10

/-- Carry out of bit 31 of a sum. -/
def addCarry (a b : Word) : Bool := 2 ^ 32 ≤ a.toNat + b.toNat

/-- No borrow of a difference. -/
def subNoBorrow (a b : Word) : Bool := b.toNat ≤ a.toNat

/-- A signed 32-bit overflow of an exact result. -/
def overflows (v : Int) : Bool := !fits 32 v

/-- Z, N, C and V of a result. -/
def zncv (r : Word) (c v : Bool) : Word := zn r ||| flagBit 2 c ||| flagBit 3 v

/-- Whether a condition code holds (R217); none for the reserved code. -/
def condition (f : Word) (k : Nat) : Option Bool :=
  let z := f.getLsbD 0
  let n := f.getLsbD 1
  let c := f.getLsbD 2
  let v := f.getLsbD 3
  match k with
  | 0 => some z
  | 1 => some (!z)
  | 2 => some (n != v)
  | 3 => some (n == v)
  | 4 => some (z || n != v)
  | 5 => some (!z && n == v)
  | 6 => some (!c)
  | 7 => some c
  | 8 => some (!c || z)
  | 9 => some (c && !z)
  | 10 => some n
  | 11 => some (!n)
  | 12 => some v
  | 13 => some (!v)
  | 14 => some true
  | _ => none

/-- The word with the bits of a mask taken from `v`. -/
def flgMerge (f m v : Word) : Word := (f &&& ~~~m) ||| (v &&& m)

end Sys2Proof.Machine
end

