-- ==== Sys2Proof/Machine/Bundle.lean ====
section
/-! DEFINITION. A bundle of an engine: what each slot does, computed from the registers before it (R176); its exceptions
(R221 to R223); its accesses (R171, R194, R216, R250 to R256); SEND (R218); and the writes at its end (R196, R197). -/

namespace Sys2Proof.Machine

/-! ### One slot -/

/-- The slot's instruction with nothing to write: a nonzero reserved field is ILLEGAL, a slot that R210 does not allow is
SLOT (R222). -/
def effOf (i : Issue) (x y : Bool) (exc : List Nat := []) : Eff :=
  let k : Nat := if i.slot = .x then 0 else 1
  { slot := k, stalls := i.stalls, ecc := i.ecc
    exc := (if i.rsvd then [1] else []) ++ (if (if i.slot = .x then x else y) then [] else [2]) ++ exc }

/-! ### Conflicts (R221) -/

/-- Two lists share an element. -/
def common (a b : List Nat) : Bool := a.any fun k => b.contains k

/-- The G registers that a slot writes. -/
def Eff.gw (x : Eff) : List Nat := x.g.map (·.1) ++ x.gAct
/-- The accumulators that it writes. -/
def Eff.accw (x : Eff) : List Nat := x.acc.map (·.1) ++ x.accAct
/-- The lengths that it writes. -/
def Eff.lw (x : Eff) : List Nat := x.l.map (·.1) ++ x.limm.map (·.1)
/-- The pointers that it writes but by steps: LIMM with a nonzero length writes its own (R196). -/
def Eff.pw (x : Eff) : List Nat := x.p.map (·.1) ++ (x.limm.filter fun t => t.2 != 0).map (·.1)

/-- Both slots write BEXP as R221 forbids. -/
def bexpConflict (a b : Eff) : Bool :=
  (a.bexpKind = 1 && b.bexpKind != 0) || (b.bexpKind = 1 && a.bexpKind != 0) ||
    (a.bexpKind = 3 && b.bexpKind = 5) || (a.bexpKind = 5 && b.bexpKind = 3)

/-- The two slots of a bundle conflict. -/
def conflict (a b : Eff) : Bool :=
  common a.gw b.gw || common a.pw b.pw || common (a.m.map (·.1)) (b.m.map (·.1)) ||
    common a.lw b.lw || common (a.b.map (·.1)) (b.b.map (·.1)) || common a.accw b.accw ||
    common (a.wsel.map (·.1)) (b.wsel.map (·.1)) || common (a.steps.map (·.1)) (b.steps.map (·.1)) ||
    common (a.steps.map (·.1)) (b.p.map (·.1)) || common (b.steps.map (·.1)) (a.p.map (·.1)) ||
    (a.flgHit && b.flgHit) || bexpConflict a b

/-! ### Exceptions before any access -/

/-- The engine's own data memory, untranslated (R171). -/
def ownMem (va : Nat) : Bool := va < 0x10000

/-- An access: address, size, and whether it stores. -/
abbrev Access := Nat × Nat × Bool

/-- The accesses of an action. -/
def Act.accesses : Act → List Access
  | .load _ n a _ _ _ => [(a, n, false)]
  | .store n a _ => [(a, n, true)]
  | .tapm _ c x mv _ => [(c, 4, false), (x, 4, false)] ++ mv.toList.map fun d => (d, 4, true)
  | _ => []

/-- The exceptions that an access raises before it is made (R171, R194, R216). -/
def accessExc (body : Bool) (a : Access) : List Nat :=
  (if body && !ownMem a.1 then [5] else []) ++ (if a.1 % a.2.1 != 0 then [8] else []) ++
    (if ownMem a.1 && a.2.2 && 0xF000 < a.1 + a.2.1 then [0xA] else [])

/-- The exceptions of an action's operands (R218, R220). -/
def Act.operandExc (pc : Nat) : Act → List Nat
  | .loop _ len => if 4095 < pc + len then [7] else []
  | .send _ pt pp len _ =>
    (if pt % 32 != 0 || pp % 8 != 0 then [8] else []) ++
      (if 0x10000 < pt + 32 || 0x10000 < pp + len then [0xA] else [])
  | _ => []

/-- An access outside data memory: the ECC of DRAM is checked there (R228). -/
def Eff.outside (x : Eff) : Bool := x.act.accesses.any fun a => !ownMem a.1

/-- Every exception of a bundle that is known before an access; `cyc` is the cycle of the iteration (R194). -/
def bundleExc (r : EngRegs) (cyc : Nat) (es : List Eff) : List Nat :=
  es.flatMap (fun x => x.exc ++ (if r.rptOn && x.barred then [5] else []) ++
    (x.act.accesses.flatMap (accessExc r.rptOn)) ++ x.act.operandExc r.pc ++
    (if x.ecc = .uncorrectable && !x.outside then [9] else [])) ++
  (match es with
  | [a, b] => if conflict a b then [3] else []
  | _ => []) ++
  (if r.rptOn && 64 < cyc then [6] else [])

/-- The lowest code (R223). -/
def lowest (l : List Nat) : Option Nat :=
  l.foldl (fun m c => match m with
    | none => some c
    | some d => some (min c d)) none

/-! ### Accesses -/

/-- What keeps a bundle from completing: an exception that contains the engine, a translation fault or a link wait that
suspends the invocation (R250, R254), or a SEND that waits (R218). -/
inductive Stop where
  | exc (code : Nat)
  | susp (cause va : Nat) (write : Bool)
  | wait
deriving DecidableEq, Repr

/-- What a completed action adds to the writes of its bundle. -/
structure Done where
  g : List (Nat × Word) := []
  acc : List (Nat × Accum) := []
  sent : Bool := false
deriving DecidableEq, Repr

/-- The writer that an engine is (R36, R225). -/
def State.engWriter (s : State) (e : Nat) : Writer := .unit (s.unitId (0x100 + e))

/-- The context of the running invocation. -/
def EngSt.ctx (x : EngSt) : Nat :=
  match x.run with
  | some i => i.ctx
  | none => 0

/-- What the ECC finds at an access outside data memory behind its translation. -/
def State.engFound (s : State) (e va : Nat) (write : Bool) (found : EccOutcome) : EccOutcome :=
  s.leftFound e (s.eng e).ctx va write found

/-- A translated address of an access outside data memory (R171, R237). -/
def State.engTranslate (s : State) (e va : Nat) (write : Bool) (found : EccOutcome) : State × Except Stop Nat :=
  let s := ((s.event (engP e) 8).netWords (e / 8) true).netWords (e / 8) false
  let t := s.translate e (s.eng e).ctx va write found
  match t.2 with
  | .error c => (t.1, .error (.susp c va write))
  | .ok pa => (t.1, .ok pa)

/-- What stops an access that its space refuses. -/
def stopOf (cause va : Nat) (write : Bool) : Stop := if cause = 9 then .susp 9 va write else .exc 0x11

/-- Read `n` bytes at a virtual address. -/
def State.engRead (s : State) (e va n : Nat) (found : EccOutcome) : State × Except Stop (List Byte) :=
  if ownMem va then (s, .ok (s.dataRead e va n))
  else
    let t := s.engTranslate e va false found
    let found := s.engFound e va false found
    match t.2 with
    | .error x => (t.1, .error x)
    | .ok pa =>
      if found = .uncorrectable && spaceOf pa != 2 then (t.1, .error (.exc 9))
      else
        let r := t.1.elemRead pa n found
        match r.2 with
        | .error c => (r.1, .error (stopOf c va false))
        | .ok bs => (r.1.memEvents (spaceOf pa) (offsetOf pa) n false, .ok bs)

/-- Write bytes at a virtual address. -/
def State.engWrite (s : State) (e va : Nat) (bs : List Byte) (found : EccOutcome) : State × Option Stop :=
  if ownMem va then (s.dataWrite e va bs, none)
  else
    let t := s.engTranslate e va true found
    let found := s.engFound e va true found
    match t.2 with
    | .error x => (t.1, some x)
    | .ok pa =>
      if found = .uncorrectable && spaceOf pa != 2 then (t.1, some (.exc 9))
      else
        let r := t.1.elemWrite (s.engWriter e) pa bs found
        match r.2 with
        | some c => (r.1, some (stopOf c va true))
        | none => (r.1.memEvents (spaceOf pa) (offsetOf pa) bs.length true, none)

/-! ### Block exponent (R189, R190) -/

/-- The bits of an element. -/
def bexpSize (b : Word) : Nat := if b.getLsbD 5 then 16 else 32

/-- SHIFT and TOT. -/
def bexpShift (b : Word) : Int := sext 6 (getBits b 13 8)
def bexpTot (b : Word) : Int := sext 8 (getBits b 23 16)

/-- One element as BLD reads it: a left shift keeps the element's width. -/
def preShift (up : Bool) (sh v : Int) : Int := if 0 ≤ sh then v * 2 ^ sh.toNat else roundShift up v (-sh).toNat

/-- A word as BLD reads it (R190). -/
def bldWord (up : Bool) (b w : Word) : Word :=
  let sh := bexpShift b
  if bexpSize b = 16 then packHalves (preShift up sh (loHalf w)) (preShift up sh (hiHalf w))
  else BitVec.ofInt 32 (preShift up sh w.toInt)

/-- CUR after a store of a word by BST (R190). -/
def bstCur (b w : Word) : Nat :=
  let cur := getBits b 4 0
  if bexpSize b = 16 then min cur (min (leadingSigns 16 (w.toNat % 65536)) (leadingSigns 16 (w.toNat / 65536)))
  else min cur (leadingSigns 32 w.toNat)

/-! ### SEND (R218, R270) -/

/-- The flags STALE and OVR_ANY of the inputs consumed since the previous result on a stream (R19). -/
def EngSt.marked (x : EngSt) (k : Nat) : Nat := x.marks.get k

/-- The item that SEND builds from the tag image and the payload. -/
def State.sendItem (s : State) (e : Nat) (i : Inv) (pt pp len : Nat) (useExp : Bool) : Item :=
  let x := s.eng e
  let r := x.regs
  let img := tagOf (s.dataRead e pt 32)
  let k := img.stream
  let payload := s.dataRead e pp (if len ≤ 4096 then len else 0)
  let own := x.marked k * 2 + (if r.flg.getLsbD 4 then 2 ^ flSat else 0) +
    (if s.get (R.ENG_STAT_STATE e) = 1 then 0 else 2 ^ flRnd) + (if i.flags.testBit flReplay then 2 ^ flReplay else 0)
  let keep := img.flags &&& (2 ^ flLast + 2 ^ flStale + 2 ^ flOvr + 2 ^ flQual + 2 ^ flIdem)
  { tag := { stream := k, seq := 0, ctx := i.ctx, pri := img.pri, src := s.unitId (0x100 + e), dst := img.dst
             typ := img.typ, exp := if useExp then bexpTot r.bexp else 0, flags := keep ||| own, len := len
             chk := chkOf payload, time := if img.time = 0 then s.time else img.time, zeroBad := img.zeroBad }
    payload := payload }

/-- A taken item counts as a result of its stream (R19, R203). -/
def State.resultSent (s : State) (e : Nat) (it : Item) : State :=
  let s := s.modEng e fun x => { x with marks := x.marks.out it.tag.stream, base := x.base.out it.tag.stream }
  let g : EvTag := { stream := some it.tag.stream, pri := some it.tag.pri }
  let s := (s.events (engP e) 9 1 g).netWords (e / 8) true
  if itemHas it flSat then (s.bump (R.ENG_SAT_CNT_COUNT e)).events (engP e) 10 1 g else s

/-- SEND hands its item to the scheduler: the state and the status (R218), or it waits. -/
def State.sendTake (s : State) (e : Nat) (i : Inv) (it : Item) : State × Option Nat :=
  if s.dstBad it.tag.dst then (s.refuseUnit it 1, some 1)
  else if 4096 < it.tag.len then (s, some 2)
  else if !s.hasRoomFor it then (s, none)
  else
    let r := s.takeItem it i.pri none
    if r.2 != 0 then (r.1, some 0)
    else match r.1.sendDelivered it with
      | some t => (t.resultSent e it, some 0)
      | none => (s.wakeFor it, none)

/-! ### Actions -/

/-- The value that a load of `size` bytes writes. -/
def loadedWord (up : Bool) (b : Word) (size : Nat) (sign bld : Bool) (v : Nat) : Word :=
  if bld then bldWord up b (BitVec.ofNat 32 v) else if sign then BitVec.ofInt 32 (sext (8 * size) v) else BitVec.ofNat 32 v

/-- An action is carried out: the state, and what it adds to the bundle's writes or what stops it. -/
def State.perform (s : State) (e : Nat) (found : EccOutcome) : Act → State × Except Stop Done
  | .load d n a sign pair bld =>
    let r := s.engRead e a n found
    match r.2 with
    | .error x => (r.1, .error x)
    | .ok bs =>
      let v := fromLe bs
      let up := s.bit (R.ENG_STAT_RMODE e)
      let lo : Nat × Word := (d, if pair then BitVec.ofNat 32 v else loadedWord up (s.eng e).regs.bexp n sign bld v)
      (r.1, .ok { g := if pair then [lo, (d + 1, BitVec.ofNat 32 (v / 2 ^ 32))] else [lo] })
  | .store n a v =>
    let r := s.engWrite e a (leBytes n v) found
    match r.2 with
    | some x => (r.1, .error x)
    | none => (r.1, .ok {})
  | .tapm n c x mv halves =>
    let r := s.engRead e c 4 found
    match r.2 with
    | .error y => (r.1, .error y)
    | .ok cs =>
      let q := r.1.engRead e x 4 found
      match q.2 with
      | .error y => (q.1, .error y)
      | .ok xs =>
        let cw := BitVec.ofNat 32 (fromLe cs)
        let xw := BitVec.ofNat 32 (fromLe xs)
        let p := if halves then productS cw xw else product32 0 cw xw
        let d : Done := { acc := [(n, ((s.eng e).regs.accR n).accumulate p)] }
        match mv with
        | none => (q.1, .ok d)
        | some a =>
          let t := q.1.engWrite e a xs found
          match t.2 with
          | some y => (t.1, .error y)
          | none => (t.1, .ok d)
  | .send gs pt pp len useExp =>
    match (s.eng e).run with
    | none => (s, .ok {})
    | some i =>
      let r := s.sendTake e i (s.sendItem e i pt pp len useExp)
      match r.2 with
      | none => (r.1, .error .wait)
      | some st => (r.1, .ok { g := [(gs, BitVec.ofNat 32 st)], sent := true })
  | _ => (s, .ok {})

/-! ### Writes at the end of a bundle (R176, R196, R197) -/

/-- A move into L: staged while the length is nonzero, else at once (R196). `old` is the length before the bundle. -/
def EngRegs.moveL (r : EngRegs) (old : BitVec 24) (n : Nat) (v : BitVec 24) : EngRegs :=
  if old = 0 then r.setL n v else r.setLst n (v, true)

/-- The writes of one slot but the steps and the lengths. -/
def EngRegs.writeSlot (r : EngRegs) (x : Eff) : EngRegs :=
  let r := x.g.foldl (fun r t => r.setG t.1 t.2) r
  let r := x.p.foldl (fun r t => r.setP t.1 t.2) r
  let r := x.m.foldl (fun r t => r.setM t.1 t.2) r
  let r := x.b.foldl (fun r t => r.setB t.1 t.2) r
  let r := x.acc.foldl (fun r t => r.setAcc t.1 t.2) r
  let r := x.wsel.foldl (fun r t => r.setWsel t.1 t.2) r
  { r with bexp := flgMerge r.bexp x.bexpMask x.bexp, flg := flgMerge r.flg x.flgMask x.flg }

/-- Every register write of a bundle: the steps use the values before it, the moves into L and LIMM come last. -/
def EngRegs.write (r : EngRegs) (es : List Eff) (d : Done) : EngRegs :=
  let stepped := es.foldl (fun (q : EngRegs) x => x.steps.foldl (fun q t => q.step t.1 t.2) q) r
  let q := es.foldl (fun (q : EngRegs) x => q.writeSlot x) stepped
  let q := d.g.foldl (fun (q : EngRegs) t => q.setG t.1 t.2) q
  let q := d.acc.foldl (fun (q : EngRegs) t => q.setAcc t.1 t.2) q
  let q := es.foldl (fun (q : EngRegs) x => x.l.foldl (fun q t => q.moveL (r.lR t.1) t.1 t.2) q) q
  es.foldl (fun (q : EngRegs) x => x.limm.foldl (fun q t => q.limm (r.bR t.1) t.1 t.2) q) q

/-- Where execution goes after a bundle (R193, R206, R210). -/
def EngRegs.advance (r : EngRegs) (act : Act) : EngRegs :=
  if r.rptOn then
    if r.rptPos + 1 < r.rptLen then { r with pc := r.pc + 1, rptPos := r.rptPos + 1 }
    else if 1 < r.rptCnt then { r with pc := r.rptStart, rptPos := 0, rptCnt := r.rptCnt - 1 }
    else { r with pc := r.rptStart + r.rptLen, rptOn := false, rptPos := 0, rptCnt := 0 }
  else match act with
    | .branch t => { r with pc := t }
    | .loop n len =>
      if n = 0 then { r with pc := r.pc + 1 + len }
      else { r with pc := r.pc + 1, rptOn := true, rptCnt := n, rptStart := r.pc + 1, rptLen := len, rptPos := 0 }
    | .finish => r
    | _ => { r with pc := r.pc + 1 }

/-! ### The bundle -/

/-- A translation fault, or a HOST access with the link down (R250, R254): the invocation is suspended at the bundle, and CL_EFLT
records the access. A second suspension of the engine contains it (R256, R257). -/
def State.engSuspend (s : State) (e cause va : Nat) (write : Bool) : State :=
  let x := s.eng e
  if x.susp then s.engException e 0x10
  else
    let c := e / 8
    let j := e % 8
    let lvl := match x.run with
      | some i => i.pri
      | none => 0
    let s := (s.put (R.CL_EFLT_CAUSE c j) cause).putB (R.CL_EFLT_WRITE c j) write
    let s := (s.putB (R.CL_EFLT_SUSP c j) true).put (R.CL_EFLT_PRI c j) lvl
    let s := (s.put (R.CL_EFLT_ASID c j) x.ctx).put (R.CL_EFLT_PC c j) x.regs.pc
    let s := (s.put (R.CL_EFLT_VA_LO c j) va).put (R.CL_EFLT_VA_HI c j) (va / 2 ^ 32)
    let s := (s.modEng e fun x => { x with half := none, susp := true, suspLvl := lvl, link := cause = 9 }).syncEng e
    if cause = 9 then s.raise (s.srcEflt e) 0 0x64 0
    else
      let s := (s.bump (R.CL_EFLT_CNT_COUNT c j)).event (engP e) 11
      let s := (s.put (R.ENG_LAST_EXC_CODE e) 0x10).put (R.ENG_LAST_EXC_PC e) x.regs.pc
      s.raise (s.srcEflt e) 2 0x21 cause

/-- The action of a bundle: at most one slot has one. -/
def actOf (es : List Eff) : Act :=
  es.foldl (fun a x => if x.act = .none then a else x.act) .none

/-- What the ECC finds for the bundle: the worse of its slots. -/
def eccOf (es : List Eff) : EccOutcome :=
  if es.any fun x => x.ecc = .uncorrectable then .uncorrectable
  else if es.any fun x => x.ecc = .corrected then .corrected else .clean

/-- SATS after a bundle with a SEND, which clears it (R184); where slot X of that bundle sets it, a free value. -/
def State.clearSats (s : State) (e : Nat) (es : List Eff) : State :=
  if es.any fun x => (x.flgMask &&& x.flg).getLsbD 4 then
    let d := s.draw 2
    if d.1 = 0 then d.2.modEng e fun x => { x with regs := { x.regs with flg := x.regs.flg &&& ~~~mSATS } } else d.2
  else s.modEng e fun x => { x with regs := { x.regs with flg := x.regs.flg &&& ~~~mSATS } }

/-- What a bundle does once it has completed: END and TRAP (R173, R222). -/
def State.afterBundle (s : State) (e pc : Nat) (act : Act) : State :=
  match act with
  | .finish => (s.invEnd e).feedEngine e
  | .trap imm =>
    let s := ((s.put (R.ENG_LAST_EXC_CODE e) 0x20).put (R.ENG_LAST_EXC_PC e) pc).event (engP e) 11
    s.raise (s.srcEng e) 0 0x63 imm
  | _ => s

/-- A bundle issues (R176, R206, R223): its exceptions, its action, then its writes. One that is suspended or waits stands at a
pre-emption point, where a HALT takes effect (R198, R203). -/
def State.runBundle (s : State) (e : Nat) (es : List Eff) : State :=
  let x := s.eng e
  let r := x.regs
  let stalls := es.foldl (fun n x => max n x.stalls) 0
  let cyc := (if r.rptPos = 0 then 0 else x.iter) + stalls + 1
  let s := s.modEng e fun x => { x with half := none, iter := cyc }
  if 4096 ≤ r.pc then s.engException e 7
  else
    let s := ((s.event (engP e) 2).events (engP e) 3 stalls).events (engP e) 4 (es.foldl (fun n x => n + x.products) 0)
    match lowest (bundleExc r cyc es) with
    | some c => s.engException e c
    | none =>
      let act := actOf es
      let p := s.perform e (eccOf es) act
      match p.2 with
      | .error (.exc c) => p.1.engException e c
      | .error (.susp c va w) => ((p.1.engSuspend e c va w).haltDue e).abandonDue e
      | .error .wait => (p.1.haltDue e).abandonDue e
      | .ok d =>
        let s := p.1.modEng e fun x => { x with regs := (x.regs.write es d).advance act }
        let s := if d.sent then s.clearSats e es else s
        (((s.afterBundle e r.pc act).haltDue e).abandonDue e).syncEng e

/-- An instruction issues (assumption log 13): the first slot of a bundle waits for the other one; an instruction that is not
its partner finds it alone in its bundle, with a NOP in the other slot. -/
def State.issue (s : State) (i : Issue) (f : EngRegs → Bool → Eff) : Host.Outcome State Fault Refusal :=
  let e := i.eng.val
  let k : Nat := if i.slot = .x then 0 else 1
  let mate := match (s.eng e).half with
    | some h => i.paired && h.slot != k
    | none => false
  let s := match (s.eng e).half with
    | some h => if s.engIssues e && !mate then s.runBundle e [h] else s
    | none => s
  if s.engIssues e then
    let x := f (s.eng e).regs (s.bit (R.ENG_STAT_RMODE e))
    .next (match (s.eng e).half with
      | some h => s.runBundle e (if h.slot = 0 then [h, x] else [x, h])
      | none => if i.paired then s.modEng e fun y => { y with half := some x } else s.runBundle e [x])
  else .next s

end Sys2Proof.Machine
end

