-- ==== Sys2Proof/Machine/Alu.lean ====
section
/-! DEFINITION. The ALU instructions of slot X (R210 to R213). -/

namespace Sys2Proof.Machine

/-- A result in G `d` with the FLG bits of `mask`. -/
def aluEff (i : Issue) (exc : List Nat) (d : Option (Fin 64)) (v mask flg : Word) : Eff :=
  { effOf i true false exc with
    g := match d with
      | some d => [(d.val, v)]
      | none => []
    flgMask := mask, flg := flg, flgHit := mask != 0 }

/-- .W on a function that R211 forbids it on is ILLEGAL. -/
def noW (w : Option (Fin 4)) : List Nat := if w.isSome then [1] else []

/-- A field that must be zero (R211). -/
def mustBeZero (b : Fin 64) : List Nat := if b = 0 then [] else [1]

/-- An arithmetic function of two operands: 32-bit with the flags of `mask`, or under .W on their low W bits, with V and SATS
set where the result is saturated or wrapped (R187, R211, R212). C is that of the 32-bit operation on the operands. -/
def arithEff (i : Issue) (exc : List Nat) (d : Option (Fin 64)) (w : Option (Fin 4)) (r : EngRegs) (x y : Word)
    (op : Int → Int → Int) (carry : Word → Word → Bool) (mask wmask : Word) : Eff :=
  match w with
  | none =>
    let v := op x.toInt y.toInt
    let res := BitVec.ofInt 32 v
    aluEff i exc d res mask (zncv res (carry x y) (overflows v))
  | some k =>
    let ws := r.wselR k.val
    let x := BitVec.ofInt 32 (wOperand ws x)
    let y := BitVec.ofInt 32 (wOperand ws y)
    let q := wResult ws (op x.toInt y.toInt)
    aluEff i exc d q.1 (wmask ||| flagBit 4 q.2) (zncv q.1 (carry x y) q.2 ||| flagBit 4 q.2)

/-- A function without .W whose result sets Z and N. -/
def logicEff (i : Issue) (exc : List Nat) (d : Fin 64) (v : Word) : Eff := aluEff i exc (some d) v mZN (zn v)

/-- A left shift (R211): .W saturates or wraps the exact result, by 32 to 63 as by less (DESIGN CHOICE, log 182). -/
def lslEff (i : Issue) (d : Fin 64) (w : Option (Fin 4)) (r : EngRegs) (x : Word) (k : Nat) : Eff :=
  arithEff i [] (some d) w r x 0 (fun v _ => v * 2 ^ k) (fun _ _ => false) mZN mZNV

/-- Right shifts: arithmetic, logical, and rounded (R183); 32 to 63 give sign fill or zero (R211). -/
def asrWord (x : Word) (k : Nat) : Word := BitVec.ofInt 32 (x.toInt / 2 ^ k)
def lsrWord (x : Word) (k : Nat) : Word := BitVec.ofNat 32 (x.toNat / 2 ^ k)
def asrrWord (up : Bool) (x : Word) (k : Nat) : Word := BitVec.ofInt 32 (roundShift (up && k < 32) x.toInt k)

/-- The shift amount in a register. -/
def amount (y : Word) : Nat := y.toNat % 64

/-- Both halves by `op`, wrapping, with no flags. -/
def halvesEff (i : Issue) (d : Fin 64) (w : Option (Fin 4)) (x y : Word) (op : Int → Int → Int) : Eff :=
  aluEff i (noW w) (some d) (packHalves (op (loHalf x) (loHalf y)) (op (hiHalf x) (hiHalf y))) 0 0

/-- Both halves by `op`, saturating at 16 bits; SATS is set where one saturates. -/
def halvesSatEff (i : Issue) (d : Fin 64) (w : Option (Fin 4)) (x y : Word) (op : Int → Int → Int) : Eff :=
  let lo := op (loHalf x) (loHalf y)
  let hi := op (hiHalf x) (hiHalf y)
  let sat := !fits 16 lo || !fits 16 hi
  let v := packHalves (clampInt (bottomOf 16) (topOf 16) lo) (clampInt (bottomOf 16) (topOf 16) hi)
  { aluEff i (noW w) (some d) v (flagBit 4 sat) (flagBit 4 sat) with flgHit := true }

/-- NOP (R210). -/
def execNop (i : Issue) (s : State) : Host.Outcome State Fault Refusal := s.issue i fun _ _ => effOf i true true

/-- ADD (R211). -/
def execAdd (i : Issue) (d a b : Fin 64) (w : Option (Fin 4)) (s : State) : Host.Outcome State Fault Refusal :=
  s.issue i fun r _ => arithEff i [] (some d) w r (r.gR a.val) (r.gR b.val) (· + ·) addCarry mZNCV mZNCV

/-- SUB (R211). -/
def execSub (i : Issue) (d a b : Fin 64) (w : Option (Fin 4)) (s : State) : Host.Outcome State Fault Refusal :=
  s.issue i fun r _ => arithEff i [] (some d) w r (r.gR a.val) (r.gR b.val) (· - ·) subNoBorrow mZNCV mZNCV

/-- AND (R211). -/
def execAnd (i : Issue) (d a b : Fin 64) (w : Option (Fin 4)) (s : State) : Host.Outcome State Fault Refusal :=
  s.issue i fun r _ => logicEff i (noW w) d (r.gR a.val &&& r.gR b.val)

/-- OR (R211). -/
def execOr (i : Issue) (d a b : Fin 64) (w : Option (Fin 4)) (s : State) : Host.Outcome State Fault Refusal :=
  s.issue i fun r _ => logicEff i (noW w) d (r.gR a.val ||| r.gR b.val)

/-- XOR (R211). -/
def execXor (i : Issue) (d a b : Fin 64) (w : Option (Fin 4)) (s : State) : Host.Outcome State Fault Refusal :=
  s.issue i fun r _ => logicEff i (noW w) d (r.gR a.val ^^^ r.gR b.val)

/-- ANDN (R211). -/
def execAndn (i : Issue) (d a b : Fin 64) (w : Option (Fin 4)) (s : State) : Host.Outcome State Fault Refusal :=
  s.issue i fun r _ => logicEff i (noW w) d (r.gR a.val &&& ~~~(r.gR b.val))

/-- MIN (R211). -/
def execMin (i : Issue) (d a b : Fin 64) (w : Option (Fin 4)) (s : State) : Host.Outcome State Fault Refusal :=
  s.issue i fun r _ => logicEff i (noW w) d (if (r.gR a.val).toInt ≤ (r.gR b.val).toInt then r.gR a.val else r.gR b.val)

/-- MAX (R211). -/
def execMax (i : Issue) (d a b : Fin 64) (w : Option (Fin 4)) (s : State) : Host.Outcome State Fault Refusal :=
  s.issue i fun r _ => logicEff i (noW w) d (if (r.gR b.val).toInt ≤ (r.gR a.val).toInt then r.gR a.val else r.gR b.val)

/-- ABS (R211): V tells that the result does not fit. -/
def execAbs (i : Issue) (d a b : Fin 64) (w : Option (Fin 4)) (s : State) : Host.Outcome State Fault Refusal :=
  s.issue i fun r _ =>
    arithEff i (mustBeZero b) (some d) w r (r.gR a.val) 0 (fun x _ => x.natAbs) (fun _ _ => false) mZNV mZNV

/-- NEG (R211). -/
def execNeg (i : Issue) (d a b : Fin 64) (w : Option (Fin 4)) (s : State) : Host.Outcome State Fault Refusal :=
  s.issue i fun r _ => arithEff i (mustBeZero b) (some d) w r 0 (r.gR a.val) (· - ·) subNoBorrow mZNCV mZNCV

/-- CMP (R211): SUB without the write. -/
def execCmp (i : Issue) (d a b : Fin 64) (w : Option (Fin 4)) (s : State) : Host.Outcome State Fault Refusal :=
  s.issue i fun r _ =>
    arithEff i (mustBeZero d ++ noW w) none none r (r.gR a.val) (r.gR b.val) (· - ·) subNoBorrow mZNCV mZNCV

/-- ADD.H (R211). -/
def execAddH (i : Issue) (d a b : Fin 64) (w : Option (Fin 4)) (s : State) : Host.Outcome State Fault Refusal :=
  s.issue i fun r _ => halvesEff i d w (r.gR a.val) (r.gR b.val) (· + ·)

/-- SUB.H (R211). -/
def execSubH (i : Issue) (d a b : Fin 64) (w : Option (Fin 4)) (s : State) : Host.Outcome State Fault Refusal :=
  s.issue i fun r _ => halvesEff i d w (r.gR a.val) (r.gR b.val) (· - ·)

/-- ADDS.H (R211). -/
def execAddsH (i : Issue) (d a b : Fin 64) (w : Option (Fin 4)) (s : State) : Host.Outcome State Fault Refusal :=
  s.issue i fun r _ => halvesSatEff i d w (r.gR a.val) (r.gR b.val) (· + ·)

/-- SUBS.H (R211). -/
def execSubsH (i : Issue) (d a b : Fin 64) (w : Option (Fin 4)) (s : State) : Host.Outcome State Fault Refusal :=
  s.issue i fun r _ => halvesSatEff i d w (r.gR a.val) (r.gR b.val) (· - ·)

/-- ASR (R211). -/
def execAsr (i : Issue) (d a b : Fin 64) (w : Option (Fin 4)) (s : State) : Host.Outcome State Fault Refusal :=
  s.issue i fun r _ => logicEff i (noW w) d (asrWord (r.gR a.val) (amount (r.gR b.val)))

/-- LSR (R211). -/
def execLsr (i : Issue) (d a b : Fin 64) (w : Option (Fin 4)) (s : State) : Host.Outcome State Fault Refusal :=
  s.issue i fun r _ => logicEff i (noW w) d (lsrWord (r.gR a.val) (amount (r.gR b.val)))

/-- LSL (R211). -/
def execLsl (i : Issue) (d a b : Fin 64) (w : Option (Fin 4)) (s : State) : Host.Outcome State Fault Refusal :=
  s.issue i fun r _ => lslEff i d w r (r.gR a.val) (amount (r.gR b.val))

/-- ASRR (R183, R211). -/
def execAsrr (i : Issue) (d a b : Fin 64) (w : Option (Fin 4)) (s : State) : Host.Outcome State Fault Refusal :=
  s.issue i fun r up => logicEff i (noW w) d (asrrWord up (r.gR a.val) (amount (r.gR b.val)))

/-- ASRI (R211): the amount is the B field. -/
def execAsri (i : Issue) (d a b : Fin 64) (w : Option (Fin 4)) (s : State) : Host.Outcome State Fault Refusal :=
  s.issue i fun r _ => logicEff i (noW w) d (asrWord (r.gR a.val) b.val)

/-- LSRI (R211). -/
def execLsri (i : Issue) (d a b : Fin 64) (w : Option (Fin 4)) (s : State) : Host.Outcome State Fault Refusal :=
  s.issue i fun r _ => logicEff i (noW w) d (lsrWord (r.gR a.val) b.val)

/-- LSLI (R211). -/
def execLsli (i : Issue) (d a b : Fin 64) (w : Option (Fin 4)) (s : State) : Host.Outcome State Fault Refusal :=
  s.issue i fun r _ => lslEff i d w r (r.gR a.val) b.val

/-- ASRRI (R183, R211). -/
def execAsrri (i : Issue) (d a b : Fin 64) (w : Option (Fin 4)) (s : State) : Host.Outcome State Fault Refusal :=
  s.issue i fun r up => logicEff i (noW w) d (asrrWord up (r.gR a.val) b.val)

/-- LSC (R188, R211): no flags. -/
def execLsc (i : Issue) (d a b : Fin 64) (w : Option (Fin 4)) (s : State) : Host.Outcome State Fault Refusal :=
  s.issue i fun r _ => aluEff i (mustBeZero b ++ noW w) (some d) (BitVec.ofNat 32 (leadingSigns 32 (r.gR a.val).toNat)) 0 0

/-- ADDI (R210). -/
def execAddi (i : Issue) (d a : Fin 64) (imm : BitVec 14) (s : State) : Host.Outcome State Fault Refusal :=
  s.issue i fun r _ => arithEff i [] (some d) none r (r.gR a.val) (imm.signExtend 32) (· + ·) addCarry mZNCV mZNCV

/-- ANDI (R210). -/
def execAndi (i : Issue) (d a : Fin 64) (imm : BitVec 14) (s : State) : Host.Outcome State Fault Refusal :=
  s.issue i fun r _ => logicEff i [] d (r.gR a.val &&& imm.zeroExtend 32)

/-- ORI (R210). -/
def execOri (i : Issue) (d a : Fin 64) (imm : BitVec 14) (s : State) : Host.Outcome State Fault Refusal :=
  s.issue i fun r _ => logicEff i [] d (r.gR a.val ||| imm.zeroExtend 32)

/-- XORI (R210). -/
def execXori (i : Issue) (d a : Fin 64) (imm : BitVec 14) (s : State) : Host.Outcome State Fault Refusal :=
  s.issue i fun r _ => logicEff i [] d (r.gR a.val ^^^ imm.zeroExtend 32)

/-- CMPI (R210). -/
def execCmpi (i : Issue) (d a : Fin 64) (imm : BitVec 14) (s : State) : Host.Outcome State Fault Refusal :=
  s.issue i fun r _ =>
    arithEff i (mustBeZero d) none none r (r.gR a.val) (imm.signExtend 32) (· - ·) subNoBorrow mZNCV mZNCV

/-- A quotient and whether it is one of the cases that set V and SATS (R213); a division takes 18 cycles, which bars it from a
REPEAT body (R194, R210). -/
def divEff (i : Issue) (d : Fin 64) (v : Word) (bad : Bool) : Eff :=
  { aluEff i [] (some d) v (mZNV ||| flagBit 4 bad) (zncv v false bad ||| flagBit 4 bad) with barred := true }

/-- The signed quotient of R213, and whether it is a corner. -/
def divSigned (x y : Word) : Word × Bool :=
  if y = 0 then (if x.msb then 0x80000000#32 else 0x7FFFFFFF#32, true)
  else if x.toInt = -2 ^ 31 && y.toInt = -1 then (0x7FFFFFFF#32, true)
  else (BitVec.ofInt 32 (x.toInt.tdiv y.toInt), false)

/-- The unsigned quotient of R213. -/
def divUnsigned (x y : Word) : Word × Bool :=
  if y = 0 then (0xFFFFFFFF#32, true) else (BitVec.ofNat 32 (x.toNat / y.toNat), false)

/-- DIVS (R213). -/
def execDivs (i : Issue) (d a b : Fin 64) (s : State) : Host.Outcome State Fault Refusal :=
  s.issue i fun r _ =>
    let q := divSigned (r.gR a.val) (r.gR b.val)
    divEff i d q.1 q.2

/-- DIVU (R213). -/
def execDivu (i : Issue) (d a b : Fin 64) (s : State) : Host.Outcome State Fault Refusal :=
  s.issue i fun r _ =>
    let q := divUnsigned (r.gR a.val) (r.gR b.val)
    divEff i d q.1 q.2

end Sys2Proof.Machine
end

