-- ==== Sys2Proof/Machine/Apply.lean ====
section
/-! DEFINITION. Sections that take effect: at a load (R324, R329), at the release of a girth (R315 to R317), at a warm reset (R368)
and after a fiddlehead start (R408). -/

namespace Sys2Proof.Machine

/-! ### Register records (R324) -/

/-- The pages that records write, each once, in the order in which they come. -/
def recordPages (rs : List (Nat × Nat)) : List Page :=
  rs.foldl (fun ps r => match pageOf r.1 with
    | some p => if ps.contains p then ps else ps ++ [p]
    | none => ps) []

/-- Records are applied in order, as writes by the secure owner. -/
def State.writeRecords (s : State) (rs : List (Nat × Nat)) : State :=
  rs.foldl (fun s r => s.regWrite .secure r.1 (BitVec.ofNat 32 r.2)) s

/-- The pages that records wrote are committed. -/
def State.commitRecords (s : State) (rs : List (Nat × Nat)) : State :=
  (recordPages rs).foldl (fun s p => s.commitPage .secure p) s

/-- Records applied and committed (R324). -/
def State.applyRecords (s : State) (rs : List (Nat × Nat)) : State := (s.writeRecords rs).commitRecords rs

/-- PIN_MAP as register records (R323): PIN_CFG and PIN_OWNER of each pin, then the GIO_CFG words. -/
def pinMapRecords (bs : List Byte) : List (Nat × Nat) :=
  ((List.range 256).flatMap fun k =>
    let e := bs.drop (8 * k)
    let a := pinPage (k / 8) + 0x100 + 0x40 * (k % 8)
    [(a, fromLe (e.take 4)), (a + 4, fromLe ((e.drop 4).take 1))]) ++
  (List.range 48).map fun g => (fabPage + 0x800 + 4 * g, fromLe ((bs.drop (2048 + 4 * g)).take 4))

/-! ### Sections (R323, R329 step 6) -/

/-- LEDGER_POLICY (R162, R323, R426, R427): CALVIS of every tile, and the policy reminders whose ID is new. -/
def State.applyPolicy (s : State) (bs : List Byte) : State :=
  let vis := fromLe (bs.take 1)
  let s := tiles32.foldl (fun s t => s.put (R.CAL_STAT_CALVIS t) vis) s
  (List.range 5).foldl (fun s k =>
    let r := reminderOf (fromLe ((bs.drop (4 + 12 * k)).take 12))
    if r.id = (s.reminder k).id then s else s.setReminder k r) s

/-- A section takes effect. An engine or a region whose domain is off takes its section when it starts (R408). -/
def State.applySection (s : State) (x : Section) : State :=
  match x.typ with
  | 1 => if s.domReady (domQuad ((x.target - 0x300) / 2)) then s.openRegion x else s
  | 2 => s.applyRecords ((sectionBlocks x).flatMap fun b => recordsOf b.2)
  | 3 => s.applyRecords (pinMapRecords x.payload)
  | 4 => (sectionBlocks x).foldl (fun s b =>
      let e := b.1 - 0x100
      if s.domReady (domEngine e) then (s.applyEngine e b.2).engStart e else s) s
  | 5 => s.physWrite (imageAt x.payload).1 (imageAt x.payload).2 (x.payload.drop 16)
  | 6 => s.applyPolicy x.payload
  | 7 => s.applyRecords (recordsOf x.payload)
  | _ => s

/-- The order of R329: LEDGER_POLICY, MEM_IMAGE, REG_INIT, ENGINE, FABRIC, TILE_CFG, PIN_MAP. -/
def sectionOrder : List Nat := [6, 5, 7, 4, 1, 2, 3]

/-- This device's sections of a stream, in the order in which they take effect. -/
def State.orderedSections (s : State) (img : PersStream) : List Section :=
  sectionOrder.flatMap fun k => (s.ownSections img).filter fun x => x.typ = k

/-- This device's sections of a stream take effect. -/
def State.applySections (s : State) (img : PersStream) : State :=
  (s.orderedSections img).foldl (fun s x => s.applySection x) s

/-- A load stopped at step 6 (R345): the section in progress is finished, how many were before it is a free value, engines stay
halted and no driver connects. -/
def State.applyStopped (s : State) (img : PersStream) : State :=
  let l := s.orderedSections img
  let d := s.draw (l.length + 1)
  let s := (l.take d.1).foldl (fun s x => s.applySection x) d.2
  let s := (List.range 128).foldl (fun s e => s.putB (R.ENG_STAT_HALTED e) true) s
  { s with load := { s.load with img := none } }

/-- Regions that run are put behind their girths (R332). -/
def State.girthAll (s : State) : State :=
  (List.range 8).foldl (fun s r => if s.get (R.FAB_REG_STAT_STATE r) = 1 then s.closeGirth r 2 else s) s

/-! ### Streams (R265, R299) -/

/-- A stream waits for the host's OPEN (R299); its record is due, as each is after a reset (R282). -/
def State.waitSync (s : State) (k : Nat) : State :=
  (s.modStream k fun st => { entryFields (s.strmEntry k) st with state := 4, dirty := true }).syncWait

/-- Open stream `k` at a load: base 1, but after a cold start a stream of the host is restored from the flush, or waits for the
host when that is not clean or belongs to another personality. -/
def State.loadOpen (s : State) (k digest : Nat) : State :=
  let st := entryFields (s.strmEntry k) (s.stream k)
  if !st.valid || s.entryBad k st then s
  else if !st.atHost || s.ledger.live.epoch ≤ 1 then (s.openStream k 1).1
  else if s.ledger.clean && s.ledger.digest = digest then
    match tblFind s.ledger.strRet k with
    | some r => ((s.openStream k (seqSucc r)).1.modStream k fun st => { st with retOut := r }).putB R.SCHED_SYNC_RESTORED true
    | none => (s.openStream k 1).1
  else s.waitSync k

/-- Every entry of the stream table with V = 1 opens, when the table is enabled (R265). -/
def State.openStreams (s : State) (digest : Nat) : State :=
  if s.bit R.SCHED_STRM_TBL_EN then (List.range 4096).foldl (fun s k => s.loadOpen k digest) s else s

/-- APPLY_DONE (R329 step 6): sections, streams, engines in START. A section that could not be written rejects the load, and its
engines stay halted and its regions behind their girths (R332). One that a class 4 fault or PFAIL stopped goes no further (R345). -/
def execApplyDone (written : Bool) (s : State) : Host.Outcome State Fault Refusal :=
  match s.load.img with
  | none => .next s
  | some img =>
    if s.get R.LAT_LOAD_STAT_STATE != 4 || s.load.staged.isSome then .next s
    else if s.load.stopped then .next (s.applyStopped img)
    else if !written then
      .next ((((List.range 128).foldl (fun s e => s.putB (R.ENG_STAT_HALTED e) true) s).girthAll).rejectLoad 10 s.pos)
    else
      let s := (s.applySections img).openStreams img.digest
      let s := if s.isHead then s else s.latSend 0 (.loadctl 6 s.pos 0 0)
      .next { s with load := { s.load with staged := some img } }

/-! ### LOADED (R329 step 7, R405) -/

/-- Engines with a program, quadrants with a section. -/
def State.wantsEngine (s : State) (e : Nat) : Bool := (s.stagedEngine e).isSome
def State.wantsQuad (s : State) (q : Nat) : Bool :=
  (s.stagedOf 1).any fun x => x.target = 0x300 + 2 * q || x.target = 0x301 + 2 * q

/-- A cluster has an engine that is on, or a valid entry of the stream table names its DMA unit. -/
def State.wantsCluster (s : State) (c : Nat) : Bool :=
  ((List.range 8).any fun j => s.wantsEngine (8 * c + j)) ||
    (s.bit R.SCHED_STRM_TBL_EN && (List.range 4096).any fun k =>
      let st := entryFields (s.strmEntry k) {}
      st.valid && (st.src = s.unitId (0x200 + c) || st.dst = s.unitId (0x200 + c)))

/-- An OFF of a domain that is running its quiesce is given up: the domain stays on, and its command ends FAILED (DESIGN CHOICE, assumption
log 192). -/
def State.cancelOff (s : State) (d : Nat) : State :=
  if s.pwr.offs.contains d then
    let s := (domUnits d).foldl (fun s u => s.endQuiesce (s.unitId u)) s
    ({ s with pwr := { s.pwr with offs := s.pwr.offs.erase d } } : State).pwrDone d 2
  else s

/-- A domain goes to the state that the personality gives it. A command of PWR_CMD that runs for it ends: an OFF of a domain that goes off
DONE, one that the load undoes FAILED (DESIGN CHOICE, assumption log 192). -/
def State.setDomain (s : State) (d : Nat) (want : Bool) : State :=
  if want then if s.domOn d then s.cancelOff d else s.startDomain d
  else if s.domOn d then
    let r := if s.pwr.offs.contains d then 0 else 2
    ((domUnits d).foldl (fun s u => if s.pwr.offs.contains d then s.endQuiesce (s.unitId u) else s) (s.removeDomain d)).pwrDone d r
  else s

/-- The domains at LOADED (R405); tile domains stay on. -/
def State.loadDomains (s : State) : State :=
  let cl := (List.range 16).map fun c => (domCluster c, s.wantsCluster c)
  let en := (List.range 128).map fun e => (domEngine e, s.wantsEngine e)
  let qu := (List.range 4).map fun q => (domQuad q, s.wantsQuad q)
  (en ++ cl ++ qu).foldl (fun s x => s.setDomain x.1 x.2) s

/-- Engines that start with the personality are NORMAL, their self-tests passed (R181, R329). -/
def State.enginesNormal (s : State) : State :=
  (List.range 128).foldl (fun s e =>
    if s.domReady (domEngine e) && s.get (R.ENG_STAT_STATE e) = 0 && !s.bit (R.ENG_STAT_CONTAINED e) && s.wantsEngine e then
      s.engNormal e else s) s

/-- LOADED (R329 step 7): field drivers connect under R14, and the lifetime load count increments. -/
def execLoaded (s : State) : Host.Outcome State Fault Refusal :=
  match s.load.staged with
  | none => .next s
  | some img =>
    if s.get R.LAT_LOAD_STAT_STATE = 4 && !s.load.stopped then
      let s := { s with load := { s.load with digest := img.digest } }.setLoad 5
      let s := s.count fun c => { c with loads := satSucc 32 c.loads }
      let s := s.loadDomains.enginesNormal
      .next (tiles32.foldl (fun s t => s.connectTile t) s)
    else .next s

/-! ### The release of a girth (R315 step 6) -/

/-- A tile's section takes effect at its release (R316). -/
def State.releaseTile (s : State) (t : Nat) (x : Section) : State :=
  let rs := (sectionBlocks x).flatMap fun b => recordsOf b.2
  let s := s.writeRecords rs
  let s := ({ s with fab := { s.fab with shut := s.fab.shut.erase t } } : State).commitRecords rs
  let s := s.eachPin fun s n =>
    if isOutFunc (s.func t n) && !s.bit (R.PIN_STAT_SWITCHING t n) then s.rotRelease t n else s
  let s := s.rotResume t
  if s.bit (R.TILE_ADC_CTRL_INTLV_EN t) then s.modTile t fun x => { x with intlvEnter := true }
  else if s.bit (R.TILE_ADC_CTRL_RUN t) && !s.bit (R.TILE_ADC_STAT_RUNNING t) then s.startSeq t
  else s

/-- An engine's program takes effect at its release, and it enters START (R317). -/
def State.releaseEngine (s : State) (e : Nat) (x : Section) : State :=
  let s := (sectionBlocks x).foldl (fun s b => s.applyEngine e b.2) s
  ({ s with fab := { s.fab with shut := s.fab.shut.erase (0x100 + e) } } : State).engStart e

/-- The section of the reload in progress. -/
def State.rcfgSection (s : State) : Option Section :=
  match s.rcfg.img with
  | some img => img.sections.head?
  | none => none

/-- A reload that succeeds ends the containment of its target, whose items were held until then (R319); an over-temperature tile is
released only as R75 states (R437). -/
def State.freeTarget (s : State) (u : Nat) : State :=
  if u < 0x20 && s.bit (R.TILE_TEMP_SHUTDOWN u) then s
  else
    let was := u < 0x20 && s.tileContained u
    let s := { s with contained := s.contained.erase u }
    if 0x100 ≤ u && u < 0x180 then s.putB (R.ENG_STAT_CONTAINED (u - 0x100)) false
    else if was then [0, 1].foldl (fun s k => s.putB (R.SG_STAT_RUN u k) (s.bit (R.SG_CTRL_EN u k))) s
    else s

/-- GIRTH_RELEASE (R315 step 6, R319): not while the device is in class 4; a write that failed, or PFAIL, ends FRAME_ERR. -/
def execGirthRelease (written : Bool) (s : State) : Host.Outcome State Fault Refusal :=
  if s.bit R.FAB_RCFG_STAT_BUSY && s.rcfg.girth && !s.bit R.FLT_STAT_C4 then
    match s.rcfgSection with
    | none => .next s.frameErr
    | some x =>
      if !written || s.flt.pfail then .next s.frameErr
      else
        let u := s.rcfg.target
        let k := s.rcfg.index
        let dt := s.time - s.rcfg.since
        let s := s.freeTarget u
        let s := if s.rcfg.kind = 0 then s.openRegion x else if s.rcfg.kind = 1 then s.releaseTile k x else s.releaseEngine k x
        .next (((s.put R.FAB_RCFG_GIRTH_TIME dt).endReload 0).endQuiesce (s.unitId u))
  else .next s

/-! ### The end of a warm reset (R368 step 5) -/

/-- Streams of class D between units open again with base 1, since their items are lost (R298). -/
def State.reopenD (s : State) : State :=
  s.sched.streams.foldl (fun s e => if e.2.isD && e.2.state != 0 then (s.openStream e.1 1).1 else s) s

/-- The staged personality is applied again, and engines reach NORMAL. -/
def State.reapply (s : State) (img : PersStream) : State := (s.applySections img).reopenD.enginesNormal

/-- Tiles apply their stored coefficients again (R158), and show the standing of their records (R151, R167). -/
def State.restoreTiles (s : State) : State :=
  tiles32.foldl (fun s t => (if s.domReady (domConv t) then s.convReady t else s.loadSets t).showSelf t) s

/-- What ends a warm reset whatever it found: tiles apply their stored coefficients, rings are read again, every record is due, the units
work again. A cause of class 4 that stands keeps the device in it. -/
def State.warmEnd (s : State) : State :=
  let s := s.restoreTiles
  let s := { s with host := { s.host with warm := 0 }, sched := { s.sched with stopped := false, quiesce := [] } }
  let s := if s.hostReady then s.readLines else s
  let s := (s.bump R.SCHED_WARM).dirtyAll
  let s := s.putB R.YDVSEC_RESET_STAT_BUSY false
  let s := s.eachTilePin fun s t n => s.syncDout t n
  let causes := s.flt.c4Causes
  let s := causes.reverse.foldl (fun (s : State) c => s.enterC4 c s.mgmtId s.pos) { s with flt := { s.flt with c4Causes := [] } }
  if s.flt.safeN then s.raise (s.srcDev 0x16) 4 0x60 0 else s

/-- WARM_RESET_REAPPLY (R368 step 5): `hashOk` says that the staged copy passes its hash check. -/
def execWarmResetReapply (hashOk : Bool) (s : State) : Host.Outcome State Fault Refusal :=
  .next (if s.host.warm != 4 then s
    else match s.load.staged with
      | none => s.warmEnd
      | some img =>
        if s.get R.LAT_LOAD_STAT_STATE != 5 then s.warmEnd
        else if !hashOk then s.warmEnd.rejectLoad 8 s.pos
        else (s.reapply img).warmEnd)

/-! ### The end of a fiddlehead start (R407 step 4, R408) -/

/-- FIDDLEHEAD_READY (R407, R408): commits that waited for the unit take place, and a command that started it is done. -/
def execFiddleheadReady (d : Fin 212) (s : State) : Host.Outcome State Fault Refusal :=
  .next (if tblFind s.pwr.starts d = some 3 then ((s.domainReady d).commitDeferred).pwrDone d 0 else s)

end Sys2Proof.Machine
end

