-- ==== Sys2Proof/Machine/Control.lean ====
section
/-! DEFINITION. Branches, REPEAT, SEND, END, FENCE and TRAP (R193, R206, R210, R217, R218, R220, R222). -/

namespace Sys2Proof.Machine

/-- A slot Y instruction that a REPEAT body bars (R194). -/
def controlEff (i : Issue) (exc : List Nat) (act : Act) : Eff := { effOf i false true exc with act := act, barred := true }

/-- B_COND (R217). -/
def execBCond (i : Issue) (cond : Fin 16) (tgt : Fin 4096) (s : State) : Host.Outcome State Fault Refusal :=
  s.issue i fun r _ =>
    match condition r.flg cond.val with
    | none => controlEff i [1] .none
    | some taken => controlEff i [] (if taken then .branch tgt.val else .none)

/-- JAL (R210): Gd holds the index of the next bundle. -/
def execJal (i : Issue) (d : Fin 64) (tgt : Fin 4096) (s : State) : Host.Outcome State Fault Refusal :=
  s.issue i fun r _ => { controlEff i [] (.branch tgt.val) with g := [(d.val, BitVec.ofNat 32 (r.pc + 1))] }

/-- JR (R210). -/
def execJr (i : Issue) (g : Fin 64) (s : State) : Host.Outcome State Fault Refusal :=
  s.issue i fun r _ => controlEff i [] (.branch ((r.gR g.val).toNat % 4096))

/-- The iterations of a REPEAT (R193, R220): CNT + 1, or a G register modulo 8,192 and at most 4,096. -/
def repeatCount (r : EngRegs) (reg : Bool) (cnt : BitVec 12) : Nat :=
  if reg then min 4096 ((r.gR (cnt.toNat % 64)).toNat % 8192) else cnt.toNat + 1

/-- REPEAT (R193, R220). -/
def execRepeatB (i : Issue) (s : Bool) (k : Fin 64) (cnt : BitVec 12) (st : State) : Host.Outcome State Fault Refusal :=
  st.issue i fun r _ =>
    controlEff i (if s && 64 ≤ cnt.toNat then [1] else []) (.loop (repeatCount r s cnt) (k.val + 1))

/-- SEND (R218). -/
def execSend (i : Issue) (gs : Fin 64) (pt pp : Fin 16) (gl : Fin 64) (e : Bool) (s : State) :
    Host.Outcome State Fault Refusal :=
  s.issue i fun r _ =>
    { controlEff i [] (.send gs.val (r.pR pt.val).toNat (r.pR pp.val).toNat (r.gR gl.val).toNat e) with gAct := [gs.val] }

/-- END (R173, R210). Every access outside data memory completes within its own bundle, so END waits for none. -/
def execEndInv (i : Issue) (s : State) : Host.Outcome State Fault Refusal := s.issue i fun _ _ => controlEff i [] .finish

/-- FENCE (R210): every earlier access outside data memory has completed with its own bundle. -/
def execFence (i : Issue) (s : State) : Host.Outcome State Fault Refusal := s.issue i fun _ _ => controlEff i [] .fence

/-- TRAP (R222). -/
def execTrap (i : Issue) (imm : BitVec 16) (s : State) : Host.Outcome State Fault Refusal :=
  s.issue i fun _ _ => { effOf i false true with act := .trap imm.toNat }

end Sys2Proof.Machine
end

