-- ==== Sys2Proof/Machine/LoadStore.lean ====
section
/-! DEFINITION. The loads, stores and TAPM (R190, R192, R210, R216, R219). -/

namespace Sys2Proof.Machine

/-- A load of `size` bytes into G `g`, and into G `g` + 1 for a pair. -/
def loadEff (i : Issue) (r : EngRegs) (g : Fin 64) (m : MemAddr) (size : Nat) (sign pair bld : Bool) : Eff :=
  let a := r.address m
  let odd := pair && g.val % 2 = 1
  { effOf i false true (a.exc ++ (if odd then [4] else [])) with
    steps := a.steps, act := .load g.val size a.va sign pair bld
    gAct := if pair && !odd then [g.val, g.val + 1] else [g.val]
    bexpKind := if bld then 4 else 0 }

/-- A store of `size` bytes of `v`. -/
def storeEff (i : Issue) (r : EngRegs) (m : MemAddr) (exc : List Nat) (size v : Nat) : Eff :=
  let a := r.address m
  { effOf i false true (a.exc ++ exc) with steps := a.steps, act := .store size a.va v }

/-- LD (R216). -/
def execLd (i : Issue) (g : Fin 64) (m : MemAddr) (s : State) : Host.Outcome State Fault Refusal :=
  s.issue i fun r _ => loadEff i r g m 4 false false false

/-- LDH (R216). -/
def execLdh (i : Issue) (g : Fin 64) (m : MemAddr) (s : State) : Host.Outcome State Fault Refusal :=
  s.issue i fun r _ => loadEff i r g m 2 true false false

/-- LDHU (R216). -/
def execLdhu (i : Issue) (g : Fin 64) (m : MemAddr) (s : State) : Host.Outcome State Fault Refusal :=
  s.issue i fun r _ => loadEff i r g m 2 false false false

/-- LDB (R216). -/
def execLdb (i : Issue) (g : Fin 64) (m : MemAddr) (s : State) : Host.Outcome State Fault Refusal :=
  s.issue i fun r _ => loadEff i r g m 1 true false false

/-- LDBU (R216). -/
def execLdbu (i : Issue) (g : Fin 64) (m : MemAddr) (s : State) : Host.Outcome State Fault Refusal :=
  s.issue i fun r _ => loadEff i r g m 1 false false false

/-- LDD (R216): the low word to Gd, the high word to Gd + 1. -/
def execLdd (i : Issue) (g : Fin 64) (m : MemAddr) (s : State) : Host.Outcome State Fault Refusal :=
  s.issue i fun r _ => loadEff i r g m 8 false true false

/-- ST (R216). -/
def execSt (i : Issue) (g : Fin 64) (m : MemAddr) (s : State) : Host.Outcome State Fault Refusal :=
  s.issue i fun r _ => storeEff i r m [] 4 (r.gR g.val).toNat

/-- STH (R216). -/
def execSth (i : Issue) (g : Fin 64) (m : MemAddr) (s : State) : Host.Outcome State Fault Refusal :=
  s.issue i fun r _ => storeEff i r m [] 2 (r.gR g.val).toNat

/-- STB (R216). -/
def execStb (i : Issue) (g : Fin 64) (m : MemAddr) (s : State) : Host.Outcome State Fault Refusal :=
  s.issue i fun r _ => storeEff i r m [] 1 (r.gR g.val).toNat

/-- STD (R216): Gs, then Gs + 1. -/
def execStd (i : Issue) (g : Fin 64) (m : MemAddr) (s : State) : Host.Outcome State Fault Refusal :=
  s.issue i fun r _ =>
    storeEff i r m (if g.val % 2 = 1 then [4] else []) 8 ((r.gR g.val).toNat + (r.gR (g.val + 1)).toNat * 2 ^ 32)

/-- BLD (R190): each element is shifted by SHIFT. -/
def execBld (i : Issue) (g : Fin 64) (m : MemAddr) (s : State) : Host.Outcome State Fault Refusal :=
  s.issue i fun r _ => loadEff i r g m 4 false false true

/-- BST (R190): CUR takes the lowest leading-sign count of the elements. -/
def execBst (i : Issue) (g : Fin 64) (m : MemAddr) (s : State) : Host.Outcome State Fault Refusal :=
  s.issue i fun r _ =>
    let x := storeEff i r m [] 4 (r.gR g.val).toNat
    { x with bexpKind := 5, bexpMask := 0x1F, bexp := BitVec.ofNat 32 (bstCur r.bexp (r.gR g.val)) }

/-- TAPM (R192, R219), which fills both slots: a word of it with another partner is ILLEGAL. -/
def execTapm (i : Issue) (n : Fin 8) (pc pd : Fin 16) (v : Fin 4) (s : State) : Host.Outcome State Fault Refusal :=
  s.issue i fun r _ =>
    let c := pc.val
    let d := pd.val
    let back := (r.stepOf d (-(r.mR d).toInt)).1.toNat
    let exc := (if v.val = 3 || i.paired then [1] else []) ++ (if c = d then [3] else [])
    { effOf i true false exc with
      steps := [(c, (r.mR c).toInt), (d, (r.mR d).toInt)]
      act := .tapm n.val (r.pR c).toNat (r.pR d).toNat (if v.val = 0 then some back else none) (v.val = 2)
      accAct := [n.val], products := if v.val = 2 then 2 else 1 }

end Sys2Proof.Machine
end

