-- ==== Sys2Proof/Machine/MacOps.lean ====
section
/-! DEFINITION. Multiply-accumulate, write-back and block-exponent instructions of slot X (R178 to R180, R186, R190, R214). -/

namespace Sys2Proof.Machine

/-- Products accumulated into accumulators: each target with its exact term (R180, R214). -/
def macEff (i : Issue) (exc : List Nat) (r : EngRegs) (sub z : Bool) (n : Nat) (terms : List (Nat × Int)) : Eff :=
  { effOf i true false exc with
    acc := terms.map fun t => (t.1, (r.accR t.1).multiply sub z t.2)
    products := n }

/-- MAC (R178, R179, R214). -/
def execMac (i : Issue) (n : Fin 8) (a b : Fin 64) (form : Fin 8) (sub z : Bool) (s : State) :
    Host.Outcome State Fault Refusal :=
  s.issue i fun r _ =>
    let x := r.gR a.val
    let y := r.gR b.val
    match form.val with
    | 3 => macEff i [1] r sub z 0 []
    | 4 =>
      macEff i (if n.val % 2 = 1 then [4] else []) r sub z 2
        [(n.val, loHalf x * loHalf y), (n.val + 1, hiHalf x * hiHalf y)]
    | 5 => macEff i [] r sub z 2 [(n.val, productS x y)]
    | 6 => macEff i [] r sub z 2 [(n.val, productSN x y)]
    | 7 => macEff i [] r sub z 2 [(n.val, productX x y)]
    | f => macEff i [] r sub z 1 [(n.val, product32 f x y)]

/-- MAC2 (R214): .2, .1 and .H4; under .1 a Z clears both target accumulators. -/
def execMac2 (i : Issue) (np : Fin 4) (ap bp : Fin 32) (mode : Fin 4) (sub z : Bool) (sgn : Fin 4) (s : State) :
    Host.Outcome State Fault Refusal :=
  s.issue i fun r _ =>
    let n := 2 * np.val
    let a0 := r.gR (2 * ap.val)
    let a1 := r.gR (2 * ap.val + 1)
    let b0 := r.gR (2 * bp.val)
    let b1 := r.gR (2 * bp.val + 1)
    let bad := if mode.val = 3 || (mode.val < 2 && sgn.val = 3) then [1] else []
    let p0 := product32 sgn.val a0 b0
    let p1 := product32 sgn.val a1 b1
    match mode.val with
    | 0 => macEff i bad r sub z 2 [(n, p0), (n + 1, p1)]
    | 1 =>
      let x := macEff i bad r sub z 2 [(n, p0 + p1)]
      { x with acc := x.acc ++ (if z then [(n + 1, {})] else []), accAct := [n + 1] }
    | 2 => macEff i bad r sub z 4 [(n, productS a0 b0), (n + 1, productS a1 b1)]
    | _ => macEff i bad r sub z 0 []

/-- CMAC (R214). -/
def execCmac (i : Issue) (np : Fin 4) (a b : Fin 64) (conj sub z : Bool) (s : State) : Host.Outcome State Fault Refusal :=
  s.issue i fun r _ =>
    let n := 2 * np.val
    let x := r.gR a.val
    let y := r.gR b.val
    macEff i [] r sub z 4 (if conj then
      [(n, productS x y), (n + 1, loHalf x * hiHalf y - hiHalf x * loHalf y)]
    else [(n, productSN x y), (n + 1, productX x y)])

/-- CLR (R210). -/
def execClr (i : Issue) (mask : BitVec 8) (s : State) : Host.Outcome State Fault Refusal :=
  s.issue i fun _ _ =>
    { effOf i true false with acc := ((List.range 8).filter fun k => mask.getLsbD k).map fun k => (k, {}) }

/-- A write-back of accumulators `accs`, cleared afterwards by .C (R186). -/
def wbEff (i : Issue) (exc : List Nat) (d : Fin 64) (v : Word) (sat : Bool) (accs : List Nat) (c : Bool) : Eff :=
  { effOf i true false exc with
    g := [(d.val, v)]
    acc := if c then accs.map fun k => (k, {}) else []
    flgMask := flagBit 4 sat, flg := flagBit 4 sat, flgHit := true }

/-- WB (R186). -/
def execWb (i : Issue) (d : Fin 64) (n : Fin 8) (k : Fin 4) (c : Bool) (s : State) : Host.Outcome State Fault Refusal :=
  s.issue i fun r up =>
    let q := writeBack 32 up (r.accR n.val) (r.wselR k.val)
    wbEff i [] d (BitVec.ofInt 32 q.1) q.2 [n.val] c

/-- WBP (R186, R214): two accumulators into the halves. -/
def execWbp (i : Issue) (d : Fin 64) (n : Fin 8) (k : Fin 4) (c : Bool) (s : State) : Host.Outcome State Fault Refusal :=
  s.issue i fun r up =>
    let ws := r.wselR k.val
    let q0 := writeBack 16 up (r.accR n.val) ws
    let q1 := writeBack 16 up (r.accR (n.val + 1)) ws
    wbEff i (if n.val % 2 = 1 then [4] else []) d (packHalves q0.1 q1.1) (q0.2 || q1.2) [n.val, n.val + 1] c

/-! ### Block exponent (R189, R190) -/

/-- The bits of SHIFT, TOT and TSAT in BEXP, and CUR. -/
def mSHIFT : Word := 0x00003F00
def mTOT : Word := 0x00FF0000
def mTSAT : Word := 0x01000000
def mCUR : Word := 0x0000001F

/-- An instruction that writes bits of BEXP. -/
def bexpEff (i : Issue) (kind : Nat) (mask v : Word) (sat : Bool) (hit : Bool) : Eff :=
  { effOf i true false with
    bexpMask := mask, bexp := v, bexpKind := kind
    flgMask := flagBit 4 sat, flg := flagBit 4 sat, flgHit := hit }

/-- TOT set to `t`, which saturates to -128 to 127, with `m` and `v` the other bits written: then TSAT and SATS are set. -/
def totEff (i : Issue) (t : Int) (m v : Word) : Eff :=
  let sat := !fits 8 t
  let tot : Word := BitVec.ofNat 32 (lowBits 8 (clampInt (-128) 127 t) * 2 ^ 16)
  bexpEff i 2 (m ||| mTOT ||| (if sat then mTSAT else 0)) (v ||| tot ||| mTSAT) sat true

/-- BINIT (R190). -/
def execBinit (i : Issue) (s : State) : Host.Outcome State Fault Refusal :=
  s.issue i fun _ _ => bexpEff i 2 (mTOT ||| mSHIFT ||| mTSAT) 0 false false

/-- BBEGIN (R190). -/
def execBbegin (i : Issue) (s : State) : Host.Outcome State Fault Refusal :=
  s.issue i fun r _ => bexpEff i 3 mCUR (if bexpSize r.bexp = 16 then 15 else 31) false false

/-- BEND (R190): SHIFT = CUR - HEAD, TOT = TOT - SHIFT. -/
def execBend (i : Issue) (s : State) : Host.Outcome State Fault Refusal :=
  s.issue i fun r _ =>
    let sh : Int := (getBits r.bexp 4 0 : Int) - (getBits r.bexp 7 6 : Int)
    totEff i (bexpTot r.bexp - sh) mSHIFT (BitVec.ofNat 32 (lowBits 6 sh * 2 ^ 8))

/-- BADJ (R190): TOT = TOT + imm. -/
def execBadj (i : Issue) (imm : BitVec 8) (s : State) : Host.Outcome State Fault Refusal :=
  s.issue i fun r _ => totEff i (bexpTot r.bexp + imm.toInt) 0 0

end Sys2Proof.Machine
end

