-- ==== Sys2Proof/Machine/Moves.lean ====
section
/-! DEFINITION. The move instructions of both slots (R196, R208, R210, R215). -/

namespace Sys2Proof.Machine

/-- The write of `v` into a register by a move: an accumulator loses its sticky bits, and of WSEL, BEXP and FLG only the
writable bits change (R215). RPT and PC are read-only. -/
def moveEff (i : Issue) (r : EngRegs) (dst : Reg) (v : Int) : Eff :=
  let x := effOf i true true
  match dst with
  | .g n => { x with g := [(n, BitVec.ofInt 32 v)] }
  | .p n => { x with p := [(n, BitVec.ofInt 48 v)] }
  | .m n => { x with m := [(n, BitVec.ofInt 32 v)] }
  | .l n => { x with l := [(n, BitVec.ofInt 24 v)] }
  | .b n => { x with b := [(n, BitVec.ofInt 48 v)] }
  | .acc n => { x with acc := [(n, { v := BitVec.ofInt 72 v })] }
  | .wsel n => { x with wsel := [(n, flgMerge (r.wselR n) wselRw (BitVec.ofInt 32 v))] }
  | .bexp => { x with bexpMask := bexpRw, bexp := BitVec.ofInt 32 v, bexpKind := 1 }
  | .flg => { x with flgMask := flgRw, flg := BitVec.ofInt 32 v, flgHit := true }
  | _ => effOf i true true [4]

/-- `old` with bits `hi` down to `lo` taken from `v`. -/
def splice (old hi lo v : Nat) : Int := (old - natBits old hi lo * 2 ^ lo + v % 2 ^ (hi + 1 - lo) * 2 ^ lo : Nat)

/-- A move into the register with a number; a reserved number is ILLEGAL (R222). -/
def moveTo (i : Issue) (k : BitVec 8) (f : Reg → Eff) : Eff :=
  match regOf k with
  | none => effOf i true true [1]
  | some d => f d

/-- MOVI (R210). -/
def execMovi (i : Issue) (r : BitVec 8) (imm : BitVec 18) (s : State) : Host.Outcome State Fault Refusal :=
  s.issue i fun q _ => moveTo i r fun d => moveEff i q d imm.toInt

/-- MOVIU (R210): bits 31:14, the others kept. -/
def execMoviu (i : Issue) (r : BitVec 8) (imm : BitVec 18) (s : State) : Host.Outcome State Fault Refusal :=
  s.issue i fun q _ => moveTo i r fun d => moveEff i q d (splice (q.read d) 31 14 imm.toNat)

/-- MOVIX (R210): bits 47:32 of a pointer or base. -/
def execMovix (i : Issue) (r : BitVec 8) (imm : BitVec 18) (s : State) : Host.Outcome State Fault Refusal :=
  s.issue i fun q _ => moveTo i r fun d =>
    let x := match d with
      | .p _ => moveEff i q d (splice (q.read d) 47 32 imm.toNat)
      | .b _ => moveEff i q d (splice (q.read d) 47 32 imm.toNat)
      | _ => effOf i true true [4]
    if imm.toNat < 0x10000 then x else { x with exc := 1 :: x.exc }

/-- LIMM (R196): an immediate, or bits 23:0 of a G register. -/
def execLimm (i : Issue) (n : Fin 16) (s : Bool) (imm : BitVec 21) (st : State) : Host.Outcome State Fault Refusal :=
  st.issue i fun r _ =>
    let v : BitVec 24 := if s then (r.gR (imm.toNat % 64)).truncate 24 else imm.zeroExtend 24
    { effOf i true true (if s && 64 ≤ imm.toNat then [1] else []) with limm := [(n.val, v)] }

/-- The value that MOV writes (R215), as bits of the destination; none for a combination that the table does not hold. -/
def movValue (r : EngRegs) (part : Nat) (dst src : Reg) : Option Int :=
  let v := r.read src
  let old := r.read dst
  let word : Int := (BitVec.ofNat 32 v).toInt
  match part with
  | 0 =>
    match src with
    | .g _ =>
      match dst with
      | .rpt => none
      | .pc => none
      | _ => some word
    | _ =>
      match dst, src with
      | .g _, _ => some (v : Int)
      | .p _, .p _ => some (v : Int)
      | .p _, .b _ => some (v : Int)
      | .b _, .p _ => some (v : Int)
      | .b _, .b _ => some (v : Int)
      | .acc _, .acc _ => some (v : Int)
      | _, _ => none
  | 1 =>
    match dst, src with
    | .p _, .g _ => some (splice old 47 32 v)
    | .b _, .g _ => some (splice old 47 32 v)
    | .g _, .p _ => some (natBits v 47 32 : Nat)
    | .g _, .b _ => some (natBits v 47 32 : Nat)
    | .g _, .acc _ => some (natBits v 63 32 : Nat)
    | .acc _, .g _ => some (splice old 63 32 v)
    | _, _ => none
  | 2 =>
    match dst, src with
    | .g _, .acc n => some (natBits v 71 64 + (r.accR n).aov.toNat * 2 ^ 8 + (r.accR n).dir.toNat * 2 ^ 9 : Nat)
    | .acc _, .g _ => some (splice old 71 64 v)
    | _, _ => none
  | _ => none

/-- MOV (R215). -/
def execMov (i : Issue) (dst src : BitVec 8) (part : Fin 4) (s : State) : Host.Outcome State Fault Refusal :=
  s.issue i fun r _ =>
    if part.val = 3 then effOf i true true [1]
    else match regOf dst, regOf src with
      | some d, some c =>
        match movValue r part.val d c with
        | some v => moveEff i r d v
        | none => effOf i true true [4]
      | _, _ => effOf i true true [1]

end Sys2Proof.Machine
end

