-- ==== Sys2Proof/Machine/Dispatch.lean ====
section
/-! DEFINITION. `exec`: one arm for each command, each a direct call of its meaning. -/

namespace Sys2Proof.Machine

/-- The effect of a command on everything but the queue. -/
def exec (i : Instr) (s : State) : Host.Outcome State Fault Refusal :=
  match i with
  | .registerWrite w a v => Sys2Proof.Machine.execRegisterWrite w a v s
  | .bar0BadAccess write off => Sys2Proof.Machine.execBar0BadAccess write off s
  | .bar2Access off op => Sys2Proof.Machine.execBar2Access off op s
  | .pageCommit w pg => Sys2Proof.Machine.execPageCommit w pg s
  | .commitEffective pg => Sys2Proof.Machine.execCommitEffective pg s
  | .pageDiscard w pg => Sys2Proof.Machine.execPageDiscard w pg s
  | .pageLock w pg => Sys2Proof.Machine.execPageLock w pg s
  | .pageOwnerWrite w pg code => Sys2Proof.Machine.execPageOwnerWrite w pg code s
  | .irqPendClear w pg mask => Sys2Proof.Machine.execIrqPendClear w pg mask s
  | .pinsOutWrite w t v => Sys2Proof.Machine.execPinsOutWrite w t v s
  | .pinsOutSet w t v => Sys2Proof.Machine.execPinsOutSet w t v s
  | .pinsOutClr w t v => Sys2Proof.Machine.execPinsOutClr w t v s
  | .pinsOeWrite w t v => Sys2Proof.Machine.execPinsOeWrite w t v s
  | .pinFltClear w t n mask => Sys2Proof.Machine.execPinFltClear w t n mask s
  | .pinEstTimeRead t n => Sys2Proof.Machine.execPinEstTimeRead t n s
  | .functionAttach t n => Sys2Proof.Machine.execFunctionAttach t n s
  | .pinStateChange c => Sys2Proof.Machine.execPinStateChange c s
  | .dinDebounce t n => Sys2Proof.Machine.execDinDebounce t n s
  | .dout24Trip t n => Sys2Proof.Machine.execDout24Trip t n s
  | .overloadStart t n => Sys2Proof.Machine.execOverloadStart t n s
  | .overloadEnd t n => Sys2Proof.Machine.execOverloadEnd t n s
  | .pilotEstimate t n est => Sys2Proof.Machine.execPilotEstimate t n est s
  | .shortTExpiry t n c => Sys2Proof.Machine.execShortTExpiry t n c s
  | .reversedPolarity t n => Sys2Proof.Machine.execReversedPolarity t n s
  | .v24Reversed => Sys2Proof.Machine.execV24Reversed s
  | .v24ReverseClear => Sys2Proof.Machine.execV24ReverseClear s
  | .criterionClear t n c => Sys2Proof.Machine.execCriterionClear t n c s
  | .senseTrip t n => Sys2Proof.Machine.execSenseTrip t n s
  | .senseTripClear w t n => Sys2Proof.Machine.execSenseTripClear w t n s
  | .snReclose t n => Sys2Proof.Machine.execSnReclose t n s
  | .laneSwitchClose t => Sys2Proof.Machine.execLaneSwitchClose t s
  | .laneProtection t lane => Sys2Proof.Machine.execLaneProtection t lane s
  | .laneProtClear w t c => Sys2Proof.Machine.execLaneProtClear w t c s
  | .laneReconnect t c => Sys2Proof.Machine.execLaneReconnect t c s
  | .refCheck t dev zero => Sys2Proof.Machine.execRefCheck t dev zero s
  | .tempReading t temp => Sys2Proof.Machine.execTempReading t temp s
  | .tileRestart w t => Sys2Proof.Machine.execTileRestart w t s
  | .tileTempMaxRead t => Sys2Proof.Machine.execTileTempMaxRead t s
  | .seqPass t convs => Sys2Proof.Machine.execSeqPass t convs s
  | .passBoundaryApply t => Sys2Proof.Machine.execPassBoundaryApply t s
  | .adcTrigger t => Sys2Proof.Machine.execAdcTrigger t s
  | .adcTrigStart w t => Sys2Proof.Machine.execAdcTrigStart w t s
  | .frameEmit t out => Sys2Proof.Machine.execFrameEmit t out s
  | .decimatorOutput t d => Sys2Proof.Machine.execDecimatorOutput t d s
  | .intlvEntry t => Sys2Proof.Machine.execIntlvEntry t s
  | .intlvExit t => Sys2Proof.Machine.execIntlvExit t s
  | .outCodeWrite w t n code => Sys2Proof.Machine.execOutCodeWrite w t n code s
  | .setpointExecute t => Sys2Proof.Machine.execSetpointExecute t s
  | .pinsOutExecute t => Sys2Proof.Machine.execPinsOutExecute t s
  | .slewStep t n => Sys2Proof.Machine.execSlewStep t n s
  | .deglitchHoldEnd t n => Sys2Proof.Machine.execDeglitchHoldEnd t n s
  | .outWdogExpiry t n => Sys2Proof.Machine.execOutWdogExpiry t n s
  | .faultHoldClear w t n => Sys2Proof.Machine.execFaultHoldClear w t n s
  | .rangeChangeDisconnect t n => Sys2Proof.Machine.execRangeChangeDisconnect t n s
  | .rangeChangeReconnect t n => Sys2Proof.Machine.execRangeChangeReconnect t n s
  | .sgResync t k => Sys2Proof.Machine.execSgResync t k s
  | .sgAmpPhaseApply t k => Sys2Proof.Machine.execSgAmpPhaseApply t k s
  | .selfCalGroup g => Sys2Proof.Machine.execSelfCalGroup g s
  | .selfCalDone t r => Sys2Proof.Machine.execSelfCalDone t r s
  | .calReqTileIn w t => Sys2Proof.Machine.execCalReqTileIn w t s
  | .calReqConvA w t => Sys2Proof.Machine.execCalReqConvA w t s
  | .calReqConvB w t => Sys2Proof.Machine.execCalReqConvB w t s
  | .calReqFrontEnd w t ch => Sys2Proof.Machine.execCalReqFrontEnd w t ch s
  | .calReqSpare w t => Sys2Proof.Machine.execCalReqSpare w t s
  | .capture0 w t => Sys2Proof.Machine.execCapture0 w t s
  | .capture1 w t => Sys2Proof.Machine.execCapture1 w t s
  | .cancel w t => Sys2Proof.Machine.execCancel w t s
  | .clearLost w t => Sys2Proof.Machine.execClearLost w t s
  | .captureDone t => Sys2Proof.Machine.execCaptureDone t s
  | .calLedgerCommitDone t ok => Sys2Proof.Machine.execCalLedgerCommitDone t ok s
  | .calWait1Timeout t => Sys2Proof.Machine.execCalWait1Timeout t s
  | .captureTmo t => Sys2Proof.Machine.execCaptureTmo t s
  | .calRampStep t ch => Sys2Proof.Machine.execCalRampStep t ch s
  | .calRotNow w t => Sys2Proof.Machine.execCalRotNow w t s
  | .rotationPeriod t => Sys2Proof.Machine.execRotationPeriod t s
  | .rotationFollow t spareOk => Sys2Proof.Machine.execRotationFollow t spareOk s
  | .rotationHandover t => Sys2Proof.Machine.execRotationHandover t s
  | .rotationTakeover t => Sys2Proof.Machine.execRotationTakeover t s
  | .invocationStart e => Sys2Proof.Machine.execInvocationStart e s
  | .preemption e faulty => Sys2Proof.Machine.execPreemption e faulty s
  | .invocationResume e faulty => Sys2Proof.Machine.execInvocationResume e faulty s
  | .inbufApply e => Sys2Proof.Machine.execInbufApply e s
  | .selfTestDone e pass => Sys2Proof.Machine.execSelfTestDone e pass s
  | .engHalt w e => Sys2Proof.Machine.execEngHalt w e s
  | .engResume w e => Sys2Proof.Machine.execEngResume w e s
  | .engTest w e => Sys2Proof.Machine.execEngTest w e s
  | .engPreMaxRead e => Sys2Proof.Machine.execEngPreMaxRead e s
  | .nop iss => Sys2Proof.Machine.execNop iss s
  | .add iss d a b w => Sys2Proof.Machine.execAdd iss d a b w s
  | .sub iss d a b w => Sys2Proof.Machine.execSub iss d a b w s
  | .and iss d a b w => Sys2Proof.Machine.execAnd iss d a b w s
  | .or iss d a b w => Sys2Proof.Machine.execOr iss d a b w s
  | .xor iss d a b w => Sys2Proof.Machine.execXor iss d a b w s
  | .andn iss d a b w => Sys2Proof.Machine.execAndn iss d a b w s
  | .min iss d a b w => Sys2Proof.Machine.execMin iss d a b w s
  | .max iss d a b w => Sys2Proof.Machine.execMax iss d a b w s
  | .abs iss d a b w => Sys2Proof.Machine.execAbs iss d a b w s
  | .neg iss d a b w => Sys2Proof.Machine.execNeg iss d a b w s
  | .cmp iss d a b w => Sys2Proof.Machine.execCmp iss d a b w s
  | .addH iss d a b w => Sys2Proof.Machine.execAddH iss d a b w s
  | .subH iss d a b w => Sys2Proof.Machine.execSubH iss d a b w s
  | .addsH iss d a b w => Sys2Proof.Machine.execAddsH iss d a b w s
  | .subsH iss d a b w => Sys2Proof.Machine.execSubsH iss d a b w s
  | .asr iss d a b w => Sys2Proof.Machine.execAsr iss d a b w s
  | .lsr iss d a b w => Sys2Proof.Machine.execLsr iss d a b w s
  | .lsl iss d a b w => Sys2Proof.Machine.execLsl iss d a b w s
  | .asrr iss d a b w => Sys2Proof.Machine.execAsrr iss d a b w s
  | .asri iss d a b w => Sys2Proof.Machine.execAsri iss d a b w s
  | .lsri iss d a b w => Sys2Proof.Machine.execLsri iss d a b w s
  | .lsli iss d a b w => Sys2Proof.Machine.execLsli iss d a b w s
  | .asrri iss d a b w => Sys2Proof.Machine.execAsrri iss d a b w s
  | .lsc iss d a b w => Sys2Proof.Machine.execLsc iss d a b w s
  | .addi iss d a imm => Sys2Proof.Machine.execAddi iss d a imm s
  | .andi iss d a imm => Sys2Proof.Machine.execAndi iss d a imm s
  | .ori iss d a imm => Sys2Proof.Machine.execOri iss d a imm s
  | .xori iss d a imm => Sys2Proof.Machine.execXori iss d a imm s
  | .cmpi iss d a imm => Sys2Proof.Machine.execCmpi iss d a imm s
  | .mac iss n a b form sub z => Sys2Proof.Machine.execMac iss n a b form sub z s
  | .mac2 iss np ap bp mode sub z sgn => Sys2Proof.Machine.execMac2 iss np ap bp mode sub z sgn s
  | .cmac iss np a b conj sub z => Sys2Proof.Machine.execCmac iss np a b conj sub z s
  | .clr iss mask => Sys2Proof.Machine.execClr iss mask s
  | .wb iss d n k c => Sys2Proof.Machine.execWb iss d n k c s
  | .wbp iss d n k c => Sys2Proof.Machine.execWbp iss d n k c s
  | .binit iss => Sys2Proof.Machine.execBinit iss s
  | .bbegin iss => Sys2Proof.Machine.execBbegin iss s
  | .bend iss => Sys2Proof.Machine.execBend iss s
  | .badj iss imm => Sys2Proof.Machine.execBadj iss imm s
  | .divs iss d a b => Sys2Proof.Machine.execDivs iss d a b s
  | .divu iss d a b => Sys2Proof.Machine.execDivu iss d a b s
  | .movi iss r imm => Sys2Proof.Machine.execMovi iss r imm s
  | .moviu iss r imm => Sys2Proof.Machine.execMoviu iss r imm s
  | .movix iss r imm => Sys2Proof.Machine.execMovix iss r imm s
  | .limm iss n stm imm => Sys2Proof.Machine.execLimm iss n stm imm s
  | .mov iss dst src part => Sys2Proof.Machine.execMov iss dst src part s
  | .ld iss g m => Sys2Proof.Machine.execLd iss g m s
  | .ldh iss g m => Sys2Proof.Machine.execLdh iss g m s
  | .ldhu iss g m => Sys2Proof.Machine.execLdhu iss g m s
  | .ldb iss g m => Sys2Proof.Machine.execLdb iss g m s
  | .ldbu iss g m => Sys2Proof.Machine.execLdbu iss g m s
  | .ldd iss g m => Sys2Proof.Machine.execLdd iss g m s
  | .st iss g m => Sys2Proof.Machine.execSt iss g m s
  | .sth iss g m => Sys2Proof.Machine.execSth iss g m s
  | .stb iss g m => Sys2Proof.Machine.execStb iss g m s
  | .std iss g m => Sys2Proof.Machine.execStd iss g m s
  | .bld iss g m => Sys2Proof.Machine.execBld iss g m s
  | .bst iss g m => Sys2Proof.Machine.execBst iss g m s
  | .bCond iss cond tgt => Sys2Proof.Machine.execBCond iss cond tgt s
  | .jal iss d tgt => Sys2Proof.Machine.execJal iss d tgt s
  | .jr iss g => Sys2Proof.Machine.execJr iss g s
  | .repeatB iss stm k cnt => Sys2Proof.Machine.execRepeatB iss stm k cnt s
  | .send iss gs pt pp gl e => Sys2Proof.Machine.execSend iss gs pt pp gl e s
  | .endInv iss => Sys2Proof.Machine.execEndInv iss s
  | .fence iss => Sys2Proof.Machine.execFence iss s
  | .trap iss imm => Sys2Proof.Machine.execTrap iss imm s
  | .tapm iss n pc pd v => Sys2Proof.Machine.execTapm iss n pc pd v s
  | .tlbiAll w sc => Sys2Proof.Machine.execTlbiAll w sc s
  | .tlbiAsid w sc asid => Sys2Proof.Machine.execTlbiAsid w sc asid s
  | .tlbiVaAsid w sc asid va => Sys2Proof.Machine.execTlbiVaAsid w sc asid va s
  | .tlbiVaAll w sc va => Sys2Proof.Machine.execTlbiVaAll w sc va s
  | .tlbiDone sc => Sys2Proof.Machine.execTlbiDone sc s
  | .patrolScrub ch addr found => Sys2Proof.Machine.execPatrolScrub ch addr found s
  | .dramChannelLost ch => Sys2Proof.Machine.execDramChannelLost ch s
  | .retry w e => Sys2Proof.Machine.execRetry w e s
  | .abandon w e => Sys2Proof.Machine.execAbandon w e s
  | .clFaultTimeout e => Sys2Proof.Machine.execClFaultTimeout e s
  | .dmaItemStart c j => Sys2Proof.Machine.execDmaItemStart c j s
  | .dmaBurst c j found => Sys2Proof.Machine.execDmaBurst c j found s
  | .dmaItemEnd c j => Sys2Proof.Machine.execDmaItemEnd c j s
  | .dmaResume w c j => Sys2Proof.Machine.execDmaResume w c j s
  | .dmaAbort w c j => Sys2Proof.Machine.execDmaAbort w c j s
  | .capStop w c j => Sys2Proof.Machine.execCapStop w c j s
  | .dmaFaultTimeout c j => Sys2Proof.Machine.execDmaFaultTimeout c j s
  | .linkResume r => Sys2Proof.Machine.execLinkResume r s
  | .memEccCntRead => Sys2Proof.Machine.execMemEccCntRead s
  | .clTlbMissRead c => Sys2Proof.Machine.execClTlbMissRead c s
  | .dmaTlbMissRead c => Sys2Proof.Machine.execDmaTlbMissRead c s
  | .streamOpen w stm base => Sys2Proof.Machine.execStreamOpen w stm base s
  | .streamClose w stm => Sys2Proof.Machine.execStreamClose w stm s
  | .streamSkip w stm => Sys2Proof.Machine.execStreamSkip w stm s
  | .streamQuery w stm => Sys2Proof.Machine.execStreamQuery w stm s
  | .streamClosed stm => Sys2Proof.Machine.execStreamClosed stm s
  | .watchedLineSnoop l => Sys2Proof.Machine.execWatchedLineSnoop l s
  | .ringPoll l => Sys2Proof.Machine.execRingPoll l s
  | .ringEntryTake r ent => Sys2Proof.Machine.execRingEntryTake r ent s
  | .ringLineWrite r => Sys2Proof.Machine.execRingLineWrite r s
  | .itemTake src => Sys2Proof.Machine.execItemTake src s
  | .itemAccept stm seq => Sys2Proof.Machine.execItemAccept stm seq s
  | .itemDispatch dst => Sys2Proof.Machine.execItemDispatch dst s
  | .completionRecordWrite stm => Sys2Proof.Machine.execCompletionRecordWrite stm s
  | .deliveryRingWrite stm => Sys2Proof.Machine.execDeliveryRingWrite stm s
  | .gapTimeout stm => Sys2Proof.Machine.execGapTimeout stm s
  | .keyCommit stm => Sys2Proof.Machine.execKeyCommit stm s
  | .quiesceTimeout u => Sys2Proof.Machine.execQuiesceTimeout u s
  | .quiesceReturn u => Sys2Proof.Machine.execQuiesceReturn u s
  | .replayReissue u => Sys2Proof.Machine.execReplayReissue u s
  | .journalRebuildDone ch => Sys2Proof.Machine.execJournalRebuildDone ch s
  | .schedRejCntRead => Sys2Proof.Machine.execSchedRejCntRead s
  | .schedDupCntRead => Sys2Proof.Machine.execSchedDupCntRead s
  | .schedRetryCntRead => Sys2Proof.Machine.execSchedRetryCntRead s
  | .schedLossCntRead => Sys2Proof.Machine.execSchedLossCntRead s
  | .schedKeyhitCntRead => Sys2Proof.Machine.execSchedKeyhitCntRead s
  | .reloadRegion w r img => Sys2Proof.Machine.execReloadRegion w r img s
  | .reloadTile w t img => Sys2Proof.Machine.execReloadTile w t img s
  | .reloadEngine w e img => Sys2Proof.Machine.execReloadEngine w e img s
  | .reloadVerified readOk sigOk => Sys2Proof.Machine.execReloadVerified readOk sigOk s
  | .girthClose => Sys2Proof.Machine.execGirthClose s
  | .girthRelease written => Sys2Proof.Machine.execGirthRelease written s
  | .fabricPortSend r port it => Sys2Proof.Machine.execFabricPortSend r port it s
  | .fabricPortAck r port => Sys2Proof.Machine.execFabricPortAck r port s
  | .counterItemExecute r => Sys2Proof.Machine.execCounterItemExecute r s
  | .counterStart b => Sys2Proof.Machine.execCounterStart b s
  | .pulseTrainEnd b => Sys2Proof.Machine.execPulseTrainEnd b s
  | .fabCntRead b => Sys2Proof.Machine.execFabCntRead b s
  | .loadGo img => Sys2Proof.Machine.execLoadGo img s
  | .loadSignatureVerified sigOk chain => Sys2Proof.Machine.execLoadSignatureVerified sigOk chain s
  | .loadDeadline => Sys2Proof.Machine.execLoadDeadline s
  | .loadClear deadline => Sys2Proof.Machine.execLoadClear deadline s
  | .applyDone written => Sys2Proof.Machine.execApplyDone written s
  | .loaded => Sys2Proof.Machine.execLoaded s
  | .latigoTrainStart p => Sys2Proof.Machine.execLatigoTrainStart p s
  | .latigoActive p width rev partnerPos => Sys2Proof.Machine.execLatigoActive p width rev partnerPos s
  | .trainingTimeout p => Sys2Proof.Machine.execTrainingTimeout p s
  | .ack h => Sys2Proof.Machine.execAck h s
  | .nak h => Sys2Proof.Machine.execNak h s
  | .credit h counts => Sys2Proof.Machine.execCredit h counts s
  | .item h it => Sys2Proof.Machine.execItem h it s
  | .itemAcc h stm seq => Sys2Proof.Machine.execItemAcc h stm seq s
  | .load h off got => Sys2Proof.Machine.execLoad h off got s
  | .loadctlStart h deadline img => Sys2Proof.Machine.execLoadctlStart h deadline img s
  | .loadctlVerified h pos => Sys2Proof.Machine.execLoadctlVerified h pos s
  | .loadctlReject h pos code => Sys2Proof.Machine.execLoadctlReject h pos code s
  | .loadctlApply h => Sys2Proof.Machine.execLoadctlApply h s
  | .loadctlAbort h pos code => Sys2Proof.Machine.execLoadctlAbort h pos code s
  | .loadctlDone h pos => Sys2Proof.Machine.execLoadctlDone h pos s
  | .loadctlClear h => Sys2Proof.Machine.execLoadctlClear h s
  | .beacon h t1 d t2 => Sys2Proof.Machine.execBeacon h t1 d t2 s
  | .beaconReply h t1 t2 t3 t4 => Sys2Proof.Machine.execBeaconReply h t1 t2 t3 t4 s
  | .fault h cls origin cause source => Sys2Proof.Machine.execFault h cls origin cause source s
  | .regRead h tag off => Sys2Proof.Machine.execRegRead h tag off s
  | .regWrite h tag off v => Sys2Proof.Machine.execRegWrite h tag off v s
  | .regResponse h tag v => Sys2Proof.Machine.execRegResponse h tag v s
  | .replayTimeout p => Sys2Proof.Machine.execReplayTimeout p s
  | .ackTimer p => Sys2Proof.Machine.execAckTimer p s
  | .linkDownTimeout p => Sys2Proof.Machine.execLinkDownTimeout p s
  | .beaconSend => Sys2Proof.Machine.execBeaconSend s
  | .beaconMissed => Sys2Proof.Machine.execBeaconMissed s
  | .regResponseTimeout tag => Sys2Proof.Machine.execRegResponseTimeout tag s
  | .latCrcCntRead p => Sys2Proof.Machine.execLatCrcCntRead p s
  | .latReplayCntRead p => Sys2Proof.Machine.execLatReplayCntRead p s
  | .linkL0Entry width rate cxl => Sys2Proof.Machine.execLinkL0Entry width rate cxl s
  | .linkDown => Sys2Proof.Machine.execLinkDown s
  | .linkL1Entry => Sys2Proof.Machine.execLinkL1Entry s
  | .linkL1Exit => Sys2Proof.Machine.execLinkL1Exit s
  | .d3hotEntry => Sys2Proof.Machine.execD3hotEntry s
  | .d0Return => Sys2Proof.Machine.execD0Return s
  | .perstN => Sys2Proof.Machine.execPerstN s
  | .hotReset => Sys2Proof.Machine.execHotReset s
  | .flr => Sys2Proof.Machine.execFlr s
  | .cxlReset => Sys2Proof.Machine.execCxlReset s
  | .viral => Sys2Proof.Machine.execViral s
  | .cacheWritebackInvalidate => Sys2Proof.Machine.execCacheWritebackInvalidate s
  | .cxlMemAccess line op found => Sys2Proof.Machine.execCxlMemAccess line op found s
  | .msixUnmask m => Sys2Proof.Machine.execMsixUnmask m s
  | .completionTimeout r => Sys2Proof.Machine.execCompletionTimeout r s
  | .poisonedCompletion r => Sys2Proof.Machine.execPoisonedCompletion r s
  | .ideCheckFailure str => Sys2Proof.Machine.execIdeCheckFailure str s
  | .resetWarm key => Sys2Proof.Machine.execResetWarm key s
  | .warmResetSafe => Sys2Proof.Machine.execWarmResetSafe s
  | .warmResetDomains => Sys2Proof.Machine.execWarmResetDomains s
  | .warmResetRom => Sys2Proof.Machine.execWarmResetRom s
  | .warmResetReapply hashOk => Sys2Proof.Machine.execWarmResetReapply hashOk s
  | .resetCold key => Sys2Proof.Machine.execResetCold key s
  | .sysRstN => Sys2Proof.Machine.execSysRstN s
  | .doeDiscovery index => Sys2Proof.Machine.execDoeDiscovery index s
  | .tableAccess => Sys2Proof.Machine.execTableAccess s
  | .doeAbort => Sys2Proof.Machine.execDoeAbort s
  | .mctpControl cmd => Sys2Proof.Machine.execMctpControl cmd s
  | .mctpRead off => Sys2Proof.Machine.execMctpRead off s
  | .bypass => Sys2Proof.Machine.execBypass s
  | .idcode => Sys2Proof.Machine.execIdcode s
  | .samplePreload => Sys2Proof.Machine.execSamplePreload s
  | .extest => Sys2Proof.Machine.execExtest s
  | .clamp => Sys2Proof.Machine.execClamp s
  | .highz => Sys2Proof.Machine.execHighz s
  | .sessionSetup p tag formatOk nonceH secret ledgerOk => Sys2Proof.Machine.execSessionSetup p tag formatOk nonceH secret ledgerOk s
  | .sessionClose p tag sid => Sys2Proof.Machine.execSessionClose p tag sid s
  | .quote p tag nonce pos sid ledgerOk far => Sys2Proof.Machine.execQuote p tag nonce pos sid ledgerOk far s
  | .certs p tag pos far => Sys2Proof.Machine.execCerts p tag pos far s
  | .secQuoteGo w => Sys2Proof.Machine.execSecQuoteGo w s
  | .ownerChallenge tag => Sys2Proof.Machine.execOwnerChallenge tag s
  | .enrollFirst tag req ownEn ledgerOk => Sys2Proof.Machine.execEnrollFirst tag req ownEn ledgerOk s
  | .ownerAdd tag req ledgerOk => Sys2Proof.Machine.execOwnerAdd tag req ledgerOk s
  | .revoke tag req ledgerOk => Sys2Proof.Machine.execRevoke tag req ledgerOk s
  | .transfer tag req ledgerOk => Sys2Proof.Machine.execTransfer tag req ledgerOk s
  | .ownerRead tag => Sys2Proof.Machine.execOwnerRead tag s
  | .prog tag sid str kset gen macOk => Sys2Proof.Machine.execProg tag sid str kset gen macOk s
  | .ideGo tag sid str kset macOk => Sys2Proof.Machine.execIdeGo tag sid str kset macOk s
  | .ideStop tag sid str macOk => Sys2Proof.Machine.execIdeStop tag sid str macOk s
  | .debugChallenge tag => Sys2Proof.Machine.execDebugChallenge tag s
  | .unlock tag token sig sigOk => Sys2Proof.Machine.execUnlock tag token sig sigOk s
  | .debugLock tag => Sys2Proof.Machine.execDebugLock tag s
  | .challengeExpiry debug => Sys2Proof.Machine.execChallengeExpiry debug s
  | .unlockExpiry => Sys2Proof.Machine.execUnlockExpiry s
  | .stage w svn readOk sigOk => Sys2Proof.Machine.execStage w svn readOk sigOk s
  | .fwCommit w => Sys2Proof.Machine.execFwCommit w s
  | .glitchTrip m => Sys2Proof.Machine.execGlitchTrip m s
  | .powerGood => Sys2Proof.Machine.execPowerGood s
  | .firmwareVerified aOk bOk => Sys2Proof.Machine.execFirmwareVerified aOk bOk s
  | .memoryTrained trained lost => Sys2Proof.Machine.execMemoryTrained trained lost s
  | .domainOn w d => Sys2Proof.Machine.execDomainOn w d s
  | .domainOff w d => Sys2Proof.Machine.execDomainOff w d s
  | .domainPowerRemove d => Sys2Proof.Machine.execDomainPowerRemove d s
  | .fiddleheadRampDone d => Sys2Proof.Machine.execFiddleheadRampDone d s
  | .fiddleheadPllLock d => Sys2Proof.Machine.execFiddleheadPllLock d s
  | .fiddleheadReady d => Sys2Proof.Machine.execFiddleheadReady d s
  | .pllLockTimeout d => Sys2Proof.Machine.execPllLockTimeout d s
  | .ppsCapture g => Sys2Proof.Machine.execPpsCapture g s
  | .timeStatRead => Sys2Proof.Machine.execTimeStatRead s
  | .timeLoRead => Sys2Proof.Machine.execTimeLoRead s
  | .rtcSet w sec => Sys2Proof.Machine.execRtcSet w sec s
  | .rtcSecRead => Sys2Proof.Machine.execRtcSecRead s
  | .vbatLoss => Sys2Proof.Machine.execVbatLoss s
  | .pfail rail => Sys2Proof.Machine.execPfail rail s
  | .ledgerFlushDone => Sys2Proof.Machine.execLedgerFlushDone s
  | .holdupEnd => Sys2Proof.Machine.execHoldupEnd s
  | .v24Arm => Sys2Proof.Machine.execV24Arm s
  | .v24Low => Sys2Proof.Machine.execV24Low s
  | .counterCommit wear => Sys2Proof.Machine.execCounterCommit wear s
  | .histogramMinute t => Sys2Proof.Machine.execHistogramMinute t s
  | .reminderDue k => Sys2Proof.Machine.execReminderDue k s
  | .readCounters w arg => Sys2Proof.Machine.execReadCounters w arg s
  | .readHist w arg => Sys2Proof.Machine.execReadHist w arg s
  | .readCal w arg => Sys2Proof.Machine.execReadCal w arg s
  | .readRem w arg => Sys2Proof.Machine.execReadRem w arg s
  | .setRem w arg => Sys2Proof.Machine.execSetRem w arg s
  | .ackRem w arg => Sys2Proof.Machine.execAckRem w arg s
  | .readLog w arg => Sys2Proof.Machine.execReadLog w arg s
  | .safeNAssert => Sys2Proof.Machine.execSafeNAssert s
  | .safeNDeassert => Sys2Proof.Machine.execSafeNDeassert s
  | .lockstepMismatch pair => Sys2Proof.Machine.execLockstepMismatch pair s
  | .pop w => Sys2Proof.Machine.execPop w s
  | .exit w => Sys2Proof.Machine.execExit w s
  | .fltAck w rseq => Sys2Proof.Machine.execFltAck w rseq s
  | .fltRelease w u => Sys2Proof.Machine.execFltRelease w u s
  | .fltDropCntRead => Sys2Proof.Machine.execFltDropCntRead s
  | .irqSwiWrite w v => Sys2Proof.Machine.execIrqSwiWrite w v s
  | .eventTrigger n => Sys2Proof.Machine.execEventTrigger n s
  | .evcSnap w groups => Sys2Proof.Machine.execEvcSnap w groups s
  | .evcSwtrig w trigs => Sys2Proof.Machine.execEvcSwtrig w trigs s
  | .evcWrap n => Sys2Proof.Machine.execEvcWrap n s
  | .evcValRead n => Sys2Proof.Machine.execEvcValRead n s
  | .evcValWrite w n hi v => Sys2Proof.Machine.execEvcValWrite w n hi v s
  | .intlvSample t cv => Sys2Proof.Machine.execIntlvSample t cv s
  | .sgCoreClock t k => Sys2Proof.Machine.execSgCoreClock t k s
  | .compareOutput b => Sys2Proof.Machine.execCompareOutput b s
  | .borderSignalChange r sig => Sys2Proof.Machine.execBorderSignalChange r sig s
  | .loadVerified short => Sys2Proof.Machine.execLoadVerified short s
  | .vbatReturn => Sys2Proof.Machine.execVbatReturn s
  | .vbatLow low => Sys2Proof.Machine.execVbatLow low s
  | .ppsOut g => Sys2Proof.Machine.execPpsOut g s
  | .quoteBuilt ledgerOk => Sys2Proof.Machine.execQuoteBuilt ledgerOk s
  | .fwupDone => Sys2Proof.Machine.execFwupDone s
  | .ledgerCommandDone ok => Sys2Proof.Machine.execLedgerCommandDone ok s

end Sys2Proof.Machine
end

