-- ==== Sys2Proof/Machine/EngDecode.lean ====
section
/-! DEFINITION. The bundles in instruction memory: their two slot words (R205), the fields of a word (R207), and the instruction
that OP, FN and SUB name (R210, R211, R219). A word whose OP, FN or SUB is reserved names none: it is ILLEGAL (R222). -/

namespace Sys2Proof.Machine

/-- Bits `hi`:`lo` of a word. -/
def wordField (w hi lo : Nat) : Nat := w / 2 ^ lo % 2 ^ (hi + 1 - lo)

/-- Bits `hi`:`lo` as a register or function number. -/
def finField (n : Nat) [NeZero n] (w hi lo : Nat) : Fin n := Fin.ofNat n (wordField w hi lo)

/-- Bits `hi`:`lo` as an immediate. -/
def immField (n w hi lo : Nat) : BitVec n := BitVec.ofNat n (wordField w hi lo)

/-- A bit of a word. -/
def bitField (w k : Nat) : Bool := wordField w k k = 1

/-- The issue of a word whose reserved bits are `resv` (R207): they must be zero. -/
def withRsvd (i : Issue) (resv : Nat) : Issue := { i with rsvd := resv != 0 }

/-- The address operand of the M format (R207, R216). -/
def memField (w : Nat) : MemAddr := ⟨finField 8 w 19 17, finField 16 w 16 13, immField 13 w 12 0⟩

/-- A function of the ALU, with the fields of format R3 (R211): FN 4:0 names it, FN bit 7 is .W with the WSEL of FN 6:5. Without
.W no field of the word uses FN 6:5, and the spec calls them neither reserved nor zero: they are ignored (DEDUCED, assumption log
13). -/
def decodeAlu (i : Issue) (w : Nat) : Option Instr :=
  let d := finField 64 w 25 20
  let a := finField 64 w 19 14
  let b := finField 64 w 13 8
  let q : Option (Fin 4) := if bitField w 7 then some (finField 4 w 6 5) else none
  match wordField w 4 0 with
  | 0x00 => some (.add i d a b q)
  | 0x01 => some (.sub i d a b q)
  | 0x02 => some (.and i d a b q)
  | 0x03 => some (.or i d a b q)
  | 0x04 => some (.xor i d a b q)
  | 0x05 => some (.andn i d a b q)
  | 0x06 => some (.min i d a b q)
  | 0x07 => some (.max i d a b q)
  | 0x08 => some (.abs i d a b q)
  | 0x09 => some (.neg i d a b q)
  | 0x0A => some (.cmp i d a b q)
  | 0x0B => some (.addH i d a b q)
  | 0x0C => some (.subH i d a b q)
  | 0x0D => some (.addsH i d a b q)
  | 0x0E => some (.subsH i d a b q)
  | 0x10 => some (.asr i d a b q)
  | 0x11 => some (.lsr i d a b q)
  | 0x12 => some (.lsl i d a b q)
  | 0x13 => some (.asrr i d a b q)
  | 0x14 => some (.asri i d a b q)
  | 0x15 => some (.lsri i d a b q)
  | 0x16 => some (.lsli i d a b q)
  | 0x17 => some (.asrri i d a b q)
  | 0x18 => some (.lsc i d a b q)
  | _ => none

/-- The block-exponent group by SUB (R210); only BADJ has an immediate: in the others bits 7:0 count as reserved (DESIGN CHOICE,
log 181). -/
def decodeBlock (i : Issue) (w : Nat) : Option Instr :=
  let j := withRsvd i (wordField w 22 0)
  match wordField w 25 23 with
  | 0 => some (.binit j)
  | 1 => some (.bbegin j)
  | 2 => some (.bend j)
  | 3 => some (.badj (withRsvd i (wordField w 22 8)) (immField 8 w 7 0))
  | _ => none

/-- DIVS and DIVU by FN (R210). -/
def decodeDiv (i : Issue) (w : Nat) : Option Instr :=
  let d := finField 64 w 25 20
  let a := finField 64 w 19 14
  let b := finField 64 w 13 8
  match wordField w 7 0 with
  | 0 => some (.divs i d a b)
  | 1 => some (.divu i d a b)
  | _ => none

/-- The instruction of one slot's word (R205, R207, R210), issued as `i`. The word of a TAPM is decoded with its bundle. -/
def decodeSlot (i : Issue) (w : Nat) : Option Instr :=
  let d := finField 64 w 25 20
  let a := finField 64 w 19 14
  let m := memField w
  match wordField w 31 26 with
  | 0x00 => some (.nop (withRsvd i (wordField w 25 0)))
  | 0x01 => decodeAlu i w
  | 0x02 => some (.addi i d a (immField 14 w 13 0))
  | 0x03 => some (.andi i d a (immField 14 w 13 0))
  | 0x04 => some (.ori i d a (immField 14 w 13 0))
  | 0x05 => some (.xori i d a (immField 14 w 13 0))
  | 0x06 => some (.cmpi i d a (immField 14 w 13 0))
  | 0x08 => some (.mac (withRsvd i (wordField w 5 0)) (finField 8 w 25 23) (finField 64 w 22 17) (finField 64 w 16 11)
      (finField 8 w 10 8) (bitField w 7) (bitField w 6))
  | 0x09 => some (.mac2 (withRsvd i (wordField w 23 23 + wordField w 6 0)) (finField 4 w 25 24) (finField 32 w 22 18)
      (finField 32 w 17 13) (finField 4 w 12 11) (bitField w 10) (bitField w 9) (finField 4 w 8 7))
  | 0x0A => some (.cmac (withRsvd i (wordField w 23 23 + wordField w 7 0)) (finField 4 w 25 24) (finField 64 w 22 17)
      (finField 64 w 16 11) (bitField w 10) (bitField w 9) (bitField w 8))
  | 0x0B => some (.clr (withRsvd i (wordField w 25 8)) (immField 8 w 7 0))
  | 0x0C => some (.wb (withRsvd i (wordField w 13 0)) d (finField 8 w 19 17) (finField 4 w 16 15) (bitField w 14))
  | 0x0D => some (.wbp (withRsvd i (wordField w 13 0)) d (finField 8 w 19 17) (finField 4 w 16 15) (bitField w 14))
  | 0x0E => decodeBlock i w
  | 0x0F => decodeDiv i w
  | 0x10 => some (.movi i (immField 8 w 25 18) (immField 18 w 17 0))
  | 0x11 => some (.moviu i (immField 8 w 25 18) (immField 18 w 17 0))
  | 0x12 => some (.movix i (immField 8 w 25 18) (immField 18 w 17 0))
  | 0x13 => some (.limm i (finField 16 w 25 22) (bitField w 21) (immField 21 w 20 0))
  | 0x14 => some (.mov (withRsvd i (wordField w 7 0)) (immField 8 w 25 18) (immField 8 w 17 10) (finField 4 w 9 8))
  | 0x20 => some (.ld i d m)
  | 0x21 => some (.ldh i d m)
  | 0x22 => some (.ldhu i d m)
  | 0x23 => some (.ldb i d m)
  | 0x24 => some (.ldbu i d m)
  | 0x25 => some (.ldd i d m)
  | 0x26 => some (.st i d m)
  | 0x27 => some (.sth i d m)
  | 0x28 => some (.stb i d m)
  | 0x29 => some (.std i d m)
  | 0x2A => some (.bld i d m)
  | 0x2B => some (.bst i d m)
  | 0x2C => some (.bCond (withRsvd i (wordField w 21 12)) (finField 16 w 25 22) (finField 4096 w 11 0))
  | 0x2D => some (.jal (withRsvd i (wordField w 19 12)) d (finField 4096 w 11 0))
  | 0x2E => some (.jr (withRsvd i (wordField w 25 6)) (finField 64 w 5 0))
  | 0x2F => some (.repeatB (withRsvd i (wordField w 18 12)) (bitField w 25) (finField 64 w 24 19) (immField 12 w 11 0))
  | 0x30 => some (.send (withRsvd i (wordField w 4 0)) d (finField 16 w 19 16) (finField 16 w 15 12) (finField 64 w 11 6)
      (bitField w 5))
  | 0x31 => some (.endInv (withRsvd i (wordField w 25 0)))
  | 0x32 => some (.fence (withRsvd i (wordField w 25 0)))
  | 0x33 => some (.trap (withRsvd i (wordField w 25 16)) (immField 16 w 15 0))
  | _ => none

/-- The slot Y word of a TAPM bundle (R219). -/
def tapmWord : Nat := 0xFC000000

/-- The instructions of a bundle on engine `e`, slot X first; none where OP, FN or SUB of a word is reserved, or where a word
of TAPM stands without the other (R205, R219, R222). -/
def decodeBundle (e : Fin 128) (x y : Nat) : Option (List Instr) :=
  let i : Issue := ⟨e, .x, true, false, 0, .clean⟩
  if wordField x 31 26 = 0x3E then
    if y = tapmWord then
      some [.tapm (withRsvd { i with paired := false } (wordField x 12 0)) (finField 8 x 25 23) (finField 16 x 22 19)
        (finField 16 x 18 15) (finField 4 x 14 13)]
    else none
  else
    match decodeSlot i x, decodeSlot { i with slot := .y } y with
    | some a, some b => some [a, b]
    | _, _ => none

/-- The slot words of bundle `n`: bits 31:0 and 63:32 of its eight bytes, little-endian (R6, R205). -/
def State.bundleWords (s : State) (e n : Nat) : Nat × Nat :=
  let b := memRead s.mem.imem 8 (e * 0x8000 + 8 * n)
  (fromLe (b.take 4), fromLe (b.drop 4))

/-- The instructions of bundle `n` of engine `e`. -/
def State.bundleInstrs (s : State) (e : Fin 128) (n : Nat) : Option (List Instr) :=
  decodeBundle e (s.bundleWords e.val n).1 (s.bundleWords e.val n).2

/-- An engine at the start of a bundle that holds a reserved OP, FN or SUB, or half a TAPM (R222). -/
def State.standsIllegal (s : State) (e : Fin 128) : Bool :=
  s.engIssues e.val && (s.eng e.val).half.isNone && (s.eng e.val).regs.pc < 4096 &&
    (s.bundleInstrs e (s.eng e.val).regs.pc).isNone

/-- The bundle of an engine issues with its ILLEGAL word, for which no command stands: the engine is contained (R222, R223,
assumption log 13). -/
def State.issueIllegal (s : State) (e : Fin 128) : State :=
  if s.standsIllegal e then s.engException e.val 1 else s

end Sys2Proof.Machine
end

