-- ==== Sys2Proof/Machine/Tick.lean ====
section
/-! DEFINITION. What time does while no command waits (assumption log 10): device time (R343, R412, R413) and the calendar (R414)
advance by one nanosecond; glitch filters and region logic run on FCLK (R304, R311); a port's training goes on (R333); and an engine issues a bundle that no instruction spells (R222). -/

namespace Sys2Proof.Machine

/-- TIME_SLEW in ppb, clamped to its range; it acts on the head alone (R413). -/
def State.slewPpb (s : State) : Int :=
  if s.pos = 0 then clampInt (-100000) 100000 (sext 18 (s.get R.TIME_SLEW)) else 0

/-- One nanosecond of the time source: the head's rate follows TIME_SLEW, and a downstream device slews its error away at
100 ppm (R343). Before power-good device time stands at 0. -/
def State.tickTime (s : State) : State :=
  if s.pwr.phase = 0 then s
  else
    let c := s.clock
    let step := clampInt (-100) 100 c.slew
    let f := c.frac + (1000000000 + s.slewPpb + 1000 * step).toNat
    let now := s.time + f / 1000000000
    let fclk := now / 5 - s.time / 5
    let us := now / 1000 - s.time / 1000
    let s := { s with time := now % 2 ^ 64, clock := { c with frac := f % 1000000000, slew := c.slew - step } }
    (s.events .lichen 0 fclk).events .lichen 1 us

/-- A cycle of every engine whose domain is on (R448); nothing changes while no event counter runs. -/
def State.tickEngines (s : State) : State :=
  if s.evcRunning.isEmpty then s
  else
    (List.range 128).foldl (fun s e =>
      if s.domReady (domEngine e) then
        let s := s.event (.engine (Fin.ofNat 128 e)) 0
        if (s.eng e).run.isSome then s.event (.engine (Fin.ofNat 128 e)) 1 else s
      else s) s

/-- One nanosecond of the calendar, corrected by RTC_TRIM in steps of 0.1 ppm; it stands while the lichen domain is dark. -/
def State.tickCal (s : State) : State :=
  if s.pwr.dark then s
  else
    let trim := clampInt (-1000) 1000 (sext 16 (s.get R.RTC_TRIM))
    let n := s.rtcNs + 32768 * (10000000 + trim).toNat
    if n < 10 ^ 16 then { s with rtcNs := n }
    else
      let t := s.calTime + 1
      let s := { s with rtcNs := n - 10 ^ 16 }
      let s := (s.put R.RTC_SEC_HI_SUBSEC t).put R.RTC_SEC_LO_SEC (t / 2 ^ 15)
      s.put R.RTC_SEC_HI_SEC (t / 2 ^ 47)

/-- Every engine that stands at a bundle with an ILLEGAL word issues it (R222, R223): no command spells such a bundle. -/
def State.tickIllegal (s : State) : State :=
  s.engs.foldl (fun s x => s.issueIllegal (Fin.ofNat 128 x.1)) s

/-- A port that trains passes LOCKING, DESKEW and PARAM (R333) at instants that depend on its partner, with the lane order found
at DESKEW: free values (assumption log 148). -/
def State.tickTrain (s : State) : State :=
  [0, 1].foldl (fun s p =>
    let st : Nat := s.get (R.LAT_PSTAT_LTSTATE p)
    if 1 ≤ st && st ≤ 3 then
      let d := s.draw 2
      if d.1 != 1 then d.2
      else if st = 2 then
        let r := d.2.draw 2
        (r.2.put (R.LAT_PSTAT_LTSTATE p) 3).putB (R.LAT_PSTAT_REVERSED p) (r.1 = 1)
      else d.2.put (R.LAT_PSTAT_LTSTATE p) (st + 1)
    else s) s

/-- Items in the ports' receive buffers enter as far as there is room (R290, R339). -/
def State.tickPorts (s : State) : State :=
  [0, 1].foldl (fun s p => State.drainInbox (s.port p).inbox.length s p) s

/-- A counter block at an FCLK edge (R311): it samples the synchronised states of the field pins routed to it, and its glitch filter
passes what has stood long enough. -/
def State.sampleCnt (s : State) (c : CntSt) : CntSt :=
  (c.pins.foldl (fun c x => c.feed x.1 (s.fabricIn (x.2 / 8) (x.2 % 8)) s.time) c).settle s.time

/-- An FCLK edge, one at each 5 ns boundary of device time (R305), which stood at `was` before: the counter blocks of the quadrants
that are on, and the flip-flops of the regions that run (R304, R311). -/
def State.tickFabric (s : State) (was : Nat) : State :=
  if s.pwr.phase = 0 || s.time / 5 = was / 5 then s
  else
    let s := s.fab.cnts.foldl (fun s e =>
      if s.domReady (domQuad (e.1 / 64)) then s.setCnt e.1 (s.sampleCnt e.2) else s) s
    s.fab.cells.foldl (fun s e => if s.regionRuns e.1 then s.clockCells e.1 e.2.cfg else s) s

/-- A key-set change of the IDE protocol comes when its streams bring it: a free value (R387, assumption log 190). -/
def State.tickIde (s : State) : State :=
  [0, 1].foldl (fun s i =>
    if (s.ide i).next.isSome then
      let d := s.draw 2
      if d.1 = 1 then d.2.ideSwitch i else d.2
    else s) s

/-- The passes that have ended give out their words (R117). -/
def State.tickPasses (s : State) : State :=
  s.tiles.foldl (fun s e => if s.passActive e.1 then s else s.passClose e.1) s

/-- One nanosecond. -/
def tick (s : State) : State := (s.tickTime.tickCal.tickEngines.tickTrain.tickFabric s.time).tickPasses.tickPorts.tickIde.tickIllegal

end Sys2Proof.Machine
end

