-- ==== Sys2Proof/Safety.lean ====
section
/-! DEFINITION. What a well-kept state is: the register bank and every memory are in canonical form, so that equal contents are
equal data; the parts of the state that each command may
change; what a notice to the host or to the event counters may change; and what it is for an engine's bundle to complete. -/

namespace Sys2Proof.Machine

/-- The register bank is in canonical form: its offsets rise strictly and none holds its reset value. -/
def State.regsWf (s : State) : Prop := tblWf resetWord s.regs = true

/-- Every memory is in canonical form. -/
def MemSt.wf (m : MemSt) : Prop :=
  memWf m.loc ∧ memWf m.sram ∧ memWf m.dram ∧ memWf m.imem ∧ memWf m.hostOut ∧ memWf m.hostOwn

/-- The register bank and the memories are in canonical form. -/
abbrev State.canon (s : State) : Prop := s.regsWf ∧ s.mem.wf

/-- The parts of the state, for saying what a command leaves alone. -/
inductive Part where
  /-- The commands that wait. -/
  | queue
  /-- The register bank. -/
  | regs
  /-- Staged and waiting register words, and commits that are kept. -/
  | staged
  /-- What a read returned, and latched HI words. -/
  | bus
  /-- The counter of free values drawn. -/
  | free
  /-- Device time, the calendar's fraction and the chain clock. -/
  | time
  /-- Fault records, active sources and contained units. -/
  | faults
  /-- Interrupt messages and the ledger log of interrupts and faults. -/
  | notices
  /-- The lichen ledger but for its log. -/
  | ledger
  /-- What stands at the pins. -/
  | pins
  /-- The tiles' converters and calibration. -/
  | tiles
  /-- Streams, rings and items. -/
  | sched
  /-- The latigo ports. -/
  | ports
  /-- The engines. -/
  | engs
  /-- The DMA channels. -/
  | dmas
  /-- Every byte of memory, the memory key, the TLBs and the DMA units' turns. -/
  | mem
  /-- The fabric and its reload. -/
  | fabric
  /-- The power domains. -/
  | power
  /-- The host link, resets and carried accesses. -/
  | host
  /-- The personality load. -/
  | load
  /-- Sessions, owners, keys and firmware, and the levels of the strap pins. -/
  | sec
deriving DecidableEq, Repr

/-- A part of `t` is as in `s`. -/
def State.samePart (s t : State) : Part → Prop
  | .queue => t.pending = s.pending
  | .regs => t.regs = s.regs
  | .staged => t.stg = s.stg ∧ t.wait = s.wait ∧ t.deferred = s.deferred
  | .bus => t.busRead = s.busRead ∧ t.busBytes = s.busBytes ∧ t.latch = s.latch
  | .free => t.free = s.free
  | .time => t.time = s.time ∧ t.clock = s.clock ∧ t.rtcNs = s.rtcNs
  | .faults => t.flt = s.flt ∧ t.contained = s.contained
  | .notices => t.msix = s.msix ∧ t.ledger.log = s.ledger.log
  | .ledger => t.ledger = { s.ledger with log := t.ledger.log }
  | .pins => t.pins = s.pins ∧ t.gio = s.gio ∧ t.v24Rev = s.v24Rev
  | .tiles => t.tiles = s.tiles
  | .sched => t.sched = s.sched
  | .ports => t.ports = s.ports
  | .engs => t.engs = s.engs
  | .dmas => t.dmas = s.dmas
  | .mem => t.mem = s.mem
  | .fabric => t.fab = s.fab ∧ t.rcfg = s.rcfg
  | .power => t.pwr = s.pwr
  | .host => t.host = s.host
  | .load => t.load = s.load
  | .sec => t.sec = s.sec ∧ t.straps = s.straps

/-- The parts that raising a fault may change (R432 to R443): the record, the unit's containment, and what class 4 does to every
unit. -/
def faultParts : List Part := [.regs, .faults, .notices, .ledger, .pins, .tiles, .sched, .ports, .engs, .dmas, .fabric, .load]

/-- The parts of the state that a command may change; all others it leaves as they are. -/
def touches : Instr → List Part
  | .registerWrite _ _ _ | .nop _ | .add _ _ _ _ _ | .sub _ _ _ _ _ | .and _ _ _ _ _ | .or _ _ _ _ _ | .xor _ _ _ _ _
  | .andn _ _ _ _ _ | .min _ _ _ _ _ | .max _ _ _ _ _ | .abs _ _ _ _ _ | .neg _ _ _ _ _ | .cmp _ _ _ _ _ | .addH _ _ _ _ _
  | .subH _ _ _ _ _ | .addsH _ _ _ _ _ | .subsH _ _ _ _ _ | .asr _ _ _ _ _ | .lsr _ _ _ _ _ | .lsl _ _ _ _ _
  | .asrr _ _ _ _ _ | .asri _ _ _ _ _ | .lsri _ _ _ _ _ | .lsli _ _ _ _ _ | .asrri _ _ _ _ _ | .lsc _ _ _ _ _ | .addi _ _ _ _
  | .andi _ _ _ _ | .ori _ _ _ _ | .xori _ _ _ _ | .cmpi _ _ _ _ | .mac _ _ _ _ _ _ _ | .mac2 _ _ _ _ _ _ _ _
  | .cmac _ _ _ _ _ _ _ | .clr _ _ | .wb _ _ _ _ _ | .wbp _ _ _ _ _ | .binit _ | .bbegin _ | .bend _ | .badj _ _
  | .divs _ _ _ _ | .divu _ _ _ _ | .movi _ _ _ | .moviu _ _ _ | .movix _ _ _ | .limm _ _ _ _ | .mov _ _ _ _ | .ld _ _ _
  | .ldh _ _ _ | .ldhu _ _ _ | .ldb _ _ _ | .ldbu _ _ _ | .ldd _ _ _ | .st _ _ _ | .sth _ _ _ | .stb _ _ _ | .std _ _ _
  | .bld _ _ _ | .bst _ _ _ | .bCond _ _ _ | .jal _ _ _ | .jr _ _ | .repeatB _ _ _ _ | .send _ _ _ _ _ _ | .endInv _
  | .fence _ | .trap _ _ | .tapm _ _ _ _ _ | .dmaBurst _ _ _ =>
    faultParts ++ [.staged, .bus, .free, .time, .mem, .power, .host, .sec]
  | .bar0BadAccess _ _ => faultParts ++ [.bus]
  | .bar2Access _ _ => [.regs, .bus, .faults, .mem]
  | .pageCommit _ _ | .seqPass _ _ | .intlvEntry _ => faultParts ++ [.staged, .free]
  | .commitEffective _ | .pageDiscard _ _ | .passBoundaryApply _ | .girthClose => faultParts ++ [.staged]
  | .pageLock _ _ | .pageOwnerWrite _ _ _ | .irqPendClear _ _ _ | .pinsOutWrite _ _ _ | .pinsOutSet _ _ _ | .pinsOutClr _ _ _
  | .pinsOeWrite _ _ _ | .pinFltClear _ _ _ _ | .dout24Trip _ _ | .pilotEstimate _ _ _ | .shortTExpiry _ _ _
  | .reversedPolarity _ _ | .v24Reversed | .senseTrip _ _ | .senseTripClear _ _ _ | .laneProtection _ _
  | .laneProtClear _ _ _ | .refCheck _ _ _ | .tempReading _ _ | .adcTrigStart _ _ | .decimatorOutput _ _
  | .outCodeWrite _ _ _ _ | .setpointExecute _ | .pinsOutExecute _ | .outWdogExpiry _ _ | .faultHoldClear _ _ _
  | .selfCalDone _ _ | .calReqTileIn _ _ | .calReqConvA _ _ | .calReqConvB _ _ | .calReqFrontEnd _ _ _ | .calReqSpare _ _
  | .capture0 _ _ | .capture1 _ _ | .cancel _ _ | .clearLost _ _ | .calRotNow _ _ | .rotationFollow _ _
  | .invocationResume _ _ | .selfTestDone _ _ | .engHalt _ _ | .engResume _ _ | .engTest _ _ | .patrolScrub _ _ _
  | .dramChannelLost _ | .retry _ _ | .abandon _ _ | .clFaultTimeout _ | .dmaResume _ _ _ | .dmaAbort _ _ _ | .capStop _ _ _
  | .streamClose _ _ | .streamSkip _ _ | .streamQuery _ _ | .watchedLineSnoop _ | .ringPoll _ | .gapTimeout _
  | .reloadRegion _ _ _ | .reloadTile _ _ _ | .reloadEngine _ _ _ | .loadSignatureVerified _ _ | .loadDeadline
  | .loadctlReject _ _ _ | .loadctlAbort _ _ _ | .fault _ _ _ _ _ | .linkDownTimeout _ | .viral | .poisonedCompletion _
  | .counterCommit _ | .reminderDue _ | .readCounters _ _ | .readHist _ _ | .readCal _ _ | .readRem _ _ | .setRem _ _
  | .ackRem _ _ | .readLog _ _ | .safeNAssert | .pop _ | .exit _ | .fltAck _ _ | .irqSwiWrite _ _ | .evcSnap _ _
  | .evcSwtrig _ _ | .evcValWrite _ _ _ _ | .loadVerified _ => faultParts
  | .pinEstTimeRead _ _ | .doeDiscovery _ | .tableAccess | .mctpControl _ | .mctpRead _ | .ownerRead _ | .timeLoRead
  | .rtcSecRead | .evcValRead _ => [.bus]
  | .functionAttach _ _ => [.regs, .faults, .notices, .ledger, .pins, .tiles, .fabric]
  | .pinStateChange _ => [.regs, .notices, .pins, .tiles, .fabric]
  | .dinDebounce _ _ | .snReclose _ _ => [.pins]
  | .overloadStart _ _ | .v24ReverseClear | .v24Arm => [.regs, .notices, .ledger, .pins]
  | .overloadEnd _ _ | .criterionClear _ _ _ | .deglitchHoldEnd _ _ | .rangeChangeDisconnect _ _ => [.regs, .pins]
  | .laneSwitchClose _ | .calRampStep _ _ | .rotationHandover _ => [.regs, .notices, .tiles]
  | .laneReconnect _ _ => [.regs, .faults, .notices, .pins, .tiles, .fabric]
  | .tileRestart _ _ | .domainOn _ _ | .domainOff _ _ | .pfail _ | .v24Low => faultParts ++ [.power]
  | .tileTempMaxRead _ | .engPreMaxRead _ | .memEccCntRead | .clTlbMissRead _ | .dmaTlbMissRead _ | .schedRejCntRead
  | .schedDupCntRead | .schedRetryCntRead | .schedLossCntRead | .schedKeyhitCntRead | .latCrcCntRead _ | .latReplayCntRead _
  | .timeStatRead | .fltDropCntRead => [.regs, .bus]
  | .adcTrigger _ | .intlvExit _ | .selfCalGroup _ | .rotationPeriod _ => [.regs, .tiles]
  | .frameEmit _ _ => [.regs, .notices, .tiles, .sched]
  | .slewStep _ _ => [.regs, .notices, .pins]
  | .rangeChangeReconnect _ _ | .rotationTakeover _ => [.regs, .notices, .ledger, .pins, .tiles]
  | .sgResync _ _ | .sgAmpPhaseApply _ _ | .sgCoreClock _ _ => [.regs, .staged, .notices, .pins, .tiles]
  | .captureDone _ | .calLedgerCommitDone _ _ => [.regs, .notices, .ledger, .tiles]
  | .calWait1Timeout _ | .tlbiDone _ | .msixUnmask _ | .ppsCapture _ | .evcWrap _ => [.regs, .notices]
  | .captureTmo _ | .ledgerCommandDone _ => [.regs, .notices, .ledger]
  | .invocationStart _ => [.regs, .sched, .engs]
  | .preemption _ _ | .tlbiAll _ _ | .tlbiAsid _ _ _ | .tlbiVaAsid _ _ _ _ | .tlbiVaAll _ _ _ => faultParts ++ [.mem]
  | .inbufApply _ => [.regs, .staged, .free, .notices, .sched, .engs, .mem, .power]
  | .dmaItemStart _ _ => [.regs, .sched, .dmas]
  | .dmaItemEnd _ _ => [.regs, .staged, .notices, .sched, .dmas]
  | .dmaFaultTimeout _ _ => [.regs, .faults, .dmas]
  | .linkResume _ => [.regs, .faults, .engs, .dmas]
  | .streamOpen _ _ _ | .cacheWritebackInvalidate | .intlvSample _ _ => faultParts ++ [.free]
  | .streamClosed _ | .replayReissue _ => [.sched]
  | .ringEntryTake _ _ | .fabricPortAck _ _ => [.regs, .notices, .sched]
  | .ringLineWrite _ => [.sched, .mem]
  | .itemTake _ | .fabricPortSend _ _ _ => faultParts ++ [.free, .mem, .power]
  | .itemAccept _ _ | .item _ _ | .itemAcc _ _ _ => [.regs, .notices, .sched, .ports]
  | .itemDispatch _ => [.regs, .free, .notices, .sched, .ports, .engs, .mem, .power]
  | .completionRecordWrite _ => [.regs, .notices, .ledger, .sched, .mem]
  | .deliveryRingWrite _ => [.regs, .notices, .sched, .mem]
  | .keyCommit _ => [.ledger, .sched]
  | .quiesceTimeout _ | .quiesceReturn _ => [.regs, .staged, .faults, .notices, .sched, .engs, .dmas]
  | .journalRebuildDone _ | .trainingTimeout _ | .vbatLow _ => [.regs]
  | .reloadVerified _ _ => [.regs, .notices, .sched, .fabric, .power]
  | .girthRelease _ | .applyDone _ | .regWrite _ _ _ _ => faultParts ++ [.staged, .free, .time, .mem, .power, .sec]
  | .counterItemExecute _ => [.regs, .free, .notices, .ledger, .sched, .fabric]
  | .counterStart _ | .pulseTrainEnd _ | .compareOutput _ | .ppsOut _ => [.fabric]
  | .fabCntRead _ => [.regs, .bus, .ledger]
  | .loadGo _ | .load _ _ _ | .loadctlStart _ _ _ | .loadctlVerified _ _ | .loadctlApply _ | .loadctlDone _ _ =>
    [.regs, .notices, .ports, .load]
  | .loadClear _ | .loadctlClear _ => [.regs, .faults, .notices, .ledger, .pins, .ports, .load]
  | .loaded | .domainPowerRemove _ | .pllLockTimeout _ => faultParts ++ [.mem, .power]
  | .latigoTrainStart _ => [.regs, .ports]
  | .latigoActive _ _ _ _ | .ack _ | .nak _ | .credit _ _ | .beaconReply _ _ _ _ _ | .replayTimeout _ | .ackTimer _
  | .beaconSend => [.regs, .notices, .ports]
  | .beacon _ _ _ _ => [.regs, .time, .notices, .ports]
  | .regRead _ _ _ => [.regs, .bus, .free, .notices, .ledger, .ports]
  | .regResponse _ _ _ => [.regs, .bus, .notices, .ports, .host]
  | .beaconMissed => [.regs, .time]
  | .regResponseTimeout _ => faultParts ++ [.bus, .host]
  | .linkL0Entry _ _ _ | .linkL1Exit | .d0Return => faultParts ++ [.free, .host]
  | .linkDown | .quote _ _ _ _ _ _ _ => faultParts ++ [.bus, .host, .sec]
  | .linkL1Entry => [.regs, .notices, .host]
  | .d3hotEntry => [.host]
  | .perstN | .hotReset | .flr | .cxlReset => faultParts ++ [.staged, .bus, .host, .sec]
  | .cxlMemAccess _ _ _ => faultParts ++ [.bus, .free, .mem]
  | .completionTimeout _ => faultParts ++ [.host]
  | .ideCheckFailure _ | .secQuoteGo _ | .stage _ _ _ _ | .fwCommit _ | .quoteBuilt _ => faultParts ++ [.sec]
  | .resetWarm _ => [.regs, .sched, .host]
  | .warmResetSafe => [.regs, .staged, .faults, .notices, .ledger, .pins, .sched, .ports, .engs, .dmas, .host]
  | .warmResetDomains => [.regs, .staged, .bus, .faults, .tiles, .sched, .ports, .engs, .dmas, .mem, .fabric, .power, .host, .sec]
  | .warmResetRom => [.regs, .notices, .power, .host, .sec]
  | .warmResetReapply _ => faultParts ++ [.staged, .free, .time, .mem, .power, .host, .sec]
  | .resetCold _ | .sysRstN | .glitchTrip _ | .ledgerFlushDone | .holdupEnd | .lockstepMismatch _ =>
    faultParts ++ [.staged, .bus, .time, .mem, .power, .host, .sec]
  | .doeAbort | .bypass | .extest | .clamp | .highz => [.bus, .host]
  | .idcode | .samplePreload => [.bus, .free, .host]
  | .sessionSetup _ _ _ _ _ _ | .unlock _ _ _ _ => faultParts ++ [.bus, .free, .sec]
  | .sessionClose _ _ _ | .certs _ _ _ _ => [.bus, .sec]
  | .ownerChallenge _ | .prog _ _ _ _ _ _ | .ideGo _ _ _ _ _ | .ideStop _ _ _ _ | .debugChallenge _ => [.bus, .free, .sec]
  | .enrollFirst _ _ _ _ | .ownerAdd _ _ _ | .revoke _ _ _ | .transfer _ _ _ => [.regs, .bus, .free, .ledger, .sec]
  | .debugLock _ => [.regs, .bus, .sec]
  | .challengeExpiry _ => [.sec]
  | .unlockExpiry => [.regs, .sec]
  | .powerGood => [.regs, .time, .faults, .ledger, .power, .sec]
  | .firmwareVerified _ _ => [.regs, .faults, .notices, .power, .sec]
  | .memoryTrained _ _ => faultParts ++ [.free, .mem, .power, .sec]
  | .fiddleheadRampDone _ | .fiddleheadPllLock _ => [.power]
  | .fiddleheadReady _ | .fltRelease _ _ => faultParts ++ [.staged, .free, .mem, .power]
  | .rtcSet _ _ => faultParts ++ [.time]
  | .vbatLoss => [.regs, .power]
  | .histogramMinute _ => [.ledger]
  | .safeNDeassert => [.regs, .faults]
  | .eventTrigger _ => [.regs, .notices, .tiles, .fabric]
  | .borderSignalChange _ _ => [.regs, .notices, .ledger, .pins, .tiles, .fabric]
  | .vbatReturn => [.regs, .time, .power]
  | .fwupDone => [.regs, .notices, .ledger, .sec]

/-- The words, none of them in a page header, where a notice of another command's effect lands: interrupt routing and its counts (R447, R454), and the event
counters with their flags (R448, R451). -/
def noticeWord (a : Nat) : Prop :=
  (irqPage + 0x40 ≤ a ∧ a < irqPage + 0x1000) ∨ (evfPage + 0x40 ≤ a ∧ a < evfPage + 0x1000) ∨
    (evlPage + 0x40 ≤ a ∧ a < evlPage + 0x1000)

/-- `t` is `s` but for notices: interrupt counts and messages, the ledger log of interrupts, and event counters. -/
def State.noted (s t : State) : Prop :=
  (∀ a, ¬ noticeWord a → t.word a = s.word a) ∧
    t = { s with regs := t.regs, msix := t.msix, ledger := { s.ledger with log := t.ledger.log } }

/-! ### Engine instructions -/

/-- How an engine issues a command that is an instruction; none for every other command. -/
def issueOf : Instr → Option Issue
  | .nop i => some i
  | .add i _ _ _ _ => some i
  | .sub i _ _ _ _ => some i
  | .and i _ _ _ _ => some i
  | .or i _ _ _ _ => some i
  | .xor i _ _ _ _ => some i
  | .andn i _ _ _ _ => some i
  | .min i _ _ _ _ => some i
  | .max i _ _ _ _ => some i
  | .abs i _ _ _ _ => some i
  | .neg i _ _ _ _ => some i
  | .cmp i _ _ _ _ => some i
  | .addH i _ _ _ _ => some i
  | .subH i _ _ _ _ => some i
  | .addsH i _ _ _ _ => some i
  | .subsH i _ _ _ _ => some i
  | .asr i _ _ _ _ => some i
  | .lsr i _ _ _ _ => some i
  | .lsl i _ _ _ _ => some i
  | .asrr i _ _ _ _ => some i
  | .asri i _ _ _ _ => some i
  | .lsri i _ _ _ _ => some i
  | .lsli i _ _ _ _ => some i
  | .asrri i _ _ _ _ => some i
  | .lsc i _ _ _ _ => some i
  | .addi i _ _ _ => some i
  | .andi i _ _ _ => some i
  | .ori i _ _ _ => some i
  | .xori i _ _ _ => some i
  | .cmpi i _ _ _ => some i
  | .mac i _ _ _ _ _ _ => some i
  | .mac2 i _ _ _ _ _ _ _ => some i
  | .cmac i _ _ _ _ _ _ => some i
  | .clr i _ => some i
  | .wb i _ _ _ _ => some i
  | .wbp i _ _ _ _ => some i
  | .binit i => some i
  | .bbegin i => some i
  | .bend i => some i
  | .badj i _ => some i
  | .divs i _ _ _ => some i
  | .divu i _ _ _ => some i
  | .movi i _ _ => some i
  | .moviu i _ _ => some i
  | .movix i _ _ => some i
  | .limm i _ _ _ => some i
  | .mov i _ _ _ => some i
  | .ld i _ _ => some i
  | .ldh i _ _ => some i
  | .ldhu i _ _ => some i
  | .ldb i _ _ => some i
  | .ldbu i _ _ => some i
  | .ldd i _ _ => some i
  | .st i _ _ => some i
  | .sth i _ _ => some i
  | .stb i _ _ => some i
  | .std i _ _ => some i
  | .bld i _ _ => some i
  | .bst i _ _ => some i
  | .bCond i _ _ => some i
  | .jal i _ _ => some i
  | .jr i _ => some i
  | .repeatB i _ _ _ => some i
  | .send i _ _ _ _ _ => some i
  | .endInv i => some i
  | .fence i => some i
  | .trap i _ => some i
  | .tapm i _ _ _ _ => some i
  | _ => none

/-- The instructions that R210 allows in both slots, and those that it allows in slot Y alone; TAPM stands in slot X. -/
def slotAllowed (c : Instr) (k : Slot) : Bool :=
  match c with
  | .nop _ | .movi _ _ _ | .moviu _ _ _ | .movix _ _ _ | .limm _ _ _ _ | .mov _ _ _ _ => true
  | .ld _ _ _ | .ldh _ _ _ | .ldhu _ _ _ | .ldb _ _ _ | .ldbu _ _ _ | .ldd _ _ _ | .st _ _ _ | .sth _ _ _ | .stb _ _ _
  | .std _ _ _ | .bld _ _ _ | .bst _ _ _ | .bCond _ _ _ | .jal _ _ _ | .jr _ _ | .repeatB _ _ _ _ | .send _ _ _ _ _ _
  | .endInv _ | .fence _ | .trap _ _ => k = .y
  | _ => k = .x

/-- The values of OP that R210 reserves for one slot's word; 0x3E and 0x3F stand only in a TAPM bundle. -/
def reservedOps : List Nat :=
  [0x07] ++ (List.range 11).map (· + 0x15) ++ (List.range 12).map (· + 0x34)

/-- FN of each ALU function (R211). -/
def aluFunctions : List (Nat × (Issue → Fin 64 → Fin 64 → Fin 64 → Option (Fin 4) → Instr)) :=
  [(0x00, .add), (0x01, .sub), (0x02, .and), (0x03, .or), (0x04, .xor), (0x05, .andn), (0x06, .min), (0x07, .max),
   (0x08, .abs), (0x09, .neg), (0x0A, .cmp), (0x0B, .addH), (0x0C, .subH), (0x0D, .addsH), (0x0E, .subsH), (0x10, .asr),
   (0x11, .lsr), (0x12, .lsl), (0x13, .asrr), (0x14, .asri), (0x15, .lsri), (0x16, .lsli), (0x17, .asrri), (0x18, .lsc)]

/-- OP of each instruction with an immediate (R210). -/
def immFunctions : List (Nat × (Issue → Fin 64 → Fin 64 → BitVec 14 → Instr)) :=
  [(0x02, .addi), (0x03, .andi), (0x04, .ori), (0x05, .xori), (0x06, .cmpi)]

/-- OP of each load and store (R210). -/
def memFunctions : List (Nat × (Issue → Fin 64 → MemAddr → Instr)) :=
  [(0x20, .ld), (0x21, .ldh), (0x22, .ldhu), (0x23, .ldb), (0x24, .ldbu), (0x25, .ldd), (0x26, .st), (0x27, .sth),
   (0x28, .stb), (0x29, .std), (0x2A, .bld), (0x2B, .bst)]

/-- The cycle of its iteration in which a bundle that stalls `n` cycles issues (R194). -/
def EngSt.cycle (x : EngSt) (n : Nat) : Nat := (if x.regs.rptPos = 0 then 0 else x.iter) + n + 1

/-- An instruction issues alone in its bundle, and only its own encoding or operands can keep that bundle from completing: the
engine issues and is not to be abandoned, no slot waits for its partner, PC is inside the program, and a REPEAT body is within its
64 cycles. -/
abbrev State.aloneReady (s : State) (i : Issue) : Prop :=
  s.engIssues i.eng = true ∧ (s.eng i.eng).half = none ∧ i.paired = false ∧ i.rsvd = false ∧ i.ecc ≠ .uncorrectable ∧
    (s.eng i.eng).regs.pc < 4096 ∧ ((s.eng i.eng).regs.rptOn = true → (s.eng i.eng).cycle i.stalls ≤ 64) ∧
    (s.eng i.eng).abandonWant = false

/-- Command `c` completes as a bundle of engine `e`, whose registers are then `r`; memory and every other engine stay as they
were. -/
def State.completes (s : State) (c : Instr) (e : Nat) (r : EngRegs) : Prop :=
  ∃ u : State, exec c s = .next u ∧ (u.eng e).regs = r ∧ (u.eng e).half = none ∧ u.mem = s.mem ∧
    ∀ k, k ≠ e → u.eng k = s.eng k

/-- Command `c` ends in the exception `code` of engine `e` before any of its writes (R222). -/
def State.faultsWith (s : State) (c : Instr) (e code : Nat) : Prop :=
  ∃ u : State, exec c s = .next (u.engException e code) ∧ (u.eng e).regs = (s.eng e).regs ∧ u.mem = s.mem

/-- The registers with a result in G `d` and the FLG bits of `mask` from `f`. -/
def EngRegs.alu (r : EngRegs) (d : Nat) (v mask f : Word) : EngRegs :=
  { r.setG d v with flg := flgMerge r.flg mask f }

/-- The registers with only the FLG bits of `mask` from `f`. -/
def EngRegs.flags (r : EngRegs) (mask f : Word) : EngRegs := { r with flg := flgMerge r.flg mask f }

/-- The registers after a move of `v` into register `d` (R196, R208, R215); RPT and PC are read-only. -/
def EngRegs.moved (r : EngRegs) (d : Reg) (v : Int) : EngRegs :=
  match d with
  | .g n => r.setG n (BitVec.ofInt 32 v)
  | .p n => r.setP n (BitVec.ofInt 48 v)
  | .m n => r.setM n (BitVec.ofInt 32 v)
  | .l n => if r.lR n = 0 then r.setL n (BitVec.ofInt 24 v) else r.setLst n (BitVec.ofInt 24 v, true)
  | .b n => r.setB n (BitVec.ofInt 48 v)
  | .acc n => r.setAcc n { v := BitVec.ofInt 72 v, aov := false, dir := false }
  | .wsel n => r.setWsel n (flgMerge (r.wselR n) 0x3FDF#32 (BitVec.ofInt 32 v))
  | .bexp => { r with bexp := flgMerge r.bexp 0x00FF00E0#32 (BitVec.ofInt 32 v) }
  | .flg => { r with flg := flgMerge r.flg 0x1F#32 (BitVec.ofInt 32 v) }
  | .rpt => r
  | .pc => r

/-- The registers with the pointer steps of an address operand taken (R195, R216). -/
def EngRegs.stepped (r : EngRegs) (a : Addr) : EngRegs := a.steps.foldl (fun q t => q.step t.1 t.2) r

/-- A bundle of one instruction that forms `n` products has opened: its cycle and its events count (R177, R194, R448). -/
def State.opened (s : State) (i : Issue) (n : Nat) : State :=
  let e := i.eng.val
  (((s.modEng e fun x => { x with half := none, iter := (s.eng e).cycle i.stalls }).event (engP e) 2).events (engP e) 3
    i.stalls).events (engP e) 4 n

/-- Command `c` completes as a bundle of engine `e` that stores `bs` at `a` of its data memory and no other byte anywhere; the registers
are then `r`. -/
def State.stores (s : State) (c : Instr) (e a : Nat) (bs : List Byte) (r : EngRegs) : Prop :=
  ∃ u : State, exec c s = .next u ∧ (u.eng e).regs = r ∧ (u.eng e).half = none ∧ u.dataRead e a bs.length = bs ∧
    (∀ p, p < e * 0x10000 + a ∨ e * 0x10000 + a + bs.length ≤ p → memByte u.mem.loc p = memByte s.mem.loc p) ∧
    u.mem = { s.mem with loc := u.mem.loc } ∧ ∀ k, k ≠ e → u.eng k = s.eng k

/-! ### Frames of the latigo chain -/

/-- The header and the payload of a command that is a frame with a place in its port's sequence (R337, R338); none for every
other command. -/
def frameOf : Instr → Option (FrameHdr × LatMsg)
  | .item h it => some (h, .item it)
  | .itemAcc h k seq => some (h, .itemAcc k seq)
  | .load h off bytes => some (h, .load off bytes)
  | .loadctlStart h deadline _ => some (h, .loadctl 1 0 0 deadline)
  | .loadctlVerified h pos => some (h, .loadctl 2 pos 0 0)
  | .loadctlReject h pos code => some (h, .loadctl 3 pos code 0)
  | .loadctlApply h => some (h, .loadctl 4 0 0 0)
  | .loadctlAbort h pos code => some (h, .loadctl 5 pos code 0)
  | .loadctlDone h pos => some (h, .loadctl 6 pos 0 0)
  | .loadctlClear h => some (h, .loadctl 7 0 0 0)
  | .beacon h t1 d _ => some (h, .beacon t1 d)
  | .beaconReply h t1 t2 t3 _ => some (h, .beaconReply t1 t2 t3)
  | .regRead h tag off => some (h, .reg 1 tag off 0)
  | .regWrite h tag off v => some (h, .reg 2 tag off v.toNat)
  | .regResponse h tag v => some (h, .reg 3 tag 0 v.toNat)
  | .fault h cls origin cause source => some (h, .fault cls origin cause source)
  | _ => none

/-- The header and the payload of a command that is an ACK, NAK or CREDIT frame. -/
def ctlFrameOf : Instr → Option (FrameHdr × LatMsg)
  | .ack h => some (h, .ack)
  | .nak h => some (h, .nak)
  | .credit h counts => some (h, .credit counts)
  | _ => none

/-- A frame that its port takes: the port is ACTIVE, the frame good (R336) and its FSEQ the expected one (R338). -/
abbrev State.inOrder (s : State) (h : FrameHdr) (m : LatMsg) : Prop :=
  s.get (R.LAT_PSTAT_LTSTATE h.port) = 5 ∧ frameGood h m = true ∧ h.fseq = (s.port h.port).rxSeq

/-- The port has taken a frame, and what its ACK field acknowledges has left the replay buffer (R338). -/
def State.taken (s : State) (h : FrameHdr) : State :=
  (((s.eventInst .latigo h.port.val 1).modPort h.port.val fun x =>
    { x with rxSeq := fseqSucc x.rxSeq, rxLast := h.fseq, unacked := x.unacked + 1 }).acked h.port.val h.ack)

/-- After 16 frames received in order the port sends an ACK (R338). -/
def State.ackSixteen (s : State) (p : Nat) : State := if 16 ≤ (s.port p).unacked then s.latSend p .ack else s

end Sys2Proof.Machine
end

