-- ==== Sys2Proof/Certificates/Slice0/Obligations.lean ====
section
/-! DEFINITION. The statements for the provers: the step and its frames, then each family of commands with what every command of it does,
where it completes and where the rules turn it away. -/

open Sys2Proof Sys2Proof.Machine

/-- A step takes the command at the front of the queue: it is `exec` of that command on the state with the queue's rest. On an
empty queue one nanosecond passes, which is the model's choice (assumption log 10); the table gives no row any bits, so no word
spells a command. -/
def Obligations.StepTakesFront : Prop :=
  (∀ (s : State) (c : Instr) (rest : List Instr), step { s with pending := c :: rest } = exec c { s with pending := rest }) ∧
  (∀ (s : State), s.pending = [] → step s = .next (tick s)) ∧
  ∀ (s : State) (nbits w : Nat), decodeTableWord nbits w = none ∧ s.withFetchWord nbits w = s

/-- Reset: no command waits, every memory is empty and every table in canonical form, every pin is OFF and owned by Secure (R23),
the load state is WAIT, the device is not in class 4, and it waits for power-good (R402). Where the spec leaves a choice it states
the model's own (assumption logs 2, 43, 194). -/
def Obligations.ResetState : Prop :=
  State.reset.canon ∧ State.reset.pending = [] ∧ State.reset.mem = {} ∧ State.reset.engs = [] ∧ State.reset.pwr.phase = 0 ∧
    State.reset.get R.LAT_LOAD_STAT_STATE = 0 ∧ State.reset.bit R.FLT_STAT_C4 = false ∧ State.reset.flt.fifo = [] ∧
    State.reset.time = 0 ∧ State.reset.host.link = 0 ∧
    ∀ (t : Fin 32) (n : Fin 8), State.reset.func t n = 0 ∧ State.reset.pinOwner t n = 0

/-- Every step keeps the register bank and every memory in canonical form. -/
def Obligations.StepKeepsCanonical : Prop :=
  ∀ s t : State, s.canon → step s = .next t → t.canon

/-- Every command completes in every state, and leaves every part of the state alone that is not among those it touches; no
command touches the queue. Where the spec leaves a choice it states the model's own (assumption logs 10, 43). -/
def Obligations.CommandFrames : Prop :=
  ∀ (c : Instr) (s : State), (∃ t : State, exec c s = .next t ∧ ∀ p, (touches c).contains p = false → s.samePart t p) ∧
    (touches c).contains .queue = false

/-- R328: a full load is accepted only in STATE WAIT; in any other state LOAD_GO changes nothing. -/
def Obligations.LoadGoOnlyInWait : Prop :=
  ∀ (s : State) (img : PersStream),
    (s.get R.LAT_LOAD_STAT_STATE = 0 → s.pos = 0 → ∃ u : State, exec (.loadGo img) s = .next u ∧
      u.get R.LAT_LOAD_STAT_STATE = 1 ∧ u.load.img = some img) ∧
    (s.get R.LAT_LOAD_STAT_STATE ≠ 0 → exec (.loadGo img) s = .next s)

/-- R188: the leading-sign count is the number of bits directly below the sign bit that equal it, from 0 to n − 1, for elements of
32 and of 16 bits; LSC(0) = LSC(−1) = 31. -/
def Obligations.LeadingSignCount : Prop :=
  (∀ (n v : Nat), n = 32 ∨ n = 16 → leadingSigns n v ≤ n - 1 ∧
    (∀ k, k < leadingSigns n v → v.testBit (n - 2 - k) = v.testBit (n - 1)) ∧
    (leadingSigns n v < n - 1 → v.testBit (n - 2 - leadingSigns n v) ≠ v.testBit (n - 1))) ∧
  leadingSigns 32 0 = 31 ∧ leadingSigns 32 0xFFFFFFFF = 31

/-- R5: bit 0 is the least significant bit of a field, and a range hi:lo holds both of its end bits: what a field reads, and what
a write of it leaves in its word. -/
def Obligations.BitRangesInclusive : Prop :=
  ∀ (w : Word) (hi lo v i : Nat), lo ≤ hi → hi < 32 →
    (getBits w hi lo).testBit i = (decide (lo + i ≤ hi) && w.getLsbD (lo + i)) ∧
    (putBits w hi lo v).getLsbD i = (if lo ≤ i ∧ i ≤ hi then v.testBit (i - lo) else w.getLsbD i)

/-- Pages: PAGE_LOCK, PAGE_OWNER, IRQ_PEND and DISCARD (R460, R461, R463, R464). A lock is set by the secure owner and refused to
any other; a locked page refuses a new owner and a discard; a code that R36 does not define is refused; a writer that the page
does not follow changes nothing but what the refusal sets. While no firmware runs (R391, R402) no write acts. A COMMIT (R8, R461,
R462, R466). By a writer that may commit the page it takes place unless the page is behind its girth, where it is refused, or its
unit cannot take it yet, where it is kept. On a page whose fields have no later effective point every staged word of the page
becomes effective in its RWS bits at once, nothing of the page stays staged, COMMITS counts and APPLYING is 0. Any other writer is
refused. While no firmware runs (R391, R402) no commit acts. Where the spec leaves a choice it states the model's own (assumption
logs 7, 77). -/
def Obligations.PageCommands : Prop :=
  (∀ (s : State) (pg : Page) (w : Writer) (code : Byte) (mask : Word),
    (s.awake = false → exec (.pageLock w pg) s = .next s ∧ exec (.pageOwnerWrite w pg code) s = .next s ∧
      exec (.irqPendClear w pg mask) s = .next s ∧ exec (.pageDiscard w pg) s = .next s) ∧
    (s.awake = true → s.bit (R.PAGE_LOCK (pageBase pg)) = false →
      ∃ t, exec (.pageLock .secure pg) s = .next t ∧ t.bit (R.PAGE_LOCK (pageBase pg)) = true ∧
        ∀ a, a ≠ pageBase pg + 0x20 → t.word a = s.word a) ∧
    (s.awake = true → s.matchesOwner w (s.get (R.PAGE_OWNER (pageBase pg))) = true → w ≠ .secure ∨ s.bit (R.PAGE_LOCK (pageBase pg)) = true →
      exec (.pageLock w pg) s = .next (s.refuse pg)) ∧
    (s.awake = true → s.matchesOwner w (s.get (R.PAGE_OWNER (pageBase pg))) = true → s.bit (R.PAGE_LOCK (pageBase pg)) = false →
      (ownerCodeOk code.toNat = true →
        ∃ t, exec (.pageOwnerWrite w pg code) s = .next t ∧ t.get (R.PAGE_OWNER (pageBase pg)) = code.toNat ∧ t.stg = s.stg ∧
          ∀ a, a ≠ pageBase pg + 0x1C → t.word a = s.word a) ∧
      (ownerCodeOk code.toNat = false → exec (.pageOwnerWrite w pg code) s = .next (s.refuseNotOwner pg w))) ∧
    (s.awake = true → s.matchesOwner w (s.get (R.PAGE_OWNER (pageBase pg))) = true → s.bit (R.PAGE_LOCK (pageBase pg)) = true →
      exec (.pageOwnerWrite w pg code) s = .next (s.refuse pg)) ∧
    (s.awake = true → s.matchesOwner w (s.get (R.PAGE_OWNER (pageBase pg))) = true →
      ∃ t, exec (.irqPendClear w pg mask) s = .next t ∧
        t.word (pageBase pg + 0x18) = s.word (pageBase pg + 0x18) &&& ~~~mask ∧
        ∀ a, a ≠ pageBase pg + 0x18 → t.word a = s.word a) ∧
    (s.awake = true → s.matchesOwner w (s.get (R.PAGE_OWNER (pageBase pg))) = false →
      exec (.pageLock w pg) s = .next (s.refuseNotOwner pg w) ∧
      exec (.pageOwnerWrite w pg code) s = .next (s.refuseNotOwner pg w) ∧
      exec (.irqPendClear w pg mask) s = .next (s.refuseNotOwner pg w)) ∧
    (s.awake = true → s.mayCommit w pg = false → exec (.pageDiscard w pg) s = .next (s.refuseNotOwner pg w)) ∧
    (s.awake = true → s.mayCommit w pg = true → s.bit (R.PAGE_LOCK (pageBase pg)) = true →
      exec (.pageDiscard w pg) s = .next (s.refuse pg)) ∧
    (s.awake = true → s.mayCommit w pg = true → s.bit (R.PAGE_LOCK (pageBase pg)) = false →
      ∃ t, exec (.pageDiscard w pg) s = .next t ∧ t.regs = s.regs ∧
        (∀ a, a ∈ s.committableWords w pg → (∀ e ∈ s.deferred, e.1 = pg → a ∉ s.committableWords e.2 pg) → tblFind t.stg a = none) ∧
        ∀ a, (a ∉ s.committableWords w pg ∨ ∃ e ∈ s.deferred, e.1 = pg ∧ a ∈ s.committableWords e.2 pg) →
          tblFind t.stg a = tblFind s.stg a) ∧
    (s.bit (R.PAGE_STAT_REFUSED (pageBase pg)) = false →
      (s.refuse pg).bit (R.PAGE_STAT_REFUSED (pageBase pg)) = true ∧ (s.refuse pg).stg = s.stg ∧
      ∀ a, a ≠ pageBase pg + 0x0C → a ≠ pageBase pg + 0x18 → ¬ noticeWord a → (s.refuse pg).word a = s.word a) ∧
    (s.bit (R.PAGE_STAT_REFUSED (pageBase pg)) = true → s.refuse pg = s)) ∧
  (∀ (s : State) (pg : Page) (w : Writer),
    (s.awake = false → exec (.pageCommit w pg) s = .next s) ∧
    (s.awake = true → s.mayCommit w pg = false → exec (.pageCommit w pg) s = .next (s.refuseNotOwner pg w)) ∧
    (s.awake = true → s.mayCommit w pg = true → s.pageGirth pg = true → exec (.pageCommit w pg) s = .next (s.refuse pg)) ∧
    (s.awake = true → s.mayCommit w pg = true → s.pageGirth pg = false → s.commitHeld pg = true →
      ∃ t, exec (.pageCommit w pg) s = .next t ∧ t.bit (R.PAGE_STAT_APPLYING (pageBase pg)) = true ∧ (pg, w) ∈ t.deferred ∧
        t.stg = s.stg ∧ ∀ a, a ≠ pageBase pg + 0x0C → t.word a = s.word a) ∧
    (s.awake = true → s.mayCommit w pg = true → s.pageGirth pg = false → s.commitHeld pg = false →
      exec (.pageCommit w pg) s = .next (s.commitNow w pg) ∧
      ((pg = .security ∨ pg = .lichen ∨ pg = .power ∨ pg = .latigo ∨ pg = .mem ∨ pg = .fault ∨ pg = .sched) →
        ∃ t, exec (.pageCommit w pg) s = .next t ∧
          t.get (R.PAGE_STAT_COMMITS (pageBase pg)) = (s.get (R.PAGE_STAT_COMMITS (pageBase pg)) + 1) % 256 ∧
          t.bit (R.PAGE_STAT_APPLYING (pageBase pg)) = false ∧ (t.word (pageBase pg + 0x18)).getLsbD 1 = true ∧
          (∀ a, pageBase pg + 0x40 ≤ a → a < pageBase pg + 0x1000 → tblFind t.stg a = none ∧
            t.word a = (match tblFind s.stg a with
              | some v => mergeBits (s.word a) v (BitVec.ofNat 32 (accMask a .rws))
              | none => s.word a)) ∧
          ∀ b, pageBase pg + 0x1000 ≤ b ∨ b < pageBase pg → ¬ noticeWord b → t.word b = s.word b)))

/-- Writes of a pin's bits (R36, R37): PINS_OUT and PINS_OE take the written bits of pins that the writer owns, and a clearing
write of PIN_FLT clears them; a write that would change a pin of another owner is refused there, with a class 1 NOT_OWNER record
from the pin. While no firmware runs (R391, R402) no write acts. Where the spec leaves a choice it states the model's own
(assumption logs 7, 183). -/
def Obligations.PinOwnedWrites : Prop :=
  ∀ (s : State) (w : Writer) (t : Fin 32) (n : Fin 8) (v : Byte) (mask : Word),
    (s.awake = true → (∀ m < 8, (s.get (R.PINS_OUT t) ^^^ v.toNat).testBit m = true → s.matchesOwner w (s.pinOwner t m) = true) →
      ∃ u, exec (.pinsOutWrite w t v) s = .next u ∧ u.get (R.PINS_OUT t) = v.toNat ∧
        ∀ a, a ≠ (R.PINS_OUT t).addr → (∀ m < 8, a ≠ (R.PIN_STAT_ILIM t m).addr) → ¬ noticeWord a → u.word a = s.word a) ∧
    (s.awake = true → (∀ m < 8, v.toNat.testBit m = true → s.matchesOwner w (s.pinOwner t m) = true) →
      (∃ u, exec (.pinsOutSet w t v) s = .next u ∧ u.get (R.PINS_OUT t) = s.get (R.PINS_OUT t) ||| v.toNat ∧
        ∀ a, a ≠ (R.PINS_OUT t).addr → (∀ m < 8, a ≠ (R.PIN_STAT_ILIM t m).addr) → ¬ noticeWord a → u.word a = s.word a) ∧
      ∃ u, exec (.pinsOutClr w t v) s = .next u ∧ u.get (R.PINS_OUT t) = s.get (R.PINS_OUT t) &&& (0xFF ^^^ v.toNat) ∧
        ∀ a, a ≠ (R.PINS_OUT t).addr → (∀ m < 8, a ≠ (R.PIN_STAT_ILIM t m).addr) → ¬ noticeWord a → u.word a = s.word a) ∧
    (s.awake = true → (∀ m < 8, (s.get (R.PINS_OE t) ^^^ v.toNat).testBit m = true → s.matchesOwner w (s.pinOwner t m) = true) →
      ∃ u, exec (.pinsOeWrite w t v) s = .next u ∧ u.get (R.PINS_OE t) = v.toNat ∧
        (∀ m < 8, v.toNat.testBit m = true → s.matchesOwner w (s.pinOwner t m) = true → (u.pin t m).oeArmed = true) ∧
        ∀ a, a ≠ (R.PINS_OE t).addr → u.word a = s.word a) ∧
    (s.awake = true → s.matchesOwner w (s.pinOwner t n) = false →
      exec (.pinsOutWrite w t (BitVec.ofNat 8 (s.get (R.PINS_OUT t) ^^^ 2 ^ n.val))) s = .next ((s.refusePin w t n).syncTile t) ∧
      exec (.pinsOutSet w t (BitVec.ofNat 8 (2 ^ n.val))) s = .next ((s.refusePin w t n).syncTile t) ∧
      exec (.pinsOutClr w t (BitVec.ofNat 8 (2 ^ n.val))) s = .next ((s.refusePin w t n).syncTile t) ∧
      exec (.pinsOeWrite w t (BitVec.ofNat 8 (s.get (R.PINS_OE t) ^^^ 2 ^ n.val))) s =
        .next ((s.refusePin w t n).armEnables w t (s.get (R.PINS_OE t) ^^^ 2 ^ n.val))) ∧
    (mask.toNat % 128 = 0 → exec (.pinFltClear w t n mask) s = .next s) ∧
    (s.awake = true → mask.toNat % 128 ≠ 0 → s.matchesOwner w (s.pinOwner t n) = true →
      ∃ u, exec (.pinFltClear w t n mask) s = .next u ∧
        u.get ⟨pinPage t + 0x10C + 0x40 * n, 6, 0⟩ =
          s.get ⟨pinPage t + 0x10C + 0x40 * n, 6, 0⟩ &&& (0x7F ^^^ (mask.toNat % 128)) ∧
        (mask.toNat.testBit 4 = true → u.bit (R.PIN_STAT_TRIP t n) = false)) ∧
    (s.awake = true → mask.toNat % 128 ≠ 0 → s.matchesOwner w (s.pinOwner t n) = false →
      exec (.pinFltClear w t n mask) s = .next (s.refusePin w t n)) ∧
    (s.awake = false → exec (.pinsOutWrite w t v) s = .next (s.syncTile t) ∧ exec (.pinsOutSet w t v) s = .next (s.syncTile t) ∧
      exec (.pinsOutClr w t v) s = .next (s.syncTile t) ∧ exec (.pinsOeWrite w t v) s = .next s ∧
      exec (.pinFltClear w t n mask) s = .next s) ∧
    ∃ x : State, s.refusePin w t n = x.raise (x.srcPin t n) 1 0x07 (x.writerId w) ∧ x.bit (R.PIN_FLT_NOT_OWNER t n) = true

/-- The latched estimate time, the debounced input, overloads and the sense element's reclosing (R27, R46, R55, R59, R80). A pilot
estimate (R47, R49, R55): what a pin with a function in effect publishes of it, and the runs of estimates that its criteria count.
Where the spec leaves a choice it states the model's own (assumption logs 1, 170 to 172). -/
def Obligations.PinStateCommands : Prop :=
  (∀ (s : State) (t : Fin 32) (n : Fin 8),
    (∃ u, exec (.pinEstTimeRead t n) s = .next u ∧ u.busRead = s.word (R.PIN_EST_TIME_TIME_LO t n).addr ∧
      tblFind u.latch (R.PIN_EST_TIME_TIME_HI t n).addr = some (s.word (R.PIN_EST_TIME_TIME_HI t n).addr) ∧ u.regs = s.regs) ∧
    (s.func t n = 7 → s.get (R.PIN_CFG_DIN_FILT t n) ≠ 0 →
      ∃ u, exec (.dinDebounce t n) s = .next u ∧ (u.pin t n).din = (s.pin t n).dinRaw ∧ u.regs = s.regs) ∧
    (s.func t n ≠ 7 ∨ s.get (R.PIN_CFG_DIN_FILT t n) = 0 → exec (.dinDebounce t n) s = .next s) ∧
    ((s.pin t n).overload = false →
      ∃ u, exec (.overloadStart t n) s = .next u ∧ (u.pin t n).overload = true ∧
        u.get (R.PIN_OVLD_CNT_OVLD t n) = (s.get (R.PIN_OVLD_CNT_OVLD t n) + 1) % 2 ^ 32 ∧
        u.bit (R.PIN_FLT_OVERLOAD t n) = true ∧
        u.ledger.live.overloads = bumpAt s.ledger.live.overloads (8 * t.val + n.val) (2 ^ 32) ∧
        ∀ a, a ≠ (R.PIN_OVLD_CNT_OVLD t n).addr → a ≠ (R.PIN_FLT_OVERLOAD t n).addr → a ≠ (R.PIN_STAT_ILIM t n).addr →
          ¬ noticeWord a → u.word a = s.word a) ∧
    ((s.pin t n).overload = true → exec (.overloadStart t n) s = .next s) ∧
    (∃ u, exec (.overloadEnd t n) s = .next u ∧ (u.pin t n).overload = false ∧ u.bit (R.PIN_STAT_ILIM t n) = false ∧
      ∀ a, a ≠ (R.PIN_STAT_ILIM t n).addr → u.word a = s.word a) ∧
    (s.getIdx (R.TILE_AFE_STAT_SENSE_TRIP t) n = false →
      ∃ u, exec (.snReclose t n) s = .next u ∧ (u.pin t n).snOpen = false ∧ u.regs = s.regs) ∧
    (s.getIdx (R.TILE_AFE_STAT_SENSE_TRIP t) n = true → exec (.snReclose t n) s = .next s) ∧
    ∃ u, exec (.tileTempMaxRead t) s = .next u ∧ u.busRead = s.word (R.TILE_TEMP_MAX t).addr ∧
      u.get (R.TILE_TEMP_MAX t) = 0x8000 ∧ ∀ a, a ≠ (R.TILE_TEMP_MAX t).addr → u.word a = s.word a) ∧
  (∀ (s : State) (t : Fin 32) (n : Fin 8) (est : Estimate),
    (s.func t n ≠ 0 → s.bit (R.PIN_STAT_SWITCHING t n) = false → s.domOn (domConv t) = true →
      ∃ u : State,
        exec (.pilotEstimate t n est) s = .next (((u.pilotCrit t n (if s.func t n = 14 then .openForced else .openPilot)
          (u.pin t n).openRun (u.pin t n).openGood).pilotCrit t n .shortPilot (u.pin t n).shortRun (u.pin t n).shortGood).pilotCrit
          t n .revPair (u.pin t n).pairRun (u.pin t n).pairGood) ∧
        (u.pin t n).openRun = (match s.openTh t n with
          | some th => if th < est.res then min 2 ((s.pin t n).openRun + 1) else 0
          | none => 0) ∧
        (u.pin t n).shortRun = (if shortByPilot (s.func t n) n = true ∧ est.res < s.shortTh t n then min 2 ((s.pin t n).shortRun + 1) else 0) ∧
        u.get (R.PIN_OHMS_RES t n) = min est.res 0x0FFFFFFF ∧ u.get (R.PIN_CAP t n) = min est.cap 0xFFFF ∧
        u.get (R.PIN_CAP_ESTCNT t n) = (s.get (R.PIN_CAP_ESTCNT t n) + 1) % 2 ^ 16 ∧
        u.bit (R.PIN_STAT_EST_VALID t n) = true ∧
        u.get (R.PIN_EST_TIME_TIME_LO t n) = s.time % 2 ^ 32 ∧ u.get (R.PIN_EST_TIME_TIME_HI t n) = s.time / 2 ^ 32 % 2 ^ 32) ∧
    (s.func t n = 0 ∨ s.bit (R.PIN_STAT_SWITCHING t n) = true ∨ s.domOn (domConv t) = false →
      exec (.pilotEstimate t n est) s = .next s))

/-- Wire health and protection (R29, R49, R50, R51, R59): what each condition sets, and the class 2 fault it raises from its pin
or from the V24 monitor. A detection is a change of a condition from absent to live. Where the spec leaves a choice it states the
model's own (assumption logs 1, 12). -/
def Obligations.WireAndProtectionFaults : Prop :=
  ∀ (s : State) (t : Fin 32) (n : Fin 8) (w : Writer) (c : Crit),
    (s.awake = false → exec (.senseTripClear w t n) s = .next s) ∧
    ((s.pin t n).doutOn = true →
      ∃ u : State, exec (.dout24Trip t n) s = .next (u.raise (u.srcPin t n) 2 0x04 0) ∧
        u.getIdx (R.PINS_OUT t) n = false ∧ u.bit (R.PIN_STAT_TRIP t n) = true ∧ u.bit (R.PIN_FLT_TRIP t n) = true ∧
        (u.pin t n).doutOn = false) ∧
    ((s.pin t n).doutOn = false → exec (.dout24Trip t n) s = .next s) ∧
    (s.bit (R.PIN_STAT_SWITCHING t n) = false →
      (s.func t n = 4 ∨ s.func t n = 6 → exec (.shortTExpiry t n .openCompliance) s = .next (s.critMet t n .openCompliance)) ∧
      (s.func t n = 4 ∨ s.func t n = 6 ∨ s.func t n = 7 ∨ s.func t n = 13 →
        exec (.reversedPolarity t n) s = .next (s.critMet t n .revPolarity)) ∧
      (shortByCurrent (s.func t n) n = true →
        exec (.shortTExpiry t n .shortCurrent) s = .next ((s.putB (R.PIN_STAT_ILIM t n) true).critMet t n .shortCurrent)) ∧
      (s.func t n = 8 → (s.pin t n).doutOn = false →
        exec (.shortTExpiry t n .shortSupply) s = .next (s.critMet t n .shortSupply))) ∧
    (s.bit (condStat t n (critCond c)) = false →
      (∃ u : State, s.critMet t n c = u.raise (u.srcPin t n) 2 (condCause (critCond c))
          (if critCond c = 3 then 0 else (u.word (pinPage t + 0x118 + 0x40 * n)).toNat) ∧
        u.bit (condStat t n (critCond c)) = true ∧ u.bit (condFlt t n (critCond c)) = true ∧ (u.pin t n).crits.contains c = true)) ∧
    (s.bit (condStat t n (critCond c)) = true →
      (s.critMet t n c).regs = s.regs ∧ ((s.critMet t n c).pin t n).crits.contains c = true ∧ (s.critMet t n c).flt = s.flt) ∧
    (s.v24Rev = false →
      ∃ u : State, exec .v24Reversed s = .next (u.raise (u.srcDev 0x10) 2 0x03 0) ∧ u.v24Rev = true ∧ u.flt = s.flt) ∧
    (s.v24Rev = true → exec .v24Reversed s = .next s) ∧
    (∃ u, exec .v24ReverseClear s = .next u ∧ u.v24Rev = false ∧ u.flt = s.flt) ∧
    exec (.criterionClear t n .shortCurrent) s = .next ((s.putB (R.PIN_STAT_ILIM t n) false).critGone t n .shortCurrent) ∧
    (c = .openCompliance ∨ c = .shortSupply ∨ c = .revPolarity → exec (.criterionClear t n c) s = .next (s.critGone t n c)) ∧
    ((s.pin t n).crits = [c] → (s.critGone t n c).bit (condStat t n (critCond c)) = false ∧ ((s.critGone t n c).pin t n).crits = []) ∧
    (s.func t n = 1 → s.bit (R.TILE_AFE_SENSE t n) = true → (s.pin t n).snOpen = false →
      ∃ u : State, exec (.senseTrip t n) s = .next (u.raise (u.srcPin t n) 2 0x05 0) ∧ (u.pin t n).snOpen = true ∧
        u.getIdx (R.TILE_AFE_STAT_SENSE_TRIP t) n = true ∧ u.flt = s.flt) ∧
    (s.awake = true → s.matchesOwner w (s.pinOwner t n) = true → s.getIdx (R.TILE_AFE_STAT_SENSE_TRIP t) n = true →
      ∃ u : State, exec (.senseTripClear w t n) s = .next (u.ackCause (u.unitId t) (0x100 + n) [0x05]) ∧
        u.getIdx (R.TILE_AFE_STAT_SENSE_TRIP t) n = false ∧
        ∀ a, a ≠ (R.TILE_AFE_STAT_SENSE_TRIP t).addr → u.word a = s.word a) ∧
    (s.awake = true → s.matchesOwner w (s.pinOwner t n) = false → exec (.senseTripClear w t n) s = .next (s.refusePin w t n))

/-- Function attachment, lanes, references and tile temperature (R42, R69 to R71, R73 to R75, R437): closing after the net check,
protection and its clearing, the reference error that two bad checks in a row set, warnings, the shutdown of a hot tile and its
restart. Where the spec leaves a choice it states the model's own (assumption logs 1, 170 to 172). -/
def Obligations.TileCommands : Prop :=
  ∀ (s : State) (t : Fin 32) (n : Fin 8) (w : Writer) (dev zero temp : Int) (lane : Fin 16) (c : LaneConn),
    (s.awake = false → exec (.laneProtClear w t c) s = .next s ∧ exec (.tileRestart w t) s = .next s) ∧
    (s.bit (R.PIN_STAT_SWITCHING t n) = true → s.driversReady t = true → groupOf (s.pin t n).nextFunc n = [n.val] →
      exec (.functionAttach t n) s = .next ((s.attach t n).syncSets t)) ∧
    (s.bit (R.PIN_STAT_SWITCHING t n) = false ∨ s.driversReady t = false → exec (.functionAttach t n) s = .next s) ∧
    (s.bit (R.TILE_LANE_STAT_SEG_PENDING t) = true → s.domReady (domField t) = true →
      exec (.laneSwitchClose t) s = .next (if (s.laneClose t).pinsSettled t then (s.laneClose t).finishCommit (.pins t) else s.laneClose t)) ∧
    (s.bit (R.TILE_LANE_STAT_SEG_PENDING t) = false ∨ s.domReady (domField t) = false → exec (.laneSwitchClose t) s = .next s) ∧
    exec (.laneProtection t lane) s = .next ((s.netTiles t lane).foldl (fun s u =>
      [0, 1].foldl (fun s k => s.protDrv lane u k) (s.eachPin fun s n => s.protPin lane u n)) s) ∧
    ((s.pin t n).slClosed = true → s.get (R.PIN_CFG_LANE t n) = lane →
      ∃ u : State, s.protPin lane t n = u.raise (u.srcPin t n) 2 0x06 lane ∧ (u.pin t n).slClosed = false ∧
        u.getIdx (R.TILE_LANE_STAT_PIN_PROT t) n = true) ∧
    (s.awake = true → s.matchesOwner w (s.pinOwner t (s.protBit t c).2.2) = false →
      exec (.laneProtClear w t c) s = .next (s.refusePin w t (s.protBit t c).2.2)) ∧
    (s.awake = true → s.matchesOwner w (s.pinOwner t (s.protBit t c).2.2) = true → s.getIdx (s.protBit t c).1 (s.protBit t c).2.1 = true →
      ∃ u : State, exec (.laneProtClear w t c) s =
          .next ((u.ackCause (s.unitId t) (0x100 + (s.protBit t c).2.2) [0x06]).modTile t fun x =>
            { x with protWait := c :: x.protWait.erase c }) ∧
        u = s.putIdx (s.protBit t c).1 (s.protBit t c).2.1 false) ∧
    (s.awake = true → s.matchesOwner w (s.pinOwner t n) = true → s.getIdx (R.TILE_LANE_STAT_PIN_PROT t) n = true →
      ∃ u : State, exec (.laneProtClear w t (.sl n)) s = .next ((u.ackCause (s.unitId t) (0x100 + n) [0x06]).modTile t fun x =>
          { x with protWait := .sl n :: x.protWait.erase (.sl n) }) ∧ u.getIdx (R.TILE_LANE_STAT_PIN_PROT t) n = false ∧
        ∀ a, a ≠ (R.TILE_LANE_STAT_PIN_PROT t).addr → u.word a = s.word a) ∧
    ((s.tile t).protWait.contains (.sl n) = true → s.func t n = 15 → s.bit (R.PIN_STAT_SWITCHING t n) = false →
      s.getIdx (R.TILE_LANE_STAT_PIN_PROT t) n = false → s.domReady (domField t) = true →
      ∃ u, exec (.laneReconnect t (.sl n)) s = .next u ∧ (u.pin t n).slClosed = true ∧
        (u.tile t).protWait = (s.tile t).protWait.erase (.sl n) ∧ u.regs = s.regs) ∧
    (∀ k : Fin 2, (s.tile t).protWait.contains (.drv k) = true →
      ∃ u, u = s.modTile t (fun x => { x with protWait := x.protWait.erase (.drv k) }) ∧
        exec (.laneReconnect t (.drv k)) s = .next ((u.checkDrv t k).closeDrv t k)) ∧
    (500 < dev ∧ dev ≤ 32767 → -400 ≤ zero ∧ zero ≤ 400 → 1 ≤ (s.tile t).refBad → s.bit (R.TILE_REF_STAT_REF_ERR t) = false →
      ∃ u : State, exec (.refCheck t dev zero) s = .next (u.raise (u.srcTile t (.pins t)) 2 0x10 (u.refStat t)) ∧
        u.bit (R.TILE_REF_STAT_REF_ERR t) = true ∧ u.get (R.TILE_REF_STAT_DEV t) = dev.toNat) ∧
    (-500 ≤ dev ∧ dev ≤ 500 → -400 ≤ zero ∧ zero ≤ 400 →
      ∃ u : State, exec (.refCheck t dev zero) s = .next u ∧ u.get (R.TILE_REF_STAT_DEV t) = lowBits 16 dev ∧
        (u.tile t).refBad = 0 ∧ (u.tile t).zeroBad = 0 ∧
        (1 ≤ (s.tile t).refGood → u.bit (R.TILE_REF_STAT_REF_ERR t) = false) ∧
        ∀ a, a ≠ (R.TILE_REF_STAT_DEV t).addr → u.word a = s.word a) ∧
    (s.domOn (domConv t) = true → -32768 ≤ temp → temp < 1920 →
      temp < sext 16 (s.get (R.TILE_TEMP_WARN_WARN_TH t)) ∨ s.bit (R.TILE_TEMP_WARN t) = true →
      ∃ u, exec (.tempReading t temp) s = .next u ∧ u.get (R.TILE_TEMP t) = lowBits 16 temp ∧
        u.bit (R.TILE_TEMP_VALID t) = true ∧ (u.tile t).hot = 0 ∧
        u.get (R.TILE_TEMP_MAX t) = (if sext 16 (s.get (R.TILE_TEMP_MAX t)) < temp then lowBits 16 temp else s.get (R.TILE_TEMP_MAX t)) ∧
        u.bit (R.TILE_TEMP_WARN t) = (s.bit (R.TILE_TEMP_WARN t) && decide (sext 16 (s.get (R.TILE_TEMP_WARN_WARN_TH t)) - 32 < temp)) ∧
        ∀ a, a ≠ (R.TILE_TEMP t).addr → a ≠ (R.TILE_TEMP_MAX t).addr → u.word a = s.word a) ∧
    (s.domOn (domConv t) = true → temp < 1920 → sext 16 (s.get (R.TILE_TEMP_WARN_WARN_TH t)) ≤ temp → s.bit (R.TILE_TEMP_WARN t) = false →
      -32768 ≤ temp →
      ∃ u : State, exec (.tempReading t temp) s =
          .next ((u.raise (u.srcTile t (.pins t)) 0 0x62 (lowBits 16 temp)).modTile t fun x => { x with hot := 0 }) ∧
        u.get (R.TILE_TEMP t) = lowBits 16 temp ∧ u.bit (R.TILE_TEMP_WARN t) = true) ∧
    (s.domOn (domConv t) = true → 1920 ≤ temp → temp ≤ 32767 → s.bit (R.TILE_TEMP_WARN t) = true → s.bit (R.TILE_TEMP_SHUTDOWN t) = false →
      sext 16 (s.get (R.TILE_TEMP_WARN_WARN_TH t)) ≤ 1920 → 1 ≤ (s.tile t).hot →
      ∃ u : State, exec (.tempReading t temp) s = .next ((u.abandonSwitches t).raise ((u.abandonSwitches t).srcTile t (.pins t)) 3 0x11
          (lowBits 16 temp)) ∧ u.bit (R.TILE_TEMP_SHUTDOWN t) = true) ∧
    (s.domOn (domConv t) = false → exec (.tempReading t temp) s = .next s) ∧
    (s.awake = true → s.matchesOwner w (s.get (R.PAGE_OWNER (pinPage t))) = true → s.bit (R.TILE_TEMP_SHUTDOWN t) = true →
      sext 16 (s.get (R.TILE_TEMP t)) < sext 16 (s.get (R.TILE_TEMP_WARN_WARN_TH t)) →
      ∃ u : State, exec (.tileRestart w t) s = .next ((u.endActive fun a => a.unit = s.unitId t).restartTile t) ∧
        u.bit (R.TILE_TEMP_SHUTDOWN t) = false ∧ ∀ a, a ≠ (R.TILE_TEMP_SHUTDOWN t).addr → u.word a = s.word a) ∧
    (s.awake = true → s.matchesOwner w (s.get (R.PAGE_OWNER (pinPage t))) = false →
      exec (.tileRestart w t) s = .next (s.refuseNotOwner (.pins t) w))

/-- Sequencer and triggers (R85 to R87, R89): a pass runs at an instant of its grid when the sequencer runs, in triggered mode
only on a trigger, and converts the slots in order; a trigger during a pass, or before the pass of the last one, sets TRIG_OVR;
when a pass has ended its words go to the decimators and the frames, and what a commit left waiting takes effect. Where the spec
leaves a choice it states the model's own (assumption logs 1, 42, 173 to 175). -/
def Obligations.SequencerCommands : Prop :=
  ∀ (s v : State) (t : Fin 32) (w : Writer) (cs : List Conv),
    (s.awake = false → exec (.adcTrigStart w t) s = .next s) ∧
    (v = (if s.passActive t = true ∧ s.passStart t = none then s else s.passBoundary t) →
      (∀ u : Nat, v.passStart t = some u → v.bit (R.TILE_ADC_STAT_RUNNING t) = true →
        v.bit (R.TILE_ADC_CTRL_MODE t) = false ∨ (v.tile t).passRun = true → (v.tile t).intlvEnter = false →
        ∃ x y : State, x = (v.syncSets t).trigSource (0x240 + t) ∧ y = State.passSlots t (passConvs (x.seqLen t) cs) 0 u x ∧
          exec (.seqPass t cs) s = .next (y.modTile t fun z =>
            { z with passNo := (z.passNo + 1) % 32, passRun := false, passEnd := u + y.tAct t, passFrom := u + y.tAct t })) ∧
      (v.passStart t = none ∨ v.bit (R.TILE_ADC_STAT_RUNNING t) = false ∨
          v.bit (R.TILE_ADC_CTRL_MODE t) = true ∧ (v.tile t).passRun = false ∨ (v.tile t).intlvEnter = true →
        exec (.seqPass t cs) s = .next v)) ∧
    (∀ u : Nat, s.passStart t = some u → 4 * s.time ≤ u ∧ u < 4 * s.time + 4 ∧
      (s.bit (R.TILE_ADC_CTRL_MODE t) = false → 0 < s.get (R.TILE_ADC_SEQ_PER t) →
        u % s.get (R.TILE_ADC_SEQ_PER t) = s.get (R.TILE_ADC_PHASE t) % s.get (R.TILE_ADC_SEQ_PER t))) ∧
    (∀ (cv : Conv) (k u : Nat), k < s.seqLen t → State.passSlots t (cv :: cs) k u s =
      State.passSlots t cs (k + 1) (u + s.slotDur t k) (s.slotWord t k cv ((u + max 100 (s.get (R.TILE_ADC_SLOT_ACQ t k))) / 4))) ∧
    (s.bit (R.TILE_ADC_STAT_RUNNING t) = true → s.bit (R.TILE_ADC_CTRL_MODE t) = true →
      (s.tile t).passRun = false → s.passActive t = false →
      ∃ u, exec (.adcTrigger t) s = .next u ∧ (u.tile t).passRun = true ∧ (u.tile t).passFrom = 4 * s.time + 80 ∧ u.regs = s.regs) ∧
    (s.bit (R.TILE_ADC_STAT_RUNNING t) = true → s.bit (R.TILE_ADC_CTRL_MODE t) = true →
      (s.tile t).passRun = true ∨ s.passActive t = true →
      ∃ u, exec (.adcTrigger t) s = .next u ∧ u.bit (R.TILE_ADC_STAT_TRIG_OVR t) = true ∧ u.tiles = s.tiles ∧
        ∀ a, a ≠ (R.TILE_ADC_STAT_TRIG_OVR t).addr → u.word a = s.word a) ∧
    (s.bit (R.TILE_ADC_CTRL_MODE t) = false ∨ s.bit (R.TILE_ADC_STAT_RUNNING t) = false → exec (.adcTrigger t) s = .next s) ∧
    (s.awake = true → s.matchesOwner w (s.get (R.PAGE_OWNER (inPage t))) = true → exec (.adcTrigStart w t) s = exec (.adcTrigger t) s) ∧
    (s.awake = true → s.matchesOwner w (s.get (R.PAGE_OWNER (inPage t))) = false →
      exec (.adcTrigStart w t) s = .next (s.refuseNotOwner (.input t) w)) ∧
    (s.passActive t = true → exec (.passBoundaryApply t) s = .next s) ∧
    (s.passActive t = false → exec (.passBoundaryApply t) s = .next (s.passBoundary t)) ∧
    ((∃ a ∈ inputLate t, (s.passClose t).waits a = true) →
      s.passBoundary t = ((s.passClose t).inputApply t).finishCommit (.input t)) ∧
    ((∀ a ∈ inputLate t, (s.passClose t).waits a = false) → s.passBoundary t = s.passClose t) ∧
    ((s.tile t).passOut = [] → s.passClose t = s) ∧
    (∀ e : Nat × Word × Nat, (s.tile t).passOut = [e] → ∃ x : State,
      x = (s.modTile t fun y => { y with passOut := [] }).feedDecs t e.1 e.2.1 e.2.2 ∧
      (x.bit (R.TILE_ADC_SLOT_RAW_EN t e.1) = true → s.passClose t = x.emit t e.1 e.2.1 e.2.2) ∧
      (x.bit (R.TILE_ADC_SLOT_RAW_EN t e.1) = false → s.passClose t = x))

/-- Words and frames (R91, R94, R112 to R114, R449): a sample word holds VALUE, its flags and SEQ in their places; a decimator
makes one word of m × 2^h input words and consumes them; SETTLE marks it while its counter has not run out, and OVR where a stage
saturated; a finished frame goes to the scheduler as one DATA item. Interleave (R98, R106 to R111): it is entered when a pass
ends, its words come at device times that are multiples of 50 ns, from converter A on even ones and from B on odd ones, and it is
left with the frames flushed and the sequencer as RUN says. Where the spec leaves a choice it states the model's own (assumption
logs 1, 5, 173 to 175). -/
def Obligations.SamplesAndInterleave : Prop :=
  ((∀ (v : Int) (fl seq : Nat), -524288 ≤ v → v ≤ 524287 →
    wordValue (mkWord v fl seq) = v ∧ wordFlags (mkWord v fl seq) = fl % 128 ∧ getBits (mkWord v fl seq) 4 0 = seq % 32) ∧
  ∀ (s : State) (t : Fin 32) (d : Fin 8) (out : Fin 25) (e : Nat × Frame) (n : Nat) (ws : List Word),
    (s.bit (R.TILE_DEC_CFG_EN t d) = true → n = s.decM t d * 2 ^ s.decH t d → n ≤ (s.dec t d).inq.length →
      ws = ((s.dec t d).inq.take n).map (·.1) →
      ∃ (u : State) (fl set : Nat), exec (.decimatorOutput t d) s = .next (u.emit t (17 + d)
          (mkWord (decChain { s.dec t d with inq := (s.dec t d).inq.drop n } (s.decQ t d) (s.decM t d) (s.decH t d)
            (ws.map wordValue)).2.1 fl (s.dec t d).seq) ((s.dec t d).inq.getD (n - 1) (0, 0)).2) ∧
        set = (if (ws.any fun w => (wordFlags w).testBit 5) = true then s.decLout t d else s.get (R.TILE_DEC_STAT_COUNT t d)) ∧
        fl.testBit 5 = decide (0 < set) ∧
        ((decChain { s.dec t d with inq := (s.dec t d).inq.drop n } (s.decQ t d) (s.decM t d) (s.decH t d)
          (ws.map wordValue)).2.2 = true → fl.testBit 6 = true) ∧
        u.get (R.TILE_DEC_STAT_COUNT t d) = (set - 1) % 65536 ∧
        (u.dec t d).inq = (s.dec t d).inq.drop n ∧ (u.dec t d).seq = ((s.dec t d).seq + 1) % 32 ∧
        ∀ a, a ≠ (R.TILE_DEC_STAT_COUNT t d).addr → u.word a = s.word a) ∧
    (s.bit (R.TILE_DEC_CFG_EN t d) = false ∨ (s.dec t d).inq.length < s.decM t d * 2 ^ s.decH t d →
      exec (.decimatorOutput t d) s = .next s) ∧
    ((s.tile t).ready.find? (fun f => f.1 = out.val) = some e →
      ∃ u : State, exec (.frameEmit t out) s = .next (u.event (.input t) 5
        { sub := some out.val, stream := some e.2.stream, pri := some (u.stream e.2.stream).pri }) ∧
        (u.tile t).ready = (s.tile t).ready.erase e ∧ u.sched.offers = s.sched.offers ++ [{ item := s.frameItem t e.2 }] ∧
        u.regs = s.regs) ∧
    ((s.tile t).ready.find? (fun f => f.1 = out.val) = none → exec (.frameEmit t out) s = .next s) ∧
    (s.frameItem t e.2).tag.typ = 1 ∧ (s.frameItem t e.2).tag.len = 4 * e.2.words.length ∧
      (s.frameItem t e.2).tag.time = e.2.time ∧ (s.frameItem t e.2).tag.src = s.unitId t) ∧
  (∀ (s : State) (t : Fin 32) (cv : Conv),
    ((s.tile t).intlvEnter = true → s.passActive t = false →
      ∃ u : State, exec (.intlvEntry t) s = .next ((u.correctSkew t).suspSync t) ∧ u.bit (R.TILE_ADC_STAT_INTLV_ACT t) = true ∧
        u.bit (R.TILE_ADC_STAT_RUNNING t) = false ∧ (u.tile t).intlvEnter = false ∧ (u.tile t).intlvSeq = 0) ∧
    ((s.tile t).intlvEnter = false ∨ s.passActive t = true → exec (.intlvEntry t) s = .next s) ∧
    (s.bit (R.TILE_ADC_STAT_INTLV_ACT t) = false → exec (.intlvSample t cv) s = .next s ∧ exec (.intlvExit t) s = .next s) ∧
    (s.time % 50 ≠ 0 → exec (.intlvSample t cv) s = .next s) ∧
    (s.bit (R.TILE_ADC_STAT_INTLV_ACT t) = true → s.time % 50 = 0 → (s.tile t).passFrom ≤ 4 * s.time →
      ∃ (u : State) (w : Word), exec (.intlvSample t cv) s = .next ((u.feedDecs t 16 w s.time).emit t 16 w s.time) ∧
        wordValue w = (if cv.clip = true then (if (s.convert t 0 cv.x16).1 < 0 then -524288 else 524287) else (s.convert t 0 cv.x16).1) ∧
        w.getLsbD 5 = true ∧ w.getLsbD 11 = (cv.clip || (s.convert t 0 cv.x16).2) ∧
        (u.tile t).intlvSeq = ((s.tile t).intlvSeq + 1) % 32 ∧ (u.tile t).passFrom = 4 * s.time + 200 ∧
        (s.time / 50 % 2 = 0 → (u.tile t).recoverB = (s.tile t).recoverB) ∧
        (s.time / 50 % 2 = 1 → (u.tile t).recover = (s.tile t).recover)) ∧
    ((s.tile t).intlvExit = false → exec (.intlvExit t) s = .next s) ∧
    ((s.tile t).intlvExit = true → s.bit (R.TILE_ADC_STAT_INTLV_ACT t) = true → s.bit (R.TILE_ADC_CTRL_RUN t) = false →
      ∃ u : State, exec (.intlvExit t) s = .next (u.suspSync t) ∧ u.bit (R.TILE_ADC_STAT_INTLV_ACT t) = false ∧
        (u.tile t).intlvExit = false ∧ (u.tile t).part = ((s.flushTile t).tile t).part ∧
        (u.tile t).ready = ((s.flushTile t).tile t).ready) ∧
    ((s.tile t).intlvExit = true → s.bit (R.TILE_ADC_STAT_INTLV_ACT t) = true → s.bit (R.TILE_ADC_CTRL_RUN t) = true →
      ∃ u : State, exec (.intlvExit t) s = .next (u.startSeq t) ∧ u.bit (R.TILE_ADC_STAT_INTLV_ACT t) = false ∧
        (u.tile t).intlvExit = false ∧ (u.startSeq t).bit (R.TILE_ADC_STAT_RUNNING t) = true))

/-- A write of OUT_CODE (R122, R123, R131, R133, R134), as a command and as the item that a tile executes, with the item's SRC for
its writer and none in class 4: refused from a writer that does not own the pin; ignored by a pin that serves no AOUT function;
accepted otherwise, when OUT_TARGET takes the code, which is deferred, held back by FAULT_HOLD, or becomes the slew limiter's
target. Where the spec leaves a choice it states the model's own (assumption log 7). -/
def Obligations.OutCodeWrites : Prop :=
  ∀ (s : State) (w : Writer) (t : Fin 32) (n : Fin 8) (code : BitVec 16),
    (s.awake = false → exec (.outCodeWrite w t n code) s = .next s) ∧
    (s.awake = true → s.matchesOwner w (s.pinOwner t n) = false → exec (.outCodeWrite w t n code) s = .next (s.refusePin w t n)) ∧
    (s.awake = true → s.matchesOwner w (s.pinOwner t n) = true →
      s.bit (R.PIN_STAT_SWITCHING t n) = true ∨ (s.func t n ≠ 3 ∧ s.func t n ≠ 4) →
      ∃ u : State, exec (.outCodeWrite w t n code) s = .next (u.event (.output t) 1 { sub := some n.val }) ∧
        u.bit (R.OUT_STAT_IGN t n) = true ∧ ∀ a, a ≠ (R.OUT_STAT_IGN t n).addr → u.word a = s.word a) ∧
    (s.awake = true → s.matchesOwner w (s.pinOwner t n) = true → s.bit (R.PIN_STAT_SWITCHING t n) = false → s.func t n = 3 ∨ s.func t n = 4 →
      (s.outHeld t n = true ∨ s.bit (R.OUT_STAT_RCHG t n) = true →
        ∃ u : State, exec (.outCodeWrite w t n code) s = .next u ∧ u.get (R.OUT_TARGET t n) = code.toNat ∧
          u.get (R.OUT_WRCNT_COUNT t n) = (s.get (R.OUT_WRCNT_COUNT t n) + 1) % 2 ^ 32 ∧
          u.bit (R.OUT_STAT_DEFER t n) = true ∧ (u.pin t n).defer = some code.toNat ∧ (u.pin t n).wdogLive = false ∧
          u.get (R.OUT_READ_CORE t n) = s.get (R.OUT_READ_CORE t n)) ∧
      (s.outHeld t n = false → s.bit (R.OUT_STAT_RCHG t n) = false → s.bit (R.OUT_STAT_FAULT_HOLD t n) = true →
        ∃ u : State, exec (.outCodeWrite w t n code) s = .next u ∧ u.get (R.OUT_TARGET t n) = code.toNat ∧
          u.get (R.OUT_WRCNT_COUNT t n) = (s.get (R.OUT_WRCNT_COUNT t n) + 1) % 2 ^ 32 ∧
          ((s.pin t n).rangeStale = false → u.bit (R.OUT_STAT_STALE t n) = false) ∧
          u.bit (R.OUT_STAT_FAULT_HOLD t n) = true ∧ u.get (R.OUT_READ_CORE t n) = s.get (R.OUT_READ_CORE t n) ∧
          (u.pin t n).limit = (s.pin t n).limit) ∧
      (s.outHeld t n = false → s.bit (R.OUT_STAT_RCHG t n) = false → s.bit (R.OUT_STAT_FAULT_HOLD t n) = false →
        ∃ u : State, exec (.outCodeWrite w t n code) s = .next (u.setLimit t n code.toNat) ∧
          u.get (R.OUT_TARGET t n) = code.toNat ∧ u.bit (R.OUT_STAT_STALE t n) = false ∧
          u.get (R.OUT_WRCNT_COUNT t n) = (s.get (R.OUT_WRCNT_COUNT t n) + 1) % 2 ^ 32 ∧
          u.get (R.OUT_READ_CORE t n) = s.get (R.OUT_READ_CORE t n))) ∧
    (∀ it, s.tileItem t 3 = some it → exec (.setpointExecute t) s = .next
      ((s.writeOutCode (writerOfSrc it.tag.src) t (fromLe it.payload / 2 ^ 16 % 8) (fromLe it.payload % 2 ^ 16)).executed
        it.tag.stream it.tag.seq)) ∧
    (∀ it, s.tileItem t 4 = some it → exec (.pinsOutExecute t) s = .next
      (((s.pinBits (writerOfSrc it.tag.src) t (R.PINS_OUT t) (fromLe it.payload % 256) (fromLe it.payload / 256 % 256)).syncTile
        t).executed it.tag.stream it.tag.seq)) ∧
    (s.tileItem t 3 = none → exec (.setpointExecute t) s = .next s) ∧
    (s.tileItem t 4 = none → exec (.pinsOutExecute t) s = .next s) ∧
    (s.bit R.FLT_STAT_C4 = true → s.tileItem t 3 = none ∧ s.tileItem t 4 = none)

/-- The output stage (R124, R127, R129, R131 to R133, R135): a slew step moves the code at the core towards the limiter's target
by at most STEP; a deglitch hold ends with the stage on the core's code; a watchdog expiry is a class 2 fault; FAULT_HOLD clears
only when its event is over; a range change disconnects at mid-scale and reconnects there in the new range, with the code written
since, unless FAULT_HOLD or the girth (R316) keeps that from the stage. Sine generators (R136 to R139): at a core clock the
accumulator advances by FTW and gives the code of R137; at RESYNC it starts from 0 with the waiting FTW, AMP and PHOFF; AMP and
PHOFF that wait take effect together; a generator that does not run gives 0x8000. Where the spec leaves a choice it states the
model's own (assumption log 7). -/
def Obligations.OutputStageCommands : Prop :=
  (∀ (s : State) (t : Fin 32) (n : Fin 8) (w : Writer),
    (s.awake = false → exec (.faultHoldClear w t n) s = .next s) ∧
    (isOutFunc (s.func t n) = true → s.bit (R.PIN_STAT_SWITCHING t n) = false → s.outHeld t n = false →
      s.get (R.OUT_READ_CORE t n) ≠ (s.pin t n).limit → (s.pin t n).limit < 65536 →
      s.domReady (domConv t) = true →
      ∃ u : State, exec (.slewStep t n) s = .next u ∧ (u.pin t n).limit = (s.pin t n).limit ∧
        u.get (R.OUT_READ_CORE t n) = (if (s.slewOf t n).1 = true then
          stepToward (s.get (R.OUT_READ_CORE t n)) (s.pin t n).limit (max (s.slewOf t n).2 1) else (s.pin t n).limit)) ∧
    (s.get (R.OUT_READ_CORE t n) = (s.pin t n).limit ∨ isOutFunc (s.func t n) = false ∨ s.bit (R.PIN_STAT_SWITCHING t n) = true ∨
        s.outHeld t n = true ∨ s.domReady (domConv t) = false → exec (.slewStep t n) s = .next s) ∧
    (s.bit (R.OUT_STAT_RCHG t n) = false → s.bit (R.OUT_STAT_FAULT_HOLD t n) = false →
      s.slewOf t n = (s.bit (R.OUT_CFG_SLEW_EN t n), s.get (R.OUT_SLEW_STEP t n))) ∧
    (s.bit (R.OUT_STAT_DG_HOLD t n) = true →
      ∃ u : State, exec (.deglitchHoldEnd t n) s = .next u ∧ u.bit (R.OUT_STAT_DG_HOLD t n) = false ∧
        (u.pin t n).stage = (s.pin t n).stage.map (fun _ => s.get (R.OUT_READ_CORE t n)) ∧
        ∀ a, a ≠ (R.OUT_STAT_DG_HOLD t n).addr → u.word a = s.word a) ∧
    (s.bit (R.OUT_STAT_DG_HOLD t n) = false → exec (.deglitchHoldEnd t n) s = .next s) ∧
    (s.get (R.OUT_WDOG_TIMEOUT t n) ≠ 0 → s.func t n = 3 ∨ s.func t n = 4 → s.bit (R.PIN_STAT_SWITCHING t n) = false →
      (s.pin t n).wdogLive = false →
      exec (.outWdogExpiry t n) s = .next ((s.outWdog t n).raise ((s.outWdog t n).srcOut t n) 2 0x14 0)) ∧
    (s.get (R.OUT_WDOG_TIMEOUT t n) = 0 ∨ (s.pin t n).wdogLive = true → exec (.outWdogExpiry t n) s = .next s) ∧
    (s.awake = true → s.matchesOwner w (s.pinOwner t n) = true → s.bit (R.OUT_STAT_FAULT_HOLD t n) = true → s.faultPersists t n = false →
      exec (.faultHoldClear w t n) s = .next (s.outRelease t n)) ∧
    (s.awake = true → s.matchesOwner w (s.pinOwner t n) = true → s.faultPersists t n = true ∨ s.bit (R.OUT_STAT_FAULT_HOLD t n) = false →
      exec (.faultHoldClear w t n) s = .next s) ∧
    (s.awake = true → s.matchesOwner w (s.pinOwner t n) = false → exec (.faultHoldClear w t n) s = .next (s.refusePin w t n)) ∧
    (s.bit (R.OUT_STAT_RCHG t n) = true → s.rotHold t n = false → s.get (R.OUT_READ_CORE t n) = 0x8000 →
      ∃ u : State, exec (.rangeChangeDisconnect t n) s = .next u ∧ u.bit (R.OUT_STAT_DISC t n) = true ∧ (u.pin t n).stage = none ∧
        ∀ a, a ≠ (R.OUT_STAT_DISC t n).addr → u.word a = s.word a) ∧
    (s.bit (R.OUT_STAT_RCHG t n) = true → s.bit (R.OUT_STAT_DISC t n) = true → s.domReady (domField t) = true →
      (s.pin t n).rchgFault = false → rangeFits (s.func t n) (s.get (R.OUT_CFG_ORANGE t n)) = true →
      (s.pin t n).defer = none ∨ s.tileGirth t = false →
      ∃ u : State, u.bit (R.OUT_STAT_RCHG t n) = false ∧ u.bit (R.OUT_STAT_DISC t n) = false ∧
        u.get (R.OUT_STAT_ORANGE_ACT t n) = s.get (R.OUT_CFG_ORANGE t n) ∧ u.bit (R.OUT_STAT_DEFER t n) = false ∧
        u.get (R.OUT_READ_CORE t n) = 0x8000 ∧ (u.pin t n).stage = some 0x8000 ∧
        ((s.pin t n).defer = none → (s.pin t n).rampBack = false →
          u.bit (R.OUT_STAT_STALE t n) = true ∧ exec (.rangeChangeReconnect t n) s = .next ((u.outFinish t).rotResume t)) ∧
        ((s.pin t n).defer = none → (s.pin t n).rampBack = true → s.bit (R.OUT_STAT_FAULT_HOLD t n) = false →
          exec (.rangeChangeReconnect t n) s = .next (((u.setLimit t n (s.get (R.OUT_TARGET t n))).outFinish t).rotResume t)) ∧
        ∀ c, (s.pin t n).defer = some c → s.bit (R.OUT_STAT_FAULT_HOLD t n) = false →
          u.get (R.OUT_TARGET t n) = c % 2 ^ 16 ∧ u.bit (R.OUT_STAT_STALE t n) = false ∧
          exec (.rangeChangeReconnect t n) s = .next (((u.setLimit t n c).outFinish t).rotResume t)) ∧
    (s.bit (R.OUT_STAT_RCHG t n) = true → s.bit (R.OUT_STAT_DISC t n) = true → (s.pin t n).defer = none →
      ((s.pin t n).rchgFault = true ∧ s.bit (R.OUT_CFG_FAULT_DISC t n) = true) ∨
        rangeFits (s.func t n) (s.get (R.OUT_CFG_ORANGE t n)) = false ∨ s.domReady (domField t) = false →
      ∃ u : State, exec (.rangeChangeReconnect t n) s = .next ((u.outFinish t).rotResume t) ∧
        u.bit (R.OUT_STAT_RCHG t n) = false ∧ u.bit (R.OUT_STAT_DISC t n) = true ∧ (u.pin t n).stage = none) ∧
    (∀ c, s.bit (R.OUT_STAT_RCHG t n) = true → s.bit (R.OUT_STAT_DISC t n) = true → (s.pin t n).defer = some c →
      s.bit (R.OUT_STAT_FAULT_HOLD t n) = true ∨ s.tileGirth t = true →
      ∃ u : State, exec (.rangeChangeReconnect t n) s = .next ((u.outFinish t).rotResume t) ∧ u.bit (R.OUT_STAT_RCHG t n) = false ∧
        u.get (R.OUT_TARGET t n) = c % 2 ^ 16 ∧ u.bit (R.OUT_STAT_STALE t n) = true ∧
        u.bit (R.OUT_STAT_DEFER t n) = s.tileGirth t ∧ (u.pin t n).defer = (if s.tileGirth t = true then some c else none)) ∧
    (s.bit (R.OUT_STAT_RCHG t n) = true → s.rotHold t n = true ∨ s.get (R.OUT_READ_CORE t n) ≠ 0x8000 →
      exec (.rangeChangeDisconnect t n) s = .next s) ∧
    (s.bit (R.OUT_STAT_DISC t n) = false → exec (.rangeChangeReconnect t n) s = .next s) ∧
    (s.bit (R.OUT_STAT_RCHG t n) = false →
      exec (.rangeChangeDisconnect t n) s = .next s ∧ exec (.rangeChangeReconnect t n) s = .next s)) ∧
  (∀ (s : State) (t : Fin 32) (k : Fin 2) (acc : Nat),
    (s.bit (R.SG_STAT_RUN t k) = true → acc = ((s.sg t k).acc + s.ftw t k) % 2 ^ 48 →
      ∃ (u : State), u = (if phaseAddr acc (s.get (R.SG_AMP_PH_PHOFF t k)) < (s.sg t k).lastP then s.sgWrap t k else s) ∧
        exec (.sgCoreClock t k) s = .next ((u.sgOut t k acc).outFinish t)) ∧
    (s.bit (R.SG_STAT_RUN t k) = false → exec (.sgCoreClock t k) s = .next (s.sgOut t k (s.sg t k).acc)) ∧
    (∃ (v : State) (code : Nat), s.sgOut t k acc = v.sgDrive t k code ∧ (v.sg t k).acc = acc ∧ (v.sg t k).code = code ∧
      v.regs = s.regs ∧ v.pins = s.pins ∧
      code = (if s.bit (R.SG_STAT_RUN t k) = true then
        sineCode (phaseAddr acc (s.get (R.SG_AMP_PH_PHOFF t k))) (s.get (R.SG_AMP_PH_AMP t k)) else 0x8000)) ∧
    (s.waits (sgBase t k + 0x0C) = true → s.bit (R.SG_STAT_RESYNC_PEND t k) = false →
      ∃ u : State, u = s.applyWait (sgBase t k + 0x0C) ∧ u.waits (sgBase t k + 0x0C) = false ∧
        exec (.sgAmpPhaseApply t k) s = .next ((u.sgOut t k (s.sg t k).acc).outFinish t)) ∧
    (s.waits (sgBase t k + 0x0C) = true → exec (.sgAmpPhaseApply t k) s =
      .next (((s.sgWrap t k).sgOut t k ((s.sgWrap t k).sg t k).acc).outFinish t)) ∧
    (s.waits (sgBase t k + 0x0C) = false → exec (.sgAmpPhaseApply t k) s = .next s) ∧
    (s.bit (R.SG_STAT_RESYNC_PEND t k) = true →
      ∃ u : State, exec (.sgResync t k) s = .next ((u.sgOut t k 0).outFinish t) ∧
        u.bit (R.SG_STAT_RESYNC_PEND t k) = false ∧ u.bit (R.SG_CTRL_RESYNC t k) = false ∧
        u.waits (sgBase t k + 0x04) = false ∧ u.waits (sgBase t k + 0x08) = false ∧ u.waits (sgBase t k + 0x0C) = false) ∧
    (s.bit (R.SG_STAT_RESYNC_PEND t k) = false → exec (.sgResync t k) s = .next s))

/-- Self-calibration (R143 to R149, R157, R161, R164): the tiles of a group start together, a request by the owner starts its
scope or is refused with SELF_RESULT 3, and the end of the work reports its result: a success commits the tile's record and ramps
the channels of its scope, a failure raises a class 2 fault, and a SPARE request clears or sets SPARE_BAD. Where the spec leaves a
choice it states the model's own (assumption logs 1, 7). -/
def Obligations.SelfCalibrationCommands : Prop :=
  ∀ (s : State) (t : Fin 32) (g : Fin 4) (w : Writer) (ch : Fin 16) (r : SelfCal),
    (s.awake = false → exec (.calReqTileIn w t) s = .next s ∧ exec (.calReqConvA w t) s = .next s ∧
      exec (.calReqConvB w t) s = .next s ∧ exec (.calReqFrontEnd w t ch) s = .next s ∧ exec (.calReqSpare w t) s = .next s) ∧
    (∃ u : State, exec (.selfCalGroup g) s = .next u ∧
      (8 * g.val ≤ t.val → t.val < 8 * g.val + 8 → (s.tile t).selfCal = false → (s.tile t).work = none →
        s.domReady (domConv t) = true → s.domReady (domField t) = true →
        (u.tile t).work = some .powerUp ∧ (u.tile t).begun = true ∧ u.bit (R.CAL_STAT_BUSY t) = true) ∧
      ((s.tile t).selfCal = true → u.tile t = s.tile t ∧ u.word (R.CAL_STAT_BUSY t).addr = s.word (R.CAL_STAT_BUSY t).addr)) ∧
    (s.awake = true → s.matchesOwner w (s.get (R.PAGE_OWNER (calPage t))) = true → s.calBusy t = false →
      (∃ u : State, exec (.calReqTileIn w t) s = .next u ∧ (u.tile t).work = some (.request 0 0) ∧
        u.bit (R.CAL_STAT_BUSY t) = true ∧ u.get (R.CAL_STAT_SCOPE_ACT t) = 0) ∧
      (∃ u : State, exec (.calReqConvA w t) s = .next u ∧ (u.tile t).work = some (.request 1 0) ∧
        u.bit (R.CAL_STAT_BUSY t) = true ∧ u.get (R.CAL_STAT_SCOPE_ACT t) = 1) ∧
      (∃ u : State, exec (.calReqConvB w t) s = .next u ∧ (u.tile t).work = some (.request 2 0) ∧
        u.bit (R.CAL_STAT_BUSY t) = true ∧ u.get (R.CAL_STAT_SCOPE_ACT t) = 2) ∧
      (∃ u : State, exec (.calReqSpare w t) s = .next u ∧ (u.tile t).work = some (.request 4 0) ∧
        u.bit (R.CAL_STAT_BUSY t) = true ∧ u.get (R.CAL_STAT_SCOPE_ACT t) = 4) ∧
      (8 ≤ ch.val ∧ ch.val < 10 ∨ ch.val < 8 ∧ (∀ f ∈ [0, 7, 8, 9, 10, 12, 14], s.func t ch ≠ f) →
        ∃ u : State, exec (.calReqFrontEnd w t ch) s = .next u ∧ (u.tile t).work = some (.request 3 ch) ∧
          u.bit (R.CAL_STAT_BUSY t) = true ∧ u.get (R.CAL_STAT_SCOPE_ACT t) = 3)) ∧
    (s.awake = true → s.matchesOwner w (s.get (R.PAGE_OWNER (calPage t))) = true →
      (s.calBusy t = true →
        exec (.calReqTileIn w t) s = .next ((s.put (R.CAL_STAT_SELF_RESULT t) 3).done (.calib t)) ∧
        exec (.calReqConvA w t) s = .next ((s.put (R.CAL_STAT_SELF_RESULT t) 3).done (.calib t)) ∧
        exec (.calReqConvB w t) s = .next ((s.put (R.CAL_STAT_SELF_RESULT t) 3).done (.calib t)) ∧
        exec (.calReqSpare w t) s = .next ((s.put (R.CAL_STAT_SELF_RESULT t) 3).done (.calib t))) ∧
      (s.calBusy t = true ∨ 10 ≤ ch.val ∨ ch.val < 8 ∧ (∃ f ∈ [0, 7, 8, 9, 10, 12, 14], s.func t ch = f) →
        exec (.calReqFrontEnd w t ch) s = .next ((s.put (R.CAL_STAT_SELF_RESULT t) 3).done (.calib t)))) ∧
    (s.awake = true → s.matchesOwner w (s.get (R.PAGE_OWNER (calPage t))) = false →
      exec (.calReqTileIn w t) s = .next (s.refuseNotOwner (.calib t) w) ∧
      exec (.calReqConvA w t) s = .next (s.refuseNotOwner (.calib t) w) ∧
      exec (.calReqConvB w t) s = .next (s.refuseNotOwner (.calib t) w) ∧
      exec (.calReqFrontEnd w t ch) s = .next (s.refuseNotOwner (.calib t) w) ∧
      exec (.calReqSpare w t) s = .next (s.refuseNotOwner (.calib t) w)) ∧
    ((s.tile t).work = none → exec (.selfCalDone t r) s = .next s) ∧
    (∀ k, (s.tile t).work = some k → r.aborted = true → exec (.selfCalDone t r) s = .next (s.endWork t 4)) ∧
    (∀ scope c, (s.tile t).work = some (.request scope c) → r.aborted = false → scope ≠ 4 →
      (r.ref = true →
        ∃ u : State, exec (.selfCalDone t r) s = .next (u.raise (u.srcTile t (.calib t)) 2 0x15 1) ∧ (u.tile t).work = none ∧
          (u.tile t).selfFail = true ∧ u.get (R.CAL_STAT_SELF_RESULT t) = 1 ∧ u.bit (R.CAL_STAT_BUSY t) = false) ∧
      (r.ref = false → s.bit (R.TILE_REF_STAT_REF_ERR t) = false → s.bit (R.TILE_REF_STAT_ZERO_ERR t) = false → r.limit = true →
        ∃ u : State, exec (.selfCalDone t r) s = .next (u.raise (u.srcTile t (.calib t)) 2 0x15 2) ∧ (u.tile t).work = none ∧
          (u.tile t).selfFail = true ∧ u.get (R.CAL_STAT_SELF_RESULT t) = 2 ∧ u.bit (R.CAL_STAT_BUSY t) = false) ∧
      (r.ref = false → r.limit = false → r.ledgerBad = false →
        s.bit (R.TILE_REF_STAT_REF_ERR t) = false → s.bit (R.TILE_REF_STAT_ZERO_ERR t) = false →
        ∃ u : State, exec (.selfCalDone t r) s = .next ((u.scopeChannels t scope c).foldl (fun s c => s.rerunRamp t c) u) ∧
          (u.tile t).work = none ∧ (u.tile t).selfFail = false ∧ u.get (R.CAL_STAT_SELF_RESULT t) = 0 ∧
          u.bit (R.CAL_STAT_BUSY t) = false ∧ u.selfPair t = (s.selfPair t).commit (selfRecord t)
            { time := s.calTime, count := ((s.selfStored t).getD {}).count + 1 })) ∧
    (∀ c, (s.tile t).work = some (.request 4 c) → r.aborted = false → r.ref = false →
      s.bit (R.TILE_REF_STAT_REF_ERR t) = false → s.bit (R.TILE_REF_STAT_ZERO_ERR t) = false → r.limit = false →
      (r.coreBad = 0 → ∃ u : State, exec (.selfCalDone t r) s = .next u ∧ (u.tile t).work = none ∧
        u.get (R.CAL_STAT_SELF_RESULT t) = 0 ∧ u.bit (R.CAL_ROT_STAT_SPARE_BAD t) = false) ∧
      (s.get (R.TILE_DAC_ROUTE_SPARE_CORE t) < 3 → r.coreBad.getLsbD (s.get (R.TILE_DAC_ROUTE_SPARE_CORE t)) = true →
        ∃ u : State, exec (.selfCalDone t r) s = .next (u.raise (u.srcTile t (.calib t)) 1 0x17 0) ∧ (u.tile t).work = none ∧
          u.get (R.CAL_STAT_SELF_RESULT t) = 2 ∧ u.bit (R.CAL_ROT_STAT_SPARE_BAD t) = true)) ∧
    ((s.tile t).work = some .powerUp → r.aborted = false → r.ref = false → r.limit = false → r.ledgerBad = false → r.coreBad = 0 →
      s.bit (R.TILE_REF_STAT_REF_ERR t) = false → s.bit (R.TILE_REF_STAT_ZERO_ERR t) = false → (s.tile t).recal = false →
      ∃ u : State, exec (.selfCalDone t r) s = .next (u.connectTile t) ∧ (u.tile t).selfCal = true ∧ (u.tile t).work = none ∧
        u.get (R.CAL_STAT_CORE_BAD t) = s.get (R.CAL_STAT_CORE_BAD t) ∧ u.get (R.CAL_STAT_SELF_RESULT t) = 0)

/-- The system calibration procedure (R152 to R157, R167): its commands in the states that accept them and in those that do not,
how a capture ends, and the commit to the ledger. Where the spec leaves a choice it states the model's own (assumption logs 7,
176, 177). -/
def Obligations.SystemCalibrationCommands : Prop :=
  ∀ (s : State) (t : Fin 32) (w : Writer),
    (s.awake = false → exec (.capture0 w t) s = .next s ∧ exec (.capture1 w t) s = .next s ∧
      exec (.cancel w t) s = .next s ∧ exec (.clearLost w t) s = .next s) ∧
    (s.awake = true → s.matchesOwner w (s.get (R.PAGE_OWNER (calPage t))) = true →
      (s.get (R.CAL_SYS_STAT_STATE t) = 0 → (s.tile t).work = none → s.get (R.CAL_SYS_CFG_CH t) < 10 →
        s.bit (R.TILE_ADC_STAT_RUNNING t) = true → (s.capSlot t (s.get (R.CAL_SYS_CFG_CH t))).isSome = true →
        s.get (R.CAL_SYS_LIM_MINSPAN t) ≤ (s.ref1 t - s.ref0 t).natAbs →
        ∃ u : State, exec (.capture0 w t) s = .next u ∧ u.get (R.CAL_SYS_STAT_STATE t) = 1 ∧ u.get (R.CAL_SYS_STAT_WORDS t) = 0 ∧
          (u.tile t).cap.ch = s.get (R.CAL_SYS_CFG_CH t) ∧ (u.tile t).cap.point = 0 ∧ (u.tile t).cap.count = 0) ∧
      (s.get (R.CAL_SYS_STAT_STATE t) ≠ 0 ∨ (s.tile t).work.isSome = true →
        exec (.capture0 w t) s = .next (s.put (R.CAL_SYS_STAT_REASON t) 9)) ∧
      (s.get (R.CAL_SYS_STAT_STATE t) = 0 → (s.tile t).work = none → 10 ≤ s.get (R.CAL_SYS_CFG_CH t) →
        exec (.capture0 w t) s = .next ((s.put (R.CAL_SYS_STAT_REASON t) 0).endProc t 2)) ∧
      (s.get (R.CAL_SYS_STAT_STATE t) = 0 → (s.tile t).work = none → s.get (R.CAL_SYS_CFG_CH t) < 10 →
        s.bit (R.TILE_ADC_STAT_RUNNING t) = false →
        ∃ u : State, exec (.capture0 w t) s = .next (u.endProc t 1) ∧ u.regs = (s.put (R.CAL_SYS_STAT_REASON t) 0).regs) ∧
      (s.get (R.CAL_SYS_STAT_STATE t) ≠ 0 → exec (.cancel w t) s = .next (s.endProc t 10)) ∧
      (s.get (R.CAL_SYS_STAT_STATE t) = 2 → exec (.capture1 w t) s = .next (s.beginPoint t 1)) ∧
      (s.get (R.CAL_SYS_STAT_STATE t) ≠ 2 → exec (.capture1 w t) s = .next (s.put (R.CAL_SYS_STAT_REASON t) 9)) ∧
      (s.get (R.CAL_SYS_STAT_STATE t) = 0 → exec (.cancel w t) s = .next (s.put (R.CAL_SYS_STAT_REASON t) 9)) ∧
      (s.get (R.CAL_SYS_CFG_CH t) < 10 → s.getIdx (R.CAL_LOST t) (s.get (R.CAL_SYS_CFG_CH t)) = true →
        exec (.clearLost w t) s = .next (s.commitRecord t (s.get (R.CAL_SYS_CFG_CH t))
          { time := s.calTime, hours := s.ledger.live.hours, flags := 2 })) ∧
      (s.get (R.CAL_SYS_CFG_CH t) < 10 → s.getIdx (R.CAL_LOST t) (s.get (R.CAL_SYS_CFG_CH t)) = false →
        exec (.clearLost w t) s = .next ((s.commitRecord t (s.get (R.CAL_SYS_CFG_CH t))
          { time := s.calTime, hours := s.ledger.live.hours, flags := 2 }).startRamp t (s.get (R.CAL_SYS_CFG_CH t)) 0 0x400000)) ∧
      (10 ≤ s.get (R.CAL_SYS_CFG_CH t) → exec (.clearLost w t) s = .next s)) ∧
    (s.awake = true → s.matchesOwner w (s.get (R.PAGE_OWNER (calPage t))) = false →
      exec (.capture0 w t) s = .next (s.refuseNotOwner (.calib t) w) ∧
      exec (.capture1 w t) s = .next (s.refuseNotOwner (.calib t) w) ∧
      exec (.cancel w t) s = .next (s.refuseNotOwner (.calib t) w) ∧
      exec (.clearLost w t) s = .next (s.refuseNotOwner (.calib t) w)) ∧
    (s.get (R.CAL_SYS_STAT_STATE t) = 1 ∨ s.get (R.CAL_SYS_STAT_STATE t) = 3 →
      (s.capAvg t ≤ (s.tile t).cap.count → exec (.captureDone t) s = .next (s.judge t)) ∧
      ((s.tile t).cap.count < s.capAvg t →
        exec (.captureDone t) s = .next s ∧ exec (.captureTmo t) s = .next (s.endProc t 13))) ∧
    (s.get (R.CAL_SYS_STAT_STATE t) ≠ 1 → s.get (R.CAL_SYS_STAT_STATE t) ≠ 3 →
      exec (.captureDone t) s = .next s ∧ exec (.captureTmo t) s = .next s) ∧
    (s.capAvg t ≤ (s.tile t).cap.count → exec (.captureTmo t) s = .next s) ∧
    (16 * (s.get (R.CAL_SYS_LIM_STAB_PP t) : Int) < (s.tile t).cap.high - (s.tile t).cap.low → s.judge t = s.endProc t 4) ∧
    ((s.tile t).cap.high - (s.tile t).cap.low ≤ 16 * (s.get (R.CAL_SYS_LIM_STAB_PP t) : Int) → (s.tile t).cap.bCount < 4 →
      (s.tile t).cap.point = 0 →
      (s.judge t).get (R.CAL_SYS_STAT_STATE t) = 2 ∧ (s.judge t).bit (R.CAL_SYS_STAT_B_CHK t) = false ∧
      ((s.judge t).tile t).cap.m0 = rnd (s.tile t).cap.sum (s.capAvg t) ∧
      (s.judge t).get (R.CAL_SYS_M0 t) = lowBits 24 (rnd (s.tile t).cap.sum (s.capAvg t))) ∧
    (s.get (R.CAL_SYS_STAT_STATE t) = 2 → exec (.calWait1Timeout t) s = .next (s.endProc t 11)) ∧
    (s.get (R.CAL_SYS_STAT_STATE t) ≠ 2 → exec (.calWait1Timeout t) s = .next s) ∧
    (∀ ok, s.get (R.CAL_SYS_STAT_STATE t) ≠ 4 → exec (.calLedgerCommitDone t ok) s = .next s) ∧
    (s.get (R.CAL_SYS_STAT_STATE t) = 4 →
      exec (.calLedgerCommitDone t true) s = .next (((s.commitRecord t (s.tile t).cap.ch (s.newRecord t)).startRamp t
        (s.tile t).cap.ch (s.tile t).cap.off (s.tile t).cap.gain).endProc t 0) ∧
      exec (.calLedgerCommitDone t false) s = .next (s.endProc t 12)) ∧
    (∀ reason, reason < 16 → (s.endProc t reason).get (R.CAL_SYS_STAT_STATE t) = 0 ∧
      (s.endProc t reason).get (R.CAL_SYS_STAT_REASON t) = reason ∧
      ((s.endProc t reason).word (calPage t + 0x18)).getLsbD 2 = true)

/-- Coefficient ramps and core rotation (R157 to R161): a ramp step sets OFF and G to the line's value and the last step ends the
ramp; a rotation follows, hands over and takes over, and the spare takes the core's place. Where the spec leaves a choice it
states the model's own (assumption log 1). -/
def Obligations.RampAndRotationCommands : Prop :=
  ∀ (s : State) (t : Fin 32) (w : Writer) (ch : Fin 10) (r : Ramp),
    (s.awake = false → exec (.calRotNow w t) s = .next s) ∧
    (tblFind (s.tile t).ramps ch = some r → r.steps ≤ r.step + 1 →
      ∃ u : State, exec (.calRampStep t ch) s = .next u ∧ u.getIdx (R.CAL_STAT_RAMPING t) ch = false ∧
        tblFind (u.tile t).ramps ch = none ∧
        u.get (R.CAL_CH_OFF t ch) = lowBits 24 (rampAt r.off0 r.off1 (r.step + 1 : Nat) r.steps) ∧
        u.get (R.CAL_CH_GAIN t ch) = (rampAt r.gain0 r.gain1 (r.step + 1 : Nat) r.steps).toNat % 2 ^ 24) ∧
    (tblFind (s.tile t).ramps ch = some r → r.step + 1 < r.steps →
      ∃ u : State, exec (.calRampStep t ch) s = .next u ∧
        tblFind (u.tile t).ramps ch = some { r with step := r.step + 1 } ∧
        u.get (R.CAL_CH_OFF t ch) = lowBits 24 (rampAt r.off0 r.off1 (r.step + 1 : Nat) r.steps)) ∧
    (tblFind (s.tile t).ramps ch = none → exec (.calRampStep t ch) s = .next s) ∧
    (s.awake = true → s.matchesOwner w (s.get (R.PAGE_OWNER (calPage t))) = true → exec (.calRotNow w t) s = .next (s.rotStart t)) ∧
    (s.awake = true → s.matchesOwner w (s.get (R.PAGE_OWNER (calPage t))) = false →
      exec (.calRotNow w t) s = .next (s.refuseNotOwner (.calib t) w)) ∧
    (s.get (R.CAL_ROT_PER t) = 0 → exec (.rotationPeriod t) s = .next s) ∧
    (s.get (R.CAL_ROT_PER t) ≠ 0 → exec (.rotationPeriod t) s = .next (s.rotStart t)) ∧
    (s.get (R.CAL_STAT_CORE_BAD t) ≠ 0 ∨ s.bit (R.CAL_ROT_STAT_SPARE_BAD t) = true ∨ s.get (R.CAL_ROT_STAT_PHASE t) ≠ 0 →
      s.rotStart t = s) ∧
    (s.get (R.CAL_ROT_PER t) ≠ 0 → s.get (R.CAL_STAT_CORE_BAD t) = 0 → s.bit (R.CAL_ROT_STAT_SPARE_BAD t) = false →
      s.get (R.CAL_ROT_STAT_PHASE t) = 0 → s.domReady (domConv t) = true → s.tileContained t = false →
      s.anyRchg t = false → s.tileGirth t = false → s.rotSkips t (s.tile t).rotNext = false →
      ∃ u : State, exec (.rotationPeriod t) s = .next u ∧ u.get (R.CAL_ROT_STAT_PHASE t) = 1 ∧
        (u.tile t).rotCore = (s.tile t).rotNext ∧ ∀ a, a ≠ (R.CAL_ROT_STAT_PHASE t).addr → u.word a = s.word a) ∧
    (s.get (R.CAL_ROT_PER t) ≠ 0 → s.get (R.CAL_STAT_CORE_BAD t) = 0 → s.bit (R.CAL_ROT_STAT_SPARE_BAD t) = false →
      s.get (R.CAL_ROT_STAT_PHASE t) = 0 → s.domReady (domConv t) = true → s.tileContained t = false →
      s.anyRchg t = true ∨ s.tileGirth t = true →
      exec (.rotationPeriod t) s = .next (s.modTile t fun x => { x with rotDue := true })) ∧
    (s.get (R.CAL_ROT_STAT_PHASE t) = 1 → (s.tile t).rotCore ≠ 2 →
      ∃ u : State, exec (.rotationFollow t true) s = .next u ∧ u.get (R.CAL_ROT_STAT_PHASE t) = 2 ∧ u.tiles = s.tiles) ∧
    (s.get (R.CAL_ROT_STAT_PHASE t) = 1 → (s.tile t).rotCore = 2 →
      ∃ u : State, exec (.rotationFollow t true) s = .next u ∧ u.get (R.CAL_ROT_STAT_PHASE t) = 0 ∧ u.tiles = s.tiles) ∧
    (∀ ok, s.get (R.CAL_ROT_STAT_PHASE t) ≠ 1 → exec (.rotationFollow t ok) s = .next s) ∧
    (s.get (R.CAL_ROT_STAT_PHASE t) ≠ 2 → exec (.rotationHandover t) s = .next s) ∧
    (s.get (R.CAL_ROT_STAT_PHASE t) ≠ 3 → exec (.rotationTakeover t) s = .next s) ∧
    (s.get (R.CAL_ROT_STAT_PHASE t) = 1 →
      ∃ u : State, exec (.rotationFollow t false) s = .next (u.raise (u.srcTile t (.calib t)) 1 0x17 0) ∧
        u.get (R.CAL_ROT_STAT_PHASE t) = 0 ∧ u.bit (R.CAL_ROT_STAT_SPARE_BAD t) = true) ∧
    (∀ n, s.get (R.CAL_ROT_STAT_PHASE t) = 2 → s.corePin t (s.tile t).rotCore = some n → s.bit (R.OUT_STAT_RCHG t n) = true →
      exec (.rotationHandover t) s = .next s) ∧
    (∀ n, s.get (R.CAL_ROT_STAT_PHASE t) = 2 → s.corePin t (s.tile t).rotCore = some n → s.bit (R.OUT_STAT_RCHG t n) = false →
      ∃ u : State, exec (.rotationHandover t) s = .next u ∧ u.get (R.CAL_ROT_STAT_PHASE t) = 3 ∧
        u.bit (R.OUT_STAT_STALE t n) = true ∧ u.bit (R.OUT_STAT_DEFER t n) = true) ∧
    (s.get (R.CAL_ROT_STAT_PHASE t) = 2 → s.corePin t (s.tile t).rotCore = none →
      exec (.rotationHandover t) s = .next (s.rotSwap t)) ∧
    (s.get (R.CAL_ROT_STAT_PHASE t) = 3 → s.corePin t (s.tile t).rotCore = none →
      exec (.rotationTakeover t) s = .next (s.rotSwap t)) ∧
    (∀ n, s.get (R.CAL_ROT_STAT_PHASE t) = 3 → s.corePin t (s.tile t).rotCore = some n →
      ∃ u : State, (u = s.rotSwap t ∨ u = (s.rotSwap t).noteCore t n) ∧ exec (.rotationTakeover t) s = .next (u.rotRelease t n)) ∧
    ((s.tile t).rotCore = 0 → (s.rotSwap t).get (R.TILE_DAC_ROUTE_D0_CORE t) = s.get (R.TILE_DAC_ROUTE_SPARE_CORE t) ∧
      (s.rotSwap t).get (R.TILE_DAC_ROUTE_SPARE_CORE t) = s.get (R.TILE_DAC_ROUTE_D0_CORE t) ∧
      (s.rotSwap t).get (R.CAL_ROT_STAT_PHASE t) = 0)

/-- The two-operand and one-operand functions of slot X at 32 bits (R209, R211, R212): the value that each writes and the flags
that it sets; every other register keeps its value. Where the spec leaves a choice it states the model's own (assumption log 13).
-/
def Obligations.AluResults : Prop :=
  ∀ (s : State) (i : Issue) (d a b : Fin 64), s.aloneReady i → i.slot = .x →
    let e := i.eng.val
    let r := (s.eng e).regs
    let x := r.gR a
    let y := r.gR b
    s.completes (.nop i) e (r.advance .none) ∧
    s.completes (.add i d a b none) e ((r.alu d (x + y) mZNCV (zncv (x + y) (addCarry x y) (overflows (x.toInt + y.toInt)))).advance
      .none) ∧
    s.completes (.sub i d a b none) e ((r.alu d (x - y) mZNCV (zncv (x - y) (y ≤ x) (overflows (x.toInt - y.toInt)))).advance
      .none) ∧
    s.completes (.and i d a b none) e ((r.alu d (x &&& y) mZN (zn (x &&& y))).advance .none) ∧
    s.completes (.or i d a b none) e ((r.alu d (x ||| y) mZN (zn (x ||| y))).advance .none) ∧
    s.completes (.xor i d a b none) e ((r.alu d (x ^^^ y) mZN (zn (x ^^^ y))).advance .none) ∧
    s.completes (.andn i d a b none) e ((r.alu d (x &&& ~~~y) mZN (zn (x &&& ~~~y))).advance .none) ∧
    (∀ v, v = (if x.slt y then x else y) → s.completes (.min i d a b none) e ((r.alu d v mZN (zn v)).advance .none)) ∧
    (∀ v, v = (if x.slt y then y else x) → s.completes (.max i d a b none) e ((r.alu d v mZN (zn v)).advance .none)) ∧
    (∀ v, v = (if x.msb then -x else x) →
      s.completes (.abs i d a 0 none) e ((r.alu d v mZNV (zncv v false (x = 0x80000000#32))).advance .none)) ∧
    s.completes (.neg i d a 0 none) e ((r.alu d (-x) mZNCV (zncv (-x) (x = 0) (x = 0x80000000#32))).advance .none) ∧
    s.completes (.cmp i 0 a b none) e ((r.flags mZNCV (zncv (x - y) (y ≤ x) (overflows (x.toInt - y.toInt)))).advance .none) ∧
    s.completes (.lsc i d a 0 none) e ((r.setG d (BitVec.ofNat 32 (leadingSigns 32 x.toNat))).advance .none)

/-- Shifts and immediate forms (R183, R207, R210, R211): the amount is the low six bits of Gb, or the B field; ASRR rounds half up
in the mode with RMODE set. Where the spec leaves a choice it states the model's own (assumption log 13). -/
def Obligations.ShiftAndImmediateResults : Prop :=
  ∀ (s : State) (i : Issue) (d a b : Fin 64) (imm : BitVec 14), s.aloneReady i → i.slot = .x →
    let e := i.eng.val
    let r := (s.eng e).regs
    let x := r.gR a
    let n := (r.gR b).toNat % 64
    let up := s.bit (R.ENG_STAT_RMODE e)
    (∀ v, v = x.sshiftRight n → s.completes (.asr i d a b none) e ((r.alu d v mZN (zn v)).advance .none)) ∧
    (∀ v, v = x >>> n → s.completes (.lsr i d a b none) e ((r.alu d v mZN (zn v)).advance .none)) ∧
    (∀ v, v = x <<< n → s.completes (.lsl i d a b none) e ((r.alu d v mZN (zn v)).advance .none)) ∧
    (∀ v, v = (if up && 0 < n && n < 32 then BitVec.ofInt 32 ((x.toInt + 2 ^ (n - 1)) / 2 ^ n) else x.sshiftRight n) →
      s.completes (.asrr i d a b none) e ((r.alu d v mZN (zn v)).advance .none)) ∧
    (∀ v, v = x.sshiftRight b → s.completes (.asri i d a b none) e ((r.alu d v mZN (zn v)).advance .none)) ∧
    (∀ v, v = x >>> b.val → s.completes (.lsri i d a b none) e ((r.alu d v mZN (zn v)).advance .none)) ∧
    (∀ v, v = x <<< b.val → s.completes (.lsli i d a b none) e ((r.alu d v mZN (zn v)).advance .none)) ∧
    (∀ v, v = (if up && 0 < b.val && b.val < 32 then BitVec.ofInt 32 ((x.toInt + 2 ^ (b.val - 1)) / 2 ^ b.val)
        else x.sshiftRight b) →
      s.completes (.asrri i d a b none) e ((r.alu d v mZN (zn v)).advance .none)) ∧
    (∀ y, y = imm.signExtend 32 →
      s.completes (.addi i d a imm) e ((r.alu d (x + y) mZNCV (zncv (x + y) (addCarry x y) (overflows (x.toInt + y.toInt)))).advance
        .none) ∧
      s.completes (.cmpi i 0 a imm) e ((r.flags mZNCV (zncv (x - y) (y ≤ x) (overflows (x.toInt - y.toInt)))).advance .none)) ∧
    ∀ y, y = imm.zeroExtend 32 →
      s.completes (.andi i d a imm) e ((r.alu d (x &&& y) mZN (zn (x &&& y))).advance .none) ∧
      s.completes (.ori i d a imm) e ((r.alu d (x ||| y) mZN (zn (x ||| y))).advance .none) ∧
      s.completes (.xori i d a imm) e ((r.alu d (x ^^^ y) mZN (zn (x ^^^ y))).advance .none)

/-- Halves, division and the legacy width (R187, R194, R211 to R213, R222): ADD.H and SUB.H wrap each half, ADDS.H and SUBS.H
saturate it and set SATS; DIVS and DIVU give the truncated quotient and, for a zero divisor and the overflowing quotient, the
values of R213 with V and SATS; in a REPEAT body they raise exception 5. Under .W the exact result of ADD, SUB, ABS, NEG, LSL and
LSLI on the low W bits is kept, saturated or wrapped, with V and SATS set where it is not kept; .W on any other function, a
nonzero B of ABS, NEG and LSC and a nonzero D of CMP are ILLEGAL. Where the spec leaves a choice it states the model's own
(assumption logs 13, 35, 100, 182). -/
def Obligations.HalvesDivisionAndWidth : Prop :=
  ∀ (s : State) (i : Issue) (d a b : Fin 64) (k : Fin 4), s.aloneReady i → i.slot = .x →
    let e := i.eng.val
    let r := (s.eng e).regs
    let x := r.gR a
    let y := r.gR b
    let lo := fun w : Word => w.extractLsb' 0 16
    let hi := fun w : Word => w.extractLsb' 16 16
    s.completes (.addH i d a b none) e ((r.setG d (hi x + hi y ++ (lo x + lo y))).advance .none) ∧
    s.completes (.subH i d a b none) e ((r.setG d (hi x - hi y ++ (lo x - lo y))).advance .none) ∧
    (∀ (p q : Int) (f : Word), p = (lo x).toInt + (lo y).toInt → q = (hi x).toInt + (hi y).toInt →
      f = flagBit 4 (!fits 16 p || !fits 16 q) →
      s.completes (.addsH i d a b none) e
        ((r.alu d (packHalves (clampInt (-32768) 32767 p) (clampInt (-32768) 32767 q)) f f).advance .none)) ∧
    (∀ (p q : Int) (f : Word), p = (lo x).toInt - (lo y).toInt → q = (hi x).toInt - (hi y).toInt →
      f = flagBit 4 (!fits 16 p || !fits 16 q) →
      s.completes (.subsH i d a b none) e
        ((r.alu d (packHalves (clampInt (-32768) 32767 p) (clampInt (-32768) 32767 q)) f f).advance .none)) ∧
    (r.rptOn = false →
      (y ≠ 0 → x ≠ 0x80000000#32 ∨ y ≠ 0xFFFFFFFF#32 →
        s.completes (.divs i d a b) e ((r.alu d (x.sdiv y) mZNV (zncv (x.sdiv y) false false)).advance .none)) ∧
      (y = 0 → ∀ v, v = (if x.msb then 0x80000000#32 else 0x7FFFFFFF#32) →
        s.completes (.divs i d a b) e ((r.alu d v (mZNV ||| mSATS) (zncv v false true ||| mSATS)).advance .none)) ∧
      (x = 0x80000000#32 → y = 0xFFFFFFFF#32 → s.completes (.divs i d a b) e
        ((r.alu d 0x7FFFFFFF#32 (mZNV ||| mSATS) (zncv 0x7FFFFFFF#32 false true ||| mSATS)).advance .none)) ∧
      (y ≠ 0 → s.completes (.divu i d a b) e ((r.alu d (x / y) mZNV (zncv (x / y) false false)).advance .none)) ∧
      (y = 0 → s.completes (.divu i d a b) e
        ((r.alu d 0xFFFFFFFF#32 (mZNV ||| mSATS) (zncv 0xFFFFFFFF#32 false true ||| mSATS)).advance .none))) ∧
    (r.rptOn = true → s.faultsWith (.divs i d a b) e 5 ∧ s.faultsWith (.divu i d a b) e 5) ∧
    (∀ (p q v : Int) (width : Nat) (u : Word) (bad : Bool), p = wOperand (r.wselR k) x → q = wOperand (r.wselR k) y →
      width = wselWidth 31 (r.wselR k) → bad = !fits width v →
      u = BitVec.ofInt 32 (if bad = false then v else if wselWraps (r.wselR k) = true then wrapTo width v
        else if 0 < v then topOf width else bottomOf width) →
      (v = p + q → s.completes (.add i d a b (some k)) e ((r.alu d u (mZNCV ||| flagBit 4 bad)
        (zncv u (addCarry (BitVec.ofInt 32 p) (BitVec.ofInt 32 q)) bad ||| flagBit 4 bad)).advance .none)) ∧
      (v = p - q → s.completes (.sub i d a b (some k)) e ((r.alu d u (mZNCV ||| flagBit 4 bad)
        (zncv u (subNoBorrow (BitVec.ofInt 32 p) (BitVec.ofInt 32 q)) bad ||| flagBit 4 bad)).advance .none)) ∧
      (v = p.natAbs → s.completes (.abs i d a 0 (some k)) e
        ((r.alu d u (mZNV ||| flagBit 4 bad) (zncv u false bad ||| flagBit 4 bad)).advance .none)) ∧
      (v = -p → s.completes (.neg i d a 0 (some k)) e ((r.alu d u (mZNCV ||| flagBit 4 bad)
        (zncv u (subNoBorrow 0#32 (BitVec.ofInt 32 p)) bad ||| flagBit 4 bad)).advance .none)) ∧
      (v = p * 2 ^ (y.toNat % 64) → s.completes (.lsl i d a b (some k)) e
        ((r.alu d u (mZNV ||| flagBit 4 bad) (zncv u false bad ||| flagBit 4 bad)).advance .none)) ∧
      (v = p * 2 ^ b.val → s.completes (.lsli i d a b (some k)) e
        ((r.alu d u (mZNV ||| flagBit 4 bad) (zncv u false bad ||| flagBit 4 bad)).advance .none))) ∧
    (∀ c ∈ ([.and, .or, .xor, .andn, .min, .max, .cmp, .addH, .subH, .addsH, .subsH, .asr, .lsr, .asrr, .asri, .lsri, .asrri, .lsc] :
      List (Issue → Fin 64 → Fin 64 → Fin 64 → Option (Fin 4) → Instr)), s.faultsWith (c i d a b (some k)) e 1) ∧
    (∀ w, (b ≠ 0 → s.faultsWith (.abs i d a b w) e 1 ∧ s.faultsWith (.neg i d a b w) e 1 ∧ s.faultsWith (.lsc i d a b w) e 1) ∧
      (d ≠ 0 → s.faultsWith (.cmp i d a b w) e 1))

/-- Multiply-accumulate, write-back and block exponent (R178 to R180, R186, R189, R190, R214): what each writes. Where the spec
leaves a choice it states the model's own (assumption logs 13, 99). -/
def Obligations.MacResults : Prop :=
  ∀ (s : State) (i : Issue) (n : Fin 8) (np : Fin 4) (d a b : Fin 64) (ap bp : Fin 32) (k : Fin 4) (form : Fin 8) (mode sgn : Fin 4)
    (sub z c conj : Bool) (mask imm : Byte), s.aloneReady i → i.slot = .x →
    let e := i.eng.val
    let r := (s.eng e).regs
    let x := r.gR a
    let y := r.gR b
    let m := fun (q : EngRegs) (j : Nat) (p : Int) => q.setAcc j ((r.accR j).multiply sub z p)
    (form.val < 3 → s.completes (.mac i n a b form sub z) e ((m r n (product32 form x y)).advance .none)) ∧
    s.faultsWith (.mac i n a b 3 sub z) e 1 ∧
    (n.val % 2 = 0 → s.completes (.mac i n a b 4 sub z) e
      ((m (m r n (loHalf x * loHalf y)) (n.val + 1) (hiHalf x * hiHalf y)).advance .none)) ∧
    (n.val % 2 = 1 → s.faultsWith (.mac i n a b 4 sub z) e 4) ∧
    s.completes (.mac i n a b 5 sub z) e ((m r n (loHalf x * loHalf y + hiHalf x * hiHalf y)).advance .none) ∧
    s.completes (.mac i n a b 6 sub z) e ((m r n (loHalf x * loHalf y - hiHalf x * hiHalf y)).advance .none) ∧
    s.completes (.mac i n a b 7 sub z) e ((m r n (loHalf x * hiHalf y + hiHalf x * loHalf y)).advance .none) ∧
    (∀ x0 x1 y0 y1, x0 = r.gR (2 * ap.val) → x1 = r.gR (2 * ap.val + 1) → y0 = r.gR (2 * bp.val) → y1 = r.gR (2 * bp.val + 1) →
      (sgn.val < 3 → s.completes (.mac2 i np ap bp 0 sub z sgn) e
        ((m (m r (2 * np.val) (product32 sgn x0 y0)) (2 * np.val + 1) (product32 sgn x1 y1)).advance .none)) ∧
      (sgn.val < 3 → s.completes (.mac2 i np ap bp 1 sub false sgn) e ((r.setAcc (2 * np.val)
        ((r.accR (2 * np.val)).multiply sub false (product32 sgn x0 y0 + product32 sgn x1 y1))).advance .none)) ∧
      (sgn.val < 3 → s.completes (.mac2 i np ap bp 1 sub true sgn) e (((r.setAcc (2 * np.val)
        ((r.accR (2 * np.val)).multiply sub true (product32 sgn x0 y0 + product32 sgn x1 y1))).setAcc (2 * np.val + 1) {}).advance
          .none)) ∧
      s.completes (.mac2 i np ap bp 2 sub z sgn) e
        ((m (m r (2 * np.val) (productS x0 y0)) (2 * np.val + 1) (productS x1 y1)).advance .none)) ∧
    (mode.val = 3 ∨ (mode.val < 2 ∧ sgn.val = 3) → s.faultsWith (.mac2 i np ap bp mode sub z sgn) e 1) ∧
    s.completes (.cmac i np a b conj sub z) e ((m (m r (2 * np.val) (if conj then productS x y else productSN x y)) (2 * np.val + 1)
      (if conj then loHalf x * hiHalf y - hiHalf x * loHalf y else productX x y)).advance .none) ∧
    s.completes (.clr i mask) e ((((List.range 8).filter fun j => mask.getLsbD j).foldl (fun q j => q.setAcc j {}) r).advance .none) ∧
    (∀ w : Int × Bool, w = writeBack 32 (s.bit (R.ENG_STAT_RMODE e)) (r.accR n) (r.wselR k) →
      s.completes (.wb i d n k c) e
        (((if c then (r.setG d (BitVec.ofInt 32 w.1)).setAcc n {} else r.setG d (BitVec.ofInt 32 w.1)).flags (flagBit 4 w.2)
          (flagBit 4 w.2)).advance .none)) ∧
    (∀ w v : Int × Bool, n.val % 2 = 0 → w = writeBack 16 (s.bit (R.ENG_STAT_RMODE e)) (r.accR n) (r.wselR k) →
      v = writeBack 16 (s.bit (R.ENG_STAT_RMODE e)) (r.accR (n.val + 1)) (r.wselR k) →
      s.completes (.wbp i d n k false) e
        (((r.setG d (packHalves w.1 v.1)).flags (flagBit 4 (w.2 || v.2)) (flagBit 4 (w.2 || v.2))).advance .none)) ∧
    (n.val % 2 = 1 → s.faultsWith (.wbp i d n k c) e 4) ∧
    s.completes (.binit i) e (({ r with bexp := r.bexp &&& 0xFE00C0FF#32 } : EngRegs).advance .none) ∧
    s.completes (.bbegin i) e
      (({ r with bexp := flgMerge r.bexp mCUR (if r.bexp.getLsbD 5 then 15 else 31) } : EngRegs).advance .none) ∧
    (∀ t : Int, t = bexpTot r.bexp + imm.toInt →
      (-128 ≤ t → t ≤ 127 → s.completes (.badj i imm) e
        (({ r with bexp := flgMerge r.bexp mTOT (BitVec.ofNat 32 (lowBits 8 t * 2 ^ 16)) } : EngRegs).advance .none)) ∧
      (127 < t → s.completes (.badj i imm) e
        (({ r with bexp := flgMerge r.bexp (mTOT ||| mTSAT) 0x017F0000#32 } : EngRegs).flags mSATS mSATS |>.advance .none))) ∧
    (∀ (sh t : Int) (v : Word), sh = (getBits r.bexp 4 0 : Int) - getBits r.bexp 7 6 → t = bexpTot r.bexp - sh → -128 ≤ t → t ≤ 127 →
      v = flgMerge r.bexp (mSHIFT ||| mTOT) (BitVec.ofNat 32 (lowBits 6 sh * 2 ^ 8) ||| BitVec.ofNat 32 (lowBits 8 t * 2 ^ 16)) →
      s.completes (.bend i) e (({ r with bexp := v } : EngRegs).advance .none))

/-- Moves (R196, R207, R208, R210, R215) from either slot: MOVI sign-extends, MOVIU replaces bits 31:14, MOVIX bits 47:32 of a
pointer or base, MOV what its part names; RPT and PC are read-only, a reserved number or part is ILLEGAL; LIMM reduces its pointer
by the base as read. Where the spec leaves a choice it states the model's own (assumption logs 13, 98). -/
def Obligations.MoveResults : Prop :=
  ∀ (s : State) (i : Issue) (k src : BitVec 8) (imm : BitVec 18) (part : Fin 4) (n : Fin 16) (lim : BitVec 21) (d c : Reg), s.aloneReady i →
    let e := i.eng.val
    let r := (s.eng e).regs
    (regOf k = none → s.faultsWith (.movi i k imm) e 1 ∧ s.faultsWith (.moviu i k imm) e 1 ∧ s.faultsWith (.movix i k imm) e 1 ∧
      s.faultsWith (.mov i k src part) e 1) ∧
    (regOf k = some d → d = .rpt ∨ d = .pc → s.faultsWith (.movi i k imm) e 4 ∧ s.faultsWith (.moviu i k imm) e 4) ∧
    (regOf k = some d → d ≠ .rpt → d ≠ .pc →
      s.completes (.movi i k imm) e ((r.moved d imm.toInt).advance .none) ∧
      s.completes (.moviu i k imm) e ((r.moved d (splice (r.read d) 31 14 imm.toNat)).advance .none)) ∧
    (regOf k = some d → imm.toNat < 0x10000 → (∃ j, d = .p j ∨ d = .b j) →
      s.completes (.movix i k imm) e ((r.moved d (splice (r.read d) 47 32 imm.toNat)).advance .none)) ∧
    (regOf k = some d → imm.toNat < 0x10000 → (∀ j, d ≠ .p j ∧ d ≠ .b j) → s.faultsWith (.movix i k imm) e 4) ∧
    (0x10000 ≤ imm.toNat → s.faultsWith (.movix i k imm) e 1) ∧
    (s.faultsWith (.mov i k src 3) e 1) ∧
    (regOf k = some d → regOf src = some c → part.val ≠ 3 →
      (∀ v, movValue r part d c = some v → d ≠ .rpt → d ≠ .pc → s.completes (.mov i k src part) e ((r.moved d v).advance .none)) ∧
      (movValue r part d c = none → s.faultsWith (.mov i k src part) e 4)) ∧
    (movValue r 0 (.g 1) (.g 2) = some (r.gR 2).toInt ∧ movValue r 0 (.g 1) (.p 2) = some ((r.pR 2).toNat : Int) ∧
      movValue r 0 .pc (.g 2) = none ∧ movValue r 2 (.p 1) (.g 2) = none) ∧
    s.completes (.limm i n false lim) e ((r.limm (r.bR n) n (lim.zeroExtend 24)).advance .none) ∧
    (lim.toNat < 64 → s.completes (.limm i n true lim) e ((r.limm (r.bR n) n ((r.gR lim.toNat).truncate 24)).advance .none)) ∧
    (64 ≤ lim.toNat → s.faultsWith (.limm i n true lim) e 1)

/-- Loads and stores (R171, R190, R192, R195, R207, R216, R219): the value that each load writes, the bytes that each store writes
and no other, the pointer steps of the address, and the exceptions of a misaligned address, an odd register of a pair, the save
area and a REPEAT body that leaves data memory; LD and ST outside it complete with what the translated access answers, are
suspended at its fault, or raise its exception. Where the spec leaves a choice it states the model's own (assumption logs 13, 14,
97, 101, 180). -/
def Obligations.LoadsAndStores : Prop :=
  ∀ (s : State) (i : Issue) (g : Fin 64) (m : MemAddr), s.aloneReady i → i.slot = .y →
    let e := i.eng.val
    let r := (s.eng e).regs
    let a := r.address m
    let at_ := fun n : Nat => fromLe (s.dataRead e a.va n)
    (a.exc = [] → a.va < 0x10000 →
      (a.va % 4 = 0 →
        s.completes (.ld i g m) e (((r.stepped a).setG g (BitVec.ofNat 32 (at_ 4))).advance .none) ∧
        s.completes (.bld i g m) e (((r.stepped a).setG g
          (bldWord (s.bit (R.ENG_STAT_RMODE e)) r.bexp (BitVec.ofNat 32 (at_ 4)))).advance .none)) ∧
      (a.va % 2 = 0 →
        s.completes (.ldh i g m) e (((r.stepped a).setG g ((BitVec.ofNat 16 (at_ 2)).signExtend 32)).advance .none) ∧
        s.completes (.ldhu i g m) e (((r.stepped a).setG g (BitVec.ofNat 32 (at_ 2))).advance .none)) ∧
      s.completes (.ldb i g m) e (((r.stepped a).setG g ((BitVec.ofNat 8 (at_ 1)).signExtend 32)).advance .none) ∧
      s.completes (.ldbu i g m) e (((r.stepped a).setG g (BitVec.ofNat 32 (at_ 1))).advance .none) ∧
      (a.va % 8 = 0 → g.val % 2 = 0 → s.completes (.ldd i g m) e
        ((((r.stepped a).setG g (BitVec.ofNat 32 (at_ 4))).setG (g.val + 1) (BitVec.ofNat 32 (at_ 8 / 2 ^ 32))).advance .none)) ∧
      (a.va % 4 ≠ 0 → s.faultsWith (.ld i g m) e 8 ∧ s.faultsWith (.bld i g m) e 8 ∧ s.faultsWith (.st i g m) e 8 ∧
        s.faultsWith (.bst i g m) e 8) ∧
      (a.va % 2 ≠ 0 → s.faultsWith (.ldh i g m) e 8 ∧ s.faultsWith (.ldhu i g m) e 8 ∧ s.faultsWith (.sth i g m) e 8) ∧
      (a.va % 8 ≠ 0 → g.val % 2 = 0 → s.faultsWith (.ldd i g m) e 8 ∧ s.faultsWith (.std i g m) e 8) ∧
      (g.val % 2 = 1 → s.faultsWith (.ldd i g m) e 4 ∧ s.faultsWith (.std i g m) e 4) ∧
      (0xF000 ≤ a.va → s.faultsWith (.stb i g m) e 0xA ∧ (a.va % 4 = 0 → s.faultsWith (.st i g m) e 0xA)) ∧
      (a.va < 0xF000 →
        s.stores (.stb i g m) e a.va [(r.gR g).extractLsb' 0 8] ((r.stepped a).advance .none) ∧
        (a.va % 2 = 0 → s.stores (.sth i g m) e a.va (leBytes 2 (r.gR g).toNat) ((r.stepped a).advance .none)) ∧
        (a.va % 4 = 0 → s.stores (.st i g m) e a.va (leBytes 4 (r.gR g).toNat) ((r.stepped a).advance .none) ∧
          s.stores (.bst i g m) e a.va (leBytes 4 (r.gR g).toNat)
            (({ r.stepped a with bexp := flgMerge r.bexp mCUR (BitVec.ofNat 32 (bstCur r.bexp (r.gR g))) } : EngRegs).advance .none)) ∧
        (a.va % 8 = 0 → g.val % 2 = 0 → s.stores (.std i g m) e a.va
          (leBytes 4 (r.gR g).toNat ++ leBytes 4 (r.gR (g.val + 1)).toNat) ((r.stepped a).advance .none)))) ∧
    (a.exc = [1] → s.faultsWith (.ld i g m) e 1 ∧ s.faultsWith (.st i g m) e 1) ∧
    (a.exc = [] → 0x10000 ≤ a.va → r.rptOn = true → s.faultsWith (.ld i g m) e 5 ∧ s.faultsWith (.stb i g m) e 5) ∧
    (a.exc = [] → 0x10000 ≤ a.va → a.va % 4 = 0 → r.rptOn = false →
      (∀ p, p = (s.opened i 0).engRead e a.va 4 i.ecc →
        (∀ bs, p.2 = .ok bs → ∃ u : State, exec (.ld i g m) s = .next u ∧ u.mem = p.1.mem ∧
          (u.eng e).regs = ((r.stepped a).setG g (BitVec.ofNat 32 (fromLe bs))).advance .none) ∧
        (∀ c, p.2 = .error (.exc c) → exec (.ld i g m) s = .next (p.1.engException e c)) ∧
        (∀ c, p.2 = .error (.susp c a.va false) →
          exec (.ld i g m) s = .next (((p.1.engSuspend e c a.va false).haltDue e).abandonDue e))) ∧
      (∀ p, p = (s.opened i 0).engWrite e a.va (leBytes 4 (r.gR g).toNat) i.ecc →
        (p.2 = none → ∃ u : State, exec (.st i g m) s = .next u ∧ u.mem = p.1.mem ∧ (u.eng e).regs = (r.stepped a).advance .none) ∧
        (∀ c, p.2 = some (.exc c) → exec (.st i g m) s = .next (p.1.engException e c)) ∧
        (∀ c, p.2 = some (.susp c a.va true) →
          exec (.st i g m) s = .next (((p.1.engSuspend e c a.va true).haltDue e).abandonDue e))))

/-- TAPM (R192, R195, R219): one bundle multiplies the words at two pointers into an accumulator, steps both, and, without .NM and
.H, moves the delay word one step back; Pc equal to Pd is a conflict, V = 3 is ILLEGAL, and a misaligned pointer or a move into
the save area raises its exception. Where the spec leaves a choice it states the model's own (assumption logs 13, 14, 97). -/
def Obligations.TapmResults : Prop :=
  ∀ (s : State) (i : Issue) (n : Fin 8) (c d : Fin 16), s.aloneReady i → i.slot = .x →
    let e := i.eng.val
    let r := (s.eng e).regs
    let ca := (r.pR c).toNat
    let da := (r.pR d).toNat
    let cw := BitVec.ofNat 32 (fromLe (s.dataRead e ca 4))
    let dw := BitVec.ofNat 32 (fromLe (s.dataRead e da 4))
    let back := (r.stepOf d (-(r.mR d).toInt)).1.toNat
    let after := fun p : Int => (((r.step c (r.mR c).toInt).step d (r.mR d).toInt).setAcc n ((r.accR n).accumulate p)).advance .none
    (c ≠ d → ca < 0x10000 → da < 0x10000 → ca % 4 = 0 → da % 4 = 0 →
      (back % 4 = 0 → back < 0xF000 → s.stores (.tapm i n c d 0) e back (s.dataRead e da 4) (after (cw.toInt * dw.toInt))) ∧
      s.completes (.tapm i n c d 1) e (after (cw.toInt * dw.toInt)) ∧
      s.completes (.tapm i n c d 2) e (after (productS cw dw))) ∧
    (c = d → s.faultsWith (.tapm i n c d 1) e 3) ∧
    (c ≠ d → ca < 0x10000 → da < 0x10000 → ca % 4 = 0 → da % 4 = 0 → back % 4 = 0 → 0xF000 ≤ back → back < 0x10000 →
      s.faultsWith (.tapm i n c d 0) e 0xA) ∧
    (c ≠ d → ca % 4 ≠ 0 ∨ da % 4 ≠ 0 → r.rptOn = false → s.faultsWith (.tapm i n c d 1) e 8) ∧
    s.faultsWith (.tapm i n c d 3) e 1

/-- Control instructions of slot Y (R173, R193, R206, R210, R217, R218, R220, R222): where execution goes, what REPEAT sets up,
the status that SEND writes, the end of an invocation, and TRAP. Where the spec leaves a choice it states the model's own
(assumption logs 13, 37, 100, 105, 107). -/
def Obligations.ControlResults : Prop :=
  ∀ (s : State) (i : Issue) (cond : Fin 16) (tgt : Fin 4096) (d k : Fin 64) (useExp : Bool) (cnt : BitVec 12) (imm : BitVec 16)
    (pt pp : Fin 16) (inv : Inv), s.aloneReady i → i.slot = .y →
    let e := i.eng.val
    let r := (s.eng e).regs
    (r.rptOn = false →
      (∀ taken, condition r.flg cond = some taken →
        s.completes (.bCond i cond tgt) e { r with pc := if taken then tgt.val else r.pc + 1 }) ∧
      s.faultsWith (.bCond i 15 tgt) e 1 ∧
      s.completes (.jal i d tgt) e { r.setG d (BitVec.ofNat 32 (r.pc + 1)) with pc := tgt.val } ∧
      s.completes (.jr i d) e { r with pc := (r.gR d).toNat % 4096 } ∧
      s.completes (.fence i) e { r with pc := r.pc + 1 } ∧
      (r.pc + k.val + 1 ≤ 4095 →
        s.completes (.repeatB i false k cnt) e { r with
          pc := r.pc + 1, rptOn := true, rptCnt := cnt.toNat + 1, rptStart := r.pc + 1, rptLen := k.val + 1, rptPos := 0 } ∧
        (cnt.toNat < 64 → (r.gR cnt.toNat).toNat % 8192 = 0 →
          s.completes (.repeatB i true k cnt) e { r with pc := r.pc + 1 + (k.val + 1) }) ∧
        (cnt.toNat < 64 → ∀ q, q = min 4096 ((r.gR cnt.toNat).toNat % 8192) → 0 < q → s.completes (.repeatB i true k cnt) e { r with
          pc := r.pc + 1, rptOn := true, rptCnt := q, rptStart := r.pc + 1, rptLen := k.val + 1, rptPos := 0 }) ∧
        (64 ≤ cnt.toNat → s.faultsWith (.repeatB i true k cnt) e 1)) ∧
      (4095 < r.pc + k.val + 1 → s.faultsWith (.repeatB i false k cnt) e 7) ∧
      ((s.eng e).run = some inv → ∃ u : State, exec (.endInv i) s = .next u ∧ (u.eng e).run = none ∧
        u.get (R.ENG_INV_CNT_COUNT e) = (s.get (R.ENG_INV_CNT_COUNT e) + 1) % 2 ^ 32 ∧ u.mem = { s.mem with loc := u.mem.loc } ∧
        ((∀ f ∈ s.sched.flights, f.item.tag.dst = s.unitId (0x100 + e) → f.phase ≠ .waiting) → u.mem = s.mem)) ∧
      ((s.eng e).run = some inv → (r.pR pt).toNat % 32 = 0 → (r.pR pp).toNat % 8 = 0 → (r.pR pt).toNat + 32 ≤ 0x10000 →
        ∀ len, len = (r.gR k).toNat → (r.pR pp).toNat + len ≤ 0x10000 →
        ∀ (p : State) (it : Item), p = s.opened i 0 → it = p.sendItem e inv (r.pR pt).toNat (r.pR pp).toNat len useExp →
        (p.dstBad it.tag.dst = true → ∃ u : State, exec (.send i d pt pp k useExp) s = .next u ∧
          (u.eng e).regs = { r.setG d 1 with flg := r.flg &&& ~~~mSATS, pc := r.pc + 1 } ∧ u.sched.flights = s.sched.flights) ∧
        (p.dstBad it.tag.dst = false → 4096 < it.tag.len →
          s.completes (.send i d pt pp k useExp) e { r.setG d 2 with flg := r.flg &&& ~~~mSATS, pc := r.pc + 1 }) ∧
        (p.dstBad it.tag.dst = false → it.tag.len ≤ 4096 → p.hasRoomFor it = true →
          (p.takeItem it inv.pri none).2 = 0 → ∀ t, (p.takeItem it inv.pri none).1.sendDelivered it = some t →
          ∃ u : State, exec (.send i d pt pp k useExp) s = .next u ∧ u.sched = t.sched ∧
            (u.eng e).regs = { (t.eng e).regs.setG d 0 with flg := (t.eng e).regs.flg &&& ~~~mSATS, pc := (t.eng e).regs.pc + 1 }) ∧
        (p.dstBad it.tag.dst = false → it.tag.len ≤ 4096 → p.hasRoomFor it = false →
          s.completes (.send i d pt pp k useExp) e r)) ∧
      ((r.pR pt).toNat % 32 ≠ 0 ∨ (r.pR pp).toNat % 8 ≠ 0 → s.faultsWith (.send i d pt pp k useExp) e 8) ∧
      ((r.pR pt).toNat % 32 = 0 → (r.pR pp).toNat % 8 = 0 →
        0x10000 < (r.pR pt).toNat + 32 ∨ 0x10000 < (r.pR pp).toNat + (r.gR k).toNat →
        s.faultsWith (.send i d pt pp k useExp) e 0xA)) ∧
    (r.rptOn = true → s.faultsWith (.bCond i 0 tgt) e 5 ∧ s.faultsWith (.jal i d tgt) e 5 ∧ s.faultsWith (.jr i d) e 5 ∧
      s.faultsWith (.endInv i) e 5 ∧ s.faultsWith (.fence i) e 5 ∧ s.faultsWith (.send i d pt pp k useExp) e 5 ∧
      (cnt.toNat < 64 → s.faultsWith (.repeatB i true k cnt) e 5)) ∧
    ∃ u : State, exec (.trap i imm) s = .next (((u.raise (u.srcEng e) 0 0x63 imm.toNat).haltDue e).syncEng e) ∧
      (u.eng e).regs = r.advance .none ∧ u.get (R.ENG_LAST_EXC_CODE e) = 0x20 ∧ u.get (R.ENG_LAST_EXC_PC e) = r.pc

/-- Bundles (R176, R206, R221 to R223): an engine that does not issue does nothing; the first slot of a bundle waits for the
other, and both compute from the registers before the bundle; a reserved field that is not zero is ILLEGAL before anything else,
and a bundle past the program is PC_END; an instruction in a slot that its row does not allow is SLOT. The words of a bundle are
decoded by the formats and codes of the tables (R205, R207, R210, R211, R219): a reserved OP, FN or SUB and half a TAPM name no
instruction, and an engine that stands there is contained with ILLEGAL. The bundle counter, REPEAT (R193, R220): the body runs its
length, then again from its start, for as often as the count says. Where the spec leaves a choice it states the model's own
(assumption logs 13, 105, 181). -/
def Obligations.BundleRules : Prop :=
  ((∀ (s : State) (c : Instr) (i : Issue), issueOf c = some i →
    (s.engIssues i.eng = false → (s.eng i.eng).half = none → exec c s = .next s) ∧
    (s.engIssues i.eng = true → (s.eng i.eng).half = none → i.paired = true →
      ∃ x : Eff, exec c s = .next (s.modEng i.eng fun y => { y with half := some x }) ∧ x.slot = (if i.slot = .x then 0 else 1)) ∧
    (s.engIssues i.eng = true → (s.eng i.eng).half = none → i.paired = false →
      (4096 ≤ (s.eng i.eng).regs.pc → s.faultsWith c i.eng 7) ∧
      ((s.eng i.eng).regs.pc < 4096 → i.rsvd = true → s.faultsWith c i.eng 1) ∧
      ∃ x : Eff, exec c s = .next (s.runBundle i.eng [x])) ∧
    (∀ x : Eff, s.engIssues i.eng = true → (s.eng i.eng).half = some x → i.paired = true → i.slot = .y → x.slot = 0 →
      ∃ y : Eff, y.slot = 1 ∧ exec c s = .next (s.runBundle i.eng [x, y])) ∧
    (s.aloneReady i → slotAllowed c i.slot = false → s.faultsWith c i.eng 1 ∨ s.faultsWith c i.eng 2)) ∧
  (∀ (s : State) (e : Fin 128), (s.eng e).regs.pc < 4096 → s.bundleInstrs e (s.eng e).regs.pc = none → s.engIssues e = true →
    (s.eng e).half = none → s.issueIllegal e = s.engException e 1) ∧
  (∀ (e : Fin 128) (x y : Nat) (n : Fin 8) (c d : Fin 16) (v : Fin 4),
    (decodeBundle e (0x3E * 2 ^ 26 + n * 2 ^ 23 + c * 2 ^ 19 + d * 2 ^ 15 + v * 2 ^ 13) 0xFC000000 =
      some [.tapm ⟨e, .x, false, false, 0, .clean⟩ n c d v]) ∧
    (x / 2 ^ 26 = 0x3E → y ≠ 0xFC000000 → decodeBundle e x y = none) ∧
    (x < 2 ^ 32 → x / 2 ^ 26 ≠ 0x3E → decodeBundle e x 0xFC000000 = none)) ∧
  (∀ (i : Issue) (w : Nat), w < 2 ^ 32 →
    (reservedOps.contains (w / 2 ^ 26) = true → decodeSlot i w = none) ∧
    (w / 2 ^ 26 = 0x01 → (w % 32 = 0x0F ∨ 0x19 ≤ w % 32) → decodeSlot i w = none) ∧
    (w / 2 ^ 26 = 0x0E → 4 ≤ w / 2 ^ 23 % 8 → decodeSlot i w = none) ∧
    (w / 2 ^ 26 = 0x0F → 2 ≤ w % 256 → decodeSlot i w = none)) ∧
  (∀ (i : Issue) (d a b : Fin 64) (k n : Fin 8) (q r j : Fin 4) (x y : Fin 32) (p t : Fin 16) (u z c : Bool)
    (m8 l8 : BitVec 8) (off : BitVec 13) (imm : BitVec 14) (v : BitVec 18) (lim : BitVec 21) (tgt : Fin 4096) (cnt : BitVec 12)
    (tr : BitVec 16), i.rsvd = false →
    (∀ g ∈ aluFunctions,
      decodeSlot i (0x01 * 2 ^ 26 + d * 2 ^ 20 + a * 2 ^ 14 + b * 2 ^ 8 + g.1) = some (g.2 i d a b none) ∧
      decodeSlot i (0x01 * 2 ^ 26 + d * 2 ^ 20 + a * 2 ^ 14 + b * 2 ^ 8 + 0x80 + q * 2 ^ 5 + g.1) = some (g.2 i d a b (some q))) ∧
    (∀ g ∈ immFunctions, decodeSlot i (g.1 * 2 ^ 26 + d * 2 ^ 20 + a * 2 ^ 14 + imm.toNat) = some (g.2 i d a imm)) ∧
    (∀ g ∈ memFunctions, decodeSlot i (g.1 * 2 ^ 26 + d * 2 ^ 20 + k * 2 ^ 17 + p * 2 ^ 13 + off.toNat) = some (g.2 i d ⟨k, p, off⟩)) ∧
    decodeSlot i (0x0F * 2 ^ 26 + d * 2 ^ 20 + a * 2 ^ 14 + b * 2 ^ 8) = some (.divs i d a b) ∧
    decodeSlot i (0x0F * 2 ^ 26 + d * 2 ^ 20 + a * 2 ^ 14 + b * 2 ^ 8 + 1) = some (.divu i d a b) ∧
    decodeSlot i (0x08 * 2 ^ 26 + n * 2 ^ 23 + a * 2 ^ 17 + b * 2 ^ 11 + k * 2 ^ 8 + u.toNat * 2 ^ 7 + z.toNat * 2 ^ 6) =
      some (.mac i n a b k u z) ∧
    decodeSlot i (0x09 * 2 ^ 26 + q * 2 ^ 24 + x * 2 ^ 18 + y * 2 ^ 13 + r * 2 ^ 11 + u.toNat * 2 ^ 10 + z.toNat * 2 ^ 9 + j * 2 ^ 7) =
      some (.mac2 i q x y r u z j) ∧
    decodeSlot i (0x0A * 2 ^ 26 + q * 2 ^ 24 + a * 2 ^ 17 + b * 2 ^ 11 + c.toNat * 2 ^ 10 + u.toNat * 2 ^ 9 + z.toNat * 2 ^ 8) =
      some (.cmac i q a b c u z) ∧
    decodeSlot i (0x0B * 2 ^ 26 + m8.toNat) = some (.clr i m8) ∧
    decodeSlot i (0x0C * 2 ^ 26 + d * 2 ^ 20 + n * 2 ^ 17 + q * 2 ^ 15 + c.toNat * 2 ^ 14) = some (.wb i d n q c) ∧
    decodeSlot i (0x0D * 2 ^ 26 + d * 2 ^ 20 + n * 2 ^ 17 + q * 2 ^ 15 + c.toNat * 2 ^ 14) = some (.wbp i d n q c) ∧
    decodeSlot i (0x0E * 2 ^ 26) = some (.binit i) ∧ decodeSlot i (0x0E * 2 ^ 26 + 2 ^ 23) = some (.bbegin i) ∧
    decodeSlot i (0x0E * 2 ^ 26 + 2 * 2 ^ 23) = some (.bend i) ∧
    decodeSlot i (0x0E * 2 ^ 26 + 3 * 2 ^ 23 + m8.toNat) = some (.badj i m8) ∧
    decodeSlot i (0x10 * 2 ^ 26 + m8.toNat * 2 ^ 18 + v.toNat) = some (.movi i m8 v) ∧
    decodeSlot i (0x11 * 2 ^ 26 + m8.toNat * 2 ^ 18 + v.toNat) = some (.moviu i m8 v) ∧
    decodeSlot i (0x12 * 2 ^ 26 + m8.toNat * 2 ^ 18 + v.toNat) = some (.movix i m8 v) ∧
    decodeSlot i (0x13 * 2 ^ 26 + p * 2 ^ 22 + u.toNat * 2 ^ 21 + lim.toNat) = some (.limm i p u lim) ∧
    decodeSlot i (0x14 * 2 ^ 26 + m8.toNat * 2 ^ 18 + l8.toNat * 2 ^ 10 + q * 2 ^ 8) = some (.mov i m8 l8 q) ∧
    decodeSlot i (0x2C * 2 ^ 26 + p * 2 ^ 22 + tgt) = some (.bCond i p tgt) ∧
    decodeSlot i (0x2D * 2 ^ 26 + d * 2 ^ 20 + tgt) = some (.jal i d tgt) ∧ decodeSlot i (0x2E * 2 ^ 26 + d) = some (.jr i d) ∧
    decodeSlot i (0x2F * 2 ^ 26 + u.toNat * 2 ^ 25 + d * 2 ^ 19 + cnt.toNat) = some (.repeatB i u d cnt) ∧
    decodeSlot i (0x30 * 2 ^ 26 + d * 2 ^ 20 + p * 2 ^ 16 + t * 2 ^ 12 + a * 2 ^ 6 + u.toNat * 2 ^ 5) = some (.send i d p t a u) ∧
    decodeSlot i 0 = some (.nop i) ∧ decodeSlot i (0x31 * 2 ^ 26) = some (.endInv i) ∧
    decodeSlot i (0x32 * 2 ^ 26) = some (.fence i) ∧ decodeSlot i (0x33 * 2 ^ 26 + tr.toNat) = some (.trap i tr))) ∧
  (∀ (r : EngRegs) (act : Act), r.rptOn = true →
    (r.rptPos + 1 < r.rptLen → r.advance act = { r with pc := r.pc + 1, rptPos := r.rptPos + 1 }) ∧
    (r.rptLen ≤ r.rptPos + 1 → 1 < r.rptCnt → r.advance act = { r with pc := r.rptStart, rptPos := 0, rptCnt := r.rptCnt - 1 }) ∧
    (r.rptLen ≤ r.rptPos + 1 → r.rptCnt ≤ 1 →
      (r.advance act).pc = r.rptStart + r.rptLen ∧ (r.advance act).rptOn = false ∧ (r.advance act).rptCnt = 0))

/-- Invocations and levels (R173, R175, R181, R184, R198 to R201, R203): the next invocation starts with its four registers set,
SATS clear and every other register as it was, and one that pre-empts feeds ENG_PRE_MAX; a running one is saved at a pre-emption
point and restored when its level is the highest, with every register as it was saved; a fault during the save or the restore is a
double fault. An engine that is off, halted, contained, not dispatching or being quiesced starts none. Where the spec leaves a
choice it states the model's own (assumption logs 73, 74, 178, 179). -/
def Obligations.InvocationCommands : Prop :=
  (∀ (s : State) (e : Fin 128) (b : Bool), s.engLive e = false →
    exec (.invocationStart e) s = .next s ∧ exec (.preemption e b) s = .next s ∧ exec (.invocationResume e b) s = .next s) ∧
  (∀ (r : EngRegs) (h p : Nat), r.pc < 4096 → r.rptCnt < 8192 → 1 ≤ r.rptLen → r.rptLen ≤ 64 → r.rptStart < 4096 → r.rptPos < 64 →
    ∀ q, q = contextRegs (contextBytes r h p) →
      (∀ k, k < 64 → q.gR k = r.gR k) ∧ (∀ k, k < 16 → q.pR k = r.pR k ∧ q.bR k = r.bR k ∧ q.mR k = r.mR k ∧ q.lR k = r.lR k ∧
        q.lstR k = r.lstR k) ∧ (∀ k, k < 8 → q.accR k = r.accR k) ∧ (∀ k, k < 4 → q.wselR k = r.wselR k) ∧
      q.bexp = r.bexp ∧ q.flg = r.flg ∧ q.pc = r.pc ∧ q.rptOn = r.rptOn ∧ q.rptCnt = r.rptCnt ∧ q.rptLen = r.rptLen ∧
      q.rptStart = r.rptStart ∧ q.rptPos = r.rptPos) ∧
  ∀ (s : State) (e : Fin 128) (i : Inv) (l : Nat), s.engLive e = true →
    (s.engDispatches e = false → exec (.invocationStart e) s = .next s ∧ exec (.preemption e false) s = .next s) ∧
    (s.quiesceLate (s.unitId (0x100 + e.val)) = true → exec (.invocationStart e) s = .next s) ∧
    (s.engDispatches e = true → s.quiesceLate (s.unitId (0x100 + e.val)) = false → (s.eng e).nextInv = some i →
      ∃ u : State, exec (.invocationStart e) s = .next u ∧ (u.eng e).run = some i ∧ (u.eng e).regs.pc = i.entry ∧
        (u.eng e).regs.rptOn = false ∧ (∀ k, k ≠ 62 → k ≠ 63 → (u.eng e).regs.gR k = (s.eng e).regs.gR k) ∧
        (∀ k, k ≠ 14 → k ≠ 15 → (u.eng e).regs.pR k = (s.eng e).regs.pR k) ∧ (u.eng e).regs.m = (s.eng e).regs.m ∧
        (u.eng e).regs.l = (s.eng e).regs.l ∧ (u.eng e).regs.lst = (s.eng e).regs.lst ∧ (u.eng e).regs.b = (s.eng e).regs.b ∧
        (u.eng e).regs.acc = (s.eng e).regs.acc ∧ (u.eng e).regs.wsel = (s.eng e).regs.wsel ∧
        (u.eng e).regs.bexp = (s.eng e).regs.bexp ∧ (∀ k, k ≠ e.val → u.eng k = s.eng k) ∧
        u.get (R.ENG_PRE_MAX e) = (if i.pre then max (s.get (R.ENG_PRE_MAX e)) (min (s.time - i.queued) 65535)
          else s.get (R.ENG_PRE_MAX e)) ∧
        (u.eng e).regs.pR 14 = BitVec.ofNat 48 i.addr ∧ (u.eng e).regs.pR 15 = BitVec.ofNat 48 (i.addr + 32) ∧
        (u.eng e).regs.gR 63 = BitVec.ofNat 32 i.len ∧ (u.eng e).regs.gR 62 = BitVec.ofNat 32 i.stream ∧
        (u.eng e).regs.flg = (s.eng e).regs.flg &&& 0xF#32 ∧ (u.eng e).queue = (s.eng e).queue.erase i ∧ u.mem = s.mem) ∧
    ((s.eng e).nextInv = none → exec (.invocationStart e) s = .next s) ∧
    (s.engDispatches e = true → (s.eng e).run = some i → (s.eng e).preempts = true → (s.eng e).atPoint = true →
      (∃ u : State, exec (.preemption e false) s = .next u ∧ (u.eng e).run = none ∧
        (u.eng e).saved = (s.eng e).saved ++ [(i.pri, i)] ∧ (u.eng e).regs = (s.eng e).regs ∧
        (∀ k, k ≠ e.val → u.eng k = s.eng k) ∧ u.mem = { s.mem with loc := u.mem.loc } ∧
        (∀ a, a < e * 0x10000 + saveArea i.pri ∨ e * 0x10000 + saveArea i.pri + 0x36C ≤ a →
          memByte u.mem.loc a = memByte s.mem.loc a) ∧
        u.dataRead e (saveArea i.pri) (contextBytes (s.eng e).regs i.handler i.pri).length =
          contextBytes (s.eng e).regs i.handler i.pri ∧
        u.get (R.ENG_PRE_CNT_COUNT e) = (s.get (R.ENG_PRE_CNT_COUNT e) + 1) % 2 ^ 32) ∧
      exec (.preemption e true) s = .next (s.engException e 0x30)) ∧
    ((s.eng e).preempts = false ∨ (s.eng e).atPoint = false → exec (.preemption e false) s = .next s) ∧
    ((s.eng e).resumeLevel = some l → (s.eng e).saved.find? (fun v => v.1 = l) = some (l, i) →
      (∃ u : State, exec (.invocationResume e false) s = .next u ∧ (u.eng e).run = some i ∧
        (u.eng e).regs = contextRegs (s.dataRead e (saveArea l) 0x36C) ∧
        (u.eng e).saved = (s.eng e).saved.filter (fun v => v.1 != l) ∧ u.mem = s.mem ∧
        ∀ k, k ≠ e.val → u.eng k = s.eng k) ∧
      exec (.invocationResume e true) s = .next (s.engException e 0x30)) ∧
    ((s.eng e).resumeLevel = none → exec (.invocationResume e false) s = .next s)

/-- The engine page (R174, R181, R182, R203): HALT, RESUME and TEST by the owner, each at once or at the point it waits for; the
end of a self-test, which leads to NORMAL (from RECOVER once no invocation runs or is saved) or contains the engine; ENG_INBUF's
change once the buffer is empty; and the read of PRE_MAX. A writer who is not the owner is refused, and nothing acts before the
firmware runs. Where the spec leaves a choice it states the model's own (assumption logs 7, 73, 92). -/
def Obligations.EnginePageCommands : Prop :=
  ∀ (s : State) (w : Writer) (e : Fin 128),
    (s.awake = false → exec (.engHalt w e) s = .next s ∧ exec (.engResume w e) s = .next s ∧ exec (.engTest w e) s = .next s) ∧
    (s.awake = true → s.matchesOwner w (s.get (R.PAGE_OWNER (engPage e))) = true →
      ((s.eng e).run = none ∨ (s.eng e).atPoint = true →
        ∃ u : State, exec (.engHalt w e) s = .next u ∧ u.bit (R.ENG_STAT_HALTED e) = true ∧ u.engs = s.engs) ∧
      ((s.eng e).run.isSome = true → (s.eng e).atPoint = false →
        ∃ u : State, exec (.engHalt w e) s = .next u ∧ (u.eng e).haltWant = true ∧ (u.eng e).run = (s.eng e).run ∧
          u.regs = s.regs) ∧
      (∃ u : State, exec (.engResume w e) s = .next u ∧ u.bit (R.ENG_STAT_HALTED e) = false ∧ (u.eng e).haltWant = false) ∧
      (s.get (R.ENG_STAT_STATE e) = 1 → (s.eng e).run = none → (s.eng e).saved = [] →
        ∃ u : State, exec (.engTest w e) s = .next u ∧ u.get (R.ENG_STAT_STATE e) = 2 ∧ u.bit (R.ENG_STAT_RMODE e) = true ∧
          (u.eng e).testWant = false) ∧
      (s.get (R.ENG_STAT_STATE e) = 1 → (s.eng e).run.isSome = true ∨ (s.eng e).saved ≠ [] →
        ∃ u : State, exec (.engTest w e) s = .next u ∧ (u.eng e).testWant = true ∧ u.regs = s.regs) ∧
      (s.get (R.ENG_STAT_STATE e) ≠ 1 → exec (.engTest w e) s = .next s)) ∧
    (s.awake = true → s.matchesOwner w (s.get (R.PAGE_OWNER (engPage e))) = false →
      exec (.engHalt w e) s = .next (s.refuseNotOwner (.engine e) w) ∧
      exec (.engResume w e) s = .next (s.refuseNotOwner (.engine e) w) ∧
      exec (.engTest w e) s = .next (s.refuseNotOwner (.engine e) w)) ∧
    (∃ u : State, exec (.engPreMaxRead e) s = .next u ∧ u.busRead = s.word (R.ENG_PRE_MAX e).addr ∧ u.get (R.ENG_PRE_MAX e) = 0 ∧
      ∀ a, a ≠ (R.ENG_PRE_MAX e).addr → u.word a = s.word a) ∧
    (s.engReady e = true → s.bit (R.ENG_STAT_CONTAINED e) = false → s.get (R.ENG_STAT_STATE e) ≠ 1 →
      exec (.selfTestDone e false) s = .next (s.raise (s.srcEng e) 3 0x23 0) ∧
      (s.get (R.ENG_STAT_STATE e) ≠ 3 ∨ ((s.eng e).reloaded = true ∧ (s.eng e).run = none ∧ (s.eng e).saved = []) →
        ∃ u : State, exec (.selfTestDone e true) s = .next u ∧ u.get (R.ENG_STAT_STATE e) = 1 ∧ u.bit (R.ENG_STAT_RMODE e) = false ∧
          (u.eng e).reloaded = false) ∧
      (s.get (R.ENG_STAT_STATE e) = 3 → (s.eng e).reloaded = false ∨ (s.eng e).run.isSome = true ∨ (s.eng e).saved ≠ [] →
        ∃ u : State, exec (.selfTestDone e true) s = .next u ∧ (u.eng e).tested = true ∧ u.regs = s.regs)) ∧
    (s.engReady e = false ∨ s.bit (R.ENG_STAT_CONTAINED e) = true ∨ s.get (R.ENG_STAT_STATE e) = 1 →
      ∀ b, exec (.selfTestDone e b) s = .next s) ∧
    (s.waits (R.ENG_INBUF_BASE e).addr = true → (s.eng e).slots = [] →
      (∃ u : State, exec (.inbufApply e) s = .next u ∧ u.waits (R.ENG_INBUF_BASE e).addr = false ∧
        ∀ w, tblFind s.wait (R.ENG_INBUF_BASE e).addr = some w →
          u.inbufBase e = w.toNat % 2 ^ 16 / 64 * 64 ∧ u.inbufSize e = w.toNat / 2 ^ 16 / 64 * 64) ∧
      ((∀ f ∈ s.sched.flights, f.item.tag.dst = s.unitId (0x100 + e) → f.phase ≠ .waiting) →
        ∃ u : State, exec (.inbufApply e) s = .next (u.pend (.engine e) irqCommit) ∧
          u.bit (R.ENG_STAT_INBUF_SMALL e) = false ∧ (u.eng e).wr = 0 ∧ (u.eng e).slots = [])) ∧
    ((s.eng e).slots ≠ [] ∨ s.waits (R.ENG_INBUF_BASE e).addr = false → ∃ u : State, exec (.inbufApply e) s = .next u ∧
      u.word (R.ENG_INBUF_BASE e).addr = s.word (R.ENG_INBUF_BASE e).addr ∧
      ((∀ f ∈ s.sched.flights, f.item.tag.dst = s.unitId (0x100 + e) → f.phase ≠ .waiting) → u = s))

/-- Answers to a suspended access (R251, R254, R256): RETRY ends the suspension, ABANDON and the timeout contain the engine;
neither acts before the firmware runs. A bundle's exceptions (R222, R223, R250 to R254, R256): one that contains its engine is
recorded with the lowest code and PC, and raises a class 3 fault; an access that translation refuses suspends the invocation with
its address and cause, one to HOST with the link down suspends it with a class 0 record, and a second one contains the engine.
Where the spec leaves a choice it states the model's own (assumption logs 38, 103). -/
def Obligations.EngineFaultCommands : Prop :=
  (∀ (s : State) (w : Writer) (e : Fin 128),
    (s.awake = false → exec (.retry w e) s = .next s ∧ exec (.abandon w e) s = .next s) ∧
    (s.awake = true → s.matchesOwner w (s.get (R.PAGE_OWNER (clPage (e.val / 8)))) = true → (s.eng e).susp = true →
      (∃ u : State, exec (.retry w e) s = .next u ∧ (u.eng e).susp = false ∧ (u.eng e).link = false ∧
        (u.eng e).regs = (s.eng e).regs ∧ u.bit (R.CL_EFLT_SUSP (e.val / 8) (e.val % 8)) = false) ∧
      ∃ u : State, exec (.abandon w e) s = .next (u.engException e 0x10) ∧ (u.eng e).susp = false ∧
        u.bit (R.CL_EFLT_SUSP (e.val / 8) (e.val % 8)) = false) ∧
    (s.awake = true → s.matchesOwner w (s.get (R.PAGE_OWNER (clPage (e.val / 8)))) = true → (s.eng e).susp = false →
      exec (.retry w e) s = .next s ∧ exec (.abandon w e) s = .next s) ∧
    (s.awake = true → s.matchesOwner w (s.get (R.PAGE_OWNER (clPage (e.val / 8)))) = false →
      exec (.retry w e) s = .next (s.refuseNotOwner (clusterOf e) w) ∧
      exec (.abandon w e) s = .next (s.refuseNotOwner (clusterOf e) w)) ∧
    (s.get (R.CL_FAULT_TMO (e.val / 8)) ≠ 0 → (s.eng e).link = false → (s.eng e).susp = true →
      ∃ u : State, exec (.clFaultTimeout e) s = .next (u.engException e 0x10) ∧ (u.eng e).susp = false) ∧
    (s.get (R.CL_FAULT_TMO (e.val / 8)) = 0 ∨ (s.eng e).link = true ∨ (s.eng e).susp = false →
      exec (.clFaultTimeout e) s = .next s)) ∧
  (∀ (s : State) (e : Fin 128) (code cause va : Nat) (write : Bool), code < 256 →
    (∃ u : State, s.engException e code = u.raise (u.srcEng e) 3 0x20 (code + min (s.eng e).regs.pc 4095 * 256) ∧
      u.get (R.ENG_LAST_EXC_CODE e) = code ∧ u.get (R.ENG_LAST_EXC_PC e) = min (s.eng e).regs.pc 4095 ∧ (u.eng e).half = none) ∧
    ((s.eng e).susp = true → s.engSuspend e cause va write = s.engException e 0x10) ∧
    ((s.eng e).susp = false → cause ≠ 9 → cause < 16 →
      ∃ u : State, s.engSuspend e cause va write = u.raise (u.srcEflt e) 2 0x21 cause ∧ (u.eng e).susp = true ∧
        u.get (R.CL_EFLT_ASID (e.val / 8) (e.val % 8)) = (s.eng e).ctx % 4096 ∧
        u.get (R.CL_EFLT_PC (e.val / 8) (e.val % 8)) = (s.eng e).regs.pc % 4096 ∧ (u.eng e).half = none ∧
        (u.eng e).regs = (s.eng e).regs ∧ u.get (R.CL_EFLT_CAUSE (e.val / 8) (e.val % 8)) = cause ∧
        u.bit (R.CL_EFLT_WRITE (e.val / 8) (e.val % 8)) = write ∧ u.bit (R.CL_EFLT_SUSP (e.val / 8) (e.val % 8)) = true ∧
        u.get (R.CL_EFLT_VA_LO (e.val / 8) (e.val % 8)) = va % 2 ^ 32 ∧ u.get (R.ENG_LAST_EXC_CODE e) = 0x10 ∧
        u.get (R.CL_EFLT_CNT_COUNT (e.val / 8) (e.val % 8)) = (s.get (R.CL_EFLT_CNT_COUNT (e.val / 8) (e.val % 8)) + 1) % 2 ^ 32) ∧
    ((s.eng e).susp = false →
      ∃ u : State, s.engSuspend e 9 va write = u.raise (u.srcEflt e) 0 0x64 0 ∧ (u.eng e).susp = true ∧ (u.eng e).link = true ∧
        u.get (R.CL_EFLT_CAUSE (e.val / 8) (e.val % 8)) = 9))

/-- TLB invalidation (R240): each operation removes the entries that it names from the TLBs that its scope selects, sets BUSY and
leaves every other TLB alone; while BUSY reads 1 nothing is removed, and a writer who is not the owner is refused; the end of the
invalidation clears BUSY. Before the firmware runs no write acts. Translation (R228, R233 to R239): an address that a TLB entry
covers is translated without a walk; a walk that fails, or whose table read meets an uncorrectable error, gives its cause and
leaves the TLBs alone; one that succeeds puts its entry first and counts a miss. The walk follows the pseudocode: CTX, RANGE,
INV1, INV2, RSVD, SPACE and PERM in that order. A TLB never holds more entries than it has places. Where the spec leaves a choice
it states the model's own (assumption logs 7, 15, 96). -/
def Obligations.TranslationCommands : Prop :=
  (∀ (s : State) (w : Writer) (sc : TlbScope) (asid : BitVec 12) (va : BitVec 48),
    (s.awake = false → ∀ c ∈ ([.tlbiAll w sc, .tlbiAsid w sc asid, .tlbiVaAsid w sc asid va, .tlbiVaAll w sc va] : List Instr),
      exec c s = .next s) ∧
    (s.awake = true → s.matchesOwner w (s.get (R.PAGE_OWNER (pageBase (tlbPage sc)))) = true →
      (s.bit (tlbBusy sc) = false → ∀ keep : TlbiOp → Nat → List TlbEnt,
        (∀ op k, keep op k = if k ∈ tlbKeys sc then (s.tlb k).filter (fun x => !x.removed op) else s.tlb k) →
        (∃ u : State, exec (.tlbiAll w sc) s = .next u ∧ u.bit (tlbBusy sc) = true ∧ ∀ k, u.tlb k = keep .all k) ∧
        (∃ u : State, exec (.tlbiAsid w sc asid) s = .next u ∧ u.bit (tlbBusy sc) = true ∧
          ∀ k, u.tlb k = keep (.asid asid.toNat) k) ∧
        (∃ u : State, exec (.tlbiVaAsid w sc asid va) s = .next u ∧ u.bit (tlbBusy sc) = true ∧
          ∀ k, u.tlb k = keep (.vaAsid asid.toNat va.toNat) k) ∧
        ∃ u : State, exec (.tlbiVaAll w sc va) s = .next u ∧ u.bit (tlbBusy sc) = true ∧
          ∀ k, u.tlb k = keep (.vaAll va.toNat) k) ∧
      (s.bit (tlbBusy sc) = true → ∀ c ∈ ([.tlbiAll w sc, .tlbiAsid w sc asid, .tlbiVaAsid w sc asid va, .tlbiVaAll w sc va] : List Instr),
        ∃ u : State, exec c s = .next u ∧ u.mem = s.mem ∧ u.bit (tlbBusy sc) = true)) ∧
    (s.awake = true → s.matchesOwner w (s.get (R.PAGE_OWNER (pageBase (tlbPage sc)))) = false →
      ∀ c ∈ ([.tlbiAll w sc, .tlbiAsid w sc asid, .tlbiVaAsid w sc asid va, .tlbiVaAll w sc va] : List Instr),
        exec c s = .next (s.refuseNotOwner (tlbPage sc) w)) ∧
    (s.bit (tlbBusy sc) = true →
      ∃ u : State, exec (.tlbiDone sc) s = .next (u.done (tlbPage sc)) ∧ u.bit (tlbBusy sc) = false ∧
        (∀ a, a ≠ (tlbBusy sc).addr → u.word a = s.word a) ∧ u.mem = s.mem) ∧
    (s.bit (tlbBusy sc) = false → exec (.tlbiDone sc) s = .next s)) ∧
  ((∀ (s : State) (asid va : Nat) (write : Bool),
    let c := s.get R.MEM_CTX_BASE * 0x10000 + 16 * asid
    let ce := fromLe (s.sramRead c 16)
    let l1 := s.tableRead (natBits ce 55 52) (natBits ce 51 12 * 4096 + 8 * (va / 2 ^ 21))
    let l2 := fun e1 : Nat => s.tableRead (natBits e1 55 52) (natBits e1 51 12 * 4096 + 8 * (va / 2 ^ 12 % 512))
    (s.bit R.MEM_CTX_BASE_EN = false → s.walk asid va write = .error 2) ∧
    (s.bit R.MEM_CTX_BASE_EN = true → c + 16 ≤ 0x800000 →
      (ce.testBit 0 = false ∨ natBits ce 69 64 < 32 ∨ 48 < natBits ce 69 64 ∨ (natBits ce 55 52 ≠ 1 ∧ natBits ce 55 52 ≠ 2) ∨
          natBits ce 11 1 ≠ 0 ∨ natBits ce 63 56 ≠ 0 ∨ natBits ce 71 70 ≠ 0 ∨ natBits ce 127 73 ≠ 0 →
        s.walk asid va write = .error 2) ∧
      (ce.testBit 0 = true → 32 ≤ natBits ce 69 64 → natBits ce 69 64 ≤ 48 → (natBits ce 55 52 = 1 ∨ natBits ce 55 52 = 2) →
        natBits ce 11 1 = 0 → natBits ce 63 56 = 0 → natBits ce 71 70 = 0 → natBits ce 127 73 = 0 →
        (2 ^ natBits ce 69 64 ≤ va → s.walk asid va write = .error 1) ∧
        (va < 2 ^ natBits ce 69 64 →
          (l1 = none → s.walk asid va write = .error 8) ∧
          ∀ e1, l1 = some e1 →
            (e1.testBit 0 = false → s.walk asid va write = .error 3) ∧
            (e1.testBit 0 = true → (natBits e1 11 6 ≠ 0 ∨ natBits e1 63 56 ≠ 0 ∨ e1.testBit 4 = true) →
              s.walk asid va write = .error 5) ∧
            (e1.testBit 0 = true → natBits e1 11 6 = 0 → natBits e1 63 56 = 0 → e1.testBit 4 = false →
              (e1.testBit 1 = false → s.walk asid va write = leafEntry e1 21 asid va (ce.testBit 72) write) ∧
              (e1.testBit 1 = true → natBits e1 55 52 ≠ 1 → natBits e1 55 52 ≠ 2 → s.walk asid va write = .error 5) ∧
              (e1.testBit 1 = true → (natBits e1 55 52 = 1 ∨ natBits e1 55 52 = 2) →
                (l2 e1 = none → s.walk asid va write = .error 8) ∧
                ∀ e2, l2 e1 = some e2 →
                  (e2.testBit 0 = false → s.walk asid va write = .error 4) ∧
                  (e2.testBit 0 = true → (natBits e2 11 6 ≠ 0 ∨ natBits e2 63 56 ≠ 0 ∨ e2.testBit 1 = true) →
                    s.walk asid va write = .error 5) ∧
                  (e2.testBit 0 = true → natBits e2 11 6 = 0 → natBits e2 63 56 = 0 → e2.testBit 1 = false →
                    s.walk asid va write =
                      leafEntry e2 (if e2.testBit 4 then 16 else 12) asid va (ce.testBit 72) write))))))) ∧
  (∀ (e sz asid va : Nat) (ro write : Bool), 12 ≤ sz →
    (4 < natBits e 55 52 → leafEntry e sz asid va ro write = .error 6) ∧
    (natBits e 55 52 ≤ 4 → (if write then !e.testBit 3 || ro else !e.testBit 2) = true → leafEntry e sz asid va ro write = .error 7) ∧
    (natBits e 55 52 ≤ 4 → (if write then !e.testBit 3 || ro else !e.testBit 2) = false →
      ∃ x, leafEntry e sz asid va ro write = .ok x ∧ x.asid = asid ∧ x.size = sz ∧ x.page = va / 2 ^ sz ∧ x.glob = e.testBit 5 ∧
        x.r = e.testBit 2 ∧ x.w = (e.testBit 3 && !ro) ∧
        x.base + va % 2 ^ x.size = natBits e 55 52 * 2 ^ 52 + natBits e 51 12 * 2 ^ 12 / 2 ^ sz * 2 ^ sz + va % 2 ^ sz)) ∧
  ∀ (s : State) (k asid va : Nat) (write : Bool) (found : EccOutcome), k < 144 →
    (∀ x, s.tlbHit k asid va write = some x →
      (s.translate k asid va write found).2 = .ok (x.base + va % 2 ^ x.size) ∧
      (s.translate k asid va write found).1.regs = s.regs) ∧
    (s.tlbHit k asid va write = none →
      (s.walkDram asid va = none ∨ found ≠ .uncorrectable →
        (∀ c, s.walk asid va write = .error c →
          (s.translate k asid va write found).2 = .error c ∧ (s.translate k asid va write found).1.mem = s.mem) ∧
        (∀ x, s.walk asid va write = .ok x → (s.translate k asid va write found).2 = .ok (x.base + va % 2 ^ x.size) ∧
          ((s.translate k asid va write found).1.tlb k).head? = some x)) ∧
      (∀ o, s.walkDram asid va = some o → found = .uncorrectable →
        (s.translate k asid va write found).2 = .error 8 ∧ (s.translate k asid va write found).1.mem = s.mem)) ∧
    (s.tlbHit k asid va write = none → k < 128 → found = .clean →
      (s.translate k asid va write found).1.get (R.CL_TLB_MISS_COUNT (k / 8)) = (s.get (R.CL_TLB_MISS_COUNT (k / 8)) + 1) % 2 ^ 32) ∧
    ((s.tlb k).length ≤ tlbSize k → ((s.translate k asid va write).1.tlb k).length ≤ tlbSize k) ∧
    ∀ k', k' ≠ k → (s.translate k asid va write).1.tlb k' = s.tlb k')

/-- Errors and channels of the DRAM (R228, R230, R258, R292): what the patrol scrub reports, while SCRUB reads 1 until the pass
ends (model choice); the loss of a channel, with the journal on its other copy or gone with both; and the end of the journal's
rebuild. Where the spec leaves a choice it states the model's own (assumption logs 16, 145). -/
def Obligations.DramErrorCommands : Prop :=
  ∀ (s : State) (ch : Fin 4) (addr : BitVec 32),
    (∃ u : State, exec (.patrolScrub ch addr .clean) s = .next u ∧
      u.bit R.MEM_STAT_SCRUB = !(ch = 3 && addr.toNat / 64 = 2 ^ 26 - 1) ∧
      (∀ a, a ≠ R.MEM_STAT_SCRUB.addr → u.word a = s.word a) ∧ u.mem = s.mem) ∧
    (∃ u : State, exec (.patrolScrub ch addr .corrected) s = .next (u.raise (u.srcDev 0x11) 1 0x30 ch.val) ∧
      u.get R.MEM_ECC_CNT_COUNT = (s.get R.MEM_ECC_CNT_COUNT + 1) % 2 ^ 32 ∧
      ∀ a, a ≠ R.MEM_ECC_CNT_COUNT.addr → a ≠ R.MEM_STAT_SCRUB.addr → ¬ noticeWord a → u.word a = s.word a) ∧
    (∃ u : State, exec (.patrolScrub ch addr .uncorrectable) s = .next (u.raise (u.srcDev 0x11) 2 0x31 ch.val) ∧
      u.get R.MEM_UE_CNT_COUNT = (s.get R.MEM_UE_CNT_COUNT + 1) % 2 ^ 32 ∧ u.get R.MEM_UE_ADDR = addr.toNat ∧
      u.get R.MEM_UE_INFO_CH = ch.val ∧ u.get R.MEM_UE_INFO_AREA = (if addr.toNat < 0xF0000000 then 0 else 1) ∧
      u.mem = s.mem) ∧
    (s.chLost ch = true → exec (.dramChannelLost ch) s = .next s) ∧
    (s.chLost ch = false → s.get R.MEM_STAT_JRN_A ≠ ch.val → s.get R.MEM_STAT_JRN_B ≠ ch.val →
      (s.chLost (s.get R.MEM_STAT_JRN_A) = false ∨ s.chLost (s.get R.MEM_STAT_JRN_B) = false) →
      ∃ u : State, exec (.dramChannelLost ch) s = .next (u.raise (u.srcDev 0x11) 3 0x32 ch.val) ∧ u.chLost ch = true ∧
        u.mem = s.mem ∧ u.sched = s.sched) ∧
    (s.chLost ch = false → s.get R.MEM_STAT_JRN_A = ch.val → s.get R.MEM_STAT_JRN_B ≠ ch.val →
      s.chLost (s.get R.MEM_STAT_JRN_B) = false →
      ∃ u : State, exec (.dramChannelLost ch) s = .next (u.raise (u.srcDev 0x11) 3 0x32 ch.val) ∧ u.chLost ch = true ∧
        u.bit R.SCHED_STAT_JRN_SINGLE = true ∧ u.sched = s.sched ∧
        u.bit R.SCHED_STAT_REBUILD = decide (((List.range 4).filter fun c => c = ch.val || s.chLost c).length < 3)) ∧
    (s.chLost ch = false → s.get R.MEM_STAT_JRN_A ≠ ch.val → s.get R.MEM_STAT_JRN_B = ch.val →
      s.chLost (s.get R.MEM_STAT_JRN_A) = false →
      ∃ u : State, exec (.dramChannelLost ch) s = .next (u.raise (u.srcDev 0x11) 3 0x32 ch.val) ∧ u.chLost ch = true ∧
        u.bit R.SCHED_STAT_JRN_SINGLE = true ∧ u.sched = s.sched) ∧
    (s.chLost ch = false → (s.get R.MEM_STAT_JRN_A = ch.val ∨ s.chLost (s.get R.MEM_STAT_JRN_A) = true) →
      (s.get R.MEM_STAT_JRN_B = ch.val ∨ s.chLost (s.get R.MEM_STAT_JRN_B) = true) →
      ∃ u v : State, exec (.dramChannelLost ch) s = .next (v.raise (v.srcDev 0x11) 3 0x32 ch.val) ∧ v.chLost ch = true ∧
        v = u.raise (u.srcDev 0x15) 4 0x33 0 ∧ u.sched.flights = [] ∧ (s.canon → ∀ k, (u.ring k).next = (u.ring k).cons)) ∧
    (s.bit R.SCHED_STAT_REBUILD = true → s.chLost ch = false → s.chLost (s.get R.MEM_STAT_JRN_A) = true →
      ch.val ≠ s.get R.MEM_STAT_JRN_B →
      ∃ u : State, exec (.journalRebuildDone ch) s = .next u ∧ u.get R.MEM_STAT_JRN_A = s.get R.MEM_STAT_JRN_B ∧
        u.get R.MEM_STAT_JRN_B = ch.val ∧ u.bit R.SCHED_STAT_JRN_SINGLE = false ∧ u.bit R.SCHED_STAT_REBUILD = false) ∧
    (s.bit R.SCHED_STAT_REBUILD = true → s.chLost ch = false → s.chLost (s.get R.MEM_STAT_JRN_A) = false →
      ch.val ≠ s.get R.MEM_STAT_JRN_A →
      ∃ u : State, exec (.journalRebuildDone ch) s = .next u ∧ u.get R.MEM_STAT_JRN_A = s.get R.MEM_STAT_JRN_A ∧
        u.get R.MEM_STAT_JRN_B = ch.val ∧ u.bit R.SCHED_STAT_JRN_SINGLE = false ∧ u.bit R.SCHED_STAT_REBUILD = false) ∧
    (s.bit R.SCHED_STAT_REBUILD = false ∨ s.chLost ch = true → exec (.journalRebuildDone ch) s = .next s)

/-- Read-to-clear registers (R8, R258 to R260, R302, R346, R430, R453): the read answers the word as it was and clears the field,
and no other word changes. Where the spec leaves a choice it states the model's own (assumption log 1). -/
def Obligations.ReadsThatClear : Prop :=
  ∀ (s : State) (c : Fin 16) (p : Fin 2),
    let clears := fun (i : Instr) (f : Field) => ∃ u : State, exec i s = .next u ∧ u.busRead = s.word f.addr ∧ u.get f = 0 ∧
      (∀ a, a ≠ f.addr → u.word a = s.word a) ∧ ∀ g : Field, g.addr = f.addr → g.lo ≤ g.hi → g.hi < 32 → f.hi < g.lo ∨ g.hi < f.lo → u.get g = s.get g
    clears .memEccCntRead R.MEM_ECC_CNT_COUNT ∧ clears (.clTlbMissRead c) (R.CL_TLB_MISS_COUNT c) ∧
    clears (.dmaTlbMissRead c) (R.DMA_TLB_MISS_COUNT c) ∧ clears (.latCrcCntRead p) (R.LAT_CRC_CNT_COUNT p) ∧
    clears (.latReplayCntRead p) (R.LAT_REPLAY_CNT_COUNT p) ∧ clears .fltDropCntRead R.FLT_DROP_CNT_COUNT ∧
    clears .timeStatRead R.TIME_STAT_PPS_NEW ∧ clears .schedRejCntRead R.SCHED_REJ_CNT_COUNT ∧
    clears .schedDupCntRead R.SCHED_DUP_CNT_COUNT ∧ clears .schedRetryCntRead R.SCHED_RETRY_CNT_COUNT ∧
    clears .schedLossCntRead R.SCHED_LOSS_CNT_COUNT ∧ clears .schedKeyhitCntRead R.SCHED_KEYHIT_CNT_COUNT

/-- Memory (R6, R224, R226): bytes written to a space of the device are read back, no other byte of any memory changes, and the
memory keeps its canonical form. In HOST the device reads what it wrote itself until the host writes the byte, and no other byte
of what it wrote changes. Where the spec leaves a choice it states the model's own (assumption log 14). -/
def Obligations.MemoryReadsWhatWasWritten : Prop :=
  (∀ (s : State) (off : Nat) (bs : List Byte),
    (∀ (i : Nat) (h : i < bs.length), Config.hostWrote (off + i) s.free = false → (s.hostWrite off bs).hostSeen (off + i) = bs[i]) ∧
    (∀ a, a < off ∨ off + bs.length ≤ a → (s.hostWrite off bs).hostSeen a = s.hostSeen a) ∧
    ∃ m, s.hostWrite off bs = { s with mem := { s.mem with hostOut := m, hostOwn := (s.hostWrite off bs).mem.hostOwn } }) ∧
  ∀ (s : State) (sp off : Nat) (bs : List Byte), sp < 3 →
    ((s.physWrite sp off bs).physRead sp off bs.length).1 = bs ∧
    (s.canon → (s.physWrite sp off bs).canon) ∧
    (∀ sp' off', sp' < 3 → (sp' ≠ sp ∨ off' < off ∨ off + bs.length ≤ off') →
      ((s.physWrite sp off bs).physRead sp' off' 1).1 = (s.physRead sp' off' 1).1) ∧
    ∃ m, s.physWrite sp off bs = { s with mem := m }

/-- DMA channels (R242 to R249, R255): an idle channel takes its unit's next item; an item with no payload, a bad length, a
stopped or full buffer ends at once; bursts move the item with the highest PRI, in rotation; elements are moved one at a time in
ascending order, and no other byte changes; an item that has ended gives its result and leaves the channel idle, where a committed
CFG takes effect, except in a contained unit, whose channels stand still. Where the spec leaves a choice it states the model's own
(assumption logs 75, 82 to 84, 95). -/
def Obligations.DmaItemCommands : Prop :=
  (∀ (s : State) (w : Writer) (pat : List Byte) (a b k : Nat), 0 < pat.length → a + pat.length * k ≤ 0x800000 →
    (a + pat.length * k ≤ s.get R.MEM_CTX_BASE * 0x10000 ∨ s.get R.MEM_CTX_BASE * 0x10000 + 0x10000 ≤ a) →
    (∀ r, r = State.elemsMove w (fun _ => .bytes pat) (fun i => 2 ^ 52 + a + i * pat.length) pat.length (fun _ => false) k 0 false [] s →
      r.2 = (k, none) ∧ r.1.sramRead a (pat.length * k) = (List.replicate k pat).flatten ∧
      r.1 = { s with mem := { s.mem with sram := r.1.mem.sram } } ∧
      ∀ o, o < a ∨ a + pat.length * k ≤ o → memByte r.1.mem.sram o = memByte s.mem.sram o) ∧
    ∀ n, 0 < n → a + n * k ≤ 0x800000 → b + n * k ≤ 0x800000 → (a + n * k ≤ b ∨ b + n * k ≤ a) →
      (∀ x ∈ [a, b], x + n * k ≤ s.get R.MEM_CTX_BASE * 0x10000 ∨ s.get R.MEM_CTX_BASE * 0x10000 + 0x10000 ≤ x) →
      ∀ r, r = State.elemsMove w (fun i => .phys (2 ^ 52 + b + i * n)) (fun i => 2 ^ 52 + a + i * n) n (fun _ => false) k 0 false [] s →
        r.2 = (k, none) ∧ r.1.sramRead a (n * k) = s.sramRead b (n * k) ∧
        r.1 = { s with mem := { s.mem with sram := r.1.mem.sram } } ∧
        ∀ o, o < a ∨ a + n * k ≤ o → memByte r.1.mem.sram o = memByte s.mem.sram o) ∧
  (∀ (s : State) (c j k : Fin 16), j ≠ k →
    (∀ i : Fin 16, s.dmaEligible c i = true ∧ s.dmaOutranked c i = false ↔ i = j ∨ i = k) →
    (s.dmaTook c j).dmaTurn c j = false ∧ (s.dmaTook c j).dmaTurn c k = true) ∧
  ∀ (s : State) (c j : Fin 16) (found : List EccOutcome) (f : Flight) (o q : Nat × Nat),
    (s.dmaRuns c = true → s.bit (R.DMA_CH_STAT_ACTIVE c j) = false → s.quiesceLate (s.unitId (0x200 + c.val)) = false →
      s.dmaNextItem c j = some f →
      (s.bit (R.DMA_CH_CFG_MODE c j) = false → f.item.payload.length % 32 = 0 → f.item.payload ≠ [] →
        ∃ u : State, exec (.dmaItemStart c j) s = .next u ∧ u.bit (R.DMA_CH_STAT_ACTIVE c j) = true ∧
          (u.dma c j).item = some (f.item.tag.stream, f.item.tag.seq) ∧ (u.dma c j).ended = none ∧ (u.dma c j).desc = 0 ∧
          u.get (R.DMA_CH_STAT_ASID c j) = f.item.tag.ctx % 4096 ∧ u.mem = s.mem) ∧
      (s.bit (R.DMA_CH_CFG_MODE c j) = false → f.item.payload.length % 32 ≠ 0 →
        ∃ u : State, exec (.dmaItemStart c j) s = .next u ∧ u.bit (R.DMA_CH_STAT_ACTIVE c j) = true ∧
          (u.dma c j).ended = some (1, 0)) ∧
      (s.bit (R.DMA_CH_CFG_MODE c j) = false → f.item.payload = [] →
        ∃ u : State, exec (.dmaItemStart c j) s = .next u ∧ (u.dma c j).ended = some (0, 0)) ∧
      (s.bit (R.DMA_CH_CFG_MODE c j) = true → s.capSize c j = 0 ∨ (s.dma c j).stop = true →
        ∃ u : State, exec (.dmaItemStart c j) s = .next u ∧ (u.dma c j).ended = some (6, 0) ∧
          u.bit (R.DMA_CH_STAT_STOPPED c j) = true) ∧
      (s.bit (R.DMA_CH_CFG_MODE c j) = true → 0 < s.capSize c j → (s.dma c j).stop = false →
        (s.bit (R.DMA_CH_CFG_FULL_STOP c j) = true → s.capSize c j < (s.dma c j).wp + (s.capRecord c j f.item).length →
          ∃ u : State, exec (.dmaItemStart c j) s = .next u ∧ (u.dma c j).ended = some (5, 0) ∧
            u.bit (R.DMA_CH_STAT_STOPPED c j) = true) ∧
        (s.bit (R.DMA_CH_CFG_FULL_STOP c j) = false →
          ∃ u : State, exec (.dmaItemStart c j) s = .next u ∧ (u.dma c j).ended = none ∧ u.bit (R.DMA_CH_STAT_ACTIVE c j) = true))) ∧
    (s.bit (R.DMA_CH_STAT_ACTIVE c j) = true ∨ s.dmaRuns c = false ∨ s.dmaNextItem c j = none ∨
        s.quiesceLate (s.unitId (0x200 + c.val)) = true → exec (.dmaItemStart c j) s = .next s) ∧
    (s.dmaRuns c = true → s.dmaEligible c j = true → s.dmaOutranked c j = false → s.dmaTurn c j = true →
      ∀ it, s.dmaItem c j = some it →
      (s.bit (R.DMA_CH_CFG_MODE c j) = true → exec (.dmaBurst c j found) s = .next ((s.dmaTook c j).dmaCapture c j it found)) ∧
      (s.bit (R.DMA_CH_CFG_MODE c j) = false → exec (.dmaBurst c j found) s = .next ((s.dmaTook c j).dmaDesc c j it found)) ∧
      (s.bit (R.DMA_CH_CFG_MODE c j) = false → (s.dma c j).begun = false → (s.dma c j).desc < 65536 → (s.dma c j).list = none →
        (descOf ((it.payload.drop (s.dma c j).pos).take 32)).bad = true →
        ∃ u : State, exec (.dmaBurst c j found) s = .next u ∧ (u.dma c j).ended = some (1, 0) ∧ u.mem = (s.dmaTook c j).mem ∧
          u.regs = s.regs)) ∧
    (s.dmaRuns c = false ∨ s.dmaEligible c j = false ∨ s.dmaOutranked c j = true ∨ s.dmaTurn c j = false ∨ s.dmaItem c j = none →
      exec (.dmaBurst c j found) s = .next s) ∧
    (s.contained.contains (0x200 + c.val) = false → (s.dma c j).ended = some o → (s.dma c j).item = some q →
      ((s.stream q.1).replyEn = true →
        ∃ u : State, exec (.dmaItemEnd c j) s = .next ((u.dmaApply c j).dmaCommitted c) ∧
          u.bit (R.DMA_CH_STAT_ACTIVE c j) = false ∧ (u.dma c j).item = none ∧
          u.sched.offers = s.sched.offers ++ [{ item := s.dmaResult c j (s.stream q.1) o.1 o.2, serves := some q }]) ∧
      ((s.stream q.1).replyEn = false →
        ∃ u : State, exec (.dmaItemEnd c j) s = .next (((u.executed q.1 q.2).dmaApply c j).dmaCommitted c) ∧
          u.bit (R.DMA_CH_STAT_ACTIVE c j) = false ∧ (u.dma c j).item = none ∧ u.sched = s.sched)) ∧
    (s.contained.contains (0x200 + c.val) = true ∨ (s.dma c j).ended = none ∨ (s.dma c j).item = none →
      exec (.dmaItemEnd c j) s = .next s) ∧
    (∀ st status cause p, p = (s.dmaResult c j st status cause).payload → p.length = 16 ∧ fromLe (p.take 1) = status % 256 ∧
      fromLe ((p.drop 1).take 1) = cause % 256 ∧ fromLe ((p.drop 8).take 8) = (s.dma c j).bytes % 2 ^ 64) ∧
    (s.bit (R.DMA_CH_STAT_ACTIVE c j) = true → s.dmaApply c j = s) ∧
    (s.bit (R.DMA_CH_STAT_ACTIVE c j) = false → (∃ a ∈ dmaWords c j, s.waits a = true) → ∀ u, u = s.dmaApply c j →
      u.get (R.DMA_CH_CAP_WP c j) = 0 ∧ u.bit (R.DMA_CH_STAT_WRAPPED c j) = false ∧ u.bit (R.DMA_CH_STAT_STOPPED c j) = false ∧
      (u.dma c j).wp = 0 ∧ (u.dma c j).stop = false ∧ ∀ a ∈ dmaWords c j, u.waits a = false) ∧
    (∃ u : State, s.dmaBus c j = u.raise (u.srcDma c j) 2 0x22 10 ∧ (u.dma c j).ended = some (2, 10) ∧ u.mem = s.mem)

/-- The DMA page (R247 to R249, R252 to R254, R256): RESUME, ABORT, CAP_STOP, the timeout of a suspended channel, the suspension
itself, and the return of the link; RESUME and ABORT also end the handling of the channel's fault, suspended or not. A writer who
is not the owner is refused, and nothing acts before the firmware runs. Where the spec leaves a choice it states the model's own
(assumption logs 7, 70, 93). -/
def Obligations.DmaPageCommands : Prop :=
  ∀ (s : State) (w : Writer) (c j : Fin 16) (e : Fin 128) (cause va : Nat) (write : Bool),
    (s.awake = false → exec (.dmaResume w c j) s = .next s ∧ exec (.dmaAbort w c j) s = .next s ∧ exec (.capStop w c j) s = .next s) ∧
    (s.awake = true → s.matchesOwner w (s.get (R.PAGE_OWNER (dmaPage c))) = true →
      (s.bit (R.DMA_CH_STAT_SUSP c j) = true →
        ∃ u : State, exec (.dmaResume w c j) s = .next (u.ackSource (u.unitId (0x200 + c.val)) (0x300 + j.val)) ∧
          u.bit (R.DMA_CH_STAT_SUSP c j) = false ∧ (u.dma c j).link = false) ∧
      (s.bit (R.DMA_CH_STAT_SUSP c j) = false → exec (.dmaResume w c j) s = .next (s.dmaAnswer c j)) ∧
      (s.bit (R.DMA_CH_STAT_ACTIVE c j) = true → (s.dma c j).ended = none →
        (s.bit (R.DMA_CH_STAT_SUSP c j) = false →
          ∃ u : State, exec (.dmaAbort w c j) s = .next u ∧ (u.dma c j).ended = some (3, 0) ∧ u.regs = (s.dmaAnswer c j).regs) ∧
        (s.bit (R.DMA_CH_STAT_SUSP c j) = true →
          ∃ u : State, exec (.dmaAbort w c j) s = .next u ∧ (u.dma c j).ended = some (3, s.get (R.DMA_CH_STAT_CAUSE c j)) ∧
            u.bit (R.DMA_CH_STAT_SUSP c j) = false)) ∧
      (s.bit (R.DMA_CH_STAT_ACTIVE c j) = true → (s.dma c j).ended.isSome = true →
        exec (.dmaAbort w c j) s = .next (s.dmaAnswer c j)) ∧
      (s.bit (R.DMA_CH_STAT_ACTIVE c j) = false →
        exec (.dmaAbort w c j) s = .next (s.dmaAnswer c j) ∧
        ∃ u : State, exec (.capStop w c j) s = .next u ∧ (u.dma c j).stop = true ∧ u.bit (R.DMA_CH_STAT_STOPPED c j) = true ∧
          ∀ a, a ≠ (R.DMA_CH_STAT_STOPPED c j).addr → u.word a = s.word a) ∧
      (s.bit (R.DMA_CH_STAT_ACTIVE c j) = true →
        ∃ u : State, exec (.capStop w c j) s = .next u ∧ (u.dma c j).stop = true ∧ u.regs = s.regs)) ∧
    (s.awake = true → s.matchesOwner w (s.get (R.PAGE_OWNER (dmaPage c))) = false →
      exec (.dmaResume w c j) s = .next (s.refuseNotOwner (.dma c) w) ∧
      exec (.dmaAbort w c j) s = .next (s.refuseNotOwner (.dma c) w) ∧
      exec (.capStop w c j) s = .next (s.refuseNotOwner (.dma c) w)) ∧
    (s.bit (R.DMA_CH_STAT_SUSP c j) = true → (s.dma c j).link = false → s.get (R.DMA_CTRL_FAULT_TMO c) ≠ 0 →
      ∃ u : State, exec (.dmaFaultTimeout c j) s = .next u ∧ (u.dma c j).ended = some (4, s.get (R.DMA_CH_STAT_CAUSE c j)) ∧
        u.bit (R.DMA_CH_STAT_SUSP c j) = false) ∧
    (s.bit (R.DMA_CH_STAT_SUSP c j) = false ∨ (s.dma c j).link = true ∨ s.get (R.DMA_CTRL_FAULT_TMO c) = 0 →
      exec (.dmaFaultTimeout c j) s = .next s) ∧
    (∃ u : State, s.dmaSuspend c j 9 va write = u.raise (u.srcDma c j) 0 0x64 0 ∧ u.bit (R.DMA_CH_STAT_SUSP c j) = true ∧
      u.get (R.DMA_CH_STAT_CAUSE c j) = 9 ∧ (u.dma c j).link = true) ∧
    (cause < 9 ∧ 0 < cause →
      ∃ u : State, s.dmaSuspend c j cause va write = u.raise (u.srcDma c j) 2 0x21 cause ∧ u.bit (R.DMA_CH_STAT_SUSP c j) = true ∧
        u.get (R.DMA_CH_STAT_CAUSE c j) = cause ∧ u.bit (R.DMA_CH_STAT_WRITE c j) = write ∧
        u.get (R.DMA_CH_FVA_VA_LO c j) = va % 2 ^ 32 ∧ u.get (R.DMA_CH_RES_DESC c j) = (s.dma c j).desc % 65536 ∧
        u.get (R.DMA_CH_RES_ROW c j) = (s.dma c j).row % 65536 ∧ u.get (R.DMA_CH_RES_OFF c j) = (s.dma c j).off % 2 ^ 32 ∧
        u.dmas = s.dmas) ∧
    (s.hostReady = true →
      ((s.eng e).susp = true → (s.eng e).link = true → exec (.linkResume (.engine e)) s = .next (s.engUnsuspend e)) ∧
      (s.bit (R.DMA_CH_STAT_SUSP c j) = true → (s.dma c j).link = true →
        exec (.linkResume (.channel c j)) s = .next (s.dmaUnsuspend c j)) ∧
      ((s.eng e).link = false → exec (.linkResume (.engine e)) s = .next s) ∧
      ((s.dma c j).link = false → exec (.linkResume (.channel c j)) s = .next s)) ∧
    (s.hostReady = false → ∀ r, exec (.linkResume r) s = .next s) ∧
    s.dmaAnswer c j = s.endActive fun a => a.unit = s.unitId (0x200 + c.val) && a.sub = 0x300 + j.val

/-- Stream operations (R262, R265, R274): each is accepted in the states that the rules name, with RESULT 0, and answers RESULT 1
in any other state; an OPEN whose entry is bad answers 2 and leaves the stream as it is; a writer who is not the owner is refused.
An OPEN reads the entry and takes the base, and reads ACK_SEQ of a host-bound stream afresh (R284); a SKIP rejects each SEQ passed
over. Before the firmware runs no write acts. Where the spec leaves a choice it states the model's own (assumption logs 7, 89). -/
def Obligations.StreamOperations : Prop :=
  ∀ (s : State) (w : Writer) (k : Fin 4096) (base : BitVec 48),
    (s.awake = false → exec (.streamOpen w k base) s = .next s ∧ exec (.streamClose w k) s = .next s ∧
      exec (.streamSkip w k) s = .next s ∧ exec (.streamQuery w k) s = .next s) ∧
    (s.awake = true → s.matchesOwner w (s.get (R.PAGE_OWNER schPage)) = true →
      ((s.stream k).state = 0 ∨ (s.stream k).state = 4 →
        (s.entryBad k (entryFields (s.strmEntry k) (s.stream k)) = false → (entryFields (s.strmEntry k) (s.stream k)).dst = 0x1F00 →
          ∃ u : State, exec (.streamOpen w k base) s = .next (u.strmResult 0) ∧ (u.stream k).state = 1 ∧
            (u.stream k).exp = (if base = 0 then 1 else base.toNat) ∧
            (u.stream k).ack = if s.hostReady && fromLe (s.hostRead (entryFields (s.strmEntry k) (s.stream k)).dbase 8).1 =
              (if base = 0 then 1 else base.toNat) - 1 then some ((if base = 0 then 1 else base.toNat) - 1) else none) ∧
        (s.entryBad k (entryFields (s.strmEntry k) (s.stream k)) = false → (entryFields (s.strmEntry k) (s.stream k)).dst ≠ 0x1F00 →
          ∃ u : State, exec (.streamOpen w k base) s = .next (u.strmResult 0) ∧ (u.stream k).state = 1 ∧
            (u.stream k).src = natBits (s.strmEntry k) 31 16 ∧ (u.stream k).dst = natBits (s.strmEntry k) 47 32 ∧
            (u.stream k).isD = (s.strmEntry k).testBit 1 ∧ (u.stream k).bind = natBits (s.strmEntry k) 15 8 ∧
            (u.stream k).exp = (if base = 0 then 1 else base.toNat) ∧ (u.stream k).tx = (if base = 0 then 1 else base.toNat) - 1 ∧
            (u.stream k).acc = (u.stream k).tx ∧ (u.stream k).ret = (u.stream k).tx ∧ (u.stream k).dirty = true ∧
            (u.stream k).retOut = (s.stream k).retOut ∧
            u.get R.SCHED_STRM_CMD_STREAM = k.val ∧ u.get R.SCHED_STRM_CMD_OP = 1) ∧
        (s.bit R.SCHED_STRM_TBL_EN = false ∨ (s.strmEntry k).testBit 0 = false →
          s.entryBad k (entryFields (s.strmEntry k) (s.stream k)) = true) ∧
        (s.entryBad k (entryFields (s.strmEntry k) (s.stream k)) = true →
          ∃ u : State, exec (.streamOpen w k base) s = .next (u.strmResult 2) ∧ u.sched = s.sched)) ∧
      ((s.stream k).state ≠ 0 → (s.stream k).state ≠ 4 →
        ∃ u : State, exec (.streamOpen w k base) s = .next (u.strmResult 1) ∧ u.sched = s.sched) ∧
      ((s.stream k).state = 1 ∨ (s.stream k).state = 3 →
        ∃ u : State, exec (.streamClose w k) s = .next (u.strmResult 0) ∧ (u.stream k).state = 2 ∧
          ∀ j, j ≠ k.val → u.stream j = s.stream j) ∧
      ((s.stream k).state = 4 →
        ∃ u : State, exec (.streamClose w k) s = .next (u.strmResult 0) ∧ (u.stream k).state = 0) ∧
      ((s.stream k).state = 0 ∨ (s.stream k).state = 2 →
        ∃ u : State, exec (.streamClose w k) s = .next (u.strmResult 1) ∧ u.sched = s.sched) ∧
      ((s.stream k).state = 1 ∨ (s.stream k).state = 2 ∨ (s.stream k).state = 3 →
        ∃ u : State, exec (.streamSkip w k) s = .next ((u.skip k).strmResult 0) ∧ u.sched = s.sched ∧
          (s.heldOf k = [] → u.skip k = u) ∧
          ∀ q, s.lowestHeld k = some q →
            (u.skip k).get R.SCHED_REJ_CNT_COUNT = (s.get R.SCHED_REJ_CNT_COUNT + seqDist q (s.stream k).exp) % 2 ^ 32 ∧
            ((u.skip k).stream k).state = if (s.stream k).state = 3 then 1 else (s.stream k).state) ∧
      ((s.stream k).state = 0 ∨ (s.stream k).state = 4 →
        ∃ u : State, exec (.streamSkip w k) s = .next (u.strmResult 1) ∧ u.sched = s.sched) ∧
      ∃ u : State, exec (.streamQuery w k) s = .next (u.strmResult 0) ∧ u.get R.SCHED_STRM_Q_STATE = (s.stream k).state % 8 ∧
        u.bit R.SCHED_STRM_Q_CLASS = (s.stream k).isD ∧ u.get R.SCHED_STRM_Q_HELD = (s.heldOf k).length % 512 ∧
        u.get (R.SCHED_STRM_QV_LO 0) = (s.stream k).exp % 2 ^ 32 ∧ u.get (R.SCHED_STRM_QV_LO 1) = (s.stream k).tx % 2 ^ 32 ∧
        u.get (R.SCHED_STRM_QV_LO 2) = (s.stream k).ret % 2 ^ 32 ∧ u.sched = s.sched) ∧
    (s.awake = true → s.matchesOwner w (s.get (R.PAGE_OWNER schPage)) = false →
      exec (.streamOpen w k base) s = .next (s.refuseNotOwner .sched w) ∧
      exec (.streamClose w k) s = .next (s.refuseNotOwner .sched w) ∧
      exec (.streamSkip w k) s = .next (s.refuseNotOwner .sched w) ∧
      exec (.streamQuery w k) s = .next (s.refuseNotOwner .sched w)) ∧
    ((s.stream k).state = 2 → s.inFlight k = false →
      ∃ u : State, exec (.streamClosed k) s = .next u ∧ (u.stream k).state = 0 ∧ u.regs = s.regs ∧
        ∀ j, j ≠ k.val → u.stream j = s.stream j) ∧
    ((s.stream k).state ≠ 2 ∨ s.inFlight k = true → exec (.streamClosed k) s = .next s) ∧
    ∀ r, r < 4 → (s.strmResult r).get R.SCHED_STRM_CMD_RESULT = r ∧ ((s.strmResult r).word (schPage + 0x18)).getLsbD 2 = true

/-- Submission rings (R266, R276 to R279, R349, R360, R485): the device reads a watched line, by snoop or by poll, and a PROD too
far ahead of CONS stops the ring; it takes the next entry when there is room for the largest one, decodes and checks it and passes
it with its outcome; and it writes the ring's line when its contents changed. Where the spec leaves a choice it states the model's
own (assumption logs 39, 55). -/
def Obligations.RingCommands : Prop :=
  ∀ (s : State) (l : WatchedLine) (r : Fin 64) (ent : RingEntry),
    (s.hostReady = true → s.bit R.YDVSEC_ID_PCIE_ONLY = false →
      exec (.watchedLineSnoop l) s = .next (s.seeLine l) ∧ exec (.ringPoll l) s = .next s) ∧
    (s.hostReady = true → s.bit R.YDVSEC_ID_PCIE_ONLY = true →
      exec (.ringPoll l) s = .next (s.seeLine l) ∧ exec (.watchedLineSnoop l) s = .next s) ∧
    (s.hostReady = false → exec (.watchedLineSnoop l) s = .next s ∧ exec (.ringPoll l) s = .next s) ∧
    (∀ v : BitVec 32, (s.ring r).run = true → ∀ n, n = (v.toNat + 2 ^ 32 - (s.ring r).cons) % 2 ^ 32 →
      (n ≤ (s.ring r).nent → ∀ u, u = s.seeLine (.prod r v) →
        (u.ring r).prod = v.toNat ∧ (u.ring r).run = true ∧ u.get (R.SQ_STAT_PEND r) = min 65535 n) ∧
      ((s.ring r).nent < n → ∃ u : State, s.seeLine (.prod r v) = u.raise (u.srcDev 0x18) 2 0x35 r.val ∧ (u.ring r).run = false ∧
        u.bit (R.SQ_STAT_ERR r) = true)) ∧
    (∀ g : Tag, g.stream < 4096 → g.seq < 2 ^ 48 → g.ctx < 4096 → g.pri < 4 → g.src < 65536 → g.dst < 65536 → g.typ < 256 →
      -128 ≤ g.exp → g.exp < 128 → g.flags < 65536 → g.len < 65536 → g.chk < 2 ^ 32 → g.time < 2 ^ 64 → ∀ bs : List Byte,
      tagOf (tagBytes g ++ bs) = { g with zeroBad := false } ∧
      (g.len ≤ 32 → ∀ b rd, entryItem ⟨tagBytes g ++ bs, rd, b⟩ = ⟨{ g with zeroBad := false }, bs.take g.len⟩ ∧
        entryPtrBad ⟨tagBytes g ++ bs, rd, b⟩ = false) ∧
      (32 < g.len → ∀ b rd, entryItem ⟨tagBytes g ++ bs, rd, b⟩ = ⟨{ g with zeroBad := false }, rd.take g.len⟩ ∧
        (fromLe (bs.take 8) % 64 ≠ 0 ∨ b = true → entryPtrBad ⟨tagBytes g ++ bs, rd, b⟩ = true))) ∧
    (s.hostReady = false ∨ (s.ring r).run = false ∨ (s.ring r).next = (s.ring r).prod ∨ s.sched.stopped = true ∨
      s.hasRoom 4160 = false → exec (.ringEntryTake r ent) s = .next s) ∧
    (s.hasRoom 4160 = true → s.hostReady = true → (s.ring r).run = true → (s.ring r).next ≠ (s.ring r).prod → s.sched.stopped = false →
      ∀ (p : State) (it : Item) (bad : Bool), it = entryItem ent → p = s.event .rings 0 (evOf it (some r.val)) → bad = entryPtrBad ent →
      ((p.checkHost it bad).1 ≠ 0 → exec (.ringEntryTake r ent) s =
        .next ((p.refuseEntry r it (p.checkHost it bad).1).passEntry r none)) ∧
      (p.checkHost it bad = (0, .take) → exec (.ringEntryTake r ent) s =
        .next ((p.enter it false).passEntry r (some (it.tag.stream, it.tag.seq)))) ∧
      (p.checkHost it bad = (0, .hold) → exec (.ringEntryTake r ent) s =
        .next ((p.enter it true).passEntry r (some (it.tag.stream, it.tag.seq)))) ∧
      (p.checkHost it bad = (0, .duplicate) → exec (.ringEntryTake r ent) s =
        .next ((p.duplicate it.tag.stream it.tag.pri).passEntry r none))) ∧
    ((s.ring r).open_ = [] → ((s.passEntry r none).ring r).cons = ((s.ring r).cons + 1) % 2 ^ 32 ∧
      ((s.passEntry r none).ring r).dirty = true ∧ ((s.passEntry r none).ring r).next = ((s.ring r).next + 1) % 2 ^ 32 ∧
      ∀ q, ((s.passEntry r (some q)).ring r).cons = (s.ring r).cons ∧
        ((s.passEntry r (some q)).ring r).next = ((s.ring r).next + 1) % 2 ^ 32) ∧
    ((s.ring r).dirty = true → s.hostReady = true →
      ∃ u : State, exec (.ringLineWrite r) s = .next u ∧ (u.ring r).dirty = false ∧
        (u.ring r).gen = ((s.ring r).gen + 1) % 2 ^ 32 ∧ u.regs = s.regs ∧
        memRead u.mem.hostOut 16 ((s.ring r).base + 0x40) = leBytes 4 (s.ring r).cons ++ leBytes 4 (s.ring r).rejIdx ++
          leBytes 4 (s.ring r).rejCode ++ leBytes 4 (u.ring r).gen) ∧
    ((s.ring r).dirty = false ∨ s.hostReady = false → exec (.ringLineWrite r) s = .next s)

/-- Items and the scheduler (R271, R280 to R285, R288, R341, R485): taking an offered item, accepting one into the journal,
dispatching, and what goes to the host. The checks of an item's tag end at the first that fails. A D item that its destination
does not take yet stays with its sender. Where the spec leaves a choice it states the model's own (assumption logs 17, 107). -/
def Obligations.ItemCommands : Prop :=
  ∀ (s : State) (src dst seq : Nat) (k : Fin 4096) (o : Offer) (f : Flight),
    (s.sched.offers.find? (fun o => o.item.tag.src = src) = none → exec (.itemTake src) s = .next s) ∧
    (s.sched.offers.find? (fun o => o.item.tag.src = src) = some o →
      (s.hasRoomFor o.item = false → exec (.itemTake src) s = .next s) ∧
      (s.hasRoomFor o.item = true →
        ∀ p : State, p = { s with sched := { s.sched with offers := s.sched.offers.erase o } } →
        ∀ x : State × Nat, x = p.takeItem o.item 0 o.serves →
        (x.2 ≠ 0 → exec (.itemTake src) s = .next (x.1.portSignal o.port o.item x.2)) ∧
        (x.2 = 0 → ∀ t, x.1.sendDelivered o.item = some t → exec (.itemTake src) s = .next (t.portSignal o.port o.item 0)) ∧
        (x.2 = 0 → x.1.sendDelivered o.item = none → ∃ t : State, exec (.itemTake src) s = .next t ∧ t.sched = s.sched))) ∧
    (∀ (t : State) (it : Item), t.sched.flights.all (fun f => !f.isD) = true → t.sendDelivered it = some t) ∧
    (s.sched.flights.find? (fun f => f.is k.val seq && (f.phase = .taken || f.phase = .held) && !f.jrn && !f.isD) = none →
      exec (.itemAccept k seq) s = .next s) ∧
    (s.sched.flights.find? (fun f => f.is k.val seq && (f.phase = .taken || f.phase = .held) && !f.jrn && !f.isD) = some f →
      (s.journalUp = true → ∃ t : State, t.sched = (s.accept k seq).sched ∧
        exec (.itemAccept k seq) s = .next (match f.via with
          | some p => t.latSend p (.itemAcc f.item.tag.stream f.item.tag.seq)
          | none => t)) ∧
      ((s.accept k seq).stream k).acc = ((s.stream k).accepted seq).acc) ∧
    (s.journalUp = false → exec (.itemAccept k seq) s = .next s) ∧
    (∀ (it : Item) (host : Bool) (lvl : Nat),
      (it.tag.zeroBad = true → s.checkTag it host lvl = 7) ∧
      (it.tag.zeroBad = false → host = false →
        (s.dstBad it.tag.dst = true → s.checkTag it host lvl = 1) ∧
        (s.dstBad it.tag.dst = false →
          ((s.stream it.tag.stream).valid = false ∨ ((s.stream it.tag.stream).state ≠ 1 ∧ (s.stream it.tag.stream).state ≠ 3) ∨
            it.tag.src ≠ (s.stream it.tag.stream).src ∨ it.tag.dst ≠ (s.stream it.tag.stream).dst → s.checkTag it host lvl = 3)))) ∧
    (∀ (g : Flight) (u : Nat), dst = s.unitId u → u < 0x1F00 → s.unitOn u = true → s.unitTakes u = true → g.isD = false →
      pickFlight s.sched.flights (fun f => f.item.tag.dst = dst && s.canDeliver u f) = some g → s.keyGate g = .pass →
      s.roomAt u g = true →
      ∃ t : State, exec (.itemDispatch dst) s = .next t ∧
        ∃ h ∈ t.sched.flights, h.is g.item.tag.stream g.item.tag.seq = true ∧ h.phase = .sent ∧ h.item = g.item) ∧
    (s.dstLocal dst = true → dst % 0x2000 ≠ 0x1F00 → exec (.itemDispatch dst) s = .next (s.dispatch (dst % 0x2000))) ∧
    (s.dstLocal dst = true → dst % 0x2000 = 0x1F00 → exec (.itemDispatch dst) s = .next s) ∧
    (s.dstLocal dst = false → pickFlight s.sched.flights (fun f => f.item.tag.dst = dst) = some f →
      exec (.itemDispatch dst) s = .next (s.forward f) ∧
        ∃ h ∈ (s.forward f).sched.flights, h.is f.item.tag.stream f.item.tag.seq = true ∧ h.phase = .sent) ∧
    (s.dstLocal dst = false → pickFlight s.sched.flights (fun f => f.item.tag.dst = dst) = none →
      exec (.itemDispatch dst) s = .next s) ∧
    ((s.stream k).dirty = false ∨ (s.stream k).atHost = false ∨ s.pos ≠ 0 ∨ s.hostReady = false →
      exec (.completionRecordWrite k) s = .next s) ∧
    ((s.stream k).dirty = true → (s.stream k).atHost = true → s.pos = 0 → s.hostReady = true →
      ∃ u : State, exec (.completionRecordWrite k) s = .next (u.srcFire (200 + k.val % 64)) ∧ (u.stream k).dirty = false ∧
        (u.stream k).gen = ((s.stream k).gen + 1) % 2 ^ 32 ∧ (u.stream k).retOut = (s.stream k).ret ∧ u.ledger.clean = false ∧
        memRead u.mem.hostOut 64 (s.complAddr k) = s.complBytes k (u.stream k).gen ∧
        (∀ h ∈ u.sched.flights, h.item.tag.stream = k.val → h.phase = .executed →
          seqLater h.item.tag.seq (s.stream k).ret = true) ∧ u.mem = { s.mem with
            hostOut := u.mem.hostOut
            hostOwn := u.mem.hostOwn }) ∧
    (∀ n, (s.complBytes k n).length = 64 ∧ fromLe ((s.complBytes k n).take 8) = (s.stream k).acc % 2 ^ 64 ∧
      fromLe (((s.complBytes k n).drop 8).take 8) = (s.stream k).ret % 2 ^ 64 ∧
      fromLe (((s.complBytes k n).drop 25).take 1) = (s.stream k).state % 256) ∧
    (∀ a, (s.stream k).ack = some a →
      pickFlight s.sched.flights (fun f => f.item.tag.stream = k.val && f.item.tag.dst = 0x1F00) = some f →
      s.hostReady = true → s.dstLocal 0x1F00 = true →
      (if a = 0 then f.item.tag.seq else seqDist f.item.tag.seq a) ≤ 2 ^ (s.stream k).logNent →
      (s.keyGate f = .pass →
        ∃ u : State, exec (.deliveryRingWrite k) s = .next (u.executed k f.item.tag.seq) ∧
          (u.stream k).lastOut = f.item.tag.seq ∧ u.regs = s.regs ∧
          memRead u.mem.hostOut (tagBytes f.item.tag ++ f.item.payload).length ((s.stream k).dbase + 0x40 +
            64 * ((s.stream k).esz + 1) * (f.item.tag.seq % 2 ^ (s.stream k).logNent)) = tagBytes f.item.tag ++ f.item.payload) ∧
      (s.keyGate f ≠ .pass → exec (.deliveryRingWrite k) s = .next (s.keyStep f))) ∧
    (∀ a, (s.stream k).ack = some a →
      pickFlight s.sched.flights (fun f => f.item.tag.stream = k.val && f.item.tag.dst = 0x1F00) = some f →
      2 ^ (s.stream k).logNent < (if a = 0 then f.item.tag.seq else seqDist f.item.tag.seq a) →
      exec (.deliveryRingWrite k) s = .next s) ∧
    ((s.stream k).ack = none ∨ s.hostReady = false ∨ s.dstLocal 0x1F00 = false → exec (.deliveryRingWrite k) s = .next s)

/-- Gaps, keys and quiesce (R274, R293, R294, R300): the timeout of a gap, the commit of an idempotency key and what a key asks
for, and the steps of a quiesce, behind which no item is at its unit. Where the spec leaves a choice it states the model's own
(assumption logs 17, 74). -/
def Obligations.GapKeyQuiesceCommands : Prop :=
  ∀ (s : State) (k : Fin 4096) (u : Nat) (q : Nat × Nat),
    (s.heldOf k = [] → exec (.gapTimeout k) s = .next s) ∧
    (s.heldOf k ≠ [] → (s.stream k).state = 1 →
      ∃ t : State, exec (.gapTimeout k) s = .next (t.raise (t.srcStream k) 2 0x34 (s.heldOf k).length) ∧
        (t.stream k).state = 3 ∧ t.regs = s.regs) ∧
    (s.heldOf k ≠ [] → (s.stream k).state = 2 → (s.stream k).gapRaised = false →
      ∃ t : State, exec (.gapTimeout k) s = .next (t.raise (t.srcStream k) 2 0x34 (s.heldOf k).length) ∧
        (t.stream k).state = 2 ∧ (t.stream k).gapRaised = true) ∧
    ((s.stream k).state ≠ 1 ∧ (s.stream k).state ≠ 2 ∨ (s.stream k).state = 2 ∧ (s.stream k).gapRaised = true →
      exec (.gapTimeout k) s = .next s) ∧
    (∀ f : Flight, itemHas f.item flIdem = true → f.keyed = false →
      ((tblGet (fun _ => []) s.ledger.keys f.item.tag.stream).contains (keyOf f.item) = true →
        ∃ t : State, s.keyStep f = t.executed f.item.tag.stream f.item.tag.seq ∧
          t.get R.SCHED_KEYHIT_CNT_COUNT = (s.get R.SCHED_KEYHIT_CNT_COUNT + 1) % 2 ^ 32) ∧
      ((tblGet (fun _ => []) s.ledger.keys f.item.tag.stream).contains (keyOf f.item) = false →
        ((s.keyStep f).stream f.item.tag.stream).keyWork = some (f.item.tag.seq, keyOf f.item))) ∧
    ((s.stream k).keyWork = none → exec (.keyCommit k) s = .next s) ∧
    ((s.stream k).keyWork = some q →
      ∃ t : State, exec (.keyCommit k) s = .next t ∧ (t.stream k).keyWork = none ∧
        tblGet (fun _ => []) t.ledger.keys k.val = (q.2 :: tblGet (fun _ => []) s.ledger.keys k.val).take 256 ∧ t.regs = s.regs) ∧
    (s.sched.quiesce.contains (u, 1) = true → exec (.quiesceTimeout u) s = .next ((s.abandonUnit u).setQuiesce u 2)) ∧
    (s.sched.quiesce.contains (u, 1) = false → exec (.quiesceTimeout u) s = .next s) ∧
    (s.sched.quiesce.contains (u, 1) = false → s.sched.quiesce.contains (u, 2) = true → u % 0x2000 < 0x100 →
      ∃ t : State, exec (.quiesceReturn u) s = .next ((t.requeue u fun _ => true).setQuiesce u 3) ∧ t.mem = s.mem) ∧
    (s.sched.quiesce.contains (u, 1) = true ∨ s.sched.quiesce.contains (u, 2) = true →
      ∃ t : State, exec (.quiesceReturn u) s = .next (t.setQuiesce u 3) ∧
        ∀ f ∈ t.sched.flights, f.item.tag.dst = u → f.phase ≠ .sent ∧ f.phase ≠ .running) ∧
    (s.sched.quiesce.contains (u, 1) = false → s.sched.quiesce.contains (u, 2) = false → exec (.quiesceReturn u) s = .next s) ∧
    (s.sched.quiesce.contains (u, 3) = true → u / 0x2000 = s.pos → s.unitOn (u % 0x2000) = true → s.quiesceHeld u = false →
      ∃ t : State, exec (.replayReissue u) s = .next t ∧ t.quiescing u = false ∧ t.regs = s.regs ∧
        t.sched.flights = s.sched.flights) ∧
    (s.sched.quiesce.contains (u, 3) = false ∨ s.quiesceHeld u = true ∨ u / 0x2000 ≠ s.pos ∨ s.unitOn (u % 0x2000) = false →
      exec (.replayReissue u) s = .next s)

/-- Hard counter blocks (R298, R311 to R313, R320): a COUNTER item acts at once or at its START, and is held in class 4; what each
operation and each input of a block does, behind the glitch filter, which a change shorter than its length does not pass; outputs
and the end of a pulse train; and the latched read. A leading B counts up, a direction input that is high counts up, a pulse train
runs in PULSE_TRAIN only, and behind the girth no train starts, by the model's choice (assumption log 18, 19 and 147); a BLOCK,
PERIOD or WIDTH out of range is a free value of the range. Where the spec leaves a choice it states the model's own (assumption
logs 18, 19, 147). -/
def Obligations.CounterBlockCommands : Prop :=
  ∀ (s : State) (r : Fin 8) (b : Fin 256) (c : CntSt) (o : CntOp) (v : Bool) (now : Nat),
    ((∀ f ∈ s.sched.flights, f.item.tag.dst = s.unitId (0x300 + r) → f.phase = .sent → f.item.tag.typ ≠ 7) ∨
        s.bit R.FLT_STAT_C4 = true → exec (.counterItemExecute r) s = .next s) ∧
    (∀ f x, s.bit R.FLT_STAT_C4 = false → (s.sched.flights.find? fun f => f.item.tag.dst = s.unitId (0x300 + r) && f.phase = .sent && f.item.tag.typ = 7) = some f →
      x = s.counterOp (fromLe f.item.payload) →
      x.1.1 < 32 ∧ 2 ≤ x.1.2.period ∧ 1 ≤ x.1.2.width ∧ x.1.2.width < x.1.2.period ∧
      (x.1.2.start ≤ s.time → exec (.counterItemExecute r) s =
        .next ((x.2.modCnt (32 * r + x.1.1) fun c => c.apply x.1.2).executed f.item.tag.stream f.item.tag.seq)) ∧
      (s.time < x.1.2.start → exec (.counterItemExecute r) s =
        .next ((x.2.modCnt (32 * r + x.1.1) fun c => { c with waiting := c.waiting ++ [x.1.2] }).executed
          f.item.tag.stream f.item.tag.seq))) ∧
    (o.op = 0 → (c.apply o) = { c with count := BitVec.ofInt 48 (sext 32 o.count) }) ∧
    (o.op = 1 → c.mode = 6 → o.count ≠ 0 → (c.apply o).run = true ∧ (c.apply o).out = true ∧ (c.apply o).left = o.count ∧
      (c.apply o).period = o.period ∧ (c.apply o).width = o.width ∧ (c.apply o).count = c.count) ∧
    (o.op = 2 → (c.apply o) = { c with run := false, left := 0, out := false }) ∧
    (c.mode = 1 → v ≠ c.a → (c.input 0 v now).count = if v = c.b then c.count - 1 else c.count + 1) ∧
    (c.mode = 1 → v ≠ c.b → (c.input 1 v now).count = if v = c.a then c.count + 1 else c.count - 1) ∧
    (c.mode = 1 → c.z = false → c.zact = 1 → (c.input 2 true now).latched = c.count.toNat ∧ (c.input 2 true now).count = c.count) ∧
    (c.mode = 1 → c.z = false → c.zact = 2 → (c.input 2 true now).count = 0) ∧
    (c.mode = 2 → c.a = false → (c.input 0 true now).count = if c.b then c.count + 1 else c.count - 1) ∧
    (c.mode = 3 → c.a = false → (c.input 0 true now).count = c.count + 1) ∧
    (c.mode = 3 → c.b = false → (c.input 1 true now).count = c.count - 1) ∧
    (c.mode = 4 → c.a = !v → (c.edge = 0 ∧ v = true ∨ c.edge = 1 ∧ v = false ∨ c.edge = 2) →
      (c.input 0 v now).captured = now ∧ (c.input 0 v now).count = c.count) ∧
    (c.mode = 0 ∨ c.mode = 5 ∨ c.mode = 6 → ∀ q, (c.input q v now).count = c.count ∧ (c.input q v now).captured = c.captured) ∧
    (c.filt = 0 → ∀ q, c.feed q v now = c.input q v now) ∧
    (0 < c.filt → c.glitch = [] →
      (c.feed 0 (!c.a) now).glitch = [(0, now)] ∧ (c.feed 0 (!c.a) now).count = c.count ∧
      (∀ later, ((c.feed 0 (!c.a) now).feed 0 c.a later) = c) ∧
      (∀ later, later < now + 5 * c.filt → (c.feed 0 (!c.a) now).settle later = c.feed 0 (!c.a) now) ∧
      ∀ later, now + 5 * c.filt ≤ later → (c.feed 0 (!c.a) now).settle later = c.input 0 (!c.a) later) ∧
    ((s.cnt b).waiting = [] → exec (.counterStart b) s = .next s) ∧
    (firstOp (s.cnt b).waiting = some o →
      (o.op ≠ 1 ∨ s.regionRuns (b / 32) = true →
        exec (.counterStart b) s = .next (s.modCnt b fun c => { (c.apply o) with waiting := c.waiting.erase o })) ∧
      (o.op = 1 → s.regionRuns (b / 32) = false →
        exec (.counterStart b) s = .next (s.modCnt b fun c => { c with waiting := c.waiting.erase o }))) ∧
    (∀ l : List CntOp, firstOp l = some o → o ∈ l ∧ ∀ p ∈ l, o.start ≤ p.start) ∧
    (s.regionRuns (b / 32) = false ∨ ((s.cnt b).mode ≠ 5 ∧ (s.cnt b).mode ≠ 6) ∨
        ((s.cnt b).mode = 6 ∧ ((s.cnt b).run = false ∨ (s.cnt b).left = 0)) →
      exec (.compareOutput b) s = .next s) ∧
    (s.regionRuns (b / 32) = true → (s.cnt b).mode = 5 → exec (.compareOutput b) s =
      .next (s.setCnt b { s.cnt b with out := !(s.cnt b).out })) ∧
    (s.regionRuns (b / 32) = true → (s.cnt b).mode = 6 → (s.cnt b).run = true → 0 < (s.cnt b).left →
      exec (.compareOutput b) s = .next (s.setCnt b { s.cnt b with
        out := !(s.cnt b).out, left := if (s.cnt b).out then (s.cnt b).left - 1 else (s.cnt b).left })) ∧
    ((s.cnt b).mode = 6 → (s.cnt b).run = true → (s.cnt b).left = 0 →
      exec (.pulseTrainEnd b) s = .next (s.setCnt b { s.cnt b with run := false, out := false })) ∧
    (∃ u, exec (.pulseTrainEnd b) s = .next u ∧ ∀ k, k ≠ b.val → u.cnt k = s.cnt k) ∧
    ∃ u : State, exec (.fabCntRead b) s = .next u ∧ u.busRead = BitVec.ofNat 32 (s.cnt b).count.toNat ∧
      u.get (R.FAB_CNT_HI_COUNT_HI b) = (s.cnt b).count.toNat / 2 ^ 32 ∧ u.fab = s.fab ∧
      ∀ a, a ≠ (R.FAB_CNT_HI_COUNT_HI b).addr → u.word a = s.word a

/-- Pins and border signals (R34, R35, R307, R308, R311, R413): what a new level does at a field pin, which also feeds the counter
block it is routed to, and at a GIO pin by its function; what each function drives at a GIO pin; the logic of a running region
drives only what it owns, and behind the girth the declared safe values stand; in EXTEST, CLAMP and HIGHZ the boundary scan drives
it (R371); a rise of a trigger stands at TRIG_OUT for its instant (model choice, assumption log 195); PPS_OUT pulses at the
boundary alone (model choice, assumption log 41); PPS_IN captures the time at the head. Where the spec leaves a choice it states
the model's own (assumption logs 23, 41, 76). -/
def Obligations.PinAndBorderChanges : Prop :=
  ∀ (s : State) (t : Fin 32) (n : Fin 8) (uV : Int) (line : Bool) (g : Fin 48) (v oe : Bool) (r : Fin 8) (k : Fin 64),
    (∃ u : State, exec (.pinStateChange (.field t n uV line)) s = .next (u.feedPin t n) ∧
      u = ((((s.modPin t n fun p => { p with uV := uV, line := line }).cmpSync t n).dinSync t n).zeroSync t n) ∧
      (u.pin t n).uV = uV ∧ (u.pin t n).line = line ∧ u.fab = s.fab ∧
      ∀ (b : Fin 256) (q : Nat), s.canon → (s.cnt b).pins = [(q, 8 * t.val + n.val)] → s.domReady (domQuad (b / 64)) = true →
        (u.feedPin t n).cnt b = (s.cnt b).feed q (u.fabricIn t n) s.time) ∧
    (s.scanActs = false ∨ s.host.scan < 3 → s.gioDrive g = s.gioFunc g) ∧
    (s.scanActs = true → (s.host.scan = 3 ∨ s.host.scan = 4 → s.gioDrive g = some (s.host.preload.testBit g)) ∧
      (s.host.scan = 5 → s.gioDrive g = none)) ∧
    (∀ f, f = s.get (R.GIO_CFG_FUNC g) →
      (f = 0 ∨ f = 1 ∨ f = 5 ∨ f = 7 ∨ f = 8 ∨ f = 0xA ∨ f = 0xD ∨ f = 0xF → s.gioFunc g = none) ∧
      (f = 2 ∨ f = 6 → s.gioFunc g = some (s.gioLevel g).1) ∧
      (f = 3 → s.gioFunc g = if (s.gioLevel g).1 then none else some false) ∧
      (f = 4 → s.gioFunc g = if (s.gioLevel g).2 then some (s.gioLevel g).1 else none) ∧
      (f = 9 → s.regionRuns (s.get (R.GIO_CFG_SEL g) / 32) = true → s.gioFunc g = some (s.cnt (s.get (R.GIO_CFG_SEL g))).out) ∧
      (f = 0xC → s.gioFunc g = some (s.bit R.FLT_STAT_C4)) ∧
      (f = 0xE → s.gioFunc g = some (s.trigLevel (s.get (R.GIO_CFG_SEL g)) ||
        tblFind s.fab.pulse (s.get (R.GIO_CFG_SEL g)) = some s.time))) ∧
    (s.regionRuns (s.get (R.GIO_CFG_REGION g)) = true → s.gioLevel g = ((s.gioOut g).level, (s.gioOut g).oe)) ∧
    (s.regionRuns (s.get (R.GIO_CFG_REGION g)) = false →
      ((s.gioOut g).safe = 0 → (s.gioLevel g).1 = false) ∧ ((s.gioOut g).safe = 1 → (s.gioLevel g).1 = true) ∧
      ((s.gioOut g).safe = 2 → (s.gioLevel g).1 = (s.gioOut g).level)) ∧
    (∀ f, f = s.get (R.GIO_CFG_FUNC g) → f ≠ 7 → f ≠ 8 → f ≠ 0xA → f ≠ 0xD → f ≠ 0xF →
      ∃ u : State, exec (.pinStateChange (.gio g v)) s = .next u ∧ u.gioIn g = v ∧ (∀ j, j ≠ g.val → u.gioIn j = s.gioIn j) ∧
        u = { s with gio := u.gio }) ∧
    (∀ q, s.get (R.GIO_CFG_FUNC g) = 7 ∨ s.get (R.GIO_CFG_FUNC g) = 8 → s.get (R.GIO_CFG_QIN g) = q → q < 3 →
      s.domReady (domQuad (s.get (R.GIO_CFG_SEL g) / 64)) = true →
      ∃ u : State, exec (.pinStateChange (.gio g v)) s = .next u ∧ u.gioIn g = v ∧
        u.cnt (s.get (R.GIO_CFG_SEL g)) = (s.cnt (s.get (R.GIO_CFG_SEL g))).feed q v s.time ∧ u.regs = s.regs) ∧
    (s.get (R.GIO_CFG_FUNC g) = 0xA → s.gioIn g = false →
      exec (.pinStateChange (.gio g true)) s = .next ({ s with gio := tblSet (fun _ => false) s.gio g true } : State).capturePps) ∧
    (s.get (R.GIO_CFG_FUNC g) = 0xD → s.gioIn g = false → s.trigLevel (s.get (R.GIO_CFG_SEL g)) = false →
      exec (.pinStateChange (.gio g true)) s =
        .next (({ s with gio := tblSet (fun _ => false) s.gio g true } : State).trigRise (s.get (R.GIO_CFG_SEL g)))) ∧
    (s.get (R.GIO_CFG_FUNC g) = 0xF → s.gioIn g = false → s.get (R.GIO_CFG_SEL g) < 16 →
      exec (.pinStateChange (.gio g true)) s =
        .next (({ s with gio := tblSet (fun _ => false) s.gio g true } : State).srcFire (288 + s.get (R.GIO_CFG_SEL g)))) ∧
    (s.regionRuns r = false → exec (.borderSignalChange r (.pin t n v oe)) s = .next s ∧
      exec (.borderSignalChange r (.gio g v oe)) s = .next s ∧ exec (.borderSignalChange r (.crossing k v)) s = .next s) ∧
    (s.regionRuns r = true →
      (s.pinRegion t n = some r.val → exec (.borderSignalChange r (.pin t n v oe)) s =
        .next ((s.modPin t n fun p => { p with fabLevel := v, fabOe := oe }).syncDout t n)) ∧
      (s.pinRegion t n ≠ some r.val → exec (.borderSignalChange r (.pin t n v oe)) s = .next s) ∧
      (s.get (R.GIO_CFG_REGION g) = r → ∃ u : State, exec (.borderSignalChange r (.gio g v oe)) s = .next u ∧
        (u.gioOut g).level = v ∧ (u.gioOut g).oe = oe ∧ u.regs = s.regs) ∧
      (s.get (R.GIO_CFG_REGION g) ≠ r → exec (.borderSignalChange r (.gio g v oe)) s = .next s) ∧
      (exec (.borderSignalChange r (.crossing k v)) s = .next (s.cross (64 * r + k) v)) ∧
      (s.crossing (64 * r + k) = true → (s.cross (64 * r + k) v).crossing (64 * r + k) = v ∧
        (s.cross (64 * r + k) v).regs = s.regs)) ∧
    (s.get (R.GIO_CFG_FUNC g) = 0xB → ∃ u : State, exec (.ppsOut g) s = .next u ∧
      (u.gioOut g).pulses = (s.gioOut g).pulses + 1 ∧ u.regs = s.regs ∧ u.gioFunc g = some true ∧
      ∀ later : Nat, later ≠ s.time → ({ u with time := later } : State).gioFunc g = some false) ∧
    (s.get (R.GIO_CFG_FUNC g) ≠ 0xB → exec (.ppsOut g) s = .next s) ∧
    (s.get (R.GIO_CFG_FUNC g) ≠ 0xA ∨ s.pos ≠ 0 → exec (.ppsCapture g) s = .next s) ∧
    (s.get (R.GIO_CFG_FUNC g) = 0xA → s.pos = 0 → ∃ u : State, exec (.ppsCapture g) s = .next u ∧
      u.get R.TIME_PPS_LO_NS = s.time % 2 ^ 32 ∧ u.get R.TIME_PPS_HI_NS = s.time / 2 ^ 32 % 2 ^ 32 ∧
      u.bit R.TIME_STAT_PPS_NEW = true ∧ u.fab = s.fab)

/-- Fabric ports and reloads (R309, R310, R314 to R319, R384): a port's item is taken, refused or waits for room; the region's
acknowledgment executes an item; GO starts a reload of the image in device memory or answers BUSY; verification ends it with the
first failed check or quiesces the target; the girth closes and is released, which also ends a containment of the target. A D item
that its destination does not take yet waits at its port. Where the spec leaves a choice it states the model's own (assumption
logs 20 to 22, 24, 186). -/
def Obligations.PortAndReloadCommands : Prop :=
  ∀ (s : State) (w : Writer) (r : Fin 8) (port : Fin 16) (it : Item) (k : Fin 128) (chk : StreamCheck) (img : PersStream) (readOk sigOk : Bool) (f : Flight),
    (s.regionRuns r = false → exec (.fabricPortSend r port it) s = .next s) ∧
    ((tblGet (fun _ => ({} : FabPort)) s.sched.ports (16 * r + port)).busy = true → exec (.fabricPortSend r port it) s = .next s) ∧
    (s.regionRuns r = true → (tblGet (fun _ => ({} : FabPort)) s.sched.ports (16 * r + port)).busy = false →
      (s.hasRoomFor (s.portItem r it) = true → ∀ x : State × Nat, x = s.takeItem (s.portItem r it) 0 none →
        (x.2 ≠ 0 → exec (.fabricPortSend r port it) s = .next (x.1.portSignal (some (16 * r + port)) (s.portItem r it) x.2)) ∧
        (x.2 = 0 → ∀ t, x.1.sendDelivered (s.portItem r it) = some t →
          exec (.fabricPortSend r port it) s = .next (t.portSignal (some (16 * r + port)) (s.portItem r it) 0)) ∧
        (x.2 = 0 → x.1.sendDelivered (s.portItem r it) = none →
          exec (.fabricPortSend r port it) s = .next ((s.wakeFor (s.portItem r it)).portWait (16 * r + port) (s.portItem r it)))) ∧
      (s.hasRoomFor (s.portItem r it) = false → ∃ u : State, exec (.fabricPortSend r port it) s = .next u ∧
        u = s.portWait (16 * r + port) (s.portItem r it) ∧ (tblGet (fun _ => ({} : FabPort)) u.sched.ports (16 * r + port)).busy = true ∧
        u.sched.offers = s.sched.offers ++ [{ item := s.portItem r it, port := some (16 * r + port) }] ∧ u.regs = s.regs)) ∧
    ((s.portItem r it).tag.src = s.unitId (0x300 + r) ∧ (s.portItem r it).tag.ctx = 0 ∧ (s.portItem r it).tag.seq = 0 ∧
      (s.portItem r it).tag.exp = 0 ∧ (s.portItem r it).tag.chk = chkOf it.payload ∧ (s.portItem r it).payload = it.payload) ∧
    ((s.sched.flights.find? fun f => f.item.tag.dst = s.unitId (0x300 + r) && f.phase = .sent &&
        (s.stream f.item.tag.stream).bind % 32 = port) = none ∨ s.regionRuns r = false ∨ s.bit R.FLT_STAT_C4 = true →
      exec (.fabricPortAck r port) s = .next s) ∧
    ((s.sched.flights.find? fun f => f.item.tag.dst = s.unitId (0x300 + r) && f.phase = .sent &&
        (s.stream f.item.tag.stream).bind % 32 = port) = some f → s.regionRuns r = true → s.bit R.FLT_STAT_C4 = false →
      exec (.fabricPortAck r port) s = .next (s.executed f.item.tag.stream f.item.tag.seq)) ∧
    (s.awake = false → exec (.reloadRegion w k chk) s = .next s ∧ exec (.reloadTile w k chk) s = .next s ∧
      exec (.reloadEngine w k chk) s = .next s) ∧
    (s.awake = true → s.matchesOwner w (s.get (R.PAGE_OWNER fabPage)) = false →
      exec (.reloadRegion w k chk) s = .next (s.refuseNotOwner .fabric w) ∧
      exec (.reloadTile w k chk) s = .next (s.refuseNotOwner .fabric w) ∧
      exec (.reloadEngine w k chk) s = .next (s.refuseNotOwner .fabric w)) ∧
    (s.awake = true → s.matchesOwner w (s.get (R.PAGE_OWNER fabPage)) = true → s.bit R.FAB_RCFG_STAT_BUSY = true →
      ∀ c ∈ ([.reloadRegion w k chk, .reloadTile w k chk, .reloadEngine w k chk] : List Instr),
        ∃ u : State, exec c s = .next u ∧ u.get R.FAB_RCFG_STAT_RESULT = 4 ∧ u.bit R.FAB_RCFG_STAT_BUSY = true ∧ u.rcfg = s.rcfg) ∧
    (s.awake = true → s.matchesOwner w (s.get (R.PAGE_OWNER fabPage)) = true → s.bit R.FAB_RCFG_STAT_BUSY = false →
      (∃ u : State, exec (.reloadRegion w k chk) s = .next u ∧ u.bit R.FAB_RCFG_STAT_BUSY = true ∧ u.get R.FAB_RCFG_STAT_PHASE = 1 ∧
        u.rcfg = { img := some { bytes := s.rcfgBytes, chk := chk }, kind := 0, index := k, target := 0x300 + k }) ∧
      (∃ u : State, exec (.reloadTile w k chk) s = .next u ∧ u.bit R.FAB_RCFG_STAT_BUSY = true ∧ u.get R.FAB_RCFG_STAT_PHASE = 1 ∧
        u.rcfg = { img := some { bytes := s.rcfgBytes, chk := chk }, kind := 1, index := k, target := k }) ∧
      ∃ u : State, exec (.reloadEngine w k chk) s = .next u ∧ u.bit R.FAB_RCFG_STAT_BUSY = true ∧ u.get R.FAB_RCFG_STAT_PHASE = 1 ∧
        u.rcfg = { img := some { bytes := s.rcfgBytes, chk := chk }, kind := 2, index := k, target := 0x100 + k }) ∧
    (s.bit R.FAB_RCFG_STAT_BUSY = false ∨ s.get R.FAB_RCFG_STAT_PHASE ≠ 1 → exec (.reloadVerified readOk sigOk) s = .next s) ∧
    (s.bit R.FAB_RCFG_STAT_BUSY = true → s.get R.FAB_RCFG_STAT_PHASE = 1 → s.rcfg.img = some img →
      (s.rcfgResult img readOk sigOk ≠ 0 →
        exec (.reloadVerified readOk sigOk) s = .next (s.endReload (s.rcfgResult img readOk sigOk))) ∧
      (s.rcfgResult img readOk sigOk = 0 → exec (.reloadVerified readOk sigOk) s =
        .next (((s.put R.FAB_RCFG_STAT_PHASE 2).startQuiesce s.rcfg.target).wakeUnit s.rcfg.target)) ∧
      (s.rcfgAddrBad readOk = true → s.rcfgResult img readOk sigOk = 7) ∧
      (s.rcfgAddrBad readOk = false → sigOk = false ∨ s.ownerSlot img.ownerSlot = false → s.rcfgResult img readOk sigOk = 1) ∧
      (s.rcfgAddrBad readOk = false → sigOk = true → s.ownerSlot img.ownerSlot = true →
        ((∃ x ∈ img.sections, x.hashOk = false) → s.rcfgResult img readOk sigOk = 2) ∧
        ((∀ x ∈ img.sections, x.hashOk = true) →
          s.rcfgResult img readOk sigOk = if s.rcfgTargetBad img then 3 else 0))) ∧
    (s.girthReady = false → exec .girthClose s = .next s) ∧
    (s.girthReady = true → ∀ p : State, p = { s with rcfg := { s.rcfg with girth := true, since := s.time } }.put R.FAB_RCFG_STAT_PHASE 3 →
      (s.rcfg.kind = 0 → exec .girthClose s = .next (p.closeGirth s.rcfg.index 2)) ∧
      (s.rcfg.kind = 1 → exec .girthClose s = .next (p.closeTile s.rcfg.index)) ∧
      (s.rcfg.kind = 2 → exec .girthClose s = .next (p.closeEngine s.rcfg.index))) ∧
    (s.bit R.FAB_RCFG_STAT_BUSY = false ∨ s.rcfg.girth = false ∨ s.bit R.FLT_STAT_C4 = true →
      exec (.girthRelease readOk) s = .next s) ∧
    (s.bit R.FAB_RCFG_STAT_BUSY = true → s.rcfg.girth = true → s.bit R.FLT_STAT_C4 = false →
      exec (.girthRelease false) s = .next s.frameErr ∧ (s.flt.pfail = true → exec (.girthRelease true) s = .next s.frameErr) ∧
      ∀ x, s.rcfgSection = some x → s.flt.pfail = false →
        ∃ u : State, exec (.girthRelease true) s = .next (((u.put R.FAB_RCFG_GIRTH_TIME (s.time - s.rcfg.since)).endReload 0).endQuiesce
            (s.unitId s.rcfg.target)) ∧
          (s.rcfg.kind = 0 → u = (s.freeTarget s.rcfg.target).openRegion x) ∧
          (s.rcfg.kind = 1 → u = (s.freeTarget s.rcfg.target).releaseTile s.rcfg.index x) ∧
          (s.rcfg.kind = 2 → u = (s.freeTarget s.rcfg.target).releaseEngine s.rcfg.index x))

/-- The link protocol (R337, R338): a port that is not ACTIVE takes no frame; a frame whose type or CRC-32C does not agree with
its content is counted and answered with NAK; a frame out of order is answered with NAK and changes neither register nor unit but
its port; a frame in order moves the expected FSEQ on by one, and the 16th since the last acknowledgment is acknowledged at once.
A sent frame carries its FSEQ (0 for a control frame) and the last good FSEQ received. Where the spec leaves a choice it states
the model's own (assumption logs 8, 185). -/
def Obligations.LinkProtocol : Prop :=
  (∀ (s : State) (c : Instr) (h : FrameHdr) (m : LatMsg),
    (frameOf c = some (h, m) ∨ ctlFrameOf c = some (h, m) → s.get (R.LAT_PSTAT_LTSTATE h.port) ≠ 5 → exec c s = .next s) ∧
    (frameOf c = some (h, m) ∨ ctlFrameOf c = some (h, m) → s.get (R.LAT_PSTAT_LTSTATE h.port) = 5 → frameGood h m = false →
      exec c s = .next (((s.bump (R.LAT_CRC_CNT_COUNT h.port)).eventInst .latigo h.port 3).latSend h.port .nak)) ∧
    (frameOf c = some (h, m) → s.get (R.LAT_PSTAT_LTSTATE h.port) = 5 → frameGood h m = true → h.fseq ≠ (s.port h.port).rxSeq →
      exec c s = .next (s.latSend h.port .nak)) ∧
    (frameGood h m = true ↔ h.ftype.toNat = m.ftype ∧ h.crc.toNat = crc32c (frameBody m.ftype h.pri.val h.fseq h.ack m.payload)) ∧
    ((s.taken h).port h.port).rxSeq = fseqSucc (s.port h.port).rxSeq ∧ ((s.taken h).port h.port).rxLast = h.fseq) ∧
  ∀ (s : State) (p : Fin 2) (m : LatMsg),
    (16 ≤ (s.port p).unacked → s.ackSixteen p = s.latSend p .ack) ∧ ((s.port p).unacked < 16 → s.ackSixteen p = s) ∧
    ((s.transmit p m).port p).unacked = 0 ∧
    ((s.transmit p m).port p).out = ⟨if isControl m then 0 else (s.port p).txSeq, (s.port p).rxLast, m⟩ :: (s.port p).out ∧
    ((s.transmit p m).port p).replay =
      (if isControl m then (s.port p).replay else (s.port p).replay ++ [((s.port p).txSeq, m)]) ∧
    ((s.transmit p m).port p).txSeq = (if isControl m then (s.port p).txSeq else fseqSucc (s.port p).txSeq)

/-- Training, replay, acknowledgments and beacons of the latigo ports (R333 to R335, R338, R339, R342 to R344). Beacons correct
device time (R343): within the lock limits four good beacons set LOCK; before the first lock time steps by the error, with its
part below a nanosecond, after it the error is slewed. Where the spec leaves a choice it states the model's own (assumption logs
27 to 31). -/
def Obligations.LinkCommands : Prop :=
  (∀ (s : State) (p : Fin 2) (width : Fin 4) (par : PortParams) (pp : Fin 8) (h : FrameHdr) (counts : List Nat),
    (p.val = 0 ∨ s.pos ≠ 7 → ∃ u : State, exec (.latigoTrainStart p) s = .next u ∧ u.get (R.LAT_PSTAT_LTSTATE p) = 1 ∧
      u.get (R.LAT_PSTAT_WIDTH p) = 0 ∧ u.bit (R.LAT_PSTAT_REVERSED p) = false ∧
      u.get (R.LAT_TRAIN_CNT_COUNT p) = (s.get (R.LAT_TRAIN_CNT_COUNT p) + 1) % 2 ^ 32 ∧ (u.port p).partner = true ∧
      (p.val = 0 → s.host.link ≠ 0 → u.get R.LAT_POS = 0 ∧ u.bit R.LAT_POS_HEAD = true) ∧
      ∀ q, q ≠ p.val → u.port q = s.port q) ∧
    (p.val = 1 → s.pos = 7 → ∃ u : State, exec (.latigoTrainStart p) s = .next u ∧ u.bit (R.LAT_PSTAT_EXCESS p) = true ∧
      u.get (R.LAT_PSTAT_LTSTATE p) = 0 ∧ u.get (R.LAT_PSTAT_WIDTH p) = 0) ∧
    (∀ st, st = s.get (R.LAT_PSTAT_LTSTATE p) →
      (st = 0 ∨ 5 ≤ st → exec (.trainingTimeout p) s = .next s) ∧
      (1 ≤ st → st ≤ 4 → exec (.trainingTimeout p) s = .next (s.trainPort p)) ∧
      (st ≠ 4 ∨ width.val = 0 → exec (.latigoActive p width par pp) s = .next s) ∧
      (st = 4 → width.val ≠ 0 → ∃ u v : State, v = ((u.resend p).grantRoom p).reforward p ∧
          exec (.latigoActive p width par pp) s =
            .next (if p.val = 1 then (v.pumpPort (v.port p).waiting.length p).sendBeacon p
              else v.pumpPort (v.port p).waiting.length p) ∧
          u.get (R.LAT_PSTAT_LTSTATE p) = 5 ∧ u.get (R.LAT_PSTAT_WIDTH p) = width ∧ (u.port p).partnerPos = pp ∧
          (u.port p).partnerSerial = par.serial.toNat ∧ (u.port p).partnerStep = par.stepping.val ∧ (u.port p).tries = 0 ∧
          (u.port p).replay = (s.port p).replay ∧
          (p.val = 0 → u.get R.LAT_POS = (pp + 1) % 8 ∧ u.bit R.LAT_POS_HEAD = false) ∧
          (p.val = 1 → u.get R.LAT_POS = s.get R.LAT_POS ∧ u.bit R.LAT_POS_HEAD = s.bit R.LAT_POS_HEAD))) ∧
    ((∀ n ∈ (s.port p).room, n = 0) → s.grantRoom p = s) ∧
    (∀ n ∈ (s.port p).room, n ≠ 0 → ∃ u : State, s.grantRoom p = u.latSend p (.credit (s.port p).room) ∧
      (u.port p).room = [0, 0, 0, 0] ∧ u.regs = s.regs) ∧
    ((s.port p).lost = false → s.reforward p = s) ∧
    ((s.port p).replay = [] ∨ s.get (R.LAT_PSTAT_LTSTATE p) ≠ 5 → exec (.replayTimeout p) s = .next s) ∧
    ((s.port p).replay ≠ [] → s.get (R.LAT_PSTAT_LTSTATE p) = 5 → (s.port p).tries < 7 →
      ∃ u : State, exec (.replayTimeout p) s = .next u ∧ (u.port p).tries = (s.port p).tries + 1 ∧
        (u.port p).out = (s.port p).replay.reverse.map (fun e => ⟨e.1, (s.port p).rxLast, e.2⟩) ++ (s.port p).out ∧
        (u.port p).replay = (s.port p).replay ∧
        u.get (R.LAT_REPLAY_CNT_COUNT p) = (s.get (R.LAT_REPLAY_CNT_COUNT p) + (s.port p).replay.length) % 2 ^ 32 ∧
        u.get (R.LAT_PSTAT_LTSTATE p) = 5) ∧
    ((s.port p).replay ≠ [] → s.get (R.LAT_PSTAT_LTSTATE p) = 5 → 7 ≤ (s.port p).tries →
      ∃ u : State, exec (.replayTimeout p) s = .next (u.trainPort p) ∧ (u.port p).tries = 0) ∧
    ((s.port p).unacked = 0 → exec (.ackTimer p) s = .next s) ∧
    (0 < (s.port p).unacked → exec (.ackTimer p) s = .next (s.latSend p .ack)) ∧
    (s.get (R.LAT_PSTAT_LTSTATE p) = 5 ∨ s.get (R.LAT_PSTAT_LTSTATE p) = 0 → exec (.linkDownTimeout p) s = .next s) ∧
    (s.get (R.LAT_PSTAT_LTSTATE p) ≠ 5 → s.get (R.LAT_PSTAT_LTSTATE p) ≠ 0 → ∃ u : State,
      exec (.linkDownTimeout p) s = .next (u.raise (u.srcDev (0x12 + p)) 3 0x40 0) ∧ (u.port p).replay = [] ∧
        (u.port p).lost = true ∧ (u.port p).waiting = (s.port p).waiting ∧ u.regs = s.regs) ∧
    (s.get (R.LAT_PSTAT_LTSTATE 1) ≠ 5 → exec .beaconSend s = .next s) ∧
    (s.get (R.LAT_PSTAT_LTSTATE 1) = 5 → exec .beaconSend s =
      .next ((s.latSend 1 (.beacon (s.stamp 0) (s.get (R.LAT_DELAY 1)))).eventInst .latigo 1 4)) ∧
    (∀ z : Fin 4, s.stamp z % 250 = 0 ∧ s.stamp z ≤ 1000 * s.time + s.clock.frac / 1000000 + 250 * (z.val : Int) ∧
      1000 * s.time + s.clock.frac / 1000000 + 250 * (z.val : Int) < s.stamp z + 250) ∧
    (s.clock.missed < 2 → ∃ u : State, exec .beaconMissed s = .next u ∧ u.clock.missed = s.clock.missed + 1 ∧ u.regs = s.regs ∧
      u.time = s.time) ∧
    (2 ≤ s.clock.missed → ∃ u : State, exec .beaconMissed s = .next u ∧ u.bit R.LAT_TIME_STAT_LOCK = false ∧ u.time = s.time) ∧
    (∀ l m : List (Nat × LatMsg), ∀ a b : LatMsg, ∀ n : Nat,
      ((∀ e ∈ l, e.1 ≠ n) → afterAck (l ++ (n, a) :: m) n = m ∧ afterAck l n = l) ∧
      ((s.port p).replay = (n, b) :: m → ∃ u : State, s.acked p n = u.pumpPort (u.port p).waiting.length p ∧
        (u.port p).replay = m ∧ (u.port p).tries = 0 ∧ u.regs = s.regs)) ∧
    (s.get (R.LAT_PSTAT_LTSTATE h.port) = 5 → ∀ q : State, q = (s.eventInst .latigo h.port 1).acked h.port h.ack →
      (frameGood h .ack = true → exec (.ack h) s = .next q) ∧
      (frameGood h .nak = true → exec (.nak h) s = .next (q.replayPort h.port)) ∧
      (frameGood h (.credit counts) = true →
        ∃ u : State, exec (.credit h counts) s = .next (u.pumpPort (u.port h.port).waiting.length h.port) ∧
          (∀ k, k < 4 → (u.port h.port).credits.getD k 0 = min 1024 ((q.port h.port).credits.getD k 0 + counts.getD k 0)) ∧
          u.regs = q.regs))) ∧
  (∀ (s u : State) (e : Int), u = s.beaconError e →
    u.get R.LAT_TIME_ERR = lowBits 32 (clampInt (-2147483648) 2147483647 e) ∧
    (s.clock.everLocked = true → u.time = s.time ∧ u.clock.slew = -1000 * e) ∧
    (s.clock.everLocked = false → ∀ now : Int, now = (s.time : Int) * 1000000000 + s.clock.frac - e * 1000000 →
      u.time = (now / 1000000000 % (2 ^ 64 : Nat)).toNat ∧ u.clock.frac = (now % 1000000000).toNat ∧ u.clock.slew = s.clock.slew) ∧
    (-1000 ≤ e → e ≤ 1000 → u.clock.good = s.clock.good + 1 ∧ u.clock.missed = 0) ∧
    (-1000 ≤ e → e ≤ 1000 → 3 ≤ s.clock.good → u.bit R.LAT_TIME_STAT_LOCK = true ∧ u.clock.everLocked = true) ∧
    (e < -2000 ∨ 2000 < e → 1 ≤ s.clock.bad → u.bit R.LAT_TIME_STAT_LOCK = false) ∧
    ∀ a, a ≠ R.LAT_TIME_ERR.addr → a ≠ R.LAT_TIME_STAT_LOCK.addr → u.word a = s.word a)

/-- What a frame in order does (R285, R286, R290, R329, R332, R337, R339, R340, R342 to R345): items, acknowledged items, load
stream and load control, beacons and their replies, register accesses, and faults. Each ends with the acknowledgment of a 16th
frame. Where the spec leaves a choice it states the model's own (assumption logs 29, 30, 32, 33). -/
def Obligations.FrameEffects : Prop :=
  ∀ (s : State) (h : FrameHdr) (it : Item) (k : Fin 4096) (seq off dl tag : Nat) (bytes : List Byte) (chk : StreamCheck)
      (pos : Fin 8) (code : Fin 16) (t1 t2 t3 d : Int) (z : Fin 4) (v : Word) (cls cause source : Nat),
    ∀ q : State, q = s.taken h →
    let ends := fun (c : Instr) (t : State) => exec c s = .next (t.ackSixteen h.port)
    (s.inOrder h (.item it) →
      (q.dstLocal it.tag.dst = true → ∃ u : State, u.sched = q.sched ∧ u.regs = q.regs ∧
        (u.port h.port).inbox = (q.port h.port).inbox ++ [it] ∧
        ends (.item h it) (State.drainInbox (u.port h.port).inbox.length u h.port)) ∧
      (q.dstLocal it.tag.dst = true → (q.port h.port).inbox = [] → q.itemFits it = true →
        ∃ u : State, u.sched = q.sched ∧ u.regs = q.regs ∧ (u.port h.port).inbox = [] ∧
          ends (.item h it) ((u.itemArrives h.port it).latSend h.port
            (.credit ((List.range 4).map fun k => if k = it.tag.pri then msgUnits (.item it) else 0)))) ∧
      (q.dstLocal it.tag.dst = true → (q.port h.port).inbox = [] → q.itemFits it = false →
        ∃ u : State, u.sched = q.sched ∧ u.regs = q.regs ∧ (u.port h.port).inbox = [it] ∧ ends (.item h it) u) ∧
      (q.dstLocal it.tag.dst = false →
        ends (.item h it) ((q.latSend (if it.tag.dst / 0x2000 < q.pos then 0 else 1) (.item it)).latSend h.port
          (.credit ((List.range 4).map fun k => if k = it.tag.pri then msgUnits (.item it) else 0))))) ∧
    (∀ g : Tag, g = it.tag → ∀ st : StreamSt, st = q.stream g.stream → ∀ lead : Nat, ∃ e : Nat, e = q.arrivalBad it ∧
      (e ≠ 0 → q.itemArrives lead it = q.refuseItem g.stream g.seq e (some g.pri)) ∧
      (q.dstBad g.dst = true → e = 1) ∧
      (q.dstBad g.dst = false → (st.state ≠ 1 ∧ st.state ≠ 3) ∨ g.dst ≠ st.dst → e = 3) ∧
      (q.dstBad g.dst = false → st.state = 1 ∨ st.state = 3 → g.dst = st.dst → (q.typOk st g = false → e = 4) ∧
        (q.typOk st g = true → (q.lenBad st g = true → e = 2) ∧ (q.lenBad st g = false → e = 0 ∧
          (q.arrival g.stream g.seq = .duplicate →
            q.itemArrives lead it = (q.duplicate g.stream g.pri).latSend lead (.itemAcc g.stream g.seq)) ∧
          (q.arrival g.stream g.seq = .take → q.itemArrives lead it = q.enter it false (some lead)) ∧
          (q.arrival g.stream g.seq = .hold → q.itemArrives lead it = q.enter it true (some lead)) ∧
          (q.arrival g.stream g.seq = .tooFar → q.itemArrives lead it = q.refuseItem g.stream g.seq 6 (some g.pri)) ∧
          (q.arrival g.stream g.seq = .gapFull → q.itemArrives lead it = q.refuseItem g.stream g.seq 9 (some g.pri)))))) ∧
    (s.inOrder h (.itemAcc k seq) →
      (∀ f ∈ q.sched.flights, f.is k seq = true → f.phase = .sent → q.dstLocal f.item.tag.dst = false →
        ends (.itemAcc h k seq) (q.executed k seq)) ∧
      ((∀ f ∈ q.sched.flights, f.is k seq = true → f.phase ≠ .sent ∨ q.dstLocal f.item.tag.dst = true) →
        ends (.itemAcc h k seq) (q.latSend (1 - h.port) (.itemAcc k seq)))) ∧
    (s.inOrder h (.load off bytes) → ∃ u : State, ends (.load h off bytes) (u.latSend 1 (.load off bytes)) ∧ u.regs = q.regs ∧
      (q.isHead = true ∨ q.load.img = none → u.load = q.load) ∧
      ∀ x, q.isHead = false → q.load.img = some x → u.load.img = some (persAdd x off bytes)) ∧
    (s.inOrder h (.loadctl 1 0 0 dl) → ∀ p : State, p = q.latSend 1 (.loadctl 1 0 0 dl) →
      (q.isHead = true ∨ p.get R.LAT_LOAD_STAT_STATE ≠ 0 → ends (.loadctlStart h dl chk) p) ∧
      (q.isHead = false → p.get R.LAT_LOAD_STAT_STATE = 0 →
        ∃ u : State, ends (.loadctlStart h dl chk) (u.setLoad 1) ∧ u.load.img = some { bytes := [], chk := chk } ∧
          u.load.deadline = some dl ∧ u.load.verified = [] ∧ u.load.sigOk = false ∧ u.ports = p.ports)) ∧
    (s.inOrder h (.loadctl 2 pos 0 0) →
      (q.isHead = true → ∃ u : State, ends (.loadctlVerified h pos) u.tryApply ∧ u.load.verified = pos.val :: q.load.verified ∧
        u.regs = q.regs) ∧
      (q.isHead = false → ends (.loadctlVerified h pos) (q.latSend 0 (.loadctl 2 pos 0 0)))) ∧
    (s.inOrder h (.loadctl 3 pos code 0) →
      (q.isHead = true → q.get R.LAT_LOAD_STAT_STATE = 0 ∨ 6 ≤ q.get R.LAT_LOAD_STAT_STATE → ends (.loadctlReject h pos code) q) ∧
      (q.isHead = true → 1 ≤ q.get R.LAT_LOAD_STAT_STATE → q.get R.LAT_LOAD_STAT_STATE ≤ 5 →
        ends (.loadctlReject h pos code) (q.rejectLoad code pos)) ∧
      (q.isHead = false → ends (.loadctlReject h pos code) (q.latSend 0 (.loadctl 3 pos code 0)))) ∧
    (s.inOrder h (.loadctl 6 pos 0 0) →
      (q.isHead = true → ∃ u : State, ends (.loadctlDone h pos) u ∧ u.load.done = pos.val :: q.load.done ∧ u.regs = q.regs) ∧
      (q.isHead = false → ends (.loadctlDone h pos) (q.latSend 0 (.loadctl 6 pos 0 0)))) ∧
    (s.inOrder h (.loadctl 4 0 0 0) →
      (q.get R.LAT_LOAD_STAT_STATE = 3 → ends (.loadctlApply h) q.applyStarts) ∧
      (q.get R.LAT_LOAD_STAT_STATE ≠ 3 → ends (.loadctlApply h) q)) ∧
    (s.inOrder h (.loadctl 5 pos code 0) → ∀ p, p = q.latSend 1 (.loadctl 5 pos code 0) →
      (5 < p.get R.LAT_LOAD_STAT_STATE → ends (.loadctlAbort h pos code) p) ∧
      (p.get R.LAT_LOAD_STAT_STATE ≤ 5 → ∃ u : State, ends (.loadctlAbort h pos code) (u.dropPins.raise (u.dropPins.srcDev 0x14) 4 0x50 code) ∧
        u.get R.LAT_LOAD_STAT_STATE = 6 ∧ u.get R.LAT_LOAD_STAT_CODE = code ∧ u.get R.LAT_LOAD_STAT_REJ_POS = pos ∧
        u.load.img = none ∧ u.load.deadline = none)) ∧
    (s.inOrder h (.loadctl 7 0 0 0) → ∀ p, p = q.latSend 1 (.loadctl 7 0 0 0) →
      (p.get R.LAT_LOAD_STAT_STATE = 6 → ends (.loadctlClear h) p.clearLoad) ∧
      (p.get R.LAT_LOAD_STAT_STATE ≠ 6 → ends (.loadctlClear h) p)) ∧
    (s.inOrder h (.beacon t1 d) → ∀ p, p = q.latSend h.port (.beaconReply t1 (q.stamp z) (q.stamp z)) →
      (h.port.val = 1 → ends (.beacon h t1 d z) p) ∧
      (h.port.val = 0 → h.replayed = true → ends (.beacon h t1 d z) p.missBeacon) ∧
      (h.port.val = 0 → h.replayed = false →
        ends (.beacon h t1 d z) ((p.put (R.LAT_DELAY 0) (lowBits 32 d)).beaconError (q.stamp z - t1 - d)))) ∧
    (s.inOrder h (.beaconReply t1 t2 t3) → ∃ u : State, ends (.beaconReply h t1 t2 t3 z) u ∧
      u.get (R.LAT_DELAY h.port) = lowBits 32 (((q.stamp z - t1) - (t3 - t2)) / 2) ∧ u.ports = q.ports ∧
      ∀ a, a ≠ (R.LAT_DELAY h.port).addr → u.word a = q.word a) ∧
    (s.inOrder h (.reg 1 tag off 0) →
      (off / 0x400000 = q.pos → ends (.regRead h tag off)
        ((q.regRead (off % 0x400000)).2.latSend h.port (.reg 3 tag 0 (q.regRead (off % 0x400000)).1.toNat))) ∧
      (off / 0x400000 ≠ q.pos → ends (.regRead h tag off) (q.latSend (1 - h.port) (.reg 1 tag off 0)))) ∧
    (s.inOrder h (.reg 2 tag off v.toNat) →
      (off / 0x400000 = q.pos →
        ends (.regWrite h tag off v) ((q.regWrite .host (off % 0x400000) v).latSend h.port (.reg 3 tag 0 0))) ∧
      (off / 0x400000 ≠ q.pos → ends (.regWrite h tag off v) (q.latSend (1 - h.port) (.reg 2 tag off v.toNat)))) ∧
    (s.inOrder h (.reg 3 tag 0 v.toNat) →
      (q.host.regTags.any (fun e => e.1 = tag) = true → ends (.regResponse h tag v) ((q.endTag tag).answer v)) ∧
      (q.host.regTags.any (fun e => e.1 = tag) = false → q.isHead = true → ends (.regResponse h tag v) q) ∧
      (q.host.regTags.any (fun e => e.1 = tag) = false → q.isHead = false →
        ends (.regResponse h tag v) (q.latSend (1 - h.port) (.reg 3 tag 0 v.toNat)))) ∧
    (s.inOrder h (.fault cls pos cause source) → ∀ p info, p = q.latSend (1 - h.port) (.fault cls pos cause source) →
      info = pos.val + cls % 256 * 2 ^ 8 + cause % 65536 * 2 ^ 16 →
      (p.bit R.LAT_CFG_FAULT_JOIN = true → p.get R.LAT_LOAD_STAT_STATE ≠ 6 →
        ends (.fault h cls pos cause source) (p.raise (p.srcDev (0x12 + h.port)) 4 0x41 info true)) ∧
      (p.bit R.LAT_CFG_FAULT_JOIN = false ∨ p.get R.LAT_LOAD_STAT_STATE = 6 →
        ends (.fault h cls pos cause source) (p.raise (p.srcDev (0x12 + h.port)) 2 0x41 info true)))

/-- Personality loads (R321, R325 to R332): what the bytes of a stream's header must say; what LOAD_GO, the checks, the deadline,
LOAD_CLEAR, the application and LOADED do in each state of LOAD_STAT; a check that fails rejects the load with its code, and the
digest, the hashes and the length of the bytes that arrived are computed from the stream. Where the spec leaves a choice it states
the model's own (assumption logs 25, 26, 40, 88). -/
def Obligations.LoadCommands : Prop :=
  ∀ (s : State) (img : PersStream) (sig written : Bool) (chain : Nat) (dl : BitVec 13) (st : Nat), st = s.get R.LAT_LOAD_STAT_STATE →
    (s.configActs = false ∨ s.pos ≠ 0 ∨ st ≠ 0 → exec (.loadGo img) s = .next s) ∧
    (s.configActs = true → s.pos = 0 → st = 0 → ∃ u : State, exec (.loadGo img) s = .next
        ((u.latSend 1 (.loadctl 1 0 0 (s.load.deadline.getD 0))).setLoad 1) ∧
      u.load.img = some img ∧ u.load.sigOk = false ∧ u.load.verified = [] ∧ u.load.deadline = s.load.deadline ∧
      u.load.len = s.get R.YDVSEC_LOAD_LEN ∧ u.regs = s.regs) ∧
    (st ≠ 1 ∨ s.load.img = none → exec (.loadSignatureVerified sig chain) s = .next s) ∧
    (st = 1 → s.load.img = some img → ∀ p, p = s.put R.LAT_POS_CHAIN_LEN (s.chainCount chain) →
      (p.headerCode img sig ≠ 0 → exec (.loadSignatureVerified sig chain) s = .next (p.rejectLoad (p.headerCode img sig) p.pos)) ∧
      (p.headerCode img sig = 0 → ∃ u : State, exec (.loadSignatureVerified sig chain) s = .next (u.setLoad 2) ∧
        u.load.sigOk = true ∧ u.load.img = some img ∧ u.regs = p.regs)) ∧
    (∀ b : Nat → Nat → Nat, b = (fun off n => fromLe (memRead img.bytes n off)) →
      (img.idOk = true ↔ b 0 4 = 0x53504446 ∧ b 4 2 = 0x0001 ∧ b 6 2 = 0x0F0D ∧ b 8 2 = 0x8128) ∧
      img.stepMask = BitVec.ofNat 16 (b 10 2) ∧ img.ndev = b 12 1 ∧ img.bind = b 13 1 ∧ (img.reload = true ↔ b 14 2 % 2 = 1) ∧
      img.totalLen = b 16 8 ∧ img.trailerOff = b 24 8 ∧ img.trailerLen = b 32 4 ∧ img.ownerSlot = b 36 4 ∧
      (∀ p, p < 8 → img.serials.getD p 0 = b (128 + 16 * p) 16) ∧
      img.digest = sha256 (memRead img.bytes (4096 + 1024 * img.ndev) 0) ∧
      ∀ j, ((img.sectionAt j).hashOk = true ↔ img.entHash j = sha256 (memRead img.bytes (img.entLen j) (img.entOff j)))) ∧
    (img.ndev = 0 ∨ 8 < img.ndev ∨ 2 ≤ img.bind ∨ 0x20000000 < img.totalLen ∨ img.trailerOff % 64 ≠ 0 ∨ img.trailerLen % 64 ≠ 0 ∨
      img.totalLen ≠ img.trailerOff + img.trailerLen ∨ 4 ≤ img.ownerSlot ∨ (∃ j ∈ img.entries, img.entOff j % 64 ≠ 0 ∨
        img.entLen j = 0 ∨ img.trailerOff < img.entOff j + img.entLen j ∨ img.entTyp j = 0 ∨ 7 < img.entTyp j) →
      img.layoutBad = true) ∧
    (img.idOk = false → s.headerCode img sig = 1) ∧
    (img.idOk = true → img.stepMask.getLsbD (s.get R.GID_STEP_STEPPING) = false → s.headerCode img sig = 2) ∧
    (img.idOk = true → img.stepMask.getLsbD (s.get R.GID_STEP_STEPPING) = true →
      (img.layoutBad = true ∨ img.reload = true → s.headerCode img sig = 3) ∧
      (img.layoutBad = false → img.reload = false →
        (img.ndev ≠ s.get R.LAT_POS_CHAIN_LEN → s.headerCode img sig = 4) ∧
        (img.ndev = s.get R.LAT_POS_CHAIN_LEN → img.bind = 1 → img.serials.getD s.pos 0 ≠ s.serialNo → s.headerCode img sig = 5) ∧
        (img.ndev = s.get R.LAT_POS_CHAIN_LEN → img.bind ≠ 1 ∨ img.serials.getD s.pos 0 = s.serialNo →
          (sig = false ∨ s.ownerSlot img.ownerSlot = false → s.headerCode img sig = 6) ∧
          (sig = true → s.ownerSlot img.ownerSlot = true → s.headerCode img sig = 0)))) ∧
    (st ≠ 2 ∨ s.load.img = none → ∀ short, exec (.loadVerified short) s = .next s) ∧
    (s.pos = 0 → (s.loadShort img = true ↔ s.load.len < img.totalLen ∨ img.len < s.load.len)) ∧
    (s.pos ≠ 0 → (s.loadShort img = true ↔ img.len < img.totalLen)) ∧
    (st = 2 → s.load.img = some img →
      exec (.loadVerified true) s = .next (s.rejectLoad 7 s.pos) ∧
      (s.loadShort img = true → exec (.loadVerified false) s = .next (s.rejectLoad 7 s.pos)) ∧
      (s.loadShort img = false → (∃ x ∈ s.ownSections img, x.hashOk = false) → exec (.loadVerified false) s = .next (s.rejectLoad 8 s.pos)) ∧
      (s.loadShort img = false → (∀ x ∈ s.ownSections img, x.hashOk = true) → (∃ x ∈ s.ownSections img, sectionOk x = false) →
        exec (.loadVerified false) s = .next (s.rejectLoad 3 s.pos)) ∧
      ((∀ x ∈ s.ownSections img, x.hashOk = true ∧ sectionOk x = true) → s.pos ≠ 0 → s.loadShort img = false → ∀ p,
        p = (s.latSend 0 (.loadctl 2 s.pos 0 0)).setLoad 3 →
        ∃ u : State, exec (.loadVerified false) s = .next u ∧ u.load.verified = s.pos :: s.load.verified ∧ u.regs = p.regs) ∧
      ((∀ x ∈ s.ownSections img, x.hashOk = true ∧ sectionOk x = true) → s.pos = 0 → s.loadShort img = false → ∀ p,
        p = ((loadFrames img).foldl (fun s m => s.latSend 1 m) s).setLoad 3 →
        ∃ u : State, exec (.loadVerified false) s = .next u.tryApply ∧ u.load.verified = s.pos :: p.load.verified ∧ u.regs = p.regs)) ∧
    (s.load.deadline = none ∨ 4 ≤ st → exec .loadDeadline s = .next s) ∧
    (s.load.deadline ≠ none → st ≤ 3 → exec .loadDeadline s = .next (s.rejectLoad 9 s.pos)) ∧
    (∀ i, i < (loadFrames img).length → (loadFrames img)[i]? =
      some (.load (4096 * i) (memRead img.bytes (min 4096 (img.totalLen - 4096 * i)) (4096 * i)))) ∧
    (loadFrames img).length = (img.totalLen + 4095) / 4096 ∧
    (s.configActs = false ∨ s.pos ≠ 0 → exec (.loadClear dl) s = .next s) ∧
    (s.configActs = true → s.pos = 0 → st ≠ 6 → exec (.loadClear dl) s = .next (s.put R.YDVSEC_LOAD_CTRL_DEADLINE dl.toNat)) ∧
    (s.configActs = true → s.pos = 0 → st = 6 → ∃ u : State, exec (.loadClear dl) s = .next u ∧
      u.load.deadline = some (u.time + min 6000 (max 10 dl.toNat) * 10000000) ∧ u.load.begun = true) ∧
    (s.load.img = none ∨ st ≠ 4 ∨ s.load.staged ≠ none → exec (.applyDone written) s = .next s) ∧
    (s.load.img = some img → st = 4 → s.load.stopped = true → s.load.staged = none →
      ∃ u : State, exec (.applyDone written) s = .next u ∧ u.load.img = none ∧ u.load.staged = none ∧
        ∀ e, e < 128 → u.bit (R.ENG_STAT_HALTED e) = true) ∧
    (s.load.img = some img → st = 4 → s.load.stopped = false → s.load.staged = none →
      (∃ u : State, exec (.applyDone false) s = .next (u.rejectLoad 10 s.pos) ∧
        (∀ e, e < 128 → u.bit (R.ENG_STAT_HALTED e) = true) ∧ ∀ r, r < 8 → u.get (R.FAB_REG_STAT_STATE r) ≠ 1) ∧
      ∃ u : State, exec (.applyDone true) s = .next u ∧ u.load.staged = some img) ∧
    (s.load.staged = none ∨ st ≠ 4 ∨ s.load.stopped = true → exec .loaded s = .next s) ∧
    (s.load.staged = some img → st = 4 → s.load.stopped = false →
      ∃ u : State, exec .loaded s = .next (tiles32.foldl (fun s t => s.connectTile t) u.loadDomains.enginesNormal) ∧
        u.get R.LAT_LOAD_STAT_STATE = 5 ∧ u.load.digest = img.digest ∧
        u.ledger.live.loads = min (2 ^ 32 - 1) (s.ledger.live.loads + 1) ∧ u.flt = s.flt)

/-- Accesses over the bus (R8, R9, R340, R353, R356 to R358, R461 to R463): a write of a plain word by the page's owner takes its
RW bits, clears its W1C bits and stages its RWS bits, once the firmware runs; any other writer is refused, also at a page-wide
word on which no write acts; an access to another position leaves by a latigo port; faults of bad accesses and of responses that
do not come; the shared SRAM window; and late commits. Where the spec leaves a choice it states the model's own (assumption logs
7, 81, 85, 86, 94). -/
def Obligations.BusAccesses : Prop :=
  ∀ (s : State) (w : Writer) (a : Nat) (v : Word) (p : Page) (off n tag : Nat) (bs : List Byte) (t : Fin 32) (e : Fin 128),
    (a < 0x400000 → exec (.registerWrite w a v) s = .next (s.regWrite w a v)) ∧
    (a < 0x400000 → a % 4 ≠ 0 ∨ pageOf a = none → exec (.registerWrite w a v) s = .next s) ∧
    (a < 0x400000 → a % 4 = 0 → writable a = 0 → pageOf a = some p →
      (rowsAt a = [] → exec (.registerWrite w a v) s = .next s) ∧
      (rowsAt a ≠ [] → wordPin p (a % 0x1000) = none →
        (s.awake = false → exec (.registerWrite w a v) s = .next s) ∧
        (s.awake = true → s.matchesOwner w (s.get (R.PAGE_OWNER (pageBase p))) = true → exec (.registerWrite w a v) s = .next s) ∧
        (s.awake = true → s.matchesOwner w (s.get (R.PAGE_OWNER (pageBase p))) = false →
          exec (.registerWrite w a v) s = .next (s.refuseNotOwner p w)))) ∧
    (a < 0x400000 → a % 4 = 0 → writable a ≠ 0 → pageOf a = some p → 0x40 ≤ a % 0x1000 →
      (p = .ident ∨ p = .rings ∨ p = .latigo ∨ p = .evCfg) →
      (s.awake = false → exec (.registerWrite w a v) s = .next s) ∧
      (s.awake = true → s.matchesOwner w (s.get (R.PAGE_OWNER (pageBase p))) = true → exec (.registerWrite w a v) s = .next (s.plainWrite p a v)) ∧
      (s.awake = true → s.matchesOwner w (s.get (R.PAGE_OWNER (pageBase p))) = false → exec (.registerWrite w a v) s = .next (s.refuseNotOwner p w))) ∧
    (accMask a .rws = 0 → (s.plainWrite p a v).word a =
        mergeBits (s.word a) v (BitVec.ofNat 32 (accMask a .rw)) &&& ~~~(v &&& BitVec.ofNat 32 (accMask a .w1c)) ∧
      (s.plainWrite p a v).stg = s.stg ∧ ∀ b, b ≠ a → (s.plainWrite p a v).word b = s.word b) ∧
    (accMask a .rws ≠ 0 → accMask a .rw = 0 → accMask a .w1c = 0 → s.bit (R.PAGE_LOCK (pageBase p)) = false →
      (∀ b, (s.plainWrite p a v).word b = s.word b) ∧
      tblFind (s.plainWrite p a v).stg a = some (mergeBits (s.stagedWord a) v (BitVec.ofNat 32 (accMask a .rws))) ∧
      ∀ b, b ≠ a → tblFind (s.plainWrite p a v).stg b = tblFind s.stg b) ∧
    (accMask a .rws ≠ 0 → accMask a .rw = 0 → accMask a .w1c = 0 → s.bit (R.PAGE_LOCK (pageBase p)) = true →
      ∃ u : State, s.plainWrite p a v = u.refuse p ∧ u.stg = s.stg ∧ ∀ b, u.word b = s.word b) ∧
    (cfgBase ≤ a → exec (.registerWrite w a v) s = .next (s.writeConfig (a - cfgBase) v)) ∧
    (0x2000000 ≤ a → a < cfgBase → exec (.registerWrite w a v) s = .next s) ∧
    (0x400000 ≤ a → a < 0x2000000 →
      (a / 0x400000 = s.pos → exec (.registerWrite w a v) s = .next (s.regWrite w (a % 0x400000) v)) ∧
      (a / 0x400000 ≠ s.pos → s.posPresent (a / 0x400000) = true →
        exec (.registerWrite w a v) s = .next (s.regFrame 2 a v.toNat)) ∧
      (a / 0x400000 ≠ s.pos → s.posPresent (a / 0x400000) = false → exec (.registerWrite w a v) s = .next s)) ∧
    exec (.bar0BadAccess true off) s = .next (s.raise (s.srcDev 0x18) 1 0x45 off) ∧
    exec (.bar0BadAccess false off) s = .next ((s.raise (s.srcDev 0x18) 1 0x45 off).answer 0xFFFFFFFF) ∧
    (s.hostReady = true → 1 ≤ n → n ≤ 64 → off + n ≤ 0x800000 →
      ∃ u : State, exec (.bar2Access off (.read n)) s = .next u ∧ u.busBytes = s.sramRead off n ∧ u = { s with busBytes := u.busBytes }) ∧
    (s.hostReady = true → 1 ≤ bs.length → bs.length ≤ 64 → off + bs.length ≤ 0x800000 →
      ∃ u : State, exec (.bar2Access off (.write bs)) s = .next u ∧ u.sramRead off bs.length = bs ∧
        (∀ k, k + n ≤ off ∨ off + bs.length ≤ k → u.sramRead k n = s.sramRead k n) ∧ u.regs = s.regs) ∧
    (s.hostReady = false → exec (.bar2Access off (.read n)) s = .next s ∧ exec (.bar2Access off (.write bs)) s = .next s) ∧
    (s.hostReady = true → n = 0 ∨ 64 < n ∨ 0x800000 < off + n → exec (.bar2Access off (.read n)) s = .next (s.report .unsupported)) ∧
    (s.hostReady = true → bs = [] ∨ 64 < bs.length ∨ 0x800000 < off + bs.length →
      exec (.bar2Access off (.write bs)) s = .next (s.report .unsupported)) ∧
    ((∀ x ∈ s.host.regTags, x.1 ≠ tag) → exec (.regResponseTimeout tag) s = .next s) ∧
    (∀ q, s.host.regTags = [(tag, q)] → ∃ u : State,
      exec (.regResponseTimeout tag) s = .next (u.raise (u.srcDev (0x12 + if q < s.pos then 0 else 1)) 2 0x42 q) ∧
        u.busRead = 0xFFFFFFFF ∧ u.host.regTags = [] ∧ u.regs = s.regs) ∧
    (s.pinsSettled t = true → exec (.commitEffective (.pins t)) s = .next (s.finishCommit (.pins t))) ∧
    (s.pinsSettled t = false → exec (.commitEffective (.pins t)) s = .next s) ∧
    exec (.commitEffective (.output t)) s = .next (s.outFinish t) ∧
    exec (.commitEffective (.engine e)) s = .next (s.inbufApply e) ∧
    (s.passActive t = true → exec (.commitEffective (.input t)) s = .next s) ∧
    (s.passActive t = false → (∀ b ∈ inputLate t, s.waits b = false) → exec (.commitEffective (.input t)) s = .next (s.passClose t)) ∧
    (s.passActive t = false → (∃ b ∈ inputLate t, s.waits b = true) →
      exec (.commitEffective (.input t)) s = .next (((s.passClose t).inputApply t).finishCommit (.input t))) ∧
    (∀ c, exec (.commitEffective (.dma c)) s = .next (((List.range 16).foldl (fun s j => s.dmaApply c j) s).dmaCommitted c)) ∧
    (p = .sched ∨ p = .mem ∨ p = .fault ∨ p = .latigo → exec (.commitEffective p) s = .next s)

/-- The host's link and its resets (R327, R335, R348 to R351, R359, R361, R364 to R367): what each event of the link, the
function, the cache, MSI-X and failed reads does; the HDM range is what the host has enabled, and nothing in PCIe-only operation.
The link takes the widest width and the highest rate of what lanes and partner allow; an exchange of the DOE mailbox ends with the
link. Where the spec leaves a choice it states the model's own (assumption logs 36, 53 to 56, 63, 187, 188). -/
def Obligations.HostLinkCommands : Prop :=
  ∀ (s : State) (lanes : BitVec 8) (rates : BitVec 5) (cxl : Bool) (line : Nat) (bs : List Byte) (found : EccOutcome) (v : Fin 2048)
      (r : HostRead) (str : Fin 2) (e : Fin 128),
    (s.pwr.phase = 0 ∨ widestLink lanes = 0 → exec (.linkL0Entry lanes rates cxl) s = .next s) ∧
    (s.pwr.phase ≠ 0 → widestLink lanes ≠ 0 → s.get (R.LAT_PSTAT_LTSTATE 0) ≠ 5 →
      ∃ u : State, exec (.linkL0Entry lanes rates cxl) s = .next u.hostBack ∧ u.host.link = 1 ∧
      u.get R.YDVSEC_ID_WIDTH = widestLink lanes ∧ u.get R.YDVSEC_ID_RATE = rateCode rates ∧
      u.bit R.YDVSEC_ID_PCIE_ONLY = (!cxl || decide (rateCode rates < 3)) ∧ u.get R.LAT_POS = 0 ∧ u.bit R.LAT_POS_HEAD = true ∧
      u.load.begun = true ∧ (s.load.begun = true → u.load = s.load) ∧ (s.load.begun = false → u.load.deadline =
        some (s.time + min 6000 (max 10 (s.get R.YDVSEC_LOAD_CTRL_DEADLINE)) * 10000000))) ∧
    (s.pwr.phase ≠ 0 → widestLink lanes ≠ 0 → s.get (R.LAT_PSTAT_LTSTATE 0) = 5 →
      ∃ u : State, exec (.linkL0Entry lanes rates cxl) s = .next u.hostBack ∧ u.host.link = 1 ∧
      u.get R.LAT_POS = s.get R.LAT_POS ∧ u.bit R.LAT_POS_HEAD = s.bit R.LAT_POS_HEAD ∧ (s.get R.LAT_POS ≠ 0 → u.load = s.load)) ∧
    (∃ u : State, exec .linkDown s = .next u.loadReadFails ∧ u.host.link = 0 ∧ u.host.doeIn = [] ∧ u.host.doeOut = [] ∧ u.busBytes = [] ∧ u.get R.YDVSEC_ID_WIDTH = 0 ∧ u.get R.YDVSEC_ID_RATE = 0 ∧
      u.sec.ide = [] ∧ u.sec.doe = none ∧ u.sec.smbus = none ∧ u.sched = s.sched ∧ u.msix = s.msix) ∧
    (s.host.link = 1 → ∃ u : State, exec .linkL1Entry s = .next (u.event .rings 3) ∧ u = { s with host := { s.host with link := 2 } }) ∧
    (s.host.link ≠ 1 → exec .linkL1Entry s = .next s) ∧
    (s.host.link = 2 → exec .linkL1Exit s = .next ({ s with host := { s.host with link := 1 } } : State).hostBack) ∧
    (s.host.link ≠ 2 → exec .linkL1Exit s = .next s) ∧
    (∃ u : State, exec .d3hotEntry s = .next u ∧ u.host.d3 = true ∧ u.hostReady = false ∧ u.regs = s.regs) ∧
    (s.host.d3 = true → exec .d0Return s = .next ({ s with host := { s.host with d3 := false } } : State).hostBack) ∧
    (s.host.d3 = false → exec .d0Return s = .next s) ∧
    (∃ u : State, exec .perstN s = .next u.loadReadFails ∧ exec .hotReset s = .next u.loadReadFails ∧ u.host.link = 0 ∧
      u.host.d3 = false ∧ u.host.late = [] ∧ u.sched.rings = [] ∧ u.msix.enabled = false ∧ u.msix.unmasked = [] ∧ u.msix.pending = [] ∧
      u.sec.ide = [] ∧ u.busBytes = [] ∧ (∀ k, k < 64 → u.word (R.SQ_CFG_EN k).addr = resetWord (R.SQ_CFG_EN k).addr) ∧
      (∀ k, k < 6 → u.word (cfgBase + 0x1010 + 4 * k) = resetWord (cfgBase + 0x1010 + 4 * k)) ∧ u.bit R.HDM_DECODER_EN = false ∧
      u.bit R.YDVSEC_ID_PCIE_ONLY = false ∧ u.host.doeIn = [] ∧ u.bit R.YDVSEC_RESET_STAT_BUSY = s.bit R.YDVSEC_RESET_STAT_BUSY ∧ u.sched.streams = s.sched.streams ∧ u.flt = s.flt) ∧
    (∃ u : State, exec .flr s = .next u.loadReadFails.dirtyAll ∧ exec .cxlReset s = .next u.loadReadFails.dirtyAll.hdmOff ∧
      (∀ k, k < 6 → u.word (cfgBase + 0x1010 + 4 * k) = resetWord (cfgBase + 0x1010 + 4 * k)) ∧
      u.word R.HDM_DECODER_EN.addr = s.word R.HDM_DECODER_EN.addr ∧
      (∀ k, k < 64 → u.bit (R.SQ_CFG_EN k) = false ∧
        ∀ w, tblFind u.stg (R.SQ_CFG_EN k).addr = some w → w.getLsbD (R.SQ_CFG_EN k).lo = false) ∧ u.msix.enabled = false ∧ u.msix.pending = [] ∧ u.sec.ide = [] ∧
      u.host.link = s.host.link ∧ u.host.d3 = false ∧ u.sched.streams = s.sched.streams ∧ u.flt = s.flt) ∧
    (s.cxlUp = true → exec .viral s = .next (s.raise (s.srcDev 0x18) 4 0x44 0)) ∧ (s.cxlUp = false → exec .viral s = .next s) ∧
    (s.hostReady = true → s.bit R.YDVSEC_ID_PCIE_ONLY = false → exec .cacheWritebackInvalidate s = .next s.readLines) ∧
    (s.hostReady = false ∨ s.bit R.YDVSEC_ID_PCIE_ONLY = true → exec .cacheWritebackInvalidate s = .next s ∧ s.hdmSize = 0) ∧
    (s.bit R.HDM_DECODER_EN = false → s.hdmSize = 0) ∧
    (s.hostReady = true → s.bit R.YDVSEC_ID_PCIE_ONLY = false → s.bit R.HDM_DECODER_EN = true →
      s.hdmSize = 0x10000000 * min 32 (s.get R.HDM_DECODER_SIZE)) ∧
    (s.hdmSize < 64 * line + 64 →
      ∀ op ∈ [BusOp.read 64, .write bs], exec (.cxlMemAccess line op found) s = .next (if s.cxlUp then s.report .unsupported else s)) ∧
    (64 * line + 64 ≤ s.hdmSize →
      exec (.cxlMemAccess line (.read 64) found) s = .next (s.hdmRead (64 * line) found) ∧
      (s.physCheck 2 (64 * line) 64 = .ok → (bs.take 64).length % 32 = 0 ∨ found = .clean → exec (.cxlMemAccess line (.write bs) found) s =
        .next ((s.memEvents 2 (64 * line) 64 true).physWrite 2 (64 * line) (bs.take 64))) ∧
      (s.physCheck 2 (64 * line) 64 = .ok → (bs.take 64).length % 32 ≠ 0 → found = .uncorrectable →
        ∃ u : State, exec (.cxlMemAccess line (.write bs) found) s = .next u ∧ u.mem = s.mem) ∧
      (s.physCheck 2 (64 * line) 64 ≠ .ok → exec (.cxlMemAccess line (.write bs) found) s = .next s)) ∧
    (∃ u : State, exec (.msixUnmask (.vector v)) s = .next u.sendPending ∧ u.msix.unmasked.contains v.val = true ∧
      u = { s with msix := { s.msix with unmasked := u.msix.unmasked } }) ∧
    (∃ u : State, exec (.msixUnmask .function) s = .next u.sendPending ∧
      u = { s with msix := { s.msix with enabled := true, funcMask := false } }) ∧
    (s.hostReady = false → s.sendPending = s) ∧
    (s.host.late.contains r = false → exec (.completionTimeout r) s =
      .next { s.report .completionTimeout with host := { s.host with late := r :: s.host.late } }) ∧
    (s.host.late.contains r = true → exec (.completionTimeout r) s =
      .next (({ s.report .completionTimeout with host := { s.host with late := s.host.late.erase r } } : State).readFails r)) ∧
    exec (.poisonedCompletion r) s = .next ((s.report .poisonedCompletion).readFails r) ∧
    (s.report .completionTimeout).getIdx R.AER_UE_STAT 14 = true ∧ (s.report .completionTimeout).flt.aer =
      (if s.getIdx R.AER_UE_MASK 14 then s.flt.aer else (.completionTimeout, s.getIdx R.AER_UE_SEV 14) :: s.flt.aer) ∧
    (s.engIssues e = true → s.readFails (.unit (.engine e)) = s.engException e 0x11) ∧
    ((s.ide str).active = none → exec (.ideCheckFailure str) s = .next s) ∧
    ((s.ide str).active ≠ none →
      ∃ u : State, exec (.ideCheckFailure str) s = .next (u.raise (u.srcDev 0x18) 2 0x43 str) ∧ (u.ide str).failed = true ∧
        (u.ide str).secure = false ∧ (u.ide str).active = (s.ide str).active ∧ u.hostReady = false ∧
        ∀ a, a ≠ R.AER_UE_STAT.addr → u.word a = s.word a)

/-- Commanded resets (R353, R354, R367, R368, R391, R445): RESET_CTRL acts with its key, in configuration space that is reached
and in the load states that allow it, and refuses otherwise; a cold reset flushes the ledger, and what it keeps stands in its last
clauses. Each step of a warm reset acts at its turn alone: the units are quiesced, the domains clear, the ROM boots a bank or
none, and the load is applied again. SYS_RST_N resets a powered device. Where the spec leaves a choice it states the model's own
(assumption logs 43, 58, 59, 92, 191). -/
def Obligations.ResetCommands : Prop :=
  ∀ (s : State) (key : Byte) (hashOk : Bool) (img : PersStream) (st : Nat), st = s.get R.LAT_LOAD_STAT_STATE →
    (key ≠ 0xA5 ∨ s.configActs = false → exec (.resetWarm key) s = .next s ∧ exec (.resetCold key) s = .next s) ∧
    (s.configActs = true → s.bit R.YDVSEC_RESET_STAT_BUSY = true ∨ (st ≠ 0 ∧ st ≠ 5 ∧ st ≠ 6) → ∃ u : State,
      exec (.resetWarm 0xA5) s = .next u ∧ exec (.resetCold 0xA5) s = .next u ∧ u.bit R.YDVSEC_RESET_STAT_REFUSED = true ∧
      (∀ a, a ≠ R.YDVSEC_RESET_STAT_REFUSED.addr → u.word a = s.word a) ∧ u.host = s.host) ∧
    (s.configActs = true → s.bit R.YDVSEC_RESET_STAT_BUSY = false → st = 0 ∨ st = 5 ∨ st = 6 →
      (∃ u : State, exec (.resetWarm 0xA5) s = .next (allUnits.foldl (fun s u => s.startQuiesce u) u) ∧
        u.bit R.YDVSEC_RESET_STAT_BUSY = true ∧ u.bit R.YDVSEC_RESET_STAT_REFUSED = false ∧ u.get R.YDVSEC_RESET_STAT_LAST = 1 ∧
        u.sched.stopped = true ∧ u.host.warm = 1 ∧ u.flt = s.flt) ∧
      ∃ u : State, exec (.resetCold 0xA5) s =
          .next ((u.flush.putB R.PFAIL_STAT_LAST_CLEAN true).coldReset.put R.YDVSEC_RESET_STAT_LAST 2).powerUp ∧
        u.ledger = s.ledger ∧ u.sched = s.sched) ∧
    (s.host.warm ≠ 1 → exec .warmResetSafe s = .next s) ∧
    (s.host.warm = 1 → ∃ u : State, exec .warmResetSafe s = .next u ∧ u.bit R.MEM_STAT_SCRUB = false ∧ u.host.warm = 2) ∧
    (s.host.warm ≠ 2 → exec .warmResetDomains s = .next s) ∧
    (s.host.warm = 2 → ∃ u : State, exec .warmResetDomains s = .next u ∧ u.host.warm = 3 ∧ u.engs = [] ∧ u.dmas = [] ∧ u.ports = [] ∧
      u.contained = [] ∧ u.mem.tlbs = [] ∧ u.sec.unlocks = [] ∧ u.flt.fifo = [] ∧ u.flt.active = [] ∧
      (∀ a, 0x200000 ≤ a → a < 0x280000 → u.word a = resetWord a) ∧ (∀ a, 0x40 ≤ a → a < 0x1000 → u.word a = s.word a) ∧
      u.mem.loc = s.mem.loc ∧ u.mem.sram = s.mem.sram ∧ u.mem.dram = s.mem.dram ∧ u.pins = s.pins ∧
      u.sched.streams = s.sched.streams ∧ u.sec.slots = s.sec.slots ∧ u.load = s.load ∧ u.time = s.time ∧ u.msix = s.msix) ∧
    (s.host.warm ≠ 3 → exec .warmResetRom s = .next s) ∧
    (s.host.warm = 3 → s.sec.qualA = true ∨ s.sec.qualB = true →
      ∃ u : State, exec .warmResetRom s = .next ((u.trainPort 0).trainPort 1) ∧ u.host.warm = 4 ∧ u.pwr.noFw = false ∧
        u.sec.running = (if s.sec.bootB then s.sec.bankB else s.sec.bankA) ∧ u.get R.SEC_STAT_FW_BANK = s.sec.bootB.toNat ∧
        u.sched = s.sched) ∧
    (s.host.warm = 3 → s.sec.qualA = false → s.sec.qualB = false →
      ∃ u : State, exec .warmResetRom s = .next (u.setLoad 6) ∧ u.host.warm = 4 ∧ u.pwr.noFw = true ∧ u.get R.SEC_STAT_FW_BANK = 3 ∧
        u.sec = s.sec ∧ u.sched = s.sched) ∧
    (s.host.warm ≠ 4 → exec (.warmResetReapply hashOk) s = .next s) ∧
    (s.host.warm = 4 → s.load.staged = none ∨ st ≠ 5 → exec (.warmResetReapply hashOk) s = .next s.warmEnd) ∧
    (s.host.warm = 4 → s.load.staged = some img → st = 5 →
      exec (.warmResetReapply true) s = .next (s.reapply img).warmEnd ∧
      exec (.warmResetReapply false) s = .next (s.warmEnd.rejectLoad 8 s.pos)) ∧
    (s.pwr.phase = 0 → exec .sysRstN s = .next s) ∧
    (s.pwr.phase ≠ 0 → exec .sysRstN s = .next (s.flush.putB R.PFAIL_STAT_LAST_CLEAN true).coldReset.onVbat) ∧
    (s.onVbat.bit R.RTC_STAT_ON_VBAT = true ∧ (s.pwr.vbat = true → s.onVbat.pwr = s.pwr) ∧
      (s.pwr.vbat = false → s.onVbat.bit R.RTC_STAT_VALID = false ∧ s.onVbat.pwr.dark = true)) ∧
    (s.flush.ledger.clean = true ∧ s.flush.ledger.kept = s.flush.ledger.live) ∧
    (s.coldReset.mem.hostOut = s.mem.hostOut ∧ s.coldReset.mem.hostOwn = s.mem.hostOwn ∧ s.coldReset.mem.key = none ∧
      s.coldReset.mem.sram = [] ∧ s.coldReset.mem.dram = [] ∧ s.coldReset.engs = [] ∧ s.coldReset.flt = State.reset.flt ∧
      s.coldReset.pwr.phase = State.reset.pwr.phase ∧ s.coldReset.ledger.live = s.ledger.kept ∧
      s.coldReset.sec.otpSvn = s.sec.otpSvn ∧ s.coldReset.rtcNs = s.rtcNs ∧
      s.coldReset.get R.RTC_SEC_LO_SEC = s.get R.RTC_SEC_LO_SEC ∧ s.coldReset.pending = s.pending ∧
      s.coldReset.straps = s.straps ∧ s.coldReset.host.smbAddr = 0x58 + s.straps.smbA ∧
      s.coldReset.bit R.SEC_STAT_OWN_EN = s.straps.ownEn ∧ s.coldReset.bit R.TIME_STAT_SRC = s.straps.tcxoSel) ∧
    s.powerUp.time = 0 ∧ s.powerUp.pwr.phase = 1 ∧ s.powerUp.ledger.live.epoch = min (2 ^ 64 - 1) (s.ledger.live.epoch + 1)

/-- The sideband, the DOE mailbox and boundary scan (R363, R370, R371, R377, R390): the answers, and which instruction is in
effect; none of these writes a register of the device. SAMPLE/PRELOAD and EXTEST capture the pins; the scan instructions drive the
GIO pins in WAIT and FAILED alone. The table of R363, the manufacturer field of IDCODE, what PRELOAD shifts in and the form of an
answer are open. Where the spec leaves a choice it states the model's own (assumption logs 51, 57, 61, 62, 187, 188). -/
def Obligations.SidebandCommands : Prop :=
  ∀ (s : State) (i cmd : Nat) (r : ReadReq),
    (i < 7 → ∃ u : State, exec (.doeDiscovery i) s = .next u ∧
      u.busBytes = leBytes 2 (doeObjects.getD i (0, 0)).1 ++ leBytes 1 (doeObjects.getD i (0, 0)).2 ++ leBytes 1 ((i + 1) % 7) ∧
      u = { s with busBytes := u.busBytes }) ∧
    (∃ u : State, exec .tableAccess s = .next u ∧ u.busBytes.length = 64 ∧ u = { s with busBytes := u.busBytes }) ∧
    exec .doeAbort s = .next { s with host := { s.host with doeIn := [], doeOut := [], doeError := false }, busBytes := [] } ∧
    (∃ u : State, exec (.mctpControl cmd) s = .next u ∧ u.busBytes = [BitVec.ofNat 8 cmd, 0] ∧ u = { s with busBytes := u.busBytes }) ∧
    (s.pwr.phase < 2 → exec (.mctpRead r) s = .next s) ∧
    (2 ≤ s.pwr.phase → ∃ u : State, exec (.mctpRead r) s = .next u ∧ u = { s with busBytes := u.busBytes } ∧
      u.busBytes = leBytes 1 4 ++ leBytes 1 (if s.pwr.noFw then 4 else if r.req.ok then 0 else 1) ++ leBytes 2 0 ++ leBytes 4 r.req.tag ++
        (if s.pwr.noFw = false ∧ r.req.ok = true then (s.sec.mctp.drop r.off).take 1024 else [])) ∧
    (r.req.ok = true ↔ r.req.off = 0 ∧ ∀ b ∈ r.req.zeros, b = 0) ∧
    exec .bypass s = .next { s with host := { s.host with scan := 0 }, busBytes := [0] } ∧
    (∃ u : State, exec .idcode s = .next u ∧ u.host.scan = 1 ∧ u.busBytes.length = 4 ∧
      fromLe u.busBytes / 2 ^ 12 = s.get R.GID_STEP_STEPPING * 2 ^ 16 + 0x8128 ∧ fromLe u.busBytes % 2 = 1 ∧ u.regs = s.regs) ∧
    (∃ u : State, exec .samplePreload s = .next u ∧ u.host.scan = 2 ∧ u.busBytes = s.scanCells ∧ u.host.preload < 2 ^ 48 ∧
      u.pins = s.pins ∧ u.regs = s.regs) ∧
    (s.scanCells.length = 38 ∧ (∀ t n, t < 32 → n < 8 → (s.scanCells.getD t 0).getLsbD n = s.pinState t n) ∧
      ∀ g, g < 48 → (s.scanCells.getD (32 + g / 8) 0).getLsbD (g % 8) = s.gioIn g) ∧
    (s.scanActs = true ↔ s.get R.LAT_LOAD_STAT_STATE = 0 ∨ s.get R.LAT_LOAD_STAT_STATE = 6) ∧
    (∃ u : State, exec .extest s = .next u ∧ u.host.scan = 3 ∧ u.busBytes = (if s.scanActs then s.scanCells else [0]) ∧
      u.pins = s.pins ∧ u.regs = s.regs ∧ ∀ g, u.gioDrive g = if s.scanActs then some (s.host.preload.testBit g) else s.gioFunc g) ∧
    (∃ u : State, exec .clamp s = .next u ∧ u.host.scan = 4 ∧ u.busBytes = [0] ∧ u.pins = s.pins ∧ u.regs = s.regs ∧
      ∀ g, u.gioDrive g = if s.scanActs then some (s.host.preload.testBit g) else s.gioFunc g) ∧
    ∃ u : State, exec .highz s = .next u ∧ u.host.scan = 5 ∧ u.busBytes = [0] ∧ u.pins = s.pins ∧ u.regs = s.regs ∧
      ∀ g, u.gioDrive g = if s.scanActs then none else s.gioFunc g

/-- Sessions, quotes and certificates (R375, R376, R377, R385, R386, R388, R390, R391, R399): SID and the device nonce are drawn,
the secret comes out of the ciphertext, and CONFIRM is made over the request; a session and a quote each take one signature index
or end with the STATUS that the rules give. Without firmware, and for a request that is not well formed, only that is answered.
Where the spec leaves a choice it states the model's own (assumption logs 50, 60, 66 to 68, 184, 196). -/
def Obligations.SessionAndQuoteCommands : Prop :=
  ∀ (s : State) (p : SecPort) (r : ObjReq) (nonceH : BitVec 256) (ct : List Byte) (sid nonce : Nat) (pos : Byte) (opOk ledgerOk : Bool)
      (far : Option (List Byte)) (q : List Byte) (x : QuoteWork) (w : Writer),
    (∀ op c, (op, c) ∈ [(2, Instr.sessionSetup p r opOk nonceH ct ledgerOk), (3, .sessionClose p r sid),
        (2, .quote p r nonce pos sid ledgerOk far), (3, .certs p r pos far)] →
      (s.pwr.phase < 2 → exec c s = .next s) ∧
      (2 ≤ s.pwr.phase → s.pwr.noFw = true → exec c s = .next (s.reply op 4 r.tag)) ∧
      (s.awake = true → r.ok = false → exec c s = .next (s.reply op 1 r.tag))) ∧
    (s.awake = true → r.ok = true →
      (opOk = false ∨ ct.length ≠ 1088 → exec (.sessionSetup p r opOk nonceH ct ledgerOk) s = .next (s.reply 2 1 r.tag)) ∧
      (ct.length = 1088 →
        (s.sec.next < 2 ^ 35 → s.sec.next = s.sec.rsv → exec (.sessionSetup p r true nonceH ct false) s = .next (s.reply 2 8 r.tag)) ∧
        (2 ^ 35 ≤ s.sec.next → s.sec.spent = true → exec (.sessionSetup p r true nonceH ct ledgerOk) s = .next (s.reply 2 7 r.tag)) ∧
        (s.sec.next < 2 ^ 35 → s.sec.next ≠ s.sec.rsv ∨ ledgerOk = true →
          ∃ (u : State) (y : Session), exec (.sessionSetup p r true nonceH ct ledgerOk) s =
            .next (u.reply 2 0 r.tag (leBytes 4 y.sid ++ leBytes 32 y.nonceD ++ leBytes 32 (hmac y.confKey (leBytes 32
              (sha256 (objBody 2 0 r.tag (leBytes 32 nonceH.toNat ++ ct) ++ leBytes 4 y.sid ++ leBytes 32 y.nonceD)))))) ∧
          u.session p = some y ∧ 1 ≤ y.sid ∧ y.sid < 2 ^ 32 ∧ y.nonceH = nonceH.toNat ∧ y.secret = decaps ct ∧
          u.sec.next = s.sec.next + 1 ∧ (s.sec.next ≠ s.sec.rsv → u.ledger = s.ledger) ∧
          (s.sec.next = s.sec.rsv → u.sec.rsv = s.sec.rsv + 256) ∧
          (p = .doe → u.sec.smbus = s.sec.smbus ∧ ∀ k, (u.ide k).active = (s.ide k).active ∧ (u.ide k).secure = (s.ide k).secure) ∧
          (p = .smbus → u.sec.doe = s.sec.doe ∧ u.sec.ide = s.sec.ide))) ∧
      ((s.openSid p sid).isSome = true → ∃ u : State, exec (.sessionClose p r sid) s = .next (u.reply 3 0 r.tag) ∧
        u.session p = none ∧ u.sec.ide = s.sec.ide) ∧
      ((s.openSid p sid).isSome = false → exec (.sessionClose p r sid) s = .next (s.reply 3 5 r.tag)) ∧
      (s.posPresent pos.toNat = false → exec (.quote p r nonce pos sid ledgerOk far) s = .next (s.reply 2 4 r.tag) ∧
        exec (.certs p r pos far) s = .next (s.reply 3 4 r.tag)) ∧
      (s.posPresent pos.toNat = true → sid ≠ 0 → (s.openSid p sid).isSome = false →
        exec (.quote p r nonce pos sid ledgerOk far) s = .next (s.reply 2 5 r.tag)) ∧
      (sid = 0 ∨ (s.openSid p sid).isSome = true → pos.toNat = s.pos →
        (s.sec.quoteWork ≠ none → exec (.quote p r nonce pos sid ledgerOk far) s = .next (s.reply 2 9 r.tag)) ∧
        (s.sec.quoteWork = none →
          (s.sec.next < 2 ^ 35 → s.sec.next ≠ s.sec.rsv → ∃ u : State, exec (.quote p r nonce pos sid ledgerOk far) s =
            .next (u.prepared p 2 r.tag (s.attested p sid (s.quoteBytes nonce s.sec.next))) ∧
            u.sec.next = s.sec.next + 1 ∧ u.sec.rsv = s.sec.rsv ∧ u.ledger = s.ledger) ∧
          (s.sec.next < 2 ^ 35 → s.sec.next = s.sec.rsv → ∃ u : State, exec (.quote p r nonce pos sid true far) s =
            .next (u.prepared p 2 r.tag (s.attested p sid (s.quoteBytes nonce s.sec.next))) ∧
            u.sec.next = s.sec.next + 1 ∧ u.sec.rsv = s.sec.rsv + 256) ∧
          (s.sec.next < 2 ^ 35 → s.sec.next = s.sec.rsv → exec (.quote p r nonce pos sid false far) s = .next (s.reply 2 8 r.tag)) ∧
          (2 ^ 35 ≤ s.sec.next → s.sec.spent = true → exec (.quote p r nonce pos sid ledgerOk far) s = .next (s.reply 2 7 r.tag)) ∧
          (2 ^ 35 ≤ s.sec.next → s.sec.spent = false → ∃ u : State, exec (.quote p r nonce pos sid ledgerOk far) s =
            .next ((u.raise (u.srcPage .security) 2 0x6A 0).reply 2 7 r.tag) ∧ u.sec.spent = true ∧ u.regs = s.regs))) ∧
      (sid = 0 ∨ (s.openSid p sid).isSome = true → pos.toNat ≠ s.pos → s.posPresent pos.toNat = true →
        exec (.quote p r nonce pos sid ledgerOk none) s = .next (s.reply 2 9 r.tag) ∧
        exec (.quote p r nonce pos sid ledgerOk (some q)) s =
          .next ((s.runMailbox pos.toNat nonce q.length).prepared p 2 r.tag (s.attested p sid q))) ∧
      (pos.toNat ≠ s.pos → s.posPresent pos.toNat = true →
        exec (.certs p r pos none) s = .next (s.reply 3 9 r.tag) ∧
        exec (.certs p r pos (some q)) s = .next (s.prepared p 3 r.tag q)) ∧
      (pos.toNat = s.pos → exec (.certs p r pos far) s = .next (s.prepared p 3 r.tag s.certBytes))) ∧
    (∀ y : Session, (s.openSid p sid = some y → s.attested p sid q = q ++ leBytes 32 (hmac y.attKey q)) ∧
      (s.openSid p sid = none → s.attested p sid q = q)) ∧
    (s.awake = false → exec (.secQuoteGo w) s = .next s) ∧
    (s.awake = true → w = .host ∨ s.matchesOwner w (s.get (R.PAGE_OWNER secPage)) = true →
      (s.bit R.SEC_QUOTE_CTRL_BUSY = false → ∃ u : State, exec (.secQuoteGo w) s = .next u ∧ u.bit R.SEC_QUOTE_CTRL_BUSY = true ∧
        u.sec.quoteWork = some ⟨s.mailNonce⟩ ∧ ∀ a, a ≠ R.SEC_QUOTE_CTRL_BUSY.addr → u.word a = s.word a) ∧
      (s.bit R.SEC_QUOTE_CTRL_BUSY = true → exec (.secQuoteGo w) s = .next s)) ∧
    (s.awake = true → w ≠ .host → s.matchesOwner w (s.get (R.PAGE_OWNER secPage)) = false →
      exec (.secQuoteGo w) s = .next (s.refuseNotOwner .security w)) ∧
    (s.sec.quoteWork = none → exec (.quoteBuilt ledgerOk) s = .next s) ∧
    (s.sec.quoteWork = some x → ∃ u : State, exec (.quoteBuilt ledgerOk) s = .next (u.done .security) ∧
      u.bit R.SEC_QUOTE_CTRL_BUSY = false ∧ u.sec.quoteWork = none ∧ u.get R.SEC_QUOTE_CTRL_STATUS = (s.signIndex ledgerOk).2.1 ∧
      ((s.signIndex ledgerOk).2.1 = 0 → u.get R.SEC_QUOTE_LEN = 5832 ∧
        u.sec.quote = s.quoteBytes x.nonce (s.signIndex ledgerOk).2.2))

/-- Owners and IDE keys (R364, R365, R378 to R383, R387): a challenge is drawn and used up by one operation; where the fields of a
signed body stand; each owner operation's checks and its effect on the slots; key sets are loaded, chosen, put in use at the next
key-set change and taken out of use. The OP of an IDE object and the code for a serial that is not this unit's are free values;
the instant of the change is the model's (assumption log 190). Where the spec leaves a choice it states the model's own
(assumption logs 64, 65, 190). -/
def Obligations.OwnerAndKeyCommands : Prop :=
  ∀ (s : State) (r : ObjReq) (sid gen : Nat) (req : SignedBody) (ownEn ledgerOk : Bool) (str kset : Byte) (x : Session),
    (∀ (o sl au : Byte) (ser ch : Nat) (key sg : List Byte), key.length = 60 → ser < 2 ^ 128 → ch < 2 ^ 256 → sg.length < 2 ^ 32 →
      req.bytes = [0x46, 0x44, 0x4F, 0x57, o, sl, au, 0] ++ leBytes 16 ser ++ leBytes 32 ch ++ key ++ leBytes 4 sg.length ++ sg →
      ownSlot req = sl.toNat ∧ ownAuth req = au.toNat ∧ ownSerial req = ser ∧ ownChallenge req = ch ∧ ownKey req = fromLe key ∧
      (sl.toNat < 4 → au.toNat < 4 → (o = 2 ∨ o = 5 → sl = 0) → (o = 2 → au = 0) → (o = 4 → fromLe key = 0) →
        ownFormat o.toNat req = true)) ∧
    (∀ op c p, (op, c) ∈ [(1, Instr.ownerChallenge r), (2, .enrollFirst r req ownEn ledgerOk), (3, .ownerAdd r req ledgerOk),
        (4, .revoke r req ledgerOk), (5, .transfer r req ledgerOk), (6, .ownerRead r)] → p = (if op = 2 then s.strapOwnEn ownEn else s) →
      (s.pwr.phase < 2 → exec c s = .next p) ∧
      (2 ≤ s.pwr.phase → s.pwr.noFw = true → exec c s = .next (p.reply op 4 r.tag)) ∧
      (s.awake = true → r.ok = false → exec c s = .next (p.reply op 1 r.tag))) ∧
    (∃ (u : State) (op : Nat), op < 256 ∧ u = { s with free := u.free } ∧
      ∀ c ∈ ([.prog r sid str kset gen true, .ideGo r sid str kset true, .ideStop r sid str true] : List Instr),
        (s.pwr.phase < 2 → exec c s = .next u) ∧
        (2 ≤ s.pwr.phase → s.pwr.noFw = true → exec c s = .next (u.reply op 4 r.tag)) ∧
        (s.awake = true → r.ok = false ∨ 2 ≤ str.toNat → exec c s = .next (u.reply op 1 r.tag))) ∧
    (s.strapOwnEn ownEn).bit R.SEC_STAT_OWN_EN = ownEn ∧ (s.strapOwnEn ownEn).straps.ownEn = ownEn ∧
    (s.awake = true → r.ok = true →
    (∃ (u : State) (c : Nat), exec (.ownerChallenge r) s = .next (u.reply 1 0 r.tag (leBytes 32 c)) ∧ u.sec.chalOwner = some c ∧
      c < 2 ^ 256 ∧ u.sec.chalDebug = s.sec.chalDebug ∧ u.regs = s.regs) ∧
    exec (.ownerRead r) s = .next (s.reply 6 0 r.tag s.ownerBytes) ∧
    (∀ op c p, (op, c) ∈ [(2, Instr.enrollFirst r req ownEn ledgerOk), (3, .ownerAdd r req ledgerOk), (4, .revoke r req ledgerOk),
        (5, .transfer r req ledgerOk)] → p = (if op = 2 then s.strapOwnEn ownEn else s) →
      (ownFormat op req = false ∨ (op ≠ 4 ∧ ownKeyOk req = false) →
        exec c s = .next (p.reply op 1 r.tag)) ∧
      (ownFormat op req = true → op = 4 ∨ ownKeyOk req = true →
        (ownSerial req ≠ s.serialNo → ∃ (u : State) (z : Nat), 1 ≤ z ∧ z ≤ 10 ∧
          exec c s = .next (u.reply op z r.tag) ∧ u = { p with free := u.free }) ∧
        (ownSerial req = s.serialNo → s.sec.chalOwner ≠ some (ownChallenge req) →
          exec c s = .next (p.reply op 3 r.tag)) ∧
        (ownSerial req = s.serialNo → s.sec.chalOwner = some (ownChallenge req) → 3 ≤ op → ∀ q : State,
          q = { s with sec := { s.sec with chalOwner := none } } →
          ((s.slot (ownAuth req)).state ≠ 1 → exec c s = .next (q.reply op 6 r.tag)) ∧
          ((s.slot (ownAuth req)).state = 1 → req.sigOk = false →
            exec c s = .next (q.reply op 2 r.tag))))) ∧
    (ownFormat 2 req = true → ownKeyOk req = true → ownSerial req = s.serialNo → s.sec.chalOwner = some (ownChallenge req) →
      (ownEn = false ∨ (∃ k, k < 4 ∧ (s.slot k).state ≠ 0) → ∃ u : State,
        exec (.enrollFirst r req ownEn ledgerOk) s = .next (u.reply 2 4 r.tag) ∧ u.sec.slots = s.sec.slots ∧ u.sec.chalOwner = none) ∧
      (ownEn = true → (∀ k, k < 4 → (s.slot k).state = 0) →
        (req.sigOk = false → ∃ u : State, exec (.enrollFirst r req true ledgerOk) s = .next (u.reply 2 2 r.tag) ∧
          u.sec.slots = s.sec.slots ∧ u.sec.chalOwner = none) ∧
        (req.sigOk = true → (∃ u : State, exec (.enrollFirst r req true false) s = .next (u.reply 2 8 r.tag) ∧
            u.sec.slots = s.sec.slots ∧ u.sec.chalOwner = none) ∧
          ∃ u : State, exec (.enrollFirst r req true true) s = .next (u.reply 2 0 r.tag) ∧
            u.slot 0 = { state := 1, key := ownKey req, time := s.calTime } ∧ (∀ k, k ≠ 0 → u.slot k = s.slot k) ∧
            u.sec.chalOwner = none ∧ u.getIdx R.SEC_STAT_OWNERS 0 = true ∧ u.bit R.SEC_STAT_OWN_EN = true))) ∧
    (ownSerial req = s.serialNo → s.sec.chalOwner = some (ownChallenge req) → (s.slot (ownAuth req)).state = 1 → req.sigOk = true →
      (ownFormat 3 req = true → ownKeyOk req = true →
        ((s.slot (ownSlot req)).state = 0 → (∃ u : State, exec (.ownerAdd r req true) s = .next (u.reply 3 0 r.tag) ∧
            u.slot (ownSlot req) = { state := 1, key := ownKey req, time := s.calTime } ∧
            (∀ k, k ≠ ownSlot req → u.slot k = s.slot k) ∧ u.ledger.live.owners = min (2 ^ 32 - 1) (s.ledger.live.owners + 1)) ∧
          ∃ u : State, exec (.ownerAdd r req false) s = .next (u.reply 3 8 r.tag) ∧ u.sec.slots = s.sec.slots) ∧
        ((s.slot (ownSlot req)).state ≠ 0 → ∃ u : State, exec (.ownerAdd r req ledgerOk) s = .next (u.reply 3 6 r.tag) ∧
          u.sec.slots = s.sec.slots)) ∧
      (ownFormat 4 req = true →
        ((s.slot (ownSlot req)).state ≠ 1 → ∃ u : State, exec (.revoke r req ledgerOk) s = .next (u.reply 4 6 r.tag) ∧
          u.sec.slots = s.sec.slots) ∧
        ((s.slot (ownSlot req)).state = 1 → s.activeSlots ≤ 1 → ∃ u : State,
          exec (.revoke r req ledgerOk) s = .next (u.reply 4 4 r.tag) ∧ u.sec.slots = s.sec.slots) ∧
        ((s.slot (ownSlot req)).state = 1 → 2 ≤ s.activeSlots →
          (∃ u : State, exec (.revoke r req true) s = .next (u.reply 4 0 r.tag) ∧
            u.slot (ownSlot req) = { s.slot (ownSlot req) with state := 2 } ∧ (∀ k, k ≠ ownSlot req → u.slot k = s.slot k) ∧
            u.ledger.live.owners = min (2 ^ 32 - 1) (s.ledger.live.owners + 1)) ∧
          ∃ u : State, exec (.revoke r req false) s = .next (u.reply 4 8 r.tag) ∧ u.sec.slots = s.sec.slots)) ∧
      (ownFormat 5 req = true → ownKeyOk req = true →
        (∃ u : State, exec (.transfer r req true) s = .next (u.reply 5 0 r.tag) ∧
          u.slot 0 = { state := 1, key := ownKey req, time := s.calTime } ∧ ∀ k, k ≠ 0 → u.slot k = {}) ∧
        ∃ u : State, exec (.transfer r req false) s = .next (u.reply 5 8 r.tag) ∧ u.sec.slots = s.sec.slots)) ∧
    (str.toNat < 2 → kset.toNat < 2 →
    (s.openSid .doe sid = none → ∃ (u : State) (op : Nat), op < 256 ∧ exec (.prog r sid str kset gen true) s = .next (u.reply op 5 r.tag) ∧
      exec (.ideGo r sid str kset true) s = .next (u.reply op 5 r.tag) ∧ exec (.ideStop r sid str true) s = .next (u.reply op 5 r.tag) ∧
      u.sec = s.sec ∧ u.regs = s.regs) ∧
    (s.openSid .doe sid = some x →
      ((∀ g, (s.ide str.toNat).gen = some g → g < gen) → ∃ (u : State) (op : Nat), op < 256 ∧
        exec (.prog r sid str kset gen true) s = .next (u.reply op 0 r.tag) ∧ (u.ide str.toNat).gen = some gen ∧
        tblFind (u.ide str.toNat).loaded kset.toNat = some (x.ideKeys str.toNat kset.toNat gen) ∧
        (u.ide str.toNat).active = (s.ide str.toNat).active ∧ (u.ide str.toNat).secure = (s.ide str.toNat).secure ∧ u.regs = s.regs) ∧
      (∀ g, (s.ide str.toNat).gen = some g → gen ≤ g → ∃ (u : State) (op : Nat), op < 256 ∧
        exec (.prog r sid str kset gen true) s = .next (u.reply op 1 r.tag) ∧ u.sec = s.sec) ∧
      (∃ (u : State) (op : Nat), op < 256 ∧ exec (.prog r sid str kset gen false) s = .next (u.reply op 2 r.tag) ∧
        exec (.ideGo r sid str kset false) s = .next (u.reply op 2 r.tag) ∧ exec (.ideStop r sid str false) s = .next (u.reply op 2 r.tag) ∧
        u = { s with free := u.free }) ∧
      (tblFind (s.ide str.toNat).loaded kset.toNat = none → ∃ (u : State) (op : Nat), op < 256 ∧
        exec (.ideGo r sid str kset true) s = .next (u.reply op 4 r.tag) ∧ u.sec = s.sec) ∧
      (∀ key, tblFind (s.ide str.toNat).loaded kset.toNat = some key → ∃ (u : State) (op : Nat), op < 256 ∧
        exec (.ideGo r sid str kset true) s = .next (u.reply op 0 r.tag) ∧ (u.ide str.toNat).next = some kset.toNat ∧
        (u.ide str.toNat).active = (s.ide str.toNat).active ∧ (u.ide str.toNat).secure = (s.ide str.toNat).secure ∧ u.regs = s.regs) ∧
      ∃ (u : State) (op : Nat), op < 256 ∧ exec (.ideStop r sid str true) s = .next (u.reply op 0 r.tag) ∧
        (u.ide str.toNat).active = none ∧ (u.ide str.toNat).secure = false ∧ (u.ide str.toNat).next = none ∧
        (u.ide str.toNat).loaded = (s.ide str.toNat).loaded ∧ u.regs = s.regs))) ∧
    ∀ (i k : Nat) (key : List Nat), i < 2 → (s.ide i).next = some k → tblFind (s.ide i).loaded k = some key →
      ∃ u : State, (s.ideSwitch i = u ∨ s.ideSwitch i = u.hostBack) ∧ (u.ide i).active = some (k, key) ∧ (u.ide i).secure = true ∧
        (u.ide i).next = none ∧ ((u.ide i).failed = true ↔ (s.ide i).failed = true ∧ (s.ide i).stale.contains k = true) ∧ u.regs = s.regs

/-- Debug unlock, firmware and glitch monitors (R378, R391 to R398): where the fields of a token stand; a scope is granted for 24
h at most and ends by lock or expiry; an image is staged into the inactive bank and committed into the fuses; a trip is recorded,
and is fatal where its monitor is so configured. Without firmware only a stage by the page's owner acts. The code for a serial
that is not this unit's is a free value. Where the spec leaves a choice it states the model's own (assumption logs 66, 67, 69,
189). -/
def Obligations.DebugAndFirmwareCommands : Prop :=
  ∀ (s : State) (r : ObjReq) (svn cut : Nat) (token : SignedBody) (w : Writer) (readOk sigOk : Bool) (x : FwWork) (m : Fin 6),
    (s.awake = true → r.ok = true → ∃ (u : State) (c : Nat), exec (.debugChallenge r) s = .next (u.reply 1 0 r.tag (leBytes 32 c)) ∧
      u.sec.chalDebug = some c ∧ c < 2 ^ 256 ∧ u.sec.chalOwner = s.sec.chalOwner ∧ u.regs = s.regs) ∧
    exec (.challengeExpiry true) s = .next { s with sec := { s.sec with chalDebug := none } } ∧
    exec (.challengeExpiry false) s = .next { s with sec := { s.sec with chalOwner := none } } ∧
    (∀ op c, (op, c) ∈ [(1, Instr.debugChallenge r), (2, .unlock r (token.bytes.take cut) (token.bytes.drop cut) token.sigOk),
        (3, .debugLock r)] →
      (s.pwr.phase < 2 → exec c s = .next s) ∧
      (2 ≤ s.pwr.phase → s.pwr.noFw = true → exec c s = .next (s.reply op 4 r.tag)) ∧
      (s.awake = true → r.ok = false → exec c s = .next (s.reply op 1 r.tag))) ∧
    (∀ (ser ch sc na : Nat) (au : Byte) (sg : List Byte), ser < 2 ^ 128 → ch < 2 ^ 256 → sc < 8 → na < 2 ^ 64 → au.toNat < 4 →
      sg.length < 2 ^ 32 → token.bytes = [0x46, 0x44, 0x44, 0x55] ++ leBytes 16 ser ++ leBytes 32 ch ++ leBytes 4 sc ++ leBytes 8 na ++
        [au, 0, 0, 0] ++ leBytes 4 sg.length ++ sg →
      tokFormat token = true ∧ tokSerial token = ser ∧ tokChallenge token = ch ∧ tokScope token = sc ∧ tokNotAfter token = na ∧
      tokAuth token = au.toNat) ∧
    (s.awake = true → r.ok = true → tokFormat token = false →
      exec (.unlock r (token.bytes.take cut) (token.bytes.drop cut) token.sigOk) s = .next (s.reply 2 1 r.tag)) ∧
    (s.awake = true → r.ok = true → tokFormat token = true → tokSerial token ≠ s.serialNo → ∃ (u : State) (c : Nat), 1 ≤ c ∧ c ≤ 10 ∧
      exec (.unlock r (token.bytes.take cut) (token.bytes.drop cut) token.sigOk) s = .next (u.reply 2 c r.tag) ∧ u = { s with free := u.free }) ∧
    (s.awake = true → r.ok = true → tokFormat token = true → tokSerial token = s.serialNo → s.sec.chalDebug ≠ some (tokChallenge token) →
      exec (.unlock r (token.bytes.take cut) (token.bytes.drop cut) token.sigOk) s = .next (s.reply 2 3 r.tag)) ∧
    (s.awake = true → r.ok = true → tokFormat token = true → tokSerial token = s.serialNo → s.sec.chalDebug = some (tokChallenge token) →
      ∀ p : State, p = { s with sec := { s.sec with chalDebug := none } } →
      ((s.slot (tokAuth token)).state ≠ 1 →
        exec (.unlock r (token.bytes.take cut) (token.bytes.drop cut) token.sigOk) s = .next (p.reply 2 6 r.tag)) ∧
      ((s.slot (tokAuth token)).state = 1 → token.sigOk = false →
        exec (.unlock r (token.bytes.take cut) (token.bytes.drop cut) token.sigOk) s = .next (p.reply 2 2 r.tag)) ∧
      ((s.slot (tokAuth token)).state = 1 → token.sigOk = true → s.bit R.RTC_STAT_VALID = false →
        exec (.unlock r (token.bytes.take cut) (token.bytes.drop cut) token.sigOk) s = .next (p.reply 2 4 r.tag)) ∧
      ((s.slot (tokAuth token)).state = 1 → token.sigOk = true → s.bit R.RTC_STAT_VALID = true →
        s.rtcSec + 86400 < tokNotAfter token →
          exec (.unlock r (token.bytes.take cut) (token.bytes.drop cut) token.sigOk) s = .next (p.reply 2 1 r.tag)) ∧
      ((s.slot (tokAuth token)).state = 1 → token.sigOk = true → s.bit R.RTC_STAT_VALID = true →
        tokNotAfter token ≤ s.rtcSec + 86400 → ∃ u : State,
          exec (.unlock r (token.bytes.take cut) (token.bytes.drop cut) token.sigOk) s =
            .next ((u.raise (u.srcPage .security) 0 0x67 (tokScope token)).reply 2 0 r.tag) ∧
          u.sec.unlocks = (tokScope token, tokNotAfter token) :: s.sec.unlocks ∧ u.sec.chalDebug = none ∧
          u.ledger.live.unlocks = min (2 ^ 32 - 1) (s.ledger.live.unlocks + 1) ∧
          u.ledger.log = (.unlock (tokScope token) (tokNotAfter token) s.calTime :: s.ledger.log).take logRoom ∧
          (s.sec.unlocks = [] → u.get R.SEC_STAT_DEBUG = tokScope token % 8))) ∧
    (s.awake = true → r.ok = true → ∃ u : State, exec (.debugLock r) s = .next (u.reply 3 0 r.tag) ∧ u.sec.unlocks = [] ∧
      u.get R.SEC_STAT_DEBUG = 0 ∧ ∀ a, a ≠ R.SEC_STAT_DEBUG.addr → u.word a = s.word a) ∧
    (∃ u : State, exec .unlockExpiry s = .next u ∧ u.sec.unlocks = s.sec.unlocks.filter (fun e => s.rtcSec < e.2) ∧
      ∀ a, a ≠ R.SEC_STAT_DEBUG.addr → u.word a = s.word a) ∧
    (s.pwr.phase < 2 → exec (.stage w svn readOk sigOk) s = .next s) ∧
    (s.awake = false → exec (.fwCommit w) s = .next s) ∧
    (s.awake = true → s.matchesOwner w (s.get (R.PAGE_OWNER secPage)) = false →
      exec (.stage w svn readOk sigOk) s = .next (s.refuseNotOwner .security w) ∧ exec (.fwCommit w) s = .next (s.refuseNotOwner .security w)) ∧
    (2 ≤ s.pwr.phase → s.matchesOwner w (s.get (R.PAGE_OWNER secPage)) = true →
      (s.bit R.SEC_FWUP_STAT_BUSY = true → exec (.stage w svn readOk sigOk) s = .next (s.put R.SEC_FWUP_CTRL_OP 1)) ∧
      (s.bit R.SEC_FWUP_STAT_BUSY = false → s.fwBusy = true →
        exec (.stage w svn readOk sigOk) s = .next (((s.put R.SEC_FWUP_CTRL_OP 1).put R.SEC_FWUP_STAT_STATUS 9).done .security)) ∧
      (s.bit R.SEC_FWUP_STAT_BUSY = false → s.fwBusy = false →
        (∃ u : State, exec (.stage w svn readOk sigOk) s = .next u ∧ u.bit R.SEC_FWUP_STAT_BUSY = true ∧
          u.sec.fwWork = some ⟨1, s.stageStatus svn readOk sigOk,
            { svn := svn, bytes := if s.stageStatus svn readOk sigOk = 0 then s.fwBytes else [] }⟩ ∧ u.sec.otpSvn = s.sec.otpSvn) ∧
        (∀ sp, sp = s.get R.SEC_FWUP_ADDR_HI_SPACE →
          ((sp ≠ 1 ∧ sp ≠ 2) ∨ 0x80000 < s.get R.SEC_FWUP_LEN ∨ 64 < svn → s.stageStatus svn readOk sigOk = 1) ∧
          (sp = 1 ∨ sp = 2 → s.get R.SEC_FWUP_LEN ≤ 0x80000 → svn ≤ 64 →
            (readOk = false ∨ s.fwReadable = false ∨ sigOk = false → s.stageStatus svn readOk sigOk = 2) ∧
            (readOk = true → s.fwReadable = true → sigOk = true → (svn < s.sec.otpSvn → s.stageStatus svn readOk sigOk = 10) ∧
              (s.sec.otpSvn ≤ svn → s.stageStatus svn readOk sigOk = 0)))))) ∧
    (s.awake = true → s.matchesOwner w (s.get (R.PAGE_OWNER secPage)) = true →
      (s.bit R.SEC_FWUP_STAT_BUSY = true → exec (.fwCommit w) s = .next (s.put R.SEC_FWUP_CTRL_OP 2)) ∧
      (s.bit R.SEC_FWUP_STAT_BUSY = false → s.fwBusy = true →
        exec (.fwCommit w) s = .next (((s.put R.SEC_FWUP_CTRL_OP 2).put R.SEC_FWUP_STAT_STATUS 9).done .security)) ∧
      (s.bit R.SEC_FWUP_STAT_BUSY = false → s.fwBusy = false →
        (s.sec.uncommitted = true → s.sec.running.svn ≤ s.sec.otpSvn → ∃ u : State,
          exec (.fwCommit w) s = .next ((u.put R.SEC_FWUP_STAT_STATUS 4).done .security) ∧ u.sec.uncommitted = false ∧
          u.sec.otpSvn = s.sec.otpSvn) ∧
        (s.sec.uncommitted = false → exec (.fwCommit w) s =
          .next (((s.put R.SEC_FWUP_CTRL_OP 2).put R.SEC_FWUP_STAT_STATUS 4).done .security)) ∧
        (s.sec.uncommitted = true → s.sec.otpSvn < s.sec.running.svn → ∃ u : State,
          exec (.fwCommit w) s = .next u ∧ u.bit R.SEC_FWUP_STAT_BUSY = true ∧ u.sec.fwWork = some ⟨2, 0, s.sec.running⟩))) ∧
    (s.sec.fwWork = none → exec .fwupDone s = .next s) ∧
    (s.sec.fwWork = some x → ∃ u : State, exec .fwupDone s = .next (u.done .security) ∧ u.bit R.SEC_FWUP_STAT_BUSY = false ∧
      u.get R.SEC_FWUP_STAT_STATUS = x.status % 256 ∧ u.sec.fwWork = none ∧
      (x.status ≠ 0 → u.sec = { s.sec with fwWork := none }) ∧
      (x.status = 0 → x.op = 1 → u.sec.activeB = !s.sec.activeB ∧ u.sec.uncommitted = true ∧ u.sec.otpSvn = s.sec.otpSvn ∧
        u.sec.bankA = (if s.sec.activeB then x.img else s.sec.bankA) ∧ u.sec.bankB = (if s.sec.activeB then s.sec.bankB else x.img) ∧
        u.sec.okA = (s.sec.activeB || s.sec.okA) ∧ u.sec.okB = (!s.sec.activeB || s.sec.okB)) ∧
      (x.status = 0 → x.op = 2 → u.sec.otpSvn = max s.sec.otpSvn (min 64 x.img.svn) ∧ u.sec.uncommitted = false ∧
        u.sec.activeB = s.sec.activeB ∧ u.ledger.live.fwUpdates = min (2 ^ 32 - 1) (s.ledger.live.fwUpdates + 1))) ∧
    (s.flt.pfail = true → m.val = 0 ∨ m.val = 1 ∨ m.val = 5 → exec (.glitchTrip m) s = .next s) ∧
    (s.flt.pfail = false ∨ m.val = 2 ∨ m.val = 3 ∨ m.val = 4 → ∃ u : State, u.sec.glitched = true ∧ u.get R.SEC_GLITCH_LAST_MON = m ∧
      u.ledger.live.glitches = min (2 ^ 32 - 1) (s.ledger.live.glitches + 1) ∧
      u.ledger.log = (.glitch m s.calTime :: s.ledger.log).take logRoom ∧ u.flt = s.flt ∧
      (s.bit R.RTC_STAT_ON_VBAT = true → exec (.glitchTrip m) s = .next u) ∧
      (s.bit R.RTC_STAT_ON_VBAT = false → s.getIdx R.SEC_GLITCH_CFG_FATAL m = true →
        exec (.glitchTrip m) s = .next (u.class5 (u.srcDev 0x19) 0x68 m)) ∧
      (s.bit R.RTC_STAT_ON_VBAT = false → s.getIdx R.SEC_GLITCH_CFG_FATAL m = false →
        exec (.glitchTrip m) s = .next (u.raise (u.srcDev 0x19) 0 0x68 m)))

/-- Power domains (R403 to R409, R429, R431): ON and OFF answer at once, are refused, or run until the domain gets there; a
fiddlehead start passes its steps in order; a PLL that does not lock leaves the domain off with a class 3 fault. Before the
firmware runs neither acts. Where the spec leaves a choice it states the model's own (assumption logs 44, 74, 91, 192). -/
def Obligations.PowerDomainCommands : Prop :=
  ∀ (s : State) (w : Writer) (d : Byte) (k : Fin 212),
    (s.awake = false → exec (.domainOn w d) s = .next s ∧ exec (.domainOff w d) s = .next s) ∧
    (s.awake = true → s.matchesOwner w (s.get (R.PAGE_OWNER pwrPage)) = false →
      exec (.domainOn w d) s = .next (s.refuseNotOwner .power w) ∧ exec (.domainOff w d) s = .next (s.refuseNotOwner .power w)) ∧
    (s.awake = true → s.matchesOwner w (s.get (R.PAGE_OWNER pwrPage)) = true → ∀ p q : State,
      p = (s.put R.PWR_CMD_DOMAIN d.toNat).put R.PWR_CMD_OP 1 → q = (s.put R.PWR_CMD_DOMAIN d.toNat).put R.PWR_CMD_OP 2 →
      (s.bit R.PWR_CMD_BUSY = true → exec (.domainOn w d) s = .next p ∧ exec (.domainOff w d) s = .next q) ∧
      (s.bit R.PWR_CMD_BUSY = false →
        (212 ≤ d.toNat → exec (.domainOn w d) s = .next (p.pwrResult 1) ∧ exec (.domainOff w d) s = .next (q.pwrResult 1)) ∧
        (d.toNat < 212 →
          (s.domOn d.toNat = true → exec (.domainOn w d) s = .next (p.pwrResult 0)) ∧
          (s.domOn d.toNat = false → exec (.domainOff w d) s = .next (q.pwrResult 0)) ∧
          (s.domOn d.toNat = false → p.onRefused d.toNat = true → exec (.domainOn w d) s = .next (p.pwrResult 1)) ∧
          (s.domOn d.toNat = false → p.onRefused d.toNat = false → ∃ u : State, exec (.domainOn w d) s = .next u ∧
            u.domOn d.toNat = true ∧ tblFind u.pwr.starts d.toNat = some 1 ∧ u.bit R.PWR_CMD_BUSY = true ∧
            u.pwr.cmd = some d.toNat ∧ u.domReady d.toNat = false) ∧
          (s.domOn d.toNat = true → q.offRefused d.toNat = true → exec (.domainOff w d) s = .next (q.pwrResult 1)) ∧
          (s.domOn d.toNat = true → q.offRefused d.toNat = false → ∃ u : State, exec (.domainOff w d) s =
              .next ((domUnits d.toNat).foldl (fun s u => s.startQuiesce u) u) ∧
            u.pwr.offs.contains d.toNat = true ∧ u.pwr.cmd = some d.toNat ∧ u.domOn d.toNat = true)))) ∧
    ((s.pwrResult 0).bit R.PWR_CMD_BUSY = false ∧ (s.pwrResult 0).get R.PWR_RESULT = 0 ∧ (s.pwrResult 1).get R.PWR_RESULT = 1 ∧
      (s.pwrResult 1).pwr.cmd = none) ∧
    (s.pwr.offs.contains k.val = false → exec (.domainPowerRemove k) s = .next s) ∧
    (∀ u ∈ domUnits k, s.sched.quiesce.contains (s.unitId u, 3) = false → exec (.domainPowerRemove k) s = .next s) ∧
    (s.pwr.offs.contains k.val = true → (∀ u ∈ domUnits k, s.sched.quiesce.contains (s.unitId u, 3) = true) →
      exec (.domainPowerRemove k) s =
        .next (((domUnits k).foldl (fun (t : State) u => t.endQuiesce (t.unitId u)) (s.removeDomain k)).pwrDone k 0)) ∧
    (∀ j, tblFind s.pwr.starts k.val = some j →
      (j = 1 → ∃ u : State, exec (.fiddleheadRampDone k) s = .next u ∧ tblFind u.pwr.starts k.val = some 2 ∧ u.regs = s.regs) ∧
      (j = 2 → ∃ u : State, exec (.fiddleheadPllLock k) s = .next u ∧ tblFind u.pwr.starts k.val = some 3 ∧ u.regs = s.regs) ∧
      (j = 3 → exec (.fiddleheadReady k) s = .next (((s.domainReady k).commitDeferred).pwrDone k 0)) ∧
      (j ≠ 1 → exec (.fiddleheadRampDone k) s = .next s) ∧ (j ≠ 2 → exec (.fiddleheadPllLock k) s = .next s) ∧
      (j ≠ 3 → exec (.fiddleheadReady k) s = .next s) ∧
      (j < 3 → ∃ u : State, exec (.pllLockTimeout k) s =
          .next ((domUnits k).foldl (fun s u => s.raise (s.srcUnit (s.unitId u)) 3 0x52 k) (u.pwrDone k 2)) ∧
        u.get R.PWR_RESULT = 2 ∧ u.get R.PWR_FAIL_CNT_COUNT = ((s.removeDomain k).get R.PWR_FAIL_CNT_COUNT + 1) % 2 ^ 32) ∧
      (3 ≤ j → exec (.pllLockTimeout k) s = .next s)) ∧
    (tblFind s.pwr.starts k.val = none → exec (.fiddleheadRampDone k) s = .next s ∧ exec (.fiddleheadPllLock k) s = .next s ∧
      exec (.fiddleheadReady k) s = .next s ∧ exec (.pllLockTimeout k) s = .next s)

/-- Power-up and power failure (R391, R402, R414, R418, R419, R435, R439): the phases of a start, the bank that runs, trained
memory, PFAIL with the rail that failed and what follows it, up to the reset that holds the device from the flush on. Where the
spec leaves a choice it states the model's own (assumption logs 43 to 46, 197). -/
def Obligations.PowerUpAndFailure : Prop :=
  ∀ (s : State) (aOk bOk v24 : Bool) (rail : Rail) (tr : BitVec 4) (torn : List TornSlot) (pair : Fin 2),
    (s.pwr.phase = 0 → ∃ u : State, exec .powerGood s = .next u.powerUp ∧ u.flt = { s.flt with pfail := false } ∧
      u.pwr = { s.pwr with flushed := false } ∧ u.regs = s.regs ∧ u.ledger = s.ledger) ∧
    (s.pwr.phase ≠ 0 → exec .powerGood s = .next s) ∧
    (s.pwr.phase ≠ 1 → exec (.firmwareVerified aOk bOk) s = .next s) ∧
    (s.pwr.phase = 1 → aOk = true ∧ s.sec.otpSvn ≤ s.sec.bankA.svn →
      s.sec.activeB = false ∨ bOk = false ∨ s.sec.bankB.svn < s.sec.otpSvn → ∃ u : State,
      exec (.firmwareVerified aOk bOk) s = .next ((u.trainPort 0).trainPort 1) ∧ u.sec.running = s.sec.bankA ∧
        u.get R.SEC_STAT_FW_BANK = 0 ∧ u.pwr.phase = 2 ∧ u.pwr.noFw = s.pwr.noFw) ∧
    (s.pwr.phase = 1 → bOk = true ∧ s.sec.otpSvn ≤ s.sec.bankB.svn →
      s.sec.activeB = true ∨ aOk = false ∨ s.sec.bankA.svn < s.sec.otpSvn → ∃ u : State,
      exec (.firmwareVerified aOk bOk) s = .next ((u.trainPort 0).trainPort 1) ∧ u.sec.running = s.sec.bankB ∧
        u.get R.SEC_STAT_FW_BANK = 1 ∧ u.pwr.phase = 2 ∧ u.pwr.noFw = s.pwr.noFw) ∧
    (s.pwr.phase = 1 → (aOk = false ∨ s.sec.bankA.svn < s.sec.otpSvn) → (bOk = false ∨ s.sec.bankB.svn < s.sec.otpSvn) → ∃ u : State,
      exec (.firmwareVerified aOk bOk) s = .next (u.setLoad 6) ∧ u.pwr.noFw = true ∧ u.pwr.phase = 2 ∧ u.get R.SEC_STAT_FW_BANK = 3) ∧
    (s.pwr.phase ≠ 2 ∨ s.pwr.noFw = true → exec (.memoryTrained tr torn) s = .next s) ∧
    (s.pwr.phase = 2 → s.pwr.noFw = false → ∃ u : State,
      exec (.memoryTrained tr torn) s = .next (tiles32.foldl (fun s t => (s.startDomain (domConv t)).startDomain (domField t))
          u.restoreCal) ∧
        u.pwr.phase = 3 ∧ u.sec.next = u.sec.rsv ∧ u.bit R.MEM_STAT_KEY_VALID = true ∧ u.bit R.CXL_MEM_ACTIVE = true ∧
        (tr = 15 → torn = [] → u.sec.rsv = s.sec.rsv ∧ u.ledger = s.ledger) ∧
        (∃ k, k < 2 ^ 512 ∧ u.mem.key = some k) ∧ (∀ c, c < 4 → tr.getLsbD c = false → u.getIdx R.MEM_STAT_CH_LOST c = true) ∧
        (tr = 15 → u.flt = s.flt ∧ u.sched = s.sched)) ∧
    (exec (.pfail .v24) s = exec .v24Low s) ∧
    (rail ≠ .v24 → s.pwr.phase = 0 → exec (.pfail rail) s = .next s) ∧
    (rail ≠ .v24 → s.pwr.phase ≠ 0 → exec (.pfail rail) s = .next ((s.powerFail false).railLost rail)) ∧
    (s.railLost .other = s ∧ ∀ t, t < 32 →
      (s.railLost .vdda).domReady (domConv t) = false ∧ (s.railLost .vddaHv).domReady (domConv t) = false ∧
      (s.railLost .vfp).domReady (domField t) = false ∧ (s.railLost .vfn).domReady (domField t) = false) ∧
    (s.v24Watched = false → exec .v24Low s = .next s.v24Fell) ∧
    (s.v24Watched = true → exec .v24Low s = .next (s.v24Fell.powerFail true)) ∧
    (s.v24Fell.bit R.PFAIL_STAT_V24_OK = false ∧ s.v24Fell.flt = s.flt ∧
      ∀ t n, t < 32 → n < 8 → (s.v24Fell.pin t n).doutOn = false) ∧
    (∃ u : State, u = (s.putB R.PFAIL_STAT_V24_OK true).eachTilePin (fun s t n => s.syncDout t n) ∧
      u.bit R.PFAIL_STAT_V24_OK = true ∧ u.flt = s.flt ∧ (s.pwr.phase = 0 → exec .v24Arm s = .next u) ∧
      (s.pwr.phase ≠ 0 → exec .v24Arm s = .next (u.putB R.PFAIL_STAT_V24_ARMED true))) ∧
    (s.flt.pfail = true ∨ s.pwr.phase = 0 → s.powerFail v24 = s) ∧
    (s.flt.pfail = false → s.pwr.phase ≠ 0 → (s.powerFail v24).pwr.starts = [] ∧ (s.powerFail v24).pwr.flushed = false ∧
      (s.rcfg.girth = false → (s.powerFail v24).flt = { s.flt with pfail := true })) ∧
    (s.flt.pfail = false ∨ s.pwr.flushed = true → exec .ledgerFlushDone s = .next s) ∧
    (s.flt.pfail = true → s.pwr.flushed = false → ∃ u : State, exec .ledgerFlushDone s = .next u ∧ u.pwr.flushed = true ∧
      u.flt.pfail = true ∧ u.pwr.phase = 0 ∧ u.ledger.clean = true ∧ u.ledger.live = u.ledger.kept ∧
      u.ledger.digest = s.load.digest ∧ u.bit R.PFAIL_STAT_LAST_CLEAN = true ∧ u.mem.dram = []) ∧
    (s.flt.pfail = false → exec .holdupEnd s = .next s) ∧
    (s.flt.pfail = true → ∃ u : State, exec .holdupEnd s = .next u ∧ u.pwr.phase = 0 ∧ u.ledger.clean = s.pwr.flushed ∧
      u.bit R.PFAIL_STAT_LAST_CLEAN = s.pwr.flushed ∧ u.bit R.RTC_STAT_ON_VBAT = true ∧ u.flt.pfail = false ∧ u.mem.dram = []) ∧
    (∃ u : State, exec (.lockstepMismatch pair) s = .next u ∧ u.flt.c5Reset = true ∧ u.bit R.FLT_STAT_LAST_C5 = true ∧ u.time = 0 ∧
      u.pwr.phase = 1 ∧ u.engs = [])

/-- Time and the lichen ledger (R412, R414 to R416, R421, R423, R425 to R430): reads that latch, the calendar, operating hours and
histograms, reminders, and ledger commands from GO to their end. Nothing acts on a write before the firmware runs, and a ledger
command after PFAIL answers 4. Where the spec leaves a choice it states the model's own (assumption logs 47, 48, 52, 193). -/
def Obligations.TimeAndLedgerCommands : Prop :=
  ∀ (s : State) (w : Writer) (sec : BitVec 40) (arg : Word) (low ok : Bool) (t k : Fin 32) (wear : Fin 256) (x : LdgWork),
    (∃ u : State, exec .timeLoRead s = .next u ∧ u.busRead = BitVec.ofNat 32 s.time ∧
      tblFind u.latch R.TIME_HI_NS.addr = some (BitVec.ofNat 32 (s.time / 2 ^ 32)) ∧ u.regs = s.regs ∧ u.time = s.time) ∧
    (∃ u : State, exec .rtcSecRead s = .next u ∧ u.busRead = s.word R.RTC_SEC_LO_SEC.addr ∧
      tblFind u.latch R.RTC_SEC_HI_SEC.addr = some (s.word R.RTC_SEC_HI_SEC.addr) ∧ u.regs = s.regs) ∧
    (s.awake = false → exec (.rtcSet w sec) s = .next s ∧ exec (.readCounters w arg) s = .next s) ∧
    (s.awake = true → s.matchesOwner w (s.get (R.PAGE_OWNER licPage)) = false → exec (.rtcSet w sec) s = .next (s.refuseNotOwner .lichen w) ∧
      exec (.readCounters w arg) s = .next (s.refuseNotOwner .lichen w)) ∧
    (s.awake = true → s.matchesOwner w (s.get (R.PAGE_OWNER licPage)) = true → ∃ u : State,
      exec (.rtcSet w sec) s = .next (((List.range 32).foldl (fun s k => if (s.reminder k).kind = 1 then s.fallDue k else s) u).done .lichen) ∧
      u.rtcSec = sec.toNat ∧ u.get R.RTC_SEC_HI_SUBSEC = 0 ∧ u.rtcNs = 0 ∧ u.bit R.RTC_STAT_VALID = true ∧
      u.ledger.live.rtcSets = min (2 ^ 32 - 1) (s.ledger.live.rtcSets + 1) ∧
      u.ledger.log = (.rtcSet s.rtcSec sec.toNat :: s.ledger.log).take logRoom) ∧
    (s.bit R.RTC_STAT_ON_VBAT = true → ∃ u : State, exec .vbatLoss s = .next u ∧ u.bit R.RTC_STAT_VALID = false ∧ u.pwr.dark = true ∧
      u.pwr.vbat = false ∧
      ∀ a, a ≠ R.RTC_STAT_VALID.addr → u.word a = s.word a) ∧
    (s.bit R.RTC_STAT_ON_VBAT = false → exec .vbatLoss s = .next { s with pwr := { s.pwr with vbat := false } }) ∧
    (s.pwr.dark = true → ∃ u : State, exec .vbatReturn s = .next u ∧ u.rtcSec = 0 ∧ u.rtcNs = 0 ∧ u.pwr.dark = false ∧ u.pwr.vbat = true) ∧
    (s.pwr.dark = false → exec .vbatReturn s = .next { s with pwr := { s.pwr with vbat := true } }) ∧
    (∃ u : State, exec (.vbatLow low) s = .next u ∧ u.bit R.RTC_STAT_VBAT_LOW = low ∧
      ∀ a, a ≠ R.RTC_STAT_VBAT_LOW.addr → u.word a = s.word a) ∧
    (s.pwr.phase = 0 → exec (.counterCommit wear) s = .next s) ∧
    (s.pwr.phase ≠ 0 → ∃ u : State, exec (.counterCommit wear) s = .next (u.wear wear) ∧
      u.ledger.live.hours = min (2 ^ 32 - 1) (s.ledger.live.hours + 1) ∧ u.ledger.kept = u.ledger.live ∧ u.regs = s.regs) ∧
    (s.domOn (domConv t) = true → s.bit (R.TILE_TEMP_VALID t) = true → ∃ u : State, exec (.histogramMinute t) s = .next u ∧
      u.ledger.live.hist = bumpAt s.ledger.live.hist (18 * t.val + histBin (sext 16 (s.get (R.TILE_TEMP t)))) (2 ^ 32) ∧
      u.ledger.kept = s.ledger.kept ∧ u.regs = s.regs) ∧
    (s.domOn (domConv t) = false ∨ s.bit (R.TILE_TEMP_VALID t) = false → exec (.histogramMinute t) s = .next s) ∧
    (s.reached (s.reminder k) = false ∨ s.getIdx R.LDG_REM_DUE k = true → exec (.reminderDue k) s = .next s) ∧
    (s.reached (s.reminder k) = true → s.getIdx R.LDG_REM_DUE k = false → ∃ u : State,
      exec (.reminderDue k) s = .next (u.raise (u.srcDev 0x1B) 0 0x65 k) ∧ u.getIdx R.LDG_REM_DUE k = true ∧ u.flt = s.flt ∧
        ∀ a, a ≠ R.LDG_REM_DUE.addr → u.word a = s.word a) ∧
    (∀ op c, (op, c) ∈ [(1, Instr.readCounters w arg), (2, .readHist w arg), (3, .readCal w arg), (4, .readRem w arg), (5, .setRem w arg),
        (6, .ackRem w arg), (7, .readLog w arg)] →
      (s.awake = false → exec c s = .next s) ∧
      (s.awake = true → s.matchesOwner w (s.get (R.PAGE_OWNER licPage)) = false → exec c s = .next (s.refuseNotOwner .lichen w)) ∧
      (s.awake = true → s.matchesOwner w (s.get (R.PAGE_OWNER licPage)) = true → ∀ (p : State) (data : Nat),
      p = (s.put R.LDG_CMD_OP op).put R.LDG_ARG arg.toNat →
      data = s.get (R.LDG_DATA 0) + s.get (R.LDG_DATA 1) * 2 ^ 32 + s.get (R.LDG_DATA 2) * 2 ^ 64 →
      (s.bit R.LDG_STAT_BUSY = true → exec c s = .next p) ∧
      (s.bit R.LDG_STAT_BUSY = false → s.flt.pfail = true → exec c s = .next ((p.put R.LDG_STAT_STATUS 4).done .lichen)) ∧
      (s.bit R.LDG_STAT_BUSY = false → s.flt.pfail = false → ldgBad op arg.toNat data ≠ 0 → exec c s = .next (p.ldgEnd (ldgBad op arg.toNat data) 0)) ∧
      (s.bit R.LDG_STAT_BUSY = false → s.flt.pfail = false → ldgBad op arg.toNat data = 0 → ∃ u : State, exec c s = .next u ∧ u.bit R.LDG_STAT_BUSY = true ∧
        u.ledger.work = some ⟨op, arg.toNat, data⟩ ∧ u.ledger.live = s.ledger.live ∧ u.ledger.reminders = s.ledger.reminders))) ∧
    (s.bit R.LDG_STAT_BUSY = false ∨ s.ledger.work = none → exec (.ledgerCommandDone ok) s = .next s) ∧
    (s.bit R.LDG_STAT_BUSY = true → s.ledger.work = some x →
      exec (.ledgerCommandDone false) s = .next (s.ldgEnd 3 0) ∧
      exec (.ledgerCommandDone true) s = .next (((s.storeRem x).ldgBuf (s.ldgResult x)).ldgEnd 0 (s.ldgResult x).length) ∧
      (x.op = 5 → (s.storeRem x).reminder x.arg = reminderOf x.data ∧ (s.storeRem x).regs = s.regs) ∧
      (x.op = 6 → x.arg < 32 → ((s.storeRem x).reminder x.arg).thresh = (reminderOf x.data).thresh ∧
        (s.storeRem x).getIdx R.LDG_REM_DUE x.arg = false) ∧
      (x.op = 4 → s.ldgResult x = (List.range 16).flatMap fun i => reminderBytes (s.reminder (x.arg + i))))

/-- Faults and SAFE_N (R436, R437, R440, R441, R443 to R445, R453): SAFE_N enters class 4 and its release does not leave it; POP
takes the oldest record; FLT_ACK ends the active sources with its RSEQ; EXIT answers the first condition that fails; FLT_RELEASE
frees a contained unit. Before the firmware runs no page command acts (model's inference, log 43). Where the spec leaves a choice
it states the model's own (assumption logs 7, 11). -/
def Obligations.FaultPageCommands : Prop :=
  ∀ (s : State) (w : Writer) (rseq : BitVec 16) (unit : BitVec 13) (r : FltRec) (l : List FltRec),
    (s.flt.safeN = true → exec .safeNAssert s = .next s) ∧
    (s.flt.safeN = false → ∃ u : State, exec .safeNAssert s = .next (u.raise (u.srcDev 0x16) 4 0x60 0) ∧ u.bit R.FLT_STAT_SAFE_N = true ∧
      u.flt = { s.flt with safeN := true }) ∧
    (∃ u : State, exec .safeNDeassert s = .next u ∧ u.bit R.FLT_STAT_SAFE_N = false ∧ u.flt = { s.flt with safeN := false } ∧
      u.bit R.FLT_STAT_C4 = s.bit R.FLT_STAT_C4 ∧ ∀ a, a ≠ R.FLT_STAT_SAFE_N.addr → u.word a = s.word a) ∧
    (s.awake = false → exec (.pop w) s = .next s ∧ exec (.exit w) s = .next s ∧ exec (.fltAck w rseq) s = .next s ∧
      exec (.fltRelease w unit) s = .next s) ∧
    (s.awake = true → s.matchesOwner w (s.get (R.PAGE_OWNER fltPage)) = false →
      exec (.pop w) s = .next (s.refuseNotOwner .fault w) ∧ exec (.exit w) s = .next (s.refuseNotOwner .fault w) ∧
      exec (.fltAck w rseq) s = .next (s.refuseNotOwner .fault w) ∧ exec (.fltRelease w unit) s = .next (s.refuseNotOwner .fault w)) ∧
    (s.awake = true → s.matchesOwner w (s.get (R.PAGE_OWNER fltPage)) = true →
      (s.flt.fifo = [] → exec (.pop w) s = .next s) ∧
      (s.flt.fifo = r :: l → r.cls ≠ 2 ∨ s.bit R.FLT_CFG_POP_ACK = false → exec (.pop w) s = .next { s with flt := { s.flt with fifo := l } }) ∧
      (s.flt.fifo = r :: l → r.cls = 2 → s.bit R.FLT_CFG_POP_ACK = true → exec (.pop w) s =
        .next (({ s with flt := { s.flt with fifo := l } } : State).endActive fun a => a.unit = r.unit && a.sub = r.sub && a.rseq = r.rseq)) ∧
      exec (.fltAck w rseq) s = .next (s.endActive fun a => a.rseq = rseq.toNat) ∧
      (s.bit R.FLT_STAT_C4 = false → exec (.exit w) s = .next (s.done .fault)) ∧
      (s.bit R.FLT_STAT_C4 = true → s.exitCode ≠ 0 → ∃ u : State, exec (.exit w) s = .next (u.done .fault) ∧
        u.get R.FLT_EXIT_STAT_RESULT = s.exitCode ∧ u.bit R.FLT_STAT_C4 = true ∧ u.flt = s.flt ∧ u.pins = s.pins) ∧
      (s.bit R.FLT_STAT_C4 = true → s.exitCode = 0 → ∃ u : State, exec (.exit w) s =
          .next ((u.eachTilePin fun s t n => s.syncDout t n).done .fault) ∧
        u.get R.FLT_EXIT_STAT_RESULT = 0 ∧ u.bit R.FLT_STAT_C4 = false ∧ u.flt = { s.flt with c4Causes := [] }) ∧
      (s.isContained unit.toNat = false ∨ (unit.toNat < 0x20 ∧ s.bit (R.TILE_TEMP_SHUTDOWN unit.toNat) = true) ∨
          (∃ e ∈ s.flt.active, e.2.unit = s.unitId unit.toNat) →
        ∃ u : State, exec (.fltRelease w unit) s = .next (u.done .fault) ∧ u.bit R.FLT_REL_STAT_REFUSED = true ∧
          u.contained = s.contained ∧ ∀ a, a ≠ R.FLT_REL_STAT_REFUSED.addr → u.word a = s.word a) ∧
      (s.isContained unit.toNat = true → (∀ e ∈ s.flt.active, e.2.unit ≠ s.unitId unit.toNat) →
          (unit.toNat < 0x20 → s.bit (R.TILE_TEMP_SHUTDOWN unit.toNat) = false) →
        ∃ u : State, exec (.fltRelease w unit) s = .next ((u.releaseUnit unit.toNat).done .fault) ∧ u.bit R.FLT_REL_STAT_REFUSED = false ∧
          u.contained = s.contained ∧ ∀ a, a ≠ R.FLT_REL_STAT_REFUSED.addr → u.word a = s.word a)) ∧
    (∀ k v, v = s.releaseUnit k →
      (k < 0x20 → v = s.restartTile k) ∧
      (0x100 ≤ k → k < 0x180 → v.bit (R.ENG_STAT_CONTAINED (k - 0x100)) = false ∧ v.get (R.ENG_STAT_STATE (k - 0x100)) = 3) ∧
      (0x200 ≤ k → k < 0x210 → v.contained = s.contained.erase k ∧
        ∀ j, j < 16 → v.bit (R.DMA_CH_STAT_ACTIVE (k - 0x200) j) = false ∧ v.get (R.DMA_CH_CAP_WP (k - 0x200) j) = 0) ∧
      (0x300 ≤ k → (∀ x, s.stagedRegion (k - 0x300) = some x → v = s.openRegion x) ∧
        (s.stagedRegion (k - 0x300) = none → v.get (R.FAB_REG_STAT_STATE (k - 0x300)) = 0))) ∧
    (s.flt.safeN = true → s.exitCode = 1) ∧
    (s.flt.safeN = false → (∃ c ∈ s.flt.c4Causes, c = 0x50 ∨ c = 0x33 ∨ c = 0x44) → s.exitCode = 2) ∧
    (s.flt.safeN = false → s.flt.c4Causes = [] → (s.exitCode = 3 ↔ 64 ≤ s.flt.fifo.length)) ∧
    (∃ u : State, u = s.endActive (fun a => a.rseq = rseq.toNat) ∧ u.flt.fifo = s.flt.fifo ∧ u.flt.rseq = s.flt.rseq ∧
      ∀ e ∈ u.flt.active, e.2.rseq ≠ rseq.toNat)

/-- Software interrupts and event counters (R446, R450 to R452, R455): what a write, a trigger, a snapshot, a wrap and a read do.
The stop wins over a start of the same edge, and a software trigger write raises all its triggers at one edge. Before the firmware
runs no page write acts (model's inference, log 43); that a trigger is shown on TRIG_OUT for an instant is the model's choice (log
195). Where the spec leaves a choice it states the model's own (assumption logs 42, 49, 54, 78, 87, 195). -/
def Obligations.InterruptAndCounterCommands : Prop :=
  ∀ (s : State) (w : Writer) (v : Byte) (n : Fin 256) (groups : BitVec 16) (hi : Bool) (x : Word),
    (s.awake = false → exec (.irqSwiWrite w v) s = .next s ∧ exec (.evcSnap w groups) s = .next s ∧ exec (.evcSwtrig w groups) s = .next s ∧
      exec (.evcValWrite w n hi x) s = .next s) ∧
    (s.awake = true → s.matchesOwner w (s.get (R.PAGE_OWNER irqPage)) = false → exec (.irqSwiWrite w v) s = .next (s.refuseNotOwner .irq w)) ∧
    (s.awake = true → s.matchesOwner w (s.get (R.PAGE_OWNER irqPage)) = true → exec (.irqSwiWrite w v) s =
      .next (s.withSrcs [312, 313, 314, 315, 316, 317, 318, 319] fun s => s.put R.IRQ_SWI v.toNat)) ∧
    (s.awake = true → s.matchesOwner w (s.get (R.PAGE_OWNER irqPage)) = true → v = 0 → ∃ u : State, exec (.irqSwiWrite w v) s = .next u ∧
      u.get R.IRQ_SWI = 0 ∧ u.msix = s.msix ∧ ∀ a, a ≠ R.IRQ_SWI.addr → u.word a = s.word a) ∧
    exec (.eventTrigger n) s = .next (s.trigRise n) ∧
    (s.awake = true → s.matchesOwner w (s.get (R.PAGE_OWNER evcPage)) = true →
      (∃ u : State, exec (.evcSnap w groups) s = .next u ∧ u.get R.EVC_SNAP_TIME_LO_NS = s.time % 2 ^ 32 ∧
        u.get R.EVC_SNAP_TIME_HI_NS = s.time / 2 ^ 32 % 2 ^ 32 ∧
        (groups.toNat.testBit (s.get (R.EVC_CFG_GROUP n)) = true →
          u.get (R.EVC_SNAPVAL_LO n) = s.get (R.EVC_VAL_LO n) ∧ u.get (R.EVC_SNAPVAL_HI n) = s.get (R.EVC_VAL_HI n)) ∧
        (groups.toNat.testBit (s.get (R.EVC_CFG_GROUP n)) = false →
          u.get (R.EVC_SNAPVAL_LO n) = s.get (R.EVC_SNAPVAL_LO n)) ∧
        u.get (R.EVC_VAL_LO n) = s.get (R.EVC_VAL_LO n)) ∧
      exec (.evcSwtrig w groups) s =
        .next (s.trigSources (((List.range 16).filter fun k => groups.getLsbD k).map (1 + ·)))) ∧
    (s.awake = true → s.matchesOwner w (s.get (R.PAGE_OWNER evcPage)) = false → exec (.evcSnap w groups) s = .next (s.refuseNotOwner .evCtl w) ∧
      exec (.evcSwtrig w groups) s = .next (s.refuseNotOwner .evCtl w)) ∧
    (s.bit (R.EVC_TRG_RUN n) = false → exec (.evcWrap n) s = .next s) ∧
    (s.bit (R.EVC_TRG_RUN n) = true → ∃ u : State, exec (.evcWrap n) s = .next u ∧ u.bit (R.EVC_TRG_OVF n) = true ∧
      u.bit (R.EVC_TRG_RUN n) = true ∧ (s.evcHit n (pageType .rings) 2 (pageInstance .rings) = false → u.evcVal n = 0)) ∧
    (∃ u : State, exec (.evcValRead n) s = .next u ∧ u.busRead = s.word (R.EVC_VAL_LO n).addr ∧
      tblFind u.latch (R.EVC_VAL_HI n).addr = some (s.word (R.EVC_VAL_HI n).addr) ∧ u.regs = s.regs) ∧
    (s.awake = true → s.matchesOwner w (s.get (R.PAGE_OWNER evlPage)) = true → s.bit (R.EVC_CFG_EN n) = true → exec (.evcValWrite w n hi x) s = .next s) ∧
    (s.awake = true → s.matchesOwner w (s.get (R.PAGE_OWNER evlPage)) = true → s.bit (R.EVC_CFG_EN n) = false →
      ∃ u : State, exec (.evcValWrite w n hi x) s = .next u ∧ u.word (if hi then R.EVC_VAL_HI n else R.EVC_VAL_LO n).addr = x ∧
        ∀ a, a ≠ (if hi then R.EVC_VAL_HI n else R.EVC_VAL_LO n).addr → u.word a = s.word a) ∧
    (s.awake = true → s.matchesOwner w (s.get (R.PAGE_OWNER evlPage)) = false → exec (.evcValWrite w n hi x) s = .next (s.refuseNotOwner .evLive w)) ∧
    (∀ c, s.evcUsed = [c] → s.bit R.EVC_SNAP_TRIG_EN = false → (∀ t, t < 32 → s.get (R.TILE_ADC_CTRL_TRIG_SEL t) ≠ n) →
      (s.bit (R.EVC_CFG_STOP_EN c) = true → s.get (R.EVC_TRG_STOP c) = n → s.bit (R.EVC_TRG_RUN c) = true →
        ∃ u : State, exec (.eventTrigger n) s = .next u ∧ u.bit (R.EVC_TRG_STOPPED c) = true ∧
          u.bit (R.EVC_TRG_RUN c) = false) ∧
      (s.bit (R.EVC_CFG_START_EN c) = true → s.bit (R.EVC_CFG_EN c) = true → s.get (R.EVC_TRG_START c) = n →
        s.bit (R.EVC_CFG_STOP_EN c) = false → ∃ u : State, exec (.eventTrigger n) s = .next u ∧ u.bit (R.EVC_TRG_RUN c) = true ∧
          u.fab = { s.fab with pulse := tblIns s.fab.pulse n s.time } ∧ ∀ a, a ≠ (R.EVC_TRG_RUN c).addr → u.word a = s.word a))
end

