-- ==== Sys2Proof/Laws/Dispatch.lean ====
section
/-! SUPPORT. What `exec` is for each command: one equation per constructor, so that no proof unfolds the whole dispatch. -/

namespace Sys2Proof.Machine

theorem exec_registerWrite w a v (s : State) : exec (.registerWrite w a v) s = execRegisterWrite w a v s := rfl
theorem exec_bar0BadAccess write off (s : State) : exec (.bar0BadAccess write off) s = execBar0BadAccess write off s := rfl
theorem exec_bar2Access off op (s : State) : exec (.bar2Access off op) s = execBar2Access off op s := rfl
theorem exec_pageCommit w pg (s : State) : exec (.pageCommit w pg) s = execPageCommit w pg s := rfl
theorem exec_commitEffective pg (s : State) : exec (.commitEffective pg) s = execCommitEffective pg s := rfl
theorem exec_pageDiscard w pg (s : State) : exec (.pageDiscard w pg) s = execPageDiscard w pg s := rfl
theorem exec_pageLock w pg (s : State) : exec (.pageLock w pg) s = execPageLock w pg s := rfl
theorem exec_pageOwnerWrite w pg code (s : State) : exec (.pageOwnerWrite w pg code) s = execPageOwnerWrite w pg code s := rfl
theorem exec_irqPendClear w pg mask (s : State) : exec (.irqPendClear w pg mask) s = execIrqPendClear w pg mask s := rfl
theorem exec_pinsOutWrite w t v (s : State) : exec (.pinsOutWrite w t v) s = execPinsOutWrite w t v s := rfl
theorem exec_pinsOutSet w t v (s : State) : exec (.pinsOutSet w t v) s = execPinsOutSet w t v s := rfl
theorem exec_pinsOutClr w t v (s : State) : exec (.pinsOutClr w t v) s = execPinsOutClr w t v s := rfl
theorem exec_pinsOeWrite w t v (s : State) : exec (.pinsOeWrite w t v) s = execPinsOeWrite w t v s := rfl
theorem exec_pinFltClear w t n mask (s : State) : exec (.pinFltClear w t n mask) s = execPinFltClear w t n mask s := rfl
theorem exec_pinEstTimeRead t n (s : State) : exec (.pinEstTimeRead t n) s = execPinEstTimeRead t n s := rfl
theorem exec_functionAttach t n (s : State) : exec (.functionAttach t n) s = execFunctionAttach t n s := rfl
theorem exec_pinStateChange c (s : State) : exec (.pinStateChange c) s = execPinStateChange c s := rfl
theorem exec_dinDebounce t n (s : State) : exec (.dinDebounce t n) s = execDinDebounce t n s := rfl
theorem exec_dout24Trip t n (s : State) : exec (.dout24Trip t n) s = execDout24Trip t n s := rfl
theorem exec_overloadStart t n (s : State) : exec (.overloadStart t n) s = execOverloadStart t n s := rfl
theorem exec_overloadEnd t n (s : State) : exec (.overloadEnd t n) s = execOverloadEnd t n s := rfl
theorem exec_pilotEstimate t n est (s : State) : exec (.pilotEstimate t n est) s = execPilotEstimate t n est s := rfl
theorem exec_shortTExpiry t n c (s : State) : exec (.shortTExpiry t n c) s = execShortTExpiry t n c s := rfl
theorem exec_reversedPolarity t n (s : State) : exec (.reversedPolarity t n) s = execReversedPolarity t n s := rfl
theorem exec_v24Reversed (s : State) : exec (.v24Reversed) s = execV24Reversed s := rfl
theorem exec_v24ReverseClear (s : State) : exec (.v24ReverseClear) s = execV24ReverseClear s := rfl
theorem exec_criterionClear t n c (s : State) : exec (.criterionClear t n c) s = execCriterionClear t n c s := rfl
theorem exec_senseTrip t n (s : State) : exec (.senseTrip t n) s = execSenseTrip t n s := rfl
theorem exec_senseTripClear w t n (s : State) : exec (.senseTripClear w t n) s = execSenseTripClear w t n s := rfl
theorem exec_snReclose t n (s : State) : exec (.snReclose t n) s = execSnReclose t n s := rfl
theorem exec_laneSwitchClose t (s : State) : exec (.laneSwitchClose t) s = execLaneSwitchClose t s := rfl
theorem exec_laneProtection t lane (s : State) : exec (.laneProtection t lane) s = execLaneProtection t lane s := rfl
theorem exec_laneProtClear w t c (s : State) : exec (.laneProtClear w t c) s = execLaneProtClear w t c s := rfl
theorem exec_laneReconnect t c (s : State) : exec (.laneReconnect t c) s = execLaneReconnect t c s := rfl
theorem exec_refCheck t dev zero (s : State) : exec (.refCheck t dev zero) s = execRefCheck t dev zero s := rfl
theorem exec_tempReading t temp (s : State) : exec (.tempReading t temp) s = execTempReading t temp s := rfl
theorem exec_tileRestart w t (s : State) : exec (.tileRestart w t) s = execTileRestart w t s := rfl
theorem exec_tileTempMaxRead t (s : State) : exec (.tileTempMaxRead t) s = execTileTempMaxRead t s := rfl
theorem exec_seqPass t convs (s : State) : exec (.seqPass t convs) s = execSeqPass t convs s := rfl
theorem exec_passBoundaryApply t (s : State) : exec (.passBoundaryApply t) s = execPassBoundaryApply t s := rfl
theorem exec_adcTrigger t (s : State) : exec (.adcTrigger t) s = execAdcTrigger t s := rfl
theorem exec_adcTrigStart w t (s : State) : exec (.adcTrigStart w t) s = execAdcTrigStart w t s := rfl
theorem exec_frameEmit t out (s : State) : exec (.frameEmit t out) s = execFrameEmit t out s := rfl
theorem exec_decimatorOutput t d (s : State) : exec (.decimatorOutput t d) s = execDecimatorOutput t d s := rfl
theorem exec_intlvEntry t (s : State) : exec (.intlvEntry t) s = execIntlvEntry t s := rfl
theorem exec_intlvExit t (s : State) : exec (.intlvExit t) s = execIntlvExit t s := rfl
theorem exec_outCodeWrite w t n code (s : State) : exec (.outCodeWrite w t n code) s = execOutCodeWrite w t n code s := rfl
theorem exec_setpointExecute t (s : State) : exec (.setpointExecute t) s = execSetpointExecute t s := rfl
theorem exec_pinsOutExecute t (s : State) : exec (.pinsOutExecute t) s = execPinsOutExecute t s := rfl
theorem exec_slewStep t n (s : State) : exec (.slewStep t n) s = execSlewStep t n s := rfl
theorem exec_deglitchHoldEnd t n (s : State) : exec (.deglitchHoldEnd t n) s = execDeglitchHoldEnd t n s := rfl
theorem exec_outWdogExpiry t n (s : State) : exec (.outWdogExpiry t n) s = execOutWdogExpiry t n s := rfl
theorem exec_faultHoldClear w t n (s : State) : exec (.faultHoldClear w t n) s = execFaultHoldClear w t n s := rfl
theorem exec_rangeChangeDisconnect t n (s : State) : exec (.rangeChangeDisconnect t n) s = execRangeChangeDisconnect t n s := rfl
theorem exec_rangeChangeReconnect t n (s : State) : exec (.rangeChangeReconnect t n) s = execRangeChangeReconnect t n s := rfl
theorem exec_sgResync t k (s : State) : exec (.sgResync t k) s = execSgResync t k s := rfl
theorem exec_sgAmpPhaseApply t k (s : State) : exec (.sgAmpPhaseApply t k) s = execSgAmpPhaseApply t k s := rfl
theorem exec_selfCalGroup g (s : State) : exec (.selfCalGroup g) s = execSelfCalGroup g s := rfl
theorem exec_selfCalDone t r (s : State) : exec (.selfCalDone t r) s = execSelfCalDone t r s := rfl
theorem exec_calReqTileIn w t (s : State) : exec (.calReqTileIn w t) s = execCalReqTileIn w t s := rfl
theorem exec_calReqConvA w t (s : State) : exec (.calReqConvA w t) s = execCalReqConvA w t s := rfl
theorem exec_calReqConvB w t (s : State) : exec (.calReqConvB w t) s = execCalReqConvB w t s := rfl
theorem exec_calReqFrontEnd w t ch (s : State) : exec (.calReqFrontEnd w t ch) s = execCalReqFrontEnd w t ch s := rfl
theorem exec_calReqSpare w t (s : State) : exec (.calReqSpare w t) s = execCalReqSpare w t s := rfl
theorem exec_capture0 w t (s : State) : exec (.capture0 w t) s = execCapture0 w t s := rfl
theorem exec_capture1 w t (s : State) : exec (.capture1 w t) s = execCapture1 w t s := rfl
theorem exec_cancel w t (s : State) : exec (.cancel w t) s = execCancel w t s := rfl
theorem exec_clearLost w t (s : State) : exec (.clearLost w t) s = execClearLost w t s := rfl
theorem exec_captureDone t (s : State) : exec (.captureDone t) s = execCaptureDone t s := rfl
theorem exec_calLedgerCommitDone t ok (s : State) : exec (.calLedgerCommitDone t ok) s = execCalLedgerCommitDone t ok s := rfl
theorem exec_calWait1Timeout t (s : State) : exec (.calWait1Timeout t) s = execCalWait1Timeout t s := rfl
theorem exec_captureTmo t (s : State) : exec (.captureTmo t) s = execCaptureTmo t s := rfl
theorem exec_calRampStep t ch (s : State) : exec (.calRampStep t ch) s = execCalRampStep t ch s := rfl
theorem exec_calRotNow w t (s : State) : exec (.calRotNow w t) s = execCalRotNow w t s := rfl
theorem exec_rotationPeriod t (s : State) : exec (.rotationPeriod t) s = execRotationPeriod t s := rfl
theorem exec_rotationFollow t spareOk (s : State) : exec (.rotationFollow t spareOk) s = execRotationFollow t spareOk s := rfl
theorem exec_rotationHandover t (s : State) : exec (.rotationHandover t) s = execRotationHandover t s := rfl
theorem exec_rotationTakeover t (s : State) : exec (.rotationTakeover t) s = execRotationTakeover t s := rfl
theorem exec_invocationStart e (s : State) : exec (.invocationStart e) s = execInvocationStart e s := rfl
theorem exec_preemption e faulty (s : State) : exec (.preemption e faulty) s = execPreemption e faulty s := rfl
theorem exec_invocationResume e faulty (s : State) : exec (.invocationResume e faulty) s = execInvocationResume e faulty s := rfl
theorem exec_inbufApply e (s : State) : exec (.inbufApply e) s = execInbufApply e s := rfl
theorem exec_selfTestDone e pass (s : State) : exec (.selfTestDone e pass) s = execSelfTestDone e pass s := rfl
theorem exec_engHalt w e (s : State) : exec (.engHalt w e) s = execEngHalt w e s := rfl
theorem exec_engResume w e (s : State) : exec (.engResume w e) s = execEngResume w e s := rfl
theorem exec_engTest w e (s : State) : exec (.engTest w e) s = execEngTest w e s := rfl
theorem exec_engPreMaxRead e (s : State) : exec (.engPreMaxRead e) s = execEngPreMaxRead e s := rfl
theorem exec_nop iss (s : State) : exec (.nop iss) s = execNop iss s := rfl
theorem exec_add iss d a b w (s : State) : exec (.add iss d a b w) s = execAdd iss d a b w s := rfl
theorem exec_sub iss d a b w (s : State) : exec (.sub iss d a b w) s = execSub iss d a b w s := rfl
theorem exec_and iss d a b w (s : State) : exec (.and iss d a b w) s = execAnd iss d a b w s := rfl
theorem exec_or iss d a b w (s : State) : exec (.or iss d a b w) s = execOr iss d a b w s := rfl
theorem exec_xor iss d a b w (s : State) : exec (.xor iss d a b w) s = execXor iss d a b w s := rfl
theorem exec_andn iss d a b w (s : State) : exec (.andn iss d a b w) s = execAndn iss d a b w s := rfl
theorem exec_min iss d a b w (s : State) : exec (.min iss d a b w) s = execMin iss d a b w s := rfl
theorem exec_max iss d a b w (s : State) : exec (.max iss d a b w) s = execMax iss d a b w s := rfl
theorem exec_abs iss d a b w (s : State) : exec (.abs iss d a b w) s = execAbs iss d a b w s := rfl
theorem exec_neg iss d a b w (s : State) : exec (.neg iss d a b w) s = execNeg iss d a b w s := rfl
theorem exec_cmp iss d a b w (s : State) : exec (.cmp iss d a b w) s = execCmp iss d a b w s := rfl
theorem exec_addH iss d a b w (s : State) : exec (.addH iss d a b w) s = execAddH iss d a b w s := rfl
theorem exec_subH iss d a b w (s : State) : exec (.subH iss d a b w) s = execSubH iss d a b w s := rfl
theorem exec_addsH iss d a b w (s : State) : exec (.addsH iss d a b w) s = execAddsH iss d a b w s := rfl
theorem exec_subsH iss d a b w (s : State) : exec (.subsH iss d a b w) s = execSubsH iss d a b w s := rfl
theorem exec_asr iss d a b w (s : State) : exec (.asr iss d a b w) s = execAsr iss d a b w s := rfl
theorem exec_lsr iss d a b w (s : State) : exec (.lsr iss d a b w) s = execLsr iss d a b w s := rfl
theorem exec_lsl iss d a b w (s : State) : exec (.lsl iss d a b w) s = execLsl iss d a b w s := rfl
theorem exec_asrr iss d a b w (s : State) : exec (.asrr iss d a b w) s = execAsrr iss d a b w s := rfl
theorem exec_asri iss d a b w (s : State) : exec (.asri iss d a b w) s = execAsri iss d a b w s := rfl
theorem exec_lsri iss d a b w (s : State) : exec (.lsri iss d a b w) s = execLsri iss d a b w s := rfl
theorem exec_lsli iss d a b w (s : State) : exec (.lsli iss d a b w) s = execLsli iss d a b w s := rfl
theorem exec_asrri iss d a b w (s : State) : exec (.asrri iss d a b w) s = execAsrri iss d a b w s := rfl
theorem exec_lsc iss d a b w (s : State) : exec (.lsc iss d a b w) s = execLsc iss d a b w s := rfl
theorem exec_addi iss d a imm (s : State) : exec (.addi iss d a imm) s = execAddi iss d a imm s := rfl
theorem exec_andi iss d a imm (s : State) : exec (.andi iss d a imm) s = execAndi iss d a imm s := rfl
theorem exec_ori iss d a imm (s : State) : exec (.ori iss d a imm) s = execOri iss d a imm s := rfl
theorem exec_xori iss d a imm (s : State) : exec (.xori iss d a imm) s = execXori iss d a imm s := rfl
theorem exec_cmpi iss d a imm (s : State) : exec (.cmpi iss d a imm) s = execCmpi iss d a imm s := rfl
theorem exec_mac iss n a b form sub z (s : State) : exec (.mac iss n a b form sub z) s = execMac iss n a b form sub z s := rfl
theorem exec_mac2 iss np ap bp mode sub z sgn (s : State) : exec (.mac2 iss np ap bp mode sub z sgn) s = execMac2 iss np ap bp mode sub z sgn s := rfl
theorem exec_cmac iss np a b conj sub z (s : State) : exec (.cmac iss np a b conj sub z) s = execCmac iss np a b conj sub z s := rfl
theorem exec_clr iss mask (s : State) : exec (.clr iss mask) s = execClr iss mask s := rfl
theorem exec_wb iss d n k c (s : State) : exec (.wb iss d n k c) s = execWb iss d n k c s := rfl
theorem exec_wbp iss d n k c (s : State) : exec (.wbp iss d n k c) s = execWbp iss d n k c s := rfl
theorem exec_binit iss (s : State) : exec (.binit iss) s = execBinit iss s := rfl
theorem exec_bbegin iss (s : State) : exec (.bbegin iss) s = execBbegin iss s := rfl
theorem exec_bend iss (s : State) : exec (.bend iss) s = execBend iss s := rfl
theorem exec_badj iss imm (s : State) : exec (.badj iss imm) s = execBadj iss imm s := rfl
theorem exec_divs iss d a b (s : State) : exec (.divs iss d a b) s = execDivs iss d a b s := rfl
theorem exec_divu iss d a b (s : State) : exec (.divu iss d a b) s = execDivu iss d a b s := rfl
theorem exec_movi iss r imm (s : State) : exec (.movi iss r imm) s = execMovi iss r imm s := rfl
theorem exec_moviu iss r imm (s : State) : exec (.moviu iss r imm) s = execMoviu iss r imm s := rfl
theorem exec_movix iss r imm (s : State) : exec (.movix iss r imm) s = execMovix iss r imm s := rfl
theorem exec_limm iss n stm imm (s : State) : exec (.limm iss n stm imm) s = execLimm iss n stm imm s := rfl
theorem exec_mov iss dst src part (s : State) : exec (.mov iss dst src part) s = execMov iss dst src part s := rfl
theorem exec_ld iss g m (s : State) : exec (.ld iss g m) s = execLd iss g m s := rfl
theorem exec_ldh iss g m (s : State) : exec (.ldh iss g m) s = execLdh iss g m s := rfl
theorem exec_ldhu iss g m (s : State) : exec (.ldhu iss g m) s = execLdhu iss g m s := rfl
theorem exec_ldb iss g m (s : State) : exec (.ldb iss g m) s = execLdb iss g m s := rfl
theorem exec_ldbu iss g m (s : State) : exec (.ldbu iss g m) s = execLdbu iss g m s := rfl
theorem exec_ldd iss g m (s : State) : exec (.ldd iss g m) s = execLdd iss g m s := rfl
theorem exec_st iss g m (s : State) : exec (.st iss g m) s = execSt iss g m s := rfl
theorem exec_sth iss g m (s : State) : exec (.sth iss g m) s = execSth iss g m s := rfl
theorem exec_stb iss g m (s : State) : exec (.stb iss g m) s = execStb iss g m s := rfl
theorem exec_std iss g m (s : State) : exec (.std iss g m) s = execStd iss g m s := rfl
theorem exec_bld iss g m (s : State) : exec (.bld iss g m) s = execBld iss g m s := rfl
theorem exec_bst iss g m (s : State) : exec (.bst iss g m) s = execBst iss g m s := rfl
theorem exec_bCond iss cond tgt (s : State) : exec (.bCond iss cond tgt) s = execBCond iss cond tgt s := rfl
theorem exec_jal iss d tgt (s : State) : exec (.jal iss d tgt) s = execJal iss d tgt s := rfl
theorem exec_jr iss g (s : State) : exec (.jr iss g) s = execJr iss g s := rfl
theorem exec_repeatB iss stm k cnt (s : State) : exec (.repeatB iss stm k cnt) s = execRepeatB iss stm k cnt s := rfl
theorem exec_send iss gs pt pp gl e (s : State) : exec (.send iss gs pt pp gl e) s = execSend iss gs pt pp gl e s := rfl
theorem exec_endInv iss (s : State) : exec (.endInv iss) s = execEndInv iss s := rfl
theorem exec_fence iss (s : State) : exec (.fence iss) s = execFence iss s := rfl
theorem exec_trap iss imm (s : State) : exec (.trap iss imm) s = execTrap iss imm s := rfl
theorem exec_tapm iss n pc pd v (s : State) : exec (.tapm iss n pc pd v) s = execTapm iss n pc pd v s := rfl
theorem exec_tlbiAll w sc (s : State) : exec (.tlbiAll w sc) s = execTlbiAll w sc s := rfl
theorem exec_tlbiAsid w sc asid (s : State) : exec (.tlbiAsid w sc asid) s = execTlbiAsid w sc asid s := rfl
theorem exec_tlbiVaAsid w sc asid va (s : State) : exec (.tlbiVaAsid w sc asid va) s = execTlbiVaAsid w sc asid va s := rfl
theorem exec_tlbiVaAll w sc va (s : State) : exec (.tlbiVaAll w sc va) s = execTlbiVaAll w sc va s := rfl
theorem exec_tlbiDone sc (s : State) : exec (.tlbiDone sc) s = execTlbiDone sc s := rfl
theorem exec_patrolScrub ch addr found (s : State) : exec (.patrolScrub ch addr found) s = execPatrolScrub ch addr found s := rfl
theorem exec_dramChannelLost ch (s : State) : exec (.dramChannelLost ch) s = execDramChannelLost ch s := rfl
theorem exec_retry w e (s : State) : exec (.retry w e) s = execRetry w e s := rfl
theorem exec_abandon w e (s : State) : exec (.abandon w e) s = execAbandon w e s := rfl
theorem exec_clFaultTimeout e (s : State) : exec (.clFaultTimeout e) s = execClFaultTimeout e s := rfl
theorem exec_dmaItemStart c j (s : State) : exec (.dmaItemStart c j) s = execDmaItemStart c j s := rfl
theorem exec_dmaBurst c j found (s : State) : exec (.dmaBurst c j found) s = execDmaBurst c j found s := rfl
theorem exec_dmaItemEnd c j (s : State) : exec (.dmaItemEnd c j) s = execDmaItemEnd c j s := rfl
theorem exec_dmaResume w c j (s : State) : exec (.dmaResume w c j) s = execDmaResume w c j s := rfl
theorem exec_dmaAbort w c j (s : State) : exec (.dmaAbort w c j) s = execDmaAbort w c j s := rfl
theorem exec_capStop w c j (s : State) : exec (.capStop w c j) s = execCapStop w c j s := rfl
theorem exec_dmaFaultTimeout c j (s : State) : exec (.dmaFaultTimeout c j) s = execDmaFaultTimeout c j s := rfl
theorem exec_linkResume r (s : State) : exec (.linkResume r) s = execLinkResume r s := rfl
theorem exec_memEccCntRead (s : State) : exec (.memEccCntRead) s = execMemEccCntRead s := rfl
theorem exec_clTlbMissRead c (s : State) : exec (.clTlbMissRead c) s = execClTlbMissRead c s := rfl
theorem exec_dmaTlbMissRead c (s : State) : exec (.dmaTlbMissRead c) s = execDmaTlbMissRead c s := rfl
theorem exec_streamOpen w stm base (s : State) : exec (.streamOpen w stm base) s = execStreamOpen w stm base s := rfl
theorem exec_streamClose w stm (s : State) : exec (.streamClose w stm) s = execStreamClose w stm s := rfl
theorem exec_streamSkip w stm (s : State) : exec (.streamSkip w stm) s = execStreamSkip w stm s := rfl
theorem exec_streamQuery w stm (s : State) : exec (.streamQuery w stm) s = execStreamQuery w stm s := rfl
theorem exec_streamClosed stm (s : State) : exec (.streamClosed stm) s = execStreamClosed stm s := rfl
theorem exec_watchedLineSnoop l (s : State) : exec (.watchedLineSnoop l) s = execWatchedLineSnoop l s := rfl
theorem exec_ringPoll l (s : State) : exec (.ringPoll l) s = execRingPoll l s := rfl
theorem exec_ringEntryTake r ent (s : State) : exec (.ringEntryTake r ent) s = execRingEntryTake r ent s := rfl
theorem exec_ringLineWrite r (s : State) : exec (.ringLineWrite r) s = execRingLineWrite r s := rfl
theorem exec_itemTake src (s : State) : exec (.itemTake src) s = execItemTake src s := rfl
theorem exec_itemAccept stm seq (s : State) : exec (.itemAccept stm seq) s = execItemAccept stm seq s := rfl
theorem exec_itemDispatch dst (s : State) : exec (.itemDispatch dst) s = execItemDispatch dst s := rfl
theorem exec_completionRecordWrite stm (s : State) : exec (.completionRecordWrite stm) s = execCompletionRecordWrite stm s := rfl
theorem exec_deliveryRingWrite stm (s : State) : exec (.deliveryRingWrite stm) s = execDeliveryRingWrite stm s := rfl
theorem exec_gapTimeout stm (s : State) : exec (.gapTimeout stm) s = execGapTimeout stm s := rfl
theorem exec_keyCommit stm (s : State) : exec (.keyCommit stm) s = execKeyCommit stm s := rfl
theorem exec_quiesceTimeout u (s : State) : exec (.quiesceTimeout u) s = execQuiesceTimeout u s := rfl
theorem exec_quiesceReturn u (s : State) : exec (.quiesceReturn u) s = execQuiesceReturn u s := rfl
theorem exec_replayReissue u (s : State) : exec (.replayReissue u) s = execReplayReissue u s := rfl
theorem exec_journalRebuildDone ch (s : State) : exec (.journalRebuildDone ch) s = execJournalRebuildDone ch s := rfl
theorem exec_schedRejCntRead (s : State) : exec (.schedRejCntRead) s = execSchedRejCntRead s := rfl
theorem exec_schedDupCntRead (s : State) : exec (.schedDupCntRead) s = execSchedDupCntRead s := rfl
theorem exec_schedRetryCntRead (s : State) : exec (.schedRetryCntRead) s = execSchedRetryCntRead s := rfl
theorem exec_schedLossCntRead (s : State) : exec (.schedLossCntRead) s = execSchedLossCntRead s := rfl
theorem exec_schedKeyhitCntRead (s : State) : exec (.schedKeyhitCntRead) s = execSchedKeyhitCntRead s := rfl
theorem exec_reloadRegion w r img (s : State) : exec (.reloadRegion w r img) s = execReloadRegion w r img s := rfl
theorem exec_reloadTile w t img (s : State) : exec (.reloadTile w t img) s = execReloadTile w t img s := rfl
theorem exec_reloadEngine w e img (s : State) : exec (.reloadEngine w e img) s = execReloadEngine w e img s := rfl
theorem exec_reloadVerified readOk sigOk (s : State) : exec (.reloadVerified readOk sigOk) s = execReloadVerified readOk sigOk s := rfl
theorem exec_girthClose (s : State) : exec (.girthClose) s = execGirthClose s := rfl
theorem exec_girthRelease written (s : State) : exec (.girthRelease written) s = execGirthRelease written s := rfl
theorem exec_fabricPortSend r port it (s : State) : exec (.fabricPortSend r port it) s = execFabricPortSend r port it s := rfl
theorem exec_fabricPortAck r port (s : State) : exec (.fabricPortAck r port) s = execFabricPortAck r port s := rfl
theorem exec_counterItemExecute r (s : State) : exec (.counterItemExecute r) s = execCounterItemExecute r s := rfl
theorem exec_counterStart b (s : State) : exec (.counterStart b) s = execCounterStart b s := rfl
theorem exec_pulseTrainEnd b (s : State) : exec (.pulseTrainEnd b) s = execPulseTrainEnd b s := rfl
theorem exec_fabCntRead b (s : State) : exec (.fabCntRead b) s = execFabCntRead b s := rfl
theorem exec_loadGo img (s : State) : exec (.loadGo img) s = execLoadGo img s := rfl
theorem exec_loadSignatureVerified sigOk chain (s : State) : exec (.loadSignatureVerified sigOk chain) s = execLoadSignatureVerified sigOk chain s := rfl
theorem exec_loadDeadline (s : State) : exec (.loadDeadline) s = execLoadDeadline s := rfl
theorem exec_loadClear deadline (s : State) : exec (.loadClear deadline) s = execLoadClear deadline s := rfl
theorem exec_applyDone written (s : State) : exec (.applyDone written) s = execApplyDone written s := rfl
theorem exec_loaded (s : State) : exec (.loaded) s = execLoaded s := rfl
theorem exec_latigoTrainStart p (s : State) : exec (.latigoTrainStart p) s = execLatigoTrainStart p s := rfl
theorem exec_latigoActive p width rev partnerPos (s : State) : exec (.latigoActive p width rev partnerPos) s = execLatigoActive p width rev partnerPos s := rfl
theorem exec_trainingTimeout p (s : State) : exec (.trainingTimeout p) s = execTrainingTimeout p s := rfl
theorem exec_ack h (s : State) : exec (.ack h) s = execAck h s := rfl
theorem exec_nak h (s : State) : exec (.nak h) s = execNak h s := rfl
theorem exec_credit h counts (s : State) : exec (.credit h counts) s = execCredit h counts s := rfl
theorem exec_item h it (s : State) : exec (.item h it) s = execItem h it s := rfl
theorem exec_itemAcc h stm seq (s : State) : exec (.itemAcc h stm seq) s = execItemAcc h stm seq s := rfl
theorem exec_load h off got (s : State) : exec (.load h off got) s = execLoad h off got s := rfl
theorem exec_loadctlStart h deadline img (s : State) : exec (.loadctlStart h deadline img) s = execLoadctlStart h deadline img s := rfl
theorem exec_loadctlVerified h pos (s : State) : exec (.loadctlVerified h pos) s = execLoadctlVerified h pos s := rfl
theorem exec_loadctlReject h pos code (s : State) : exec (.loadctlReject h pos code) s = execLoadctlReject h pos code s := rfl
theorem exec_loadctlApply h (s : State) : exec (.loadctlApply h) s = execLoadctlApply h s := rfl
theorem exec_loadctlAbort h pos code (s : State) : exec (.loadctlAbort h pos code) s = execLoadctlAbort h pos code s := rfl
theorem exec_loadctlDone h pos (s : State) : exec (.loadctlDone h pos) s = execLoadctlDone h pos s := rfl
theorem exec_loadctlClear h (s : State) : exec (.loadctlClear h) s = execLoadctlClear h s := rfl
theorem exec_beacon h t1 d t2 (s : State) : exec (.beacon h t1 d t2) s = execBeacon h t1 d t2 s := rfl
theorem exec_beaconReply h t1 t2 t3 t4 (s : State) : exec (.beaconReply h t1 t2 t3 t4) s = execBeaconReply h t1 t2 t3 t4 s := rfl
theorem exec_fault h cls origin cause source (s : State) : exec (.fault h cls origin cause source) s = execFault h cls origin cause source s := rfl
theorem exec_regRead h tag off (s : State) : exec (.regRead h tag off) s = execRegRead h tag off s := rfl
theorem exec_regWrite h tag off v (s : State) : exec (.regWrite h tag off v) s = execRegWrite h tag off v s := rfl
theorem exec_regResponse h tag v (s : State) : exec (.regResponse h tag v) s = execRegResponse h tag v s := rfl
theorem exec_replayTimeout p (s : State) : exec (.replayTimeout p) s = execReplayTimeout p s := rfl
theorem exec_ackTimer p (s : State) : exec (.ackTimer p) s = execAckTimer p s := rfl
theorem exec_linkDownTimeout p (s : State) : exec (.linkDownTimeout p) s = execLinkDownTimeout p s := rfl
theorem exec_beaconSend (s : State) : exec (.beaconSend) s = execBeaconSend s := rfl
theorem exec_beaconMissed (s : State) : exec (.beaconMissed) s = execBeaconMissed s := rfl
theorem exec_regResponseTimeout tag (s : State) : exec (.regResponseTimeout tag) s = execRegResponseTimeout tag s := rfl
theorem exec_latCrcCntRead p (s : State) : exec (.latCrcCntRead p) s = execLatCrcCntRead p s := rfl
theorem exec_latReplayCntRead p (s : State) : exec (.latReplayCntRead p) s = execLatReplayCntRead p s := rfl
theorem exec_linkL0Entry width rate cxl (s : State) : exec (.linkL0Entry width rate cxl) s = execLinkL0Entry width rate cxl s := rfl
theorem exec_linkDown (s : State) : exec (.linkDown) s = execLinkDown s := rfl
theorem exec_linkL1Entry (s : State) : exec (.linkL1Entry) s = execLinkL1Entry s := rfl
theorem exec_linkL1Exit (s : State) : exec (.linkL1Exit) s = execLinkL1Exit s := rfl
theorem exec_d3hotEntry (s : State) : exec (.d3hotEntry) s = execD3hotEntry s := rfl
theorem exec_d0Return (s : State) : exec (.d0Return) s = execD0Return s := rfl
theorem exec_perstN (s : State) : exec (.perstN) s = execPerstN s := rfl
theorem exec_hotReset (s : State) : exec (.hotReset) s = execHotReset s := rfl
theorem exec_flr (s : State) : exec (.flr) s = execFlr s := rfl
theorem exec_cxlReset (s : State) : exec (.cxlReset) s = execCxlReset s := rfl
theorem exec_viral (s : State) : exec (.viral) s = execViral s := rfl
theorem exec_cacheWritebackInvalidate (s : State) : exec (.cacheWritebackInvalidate) s = execCacheWritebackInvalidate s := rfl
theorem exec_cxlMemAccess line op found (s : State) : exec (.cxlMemAccess line op found) s = execCxlMemAccess line op found s := rfl
theorem exec_msixUnmask m (s : State) : exec (.msixUnmask m) s = execMsixUnmask m s := rfl
theorem exec_completionTimeout r (s : State) : exec (.completionTimeout r) s = execCompletionTimeout r s := rfl
theorem exec_poisonedCompletion r (s : State) : exec (.poisonedCompletion r) s = execPoisonedCompletion r s := rfl
theorem exec_ideCheckFailure str (s : State) : exec (.ideCheckFailure str) s = execIdeCheckFailure str s := rfl
theorem exec_resetWarm key (s : State) : exec (.resetWarm key) s = execResetWarm key s := rfl
theorem exec_warmResetSafe (s : State) : exec (.warmResetSafe) s = execWarmResetSafe s := rfl
theorem exec_warmResetDomains (s : State) : exec (.warmResetDomains) s = execWarmResetDomains s := rfl
theorem exec_warmResetRom (s : State) : exec (.warmResetRom) s = execWarmResetRom s := rfl
theorem exec_warmResetReapply hashOk (s : State) : exec (.warmResetReapply hashOk) s = execWarmResetReapply hashOk s := rfl
theorem exec_resetCold key (s : State) : exec (.resetCold key) s = execResetCold key s := rfl
theorem exec_sysRstN (s : State) : exec (.sysRstN) s = execSysRstN s := rfl
theorem exec_doeDiscovery index (s : State) : exec (.doeDiscovery index) s = execDoeDiscovery index s := rfl
theorem exec_tableAccess (s : State) : exec (.tableAccess) s = execTableAccess s := rfl
theorem exec_doeAbort (s : State) : exec (.doeAbort) s = execDoeAbort s := rfl
theorem exec_mctpControl cmd (s : State) : exec (.mctpControl cmd) s = execMctpControl cmd s := rfl
theorem exec_mctpRead off (s : State) : exec (.mctpRead off) s = execMctpRead off s := rfl
theorem exec_bypass (s : State) : exec (.bypass) s = execBypass s := rfl
theorem exec_idcode (s : State) : exec (.idcode) s = execIdcode s := rfl
theorem exec_samplePreload (s : State) : exec (.samplePreload) s = execSamplePreload s := rfl
theorem exec_extest (s : State) : exec (.extest) s = execExtest s := rfl
theorem exec_clamp (s : State) : exec (.clamp) s = execClamp s := rfl
theorem exec_highz (s : State) : exec (.highz) s = execHighz s := rfl
theorem exec_sessionSetup p tag formatOk nonceH secret ledgerOk (s : State) : exec (.sessionSetup p tag formatOk nonceH secret ledgerOk) s = execSessionSetup p tag formatOk nonceH secret ledgerOk s := rfl
theorem exec_sessionClose p tag sid (s : State) : exec (.sessionClose p tag sid) s = execSessionClose p tag sid s := rfl
theorem exec_quote p tag nonce pos sid ledgerOk far (s : State) : exec (.quote p tag nonce pos sid ledgerOk far) s = execQuote p tag nonce pos sid ledgerOk far s := rfl
theorem exec_certs p tag pos far (s : State) : exec (.certs p tag pos far) s = execCerts p tag pos far s := rfl
theorem exec_secQuoteGo w (s : State) : exec (.secQuoteGo w) s = execSecQuoteGo w s := rfl
theorem exec_ownerChallenge tag (s : State) : exec (.ownerChallenge tag) s = execOwnerChallenge tag s := rfl
theorem exec_enrollFirst tag req ownEn ledgerOk (s : State) : exec (.enrollFirst tag req ownEn ledgerOk) s = execEnrollFirst tag req ownEn ledgerOk s := rfl
theorem exec_ownerAdd tag req ledgerOk (s : State) : exec (.ownerAdd tag req ledgerOk) s = execOwnerAdd tag req ledgerOk s := rfl
theorem exec_revoke tag req ledgerOk (s : State) : exec (.revoke tag req ledgerOk) s = execRevoke tag req ledgerOk s := rfl
theorem exec_transfer tag req ledgerOk (s : State) : exec (.transfer tag req ledgerOk) s = execTransfer tag req ledgerOk s := rfl
theorem exec_ownerRead tag (s : State) : exec (.ownerRead tag) s = execOwnerRead tag s := rfl
theorem exec_prog tag sid str kset gen macOk (s : State) : exec (.prog tag sid str kset gen macOk) s = execProg tag sid str kset gen macOk s := rfl
theorem exec_ideGo tag sid str kset macOk (s : State) : exec (.ideGo tag sid str kset macOk) s = execIdeGo tag sid str kset macOk s := rfl
theorem exec_ideStop tag sid str macOk (s : State) : exec (.ideStop tag sid str macOk) s = execIdeStop tag sid str macOk s := rfl
theorem exec_debugChallenge tag (s : State) : exec (.debugChallenge tag) s = execDebugChallenge tag s := rfl
theorem exec_unlock tag token sig sigOk (s : State) : exec (.unlock tag token sig sigOk) s = execUnlock tag token sig sigOk s := rfl
theorem exec_debugLock tag (s : State) : exec (.debugLock tag) s = execDebugLock tag s := rfl
theorem exec_challengeExpiry debug (s : State) : exec (.challengeExpiry debug) s = execChallengeExpiry debug s := rfl
theorem exec_unlockExpiry (s : State) : exec (.unlockExpiry) s = execUnlockExpiry s := rfl
theorem exec_stage w svn readOk sigOk (s : State) : exec (.stage w svn readOk sigOk) s = execStage w svn readOk sigOk s := rfl
theorem exec_fwCommit w (s : State) : exec (.fwCommit w) s = execFwCommit w s := rfl
theorem exec_glitchTrip m (s : State) : exec (.glitchTrip m) s = execGlitchTrip m s := rfl
theorem exec_powerGood (s : State) : exec (.powerGood) s = execPowerGood s := rfl
theorem exec_firmwareVerified aOk bOk (s : State) : exec (.firmwareVerified aOk bOk) s = execFirmwareVerified aOk bOk s := rfl
theorem exec_memoryTrained trained lost (s : State) : exec (.memoryTrained trained lost) s = execMemoryTrained trained lost s := rfl
theorem exec_domainOn w d (s : State) : exec (.domainOn w d) s = execDomainOn w d s := rfl
theorem exec_domainOff w d (s : State) : exec (.domainOff w d) s = execDomainOff w d s := rfl
theorem exec_domainPowerRemove d (s : State) : exec (.domainPowerRemove d) s = execDomainPowerRemove d s := rfl
theorem exec_fiddleheadRampDone d (s : State) : exec (.fiddleheadRampDone d) s = execFiddleheadRampDone d s := rfl
theorem exec_fiddleheadPllLock d (s : State) : exec (.fiddleheadPllLock d) s = execFiddleheadPllLock d s := rfl
theorem exec_fiddleheadReady d (s : State) : exec (.fiddleheadReady d) s = execFiddleheadReady d s := rfl
theorem exec_pllLockTimeout d (s : State) : exec (.pllLockTimeout d) s = execPllLockTimeout d s := rfl
theorem exec_ppsCapture g (s : State) : exec (.ppsCapture g) s = execPpsCapture g s := rfl
theorem exec_timeStatRead (s : State) : exec (.timeStatRead) s = execTimeStatRead s := rfl
theorem exec_timeLoRead (s : State) : exec (.timeLoRead) s = execTimeLoRead s := rfl
theorem exec_rtcSet w sec (s : State) : exec (.rtcSet w sec) s = execRtcSet w sec s := rfl
theorem exec_rtcSecRead (s : State) : exec (.rtcSecRead) s = execRtcSecRead s := rfl
theorem exec_vbatLoss (s : State) : exec (.vbatLoss) s = execVbatLoss s := rfl
theorem exec_pfail v24 (s : State) : exec (.pfail v24) s = execPfail v24 s := rfl
theorem exec_ledgerFlushDone (s : State) : exec (.ledgerFlushDone) s = execLedgerFlushDone s := rfl
theorem exec_holdupEnd (s : State) : exec (.holdupEnd) s = execHoldupEnd s := rfl
theorem exec_v24Arm (s : State) : exec (.v24Arm) s = execV24Arm s := rfl
theorem exec_v24Low (s : State) : exec (.v24Low) s = execV24Low s := rfl
theorem exec_counterCommit wear (s : State) : exec (.counterCommit wear) s = execCounterCommit wear s := rfl
theorem exec_histogramMinute t (s : State) : exec (.histogramMinute t) s = execHistogramMinute t s := rfl
theorem exec_reminderDue k (s : State) : exec (.reminderDue k) s = execReminderDue k s := rfl
theorem exec_readCounters w arg (s : State) : exec (.readCounters w arg) s = execReadCounters w arg s := rfl
theorem exec_readHist w arg (s : State) : exec (.readHist w arg) s = execReadHist w arg s := rfl
theorem exec_readCal w arg (s : State) : exec (.readCal w arg) s = execReadCal w arg s := rfl
theorem exec_readRem w arg (s : State) : exec (.readRem w arg) s = execReadRem w arg s := rfl
theorem exec_setRem w arg (s : State) : exec (.setRem w arg) s = execSetRem w arg s := rfl
theorem exec_ackRem w arg (s : State) : exec (.ackRem w arg) s = execAckRem w arg s := rfl
theorem exec_readLog w arg (s : State) : exec (.readLog w arg) s = execReadLog w arg s := rfl
theorem exec_safeNAssert (s : State) : exec (.safeNAssert) s = execSafeNAssert s := rfl
theorem exec_safeNDeassert (s : State) : exec (.safeNDeassert) s = execSafeNDeassert s := rfl
theorem exec_lockstepMismatch pair (s : State) : exec (.lockstepMismatch pair) s = execLockstepMismatch pair s := rfl
theorem exec_pop w (s : State) : exec (.pop w) s = execPop w s := rfl
theorem exec_exit w (s : State) : exec (.exit w) s = execExit w s := rfl
theorem exec_fltAck w rseq (s : State) : exec (.fltAck w rseq) s = execFltAck w rseq s := rfl
theorem exec_fltRelease w u (s : State) : exec (.fltRelease w u) s = execFltRelease w u s := rfl
theorem exec_fltDropCntRead (s : State) : exec (.fltDropCntRead) s = execFltDropCntRead s := rfl
theorem exec_irqSwiWrite w v (s : State) : exec (.irqSwiWrite w v) s = execIrqSwiWrite w v s := rfl
theorem exec_eventTrigger n (s : State) : exec (.eventTrigger n) s = execEventTrigger n s := rfl
theorem exec_evcSnap w groups (s : State) : exec (.evcSnap w groups) s = execEvcSnap w groups s := rfl
theorem exec_evcSwtrig w trigs (s : State) : exec (.evcSwtrig w trigs) s = execEvcSwtrig w trigs s := rfl
theorem exec_evcWrap n (s : State) : exec (.evcWrap n) s = execEvcWrap n s := rfl
theorem exec_evcValRead n (s : State) : exec (.evcValRead n) s = execEvcValRead n s := rfl
theorem exec_evcValWrite w n hi v (s : State) : exec (.evcValWrite w n hi v) s = execEvcValWrite w n hi v s := rfl
theorem exec_intlvSample t cv (s : State) : exec (.intlvSample t cv) s = execIntlvSample t cv s := rfl
theorem exec_sgCoreClock t k (s : State) : exec (.sgCoreClock t k) s = execSgCoreClock t k s := rfl
theorem exec_compareOutput b (s : State) : exec (.compareOutput b) s = execCompareOutput b s := rfl
theorem exec_borderSignalChange r sig (s : State) : exec (.borderSignalChange r sig) s = execBorderSignalChange r sig s := rfl
theorem exec_loadVerified short (s : State) : exec (.loadVerified short) s = execLoadVerified short s := rfl
theorem exec_vbatReturn (s : State) : exec (.vbatReturn) s = execVbatReturn s := rfl
theorem exec_vbatLow low (s : State) : exec (.vbatLow low) s = execVbatLow low s := rfl
theorem exec_ppsOut g (s : State) : exec (.ppsOut g) s = execPpsOut g s := rfl
theorem exec_quoteBuilt ledgerOk (s : State) : exec (.quoteBuilt ledgerOk) s = execQuoteBuilt ledgerOk s := rfl
theorem exec_fwupDone (s : State) : exec (.fwupDone) s = execFwupDone s := rfl
theorem exec_ledgerCommandDone ok (s : State) : exec (.ledgerCommandDone ok) s = execLedgerCommandDone ok s := rfl

end Sys2Proof.Machine
end

