-- ==== Sys2Proof/Laws/Table.lean ====
section
/-! SUPPORT. What the sparse tables and the memories do: reads after writes, and that every write keeps the canonical form. -/

namespace Sys2Proof.Machine

section
variable {α : Type}

/-- Reading after an insertion. -/
theorem tblGet_tblIns (d : Nat → α) (t : List (Nat × α)) (k i : Nat) (v : α) :
    tblGet d (tblIns t k v) i = if i = k then v else tblGet d t i := by
  induction t with
  | nil => simp [tblIns, tblGet]
  | cons e t ih =>
    obtain ⟨j, x⟩ := e
    simp only [tblIns]
    split
    · rfl
    · split
      · next h => subst h; by_cases hi : i = k <;> simp [tblGet, hi]
      · next h1 h2 =>
        simp only [tblGet, ih]
        by_cases hj : i = j
        · subst hj; simp [Ne.symm h2]
        · simp [hj]

/-- Reading after a deletion. -/
theorem tblGet_tblDel (d : Nat → α) (t : List (Nat × α)) (k i : Nat) :
    tblGet d (tblDel t k) i = if i = k then d k else tblGet d t i := by
  induction t with
  | nil => by_cases hi : i = k <;> simp [tblDel, tblGet, hi]
  | cons e t ih =>
    obtain ⟨j, x⟩ := e
    simp only [tblDel]
    split
    · next hk => subst hk; rw [ih]; by_cases hi : i = k <;> simp [tblGet, hi]
    · next hk =>
      by_cases hj : i = j
      · subst hj; simp [tblGet, Ne.symm hk]
      · simp [tblGet, ih, hj]

/-- Reading after a write. -/
theorem tblGet_tblSet [DecidableEq α] (d : Nat → α) (t : List (Nat × α)) (k i : Nat) (v : α) :
    tblGet d (tblSet d t k v) i = if i = k then v else tblGet d t i := by
  simp only [tblSet]
  split
  · next hv => rw [tblGet_tblDel d t k i, hv]
  · exact tblGet_tblIns d t k i v

/-- Finding after an insertion. -/
theorem tblFind_tblIns (t : List (Nat × α)) (k i : Nat) (v : α) :
    tblFind (tblIns t k v) i = if i = k then some v else tblFind t i := by
  induction t with
  | nil => simp [tblIns, tblFind]
  | cons e t ih =>
    obtain ⟨j, x⟩ := e
    simp only [tblIns]
    split
    · rfl
    · split
      · next h => subst h; by_cases hi : i = k <;> simp [tblFind, hi]
      · next h1 h2 =>
        simp only [tblFind, ih]
        by_cases hj : i = j
        · subst hj; simp [Ne.symm h2]
        · simp [hj]

/-- Finding after a deletion. -/
theorem tblFind_tblDel (t : List (Nat × α)) (k i : Nat) :
    tblFind (tblDel t k) i = if i = k then none else tblFind t i := by
  induction t with
  | nil => simp [tblDel, tblFind]
  | cons e t ih =>
    obtain ⟨j, x⟩ := e
    simp only [tblDel]
    split
    · next hk => subst hk; rw [ih]; by_cases hi : i = k <;> simp [tblFind, hi]
    · next hk =>
      by_cases hj : i = j
      · subst hj; simp [tblFind, Ne.symm hk]
      · simp [tblFind, ih, hj]

theorem tblIns_all (p : Nat × α → Bool) (t : List (Nat × α)) (k : Nat) (v : α) (h : t.all p = true) (hv : p (k, v) = true) :
    (tblIns t k v).all p = true := by
  induction t with
  | nil => simp [tblIns, hv]
  | cons e t ih =>
    obtain ⟨j, x⟩ := e
    simp only [List.all_cons, Bool.and_eq_true] at h
    simp only [tblIns]
    split
    · simp [hv, h.1, h.2]
    · split
      · simp [hv, h.2]
      · simp [h.1, ih h.2]

theorem tblDel_all (p : Nat × α → Bool) (t : List (Nat × α)) (k : Nat) (h : t.all p = true) : (tblDel t k).all p = true := by
  induction t with
  | nil => simp [tblDel]
  | cons e t ih =>
    obtain ⟨j, x⟩ := e
    simp only [List.all_cons, Bool.and_eq_true] at h
    simp only [tblDel]
    split
    · exact ih h.2
    · simp [h.1, ih h.2]

theorem tblAll_mono (k j : Nat) (t : List (Nat × α)) (hk : k ≤ j) (h : t.all (fun e => j < e.1) = true) :
    t.all (fun e => k < e.1) = true := by
  simp only [List.all_eq_true, decide_eq_true_eq] at h ⊢
  exact fun e he => Nat.lt_of_le_of_lt hk (h e he)

theorem tblIns_sorted (t : List (Nat × α)) (k : Nat) (v : α) (h : tblSorted t = true) : tblSorted (tblIns t k v) = true := by
  induction t with
  | nil => simp [tblIns, tblSorted]
  | cons e t ih =>
    obtain ⟨j, x⟩ := e
    have h' := h
    simp only [tblSorted, Bool.and_eq_true] at h
    simp only [tblIns]
    split
    · next hk =>
      simp only [tblSorted, Bool.and_eq_true, List.all_cons, decide_eq_true_eq]
      exact ⟨⟨hk, tblAll_mono k j t (by omega) h.1⟩, h.1, h.2⟩
    · split
      · next hk => subst hk; simp only [tblSorted, Bool.and_eq_true]; exact h
      · next h1 h2 =>
        simp only [tblSorted, Bool.and_eq_true]
        exact ⟨tblIns_all _ t k v h.1 (by simp; omega), ih h.2⟩

theorem tblDel_sorted (t : List (Nat × α)) (k : Nat) (h : tblSorted t = true) : tblSorted (tblDel t k) = true := by
  induction t with
  | nil => simp [tblDel, tblSorted]
  | cons e t ih =>
    obtain ⟨j, x⟩ := e
    simp only [tblSorted, Bool.and_eq_true] at h
    simp only [tblDel]
    split
    · exact ih h.2
    · simp only [tblSorted, Bool.and_eq_true]
      exact ⟨tblDel_all _ t k h.1, ih h.2⟩

theorem tblFilter_sorted (p : Nat × α → Bool) (t : List (Nat × α)) (h : tblSorted t = true) :
    tblSorted (t.filter p) = true := by
  induction t with
  | nil => simp [tblSorted]
  | cons e t ih =>
    obtain ⟨j, x⟩ := e
    simp only [tblSorted, Bool.and_eq_true] at h
    simp only [List.filter_cons]
    split
    · simp only [tblSorted, Bool.and_eq_true]
      refine ⟨?_, ih h.2⟩
      have h1 := h.1
      simp only [List.all_eq_true, decide_eq_true_eq] at h1 ⊢
      exact fun e he => h1 e (List.mem_filter.mp he).1
    · exact ih h.2

/-- A write keeps the canonical form. -/
theorem tblSet_wf [DecidableEq α] (d : Nat → α) (t : List (Nat × α)) (k : Nat) (v : α) (h : tblWf d t = true) :
    tblWf d (tblSet d t k v) = true := by
  simp only [tblWf, Bool.and_eq_true] at h ⊢
  simp only [tblSet]
  split
  · exact ⟨tblDel_sorted t k h.1, tblDel_all _ t k h.2⟩
  · next hv => exact ⟨tblIns_sorted t k v h.1, tblIns_all _ t k v h.2 (by simpa using hv)⟩

/-- So does dropping entries. -/
theorem tblFilter_wf [DecidableEq α] (d : Nat → α) (p : Nat × α → Bool) (t : List (Nat × α)) (h : tblWf d t = true) :
    tblWf d (t.filter p) = true := by
  simp only [tblWf, Bool.and_eq_true] at h ⊢
  refine ⟨tblFilter_sorted p t h.1, ?_⟩
  have h2 := h.2
  simp only [List.all_eq_true] at h2 ⊢
  exact fun e he => h2 e (List.mem_filter.mp he).1

theorem tblClear_wf [DecidableEq α] (d : Nat → α) (t : List (Nat × α)) (lo hi : Nat) (h : tblWf d t = true) :
    tblWf d (tblClear t lo hi) = true := tblFilter_wf d _ t h

end

/-! ### Memories -/

/-- A write of bytes keeps the canonical form. -/
theorem memWrite_wf (m : List Host.Cell) (a : Nat) (bs : List Byte) (h : memWf m) : memWf (memWrite m a bs) := by
  induction bs generalizing m a with
  | nil => exact h
  | cons b t ih => exact ih (tblSet memZero m a b) (a + 1) (tblSet_wf memZero m a b h)

/-- A byte outside the bytes written reads as before; one within reads as written. -/
theorem memByte_memWrite (m : List Host.Cell) (a i : Nat) (bs : List Byte) :
    memByte (memWrite m a bs) i = if a ≤ i ∧ i < a + bs.length then bs.getD (i - a) 0 else memByte m i := by
  induction bs generalizing m a with
  | nil =>
    have : ¬ (a ≤ i ∧ i < a + ([] : List Byte).length) := by simp only [List.length_nil]; omega
    rw [if_neg this]; rfl
  | cons b t ih =>
    simp only [memWrite]
    rw [ih]
    simp only [memByte, tblGet_tblSet memZero m a i b, List.length_cons]
    by_cases h1 : i = a
    · subst h1
      have hn : ¬ (i + 1 ≤ i ∧ i < i + 1 + t.length) := by omega
      simp only [hn, if_false, if_true]
      have hy : i ≤ i ∧ i < i + (t.length + 1) := by omega
      simp [hy]
    · by_cases h2 : a + 1 ≤ i ∧ i < a + 1 + t.length
      · have hy : a ≤ i ∧ i < a + (t.length + 1) := by omega
        simp only [h2, hy, and_self, if_true]
        obtain ⟨j, rfl⟩ : ∃ j, i = a + 1 + j := ⟨i - (a + 1), by omega⟩
        have e1 : a + 1 + j - (a + 1) = j := by omega
        have e2 : a + 1 + j - a = j + 1 := by omega
        rw [e1, e2, List.getD_cons_succ]
      · have hy : ¬ (a ≤ i ∧ i < a + (t.length + 1)) := by omega
        rw [if_neg h2, if_neg hy, if_neg h1]

end Sys2Proof.Machine
end

