-- ==== Sys2Proof/Laws/KeepOps.lean ====
section
/-! SUPPORT. The frames of the named operations on registers, events, streams, records, faults: which parts of the state each may change, and that the
register bank and the memories keep their canonical form. -/

namespace Sys2Proof.Machine

/-- The number of a part in a set of parts. -/
def Part.idx : Part → Nat
  | .queue => 0
  | .regs => 1
  | .staged => 2
  | .bus => 3
  | .free => 4
  | .time => 5
  | .faults => 6
  | .notices => 7
  | .ledger => 8
  | .pins => 9
  | .tiles => 10
  | .sched => 11
  | .ports => 12
  | .engs => 13
  | .dmas => 14
  | .mem => 15
  | .fabric => 16
  | .power => 17
  | .host => 18
  | .load => 19
  | .sec => 20

/-- From `s` to `t` the canonical form is kept, and nothing changes but the parts whose numbers are in the set `M`. -/
def Keep (M : Nat) (s t : State) : Prop := (s.canon → t.canon) ∧ ∀ p : Part, M.testBit p.idx = true ∨ s.samePart t p

/-- The next state of an outcome, if it is one. -/
def outKeep (M : Nat) (s : State) : Host.Outcome State Fault Refusal → Prop
  | .next t => Keep M s t
  | _ => True

/-- The state that an optional state holds. -/
def optKeep (M : Nat) (s : State) : Option State → Prop
  | some t => Keep M s t
  | none => True

theorem sub_trans {a b M : Nat} (h : b ||| a = b) (hM : M ||| b = M) : M ||| a = M := by
  rw [← hM, Nat.or_assoc, h]

theorem sub_bit {k m M : Nat} (h : m.testBit k = true) (hM : M ||| m = M) : M.testBit k = true := by
  rw [← hM, Nat.testBit_or, h, Bool.or_true]

theorem samePart_refl (s : State) (p : Part) : s.samePart s p := by cases p <;> first
    | exact rfl
    | exact ⟨rfl, rfl⟩
    | exact ⟨rfl, rfl, rfl⟩

theorem samePart_trans {s t u : State} {p : Part} (h : s.samePart t p) (k : t.samePart u p) : s.samePart u p := by
  cases p <;> first
    | exact Eq.trans k h
    | exact ⟨k.1.trans h.1, k.2.trans h.2⟩
    | exact ⟨k.1.trans h.1, k.2.1.trans h.2.1, k.2.2.trans h.2.2⟩
    | exact Eq.trans k (by rw [show t.ledger = _ from h])

theorem keep_refl (M : Nat) (s : State) : Keep M s s := ⟨id, fun p => .inr (samePart_refl s p)⟩

theorem keep_trans {M : Nat} {s t u : State} (h : Keep M s t) (k : Keep M t u) : Keep M s u :=
  ⟨k.1 ∘ h.1, fun p => (h.2 p).elim .inl fun a => (k.2 p).elim .inl fun b => .inr (samePart_trans a b)⟩

theorem keep_mono {m M : Nat} {s t : State} (h : Keep m s t) (hsub : M ||| m = M) : Keep M s t :=
  ⟨h.1, fun p => (h.2 p).imp_left fun b => sub_bit b hsub⟩

theorem keep_next {M : Nat} {s t : State} (h : Keep M s t) : outKeep M s (.next t) := h

theorem opt_keep_some {M : Nat} {s t : State} (h : Keep M s t) : optKeep M s (some t) := h

theorem opt_keep_none {M : Nat} {s : State} : optKeep M s none := trivial

theorem keep_ite {M : Nat} {s a b : State} (c : Prop) [Decidable c] (ha : Keep M s a) (hb : Keep M s b) :
    Keep M s (if c then a else b) := by
  split <;> assumption

theorem out_keep_ite {M : Nat} {s : State} {a b : Host.Outcome State Fault Refusal} (c : Prop) [Decidable c] (ha : outKeep M s a)
    (hb : outKeep M s b) : outKeep M s (if c then a else b) := by
  split <;> assumption

theorem opt_keep_ite {M : Nat} {s : State} {a b : Option State} (c : Prop) [Decidable c] (ha : optKeep M s a)
    (hb : optKeep M s b) : optKeep M s (if c then a else b) := by
  split <;> assumption

theorem keep_foldl {β : Type} {M : Nat} {s t : State} (f : State → β → State) (l : List β) (h : Keep M s t)
    (hf : ∀ t x, Keep M s t → Keep M s (f t x)) : Keep M s (l.foldl f t) := by
  induction l generalizing t with
  | nil => exact h
  | cons x l ih => exact ih (hf t x h)

/-- A record update of the state that leaves the register bank and the memories. -/
theorem keep_mk {M : Nat} {s e : State} {pending stg wait busRead busBytes free time flt contained msix latch deferred v24Rev rtcNs ledger pins gio tiles sched ports engs dmas fab rcfg pwr host load clock sec straps}
    (h0 : M.testBit 0 = true ∨ (pending = e.pending))
    (h2 : M.testBit 2 = true ∨ (stg = e.stg ∧ wait = e.wait ∧ deferred = e.deferred))
    (h3 : M.testBit 3 = true ∨ (busRead = e.busRead ∧ busBytes = e.busBytes ∧ latch = e.latch))
    (h4 : M.testBit 4 = true ∨ (free = e.free))
    (h5 : M.testBit 5 = true ∨ (time = e.time ∧ clock = e.clock ∧ rtcNs = e.rtcNs))
    (h6 : M.testBit 6 = true ∨ (flt = e.flt ∧ contained = e.contained))
    (h7 : M.testBit 7 = true ∨ (msix = e.msix ∧ ledger.log = e.ledger.log))
    (h8 : M.testBit 8 = true ∨ (ledger = { e.ledger with log := ledger.log }))
    (h9 : M.testBit 9 = true ∨ (pins = e.pins ∧ gio = e.gio ∧ v24Rev = e.v24Rev))
    (h10 : M.testBit 10 = true ∨ (tiles = e.tiles))
    (h11 : M.testBit 11 = true ∨ (sched = e.sched))
    (h12 : M.testBit 12 = true ∨ (ports = e.ports))
    (h13 : M.testBit 13 = true ∨ (engs = e.engs))
    (h14 : M.testBit 14 = true ∨ (dmas = e.dmas))
    (h16 : M.testBit 16 = true ∨ (fab = e.fab ∧ rcfg = e.rcfg))
    (h17 : M.testBit 17 = true ∨ (pwr = e.pwr))
    (h18 : M.testBit 18 = true ∨ (host = e.host))
    (h19 : M.testBit 19 = true ∨ (load = e.load))
    (h20 : M.testBit 20 = true ∨ (sec = e.sec ∧ straps = e.straps))
    (h : Keep M s e) : Keep M s ⟨pending, e.regs, stg, wait, busRead, busBytes, free, time, flt, contained, msix, latch, deferred, v24Rev, rtcNs, ledger, pins, gio, tiles, sched, ports, engs, dmas, e.mem, fab, rcfg, pwr, host, load, clock, sec, straps⟩ := by
  refine keep_trans h ⟨id, fun p => ?_⟩
  cases p
  · exact h0
  · exact .inr rfl
  · exact h2
  · exact h3
  · exact h4
  · exact h5
  · exact h6
  · exact h7
  · exact h8
  · exact h9
  · exact h10
  · exact h11
  · exact h12
  · exact h13
  · exact h14
  · exact .inr rfl
  · exact h16
  · exact h17
  · exact h18
  · exact h19
  · exact h20

/-- A change of the register bank or a memory that keeps its canonical form. -/
theorem keep_of {m M : Nat} {s t u : State} (hM : M ||| m = M) (h : Keep M s t) (k : Keep m t u) : Keep M s u :=
  keep_trans h (keep_mono k hM)

/-! ### Ops -/

theorem keep_setWord {M : Nat} {s0 : State} (hM : M ||| 2 = M) (s : State) (a : Nat) (w : Word) (h0 : Keep M s0 s) :
    Keep M s0 (s.setWord a w) :=
  keep_of hM h0 ⟨fun hs => ⟨tblSet_wf _ _ _ _ hs.1, hs.2⟩,
    fun p => by cases p <;> first | exact .inl rfl | exact .inr rfl | exact .inr ⟨rfl, rfl⟩ | exact .inr ⟨rfl, rfl, rfl⟩⟩

theorem keep_put {M : Nat} {s₀ : State} (hM : M ||| 2 = M) (s : State) (f : Field) (v : Nat) (h0 : Keep M s₀ s) :
    Keep M s₀ (State.put s f v) := by
  unfold State.put
  try dsimp only
  repeat' first
    | with_reducible (first | assumption | apply keep_setWord | exact sub_trans rfl hM)

theorem keep_putB {M : Nat} {s₀ : State} (hM : M ||| 2 = M) (s : State) (f : Field) (b : Bool) (h0 : Keep M s₀ s) :
    Keep M s₀ (State.putB s f b) := by
  unfold State.putB
  try dsimp only
  repeat' first
    | with_reducible (first | assumption | apply keep_put | exact sub_trans rfl hM)

theorem keep_bump {M : Nat} {s₀ : State} (hM : M ||| 2 = M) (s : State) (f : Field) (n : Nat) (h0 : Keep M s₀ s) :
    Keep M s₀ (State.bump s f n) := by
  unfold State.bump
  try dsimp only
  repeat' first
    | with_reducible (first | assumption | apply keep_put | exact sub_trans rfl hM)

theorem keep_bumpSat {M : Nat} {s₀ : State} (hM : M ||| 2 = M) (s : State) (f : Field) (n : Nat) (h0 : Keep M s₀ s) :
    Keep M s₀ (State.bumpSat s f n) := by
  unfold State.bumpSat
  try dsimp only
  repeat' first
    | with_reducible (first | assumption | apply keep_put | exact sub_trans rfl hM)

theorem keep_putIdx {M : Nat} {s₀ : State} (hM : M ||| 2 = M) (s : State) (f : Field) (k : Nat) (b : Bool) (h0 : Keep M s₀ s) :
    Keep M s₀ (State.putIdx s f k b) := by
  unfold State.putIdx
  try dsimp only
  repeat' first
    | with_reducible (first | assumption | apply keep_putB | exact sub_trans rfl hM)

theorem keep_stageWord {M : Nat} {s₀ : State} (hM : M ||| 4 = M) (s : State) (a : Nat) (w : Word) (h0 : Keep M s₀ s) :
    Keep M s₀ (State.stageWord s a w) := by
  unfold State.stageWord
  try dsimp only
  repeat' first
    | with_reducible (first | assumption | exact sub_trans rfl hM)
    | exact .inl (sub_bit rfl hM)
    | with_reducible (first | exact .inr rfl | exact .inr ⟨rfl, rfl⟩ | exact .inr ⟨rfl, rfl, rfl⟩)
    | split
    | with_reducible apply keep_mk

theorem keep_applyStaged {M : Nat} {s₀ : State} (hM : M ||| 6 = M) (s : State) (a : Nat) (h0 : Keep M s₀ s) :
    Keep M s₀ (State.applyStaged s a) := by
  unfold State.applyStaged
  try dsimp only
  repeat' first
    | with_reducible (first | assumption | apply keep_setWord | exact sub_trans rfl hM)
    | exact .inl (sub_bit rfl hM)
    | with_reducible (first | exact .inr rfl | exact .inr ⟨rfl, rfl⟩ | exact .inr ⟨rfl, rfl, rfl⟩)
    | split
    | with_reducible apply keep_mk

theorem keep_toWait {M : Nat} {s₀ : State} (hM : M ||| 4 = M) (s : State) (a : Nat) (h0 : Keep M s₀ s) :
    Keep M s₀ (State.toWait s a) := by
  unfold State.toWait
  try dsimp only
  repeat' first
    | with_reducible (first | assumption | exact sub_trans rfl hM)
    | exact .inl (sub_bit rfl hM)
    | with_reducible (first | exact .inr rfl | exact .inr ⟨rfl, rfl⟩ | exact .inr ⟨rfl, rfl, rfl⟩)
    | split
    | with_reducible apply keep_mk

theorem keep_applyWait {M : Nat} {s₀ : State} (hM : M ||| 6 = M) (s : State) (a : Nat) (h0 : Keep M s₀ s) :
    Keep M s₀ (State.applyWait s a) := by
  unfold State.applyWait
  try dsimp only
  repeat' first
    | with_reducible (first | assumption | apply keep_setWord | exact sub_trans rfl hM)
    | exact .inl (sub_bit rfl hM)
    | with_reducible (first | exact .inr rfl | exact .inr ⟨rfl, rfl⟩ | exact .inr ⟨rfl, rfl, rfl⟩)
    | split
    | with_reducible apply keep_mk

theorem keep_dropStaged {M : Nat} {s₀ : State} (hM : M ||| 4 = M) (s : State) (a : Nat) (h0 : Keep M s₀ s) :
    Keep M s₀ (State.dropStaged s a) := by
  unfold State.dropStaged
  try dsimp only
  repeat' first
    | with_reducible (first | assumption | exact sub_trans rfl hM)
    | exact .inl (sub_bit rfl hM)
    | with_reducible (first | exact .inr rfl | exact .inr ⟨rfl, rfl⟩ | exact .inr ⟨rfl, rfl, rfl⟩)
    | split
    | with_reducible apply keep_mk

theorem keep_commitsUp {M : Nat} {s₀ : State} (hM : M ||| 2 = M) (s : State) (pg : Nat) (h0 : Keep M s₀ s) :
    Keep M s₀ (State.commitsUp s pg) := by
  unfold State.commitsUp
  try dsimp only
  repeat' first
    | with_reducible (first | assumption | apply keep_putB | apply keep_bump | exact sub_trans rfl hM)

theorem keep_resetRange {M : Nat} {s0 : State} (hM : M ||| 6 = M) (s : State) (lo hi : Nat) (h0 : Keep M s0 s) :
    Keep M s0 (s.resetRange lo hi) :=
  keep_of hM h0 ⟨fun hs => ⟨tblClear_wf _ _ _ _ hs.1, hs.2⟩,
    fun p => by cases p <;> first | exact .inl rfl | exact .inr rfl | exact .inr ⟨rfl, rfl⟩ | exact .inr ⟨rfl, rfl, rfl⟩⟩

theorem keep_setPin {M : Nat} {s₀ : State} (hM : M ||| 512 = M) (s : State) (t n : Nat) (p : PinSt) (h0 : Keep M s₀ s) :
    Keep M s₀ (State.setPin s t n p) := by
  unfold State.setPin
  try dsimp only
  repeat' first
    | with_reducible (first | assumption | exact sub_trans rfl hM)
    | exact .inl (sub_bit rfl hM)
    | with_reducible (first | exact .inr rfl | exact .inr ⟨rfl, rfl⟩ | exact .inr ⟨rfl, rfl, rfl⟩)
    | split
    | with_reducible apply keep_mk

theorem keep_modPin {M : Nat} {s₀ : State} (hM : M ||| 512 = M) (s : State) (t n : Nat) (f : PinSt → PinSt) (h0 : Keep M s₀ s) :
    Keep M s₀ (State.modPin s t n f) := by
  unfold State.modPin
  try dsimp only
  repeat' first
    | with_reducible (first | assumption | apply keep_setPin | exact sub_trans rfl hM)

theorem keep_setTile {M : Nat} {s₀ : State} (hM : M ||| 1024 = M) (s : State) (t : Nat) (x : TileSt) (h0 : Keep M s₀ s) :
    Keep M s₀ (State.setTile s t x) := by
  unfold State.setTile
  try dsimp only
  repeat' first
    | with_reducible (first | assumption | exact sub_trans rfl hM)
    | exact .inl (sub_bit rfl hM)
    | with_reducible (first | exact .inr rfl | exact .inr ⟨rfl, rfl⟩ | exact .inr ⟨rfl, rfl, rfl⟩)
    | split
    | with_reducible apply keep_mk

theorem keep_modTile {M : Nat} {s₀ : State} (hM : M ||| 1024 = M) (s : State) (t : Nat) (f : TileSt → TileSt) (h0 : Keep M s₀ s) :
    Keep M s₀ (State.modTile s t f) := by
  unfold State.modTile
  try dsimp only
  repeat' first
    | with_reducible (first | assumption | apply keep_setTile | exact sub_trans rfl hM)

theorem keep_setPort {M : Nat} {s₀ : State} (hM : M ||| 4096 = M) (s : State) (p : Nat) (x : PortSt) (h0 : Keep M s₀ s) :
    Keep M s₀ (State.setPort s p x) := by
  unfold State.setPort
  try dsimp only
  repeat' first
    | with_reducible (first | assumption | exact sub_trans rfl hM)
    | exact .inl (sub_bit rfl hM)
    | with_reducible (first | exact .inr rfl | exact .inr ⟨rfl, rfl⟩ | exact .inr ⟨rfl, rfl, rfl⟩)
    | split
    | with_reducible apply keep_mk

theorem keep_modPort {M : Nat} {s₀ : State} (hM : M ||| 4096 = M) (s : State) (p : Nat) (f : PortSt → PortSt) (h0 : Keep M s₀ s) :
    Keep M s₀ (State.modPort s p f) := by
  unfold State.modPort
  try dsimp only
  repeat' first
    | with_reducible (first | assumption | apply keep_setPort | exact sub_trans rfl hM)

theorem keep_setStream {M : Nat} {s₀ : State} (hM : M ||| 2048 = M) (s : State) (k : Nat) (x : StreamSt) (h0 : Keep M s₀ s) :
    Keep M s₀ (State.setStream s k x) := by
  unfold State.setStream
  try dsimp only
  repeat' first
    | with_reducible (first | assumption | exact sub_trans rfl hM)
    | exact .inl (sub_bit rfl hM)
    | with_reducible (first | exact .inr rfl | exact .inr ⟨rfl, rfl⟩ | exact .inr ⟨rfl, rfl, rfl⟩)
    | split
    | with_reducible apply keep_mk

theorem keep_modStream {M : Nat} {s₀ : State} (hM : M ||| 2048 = M) (s : State) (k : Nat) (f : StreamSt → StreamSt)
    (h0 : Keep M s₀ s) :
    Keep M s₀ (State.modStream s k f) := by
  unfold State.modStream
  try dsimp only
  repeat' first
    | with_reducible (first | assumption | apply keep_setStream | exact sub_trans rfl hM)

theorem keep_setRing {M : Nat} {s₀ : State} (hM : M ||| 2048 = M) (s : State) (r : Nat) (x : RingSt) (h0 : Keep M s₀ s) :
    Keep M s₀ (State.setRing s r x) := by
  unfold State.setRing
  try dsimp only
  repeat' first
    | with_reducible (first | assumption | exact sub_trans rfl hM)
    | exact .inl (sub_bit rfl hM)
    | with_reducible (first | exact .inr rfl | exact .inr ⟨rfl, rfl⟩ | exact .inr ⟨rfl, rfl, rfl⟩)
    | split
    | with_reducible apply keep_mk

theorem keep_modRing {M : Nat} {s₀ : State} (hM : M ||| 2048 = M) (s : State) (r : Nat) (f : RingSt → RingSt) (h0 : Keep M s₀ s) :
    Keep M s₀ (State.modRing s r f) := by
  unfold State.modRing
  try dsimp only
  repeat' first
    | with_reducible (first | assumption | apply keep_setRing | exact sub_trans rfl hM)

theorem keep_setEng {M : Nat} {s₀ : State} (hM : M ||| 8192 = M) (s : State) (e : Nat) (x : EngSt) (h0 : Keep M s₀ s) :
    Keep M s₀ (State.setEng s e x) := by
  unfold State.setEng
  try dsimp only
  repeat' first
    | with_reducible (first | assumption | exact sub_trans rfl hM)
    | exact .inl (sub_bit rfl hM)
    | with_reducible (first | exact .inr rfl | exact .inr ⟨rfl, rfl⟩ | exact .inr ⟨rfl, rfl, rfl⟩)
    | split
    | with_reducible apply keep_mk

theorem keep_modEng {M : Nat} {s₀ : State} (hM : M ||| 8192 = M) (s : State) (e : Nat) (f : EngSt → EngSt) (h0 : Keep M s₀ s) :
    Keep M s₀ (State.modEng s e f) := by
  unfold State.modEng
  try dsimp only
  repeat' first
    | with_reducible (first | assumption | apply keep_setEng | exact sub_trans rfl hM)

theorem keep_setCnt {M : Nat} {s₀ : State} (hM : M ||| 65536 = M) (s : State) (b : Nat) (x : CntSt) (h0 : Keep M s₀ s) :
    Keep M s₀ (State.setCnt s b x) := by
  unfold State.setCnt
  try dsimp only
  repeat' first
    | with_reducible (first | assumption | exact sub_trans rfl hM)
    | exact .inl (sub_bit rfl hM)
    | with_reducible (first | exact .inr rfl | exact .inr ⟨rfl, rfl⟩ | exact .inr ⟨rfl, rfl, rfl⟩)
    | split
    | with_reducible apply keep_mk

theorem keep_modCnt {M : Nat} {s₀ : State} (hM : M ||| 65536 = M) (s : State) (b : Nat) (f : CntSt → CntSt) (h0 : Keep M s₀ s) :
    Keep M s₀ (State.modCnt s b f) := by
  unfold State.modCnt
  try dsimp only
  repeat' first
    | with_reducible (first | assumption | apply keep_setCnt | exact sub_trans rfl hM)

theorem keep_modGio {M : Nat} {s₀ : State} (hM : M ||| 65536 = M) (s : State) (g : Nat) (f : GioOut → GioOut) (h0 : Keep M s₀ s) :
    Keep M s₀ (State.modGio s g f) := by
  unfold State.modGio
  try dsimp only
  repeat' first
    | with_reducible (first | assumption | exact sub_trans rfl hM)
    | exact .inl (sub_bit rfl hM)
    | with_reducible (first | exact .inr rfl | exact .inr ⟨rfl, rfl⟩ | exact .inr ⟨rfl, rfl, rfl⟩)
    | split
    | with_reducible apply keep_mk

theorem keep_draw {M : Nat} {s₀ : State} (hM : M ||| 16 = M) (s : State) (n : Nat) (h0 : Keep M s₀ s) :
    Keep M s₀ (State.draw s n).2 := by
  unfold State.draw
  try dsimp only
  repeat' first
    | with_reducible (first | assumption | exact sub_trans rfl hM)
    | exact .inl (sub_bit rfl hM)
    | with_reducible (first | exact .inr rfl | exact .inr ⟨rfl, rfl⟩ | exact .inr ⟨rfl, rfl, rfl⟩)
    | split
    | with_reducible apply keep_mk

theorem keep_answer {M : Nat} {s₀ : State} (hM : M ||| 8 = M) (s : State) (w : Word) (h0 : Keep M s₀ s) :
    Keep M s₀ (State.answer s w) := by
  unfold State.answer
  try dsimp only
  repeat' first
    | with_reducible (first | assumption | exact sub_trans rfl hM)
    | exact .inl (sub_bit rfl hM)
    | with_reducible (first | exact .inr rfl | exact .inr ⟨rfl, rfl⟩ | exact .inr ⟨rfl, rfl, rfl⟩)
    | split
    | with_reducible apply keep_mk

theorem keep_readClear {M : Nat} {s₀ : State} (hM : M ||| 10 = M) (s : State) (f : Field) (h0 : Keep M s₀ s) :
    Keep M s₀ (State.readClear s f) := by
  unfold State.readClear
  try dsimp only
  repeat' first
    | with_reducible (first | assumption | apply keep_answer | apply keep_put | exact sub_trans rfl hM)

theorem keep_setDom {M : Nat} {s₀ : State} (hM : M ||| 2 = M) (s : State) (d : Nat) (on : Bool) (h0 : Keep M s₀ s) :
    Keep M s₀ (State.setDom s d on) := by
  unfold State.setDom
  try dsimp only
  repeat' first
    | with_reducible (first | assumption | apply keep_putIdx | exact sub_trans rfl hM)

theorem keep_startDomain {M : Nat} {s₀ : State} (hM : M ||| 131074 = M) (s : State) (d : Nat) (h0 : Keep M s₀ s) :
    Keep M s₀ (State.startDomain s d) := by
  unfold State.startDomain
  try dsimp only
  repeat' first
    | with_reducible (first | assumption | apply keep_setDom | exact sub_trans rfl hM)
    | exact .inl (sub_bit rfl hM)
    | with_reducible (first | exact .inr rfl | exact .inr ⟨rfl, rfl⟩ | exact .inr ⟨rfl, rfl, rfl⟩)
    | split
    | with_reducible apply keep_mk

theorem keep_count {M : Nat} {s₀ : State} (hM : M ||| 256 = M) (s : State) (f : Counts → Counts) (h0 : Keep M s₀ s) :
    Keep M s₀ (State.count s f) := by
  unfold State.count
  try dsimp only
  repeat' first
    | with_reducible (first | assumption | exact sub_trans rfl hM)
    | exact .inl (sub_bit rfl hM)
    | with_reducible (first | exact .inr rfl | exact .inr ⟨rfl, rfl⟩ | exact .inr ⟨rfl, rfl, rfl⟩)
    | split
    | with_reducible apply keep_mk

theorem keep_countNow {M : Nat} {s₀ : State} (hM : M ||| 256 = M) (s : State) (f : Counts → Counts) (h0 : Keep M s₀ s) :
    Keep M s₀ (State.countNow s f) := by
  unfold State.countNow
  try dsimp only
  repeat' first
    | with_reducible (first | assumption | exact sub_trans rfl hM)
    | exact .inl (sub_bit rfl hM)
    | with_reducible (first | exact .inr rfl | exact .inr ⟨rfl, rfl⟩ | exact .inr ⟨rfl, rfl, rfl⟩)
    | split
    | with_reducible apply keep_mk

theorem keep_msixQueue {M : Nat} {s₀ : State} (hM : M ||| 128 = M) (s : State) (v : Nat) (h0 : Keep M s₀ s) :
    Keep M s₀ (State.msixQueue s v) := by
  unfold State.msixQueue
  try dsimp only
  repeat' first
    | with_reducible (first | assumption | apply keep_ite | exact sub_trans rfl hM)
    | exact .inl (sub_bit rfl hM)
    | with_reducible (first | exact .inr rfl | exact .inr ⟨rfl, rfl⟩ | exact .inr ⟨rfl, rfl, rfl⟩)
    | split
    | with_reducible apply keep_mk

theorem keep_logAdd {M : Nat} {s₀ : State} (hM : M ||| 128 = M) (s : State) (e : LogEntry) (h0 : Keep M s₀ s) :
    Keep M s₀ (State.logAdd s e) := by
  unfold State.logAdd
  try dsimp only
  repeat' first
    | with_reducible (first | assumption | exact sub_trans rfl hM)
    | exact .inl (sub_bit rfl hM)
    | with_reducible (first | exact .inr rfl | exact .inr ⟨rfl, rfl⟩ | exact .inr ⟨rfl, rfl, rfl⟩)
    | split
    | with_reducible apply keep_mk

theorem keep_ledgerWrite {M : Nat} {s₀ : State} (hM : M ||| 256 = M) (s : State) (r : LedgerRec) (h0 : Keep M s₀ s) :
    Keep M s₀ (State.ledgerWrite s r) := by
  unfold State.ledgerWrite
  try dsimp only
  repeat' first
    | with_reducible (first | assumption | exact sub_trans rfl hM)
    | exact .inl (sub_bit rfl hM)
    | with_reducible (first | exact .inr rfl | exact .inr ⟨rfl, rfl⟩ | exact .inr ⟨rfl, rfl, rfl⟩)
    | split
    | with_reducible apply keep_mk

theorem keep_srcNote {M : Nat} {s₀ : State} (hM : M ||| 130 = M) (s : State) (i : Nat) (h0 : Keep M s₀ s) :
    Keep M s₀ (State.srcNote s i) := by
  unfold State.srcNote
  try dsimp only
  repeat' first
    | with_reducible (first | assumption | apply keep_ite | apply keep_bump | apply keep_msixQueue | apply keep_logAdd
                            | exact sub_trans rfl hM)
    | exact .inl (sub_bit rfl hM)
    | with_reducible (first | exact .inr rfl | exact .inr ⟨rfl, rfl⟩ | exact .inr ⟨rfl, rfl, rfl⟩)
    | split
    | with_reducible apply keep_mk

theorem keep_setEvcVal {M : Nat} {s₀ : State} (hM : M ||| 2 = M) (s : State) (n v : Nat) (h0 : Keep M s₀ s) :
    Keep M s₀ (State.setEvcVal s n v) := by
  unfold State.setEvcVal
  try dsimp only
  repeat' first
    | with_reducible (first | assumption | apply keep_put | exact sub_trans rfl hM)

theorem keep_evcAdd {M : Nat} {s0 : State} (hM : M ||| 130 = M) (fuel : Nat) (s : State) (n k : Nat) (h0 : Keep M s0 s) : Keep M s0 (State.evcAdd fuel s n k) := by
  induction fuel generalizing s n k with
  | zero =>
    unfold State.evcAdd
    dsimp only
    repeat' first
      | with_reducible (first | assumption | apply keep_ite | apply keep_srcNote | apply keep_putB | apply keep_setEvcVal
                              | exact sub_trans rfl hM)
  | succ f ih =>
    unfold State.evcAdd
    dsimp only
    repeat' first
      | intro _
      | with_reducible (first | assumption | apply keep_ite | apply ih | apply keep_foldl | apply keep_srcNote | apply keep_putB
                              | apply keep_setEvcVal | exact sub_trans rfl hM)

theorem keep_events {M : Nat} {s₀ : State} (hM : M ||| 130 = M) (s : State) (p : Page) (ev k : Nat) (g : EvTag)
    (h0 : Keep M s₀ s) :
    Keep M s₀ (State.events s p ev k g) := by
  unfold State.events
  try dsimp only
  repeat' first
    | intro _
    | with_reducible (first | assumption | apply keep_ite | apply keep_evcAdd | apply keep_foldl | exact sub_trans rfl hM)
    | split

theorem keep_event {M : Nat} {s₀ : State} (hM : M ||| 130 = M) (s : State) (p : Page) (ev : Nat) (g : EvTag) (h0 : Keep M s₀ s) :
    Keep M s₀ (State.event s p ev g) := by
  unfold State.event
  try dsimp only
  repeat' first
    | with_reducible (first | assumption | apply keep_events | exact sub_trans rfl hM)

theorem keep_eventInst {M : Nat} {s₀ : State} (hM : M ||| 130 = M) (s : State) (p : Page) (inst ev : Nat) (g : EvTag)
    (h0 : Keep M s₀ s) :
    Keep M s₀ (State.eventInst s p inst ev g) := by
  unfold State.eventInst
  try dsimp only
  repeat' first
    | intro _
    | with_reducible (first | assumption | apply keep_ite | apply keep_evcAdd | apply keep_foldl | exact sub_trans rfl hM)
    | split

theorem keep_netWords {M : Nat} {s₀ : State} (hM : M ||| 146 = M) (s : State) (c : Nat) (out : Bool) (h0 : Keep M s₀ s) :
    Keep M s₀ (State.netWords s c out) := by
  unfold State.netWords
  try dsimp only
  repeat' first
    | with_reducible (first | assumption | apply keep_ite | apply keep_draw | apply keep_events | exact sub_trans rfl hM)
    | split

theorem keep_msixSend {M : Nat} {s₀ : State} (hM : M ||| 130 = M) (s : State) (v : Nat) (h0 : Keep M s₀ s) :
    Keep M s₀ (State.msixSend s v) := by
  unfold State.msixSend
  try dsimp only
  repeat' first
    | with_reducible (first | assumption | apply keep_ite | apply keep_msixQueue | apply keep_event | exact sub_trans rfl hM)
    | split

theorem keep_srcFire {M : Nat} {s₀ : State} (hM : M ||| 130 = M) (s : State) (i : Nat) (h0 : Keep M s₀ s) :
    Keep M s₀ (State.srcFire s i) := by
  unfold State.srcFire
  try dsimp only
  repeat' first
    | with_reducible (first | assumption | apply keep_ite | apply keep_srcNote | apply keep_event | exact sub_trans rfl hM)
    | split

theorem keep_withSrc {M : Nat} {s₀ : State} (hM : M ||| 130 = M) (s : State) (i : Nat) (f : State → State) (hf : ∀ (x0 : State), Keep M s₀ x0 → Keep M s₀ (f x0))
    (h0 : Keep M s₀ s) :
    Keep M s₀ (State.withSrc s i f) := by
  unfold State.withSrc
  try dsimp only
  repeat' first
    | with_reducible (first | assumption | apply keep_ite | apply keep_srcFire | apply hf | exact sub_trans rfl hM)
    | split

theorem keep_withSrcs {M : Nat} {s₀ : State} (hM : M ||| 130 = M) (s : State) (is : List Nat) (f : State → State) (hf : ∀ (x0 : State), Keep M s₀ x0 → Keep M s₀ (f x0))
    (h0 : Keep M s₀ s) :
    Keep M s₀ (State.withSrcs s is f) := by
  unfold State.withSrcs
  try dsimp only
  repeat' first
    | intro _
    | with_reducible (first | assumption | apply keep_ite | apply keep_srcFire | apply hf | apply keep_foldl
                            | exact sub_trans rfl hM)
    | split

theorem keep_pend {M : Nat} {s₀ : State} (hM : M ||| 130 = M) (s : State) (p : Page) (mask : Nat) (h0 : Keep M s₀ s) :
    Keep M s₀ (State.pend s p mask) := by
  unfold State.pend
  try dsimp only
  repeat' first
    | intro _
    | with_reducible (first | assumption | apply keep_withSrc | apply keep_setWord | exact sub_trans rfl hM)

theorem keep_refuse {M : Nat} {s₀ : State} (hM : M ||| 130 = M) (s : State) (p : Page) (h0 : Keep M s₀ s) :
    Keep M s₀ (State.refuse s p) := by
  unfold State.refuse
  try dsimp only
  repeat' first
    | with_reducible (first | assumption | apply keep_ite | apply keep_putB | apply keep_pend | exact sub_trans rfl hM)
    | split

theorem keep_done {M : Nat} {s₀ : State} (hM : M ||| 130 = M) (s : State) (p : Page) (h0 : Keep M s₀ s) :
    Keep M s₀ (State.done s p) := by
  unfold State.done
  try dsimp only
  repeat' first
    | with_reducible (first | assumption | apply keep_pend | exact sub_trans rfl hM)

theorem keep_snapshot {M : Nat} {s₀ : State} (hM : M ||| 2 = M) (s : State) (groups : Nat) (h0 : Keep M s₀ s) :
    Keep M s₀ (State.snapshot s groups) := by
  unfold State.snapshot
  try dsimp only
  repeat' first
    | intro _
    | with_reducible (first | assumption | apply keep_ite | apply keep_put | apply keep_foldl | exact sub_trans rfl hM)
    | split

theorem keep_adcTrig {M : Nat} {s₀ : State} (hM : M ||| 1026 = M) (s : State) (t : Nat) (h0 : Keep M s₀ s) :
    Keep M s₀ (State.adcTrig s t) := by
  unfold State.adcTrig
  try dsimp only
  repeat' first
    | with_reducible (first | assumption | apply keep_ite | apply keep_putB | apply keep_modTile | exact sub_trans rfl hM)
    | split

theorem keep_trigRises {M : Nat} {s₀ : State} (hM : M ||| 66690 = M) (s : State) (ns : List Nat) (h0 : Keep M s₀ s) :
    Keep M s₀ (State.trigRises s ns) := by
  unfold State.trigRises
  try dsimp only
  repeat' first
    | intro _
    | with_reducible (first | assumption | apply keep_ite | apply keep_putB | apply keep_withSrc | apply keep_snapshot
                            | apply keep_adcTrig | apply keep_foldl | exact sub_trans rfl hM)
    | exact .inl (sub_bit rfl hM)
    | with_reducible (first | exact .inr rfl | exact .inr ⟨rfl, rfl⟩ | exact .inr ⟨rfl, rfl, rfl⟩)
    | split
    | with_reducible apply keep_mk

theorem keep_trigRise {M : Nat} {s₀ : State} (hM : M ||| 66690 = M) (s : State) (n : Nat) (h0 : Keep M s₀ s) :
    Keep M s₀ (State.trigRise s n) := by
  unfold State.trigRise
  try dsimp only
  repeat' first
    | with_reducible (first | assumption | apply keep_trigRises | exact sub_trans rfl hM)

theorem keep_trigSources {M : Nat} {s₀ : State} (hM : M ||| 66690 = M) (s : State) (codes : List Nat) (h0 : Keep M s₀ s) :
    Keep M s₀ (State.trigSources s codes) := by
  unfold State.trigSources
  try dsimp only
  repeat' first
    | with_reducible (first | assumption | apply keep_ite | apply keep_trigRises | exact sub_trans rfl hM)
    | split

theorem keep_trigSource {M : Nat} {s₀ : State} (hM : M ||| 66690 = M) (s : State) (code : Nat) (h0 : Keep M s₀ s) :
    Keep M s₀ (State.trigSource s code) := by
  unfold State.trigSource
  try dsimp only
  repeat' first
    | with_reducible (first | assumption | apply keep_trigSources | exact sub_trans rfl hM)

/-! ### Stage -/

theorem keep_coreSet {M : Nat} {s₀ : State} (hM : M ||| 642 = M) (s : State) (t n c : Nat) (h0 : Keep M s₀ s) :
    Keep M s₀ (State.coreSet s t n c) := by
  unfold State.coreSet
  try dsimp only
  repeat' first
    | with_reducible (first | assumption | apply keep_ite | apply keep_put | apply keep_putB | apply keep_event
                            | apply keep_modPin | exact sub_trans rfl hM)
    | split

theorem keep_limStep {M : Nat} {s₀ : State} (hM : M ||| 642 = M) (s : State) (t n : Nat) (h0 : Keep M s₀ s) :
    Keep M s₀ (State.limStep s t n) := by
  unfold State.limStep
  try dsimp only
  repeat' first
    | with_reducible (first | assumption | apply keep_ite | apply keep_coreSet | apply keep_event | apply keep_putB
                            | exact sub_trans rfl hM)
    | split

theorem keep_setLimit {M : Nat} {s₀ : State} (hM : M ||| 642 = M) (s : State) (t n goal : Nat) (h0 : Keep M s₀ s) :
    Keep M s₀ (State.setLimit s t n goal) := by
  unfold State.setLimit
  try dsimp only
  repeat' first
    | with_reducible (first | assumption | apply keep_ite | apply keep_modPin | apply keep_putB | apply keep_limStep
                            | exact sub_trans rfl hM)
    | split

theorem keep_deferCode {M : Nat} {s₀ : State} (hM : M ||| 514 = M) (s : State) (t n code : Nat) (h0 : Keep M s₀ s) :
    Keep M s₀ (State.deferCode s t n code) := by
  unfold State.deferCode
  try dsimp only
  repeat' first
    | with_reducible (first | assumption | apply keep_modPin | apply keep_putB | exact sub_trans rfl hM)

theorem keep_outAccept {M : Nat} {s₀ : State} (hM : M ||| 642 = M) (s : State) (t n code : Nat) (h0 : Keep M s₀ s) :
    Keep M s₀ (State.outAccept s t n code) := by
  unfold State.outAccept
  try dsimp only
  repeat' first
    | with_reducible (first | assumption | apply keep_ite | apply keep_bump | apply keep_put | apply keep_modPin
                            | apply keep_event | apply keep_deferCode | apply keep_putB | apply keep_setLimit
                            | exact sub_trans rfl hM)
    | split

theorem keep_stageOff {M : Nat} {s₀ : State} (hM : M ||| 514 = M) (s : State) (t n : Nat) (h0 : Keep M s₀ s) :
    Keep M s₀ (State.stageOff s t n) := by
  unfold State.stageOff
  try dsimp only
  repeat' first
    | with_reducible (first | assumption | apply keep_modPin | apply keep_putB | exact sub_trans rfl hM)

theorem keep_noteCore {M : Nat} {s₀ : State} (hM : M ||| 256 = M) (s : State) (t n : Nat) (h0 : Keep M s₀ s) :
    Keep M s₀ (State.noteCore s t n) := by
  unfold State.noteCore
  try dsimp only
  repeat' first
    | with_reducible (first | assumption | apply keep_ite | exact sub_trans rfl hM)
    | exact .inl (sub_bit rfl hM)
    | with_reducible (first | exact .inr rfl | exact .inr ⟨rfl, rfl⟩ | exact .inr ⟨rfl, rfl, rfl⟩)
    | split
    | with_reducible apply keep_mk

theorem keep_stageMid {M : Nat} {s₀ : State} (hM : M ||| 770 = M) (s : State) (t n : Nat) (h0 : Keep M s₀ s) :
    Keep M s₀ (State.stageMid s t n) := by
  unfold State.stageMid
  try dsimp only
  repeat' first
    | with_reducible (first | assumption | apply keep_noteCore | apply keep_put | apply keep_putB | apply keep_modPin
                            | exact sub_trans rfl hM)

theorem keep_faultValue {M : Nat} {s₀ : State} (hM : M ||| 642 = M) (s : State) (t n : Nat) (h0 : Keep M s₀ s) :
    Keep M s₀ (State.faultValue s t n) := by
  unfold State.faultValue
  try dsimp only
  repeat' first
    | with_reducible (first | assumption | apply keep_ite | apply keep_setLimit | apply keep_modPin | apply keep_coreSet
                            | apply keep_putB | exact sub_trans rfl hM)
    | split

theorem keep_holdFault {M : Nat} {s₀ : State} (hM : M ||| 514 = M) (s : State) (t n : Nat) (h0 : Keep M s₀ s) :
    Keep M s₀ (State.holdFault s t n) := by
  unfold State.holdFault
  try dsimp only
  repeat' first
    | with_reducible (first | assumption | apply keep_ite | apply keep_modPin | apply keep_putB | exact sub_trans rfl hM)
    | split

theorem keep_fieldLost {M : Nat} {s₀ : State} (hM : M ||| 514 = M) (s : State) (t n : Nat) (h0 : Keep M s₀ s) :
    Keep M s₀ (State.fieldLost s t n) := by
  unfold State.fieldLost
  try dsimp only
  repeat' first
    | with_reducible (first | assumption | apply keep_stageOff | apply keep_modPin | apply keep_putB | apply keep_put
                            | exact sub_trans rfl hM)

theorem keep_outFault {M : Nat} {s₀ : State} (hM : M ||| 642 = M) (s : State) (t n : Nat) (h0 : Keep M s₀ s) :
    Keep M s₀ (State.outFault s t n) := by
  unfold State.outFault
  try dsimp only
  repeat' first
    | with_reducible (first | assumption | apply keep_ite | apply keep_holdFault | apply keep_modPin | apply keep_putB
                            | apply keep_stageOff | apply keep_put | apply keep_faultValue | exact sub_trans rfl hM)
    | split

theorem keep_outWdog {M : Nat} {s₀ : State} (hM : M ||| 642 = M) (s : State) (t n : Nat) (h0 : Keep M s₀ s) :
    Keep M s₀ (State.outWdog s t n) := by
  unfold State.outWdog
  try dsimp only
  repeat' first
    | with_reducible (first | assumption | apply keep_ite | apply keep_putB | apply keep_modPin | apply keep_event
                            | apply keep_holdFault | apply keep_outFault | exact sub_trans rfl hM)
    | split

theorem keep_outRelease {M : Nat} {s₀ : State} (hM : M ||| 898 = M) (s : State) (t n : Nat) (h0 : Keep M s₀ s) :
    Keep M s₀ (State.outRelease s t n) := by
  unfold State.outRelease
  try dsimp only
  repeat' first
    | with_reducible (first | assumption | apply keep_ite | apply keep_putB | apply keep_modPin | apply keep_stageMid
                            | apply keep_setLimit | exact sub_trans rfl hM)
    | split

theorem keep_outAttach {M : Nat} {s₀ : State} (hM : M ||| 898 = M) (s : State) (t n : Nat) (h0 : Keep M s₀ s) :
    Keep M s₀ (State.outAttach s t n) := by
  unfold State.outAttach
  try dsimp only
  repeat' first
    | with_reducible (first | assumption | apply keep_ite | apply keep_put | apply keep_putB | apply keep_modPin
                            | apply keep_stageMid | apply keep_stageOff | apply keep_outFault | exact sub_trans rfl hM)
    | split

theorem keep_outDetach {M : Nat} {s₀ : State} (hM : M ||| 514 = M) (s : State) (t n : Nat) (h0 : Keep M s₀ s) :
    Keep M s₀ (State.outDetach s t n) := by
  unfold State.outDetach
  try dsimp only
  repeat' first
    | with_reducible (first | assumption | apply keep_putB | apply keep_modPin | exact sub_trans rfl hM)

theorem keep_syncDout {M : Nat} {s₀ : State} (hM : M ||| 898 = M) (s : State) (t n : Nat) (h0 : Keep M s₀ s) :
    Keep M s₀ (State.syncDout s t n) := by
  unfold State.syncDout
  try dsimp only
  repeat' first
    | with_reducible (first | assumption | apply keep_ite | apply keep_modPin | apply keep_putB | apply keep_count
                            | apply keep_event | exact sub_trans rfl hM)
    | split

theorem keep_eachPin {M : Nat} {s₀ : State} (hM : M ||| 0 = M) (s : State) (f : State → Nat → State) (hf : ∀ (x0 : State) (x1 : Nat), Keep M s₀ x0 → Keep M s₀ (f x0 x1))
    (h0 : Keep M s₀ s) :
    Keep M s₀ (State.eachPin s f) := by
  unfold State.eachPin
  try dsimp only
  repeat' first
    | intro _
    | with_reducible (first | assumption | apply hf | apply keep_foldl | exact sub_trans rfl hM)

theorem keep_eachTilePin {M : Nat} {s₀ : State} (hM : M ||| 0 = M) (s : State) (f : State → Nat → Nat → State) (hf : ∀ (x0 : State) (x1 : Nat) (x2 : Nat), Keep M s₀ x0 → Keep M s₀ (f x0 x1 x2))
    (h0 : Keep M s₀ s) :
    Keep M s₀ (State.eachTilePin s f) := by
  unfold State.eachTilePin
  try dsimp only
  repeat' first
    | intro _
    | with_reducible (first | assumption | apply hf | apply keep_foldl | exact sub_trans rfl hM)

theorem keep_tileOutFault {M : Nat} {s₀ : State} (hM : M ||| 642 = M) (s : State) (t : Nat) (h0 : Keep M s₀ s) :
    Keep M s₀ (State.tileOutFault s t) := by
  unfold State.tileOutFault
  try dsimp only
  repeat' first
    | intro _
    | with_reducible (first | assumption | apply keep_eachPin | apply keep_outFault | exact sub_trans rfl hM)

theorem keep_allOutFault {M : Nat} {s₀ : State} (hM : M ||| 898 = M) (s : State) (h0 : Keep M s₀ s) :
    Keep M s₀ (State.allOutFault s) := by
  unfold State.allOutFault
  try dsimp only
  repeat' first
    | intro _
    | with_reducible (first | assumption | apply keep_eachTilePin | apply keep_outFault | apply keep_syncDout
                            | exact sub_trans rfl hM)

/-! ### SchedOps -/

theorem keep_refuseItem {M : Nat} {s₀ : State} (hM : M ||| 2178 = M) (s : State) (k seq code : Nat) (pri : Option Nat)
    (h0 : Keep M s₀ s) :
    Keep M s₀ (State.refuseItem s k seq code pri) := by
  unfold State.refuseItem
  try dsimp only
  repeat' first
    | with_reducible (first | assumption | apply keep_ite | apply keep_bump | apply keep_event | apply keep_put
                            | apply keep_modStream | exact sub_trans rfl hM)
    | split

theorem keep_setFlights {M : Nat} {s₀ : State} (hM : M ||| 2048 = M) (s : State) (fs : List Flight) (h0 : Keep M s₀ s) :
    Keep M s₀ (State.setFlights s fs) := by
  unfold State.setFlights
  try dsimp only
  repeat' first
    | with_reducible (first | assumption | exact sub_trans rfl hM)
    | exact .inl (sub_bit rfl hM)
    | with_reducible (first | exact .inr rfl | exact .inr ⟨rfl, rfl⟩ | exact .inr ⟨rfl, rfl, rfl⟩)
    | split
    | with_reducible apply keep_mk

theorem keep_modFlight {M : Nat} {s₀ : State} (hM : M ||| 2048 = M) (s : State) (k seq : Nat) (g : Flight → Flight)
    (h0 : Keep M s₀ s) :
    Keep M s₀ (State.modFlight s k seq g) := by
  unfold State.modFlight
  try dsimp only
  repeat' first
    | with_reducible (first | assumption | apply keep_ite | apply keep_setFlights | exact sub_trans rfl hM)
    | split

theorem keep_advanceE {M : Nat} {s0 : State} (hM : M ||| 2048 = M) (n : Nat) (s : State) (k : Nat) (h0 : Keep M s0 s) : Keep M s0 (State.advanceE n s k) := by
  induction n generalizing s with
  | zero => exact h0
  | succ n ih =>
    unfold State.advanceE
    dsimp only
    split
    · exact ih _ (keep_modStream (sub_trans rfl hM) _ _ _ (keep_modFlight (sub_trans rfl hM) _ _ _ _ h0))
    · exact h0

theorem keep_duplicate {M : Nat} {s₀ : State} (hM : M ||| 2178 = M) (s : State) (k pri : Nat) (h0 : Keep M s₀ s) :
    Keep M s₀ (State.duplicate s k pri) := by
  unfold State.duplicate
  try dsimp only
  repeat' first
    | with_reducible (first | assumption | apply keep_ite | apply keep_bump | apply keep_event | apply keep_modStream
                            | exact sub_trans rfl hM)
    | split

theorem keep_enter {M : Nat} {s₀ : State} (hM : M ||| 2048 = M) (s : State) (it : Item) (held : Bool) (via : Option Nat)
    (h0 : Keep M s₀ s) :
    Keep M s₀ (State.enter s it held via) := by
  unfold State.enter
  try dsimp only
  repeat' first
    | with_reducible (first | assumption | apply keep_ite | apply keep_setFlights | apply keep_modStream | apply keep_advanceE
                            | exact sub_trans rfl hM)
    | split

theorem keep_retire {M : Nat} {s₀ : State} (hM : M ||| 2178 = M) (s : State) (k seq : Nat) (h0 : Keep M s₀ s) :
    Keep M s₀ (State.retire s k seq) := by
  unfold State.retire
  try dsimp only
  repeat' first
    | with_reducible (first | assumption | apply keep_setFlights | apply keep_event | exact sub_trans rfl hM)

theorem keep_executed {M : Nat} {s₀ : State} (hM : M ||| 2178 = M) (s : State) (k seq : Nat) (h0 : Keep M s₀ s) :
    Keep M s₀ (State.executed s k seq) := by
  unfold State.executed
  try dsimp only
  repeat' first
    | with_reducible (first | assumption | apply keep_ite | apply keep_modFlight | apply keep_modStream | apply keep_retire
                            | exact sub_trans rfl hM)
    | split

theorem keep_resultAccepted {M : Nat} {s₀ : State} (hM : M ||| 2178 = M) (s : State) (k seq : Nat) (h0 : Keep M s₀ s) :
    Keep M s₀ (State.resultAccepted s k seq) := by
  unfold State.resultAccepted
  try dsimp only
  repeat' first
    | with_reducible (first | assumption | apply keep_ite | apply keep_modStream | apply keep_executed | exact sub_trans rfl hM)
    | split

theorem keep_ringAccepted {M : Nat} {s₀ : State} (hM : M ||| 2048 = M) (s : State) (k seq : Nat) (h0 : Keep M s₀ s) :
    Keep M s₀ (State.ringAccepted s k seq) := by
  unfold State.ringAccepted
  try dsimp only
  repeat' first
    | intro _
    | with_reducible (first | assumption | apply keep_ite | apply keep_modRing | apply keep_foldl | exact sub_trans rfl hM)
    | split

theorem keep_accept {M : Nat} {s₀ : State} (hM : M ||| 2178 = M) (s : State) (k seq : Nat) (h0 : Keep M s₀ s) :
    Keep M s₀ (State.accept s k seq) := by
  unfold State.accept
  try dsimp only
  repeat' first
    | with_reducible (first | assumption | apply keep_ite | apply keep_modFlight | apply keep_modStream | apply keep_event
                            | apply keep_events | apply keep_ringAccepted | apply keep_resultAccepted | exact sub_trans rfl hM)
    | split

theorem keep_retryCount {M : Nat} {s₀ : State} (hM : M ||| 130 = M) (s : State) (k pri : Nat) (h0 : Keep M s₀ s) :
    Keep M s₀ (State.retryCount s k pri) := by
  unfold State.retryCount
  try dsimp only
  repeat' first
    | with_reducible (first | assumption | apply keep_bump | apply keep_event | exact sub_trans rfl hM)

theorem keep_requeue {M : Nat} {s₀ : State} (hM : M ||| 2048 = M) (s : State) (u : Nat) (pred : Flight → Bool)
    (h0 : Keep M s₀ s) :
    Keep M s₀ (State.requeue s u pred) := by
  unfold State.requeue
  try dsimp only
  repeat' first
    | with_reducible (first | assumption | apply keep_ite | apply keep_setFlights | exact sub_trans rfl hM)
    | split

theorem keep_oweLoss {M : Nat} {s₀ : State} (hM : M ||| 2048 = M) (s : State) (k : Nat) (h0 : Keep M s₀ s) :
    Keep M s₀ (State.oweLoss s k) := by
  unfold State.oweLoss
  try dsimp only
  repeat' first
    | with_reducible (first | assumption | apply keep_modFlight | apply keep_modStream | exact sub_trans rfl hM)
    | split

theorem keep_loseD {M : Nat} {s₀ : State} (hM : M ||| 2178 = M) (s : State) (u : Nat) (h0 : Keep M s₀ s) :
    Keep M s₀ (State.loseD s u) := by
  unfold State.loseD
  try dsimp only
  repeat' first
    | intro _
    | with_reducible (first | assumption | apply keep_setFlights | apply keep_bump | apply keep_event | apply keep_oweLoss
                            | apply keep_foldl | exact sub_trans rfl hM)

theorem keep_rewind {M : Nat} {s₀ : State} (hM : M ||| 2048 = M) (s : State) (u : Nat) (pred : StreamSt → Bool)
    (h0 : Keep M s₀ s) :
    Keep M s₀ (State.rewind s u pred) := by
  unfold State.rewind
  try dsimp only
  repeat' first
    | intro _
    | with_reducible (first | assumption | apply keep_modStream | apply keep_foldl | exact sub_trans rfl hM)
    | exact .inl (sub_bit rfl hM)
    | with_reducible (first | exact .inr rfl | exact .inr ⟨rfl, rfl⟩ | exact .inr ⟨rfl, rfl, rfl⟩)
    | split
    | with_reducible apply keep_mk

theorem keep_failUnit {M : Nat} {s₀ : State} (hM : M ||| 2178 = M) (s : State) (u : Nat) (h0 : Keep M s₀ s) :
    Keep M s₀ (State.failUnit s u) := by
  unfold State.failUnit
  try dsimp only
  repeat' first
    | intro _
    | with_reducible (first | assumption | apply keep_ite | apply keep_retryCount | apply keep_loseD | apply keep_requeue
                            | apply keep_rewind | apply keep_foldl | exact sub_trans rfl hM)
    | split

/-! ### UnitOps -/

theorem keep_flushOut {M : Nat} {s₀ : State} (hM : M ||| 1024 = M) (s : State) (t k : Nat) (h0 : Keep M s₀ s) :
    Keep M s₀ (State.flushOut s t k) := by
  unfold State.flushOut
  try dsimp only
  repeat' first
    | with_reducible (first | assumption | apply keep_setTile | exact sub_trans rfl hM)
    | split

theorem keep_flushTile {M : Nat} {s₀ : State} (hM : M ||| 1024 = M) (s : State) (t : Nat) (h0 : Keep M s₀ s) :
    Keep M s₀ (State.flushTile s t) := by
  unfold State.flushTile
  try dsimp only
  repeat' first
    | intro _
    | with_reducible (first | assumption | apply keep_flushOut | apply keep_foldl | exact sub_trans rfl hM)

theorem keep_suspSync {M : Nat} {s₀ : State} (hM : M ||| 2 = M) (s : State) (t : Nat) (h0 : Keep M s₀ s) :
    Keep M s₀ (State.suspSync s t) := by
  unfold State.suspSync
  try dsimp only
  repeat' first
    | with_reducible (first | assumption | apply keep_ite | apply keep_put | exact sub_trans rfl hM)
    | split

theorem keep_stopAdc {M : Nat} {s₀ : State} (hM : M ||| 1026 = M) (s : State) (t : Nat) (h0 : Keep M s₀ s) :
    Keep M s₀ (State.stopAdc s t) := by
  unfold State.stopAdc
  try dsimp only
  repeat' first
    | with_reducible (first | assumption | apply keep_flushTile | apply keep_modTile | apply keep_putB | apply keep_suspSync
                            | exact sub_trans rfl hM)

theorem keep_endProc {M : Nat} {s₀ : State} (hM : M ||| 130 = M) (s : State) (t reason : Nat) (h0 : Keep M s₀ s) :
    Keep M s₀ (State.endProc s t reason) := by
  unfold State.endProc
  try dsimp only
  repeat' first
    | with_reducible (first | assumption | apply keep_ite | apply keep_put | apply keep_event | apply keep_done
                            | exact sub_trans rfl hM)
    | split

theorem keep_endWork {M : Nat} {s₀ : State} (hM : M ||| 1154 = M) (s : State) (t result : Nat) (h0 : Keep M s₀ s) :
    Keep M s₀ (State.endWork s t result) := by
  unfold State.endWork
  try dsimp only
  repeat' first
    | with_reducible (first | assumption | apply keep_modTile | apply keep_putB | apply keep_put | apply keep_done
                            | exact sub_trans rfl hM)

theorem keep_abortProc {M : Nat} {s₀ : State} (hM : M ||| 130 = M) (s : State) (t last : Nat) (h0 : Keep M s₀ s) :
    Keep M s₀ (State.abortProc s t last) := by
  unfold State.abortProc
  try dsimp only
  repeat' first
    | with_reducible (first | assumption | apply keep_ite | apply keep_endProc | exact sub_trans rfl hM)
    | split

theorem keep_abortCal {M : Nat} {s₀ : State} (hM : M ||| 1154 = M) (s : State) (t : Nat) (last : Nat) (h0 : Keep M s₀ s) :
    Keep M s₀ (State.abortCal s t last) := by
  unfold State.abortCal
  try dsimp only
  repeat' first
    | with_reducible (first | assumption | apply keep_ite | apply keep_abortProc | apply keep_endWork | exact sub_trans rfl hM)
    | split

theorem keep_containTile {M : Nat} {s₀ : State} (hM : M ||| 3970 = M) (s : State) (t : Nat) (h0 : Keep M s₀ s) :
    Keep M s₀ (State.containTile s t) := by
  unfold State.containTile
  try dsimp only
  repeat' first
    | intro _
    | with_reducible (first | assumption | apply keep_tileOutFault | apply keep_stopAdc | apply keep_abortCal | apply keep_putB
                            | apply keep_eachPin | apply keep_syncDout | apply keep_failUnit | exact sub_trans rfl hM)

theorem keep_dropEngine {M : Nat} {s₀ : State} (hM : M ||| 8194 = M) (s : State) (e : Nat) (h0 : Keep M s₀ s) :
    Keep M s₀ (State.dropEngine s e) := by
  unfold State.dropEngine
  try dsimp only
  repeat' first
    | with_reducible (first | assumption | apply keep_modEng | apply keep_putB | apply keep_put | exact sub_trans rfl hM)

theorem keep_setDma {M : Nat} {s₀ : State} (hM : M ||| 16384 = M) (s : State) (c j : Nat) (x : DmaSt) (h0 : Keep M s₀ s) :
    Keep M s₀ (State.setDma s c j x) := by
  unfold State.setDma
  try dsimp only
  repeat' first
    | with_reducible (first | assumption | exact sub_trans rfl hM)
    | exact .inl (sub_bit rfl hM)
    | with_reducible (first | exact .inr rfl | exact .inr ⟨rfl, rfl⟩ | exact .inr ⟨rfl, rfl, rfl⟩)
    | split
    | with_reducible apply keep_mk

theorem keep_modDma {M : Nat} {s₀ : State} (hM : M ||| 16384 = M) (s : State) (c j : Nat) (f : DmaSt → DmaSt) (h0 : Keep M s₀ s) :
    Keep M s₀ (State.modDma s c j f) := by
  unfold State.modDma
  try dsimp only
  repeat' first
    | with_reducible (first | assumption | apply keep_setDma | exact sub_trans rfl hM)

theorem keep_dropDma {M : Nat} {s₀ : State} (hM : M ||| 16386 = M) (s : State) (c : Nat) (h0 : Keep M s₀ s) :
    Keep M s₀ (State.dropDma s c) := by
  unfold State.dropDma
  try dsimp only
  repeat' first
    | intro _
    | with_reducible (first | assumption | apply keep_modDma | apply keep_putB | apply keep_put | apply keep_foldl
                            | exact sub_trans rfl hM)

theorem keep_containEngine {M : Nat} {s₀ : State} (hM : M ||| 10370 = M) (s : State) (e : Nat) (h0 : Keep M s₀ s) :
    Keep M s₀ (State.containEngine s e) := by
  unfold State.containEngine
  try dsimp only
  repeat' first
    | with_reducible (first | assumption | apply keep_putB | apply keep_dropEngine | apply keep_failUnit
                            | exact sub_trans rfl hM)

theorem keep_latchSafe {M : Nat} {s₀ : State} (hM : M ||| 66434 = M) (s : State) (r : Nat) (h0 : Keep M s₀ s) :
    Keep M s₀ (State.latchSafe s r) := by
  unfold State.latchSafe
  try dsimp only
  repeat' first
    | intro _
    | with_reducible (first | assumption | apply keep_ite | apply keep_eachTilePin | apply keep_modPin | apply keep_syncDout
                            | apply keep_modGio | apply keep_foldl | exact sub_trans rfl hM)
    | split

theorem keep_holdCounters {M : Nat} {s₀ : State} (hM : M ||| 65536 = M) (s : State) (r : Nat) (h0 : Keep M s₀ s) :
    Keep M s₀ (State.holdCounters s r) := by
  unfold State.holdCounters
  try dsimp only
  repeat' first
    | intro _
    | with_reducible (first | assumption | apply keep_ite | apply keep_modGio | apply keep_foldl | exact sub_trans rfl hM)
    | split

theorem keep_closeGirth {M : Nat} {s₀ : State} (hM : M ||| 68482 = M) (s : State) (r st : Nat) (h0 : Keep M s₀ s) :
    Keep M s₀ (State.closeGirth s r st) := by
  unfold State.closeGirth
  try dsimp only
  repeat' first
    | intro _
    | with_reducible (first | assumption | apply keep_ite | apply keep_put | apply keep_putIdx | apply keep_latchSafe
                            | apply keep_holdCounters | apply keep_modCnt | apply keep_eventInst | apply keep_foldl
                            | exact sub_trans rfl hM)
    | exact .inl (sub_bit rfl hM)
    | with_reducible (first | exact .inr rfl | exact .inr ⟨rfl, rfl⟩ | exact .inr ⟨rfl, rfl, rfl⟩)
    | split
    | with_reducible apply keep_mk

theorem keep_transmit {M : Nat} {s₀ : State} (hM : M ||| 4226 = M) (s : State) (p : Nat) (m : LatMsg) (h0 : Keep M s₀ s) :
    Keep M s₀ (State.transmit s p m) := by
  unfold State.transmit
  try dsimp only
  repeat' first
    | with_reducible (first | assumption | apply keep_ite | apply keep_setPort | apply keep_eventInst | exact sub_trans rfl hM)
    | split

theorem keep_pumpPort {M : Nat} {s0 : State} (hM : M ||| 4226 = M) (n : Nat) (s : State) (p : Nat) (h0 : Keep M s0 s) : Keep M s0 (State.pumpPort n s p) := by
  induction n generalizing s with
  | zero => exact h0
  | succ n ih =>
    unfold State.pumpPort
    dsimp only
    split
    · exact h0
    · exact ih _ (keep_transmit (sub_trans rfl hM) _ _ _ (keep_modPort (sub_trans rfl hM) _ _ _ h0))

theorem keep_latSend {M : Nat} {s₀ : State} (hM : M ||| 4226 = M) (s : State) (p : Nat) (m : LatMsg) (h0 : Keep M s₀ s) :
    Keep M s₀ (State.latSend s p m) := by
  unfold State.latSend
  try dsimp only
  repeat' first
    | with_reducible (first | assumption | apply keep_ite | apply keep_modPort | apply keep_pumpPort | exact sub_trans rfl hM)
    | split

theorem keep_faultFrames {M : Nat} {s₀ : State} (hM : M ||| 4226 = M) (s : State) (cls cause source : Nat) (h0 : Keep M s₀ s) :
    Keep M s₀ (State.faultFrames s cls cause source) := by
  unfold State.faultFrames
  try dsimp only
  repeat' first
    | with_reducible (first | assumption | apply keep_latSend | exact sub_trans rfl hM)

theorem keep_setLoad {M : Nat} {s₀ : State} (hM : M ||| 130 = M) (s : State) (st : Nat) (h0 : Keep M s₀ s) :
    Keep M s₀ (State.setLoad s st) := by
  unfold State.setLoad
  try dsimp only
  repeat' first
    | with_reducible (first | assumption | apply keep_ite | apply keep_put | apply keep_srcFire | exact sub_trans rfl hM)
    | split

theorem keep_endReload {M : Nat} {s₀ : State} (hM : M ||| 65666 = M) (s : State) (result : Nat) (h0 : Keep M s₀ s) :
    Keep M s₀ (State.endReload s result) := by
  unfold State.endReload
  try dsimp only
  repeat' first
    | with_reducible (first | assumption | apply keep_putB | apply keep_put | apply keep_done | exact sub_trans rfl hM)
    | exact .inl (sub_bit rfl hM)
    | with_reducible (first | exact .inr rfl | exact .inr ⟨rfl, rfl⟩ | exact .inr ⟨rfl, rfl, rfl⟩)
    | split
    | with_reducible apply keep_mk

theorem keep_abortReload {M : Nat} {s₀ : State} (hM : M ||| 67714 = M) (s : State) (h0 : Keep M s₀ s) :
    Keep M s₀ (State.abortReload s) := by
  unfold State.abortReload
  try dsimp only
  repeat' first
    | with_reducible (first | assumption | apply keep_ite | apply keep_endReload | exact sub_trans rfl hM)
    | exact .inl (sub_bit rfl hM)
    | with_reducible (first | exact .inr rfl | exact .inr ⟨rfl, rfl⟩ | exact .inr ⟨rfl, rfl, rfl⟩)
    | split
    | with_reducible apply keep_mk

/-! ### Records -/

theorem keep_setActive {M : Nat} {s₀ : State} (hM : M ||| 194 = M) (s : State) (r : Src) (cls rseq cause : Nat)
    (h0 : Keep M s₀ s) :
    Keep M s₀ (State.setActive s r cls rseq cause) := by
  unfold State.setActive
  try dsimp only
  repeat' first
    | with_reducible (first | assumption | apply keep_ite | apply keep_pend | exact sub_trans rfl hM)
    | exact .inl (sub_bit rfl hM)
    | with_reducible (first | exact .inr rfl | exact .inr ⟨rfl, rfl⟩ | exact .inr ⟨rfl, rfl, rfl⟩)
    | split
    | with_reducible apply keep_mk

theorem keep_endActive {M : Nat} {s₀ : State} (hM : M ||| 64 = M) (s : State) (p : ActSrc → Bool) (h0 : Keep M s₀ s) :
    Keep M s₀ (State.endActive s p) := by
  unfold State.endActive
  try dsimp only
  repeat' first
    | with_reducible (first | assumption | exact sub_trans rfl hM)
    | exact .inl (sub_bit rfl hM)
    | with_reducible (first | exact .inr rfl | exact .inr ⟨rfl, rfl⟩ | exact .inr ⟨rfl, rfl, rfl⟩)
    | split
    | with_reducible apply keep_mk

theorem keep_ackSource {M : Nat} {s₀ : State} (hM : M ||| 64 = M) (s : State) (unit sub : Nat) (h0 : Keep M s₀ s) :
    Keep M s₀ (State.ackSource s unit sub) := by
  unfold State.ackSource
  try dsimp only
  repeat' first
    | with_reducible (first | assumption | apply keep_endActive | exact sub_trans rfl hM)

theorem keep_ackCause {M : Nat} {s₀ : State} (hM : M ||| 64 = M) (s : State) (unit sub : Nat) (causes : List Nat)
    (h0 : Keep M s₀ s) :
    Keep M s₀ (State.ackCause s unit sub causes) := by
  unfold State.ackCause
  try dsimp only
  repeat' first
    | with_reducible (first | assumption | apply keep_endActive | exact sub_trans rfl hM)

theorem keep_countRecord {M : Nat} {s₀ : State} (hM : M ||| 66690 = M) (s : State) (cls : Nat) (esc : Bool) (h0 : Keep M s₀ s) :
    Keep M s₀ (State.countRecord s cls esc) := by
  unfold State.countRecord
  try dsimp only
  repeat' first
    | with_reducible (first | assumption | apply keep_ite | apply keep_event | apply keep_trigSource | apply keep_srcFire
                            | exact sub_trans rfl hM)
    | split

theorem keep_lastRecord {M : Nat} {s₀ : State} (hM : M ||| 130 = M) (s : State) (r : FltRec) (p : Page) (h0 : Keep M s₀ s) :
    Keep M s₀ (State.lastRecord s r p) := by
  unfold State.lastRecord
  try dsimp only
  repeat' first
    | with_reducible (first | assumption | apply keep_ite | apply keep_put | apply keep_putB | apply keep_pend
                            | exact sub_trans rfl hM)
    | split

theorem keep_report {M : Nat} {s₀ : State} (hM : M ||| 66 = M) (s : State) (e : AerReport) (h0 : Keep M s₀ s) :
    Keep M s₀ (State.report s e) := by
  unfold State.report
  try dsimp only
  repeat' first
    | with_reducible (first | assumption | apply keep_ite | apply keep_putB | apply keep_putIdx | exact sub_trans rfl hM)
    | exact .inl (sub_bit rfl hM)
    | with_reducible (first | exact .inr rfl | exact .inr ⟨rfl, rfl⟩ | exact .inr ⟨rfl, rfl, rfl⟩)
    | split
    | with_reducible apply keep_mk

theorem keep_pushFifo {M : Nat} {s₀ : State} (hM : M ||| 64 = M) (s : State) (r : FltRec) (h0 : Keep M s₀ s) :
    Keep M s₀ (State.pushFifo s r) := by
  unfold State.pushFifo
  try dsimp only
  repeat' first
    | with_reducible (first | assumption | exact sub_trans rfl hM)
    | exact .inl (sub_bit rfl hM)
    | with_reducible (first | exact .inr rfl | exact .inr ⟨rfl, rfl⟩ | exact .inr ⟨rfl, rfl, rfl⟩)
    | split
    | with_reducible apply keep_mk

theorem keep_place {M : Nat} {s₀ : State} (hM : M ||| 66754 = M) (s : State) (r : Src) (fr : FltRec) (h0 : Keep M s₀ s) :
    Keep M s₀ (State.place s r fr).1 := by
  unfold State.place
  try dsimp only
  repeat' first
    | with_reducible (first | assumption | apply keep_ite | apply keep_lastRecord | apply keep_countRecord | apply keep_logAdd
                            | apply keep_record | apply keep_pushFifo | apply keep_bump | apply keep_event | apply keep_srcFire
                            | apply keep_putB | apply keep_setActive | exact sub_trans rfl hM)
    | exact .inl (sub_bit rfl hM)
    | with_reducible (first | exact .inr rfl | exact .inr ⟨rfl, rfl⟩ | exact .inr ⟨rfl, rfl, rfl⟩)
    | split
    | with_reducible apply keep_mk

theorem keep_record {M : Nat} {s₀ : State} (hM : M ||| 66754 = M) (s : State) (r : Src) (orig cause info : Nat) (remote : Bool)
    (h0 : Keep M s₀ s) :
    Keep M s₀ (State.record s r orig cause info remote).1 := by
  unfold State.record
  try dsimp only
  repeat' first
    | intro _
    | with_reducible (first | assumption | apply keep_ite | apply keep_place | apply keep_srcFire | apply keep_foldl
                            | exact sub_trans rfl hM)
    | split

/-! ### Attach -/

theorem keep_settleSlot {M : Nat} {s₀ : State} (hM : M ||| 2 = M) (s : State) (t k cnt : Nat) (h0 : Keep M s₀ s) :
    Keep M s₀ (State.settleSlot s t k cnt) := by
  unfold State.settleSlot
  try dsimp only
  repeat' first
    | with_reducible (first | assumption | apply keep_put | exact sub_trans rfl hM)

theorem keep_settleSrc {M : Nat} {s₀ : State} (hM : M ||| 2 = M) (s : State) (t src cnt : Nat) (h0 : Keep M s₀ s) :
    Keep M s₀ (State.settleSrc s t src cnt) := by
  unfold State.settleSrc
  try dsimp only
  repeat' first
    | intro _
    | with_reducible (first | assumption | apply keep_ite | apply keep_settleSlot | apply keep_foldl | exact sub_trans rfl hM)
    | split

theorem keep_settleAll {M : Nat} {s₀ : State} (hM : M ||| 2 = M) (s : State) (t cnt : Nat) (h0 : Keep M s₀ s) :
    Keep M s₀ (State.settleAll s t cnt) := by
  unfold State.settleAll
  try dsimp only
  repeat' first
    | intro _
    | with_reducible (first | assumption | apply keep_settleSlot | apply keep_foldl | exact sub_trans rfl hM)

theorem keep_afeStat {M : Nat} {s₀ : State} (hM : M ||| 2 = M) (s : State) (t n : Nat) (h0 : Keep M s₀ s) :
    Keep M s₀ (State.afeStat s t n) := by
  unfold State.afeStat
  try dsimp only
  repeat' first
    | with_reducible (first | assumption | apply keep_putIdx | exact sub_trans rfl hM)

theorem keep_cmpSync {M : Nat} {s₀ : State} (hM : M ||| 512 = M) (s : State) (t n : Nat) (h0 : Keep M s₀ s) :
    Keep M s₀ (State.cmpSync s t n) := by
  unfold State.cmpSync
  try dsimp only
  repeat' first
    | with_reducible (first | assumption | apply keep_ite | apply keep_modPin | exact sub_trans rfl hM)
    | split

theorem keep_dinSync {M : Nat} {s₀ : State} (hM : M ||| 512 = M) (s : State) (t n : Nat) (h0 : Keep M s₀ s) :
    Keep M s₀ (State.dinSync s t n) := by
  unfold State.dinSync
  try dsimp only
  repeat' first
    | with_reducible (first | assumption | apply keep_ite | apply keep_modPin | exact sub_trans rfl hM)
    | split

theorem keep_zeroSync {M : Nat} {s₀ : State} (hM : M ||| 512 = M) (s : State) (t n : Nat) (h0 : Keep M s₀ s) :
    Keep M s₀ (State.zeroSync s t n) := by
  unfold State.zeroSync
  try dsimp only
  repeat' first
    | with_reducible (first | assumption | apply keep_ite | apply keep_modPin | exact sub_trans rfl hM)
    | split

theorem keep_wireSync {M : Nat} {s₀ : State} (hM : M ||| 2 = M) (s : State) (t n : Nat) (h0 : Keep M s₀ s) :
    Keep M s₀ (State.wireSync s t n) := by
  unfold State.wireSync
  try dsimp only
  repeat' first
    | with_reducible (first | assumption | apply keep_putB | exact sub_trans rfl hM)

theorem keep_critLive {M : Nat} {s₀ : State} (hM : M ||| 642 = M) (s : State) (t n : Nat) (c : Crit) (h0 : Keep M s₀ s) :
    Keep M s₀ (State.critLive s t n c) := by
  unfold State.critLive
  try dsimp only
  repeat' first
    | with_reducible (first | assumption | apply keep_ite | apply keep_modPin | apply keep_putB | apply keep_wireSync
                            | apply keep_event | exact sub_trans rfl hM)
    | split

theorem keep_critGone {M : Nat} {s₀ : State} (hM : M ||| 514 = M) (s : State) (t n : Nat) (c : Crit) (h0 : Keep M s₀ s) :
    Keep M s₀ (State.critGone s t n c) := by
  unfold State.critGone
  try dsimp only
  repeat' first
    | with_reducible (first | assumption | apply keep_ite | apply keep_modPin | apply keep_putB | apply keep_wireSync
                            | exact sub_trans rfl hM)
    | split

theorem keep_releaseCore {M : Nat} {s₀ : State} (hM : M ||| 2 = M) (s : State) (t n : Nat) (h0 : Keep M s₀ s) :
    Keep M s₀ (State.releaseCore s t n) := by
  unfold State.releaseCore
  try dsimp only
  repeat' first
    | with_reducible (first | assumption | apply keep_putB | exact sub_trans rfl hM)
    | split

theorem keep_assignCore {M : Nat} {s₀ : State} (hM : M ||| 2 = M) (s : State) (t n : Nat) (h0 : Keep M s₀ s) :
    Keep M s₀ (State.assignCore s t n) := by
  unfold State.assignCore
  try dsimp only
  repeat' first
    | with_reducible (first | assumption | apply keep_ite | apply keep_put | apply keep_putB | exact sub_trans rfl hM)
    | split

theorem keep_laneConflict {M : Nat} {s₀ : State} (hM : M ||| 66754 = M) (s : State) (t : Nat) (f : Field) (h0 : Keep M s₀ s) :
    Keep M s₀ (State.laneConflict s t f) := by
  unfold State.laneConflict
  try dsimp only
  repeat' first
    | with_reducible (first | assumption | apply keep_putB | apply keep_record | exact sub_trans rfl hM)

theorem keep_checkDrv {M : Nat} {s₀ : State} (hM : M ||| 66754 = M) (s : State) (t k : Nat) (h0 : Keep M s₀ s) :
    Keep M s₀ (State.checkDrv s t k) := by
  unfold State.checkDrv
  try dsimp only
  repeat' first
    | with_reducible (first | assumption | apply keep_ite | apply keep_modTile | apply keep_laneConflict
                            | exact sub_trans rfl hM)
    | split

theorem keep_checkSeg {M : Nat} {s₀ : State} (hM : M ||| 66754 = M) (s : State) (t l : Nat) (h0 : Keep M s₀ s) :
    Keep M s₀ (State.checkSeg s t l) := by
  unfold State.checkSeg
  try dsimp only
  repeat' first
    | with_reducible (first | assumption | apply keep_ite | apply keep_modTile | apply keep_laneConflict
                            | exact sub_trans rfl hM)
    | split

theorem keep_openDrv {M : Nat} {s₀ : State} (hM : M ||| 1024 = M) (s : State) (t k : Nat) (h0 : Keep M s₀ s) :
    Keep M s₀ (State.openDrv s t k) := by
  unfold State.openDrv
  try dsimp only
  repeat' first
    | with_reducible (first | assumption | apply keep_ite | apply keep_modTile | exact sub_trans rfl hM)
    | split

theorem keep_closeDrv {M : Nat} {s₀ : State} (hM : M ||| 1024 = M) (s : State) (t k : Nat) (h0 : Keep M s₀ s) :
    Keep M s₀ (State.closeDrv s t k) := by
  unfold State.closeDrv
  try dsimp only
  repeat' first
    | with_reducible (first | assumption | apply keep_ite | apply keep_modTile | exact sub_trans rfl hM)
    | split

theorem keep_laneCommit {M : Nat} {s₀ : State} (hM : M ||| 66754 = M) (s : State) (t : Nat) (segs drvs : Bool)
    (h0 : Keep M s₀ s) :
    Keep M s₀ (State.laneCommit s t segs drvs) := by
  unfold State.laneCommit
  try dsimp only
  repeat' first
    | intro _
    | with_reducible (first | assumption | apply keep_ite | apply keep_put | apply keep_openDrv | apply keep_setTile
                            | apply keep_checkDrv | apply keep_checkSeg | apply keep_putB | apply keep_foldl
                            | exact sub_trans rfl hM)
    | split

theorem keep_settleNet {M : Nat} {s₀ : State} (hM : M ||| 2 = M) (s : State) (t l : Nat) (h0 : Keep M s₀ s) :
    Keep M s₀ (State.settleNet s t l) := by
  unfold State.settleNet
  try dsimp only
  repeat' first
    | intro _
    | with_reducible (first | assumption | apply keep_ite | apply keep_settleSrc | apply keep_foldl | exact sub_trans rfl hM)
    | split

theorem keep_laneClose {M : Nat} {s₀ : State} (hM : M ||| 1026 = M) (s : State) (t : Nat) (h0 : Keep M s₀ s) :
    Keep M s₀ (State.laneClose s t) := by
  unfold State.laneClose
  try dsimp only
  repeat' first
    | intro _
    | with_reducible (first | assumption | apply keep_ite | apply keep_put | apply keep_setTile | apply keep_putB
                            | apply keep_settleSrc | apply keep_settleNet | apply keep_foldl | exact sub_trans rfl hM)
    | split

theorem keep_attachDrv {M : Nat} {s₀ : State} (hM : M ||| 66754 = M) (s : State) (t k : Nat) (h0 : Keep M s₀ s) :
    Keep M s₀ (State.attachDrv s t k) := by
  unfold State.attachDrv
  try dsimp only
  repeat' first
    | with_reducible (first | assumption | apply keep_ite | apply keep_checkDrv | apply keep_closeDrv | apply keep_settleNet
                            | exact sub_trans rfl hM)
    | split

theorem keep_laneOff {M : Nat} {s₀ : State} (hM : M ||| 1538 = M) (s : State) (t : Nat) (h0 : Keep M s₀ s) :
    Keep M s₀ (State.laneOff s t) := by
  unfold State.laneOff
  try dsimp only
  repeat' first
    | intro _
    | with_reducible (first | assumption | apply keep_put | apply keep_putB | apply keep_modTile | apply keep_eachPin
                            | apply keep_modPin | exact sub_trans rfl hM)

theorem keep_laneOn {M : Nat} {s₀ : State} (hM : M ||| 67266 = M) (s : State) (t : Nat) (h0 : Keep M s₀ s) :
    Keep M s₀ (State.laneOn s t) := by
  unfold State.laneOn
  try dsimp only
  repeat' first
    | intro _
    | with_reducible (first | assumption | apply keep_eachPin | apply keep_modPin | apply keep_laneCommit
                            | exact sub_trans rfl hM)

theorem keep_finishCommit {M : Nat} {s₀ : State} (hM : M ||| 130 = M) (s : State) (p : Page) (h0 : Keep M s₀ s) :
    Keep M s₀ (State.finishCommit s p) := by
  unfold State.finishCommit
  try dsimp only
  repeat' first
    | with_reducible (first | assumption | apply keep_ite | apply keep_commitsUp | apply keep_pend | exact sub_trans rfl hM)
    | split

theorem keep_outFinish {M : Nat} {s₀ : State} (hM : M ||| 130 = M) (s : State) (t : Nat) (h0 : Keep M s₀ s) :
    Keep M s₀ (State.outFinish s t) := by
  unfold State.outFinish
  try dsimp only
  repeat' first
    | with_reducible (first | assumption | apply keep_ite | apply keep_finishCommit | exact sub_trans rfl hM)
    | split

theorem keep_abandonSwitch {M : Nat} {s₀ : State} (hM : M ||| 514 = M) (s : State) (t n : Nat) (h0 : Keep M s₀ s) :
    Keep M s₀ (State.abandonSwitch s t n) := by
  unfold State.abandonSwitch
  try dsimp only
  repeat' first
    | with_reducible (first | assumption | apply keep_ite | apply keep_putB | apply keep_put | apply keep_modPin
                            | apply keep_releaseCore | apply keep_afeStat | exact sub_trans rfl hM)
    | split

theorem keep_abandonSwitches {M : Nat} {s₀ : State} (hM : M ||| 642 = M) (s : State) (t : Nat) (h0 : Keep M s₀ s) :
    Keep M s₀ (State.abandonSwitches s t) := by
  unfold State.abandonSwitches
  try dsimp only
  repeat' first
    | intro _
    | with_reducible (first | assumption | apply keep_ite | apply keep_eachPin | apply keep_abandonSwitch
                            | apply keep_finishCommit | exact sub_trans rfl hM)
    | split

theorem keep_attach {M : Nat} {s₀ : State} (hM : M ||| 67522 = M) (s : State) (t n : Nat) (h0 : Keep M s₀ s) :
    Keep M s₀ (State.attach s t n) := by
  unfold State.attach
  try dsimp only
  repeat' first
    | intro _
    | with_reducible (first | assumption | apply keep_ite | apply keep_assignCore | apply keep_putB | apply keep_put
                            | apply keep_outAttach | apply keep_modPin | apply keep_critLive | apply keep_critGone
                            | apply keep_syncDout | apply keep_afeStat | apply keep_cmpSync | apply keep_dinSync
                            | apply keep_zeroSync | apply keep_settleSrc | apply keep_attachDrv | apply keep_finishCommit
                            | apply keep_foldl | exact sub_trans rfl hM)
    | split

/-! ### Faults -/

theorem keep_contain {M : Nat} {s₀ : State} (hM : M ||| 94146 = M) (s : State) (u : Nat) (h0 : Keep M s₀ s) :
    Keep M s₀ (State.contain s u) := by
  unfold State.contain
  try dsimp only
  repeat' first
    | with_reducible (first | assumption | apply keep_ite | apply keep_containTile | apply keep_containEngine
                            | apply keep_dropDma | apply keep_failUnit | apply keep_closeGirth | exact sub_trans rfl hM)
    | exact .inl (sub_bit rfl hM)
    | with_reducible (first | exact .inr rfl | exact .inr ⟨rfl, rfl⟩ | exact .inr ⟨rfl, rfl, rfl⟩)
    | split
    | with_reducible apply keep_mk

theorem keep_failLoad {M : Nat} {s₀ : State} (hM : M ||| 528514 = M) (s : State) (code pos : Nat) (h0 : Keep M s₀ s) :
    Keep M s₀ (State.failLoad s code pos) := by
  unfold State.failLoad
  try dsimp only
  repeat' first
    | with_reducible (first | assumption | apply keep_ite | apply keep_put | apply keep_setLoad | apply keep_latSend
                            | exact sub_trans rfl hM)
    | exact .inl (sub_bit rfl hM)
    | with_reducible (first | exact .inr rfl | exact .inr ⟨rfl, rfl⟩ | exact .inr ⟨rfl, rfl, rfl⟩)
    | split
    | with_reducible apply keep_mk

theorem keep_loadMeetsC4 {M : Nat} {s₀ : State} (hM : M ||| 595138 = M) (s : State) (pos : Nat) (h0 : Keep M s₀ s) :
    Keep M s₀ (State.loadMeetsC4 s pos) := by
  unfold State.loadMeetsC4
  try dsimp only
  repeat' first
    | with_reducible (first | assumption | apply keep_ite | apply keep_failLoad | apply keep_record | exact sub_trans rfl hM)
    | exact .inl (sub_bit rfl hM)
    | with_reducible (first | exact .inr rfl | exact .inr ⟨rfl, rfl⟩ | exact .inr ⟨rfl, rfl, rfl⟩)
    | split
    | with_reducible apply keep_mk

theorem keep_enterC4 {M : Nat} {s₀ : State} (hM : M ||| 597954 = M) (s : State) (cause unit pos : Nat) (h0 : Keep M s₀ s) :
    Keep M s₀ (State.enterC4 s cause unit pos) := by
  unfold State.enterC4
  try dsimp only
  repeat' first
    | intro _
    | with_reducible (first | assumption | apply keep_ite | apply keep_faultFrames | apply keep_loadMeetsC4 | apply keep_report
                            | apply keep_putB | apply keep_put | apply keep_srcFire | apply keep_trigSource
                            | apply keep_eachTilePin | apply keep_attach | apply keep_abortCal | apply keep_allOutFault
                            | apply keep_abortReload | apply keep_foldl | exact sub_trans rfl hM)
    | exact .inl (sub_bit rfl hM)
    | with_reducible (first | exact .inr rfl | exact .inr ⟨rfl, rfl⟩ | exact .inr ⟨rfl, rfl, rfl⟩)
    | split
    | with_reducible apply keep_mk

theorem keep_exitC4 {M : Nat} {s₀ : State} (hM : M ||| 962 = M) (s : State) (h0 : Keep M s₀ s) : Keep M s₀ (State.exitC4 s) := by
  unfold State.exitC4
  try dsimp only
  repeat' first
    | intro _
    | with_reducible (first | assumption | apply keep_ite | apply keep_put | apply keep_putB | apply keep_srcFire
                            | apply keep_eachTilePin | apply keep_syncDout | exact sub_trans rfl hM)
    | exact .inl (sub_bit rfl hM)
    | with_reducible (first | exact .inr rfl | exact .inr ⟨rfl, rfl⟩ | exact .inr ⟨rfl, rfl, rfl⟩)
    | split
    | with_reducible apply keep_mk

theorem keep_raise {M : Nat} {s₀ : State} (hM : M ||| 622530 = M) (s : State) (r : Src) (orig cause info : Nat) (remote : Bool)
    (h0 : Keep M s₀ s) :
    Keep M s₀ (State.raise s r orig cause info remote) := by
  unfold State.raise
  try dsimp only
  repeat' first
    | with_reducible (first | assumption | apply keep_ite | apply keep_record | apply keep_contain | apply keep_enterC4
                            | exact sub_trans rfl hM)
    | split

theorem keep_refuseNotOwner {M : Nat} {s₀ : State} (hM : M ||| 622530 = M) (s : State) (p : Page) (w : Writer)
    (h0 : Keep M s₀ s) :
    Keep M s₀ (State.refuseNotOwner s p w) := by
  unfold State.refuseNotOwner
  try dsimp only
  repeat' first
    | with_reducible (first | assumption | apply keep_refuse | apply keep_event | apply keep_raise | exact sub_trans rfl hM)
    | split

theorem keep_byOwner {M : Nat} {s₀ : State} (hM : M ||| 622530 = M) (s : State) (w : Writer) (p : Page) (f : State → State) (hf : ∀ (x0 : State), Keep M s₀ x0 → Keep M s₀ (f x0))
    (h0 : Keep M s₀ s) :
    Keep M s₀ (State.byOwner s w p f) := by
  unfold State.byOwner
  try dsimp only
  repeat' first
    | with_reducible (first | assumption | apply keep_ite | apply keep_refuseNotOwner | apply hf | exact sub_trans rfl hM)
    | split

end Sys2Proof.Machine
end

