-- ==== Sys2Proof/Laws/KeepUnits.lean ====
section
/-! SUPPORT. The frames of the operations and commands of pins, calibration, memory, engines, streams and the fabric: which parts of the state each may change, and that the
register bank and the memories keep their canonical form. -/

set_option maxRecDepth 10000

namespace Sys2Proof.Machine

/-! ### PinOps -/

theorem keep_refusePin {M : Nat} {s₀ : State} (hM : M ||| 622530 = M) (s : State) (w : Writer) (t n : Nat) (h0 : Keep M s₀ s) :
    Keep M s₀ (State.refusePin s w t n) := by
  unfold State.refusePin
  try dsimp only
  repeat' first
    | with_reducible (first | assumption | apply keep_putB | apply keep_event | apply keep_raise | exact sub_trans rfl hM)

theorem keep_byPin {M : Nat} {s₀ : State} (hM : M ||| 622530 = M) (s : State) (w : Writer) (t n : Nat) (f : State → State) (hf : ∀ (x0 : State), Keep M s₀ x0 → Keep M s₀ (f x0))
    (h0 : Keep M s₀ s) :
    Keep M s₀ (State.byPin s w t n f) := by
  unfold State.byPin
  try dsimp only
  repeat' first
    | with_reducible (first | assumption | apply keep_ite | apply keep_refusePin | apply hf | exact sub_trans rfl hM)
    | split

theorem keep_pinBits {M : Nat} {s₀ : State} (hM : M ||| 622530 = M) (s : State) (w : Writer) (t : Nat) (f : Field) (mask v : Nat)
    (h0 : Keep M s₀ s) :
    Keep M s₀ (State.pinBits s w t f mask v) := by
  unfold State.pinBits
  try dsimp only
  repeat' first
    | intro _
    | with_reducible (first | assumption | apply keep_ite | apply keep_eachPin | apply keep_byPin | apply keep_putIdx
                            | exact sub_trans rfl hM)
    | split

theorem keep_armEnables {M : Nat} {s₀ : State} (hM : M ||| 512 = M) (s : State) (w : Writer) (t v : Nat) (h0 : Keep M s₀ s) :
    Keep M s₀ (State.armEnables s w t v) := by
  unfold State.armEnables
  try dsimp only
  repeat' first
    | intro _
    | with_reducible (first | assumption | apply keep_ite | apply keep_eachPin | apply keep_modPin | exact sub_trans rfl hM)
    | split

theorem keep_syncTile {M : Nat} {s₀ : State} (hM : M ||| 898 = M) (s : State) (t : Nat) (h0 : Keep M s₀ s) :
    Keep M s₀ (State.syncTile s t) := by
  unfold State.syncTile
  try dsimp only
  repeat' first
    | intro _
    | with_reducible (first | assumption | apply keep_eachPin | apply keep_syncDout | exact sub_trans rfl hM)

theorem keep_critMet {M : Nat} {s₀ : State} (hM : M ||| 622530 = M) (s : State) (t n : Nat) (c : Crit) (h0 : Keep M s₀ s) :
    Keep M s₀ (State.critMet s t n c) := by
  unfold State.critMet
  try dsimp only
  repeat' first
    | with_reducible (first | assumption | apply keep_ite | apply keep_critLive | apply keep_raise | exact sub_trans rfl hM)
    | split

theorem keep_detach {M : Nat} {s₀ : State} (hM : M ||| 1922 = M) (s : State) (t n next : Nat) (h0 : Keep M s₀ s) :
    Keep M s₀ (State.detach s t n next) := by
  unfold State.detach
  try dsimp only
  repeat' first
    | intro _
    | with_reducible (first | assumption | apply keep_ite | apply keep_outDetach | apply keep_releaseCore | apply keep_outFinish
                            | apply keep_putIdx | apply keep_putB | apply keep_modPin | apply keep_wireSync | apply keep_put
                            | apply keep_openDrv | apply keep_syncDout | apply keep_event | apply keep_foldl
                            | exact sub_trans rfl hM)
    | split

theorem keep_dropPins {M : Nat} {s₀ : State} (hM : M ||| 1922 = M) (s : State) (h0 : Keep M s₀ s) :
    Keep M s₀ (State.dropPins s) := by
  unfold State.dropPins
  try dsimp only
  repeat' first
    | intro _
    | with_reducible (first | assumption | apply keep_ite | apply keep_eachTilePin | apply keep_detach | exact sub_trans rfl hM)
    | split

theorem keep_switchTo {M : Nat} {s₀ : State} (hM : M ||| 1922 = M) (s : State) (t n next : Nat) (h0 : Keep M s₀ s) :
    Keep M s₀ (State.switchTo s t n next) := by
  unfold State.switchTo
  try dsimp only
  repeat' first
    | with_reducible (first | assumption | apply keep_ite | apply keep_releaseCore | apply keep_modPin | apply keep_detach
                            | exact sub_trans rfl hM)
    | split

theorem keep_commitDone {M : Nat} {s₀ : State} (hM : M ||| 130 = M) (s : State) (p : Page) (waits : Bool) (h0 : Keep M s₀ s) :
    Keep M s₀ (State.commitDone s p waits) := by
  unfold State.commitDone
  try dsimp only
  repeat' first
    | with_reducible (first | assumption | apply keep_ite | apply keep_putB | apply keep_commitsUp | apply keep_pend
                            | exact sub_trans rfl hM)
    | split

theorem keep_applyPin {M : Nat} {s₀ : State} (hM : M ||| 902 = M) (s : State) (t n : Nat) (h0 : Keep M s₀ s) :
    Keep M s₀ (State.applyPin s t n) := by
  unfold State.applyPin
  try dsimp only
  repeat' first
    | intro _
    | with_reducible (first | assumption | apply keep_ite | apply keep_applyStaged | apply keep_putB | apply keep_settleSrc
                            | apply keep_afeStat | apply keep_cmpSync | apply keep_dinSync | apply keep_syncDout
                            | apply keep_foldl | exact sub_trans rfl hM)
    | split

theorem keep_settleTap {M : Nat} {s₀ : State} (hM : M ||| 2 = M) (s : State) (t k : Nat) (old : Nat × Nat) (h0 : Keep M s₀ s) :
    Keep M s₀ (State.settleTap s t k old) := by
  unfold State.settleTap
  try dsimp only
  repeat' first
    | with_reducible (first | assumption | apply keep_ite | apply keep_settleSrc | exact sub_trans rfl hM)
    | split

theorem keep_commitPinPage {M : Nat} {s₀ : State} (hM : M ||| 66758 = M) (s : State) (t : Nat) (h0 : Keep M s₀ s) :
    Keep M s₀ (State.commitPinPage s t) := by
  unfold State.commitPinPage
  try dsimp only
  repeat' first
    | intro _
    | with_reducible (first | assumption | apply keep_ite | apply keep_openDrv | apply keep_applyStaged | apply keep_settleTap
                            | apply keep_laneCommit | apply keep_foldl | exact sub_trans rfl hM)
    | split

theorem keep_commitPins {M : Nat} {s₀ : State} (hM : M ||| 67526 = M) (s : State) (w : Writer) (t : Nat) (h0 : Keep M s₀ s) :
    Keep M s₀ (State.commitPins s w t) := by
  unfold State.commitPins
  try dsimp only
  repeat' first
    | intro _
    | with_reducible (first | assumption | apply keep_ite | apply keep_putB | apply keep_applyPin | apply keep_switchTo
                            | apply keep_commitPinPage | apply keep_commitDone | apply keep_foldl | exact sub_trans rfl hM)
    | split

/-! ### CalOps -/

theorem keep_setSelfPair {M : Nat} {s₀ : State} (hM : M ||| 256 = M) (s : State) (t : Nat) (p : CalPair) (h0 : Keep M s₀ s) :
    Keep M s₀ (State.setSelfPair s t p) := by
  unfold State.setSelfPair
  try dsimp only
  repeat' first
    | with_reducible (first | assumption | exact sub_trans rfl hM)
    | exact .inl (sub_bit rfl hM)
    | with_reducible (first | exact .inr rfl | exact .inr ⟨rfl, rfl⟩ | exact .inr ⟨rfl, rfl, rfl⟩)
    | split
    | with_reducible apply keep_mk

theorem keep_showSelf {M : Nat} {s₀ : State} (hM : M ||| 258 = M) (s : State) (t : Nat) (h0 : Keep M s₀ s) :
    Keep M s₀ (State.showSelf s t) := by
  unfold State.showSelf
  try dsimp only
  repeat' first
    | with_reducible (first | assumption | apply keep_put | apply keep_count | exact sub_trans rfl hM)

theorem keep_setCalPair {M : Nat} {s₀ : State} (hM : M ||| 256 = M) (s : State) (t ch range : Nat) (p : CalPair)
    (h0 : Keep M s₀ s) :
    Keep M s₀ (State.setCalPair s t ch range p) := by
  unfold State.setCalPair
  try dsimp only
  repeat' first
    | with_reducible (first | assumption | exact sub_trans rfl hM)
    | exact .inl (sub_bit rfl hM)
    | with_reducible (first | exact .inr rfl | exact .inr ⟨rfl, rfl⟩ | exact .inr ⟨rfl, rfl, rfl⟩)
    | split
    | with_reducible apply keep_mk

theorem keep_setCoef {M : Nat} {s₀ : State} (hM : M ||| 2 = M) (s : State) (t ch : Nat) (off : Int) (gain : Nat)
    (h0 : Keep M s₀ s) :
    Keep M s₀ (State.setCoef s t ch off gain) := by
  unfold State.setCoef
  try dsimp only
  repeat' first
    | with_reducible (first | assumption | apply keep_put | exact sub_trans rfl hM)

theorem keep_showRecord {M : Nat} {s₀ : State} (hM : M ||| 258 = M) (s : State) (t ch : Nat) (h0 : Keep M s₀ s) :
    Keep M s₀ (State.showRecord s t ch) := by
  unfold State.showRecord
  try dsimp only
  repeat' first
    | with_reducible (first | assumption | apply keep_put | apply keep_count | apply keep_putIdx | exact sub_trans rfl hM)

theorem keep_loadSet {M : Nat} {s₀ : State} (hM : M ||| 1282 = M) (s : State) (t ch : Nat) (h0 : Keep M s₀ s) :
    Keep M s₀ (State.loadSet s t ch) := by
  unfold State.loadSet
  try dsimp only
  repeat' first
    | with_reducible (first | assumption | apply keep_ite | apply keep_setCoef | apply keep_putIdx | apply keep_modTile
                            | apply keep_showRecord | exact sub_trans rfl hM)
    | split

theorem keep_syncSet {M : Nat} {s₀ : State} (hM : M ||| 1282 = M) (s : State) (t ch : Nat) (h0 : Keep M s₀ s) :
    Keep M s₀ (State.syncSet s t ch) := by
  unfold State.syncSet
  try dsimp only
  repeat' first
    | with_reducible (first | assumption | apply keep_ite | apply keep_loadSet | exact sub_trans rfl hM)
    | split

theorem keep_syncSets {M : Nat} {s₀ : State} (hM : M ||| 1282 = M) (s : State) (t : Nat) (h0 : Keep M s₀ s) :
    Keep M s₀ (State.syncSets s t) := by
  unfold State.syncSets
  try dsimp only
  repeat' first
    | intro _
    | with_reducible (first | assumption | apply keep_syncSet | apply keep_foldl | exact sub_trans rfl hM)

theorem keep_loadSets {M : Nat} {s₀ : State} (hM : M ||| 1282 = M) (s : State) (t : Nat) (h0 : Keep M s₀ s) :
    Keep M s₀ (State.loadSets s t) := by
  unfold State.loadSets
  try dsimp only
  repeat' first
    | intro _
    | with_reducible (first | assumption | apply keep_loadSet | apply keep_foldl | exact sub_trans rfl hM)

theorem keep_startRamp {M : Nat} {s₀ : State} (hM : M ||| 1026 = M) (s : State) (t ch : Nat) (off : Int) (gain : Nat)
    (h0 : Keep M s₀ s) :
    Keep M s₀ (State.startRamp s t ch off gain) := by
  unfold State.startRamp
  try dsimp only
  repeat' first
    | with_reducible (first | assumption | apply keep_modTile | apply keep_putIdx | exact sub_trans rfl hM)

theorem keep_connectTile {M : Nat} {s₀ : State} (hM : M ||| 67522 = M) (s : State) (t : Nat) (h0 : Keep M s₀ s) :
    Keep M s₀ (State.connectTile s t) := by
  unfold State.connectTile
  try dsimp only
  repeat' first
    | intro _
    | with_reducible (first | assumption | apply keep_ite | apply keep_eachPin | apply keep_attach | apply keep_syncSets
                            | exact sub_trans rfl hM)
    | split

theorem keep_withSetup {M : Nat} {s₀ : State} (hM : M ||| 1410 = M) (s : State) (t : Nat) (f : State → State) (hf : ∀ (x0 : State), Keep M s₀ x0 → Keep M s₀ (f x0))
    (h0 : Keep M s₀ s) :
    Keep M s₀ (State.withSetup s t f) := by
  unfold State.withSetup
  try dsimp only
  repeat' first
    | with_reducible (first | assumption | apply keep_ite | apply keep_abortProc | apply keep_syncSets | apply hf
                            | exact sub_trans rfl hM)
    | split

theorem keep_rotStart {M : Nat} {s₀ : State} (hM : M ||| 1026 = M) (s : State) (t : Nat) (h0 : Keep M s₀ s) :
    Keep M s₀ (State.rotStart s t) := by
  unfold State.rotStart
  try dsimp only
  repeat' first
    | with_reducible (first | assumption | apply keep_ite | apply keep_modTile | apply keep_put | exact sub_trans rfl hM)
    | split

theorem keep_rotResume {M : Nat} {s₀ : State} (hM : M ||| 1026 = M) (s : State) (t : Nat) (h0 : Keep M s₀ s) :
    Keep M s₀ (State.rotResume s t) := by
  unfold State.rotResume
  try dsimp only
  repeat' first
    | with_reducible (first | assumption | apply keep_ite | apply keep_rotStart | exact sub_trans rfl hM)
    | split

/-! ### Cell -/


/-! ### Adc -/

theorem keep_emit {M : Nat} {s₀ : State} (hM : M ||| 622530 = M) (s : State) (t k : Nat) (w : Word) (time : Nat)
    (h0 : Keep M s₀ s) :
    Keep M s₀ (State.emit s t k w time) := by
  unfold State.emit
  try dsimp only
  repeat' first
    | with_reducible (first | assumption | apply keep_ite | apply keep_event | apply keep_putB | apply keep_modTile
                            | apply keep_raise | apply keep_setTile | exact sub_trans rfl hM)
    | split

theorem keep_chkResult {M : Nat} {s₀ : State} (hM : M ||| 622530 = M) (s : State) (t : Nat) (bad : Bool) (h0 : Keep M s₀ s) :
    Keep M s₀ (State.chkResult s t bad) := by
  unfold State.chkResult
  try dsimp only
  repeat' first
    | with_reducible (first | assumption | apply keep_ite | apply keep_bump | apply keep_event | apply keep_bumpSat
                            | apply keep_putB | apply keep_raise | apply keep_put | exact sub_trans rfl hM)
    | split

theorem keep_capWord {M : Nat} {s₀ : State} (hM : M ||| 1410 = M) (s : State) (t : Nat) (w : Word) (x16 : Int) (b : Option Int)
    (h0 : Keep M s₀ s) :
    Keep M s₀ (State.capWord s t w x16 b) := by
  unfold State.capWord
  try dsimp only
  repeat' first
    | with_reducible (first | assumption | apply keep_ite | apply keep_count | apply keep_endProc | apply keep_modTile
                            | apply keep_put | exact sub_trans rfl hM)
    | split

theorem keep_setDec {M : Nat} {s₀ : State} (hM : M ||| 1024 = M) (s : State) (t d : Nat) (x : DecSt) (h0 : Keep M s₀ s) :
    Keep M s₀ (State.setDec s t d x) := by
  unfold State.setDec
  try dsimp only
  repeat' first
    | with_reducible (first | assumption | apply keep_modTile | exact sub_trans rfl hM)

theorem keep_decReset {M : Nat} {s₀ : State} (hM : M ||| 1026 = M) (s : State) (t d : Nat) (h0 : Keep M s₀ s) :
    Keep M s₀ (State.decReset s t d) := by
  unfold State.decReset
  try dsimp only
  repeat' first
    | with_reducible (first | assumption | apply keep_setDec | apply keep_put | exact sub_trans rfl hM)

theorem keep_feedDecs {M : Nat} {s₀ : State} (hM : M ||| 1024 = M) (s : State) (t k : Nat) (w : Word) (time : Nat)
    (h0 : Keep M s₀ s) :
    Keep M s₀ (State.feedDecs s t k w time) := by
  unfold State.feedDecs
  try dsimp only
  repeat' first
    | intro _
    | with_reducible (first | assumption | apply keep_ite | apply keep_setDec | apply keep_foldl | exact sub_trans rfl hM)
    | split

theorem keep_execDecimatorOutput {M : Nat} {s₀ : State} (hM : M ||| 622530 = M) (t : Fin 32) (d : Fin 8) (s : State)
    (h0 : Keep M s₀ s) :
    outKeep M s₀ (execDecimatorOutput t d s) := by
  unfold execDecimatorOutput
  try dsimp only
  repeat' first
    | intro _
    | with_reducible (first | assumption | apply keep_ite | apply out_keep_ite | apply keep_next | apply keep_setDec
                            | apply keep_put | apply keep_emit | apply keep_foldl | exact sub_trans rfl hM)
    | split

theorem keep_chkCount {M : Nat} {s₀ : State} (hM : M ||| 1024 = M) (s : State) (t k : Nat) (h0 : Keep M s₀ s) :
    Keep M s₀ (State.chkCount s t k) := by
  unfold State.chkCount
  try dsimp only
  repeat' first
    | with_reducible (first | assumption | apply keep_ite | apply keep_modTile | exact sub_trans rfl hM)
    | split

theorem keep_check {M : Nat} {s₀ : State} (hM : M ||| 622530 = M) (s : State) (t src : Nat) (a : Raw) (stale : Bool) (b : Option (Int × Bool)) (seq : Nat)
    (h0 : Keep M s₀ s) :
    Keep M s₀ (State.check s t src a stale b seq).1 := by
  unfold State.check
  try dsimp only
  repeat' first
    | with_reducible (first | assumption | apply keep_ite | apply keep_chkResult | apply keep_setWord | exact sub_trans rfl hM)
    | split

theorem keep_slotWord {M : Nat} {s₀ : State} (hM : M ||| 622546 = M) (s : State) (t k : Nat) (cv : Conv) (time : Nat)
    (h0 : Keep M s₀ s) :
    Keep M s₀ (State.slotWord s t k cv time) := by
  unfold State.slotWord
  try dsimp only
  repeat' first
    | with_reducible (first | assumption | apply keep_ite | apply keep_putIdx | apply keep_chkCount | apply keep_put
                            | apply keep_check | apply keep_modTile | apply keep_setWord | apply keep_capWord | apply keep_draw
                            | exact sub_trans rfl hM)
    | split

theorem keep_passClose {M : Nat} {s₀ : State} (hM : M ||| 622530 = M) (s : State) (t : Nat) (h0 : Keep M s₀ s) :
    Keep M s₀ (State.passClose s t) := by
  unfold State.passClose
  try dsimp only
  repeat' first
    | intro _
    | with_reducible (first | assumption | apply keep_ite | apply keep_feedDecs | apply keep_emit | apply keep_modTile
                            | apply keep_foldl | exact sub_trans rfl hM)
    | split

theorem keep_passSlots {M : Nat} {s0 : State} (hM : M ||| 622546 = M) (t : Nat) (cs : List Conv) (k a : Nat) (s : State) (h0 : Keep M s0 s) :
    Keep M s0 (State.passSlots t cs k a s) := by
  induction cs generalizing k a s with
  | nil => exact h0
  | cons c cs ih =>
    unfold State.passSlots
    split
    · exact ih _ _ _ (keep_slotWord (sub_trans rfl hM) _ _ _ _ _ h0)
    · exact h0

theorem keep_execAdcTrigger {M : Nat} {s₀ : State} (hM : M ||| 1026 = M) (t : Fin 32) (s : State) (h0 : Keep M s₀ s) :
    outKeep M s₀ (execAdcTrigger t s) := by
  unfold execAdcTrigger
  try dsimp only
  repeat' first
    | with_reducible (first | assumption | apply keep_next | apply keep_adcTrig | exact sub_trans rfl hM)

theorem keep_execAdcTrigStart {M : Nat} {s₀ : State} (hM : M ||| 622530 = M) (w : Writer) (t : Fin 32) (s : State)
    (h0 : Keep M s₀ s) :
    outKeep M s₀ (execAdcTrigStart w t s) := by
  unfold execAdcTrigStart
  try dsimp only
  repeat' first
    | intro _
    | with_reducible (first | assumption | apply keep_next | apply keep_byOwner | apply keep_adcTrig | exact sub_trans rfl hM)

theorem keep_execFrameEmit {M : Nat} {s₀ : State} (hM : M ||| 3202 = M) (t : Fin 32) (out : Fin 25) (s : State)
    (h0 : Keep M s₀ s) :
    outKeep M s₀ (execFrameEmit t out s) := by
  unfold execFrameEmit
  try dsimp only
  repeat' first
    | with_reducible (first | assumption | apply keep_next | apply keep_modTile | apply keep_event | exact sub_trans rfl hM)
    | exact .inl (sub_bit rfl hM)
    | with_reducible (first | exact .inr rfl | exact .inr ⟨rfl, rfl⟩ | exact .inr ⟨rfl, rfl, rfl⟩)
    | split
    | with_reducible apply keep_mk

theorem keep_reattachOuts {M : Nat} {s₀ : State} (hM : M ||| 770 = M) (s : State) (t : Nat) (h0 : Keep M s₀ s) :
    Keep M s₀ (State.reattachOuts s t) := by
  unfold State.reattachOuts
  try dsimp only
  repeat' first
    | intro _
    | with_reducible (first | assumption | apply keep_ite | apply keep_eachPin | apply keep_stageMid | exact sub_trans rfl hM)
    | split

theorem keep_startSeq {M : Nat} {s₀ : State} (hM : M ||| 1026 = M) (s : State) (t : Nat) (h0 : Keep M s₀ s) :
    Keep M s₀ (State.startSeq s t) := by
  unfold State.startSeq
  try dsimp only
  repeat' first
    | with_reducible (first | assumption | apply keep_ite | apply keep_putB | apply keep_modTile | apply keep_suspSync
                            | exact sub_trans rfl hM)
    | split

theorem keep_execIntlvExit {M : Nat} {s₀ : State} (hM : M ||| 1026 = M) (t : Fin 32) (s : State) (h0 : Keep M s₀ s) :
    outKeep M s₀ (execIntlvExit t s) := by
  unfold execIntlvExit
  try dsimp only
  repeat' first
    | intro _
    | with_reducible (first | assumption | apply keep_ite | apply out_keep_ite | apply keep_next | apply keep_flushTile
                            | apply keep_modTile | apply keep_putB | apply keep_settleSrc | apply keep_decReset
                            | apply keep_startSeq | apply keep_suspSync | apply keep_foldl | exact sub_trans rfl hM)
    | split

theorem keep_correctSkew {M : Nat} {s₀ : State} (hM : M ||| 18 = M) (s : State) (t : Nat) (h0 : Keep M s₀ s) :
    Keep M s₀ (State.correctSkew s t) := by
  unfold State.correctSkew
  try dsimp only
  repeat' first
    | with_reducible (first | assumption | apply keep_draw | apply keep_put | exact sub_trans rfl hM)

theorem keep_execIntlvSample {M : Nat} {s₀ : State} (hM : M ||| 622546 = M) (t : Fin 32) (cv : Conv) (s : State)
    (h0 : Keep M s₀ s) :
    outKeep M s₀ (execIntlvSample t cv s) := by
  unfold execIntlvSample
  try dsimp only
  repeat' first
    | with_reducible (first | assumption | apply keep_ite | apply out_keep_ite | apply keep_next | apply keep_modTile
                            | apply keep_put | apply keep_correctSkew | apply keep_feedDecs | apply keep_emit
                            | exact sub_trans rfl hM)
    | split

theorem keep_commitBits {M : Nat} {s₀ : State} (hM : M ||| 6 = M) (s : State) (a : Nat) (m : Word) (late : Bool)
    (h0 : Keep M s₀ s) :
    Keep M s₀ (State.commitBits s a m late) := by
  unfold State.commitBits
  try dsimp only
  repeat' first
    | with_reducible (first | assumption | apply keep_ite | apply keep_setWord | exact sub_trans rfl hM)
    | exact .inl (sub_bit rfl hM)
    | with_reducible (first | exact .inr rfl | exact .inr ⟨rfl, rfl⟩ | exact .inr ⟨rfl, rfl, rfl⟩)
    | split
    | with_reducible apply keep_mk

theorem keep_inputEffects {M : Nat} {s₀ : State} (hM : M ||| 1154 = M) (s : State) (s0 : State) (t : Nat) (h0 : Keep M s₀ s) :
    Keep M s₀ (State.inputEffects s s0 t) := by
  unfold State.inputEffects
  try dsimp only
  repeat' first
    | intro _
    | with_reducible (first | assumption | apply keep_ite | apply keep_flushOut | apply keep_decReset | apply keep_abortProc
                            | apply keep_modTile | apply keep_startSeq | apply keep_stopAdc | apply keep_suspSync
                            | apply keep_foldl | exact sub_trans rfl hM)
    | split

theorem keep_inputWords {M : Nat} {s₀ : State} (hM : M ||| 6 = M) (s : State) (t : Nat) (h0 : Keep M s₀ s) :
    Keep M s₀ (State.inputWords s t) := by
  unfold State.inputWords
  try dsimp only
  repeat' first
    | intro _
    | with_reducible (first | assumption | apply keep_applyWait | apply keep_foldl | exact sub_trans rfl hM)

theorem keep_inputApply {M : Nat} {s₀ : State} (hM : M ||| 1158 = M) (s : State) (t : Nat) (h0 : Keep M s₀ s) :
    Keep M s₀ (State.inputApply s t) := by
  unfold State.inputApply
  try dsimp only
  repeat' first
    | with_reducible (first | assumption | apply keep_inputWords | apply keep_inputEffects | exact sub_trans rfl hM)

theorem keep_commitInput {M : Nat} {s₀ : State} (hM : M ||| 622534 = M) (s : State) (t : Nat) (h0 : Keep M s₀ s) :
    Keep M s₀ (State.commitInput s t) := by
  unfold State.commitInput
  try dsimp only
  repeat' first
    | intro _
    | with_reducible (first | assumption | apply keep_ite | apply keep_passClose | apply keep_inputWords | apply keep_commitBits
                            | apply keep_applyStaged | apply keep_putB | apply keep_raise | apply keep_modTile
                            | apply keep_inputEffects | apply keep_suspSync | apply keep_commitDone | apply keep_foldl
                            | exact sub_trans rfl hM)
    | split

theorem keep_execIntlvEntry {M : Nat} {s₀ : State} (hM : M ||| 622550 = M) (t : Fin 32) (s : State) (h0 : Keep M s₀ s) :
    outKeep M s₀ (execIntlvEntry t s) := by
  unfold execIntlvEntry
  try dsimp only
  repeat' first
    | with_reducible (first | assumption | apply keep_ite | apply out_keep_ite | apply keep_next | apply keep_passClose
                            | apply keep_inputApply | apply keep_finishCommit | apply keep_abortProc | apply keep_flushTile
                            | apply keep_modTile | apply keep_putB | apply keep_put | apply keep_correctSkew
                            | apply keep_suspSync | exact sub_trans rfl hM)
    | split

theorem keep_passBoundary {M : Nat} {s₀ : State} (hM : M ||| 622534 = M) (s : State) (t : Nat) (h0 : Keep M s₀ s) :
    Keep M s₀ (State.passBoundary s t) := by
  unfold State.passBoundary
  try dsimp only
  repeat' first
    | with_reducible (first | assumption | apply keep_ite | apply keep_passClose | apply keep_inputApply
                            | apply keep_finishCommit | exact sub_trans rfl hM)
    | split

theorem keep_execPassBoundaryApply {M : Nat} {s₀ : State} (hM : M ||| 622534 = M) (t : Fin 32) (s : State) (h0 : Keep M s₀ s) :
    outKeep M s₀ (execPassBoundaryApply t s) := by
  unfold execPassBoundaryApply
  try dsimp only
  repeat' first
    | with_reducible (first | assumption | apply keep_ite | apply out_keep_ite | apply keep_next | apply keep_passBoundary
                            | exact sub_trans rfl hM)
    | split

theorem keep_execSeqPass {M : Nat} {s₀ : State} (hM : M ||| 622550 = M) (t : Fin 32) (convs : List Conv) (s : State)
    (h0 : Keep M s₀ s) :
    outKeep M s₀ (execSeqPass t convs s) := by
  unfold execSeqPass
  try dsimp only
  repeat' first
    | with_reducible (first | assumption | apply keep_ite | apply out_keep_ite | apply keep_next | apply keep_passBoundary
                            | apply keep_syncSets | apply keep_trigSource | apply keep_passSlots | apply keep_modTile
                            | exact sub_trans rfl hM)
    | split

/-! ### Cal -/

theorem keep_execSelfCalGroup {M : Nat} {s₀ : State} (hM : M ||| 1026 = M) (g : Fin 4) (s : State) (h0 : Keep M s₀ s) :
    outKeep M s₀ (execSelfCalGroup g s) := by
  unfold execSelfCalGroup
  try dsimp only
  repeat' first
    | intro _
    | with_reducible (first | assumption | apply keep_ite | apply out_keep_ite | apply keep_next | apply keep_modTile
                            | apply keep_putB | apply keep_foldl | exact sub_trans rfl hM)
    | split

theorem keep_commitSelf {M : Nat} {s₀ : State} (hM : M ||| 258 = M) (s : State) (t : Nat) (h0 : Keep M s₀ s) :
    Keep M s₀ (State.commitSelf s t) := by
  unfold State.commitSelf
  try dsimp only
  repeat' first
    | with_reducible (first | assumption | apply keep_count | apply keep_setSelfPair | apply keep_ledgerWrite
                            | apply keep_showSelf | exact sub_trans rfl hM)

theorem keep_routeCores {M : Nat} {s₀ : State} (hM : M ||| 2 = M) (s : State) (t : Nat) (h0 : Keep M s₀ s) :
    Keep M s₀ (State.routeCores s t) := by
  unfold State.routeCores
  try dsimp only
  repeat' first
    | with_reducible (first | assumption | apply keep_put | exact sub_trans rfl hM)

theorem keep_dropCores {M : Nat} {s₀ : State} (hM : M ||| 514 = M) (s : State) (t : Nat) (h0 : Keep M s₀ s) :
    Keep M s₀ (State.dropCores s t) := by
  unfold State.dropCores
  try dsimp only
  repeat' first
    | intro _
    | with_reducible (first | assumption | apply keep_ite | apply keep_eachPin | apply keep_outDetach | apply keep_put
                            | apply keep_putB | apply keep_releaseCore | exact sub_trans rfl hM)
    | split

theorem keep_selfEnded {M : Nat} {s₀ : State} (hM : M ||| 622530 = M) (s : State) (t res : Nat) (h0 : Keep M s₀ s) :
    Keep M s₀ (State.selfEnded s t res) := by
  unfold State.selfEnded
  try dsimp only
  repeat' first
    | with_reducible (first | assumption | apply keep_ite | apply keep_modTile | apply keep_endWork | apply keep_raise
                            | exact sub_trans rfl hM)
    | split

theorem keep_powerUpCal {M : Nat} {s₀ : State} (hM : M ||| 622530 = M) (s : State) (t : Nat) (r : SelfCal) (h0 : Keep M s₀ s) :
    Keep M s₀ (State.powerUpCal s t r) := by
  unfold State.powerUpCal
  try dsimp only
  repeat' first
    | with_reducible (first | assumption | apply keep_ite | apply keep_modTile | apply keep_put | apply keep_routeCores
                            | apply keep_dropCores | apply keep_selfEnded | apply keep_commitSelf | apply keep_reattachOuts
                            | apply keep_connectTile | exact sub_trans rfl hM)
    | split

theorem keep_spareBad {M : Nat} {s₀ : State} (hM : M ||| 622530 = M) (s : State) (t : Nat) (h0 : Keep M s₀ s) :
    Keep M s₀ (State.spareBad s t) := by
  unfold State.spareBad
  try dsimp only
  repeat' first
    | with_reducible (first | assumption | apply keep_putB | apply keep_raise | exact sub_trans rfl hM)

theorem keep_rerunRamp {M : Nat} {s0 : State} (hM : M ||| 1026 = M) (s : State) (t ch : Nat) (h0 : Keep M s0 s) : Keep M s0 (s.rerunRamp t ch) := by
  unfold State.rerunRamp
  split <;> exact keep_startRamp hM _ _ _ _ _ h0

theorem keep_requestCal {M : Nat} {s₀ : State} (hM : M ||| 622530 = M) (s : State) (t scope ch : Nat) (r : SelfCal)
    (h0 : Keep M s₀ s) :
    Keep M s₀ (State.requestCal s t scope ch r) := by
  unfold State.requestCal
  try dsimp only
  repeat' first
    | intro _
    | with_reducible (first | assumption | apply keep_ite | apply keep_endWork | apply keep_spareBad | apply keep_selfEnded
                            | apply keep_putB | apply keep_commitSelf | apply keep_rerunRamp | apply keep_foldl
                            | exact sub_trans rfl hM)
    | split

theorem keep_execSelfCalDone {M : Nat} {s₀ : State} (hM : M ||| 622530 = M) (t : Fin 32) (r : SelfCal) (s : State)
    (h0 : Keep M s₀ s) :
    outKeep M s₀ (execSelfCalDone t r s) := by
  unfold execSelfCalDone
  try dsimp only
  repeat' first
    | with_reducible (first | assumption | apply keep_ite | apply out_keep_ite | apply keep_next | apply keep_endWork
                            | apply keep_event | apply keep_powerUpCal | apply keep_requestCal | exact sub_trans rfl hM)
    | split

theorem keep_calRequest {M : Nat} {s₀ : State} (hM : M ||| 622530 = M) (s : State) (w : Writer) (t scope ch : Nat) (bad : Bool)
    (h0 : Keep M s₀ s) :
    Keep M s₀ (State.calRequest s w t scope ch bad) := by
  unfold State.calRequest
  try dsimp only
  repeat' first
    | intro _
    | with_reducible (first | assumption | apply keep_ite | apply keep_byOwner | apply keep_put | apply keep_done
                            | apply keep_modTile | apply keep_putB | exact sub_trans rfl hM)
    | split

theorem keep_execCalReqTileIn {M : Nat} {s₀ : State} (hM : M ||| 622530 = M) (w : Writer) (t : Fin 32) (s : State)
    (h0 : Keep M s₀ s) :
    outKeep M s₀ (execCalReqTileIn w t s) := by
  unfold execCalReqTileIn
  try dsimp only
  repeat' first
    | with_reducible (first | assumption | apply keep_next | apply keep_calRequest | exact sub_trans rfl hM)

theorem keep_execCalReqConvA {M : Nat} {s₀ : State} (hM : M ||| 622530 = M) (w : Writer) (t : Fin 32) (s : State)
    (h0 : Keep M s₀ s) :
    outKeep M s₀ (execCalReqConvA w t s) := by
  unfold execCalReqConvA
  try dsimp only
  repeat' first
    | with_reducible (first | assumption | apply keep_next | apply keep_calRequest | exact sub_trans rfl hM)

theorem keep_execCalReqConvB {M : Nat} {s₀ : State} (hM : M ||| 622530 = M) (w : Writer) (t : Fin 32) (s : State)
    (h0 : Keep M s₀ s) :
    outKeep M s₀ (execCalReqConvB w t s) := by
  unfold execCalReqConvB
  try dsimp only
  repeat' first
    | with_reducible (first | assumption | apply keep_next | apply keep_calRequest | exact sub_trans rfl hM)

theorem keep_execCalReqFrontEnd {M : Nat} {s₀ : State} (hM : M ||| 622530 = M) (w : Writer) (t : Fin 32) (ch : Fin 16) (s : State)
    (h0 : Keep M s₀ s) :
    outKeep M s₀ (execCalReqFrontEnd w t ch s) := by
  unfold execCalReqFrontEnd
  try dsimp only
  repeat' first
    | with_reducible (first | assumption | apply keep_next | apply keep_calRequest | exact sub_trans rfl hM)

theorem keep_execCalReqSpare {M : Nat} {s₀ : State} (hM : M ||| 622530 = M) (w : Writer) (t : Fin 32) (s : State)
    (h0 : Keep M s₀ s) :
    outKeep M s₀ (execCalReqSpare w t s) := by
  unfold execCalReqSpare
  try dsimp only
  repeat' first
    | with_reducible (first | assumption | apply keep_next | apply keep_calRequest | exact sub_trans rfl hM)

theorem keep_calState {M : Nat} {s₀ : State} (hM : M ||| 2 = M) (s : State) (t : Nat) (h0 : Keep M s₀ s) :
    Keep M s₀ (State.calState s t) := by
  unfold State.calState
  try dsimp only
  repeat' first
    | with_reducible (first | assumption | apply keep_put | exact sub_trans rfl hM)

theorem keep_beginPoint {M : Nat} {s₀ : State} (hM : M ||| 1410 = M) (s : State) (t point : Nat) (h0 : Keep M s₀ s) :
    Keep M s₀ (State.beginPoint s t point) := by
  unfold State.beginPoint
  try dsimp only
  repeat' first
    | with_reducible (first | assumption | apply keep_ite | apply keep_endProc | apply keep_modTile | apply keep_count
                            | apply keep_put | exact sub_trans rfl hM)
    | split

theorem keep_execCapture0 {M : Nat} {s₀ : State} (hM : M ||| 622530 = M) (w : Writer) (t : Fin 32) (s : State)
    (h0 : Keep M s₀ s) :
    outKeep M s₀ (execCapture0 w t s) := by
  unfold execCapture0
  try dsimp only
  repeat' first
    | intro _
    | with_reducible (first | assumption | apply keep_ite | apply out_keep_ite | apply keep_next | apply keep_byOwner
                            | apply keep_calState | apply keep_put | apply keep_endProc | apply keep_modTile
                            | apply keep_beginPoint | exact sub_trans rfl hM)
    | split

theorem keep_execCapture1 {M : Nat} {s₀ : State} (hM : M ||| 622530 = M) (w : Writer) (t : Fin 32) (s : State)
    (h0 : Keep M s₀ s) :
    outKeep M s₀ (execCapture1 w t s) := by
  unfold execCapture1
  try dsimp only
  repeat' first
    | intro _
    | with_reducible (first | assumption | apply keep_ite | apply out_keep_ite | apply keep_next | apply keep_byOwner
                            | apply keep_beginPoint | apply keep_calState | exact sub_trans rfl hM)
    | split

theorem keep_execCancel {M : Nat} {s₀ : State} (hM : M ||| 622530 = M) (w : Writer) (t : Fin 32) (s : State) (h0 : Keep M s₀ s) :
    outKeep M s₀ (execCancel w t s) := by
  unfold execCancel
  try dsimp only
  repeat' first
    | intro _
    | with_reducible (first | assumption | apply keep_ite | apply out_keep_ite | apply keep_next | apply keep_byOwner
                            | apply keep_calState | apply keep_endProc | exact sub_trans rfl hM)
    | split

theorem keep_commitRecord {M : Nat} {s₀ : State} (hM : M ||| 258 = M) (s : State) (t ch : Nat) (r : CalRec) (h0 : Keep M s₀ s) :
    Keep M s₀ (State.commitRecord s t ch r) := by
  unfold State.commitRecord
  try dsimp only
  repeat' first
    | with_reducible (first | assumption | apply keep_setCalPair | apply keep_ledgerWrite | apply keep_showRecord
                            | exact sub_trans rfl hM)

theorem keep_execClearLost {M : Nat} {s₀ : State} (hM : M ||| 622530 = M) (w : Writer) (t : Fin 32) (s : State)
    (h0 : Keep M s₀ s) :
    outKeep M s₀ (execClearLost w t s) := by
  unfold execClearLost
  try dsimp only
  repeat' first
    | intro _
    | with_reducible (first | assumption | apply keep_ite | apply out_keep_ite | apply keep_next | apply keep_byOwner
                            | apply keep_commitRecord | apply keep_startRamp | exact sub_trans rfl hM)
    | split

theorem keep_judge {M : Nat} {s₀ : State} (hM : M ||| 1154 = M) (s : State) (t : Nat) (h0 : Keep M s₀ s) :
    Keep M s₀ (State.judge s t) := by
  unfold State.judge
  try dsimp only
  repeat' first
    | with_reducible (first | assumption | apply keep_ite | apply keep_endProc | apply keep_putB | apply keep_modTile
                            | apply keep_put | exact sub_trans rfl hM)
    | split

theorem keep_execCaptureDone {M : Nat} {s₀ : State} (hM : M ||| 1410 = M) (t : Fin 32) (s : State) (h0 : Keep M s₀ s) :
    outKeep M s₀ (execCaptureDone t s) := by
  unfold execCaptureDone
  try dsimp only
  repeat' first
    | with_reducible (first | assumption | apply keep_ite | apply out_keep_ite | apply keep_next | apply keep_count
                            | apply keep_judge | exact sub_trans rfl hM)
    | split

theorem keep_execCalLedgerCommitDone {M : Nat} {s₀ : State} (hM : M ||| 1410 = M) (t : Fin 32) (ok : Bool) (s : State)
    (h0 : Keep M s₀ s) :
    outKeep M s₀ (execCalLedgerCommitDone t ok s) := by
  unfold execCalLedgerCommitDone
  try dsimp only
  repeat' first
    | with_reducible (first | assumption | apply keep_ite | apply out_keep_ite | apply keep_next | apply keep_commitRecord
                            | apply keep_startRamp | apply keep_endProc | exact sub_trans rfl hM)
    | split

theorem keep_execCalWait1Timeout {M : Nat} {s₀ : State} (hM : M ||| 130 = M) (t : Fin 32) (s : State) (h0 : Keep M s₀ s) :
    outKeep M s₀ (execCalWait1Timeout t s) := by
  unfold execCalWait1Timeout
  try dsimp only
  repeat' first
    | with_reducible (first | assumption | apply keep_ite | apply out_keep_ite | apply keep_next | apply keep_endProc
                            | exact sub_trans rfl hM)
    | split

theorem keep_execCaptureTmo {M : Nat} {s₀ : State} (hM : M ||| 386 = M) (t : Fin 32) (s : State) (h0 : Keep M s₀ s) :
    outKeep M s₀ (execCaptureTmo t s) := by
  unfold execCaptureTmo
  try dsimp only
  repeat' first
    | with_reducible (first | assumption | apply keep_ite | apply out_keep_ite | apply keep_next | apply keep_count
                            | apply keep_endProc | exact sub_trans rfl hM)
    | split

theorem keep_execCalRampStep {M : Nat} {s₀ : State} (hM : M ||| 1154 = M) (t : Fin 32) (ch : Fin 10) (s : State)
    (h0 : Keep M s₀ s) :
    outKeep M s₀ (execCalRampStep t ch s) := by
  unfold execCalRampStep
  try dsimp only
  repeat' first
    | with_reducible (first | assumption | apply keep_ite | apply out_keep_ite | apply keep_next | apply keep_setCoef
                            | apply keep_event | apply keep_modTile | apply keep_putIdx | exact sub_trans rfl hM)
    | split

theorem keep_execCalRotNow {M : Nat} {s₀ : State} (hM : M ||| 622530 = M) (w : Writer) (t : Fin 32) (s : State)
    (h0 : Keep M s₀ s) :
    outKeep M s₀ (execCalRotNow w t s) := by
  unfold execCalRotNow
  try dsimp only
  repeat' first
    | intro _
    | with_reducible (first | assumption | apply keep_next | apply keep_byOwner | apply keep_rotStart | exact sub_trans rfl hM)

theorem keep_execRotationPeriod {M : Nat} {s₀ : State} (hM : M ||| 1026 = M) (t : Fin 32) (s : State) (h0 : Keep M s₀ s) :
    outKeep M s₀ (execRotationPeriod t s) := by
  unfold execRotationPeriod
  try dsimp only
  repeat' first
    | with_reducible (first | assumption | apply keep_ite | apply out_keep_ite | apply keep_next | apply keep_rotStart
                            | exact sub_trans rfl hM)
    | split

theorem keep_execRotationFollow {M : Nat} {s₀ : State} (hM : M ||| 622530 = M) (t : Fin 32) (spareOk : Bool) (s : State)
    (h0 : Keep M s₀ s) :
    outKeep M s₀ (execRotationFollow t spareOk s) := by
  unfold execRotationFollow
  try dsimp only
  repeat' first
    | with_reducible (first | assumption | apply keep_ite | apply out_keep_ite | apply keep_next | apply keep_put
                            | apply keep_spareBad | exact sub_trans rfl hM)
    | split

theorem keep_rotSwap {M : Nat} {s₀ : State} (hM : M ||| 1154 = M) (s : State) (t : Nat) (h0 : Keep M s₀ s) :
    Keep M s₀ (State.rotSwap s t) := by
  unfold State.rotSwap
  try dsimp only
  repeat' first
    | with_reducible (first | assumption | apply keep_ite | apply keep_put | apply keep_bump | apply keep_modTile
                            | apply keep_event | exact sub_trans rfl hM)
    | split

theorem keep_execRotationHandover {M : Nat} {s₀ : State} (hM : M ||| 1154 = M) (t : Fin 32) (s : State) (h0 : Keep M s₀ s) :
    outKeep M s₀ (execRotationHandover t s) := by
  unfold execRotationHandover
  try dsimp only
  repeat' first
    | with_reducible (first | assumption | apply keep_ite | apply out_keep_ite | apply keep_next | apply keep_rotSwap
                            | apply keep_put | apply keep_putB | exact sub_trans rfl hM)
    | split

theorem keep_rotRelease {M : Nat} {s₀ : State} (hM : M ||| 642 = M) (s : State) (t n : Nat) (h0 : Keep M s₀ s) :
    Keep M s₀ (State.rotRelease s t n) := by
  unfold State.rotRelease
  try dsimp only
  repeat' first
    | with_reducible (first | assumption | apply keep_ite | apply keep_modPin | apply keep_putB | apply keep_setLimit
                            | exact sub_trans rfl hM)
    | split

theorem keep_execRotationTakeover {M : Nat} {s₀ : State} (hM : M ||| 1922 = M) (t : Fin 32) (s : State) (h0 : Keep M s₀ s) :
    outKeep M s₀ (execRotationTakeover t s) := by
  unfold execRotationTakeover
  try dsimp only
  repeat' first
    | with_reducible (first | assumption | apply keep_ite | apply out_keep_ite | apply keep_next | apply keep_rotSwap
                            | apply keep_noteCore | apply keep_rotRelease | exact sub_trans rfl hM)
    | split

/-! ### Mem -/

theorem keep_dataWrite {M : Nat} {s0 : State} (hM : M ||| 32768 = M) (s : State) (e a : Nat) (bs : List Byte) (h0 : Keep M s0 s) :
    Keep M s0 (s.dataWrite e a bs) :=
  keep_of hM h0 ⟨fun hs => ⟨hs.1, memWrite_wf _ _ _ hs.2.1, hs.2.2.1, hs.2.2.2.1, hs.2.2.2.2.1, hs.2.2.2.2.2⟩,
    fun p => by cases p <;> first | exact .inl rfl | exact .inr rfl | exact .inr ⟨rfl, rfl⟩ | exact .inr ⟨rfl, rfl, rfl⟩⟩

theorem keep_sramWrite {M : Nat} {s0 : State} (hM : M ||| 32768 = M) (s : State) (a : Nat) (bs : List Byte) (h0 : Keep M s0 s) :
    Keep M s0 (s.sramWrite a bs) :=
  keep_of hM h0 ⟨fun hs => ⟨hs.1, hs.2.1, memWrite_wf _ _ _ hs.2.2.1, hs.2.2.2.1, hs.2.2.2.2.1, hs.2.2.2.2.2⟩,
    fun p => by cases p <;> first | exact .inl rfl | exact .inr rfl | exact .inr ⟨rfl, rfl⟩ | exact .inr ⟨rfl, rfl, rfl⟩⟩

theorem keep_dramWrite {M : Nat} {s0 : State} (hM : M ||| 32768 = M) (s : State) (a : Nat) (bs : List Byte) (h0 : Keep M s0 s) :
    Keep M s0 (s.dramWrite a bs) :=
  keep_of hM h0 ⟨fun hs => ⟨hs.1, hs.2.1, hs.2.2.1, memWrite_wf _ _ _ hs.2.2.2.1, hs.2.2.2.2.1, hs.2.2.2.2.2⟩,
    fun p => by cases p <;> first | exact .inl rfl | exact .inr rfl | exact .inr ⟨rfl, rfl⟩ | exact .inr ⟨rfl, rfl, rfl⟩⟩

theorem keep_imemWrite {M : Nat} {s0 : State} (hM : M ||| 32768 = M) (s : State) (e a : Nat) (bs : List Byte) (h0 : Keep M s0 s) :
    Keep M s0 (s.imemWrite e a bs) :=
  keep_of hM h0 ⟨fun hs => ⟨hs.1, hs.2.1, hs.2.2.1, hs.2.2.2.1, memWrite_wf _ _ _ hs.2.2.2.2.1, hs.2.2.2.2.2⟩,
    fun p => by cases p <;> first | exact .inl rfl | exact .inr rfl | exact .inr ⟨rfl, rfl⟩ | exact .inr ⟨rfl, rfl, rfl⟩⟩

theorem keep_hostWrite {M : Nat} {s0 : State} (hM : M ||| 32768 = M) (s : State) (a : Nat) (bs : List Byte) (h0 : Keep M s0 s) :
    Keep M s0 (s.hostWrite a bs) :=
  keep_of hM h0 ⟨fun hs => ⟨hs.1, hs.2.1, hs.2.2.1, hs.2.2.2.1, hs.2.2.2.2.1, memWrite_wf _ _ _ hs.2.2.2.2.2.1, memWrite_wf _ _ _ hs.2.2.2.2.2.2⟩,
    fun p => by cases p <;> first | exact .inl rfl | exact .inr rfl | exact .inr ⟨rfl, rfl⟩ | exact .inr ⟨rfl, rfl, rfl⟩⟩

theorem keep_hostRead {M : Nat} {s₀ : State} (hM : M ||| 16 = M) (s : State) (a n : Nat) (h0 : Keep M s₀ s) :
    Keep M s₀ (State.hostRead s a n).2 := by
  unfold State.hostRead
  try dsimp only
  repeat' first
    | with_reducible (first | assumption | exact sub_trans rfl hM)
    | exact .inl (sub_bit rfl hM)
    | with_reducible (first | exact .inr rfl | exact .inr ⟨rfl, rfl⟩ | exact .inr ⟨rfl, rfl, rfl⟩)
    | split
    | with_reducible apply keep_mk

theorem keep_eccCorrected {M : Nat} {s₀ : State} (hM : M ||| 622530 = M) (s : State) (ch : Nat) (h0 : Keep M s₀ s) :
    Keep M s₀ (State.eccCorrected s ch) := by
  unfold State.eccCorrected
  try dsimp only
  repeat' first
    | with_reducible (first | assumption | apply keep_bump | apply keep_event | apply keep_raise | exact sub_trans rfl hM)

theorem keep_eccUncorrectable {M : Nat} {s₀ : State} (hM : M ||| 622530 = M) (s : State) (ch addr area : Nat) (h0 : Keep M s₀ s) :
    Keep M s₀ (State.eccUncorrectable s ch addr area) := by
  unfold State.eccUncorrectable
  try dsimp only
  repeat' first
    | with_reducible (first | assumption | apply keep_bump | apply keep_put | apply keep_event | apply keep_raise
                            | exact sub_trans rfl hM)

theorem keep_eccCheck {M : Nat} {s₀ : State} (hM : M ||| 622530 = M) (s : State) (o : Nat) (found : EccOutcome)
    (h0 : Keep M s₀ s) :
    Keep M s₀ (State.eccCheck s o found).1 := by
  unfold State.eccCheck
  try dsimp only
  repeat' first
    | with_reducible (first | assumption | apply keep_eccCorrected | apply keep_eccUncorrectable | exact sub_trans rfl hM)
    | split

theorem keep_physRead {M : Nat} {s₀ : State} (hM : M ||| 16 = M) (s : State) (sp off n : Nat) (h0 : Keep M s₀ s) :
    Keep M s₀ (State.physRead s sp off n).2 := by
  unfold State.physRead
  try dsimp only
  repeat' first
    | with_reducible (first | assumption | apply keep_ite | apply keep_hostRead | exact sub_trans rfl hM)
    | split

theorem keep_memLoc {M : Nat} {s0 : State} (hM : M ||| 32768 = M) (s : State) (l : List Host.Cell) (hl : memWf s.mem.loc → memWf l)
    (h0 : Keep M s0 s) : Keep M s0 { s with mem := { s.mem with loc := l } } :=
  keep_of hM h0 ⟨fun hs => ⟨hs.1, hl hs.2.1, hs.2.2⟩,
    fun p => by cases p <;> first | exact .inl rfl | exact .inr rfl | exact .inr ⟨rfl, rfl⟩ | exact .inr ⟨rfl, rfl, rfl⟩⟩

theorem keep_physWrite {M : Nat} {s0 : State} (hM : M ||| 32768 = M) (s : State) (sp off : Nat) (bs : List Byte) (h0 : Keep M s0 s) :
    Keep M s0 (s.physWrite sp off bs) := by
  unfold State.physWrite
  split
  · exact keep_memLoc hM s _ (memWrite_wf _ _ _) h0
  · split
    · exact keep_sramWrite hM _ _ _ h0
    · split
      · exact keep_dramWrite hM _ _ _ h0
      · exact keep_hostWrite hM _ _ _ h0

theorem keep_memEvents {M : Nat} {s₀ : State} (hM : M ||| 130 = M) (s : State) (sp off n : Nat) (write : Bool)
    (h0 : Keep M s₀ s) :
    Keep M s₀ (State.memEvents s sp off n write) := by
  unfold State.memEvents
  try dsimp only
  repeat' first
    | with_reducible (first | assumption | apply keep_ite | apply keep_events | apply keep_event | exact sub_trans rfl hM)
    | split

theorem keep_setTlb {M : Nat} {s0 : State} (hM : M ||| 32768 = M) (s : State) (key : Nat) (l : List TlbEnt) (h0 : Keep M s0 s) :
    Keep M s0 (s.setTlb key l) :=
  keep_of hM h0 ⟨fun hs => hs,
    fun p => by cases p <;> first | exact .inl rfl | exact .inr rfl | exact .inr ⟨rfl, rfl⟩ | exact .inr ⟨rfl, rfl, rfl⟩⟩

theorem keep_countWalk {M : Nat} {s₀ : State} (hM : M ||| 130 = M) (s : State) (key : Nat) (h0 : Keep M s₀ s) :
    Keep M s₀ (State.countWalk s key) := by
  unfold State.countWalk
  try dsimp only
  repeat' first
    | with_reducible (first | assumption | apply keep_ite | apply keep_bump | apply keep_event | exact sub_trans rfl hM)
    | split

theorem keep_translate {M : Nat} {s₀ : State} (hM : M ||| 655298 = M) (s : State) (key asid va : Nat) (write : Bool) (found : EccOutcome)
    (h0 : Keep M s₀ s) :
    Keep M s₀ (State.translate s key asid va write found).1 := by
  unfold State.translate
  try dsimp only
  repeat' first
    | with_reducible (first | assumption | apply keep_ite | apply keep_setTlb | apply keep_countWalk | apply keep_eccCheck
                            | exact sub_trans rfl hM)
    | split

theorem keep_tlbi {M : Nat} {s₀ : State} (hM : M ||| 32898 = M) (s : State) (sc : TlbScope) (op : TlbiOp) (h0 : Keep M s₀ s) :
    Keep M s₀ (State.tlbi s sc op) := by
  unfold State.tlbi
  try dsimp only
  repeat' first
    | intro _
    | with_reducible (first | assumption | apply keep_ite | apply keep_setTlb | apply keep_event | apply keep_putB
                            | apply keep_foldl | exact sub_trans rfl hM)
    | split

theorem keep_tlbiEnd {M : Nat} {s₀ : State} (hM : M ||| 130 = M) (s : State) (sc : TlbScope) (h0 : Keep M s₀ s) :
    Keep M s₀ (State.tlbiEnd s sc) := by
  unfold State.tlbiEnd
  try dsimp only
  repeat' first
    | with_reducible (first | assumption | apply keep_ite | apply keep_putB | apply keep_done | exact sub_trans rfl hM)
    | split

/-! ### EngOps -/

theorem keep_syncEng {M : Nat} {s₀ : State} (hM : M ||| 2 = M) (s : State) (e : Nat) (h0 : Keep M s₀ s) :
    Keep M s₀ (State.syncEng s e) := by
  unfold State.syncEng
  try dsimp only
  repeat' first
    | intro _
    | with_reducible (first | assumption | apply keep_putB | apply keep_put | apply keep_foldl | exact sub_trans rfl hM)
    | split

theorem keep_inbufSmall {M : Nat} {s₀ : State} (hM : M ||| 2 = M) (s : State) (e : Nat) (h0 : Keep M s₀ s) :
    Keep M s₀ (State.inbufSmall s e) := by
  unfold State.inbufSmall
  try dsimp only
  repeat' first
    | with_reducible (first | assumption | apply keep_putB | exact sub_trans rfl hM)

theorem keep_inbufApply {M : Nat} {s₀ : State} (hM : M ||| 8326 = M) (s : State) (e : Nat) (h0 : Keep M s₀ s) :
    Keep M s₀ (State.inbufApply s e) := by
  unfold State.inbufApply
  try dsimp only
  repeat' first
    | with_reducible (first | assumption | apply keep_ite | apply keep_applyWait | apply keep_modEng | apply keep_commitsUp
                            | apply keep_inbufSmall | apply keep_pend | exact sub_trans rfl hM)
    | split

theorem keep_engDeliver {M : Nat} {s₀ : State} (hM : M ||| 40962 = M) (s : State) (e h : Nat) (it : Item) (h0 : Keep M s₀ s) :
    Keep M s₀ (State.engDeliver s e h it) := by
  unfold State.engDeliver
  try dsimp only
  repeat' first
    | with_reducible (first | assumption | apply keep_dataWrite | apply keep_modEng | apply keep_syncEng
                            | exact sub_trans rfl hM)
    | split

theorem keep_inbufFree {M : Nat} {s₀ : State} (hM : M ||| 8192 = M) (s : State) (e : Nat) (i : Inv) (h0 : Keep M s₀ s) :
    Keep M s₀ (State.inbufFree s e i) := by
  unfold State.inbufFree
  try dsimp only
  repeat' first
    | with_reducible (first | assumption | apply keep_modEng | exact sub_trans rfl hM)

theorem keep_engException {M : Nat} {s₀ : State} (hM : M ||| 622530 = M) (s : State) (e code : Nat) (h0 : Keep M s₀ s) :
    Keep M s₀ (State.engException s e code) := by
  unfold State.engException
  try dsimp only
  repeat' first
    | with_reducible (first | assumption | apply keep_put | apply keep_event | apply keep_modEng | apply keep_raise
                            | exact sub_trans rfl hM)

theorem keep_engNormal {M : Nat} {s₀ : State} (hM : M ||| 8194 = M) (s : State) (e : Nat) (h0 : Keep M s₀ s) :
    Keep M s₀ (State.engNormal s e) := by
  unfold State.engNormal
  try dsimp only
  repeat' first
    | with_reducible (first | assumption | apply keep_put | apply keep_putB | apply keep_modEng | exact sub_trans rfl hM)

theorem keep_engTestDue {M : Nat} {s₀ : State} (hM : M ||| 8194 = M) (s : State) (e : Nat) (h0 : Keep M s₀ s) :
    Keep M s₀ (State.engTestDue s e) := by
  unfold State.engTestDue
  try dsimp only
  repeat' first
    | with_reducible (first | assumption | apply keep_ite | apply keep_put | apply keep_putB | apply keep_modEng
                            | apply keep_engNormal | exact sub_trans rfl hM)
    | split

theorem keep_invStart {M : Nat} {s₀ : State} (hM : M ||| 10242 = M) (s : State) (e : Nat) (i : Inv) (h0 : Keep M s₀ s) :
    Keep M s₀ (State.invStart s e i) := by
  unfold State.invStart
  try dsimp only
  repeat' first
    | with_reducible (first | assumption | apply keep_ite | apply keep_modEng | apply keep_modFlight | apply keep_put
                            | apply keep_syncEng | exact sub_trans rfl hM)
    | split

theorem keep_invSave {M : Nat} {s₀ : State} (hM : M ||| 41090 = M) (s : State) (e : Nat) (h0 : Keep M s₀ s) :
    Keep M s₀ (State.invSave s e) := by
  unfold State.invSave
  try dsimp only
  repeat' first
    | with_reducible (first | assumption | apply keep_dataWrite | apply keep_modEng | apply keep_bump | apply keep_event
                            | apply keep_syncEng | exact sub_trans rfl hM)
    | split

theorem keep_invRestore {M : Nat} {s₀ : State} (hM : M ||| 8194 = M) (s : State) (e pri : Nat) (h0 : Keep M s₀ s) :
    Keep M s₀ (State.invRestore s e pri) := by
  unfold State.invRestore
  try dsimp only
  repeat' first
    | with_reducible (first | assumption | apply keep_modEng | apply keep_syncEng | exact sub_trans rfl hM)
    | split

theorem keep_invEnd {M : Nat} {s₀ : State} (hM : M ||| 10374 = M) (s : State) (e : Nat) (h0 : Keep M s₀ s) :
    Keep M s₀ (State.invEnd s e) := by
  unfold State.invEnd
  try dsimp only
  repeat' first
    | intro _
    | with_reducible (first | assumption | apply keep_inbufFree | apply keep_modEng | apply keep_modStream | apply keep_executed
                            | apply keep_bump | apply keep_event | apply keep_engTestDue | apply keep_inbufApply
                            | apply keep_syncEng | apply keep_foldl | exact sub_trans rfl hM)
    | split

theorem keep_engAbandon {M : Nat} {s₀ : State} (hM : M ||| 10438 = M) (s : State) (e : Nat) (h0 : Keep M s₀ s) :
    Keep M s₀ (State.engAbandon s e) := by
  unfold State.engAbandon
  try dsimp only
  repeat' first
    | intro _
    | with_reducible (first | assumption | apply keep_retryCount | apply keep_rewind | apply keep_modFlight
                            | apply keep_inbufFree | apply keep_modEng | apply keep_putB | apply keep_ackSource
                            | apply keep_engTestDue | apply keep_inbufApply | apply keep_syncEng | apply keep_foldl
                            | exact sub_trans rfl hM)
    | split

theorem keep_engStop {M : Nat} {s₀ : State} (hM : M ||| 10438 = M) (s : State) (e : Nat) (h0 : Keep M s₀ s) :
    Keep M s₀ (State.engStop s e) := by
  unfold State.engStop
  try dsimp only
  repeat' first
    | with_reducible (first | assumption | apply keep_ite | apply keep_engAbandon | apply keep_modEng | exact sub_trans rfl hM)
    | split

theorem keep_abandonDue {M : Nat} {s₀ : State} (hM : M ||| 10438 = M) (s : State) (e : Nat) (h0 : Keep M s₀ s) :
    Keep M s₀ (State.abandonDue s e) := by
  unfold State.abandonDue
  try dsimp only
  repeat' first
    | with_reducible (first | assumption | apply keep_ite | apply keep_engAbandon | exact sub_trans rfl hM)
    | split

theorem keep_engUnsuspend {M : Nat} {s₀ : State} (hM : M ||| 8258 = M) (s : State) (e : Nat) (h0 : Keep M s₀ s) :
    Keep M s₀ (State.engUnsuspend s e) := by
  unfold State.engUnsuspend
  try dsimp only
  repeat' first
    | with_reducible (first | assumption | apply keep_modEng | apply keep_putB | apply keep_ackSource | apply keep_syncEng
                            | exact sub_trans rfl hM)

theorem keep_engRetry {M : Nat} {s₀ : State} (hM : M ||| 8258 = M) (s : State) (e : Nat) (h0 : Keep M s₀ s) :
    Keep M s₀ (State.engRetry s e) := by
  unfold State.engRetry
  try dsimp only
  repeat' first
    | with_reducible (first | assumption | apply keep_ite | apply keep_engUnsuspend | exact sub_trans rfl hM)
    | split

theorem keep_engGiveUp {M : Nat} {s₀ : State} (hM : M ||| 622530 = M) (s : State) (e : Nat) (h0 : Keep M s₀ s) :
    Keep M s₀ (State.engGiveUp s e) := by
  unfold State.engGiveUp
  try dsimp only
  repeat' first
    | with_reducible (first | assumption | apply keep_ite | apply keep_engUnsuspend | apply keep_engException
                            | exact sub_trans rfl hM)
    | split

theorem keep_engHalt {M : Nat} {s₀ : State} (hM : M ||| 8194 = M) (s : State) (e : Nat) (h0 : Keep M s₀ s) :
    Keep M s₀ (State.engHalt s e) := by
  unfold State.engHalt
  try dsimp only
  repeat' first
    | with_reducible (first | assumption | apply keep_ite | apply keep_putB | apply keep_syncEng | apply keep_modEng
                            | exact sub_trans rfl hM)
    | split

theorem keep_engResume {M : Nat} {s₀ : State} (hM : M ||| 8194 = M) (s : State) (e : Nat) (h0 : Keep M s₀ s) :
    Keep M s₀ (State.engResume s e) := by
  unfold State.engResume
  try dsimp only
  repeat' first
    | with_reducible (first | assumption | apply keep_putB | apply keep_modEng | apply keep_syncEng | exact sub_trans rfl hM)

theorem keep_engTest {M : Nat} {s₀ : State} (hM : M ||| 8194 = M) (s : State) (e : Nat) (h0 : Keep M s₀ s) :
    Keep M s₀ (State.engTest s e) := by
  unfold State.engTest
  try dsimp only
  repeat' first
    | with_reducible (first | assumption | apply keep_ite | apply keep_modEng | apply keep_engTestDue | exact sub_trans rfl hM)
    | split

theorem keep_haltDue {M : Nat} {s₀ : State} (hM : M ||| 8194 = M) (s : State) (e : Nat) (h0 : Keep M s₀ s) :
    Keep M s₀ (State.haltDue s e) := by
  unfold State.haltDue
  try dsimp only
  repeat' first
    | with_reducible (first | assumption | apply keep_ite | apply keep_putB | apply keep_modEng | apply keep_syncEng
                            | exact sub_trans rfl hM)
    | split

theorem keep_engStart {M : Nat} {s₀ : State} (hM : M ||| 8194 = M) (s : State) (e : Nat) (h0 : Keep M s₀ s) :
    Keep M s₀ (State.engStart s e) := by
  unfold State.engStart
  try dsimp only
  repeat' first
    | with_reducible (first | assumption | apply keep_put | apply keep_putB | apply keep_modEng | exact sub_trans rfl hM)

/-! ### EngDecode -/

theorem keep_issueIllegal {M : Nat} {s₀ : State} (hM : M ||| 622530 = M) (s : State) (e : Fin 128) (h0 : Keep M s₀ s) :
    Keep M s₀ (State.issueIllegal s e) := by
  unfold State.issueIllegal
  try dsimp only
  repeat' first
    | with_reducible (first | assumption | apply keep_ite | apply keep_engException | exact sub_trans rfl hM)
    | split

/-! ### Streams -/

theorem keep_wakeUnit {M : Nat} {s₀ : State} (hM : M ||| 131074 = M) (s : State) (u : Nat) (h0 : Keep M s₀ s) :
    Keep M s₀ (State.wakeUnit s u) := by
  unfold State.wakeUnit
  try dsimp only
  repeat' first
    | intro _
    | with_reducible (first | assumption | apply keep_ite | apply keep_startDomain | apply keep_foldl | exact sub_trans rfl hM)
    | split

theorem keep_startQuiesce {M : Nat} {s₀ : State} (hM : M ||| 2048 = M) (s : State) (u : Nat) (h0 : Keep M s₀ s) :
    Keep M s₀ (State.startQuiesce s u) := by
  unfold State.startQuiesce
  try dsimp only
  repeat' first
    | with_reducible (first | assumption | apply keep_ite | exact sub_trans rfl hM)
    | exact .inl (sub_bit rfl hM)
    | with_reducible (first | exact .inr rfl | exact .inr ⟨rfl, rfl⟩ | exact .inr ⟨rfl, rfl, rfl⟩)
    | split
    | simp only [id_eq]
    | with_reducible apply keep_mk

theorem keep_setQuiesce {M : Nat} {s₀ : State} (hM : M ||| 2048 = M) (s : State) (id ph : Nat) (h0 : Keep M s₀ s) :
    Keep M s₀ (State.setQuiesce s id ph) := by
  unfold State.setQuiesce
  try dsimp only
  repeat' first
    | with_reducible (first | assumption | apply keep_ite | exact sub_trans rfl hM)
    | exact .inl (sub_bit rfl hM)
    | with_reducible (first | exact .inr rfl | exact .inr ⟨rfl, rfl⟩ | exact .inr ⟨rfl, rfl, rfl⟩)
    | split
    | simp only [id_eq]
    | with_reducible apply keep_mk

theorem keep_endQuiesce {M : Nat} {s₀ : State} (hM : M ||| 2048 = M) (s : State) (id : Nat) (h0 : Keep M s₀ s) :
    Keep M s₀ (State.endQuiesce s id) := by
  unfold State.endQuiesce
  try dsimp only
  repeat' first
    | with_reducible (first | assumption | exact sub_trans rfl hM)
    | exact .inl (sub_bit rfl hM)
    | with_reducible (first | exact .inr rfl | exact .inr ⟨rfl, rfl⟩ | exact .inr ⟨rfl, rfl, rfl⟩)
    | split
    | simp only [id_eq]
    | with_reducible apply keep_mk

theorem keep_syncWait {M : Nat} {s₀ : State} (hM : M ||| 2 = M) (s : State) (h0 : Keep M s₀ s) :
    Keep M s₀ (State.syncWait s) := by
  unfold State.syncWait
  try dsimp only
  repeat' first
    | with_reducible (first | assumption | apply keep_putB | exact sub_trans rfl hM)

theorem keep_seeAck {M : Nat} {s₀ : State} (hM : M ||| 2048 = M) (s : State) (k v : Nat) (h0 : Keep M s₀ s) :
    Keep M s₀ (State.seeAck s k v) := by
  unfold State.seeAck
  try dsimp only
  repeat' first
    | with_reducible (first | assumption | apply keep_ite | apply keep_modStream | exact sub_trans rfl hM)
    | split

theorem keep_dirtyAll {M : Nat} {s₀ : State} (hM : M ||| 2048 = M) (s : State) (h0 : Keep M s₀ s) :
    Keep M s₀ (State.dirtyAll s) := by
  unfold State.dirtyAll
  try dsimp only
  repeat' first
    | with_reducible (first | assumption | apply keep_ite | exact sub_trans rfl hM)
    | exact .inl (sub_bit rfl hM)
    | with_reducible (first | exact .inr rfl | exact .inr ⟨rfl, rfl⟩ | exact .inr ⟨rfl, rfl, rfl⟩)
    | split
    | with_reducible apply keep_mk

theorem keep_openStream {M : Nat} {s₀ : State} (hM : M ||| 2066 = M) (s : State) (k base : Nat) (h0 : Keep M s₀ s) :
    Keep M s₀ (State.openStream s k base).1 := by
  unfold State.openStream
  try dsimp only
  repeat' first
    | with_reducible (first | assumption | apply keep_ite | apply keep_setStream | apply keep_syncWait | apply keep_dirtyAll
                            | apply keep_hostRead | apply keep_seeAck | exact sub_trans rfl hM)
    | split

theorem keep_strmResult {M : Nat} {s₀ : State} (hM : M ||| 130 = M) (s : State) (r : Nat) (h0 : Keep M s₀ s) :
    Keep M s₀ (State.strmResult s r) := by
  unfold State.strmResult
  try dsimp only
  repeat' first
    | with_reducible (first | assumption | apply keep_put | apply keep_done | exact sub_trans rfl hM)

theorem keep_skip {M : Nat} {s₀ : State} (hM : M ||| 2178 = M) (s : State) (k : Nat) (h0 : Keep M s₀ s) :
    Keep M s₀ (State.skip s k) := by
  unfold State.skip
  try dsimp only
  repeat' first
    | intro _
    | with_reducible (first | assumption | apply keep_ite | apply keep_refuseItem | apply keep_modStream | apply keep_advanceE
                            | apply keep_foldl | exact sub_trans rfl hM)
    | split

theorem keep_refuseUnit {M : Nat} {s₀ : State} (hM : M ||| 622530 = M) (s : State) (it : Item) (code : Nat) (h0 : Keep M s₀ s) :
    Keep M s₀ (State.refuseUnit s it code) := by
  unfold State.refuseUnit
  try dsimp only
  repeat' first
    | with_reducible (first | assumption | apply keep_refuseItem | apply keep_raise | exact sub_trans rfl hM)

theorem keep_portSignal {M : Nat} {s₀ : State} (hM : M ||| 2178 = M) (s : State) (port : Option Nat) (it : Item) (code : Nat)
    (h0 : Keep M s₀ s) :
    Keep M s₀ (State.portSignal s port it code) := by
  unfold State.portSignal
  try dsimp only
  repeat' first
    | with_reducible (first | assumption | apply keep_ite | apply keep_eventInst | exact sub_trans rfl hM)
    | exact .inl (sub_bit rfl hM)
    | with_reducible (first | exact .inr rfl | exact .inr ⟨rfl, rfl⟩ | exact .inr ⟨rfl, rfl, rfl⟩)
    | split
    | with_reducible apply keep_mk

theorem keep_serve {M : Nat} {s₀ : State} (hM : M ||| 2178 = M) (s : State) (serves : Option (Nat × Nat)) (k seq : Nat)
    (h0 : Keep M s₀ s) :
    Keep M s₀ (State.serve s serves k seq) := by
  unfold State.serve
  try dsimp only
  repeat' first
    | with_reducible (first | assumption | apply keep_ite | apply keep_modFlight | apply keep_modStream | apply keep_executed
                            | exact sub_trans rfl hM)
    | split

theorem keep_takeItem {M : Nat} {s₀ : State} (hM : M ||| 622530 = M) (s : State) (it : Item) (lvl : Nat) (serves : Option (Nat × Nat))
    (h0 : Keep M s₀ s) :
    Keep M s₀ (State.takeItem s it lvl serves).1 := by
  unfold State.takeItem
  try dsimp only
  repeat' first
    | with_reducible (first | assumption | apply keep_ite | apply keep_refuseUnit | apply keep_serve | apply keep_modStream
                            | apply keep_enter | apply keep_duplicate | exact sub_trans rfl hM)
    | split

theorem keep_ringStop {M : Nat} {s₀ : State} (hM : M ||| 622530 = M) (s : State) (r : Nat) (h0 : Keep M s₀ s) :
    Keep M s₀ (State.ringStop s r) := by
  unfold State.ringStop
  try dsimp only
  repeat' first
    | with_reducible (first | assumption | apply keep_modRing | apply keep_putB | apply keep_raise | exact sub_trans rfl hM)

theorem keep_seeProd {M : Nat} {s₀ : State} (hM : M ||| 622530 = M) (s : State) (r v : Nat) (h0 : Keep M s₀ s) :
    Keep M s₀ (State.seeProd s r v) := by
  unfold State.seeProd
  try dsimp only
  repeat' first
    | with_reducible (first | assumption | apply keep_ite | apply keep_modRing | apply keep_put | apply keep_ringStop
                            | exact sub_trans rfl hM)
    | split

theorem keep_ringEnable {M : Nat} {s₀ : State} (hM : M ||| 622546 = M) (s : State) (r : Nat) (h0 : Keep M s₀ s) :
    Keep M s₀ (State.ringEnable s r) := by
  unfold State.ringEnable
  try dsimp only
  repeat' first
    | with_reducible (first | assumption | apply keep_ite | apply keep_putB | apply keep_modRing | apply keep_hostRead
                            | apply keep_seeProd | exact sub_trans rfl hM)
    | split

theorem keep_ringDisable {M : Nat} {s₀ : State} (hM : M ||| 2050 = M) (s : State) (r : Nat) (h0 : Keep M s₀ s) :
    Keep M s₀ (State.ringDisable s r) := by
  unfold State.ringDisable
  try dsimp only
  repeat' first
    | with_reducible (first | assumption | apply keep_modRing | apply keep_putB | exact sub_trans rfl hM)

theorem keep_keyStep {M : Nat} {s₀ : State} (hM : M ||| 2178 = M) (s : State) (f : Flight) (h0 : Keep M s₀ s) :
    Keep M s₀ (State.keyStep s f) := by
  unfold State.keyStep
  try dsimp only
  repeat' first
    | with_reducible (first | assumption | apply keep_bump | apply keep_event | apply keep_executed | apply keep_modStream
                            | exact sub_trans rfl hM)
    | split

theorem keep_deliver {M : Nat} {s₀ : State} (hM : M ||| 43154 = M) (s : State) (u : Nat) (f : Flight) (h0 : Keep M s₀ s) :
    Keep M s₀ (State.deliver s u f) := by
  unfold State.deliver
  try dsimp only
  repeat' first
    | with_reducible (first | assumption | apply keep_ite | apply keep_modFlight | apply keep_netWords | apply keep_engDeliver
                            | apply keep_eventInst | apply keep_event | apply keep_resultAccepted | exact sub_trans rfl hM)
    | split

theorem keep_forward {M : Nat} {s₀ : State} (hM : M ||| 6274 = M) (s : State) (f : Flight) (h0 : Keep M s₀ s) :
    Keep M s₀ (State.forward s f) := by
  unfold State.forward
  try dsimp only
  repeat' first
    | with_reducible (first | assumption | apply keep_ite | apply keep_modFlight | apply keep_latSend | exact sub_trans rfl hM)
    | split

theorem keep_dispatch {M : Nat} {s₀ : State} (hM : M ||| 174226 = M) (s : State) (u : Nat) (h0 : Keep M s₀ s) :
    Keep M s₀ (State.dispatch s u) := by
  unfold State.dispatch
  try dsimp only
  repeat' first
    | with_reducible (first | assumption | apply keep_ite | apply keep_inbufSmall | apply keep_wakeUnit | apply keep_keyStep
                            | apply keep_deliver | exact sub_trans rfl hM)
    | split
    | simp only [id_eq]

theorem keep_dispatchAll {M : Nat} {s0 : State} (hM : M ||| 174226 = M) (n : Nat) (s : State) (u : Nat) (h0 : Keep M s0 s) : Keep M s0 (State.dispatchAll n s u) := by
  induction n generalizing s with
  | zero => exact h0
  | succ n ih => exact ih _ (keep_dispatch (sub_trans rfl hM) _ _ h0)

theorem keep_feedEngine {M : Nat} {s₀ : State} (hM : M ||| 174226 = M) (s : State) (e : Nat) (h0 : Keep M s₀ s) :
    Keep M s₀ (State.feedEngine s e) := by
  unfold State.feedEngine
  try dsimp only
  repeat' first
    | with_reducible (first | assumption | apply keep_dispatchAll | exact sub_trans rfl hM)
    | simp only [id_eq]

theorem keep_sendDelivered {M : Nat} {s₀ : State} (hM : M ||| 174226 = M) (t : State) (it : Item) (h0 : Keep M s₀ t) :
    optKeep M s₀ (State.sendDelivered t it) := by
  unfold State.sendDelivered
  try dsimp only
  repeat' first
    | with_reducible (first | assumption | apply keep_ite | apply opt_keep_some | apply opt_keep_none | apply opt_keep_ite
                            | apply keep_dispatch | exact sub_trans rfl hM)
    | split

theorem keep_wakeFor {M : Nat} {s₀ : State} (hM : M ||| 131074 = M) (s : State) (it : Item) (h0 : Keep M s₀ s) :
    Keep M s₀ (State.wakeFor s it) := by
  unfold State.wakeFor
  try dsimp only
  repeat' first
    | with_reducible (first | assumption | apply keep_ite | apply keep_wakeUnit | exact sub_trans rfl hM)
    | split

/-! ### Sched -/

theorem keep_strmFields {M : Nat} {s₀ : State} (hM : M ||| 2 = M) (s : State) (k op : Nat) (h0 : Keep M s₀ s) :
    Keep M s₀ (State.strmFields s k op) := by
  unfold State.strmFields
  try dsimp only
  repeat' first
    | with_reducible (first | assumption | apply keep_put | exact sub_trans rfl hM)

theorem keep_execStreamOpen {M : Nat} {s₀ : State} (hM : M ||| 622546 = M) (w : Writer) (k : Fin 4096) (base : BitVec 48) (s : State)
    (h0 : Keep M s₀ s) :
    outKeep M s₀ (execStreamOpen w k base s) := by
  unfold execStreamOpen
  try dsimp only
  repeat' first
    | intro _
    | with_reducible (first | assumption | apply keep_ite | apply out_keep_ite | apply keep_next | apply keep_byOwner
                            | apply keep_strmFields | apply keep_put | apply keep_openStream | apply keep_strmResult
                            | exact sub_trans rfl hM)
    | split

theorem keep_execStreamClose {M : Nat} {s₀ : State} (hM : M ||| 622530 = M) (w : Writer) (k : Fin 4096) (s : State)
    (h0 : Keep M s₀ s) :
    outKeep M s₀ (execStreamClose w k s) := by
  unfold execStreamClose
  try dsimp only
  repeat' first
    | intro _
    | with_reducible (first | assumption | apply keep_ite | apply out_keep_ite | apply keep_next | apply keep_byOwner
                            | apply keep_strmFields | apply keep_modStream | apply keep_strmResult | apply keep_syncWait
                            | exact sub_trans rfl hM)
    | split

theorem keep_execStreamSkip {M : Nat} {s₀ : State} (hM : M ||| 622530 = M) (w : Writer) (k : Fin 4096) (s : State)
    (h0 : Keep M s₀ s) :
    outKeep M s₀ (execStreamSkip w k s) := by
  unfold execStreamSkip
  try dsimp only
  repeat' first
    | intro _
    | with_reducible (first | assumption | apply keep_ite | apply out_keep_ite | apply keep_next | apply keep_byOwner
                            | apply keep_strmFields | apply keep_skip | apply keep_strmResult | exact sub_trans rfl hM)
    | split

theorem keep_putQ {M : Nat} {s₀ : State} (hM : M ||| 2 = M) (s : State) (k v : Nat) (h0 : Keep M s₀ s) :
    Keep M s₀ (State.putQ s k v) := by
  unfold State.putQ
  try dsimp only
  repeat' first
    | with_reducible (first | assumption | apply keep_put | exact sub_trans rfl hM)

theorem keep_execStreamQuery {M : Nat} {s₀ : State} (hM : M ||| 622530 = M) (w : Writer) (k : Fin 4096) (s : State)
    (h0 : Keep M s₀ s) :
    outKeep M s₀ (execStreamQuery w k s) := by
  unfold execStreamQuery
  try dsimp only
  repeat' first
    | intro _
    | with_reducible (first | assumption | apply keep_next | apply keep_byOwner | apply keep_strmFields | apply keep_put
                            | apply keep_putB | apply keep_putQ | apply keep_strmResult | exact sub_trans rfl hM)

theorem keep_execStreamClosed {M : Nat} {s₀ : State} (hM : M ||| 2048 = M) (k : Fin 4096) (s : State) (h0 : Keep M s₀ s) :
    outKeep M s₀ (execStreamClosed k s) := by
  unfold execStreamClosed
  try dsimp only
  repeat' first
    | with_reducible (first | assumption | apply keep_ite | apply out_keep_ite | apply keep_next | apply keep_modStream
                            | exact sub_trans rfl hM)
    | split

theorem keep_seeLine {M : Nat} {s₀ : State} (hM : M ||| 622530 = M) (s : State) (l : WatchedLine) (h0 : Keep M s₀ s) :
    Keep M s₀ (State.seeLine s l) := by
  unfold State.seeLine
  try dsimp only
  repeat' first
    | with_reducible (first | assumption | apply keep_seeProd | apply keep_seeAck | exact sub_trans rfl hM)
    | split

theorem keep_execWatchedLineSnoop {M : Nat} {s₀ : State} (hM : M ||| 622530 = M) (l : WatchedLine) (s : State)
    (h0 : Keep M s₀ s) :
    outKeep M s₀ (execWatchedLineSnoop l s) := by
  unfold execWatchedLineSnoop
  try dsimp only
  repeat' first
    | with_reducible (first | assumption | apply keep_ite | apply out_keep_ite | apply keep_next | apply keep_seeLine
                            | exact sub_trans rfl hM)
    | split

theorem keep_execRingPoll {M : Nat} {s₀ : State} (hM : M ||| 622530 = M) (l : WatchedLine) (s : State) (h0 : Keep M s₀ s) :
    outKeep M s₀ (execRingPoll l s) := by
  unfold execRingPoll
  try dsimp only
  repeat' first
    | with_reducible (first | assumption | apply keep_ite | apply out_keep_ite | apply keep_next | apply keep_seeLine
                            | exact sub_trans rfl hM)
    | split

theorem keep_refuseEntry {M : Nat} {s₀ : State} (hM : M ||| 2178 = M) (s : State) (r : Nat) (it : Item) (code : Nat)
    (h0 : Keep M s₀ s) :
    Keep M s₀ (State.refuseEntry s r it code) := by
  unfold State.refuseEntry
  try dsimp only
  repeat' first
    | with_reducible (first | assumption | apply keep_ite | apply keep_refuseItem | apply keep_modRing | exact sub_trans rfl hM)
    | split

theorem keep_passEntry {M : Nat} {s₀ : State} (hM : M ||| 2050 = M) (s : State) (r : Nat) (e : Option (Nat × Nat))
    (h0 : Keep M s₀ s) :
    Keep M s₀ (State.passEntry s r e) := by
  unfold State.passEntry
  try dsimp only
  repeat' first
    | with_reducible (first | assumption | apply keep_modRing | apply keep_put | exact sub_trans rfl hM)

theorem keep_execRingEntryTake {M : Nat} {s₀ : State} (hM : M ||| 2178 = M) (r : Fin 64) (ent : RingEntry) (s : State)
    (h0 : Keep M s₀ s) :
    outKeep M s₀ (execRingEntryTake r ent s) := by
  unfold execRingEntryTake
  try dsimp only
  repeat' first
    | with_reducible (first | assumption | apply keep_ite | apply out_keep_ite | apply keep_next | apply keep_event
                            | apply keep_refuseEntry | apply keep_passEntry | apply keep_duplicate | apply keep_enter
                            | exact sub_trans rfl hM)
    | split

theorem keep_execRingLineWrite {M : Nat} {s₀ : State} (hM : M ||| 34816 = M) (r : Fin 64) (s : State) (h0 : Keep M s₀ s) :
    outKeep M s₀ (execRingLineWrite r s) := by
  unfold execRingLineWrite
  try dsimp only
  repeat' first
    | with_reducible (first | assumption | apply keep_ite | apply out_keep_ite | apply keep_next | apply keep_hostWrite
                            | apply keep_modRing | exact sub_trans rfl hM)
    | split

theorem keep_execItemTake {M : Nat} {s0 : State} (hM : M ||| 786386 = M) (src : Nat) (s : State) (h0 : Keep M s0 s) : outKeep M s0 (execItemTake src s) := by
  unfold execItemTake
  split
  · exact keep_next h0
  · rename_i o _
    dsimp only
    have hw := keep_wakeFor (sub_trans rfl hM) s o.item h0
    have he : Keep M s0 ({ s with sched := { s.sched with offers := s.sched.offers.erase o } } : State) :=
      keep_of (m := 2048) (sub_trans rfl hM) h0 ⟨id, fun p => by cases p <;> first | exact .inl rfl | exact .inr rfl | exact .inr ⟨rfl, rfl⟩ | exact .inr ⟨rfl, rfl, rfl⟩⟩
    have ht := keep_takeItem (sub_trans rfl hM) _ o.item 0 o.serves he
    split
    · split
      · exact keep_next (keep_portSignal (sub_trans rfl hM) _ _ _ _ ht)
      · have hd := keep_sendDelivered (sub_trans rfl hM) _ o.item ht
        split
        · rename_i t h
          rw [h] at hd
          exact keep_next (keep_portSignal (sub_trans rfl hM) _ _ _ _ hd)
        · exact keep_next hw
    · exact keep_next h0

theorem keep_acceptFlight {M : Nat} {s₀ : State} (hM : M ||| 6274 = M) (s : State) (f : Flight) (h0 : Keep M s₀ s) :
    Keep M s₀ (State.acceptFlight s f) := by
  unfold State.acceptFlight
  try dsimp only
  repeat' first
    | with_reducible (first | assumption | apply keep_ite | apply keep_accept | apply keep_inbufSmall | apply keep_latSend
                            | exact sub_trans rfl hM)
    | split

theorem keep_execItemAccept {M : Nat} {s₀ : State} (hM : M ||| 6274 = M) (k : Fin 4096) (seq : Nat) (s : State)
    (h0 : Keep M s₀ s) :
    outKeep M s₀ (execItemAccept k seq s) := by
  unfold execItemAccept
  try dsimp only
  repeat' first
    | with_reducible (first | assumption | apply keep_ite | apply out_keep_ite | apply keep_next | apply keep_acceptFlight
                            | exact sub_trans rfl hM)
    | split

theorem keep_execItemDispatch {M : Nat} {s₀ : State} (hM : M ||| 178322 = M) (dst : Nat) (s : State) (h0 : Keep M s₀ s) :
    outKeep M s₀ (execItemDispatch dst s) := by
  unfold execItemDispatch
  try dsimp only
  repeat' first
    | with_reducible (first | assumption | apply keep_ite | apply out_keep_ite | apply keep_next | apply keep_forward
                            | apply keep_dispatch | exact sub_trans rfl hM)
    | split

theorem keep_execCompletionRecordWrite {M : Nat} {s₀ : State} (hM : M ||| 35202 = M) (k : Fin 4096) (s : State)
    (h0 : Keep M s₀ s) :
    outKeep M s₀ (execCompletionRecordWrite k s) := by
  unfold execCompletionRecordWrite
  try dsimp only
  repeat' first
    | intro _
    | with_reducible (first | assumption | apply keep_ite | apply out_keep_ite | apply keep_next | apply keep_hostWrite
                            | apply keep_event | apply keep_modStream | apply keep_done | apply keep_executed
                            | apply keep_retire | apply keep_srcFire | apply keep_foldl | exact sub_trans rfl hM)
    | exact .inl (sub_bit rfl hM)
    | with_reducible (first | exact .inr rfl | exact .inr ⟨rfl, rfl⟩ | exact .inr ⟨rfl, rfl, rfl⟩)
    | split
    | with_reducible apply keep_mk

theorem keep_execDeliveryRingWrite {M : Nat} {s₀ : State} (hM : M ||| 34946 = M) (k : Fin 4096) (s : State) (h0 : Keep M s₀ s) :
    outKeep M s₀ (execDeliveryRingWrite k s) := by
  unfold execDeliveryRingWrite
  try dsimp only
  repeat' first
    | with_reducible (first | assumption | apply keep_ite | apply out_keep_ite | apply keep_next | apply keep_keyStep
                            | apply keep_hostWrite | apply keep_modStream | apply keep_executed | exact sub_trans rfl hM)
    | split

theorem keep_execGapTimeout {M : Nat} {s₀ : State} (hM : M ||| 622530 = M) (k : Fin 4096) (s : State) (h0 : Keep M s₀ s) :
    outKeep M s₀ (execGapTimeout k s) := by
  unfold execGapTimeout
  try dsimp only
  repeat' first
    | with_reducible (first | assumption | apply keep_ite | apply out_keep_ite | apply keep_next | apply keep_modStream
                            | apply keep_raise | exact sub_trans rfl hM)
    | split

theorem keep_execKeyCommit {M : Nat} {s₀ : State} (hM : M ||| 2304 = M) (k : Fin 4096) (s : State) (h0 : Keep M s₀ s) :
    outKeep M s₀ (execKeyCommit k s) := by
  unfold execKeyCommit
  try dsimp only
  repeat' first
    | with_reducible (first | assumption | apply keep_next | apply keep_ledgerWrite | apply keep_modFlight
                            | apply keep_modStream | exact sub_trans rfl hM)
    | exact .inl (sub_bit rfl hM)
    | with_reducible (first | exact .inr rfl | exact .inr ⟨rfl, rfl⟩ | exact .inr ⟨rfl, rfl, rfl⟩)
    | split
    | with_reducible apply keep_mk

theorem keep_dmaApply {M : Nat} {s₀ : State} (hM : M ||| 16390 = M) (s : State) (c j : Nat) (h0 : Keep M s₀ s) :
    Keep M s₀ (State.dmaApply s c j) := by
  unfold State.dmaApply
  try dsimp only
  repeat' first
    | intro _
    | with_reducible (first | assumption | apply keep_ite | apply keep_applyWait | apply keep_put | apply keep_modDma
                            | apply keep_putB | apply keep_foldl | exact sub_trans rfl hM)
    | split

theorem keep_dmaCommitted {M : Nat} {s₀ : State} (hM : M ||| 130 = M) (s : State) (c : Nat) (h0 : Keep M s₀ s) :
    Keep M s₀ (State.dmaCommitted s c) := by
  unfold State.dmaCommitted
  try dsimp only
  repeat' first
    | with_reducible (first | assumption | apply keep_ite | apply keep_commitsUp | apply keep_pend | exact sub_trans rfl hM)
    | split

theorem keep_abandonUnit {M : Nat} {s₀ : State} (hM : M ||| 26822 = M) (s : State) (id : Nat) (now : Bool) (h0 : Keep M s₀ s) :
    Keep M s₀ (State.abandonUnit s id now) := by
  unfold State.abandonUnit
  try dsimp only
  repeat' first
    | intro _
    | with_reducible (first | assumption | apply keep_ite | apply keep_engAbandon | apply keep_engStop | apply keep_retryCount
                            | apply keep_ackSource | apply keep_dmaApply | apply keep_dropDma | apply keep_dmaCommitted
                            | apply keep_requeue | apply keep_rewind | apply keep_foldl | exact sub_trans rfl hM)
    | split
    | simp only [id_eq]

theorem keep_execQuiesceTimeout {M : Nat} {s₀ : State} (hM : M ||| 26822 = M) (u : Nat) (s : State) (h0 : Keep M s₀ s) :
    outKeep M s₀ (execQuiesceTimeout u s) := by
  unfold execQuiesceTimeout
  try dsimp only
  repeat' first
    | with_reducible (first | assumption | apply keep_ite | apply out_keep_ite | apply keep_next | apply keep_abandonUnit
                            | apply keep_setQuiesce | exact sub_trans rfl hM)
    | split

theorem keep_quiesceReturn {M : Nat} {s₀ : State} (hM : M ||| 26822 = M) (s : State) (u : Nat) (h0 : Keep M s₀ s) :
    Keep M s₀ (State.quiesceReturn s u) := by
  unfold State.quiesceReturn
  try dsimp only
  repeat' first
    | intro _
    | with_reducible (first | assumption | apply keep_ite | apply keep_abandonUnit | apply keep_retryCount | apply keep_requeue
                            | apply keep_dropEngine | apply keep_inbufApply | apply keep_syncEng | apply keep_setQuiesce
                            | apply keep_foldl | exact sub_trans rfl hM)
    | split

theorem keep_execQuiesceReturn {M : Nat} {s₀ : State} (hM : M ||| 26822 = M) (u : Nat) (s : State) (h0 : Keep M s₀ s) :
    outKeep M s₀ (execQuiesceReturn u s) := by
  unfold execQuiesceReturn
  try dsimp only
  repeat' first
    | with_reducible (first | assumption | apply keep_next | apply keep_quiesceReturn | exact sub_trans rfl hM)

theorem keep_execReplayReissue {M : Nat} {s₀ : State} (hM : M ||| 2048 = M) (u : Nat) (s : State) (h0 : Keep M s₀ s) :
    outKeep M s₀ (execReplayReissue u s) := by
  unfold execReplayReissue
  try dsimp only
  repeat' first
    | with_reducible (first | assumption | apply keep_ite | apply out_keep_ite | apply keep_next | apply keep_endQuiesce
                            | exact sub_trans rfl hM)
    | split

theorem keep_execSchedRejCntRead {M : Nat} {s₀ : State} (hM : M ||| 10 = M) (s : State) (h0 : Keep M s₀ s) :
    outKeep M s₀ (execSchedRejCntRead s) := by
  unfold execSchedRejCntRead
  try dsimp only
  repeat' first
    | with_reducible (first | assumption | apply keep_next | apply keep_readClear | exact sub_trans rfl hM)

theorem keep_execSchedDupCntRead {M : Nat} {s₀ : State} (hM : M ||| 10 = M) (s : State) (h0 : Keep M s₀ s) :
    outKeep M s₀ (execSchedDupCntRead s) := by
  unfold execSchedDupCntRead
  try dsimp only
  repeat' first
    | with_reducible (first | assumption | apply keep_next | apply keep_readClear | exact sub_trans rfl hM)

theorem keep_execSchedRetryCntRead {M : Nat} {s₀ : State} (hM : M ||| 10 = M) (s : State) (h0 : Keep M s₀ s) :
    outKeep M s₀ (execSchedRetryCntRead s) := by
  unfold execSchedRetryCntRead
  try dsimp only
  repeat' first
    | with_reducible (first | assumption | apply keep_next | apply keep_readClear | exact sub_trans rfl hM)

theorem keep_execSchedLossCntRead {M : Nat} {s₀ : State} (hM : M ||| 10 = M) (s : State) (h0 : Keep M s₀ s) :
    outKeep M s₀ (execSchedLossCntRead s) := by
  unfold execSchedLossCntRead
  try dsimp only
  repeat' first
    | with_reducible (first | assumption | apply keep_next | apply keep_readClear | exact sub_trans rfl hM)

theorem keep_execSchedKeyhitCntRead {M : Nat} {s₀ : State} (hM : M ||| 10 = M) (s : State) (h0 : Keep M s₀ s) :
    outKeep M s₀ (execSchedKeyhitCntRead s) := by
  unfold execSchedKeyhitCntRead
  try dsimp only
  repeat' first
    | with_reducible (first | assumption | apply keep_next | apply keep_readClear | exact sub_trans rfl hM)

/-! ### Pers -/


/-! ### Load -/

theorem keep_startDeadline {M : Nat} {s₀ : State} (hM : M ||| 524288 = M) (s : State) (v : Nat) (h0 : Keep M s₀ s) :
    Keep M s₀ (State.startDeadline s v) := by
  unfold State.startDeadline
  try dsimp only
  repeat' first
    | with_reducible (first | assumption | exact sub_trans rfl hM)
    | exact .inl (sub_bit rfl hM)
    | with_reducible (first | exact .inr rfl | exact .inr ⟨rfl, rfl⟩ | exact .inr ⟨rfl, rfl, rfl⟩)
    | split
    | with_reducible apply keep_mk

theorem keep_rejectLoad {M : Nat} {s₀ : State} (hM : M ||| 622530 = M) (s : State) (code pos : Nat) (h0 : Keep M s₀ s) :
    Keep M s₀ (State.rejectLoad s code pos) := by
  unfold State.rejectLoad
  try dsimp only
  repeat' first
    | with_reducible (first | assumption | apply keep_failLoad | apply keep_dropPins | apply keep_raise | exact sub_trans rfl hM)

theorem keep_applyStarts {M : Nat} {s₀ : State} (hM : M ||| 528514 = M) (s : State) (h0 : Keep M s₀ s) :
    Keep M s₀ (State.applyStarts s) := by
  unfold State.applyStarts
  try dsimp only
  repeat' first
    | with_reducible (first | assumption | apply keep_latSend | apply keep_setLoad | exact sub_trans rfl hM)
    | exact .inl (sub_bit rfl hM)
    | with_reducible (first | exact .inr rfl | exact .inr ⟨rfl, rfl⟩ | exact .inr ⟨rfl, rfl, rfl⟩)
    | split
    | with_reducible apply keep_mk

theorem keep_tryApply {M : Nat} {s₀ : State} (hM : M ||| 528514 = M) (s : State) (h0 : Keep M s₀ s) :
    Keep M s₀ (State.tryApply s) := by
  unfold State.tryApply
  try dsimp only
  repeat' first
    | with_reducible (first | assumption | apply keep_ite | apply keep_applyStarts | exact sub_trans rfl hM)
    | split

theorem keep_execLoadGo {M : Nat} {s₀ : State} (hM : M ||| 528514 = M) (img : PersStream) (s : State) (h0 : Keep M s₀ s) :
    outKeep M s₀ (execLoadGo img s) := by
  unfold execLoadGo
  try dsimp only
  repeat' first
    | with_reducible (first | assumption | apply keep_ite | apply out_keep_ite | apply keep_next | apply keep_done
                            | apply keep_latSend | apply keep_setLoad | exact sub_trans rfl hM)
    | exact .inl (sub_bit rfl hM)
    | with_reducible (first | exact .inr rfl | exact .inr ⟨rfl, rfl⟩ | exact .inr ⟨rfl, rfl, rfl⟩)
    | split
    | with_reducible apply keep_mk

theorem keep_execLoadSignatureVerified {M : Nat} {s₀ : State} (hM : M ||| 622530 = M) (sigOk : Bool) (chain : Nat) (s : State)
    (h0 : Keep M s₀ s) :
    outKeep M s₀ (execLoadSignatureVerified sigOk chain s) := by
  unfold execLoadSignatureVerified
  try dsimp only
  repeat' first
    | with_reducible (first | assumption | apply keep_ite | apply out_keep_ite | apply keep_next | apply keep_put
                            | apply keep_rejectLoad | apply keep_setLoad | exact sub_trans rfl hM)
    | exact .inl (sub_bit rfl hM)
    | with_reducible (first | exact .inr rfl | exact .inr ⟨rfl, rfl⟩ | exact .inr ⟨rfl, rfl, rfl⟩)
    | split
    | with_reducible apply keep_mk

theorem keep_execLoadVerified {M : Nat} {s₀ : State} (hM : M ||| 622530 = M) (short : Bool) (s : State) (h0 : Keep M s₀ s) :
    outKeep M s₀ (execLoadVerified short s) := by
  unfold execLoadVerified
  try dsimp only
  repeat' first
    | intro _
    | with_reducible (first | assumption | apply keep_ite | apply out_keep_ite | apply keep_next | apply keep_rejectLoad
                            | apply keep_latSend | apply keep_setLoad | apply keep_tryApply | apply keep_foldl
                            | exact sub_trans rfl hM)
    | exact .inl (sub_bit rfl hM)
    | with_reducible (first | exact .inr rfl | exact .inr ⟨rfl, rfl⟩ | exact .inr ⟨rfl, rfl, rfl⟩)
    | split
    | with_reducible apply keep_mk

theorem keep_execLoadDeadline {M : Nat} {s₀ : State} (hM : M ||| 622530 = M) (s : State) (h0 : Keep M s₀ s) :
    outKeep M s₀ (execLoadDeadline s) := by
  unfold execLoadDeadline
  try dsimp only
  repeat' first
    | with_reducible (first | assumption | apply keep_ite | apply out_keep_ite | apply keep_next | apply keep_rejectLoad
                            | exact sub_trans rfl hM)
    | split

theorem keep_clearLoad {M : Nat} {s₀ : State} (hM : M ||| 525250 = M) (s : State) (h0 : Keep M s₀ s) :
    Keep M s₀ (State.clearLoad s) := by
  unfold State.clearLoad
  try dsimp only
  repeat' first
    | with_reducible (first | assumption | apply keep_put | apply keep_setLoad | apply keep_exitC4 | exact sub_trans rfl hM)
    | exact .inl (sub_bit rfl hM)
    | with_reducible (first | exact .inr rfl | exact .inr ⟨rfl, rfl⟩ | exact .inr ⟨rfl, rfl, rfl⟩)
    | split
    | with_reducible apply keep_mk

theorem keep_execLoadClear {M : Nat} {s₀ : State} (hM : M ||| 529346 = M) (deadline : BitVec 13) (s : State) (h0 : Keep M s₀ s) :
    outKeep M s₀ (execLoadClear deadline s) := by
  unfold execLoadClear
  try dsimp only
  repeat' first
    | with_reducible (first | assumption | apply keep_ite | apply out_keep_ite | apply keep_next | apply keep_put
                            | apply keep_latSend | apply keep_clearLoad | apply keep_startDeadline | exact sub_trans rfl hM)
    | split

/-! ### Fabric -/

theorem keep_counterOp {M : Nat} {s₀ : State} (hM : M ||| 272 = M) (s : State) (v : Nat) (h0 : Keep M s₀ s) :
    Keep M s₀ (State.counterOp s v).2 := by
  unfold State.counterOp
  try dsimp only
  repeat' first
    | with_reducible (first | assumption | apply keep_ite | apply keep_draw | apply keep_count | exact sub_trans rfl hM)
    | split

theorem keep_execCounterItemExecute {M : Nat} {s₀ : State} (hM : M ||| 67986 = M) (r : Fin 8) (s : State) (h0 : Keep M s₀ s) :
    outKeep M s₀ (execCounterItemExecute r s) := by
  unfold execCounterItemExecute
  try dsimp only
  repeat' first
    | with_reducible (first | assumption | apply keep_ite | apply out_keep_ite | apply keep_next | apply keep_counterOp
                            | apply keep_modCnt | apply keep_executed | exact sub_trans rfl hM)
    | split

theorem keep_execCounterStart {M : Nat} {s₀ : State} (hM : M ||| 65536 = M) (b : Fin 256) (s : State) (h0 : Keep M s₀ s) :
    outKeep M s₀ (execCounterStart b s) := by
  unfold execCounterStart
  try dsimp only
  repeat' first
    | with_reducible (first | assumption | apply keep_ite | apply out_keep_ite | apply keep_next | apply keep_modCnt
                            | exact sub_trans rfl hM)
    | split

theorem keep_execCompareOutput {M : Nat} {s₀ : State} (hM : M ||| 65536 = M) (b : Fin 256) (s : State) (h0 : Keep M s₀ s) :
    outKeep M s₀ (execCompareOutput b s) := by
  unfold execCompareOutput
  try dsimp only
  repeat' first
    | with_reducible (first | assumption | apply keep_ite | apply out_keep_ite | apply keep_next | apply keep_setCnt
                            | exact sub_trans rfl hM)
    | split

theorem keep_execPulseTrainEnd {M : Nat} {s₀ : State} (hM : M ||| 65536 = M) (b : Fin 256) (s : State) (h0 : Keep M s₀ s) :
    outKeep M s₀ (execPulseTrainEnd b s) := by
  unfold execPulseTrainEnd
  try dsimp only
  repeat' first
    | with_reducible (first | assumption | apply keep_ite | apply out_keep_ite | apply keep_next | apply keep_modCnt
                            | exact sub_trans rfl hM)
    | split

theorem keep_execFabCntRead {M : Nat} {s₀ : State} (hM : M ||| 266 = M) (b : Fin 256) (s : State) (h0 : Keep M s₀ s) :
    outKeep M s₀ (execFabCntRead b s) := by
  unfold execFabCntRead
  try dsimp only
  repeat' first
    | with_reducible (first | assumption | apply keep_next | apply keep_count | apply keep_answer | apply keep_put
                            | exact sub_trans rfl hM)

theorem keep_capturePps {M : Nat} {s₀ : State} (hM : M ||| 130 = M) (s : State) (h0 : Keep M s₀ s) :
    Keep M s₀ (State.capturePps s) := by
  unfold State.capturePps
  try dsimp only
  repeat' first
    | intro _
    | with_reducible (first | assumption | apply keep_ite | apply keep_withSrc | apply keep_put | apply keep_putB
                            | exact sub_trans rfl hM)
    | split

theorem keep_gioChange {M : Nat} {s₀ : State} (hM : M ||| 67202 = M) (s : State) (g : Nat) (v : Bool) (h0 : Keep M s₀ s) :
    Keep M s₀ (State.gioChange s g v) := by
  unfold State.gioChange
  try dsimp only
  repeat' first
    | with_reducible (first | assumption | apply keep_ite | apply keep_modCnt | apply keep_capturePps | apply keep_trigRise
                            | apply keep_srcFire | exact sub_trans rfl hM)
    | exact .inl (sub_bit rfl hM)
    | with_reducible (first | exact .inr rfl | exact .inr ⟨rfl, rfl⟩ | exact .inr ⟨rfl, rfl, rfl⟩)
    | split
    | with_reducible apply keep_mk

theorem keep_feedPin {M : Nat} {s₀ : State} (hM : M ||| 65536 = M) (s : State) (t n : Nat) (h0 : Keep M s₀ s) :
    Keep M s₀ (State.feedPin s t n) := by
  unfold State.feedPin
  try dsimp only
  repeat' first
    | intro _
    | with_reducible (first | assumption | apply keep_ite | apply keep_modCnt | apply keep_foldl | exact sub_trans rfl hM)
    | split

theorem keep_execPinStateChange {M : Nat} {s₀ : State} (hM : M ||| 67202 = M) (c : PinChange) (s : State) (h0 : Keep M s₀ s) :
    outKeep M s₀ (execPinStateChange c s) := by
  unfold execPinStateChange
  try dsimp only
  repeat' first
    | with_reducible (first | assumption | apply keep_next | apply keep_modPin | apply keep_cmpSync | apply keep_dinSync
                            | apply keep_zeroSync | apply keep_feedPin | apply keep_gioChange | exact sub_trans rfl hM)
    | split

theorem keep_execPpsOut {M : Nat} {s₀ : State} (hM : M ||| 65536 = M) (g : Fin 48) (s : State) (h0 : Keep M s₀ s) :
    outKeep M s₀ (execPpsOut g s) := by
  unfold execPpsOut
  try dsimp only
  repeat' first
    | with_reducible (first | assumption | apply keep_ite | apply out_keep_ite | apply keep_next | apply keep_modGio
                            | exact sub_trans rfl hM)
    | split

theorem keep_execPpsCapture {M : Nat} {s₀ : State} (hM : M ||| 130 = M) (g : Fin 48) (s : State) (h0 : Keep M s₀ s) :
    outKeep M s₀ (execPpsCapture g s) := by
  unfold execPpsCapture
  try dsimp only
  repeat' first
    | with_reducible (first | assumption | apply keep_ite | apply out_keep_ite | apply keep_next | apply keep_capturePps
                            | exact sub_trans rfl hM)
    | split

theorem keep_cross {M : Nat} {s₀ : State} (hM : M ||| 66690 = M) (s : State) (i : Nat) (v : Bool) (h0 : Keep M s₀ s) :
    Keep M s₀ (State.cross s i v) := by
  unfold State.cross
  try dsimp only
  repeat' first
    | with_reducible (first | assumption | apply keep_ite | apply keep_trigRises | exact sub_trans rfl hM)
    | exact .inl (sub_bit rfl hM)
    | with_reducible (first | exact .inr rfl | exact .inr ⟨rfl, rfl⟩ | exact .inr ⟨rfl, rfl, rfl⟩)
    | split
    | with_reducible apply keep_mk

theorem keep_execBorderSignalChange {M : Nat} {s₀ : State} (hM : M ||| 67458 = M) (r : Fin 8) (sig : BorderSignal) (s : State)
    (h0 : Keep M s₀ s) :
    outKeep M s₀ (execBorderSignalChange r sig s) := by
  unfold execBorderSignalChange
  try dsimp only
  repeat' first
    | with_reducible (first | assumption | apply keep_ite | apply out_keep_ite | apply keep_next | apply keep_modPin
                            | apply keep_syncDout | apply keep_modGio | apply keep_cross | exact sub_trans rfl hM)
    | split

theorem keep_portWait {M : Nat} {s₀ : State} (hM : M ||| 2048 = M) (s : State) (k : Nat) (it : Item) (h0 : Keep M s₀ s) :
    Keep M s₀ (State.portWait s k it) := by
  unfold State.portWait
  try dsimp only
  repeat' first
    | with_reducible (first | assumption | exact sub_trans rfl hM)
    | exact .inl (sub_bit rfl hM)
    | with_reducible (first | exact .inr rfl | exact .inr ⟨rfl, rfl⟩ | exact .inr ⟨rfl, rfl, rfl⟩)
    | split
    | with_reducible apply keep_mk

theorem keep_execFabricPortSend {M : Nat} {s0 : State} (hM : M ||| 786386 = M) (r : Fin 8) (port : Fin 16) (it : Item) (s : State) (h0 : Keep M s0 s) :
    outKeep M s0 (execFabricPortSend r port it s) := by
  unfold execFabricPortSend
  dsimp only
  have hw := fun i (h : Keep M s0 s) => keep_wakeFor (sub_trans rfl hM) s i h
  split
  · exact keep_next h0
  · split
    · have ht := keep_takeItem (sub_trans rfl hM) s (s.portItem r it) 0 none h0
      split
      · exact keep_next (keep_portSignal (sub_trans rfl hM) _ _ _ _ ht)
      · have hd := keep_sendDelivered (sub_trans rfl hM) _ (s.portItem r it) ht
        split
        · rename_i t h
          rw [h] at hd
          exact keep_next (keep_portSignal (sub_trans rfl hM) _ _ _ _ hd)
        · exact keep_next (keep_portWait (sub_trans rfl hM) _ _ _ (hw _ h0))
    · exact keep_next (keep_portWait (sub_trans rfl hM) _ _ _ h0)

theorem keep_execFabricPortAck {M : Nat} {s₀ : State} (hM : M ||| 2178 = M) (r : Fin 8) (port : Fin 16) (s : State)
    (h0 : Keep M s₀ s) :
    outKeep M s₀ (execFabricPortAck r port s) := by
  unfold execFabricPortAck
  try dsimp only
  repeat' first
    | with_reducible (first | assumption | apply keep_ite | apply out_keep_ite | apply keep_next | apply keep_executed
                            | exact sub_trans rfl hM)
    | split

theorem keep_reload {M : Nat} {s₀ : State} (hM : M ||| 65538 = M) (s : State) (kind index : Nat) (chk : StreamCheck)
    (h0 : Keep M s₀ s) :
    Keep M s₀ (State.reload s kind index chk) := by
  unfold State.reload
  try dsimp only
  repeat' first
    | with_reducible (first | assumption | apply keep_ite | apply keep_put | apply keep_putB | exact sub_trans rfl hM)
    | exact .inl (sub_bit rfl hM)
    | with_reducible (first | exact .inr rfl | exact .inr ⟨rfl, rfl⟩ | exact .inr ⟨rfl, rfl, rfl⟩)
    | split
    | with_reducible apply keep_mk

theorem keep_execReloadRegion {M : Nat} {s₀ : State} (hM : M ||| 622530 = M) (w : Writer) (r : Fin 128) (chk : StreamCheck) (s : State)
    (h0 : Keep M s₀ s) :
    outKeep M s₀ (execReloadRegion w r chk s) := by
  unfold execReloadRegion
  try dsimp only
  repeat' first
    | intro _
    | with_reducible (first | assumption | apply keep_next | apply keep_byOwner | apply keep_reload | exact sub_trans rfl hM)

theorem keep_execReloadTile {M : Nat} {s₀ : State} (hM : M ||| 622530 = M) (w : Writer) (t : Fin 128) (chk : StreamCheck) (s : State)
    (h0 : Keep M s₀ s) :
    outKeep M s₀ (execReloadTile w t chk s) := by
  unfold execReloadTile
  try dsimp only
  repeat' first
    | intro _
    | with_reducible (first | assumption | apply keep_next | apply keep_byOwner | apply keep_reload | exact sub_trans rfl hM)

theorem keep_execReloadEngine {M : Nat} {s₀ : State} (hM : M ||| 622530 = M) (w : Writer) (e : Fin 128) (chk : StreamCheck) (s : State)
    (h0 : Keep M s₀ s) :
    outKeep M s₀ (execReloadEngine w e chk s) := by
  unfold execReloadEngine
  try dsimp only
  repeat' first
    | intro _
    | with_reducible (first | assumption | apply keep_next | apply keep_byOwner | apply keep_reload | exact sub_trans rfl hM)

theorem keep_execReloadVerified {M : Nat} {s₀ : State} (hM : M ||| 198786 = M) (readOk sigOk : Bool) (s : State)
    (h0 : Keep M s₀ s) :
    outKeep M s₀ (execReloadVerified readOk sigOk s) := by
  unfold execReloadVerified
  try dsimp only
  repeat' first
    | with_reducible (first | assumption | apply keep_ite | apply out_keep_ite | apply keep_next | apply keep_endReload
                            | apply keep_put | apply keep_startQuiesce | apply keep_wakeUnit | exact sub_trans rfl hM)
    | split

theorem keep_closeTile {M : Nat} {s₀ : State} (hM : M ||| 622530 = M) (s : State) (t : Nat) (h0 : Keep M s₀ s) :
    Keep M s₀ (State.closeTile s t) := by
  unfold State.closeTile
  try dsimp only
  repeat' first
    | intro _
    | with_reducible (first | assumption | apply keep_ite | apply keep_passClose | apply keep_stopAdc | apply keep_abortProc
                            | apply keep_eachPin | apply keep_putB | exact sub_trans rfl hM)
    | exact .inl (sub_bit rfl hM)
    | with_reducible (first | exact .inr rfl | exact .inr ⟨rfl, rfl⟩ | exact .inr ⟨rfl, rfl, rfl⟩)
    | split
    | with_reducible apply keep_mk

theorem keep_closeEngine {M : Nat} {s₀ : State} (hM : M ||| 75974 = M) (s : State) (e : Nat) (h0 : Keep M s₀ s) :
    Keep M s₀ (State.closeEngine s e) := by
  unfold State.closeEngine
  try dsimp only
  repeat' first
    | with_reducible (first | assumption | apply keep_engAbandon | apply keep_rewind | exact sub_trans rfl hM)
    | exact .inl (sub_bit rfl hM)
    | with_reducible (first | exact .inr rfl | exact .inr ⟨rfl, rfl⟩ | exact .inr ⟨rfl, rfl, rfl⟩)
    | split
    | with_reducible apply keep_mk

theorem keep_execGirthClose {M : Nat} {s₀ : State} (hM : M ||| 622534 = M) (s : State) (h0 : Keep M s₀ s) :
    outKeep M s₀ (execGirthClose s) := by
  unfold execGirthClose
  try dsimp only
  repeat' first
    | with_reducible (first | assumption | apply keep_ite | apply out_keep_ite | apply keep_next | apply keep_put
                            | apply keep_closeGirth | apply keep_closeTile | apply keep_closeEngine | exact sub_trans rfl hM)
    | exact .inl (sub_bit rfl hM)
    | with_reducible (first | exact .inr rfl | exact .inr ⟨rfl, rfl⟩ | exact .inr ⟨rfl, rfl, rfl⟩)
    | split
    | with_reducible apply keep_mk

theorem keep_frameErr {M : Nat} {s₀ : State} (hM : M ||| 622530 = M) (s : State) (h0 : Keep M s₀ s) :
    Keep M s₀ (State.frameErr s) := by
  unfold State.frameErr
  try dsimp only
  repeat' first
    | with_reducible (first | assumption | apply keep_ite | apply keep_put | apply keep_endReload | apply keep_endQuiesce
                            | apply keep_raise | exact sub_trans rfl hM)
    | split

theorem keep_regionSection {M : Nat} {s₀ : State} (hM : M ||| 66304 = M) (s : State) (sec : Section) (h0 : Keep M s₀ s) :
    Keep M s₀ (State.regionSection s sec) := by
  unfold State.regionSection
  try dsimp only
  repeat' first
    | intro _
    | with_reducible (first | assumption | apply keep_ite | apply keep_modPin | apply keep_modGio | apply keep_modCnt
                            | apply keep_count | apply keep_foldl | exact sub_trans rfl hM)
    | split

theorem keep_clockCells {M : Nat} {s₀ : State} (hM : M ||| 65552 = M) (s : State) (r : Nat) (cfg : List Byte) (h0 : Keep M s₀ s) :
    Keep M s₀ (State.clockCells s r cfg) := by
  unfold State.clockCells
  try dsimp only
  repeat' first
    | with_reducible (first | assumption | apply keep_draw | exact sub_trans rfl hM)
    | exact .inl (sub_bit rfl hM)
    | with_reducible (first | exact .inr rfl | exact .inr ⟨rfl, rfl⟩ | exact .inr ⟨rfl, rfl, rfl⟩)
    | split
    | with_reducible apply keep_mk

theorem keep_openRegion {M : Nat} {s₀ : State} (hM : M ||| 66450 = M) (s : State) (sec : Section) (h0 : Keep M s₀ s) :
    Keep M s₀ (State.openRegion s sec) := by
  unfold State.openRegion
  try dsimp only
  repeat' first
    | intro _
    | with_reducible (first | assumption | apply keep_regionSection | apply keep_latchSafe | apply keep_clockCells
                            | apply keep_put | apply keep_bump | apply keep_putIdx | apply keep_foldl | exact sub_trans rfl hM)
    | exact .inl (sub_bit rfl hM)
    | with_reducible (first | exact .inr rfl | exact .inr ⟨rfl, rfl⟩ | exact .inr ⟨rfl, rfl, rfl⟩)
    | split
    | with_reducible apply keep_mk

end Sys2Proof.Machine
end

