-- ==== Sys2Proof/Laws/KeepDevice.lean ====
section
/-! SUPPORT. The frames of the commands of personality loading, the chain, power, time, pins, events, the host and security: which parts of the state each may change, and that the
register bank and the memories keep their canonical form. -/

namespace Sys2Proof.Machine

/-! ### Chain -/

theorem keep_portExcess {M : Nat} {s₀ : State} (hM : M ||| 2 = M) (s : State) (h0 : Keep M s₀ s) :
    Keep M s₀ (State.portExcess s) := by
  unfold State.portExcess
  try dsimp only
  repeat' first
    | with_reducible (first | assumption | apply keep_put | apply keep_putB | exact sub_trans rfl hM)

theorem keep_takePos {M : Nat} {s₀ : State} (hM : M ||| 2 = M) (s : State) (n : Nat) (h0 : Keep M s₀ s) :
    Keep M s₀ (State.takePos s n) := by
  unfold State.takePos
  try dsimp only
  repeat' first
    | with_reducible (first | assumption | apply keep_ite | apply keep_put | apply keep_putB | apply keep_portExcess
                            | exact sub_trans rfl hM)
    | split

theorem keep_trainPort {M : Nat} {s₀ : State} (hM : M ||| 2 = M) (s : State) (p : Nat) (h0 : Keep M s₀ s) :
    Keep M s₀ (State.trainPort s p) := by
  unfold State.trainPort
  try dsimp only
  repeat' first
    | with_reducible (first | assumption | apply keep_ite | apply keep_portExcess | apply keep_put | apply keep_putB
                            | apply keep_bump | apply keep_takePos | exact sub_trans rfl hM)
    | split

theorem keep_execLatigoTrainStart {M : Nat} {s₀ : State} (hM : M ||| 4098 = M) (p : Fin 2) (s : State) (h0 : Keep M s₀ s) :
    outKeep M s₀ (execLatigoTrainStart p s) := by
  unfold execLatigoTrainStart
  try dsimp only
  repeat' first
    | with_reducible (first | assumption | apply keep_next | apply keep_modPort | apply keep_trainPort | exact sub_trans rfl hM)

theorem keep_resend {M : Nat} {s₀ : State} (hM : M ||| 4226 = M) (s : State) (p : Nat) (h0 : Keep M s₀ s) :
    Keep M s₀ (State.resend s p) := by
  unfold State.resend
  try dsimp only
  repeat' first
    | intro _
    | with_reducible (first | assumption | apply keep_modPort | apply keep_eventInst | apply keep_bump | apply keep_foldl
                            | exact sub_trans rfl hM)

theorem keep_sendBeacon {M : Nat} {s₀ : State} (hM : M ||| 4226 = M) (s : State) (p : Nat) (h0 : Keep M s₀ s) :
    Keep M s₀ (State.sendBeacon s p) := by
  unfold State.sendBeacon
  try dsimp only
  repeat' first
    | with_reducible (first | assumption | apply keep_latSend | apply keep_eventInst | exact sub_trans rfl hM)

theorem keep_grantRoom {M : Nat} {s₀ : State} (hM : M ||| 4226 = M) (s : State) (p : Nat) (h0 : Keep M s₀ s) :
    Keep M s₀ (State.grantRoom s p) := by
  unfold State.grantRoom
  try dsimp only
  repeat' first
    | with_reducible (first | assumption | apply keep_ite | apply keep_modPort | apply keep_latSend | exact sub_trans rfl hM)
    | split

theorem keep_reforward {M : Nat} {s₀ : State} (hM : M ||| 4226 = M) (s : State) (p : Nat) (h0 : Keep M s₀ s) :
    Keep M s₀ (State.reforward s p) := by
  unfold State.reforward
  try dsimp only
  repeat' first
    | intro _
    | with_reducible (first | assumption | apply keep_ite | apply keep_latSend | apply keep_modPort | apply keep_foldl
                            | exact sub_trans rfl hM)
    | split

theorem keep_execLatigoActive {M : Nat} {s₀ : State} (hM : M ||| 4226 = M) (p : Fin 2) (width : Fin 4) (par : PortParams) (partnerPos : Fin 8) (s : State)
    (h0 : Keep M s₀ s) :
    outKeep M s₀ (execLatigoActive p width par partnerPos s) := by
  unfold execLatigoActive
  try dsimp only
  repeat' first
    | with_reducible (first | assumption | apply keep_ite | apply out_keep_ite | apply keep_next | apply keep_put
                            | apply keep_modPort | apply keep_takePos | apply keep_resend | apply keep_grantRoom
                            | apply keep_reforward | apply keep_pumpPort | apply keep_sendBeacon | exact sub_trans rfl hM)
    | split

theorem keep_execTrainingTimeout {M : Nat} {s₀ : State} (hM : M ||| 2 = M) (p : Fin 2) (s : State) (h0 : Keep M s₀ s) :
    outKeep M s₀ (execTrainingTimeout p s) := by
  unfold execTrainingTimeout
  try dsimp only
  repeat' first
    | with_reducible (first | assumption | apply keep_ite | apply out_keep_ite | apply keep_next | apply keep_trainPort
                            | exact sub_trans rfl hM)
    | split

theorem keep_acked {M : Nat} {s₀ : State} (hM : M ||| 4226 = M) (s : State) (p a : Nat) (h0 : Keep M s₀ s) :
    Keep M s₀ (State.acked s p a) := by
  unfold State.acked
  try dsimp only
  repeat' first
    | with_reducible (first | assumption | apply keep_ite | apply keep_modPort | apply keep_pumpPort | exact sub_trans rfl hM)
    | split

theorem keep_replayPort {M : Nat} {s₀ : State} (hM : M ||| 4226 = M) (s : State) (p : Nat) (h0 : Keep M s₀ s) :
    Keep M s₀ (State.replayPort s p) := by
  unfold State.replayPort
  try dsimp only
  repeat' first
    | with_reducible (first | assumption | apply keep_ite | apply keep_resend | apply keep_modPort | apply keep_trainPort
                            | exact sub_trans rfl hM)
    | split

theorem keep_nakFrame {M : Nat} {s₀ : State} (hM : M ||| 4226 = M) (s : State) (p : Nat) (h0 : Keep M s₀ s) :
    Keep M s₀ (State.nakFrame s p) := by
  unfold State.nakFrame
  try dsimp only
  repeat' first
    | with_reducible (first | assumption | apply keep_latSend | exact sub_trans rfl hM)

theorem keep_receive {M : Nat} {s₀ : State} (hM : M ||| 4226 = M) (s : State) (h : FrameHdr) (m : LatMsg) (f : State → State) (hf : ∀ (x0 : State), Keep M s₀ x0 → Keep M s₀ (f x0))
    (h0 : Keep M s₀ s) :
    Keep M s₀ (State.receive s h m f) := by
  unfold State.receive
  try dsimp only
  repeat' first
    | with_reducible (first | assumption | apply keep_ite | apply keep_bump | apply keep_eventInst | apply keep_nakFrame
                            | apply keep_modPort | apply keep_acked | apply keep_latSend | apply hf | exact sub_trans rfl hM)
    | split

theorem keep_receiveCtl {M : Nat} {s₀ : State} (hM : M ||| 4226 = M) (s : State) (h : FrameHdr) (m : LatMsg) (f : State → State) (hf : ∀ (x0 : State), Keep M s₀ x0 → Keep M s₀ (f x0))
    (h0 : Keep M s₀ s) :
    Keep M s₀ (State.receiveCtl s h m f) := by
  unfold State.receiveCtl
  try dsimp only
  repeat' first
    | with_reducible (first | assumption | apply keep_ite | apply keep_bump | apply keep_eventInst | apply keep_nakFrame
                            | apply keep_acked | apply hf | exact sub_trans rfl hM)
    | split

theorem keep_execAck {M : Nat} {s₀ : State} (hM : M ||| 4226 = M) (h : FrameHdr) (s : State) (h0 : Keep M s₀ s) :
    outKeep M s₀ (execAck h s) := by
  unfold execAck
  try dsimp only
  repeat' first
    | intro _
    | with_reducible (first | assumption | apply keep_next | apply keep_receiveCtl | exact sub_trans rfl hM)
    | simp only [id_eq]

theorem keep_execNak {M : Nat} {s₀ : State} (hM : M ||| 4226 = M) (h : FrameHdr) (s : State) (h0 : Keep M s₀ s) :
    outKeep M s₀ (execNak h s) := by
  unfold execNak
  try dsimp only
  repeat' first
    | intro _
    | with_reducible (first | assumption | apply keep_next | apply keep_receiveCtl | apply keep_replayPort
                            | exact sub_trans rfl hM)

theorem keep_execCredit {M : Nat} {s₀ : State} (hM : M ||| 4226 = M) (h : FrameHdr) (counts : List Nat) (s : State)
    (h0 : Keep M s₀ s) :
    outKeep M s₀ (execCredit h counts s) := by
  unfold execCredit
  try dsimp only
  repeat' first
    | intro _
    | with_reducible (first | assumption | apply keep_next | apply keep_receiveCtl | apply keep_modPort | apply keep_pumpPort
                            | exact sub_trans rfl hM)

theorem keep_execReplayTimeout {M : Nat} {s₀ : State} (hM : M ||| 4226 = M) (p : Fin 2) (s : State) (h0 : Keep M s₀ s) :
    outKeep M s₀ (execReplayTimeout p s) := by
  unfold execReplayTimeout
  try dsimp only
  repeat' first
    | with_reducible (first | assumption | apply keep_next | apply keep_replayPort | exact sub_trans rfl hM)

theorem keep_execAckTimer {M : Nat} {s₀ : State} (hM : M ||| 4226 = M) (p : Fin 2) (s : State) (h0 : Keep M s₀ s) :
    outKeep M s₀ (execAckTimer p s) := by
  unfold execAckTimer
  try dsimp only
  repeat' first
    | with_reducible (first | assumption | apply keep_ite | apply out_keep_ite | apply keep_next | apply keep_latSend
                            | exact sub_trans rfl hM)
    | split

theorem keep_execLinkDownTimeout {M : Nat} {s₀ : State} (hM : M ||| 622530 = M) (p : Fin 2) (s : State) (h0 : Keep M s₀ s) :
    outKeep M s₀ (execLinkDownTimeout p s) := by
  unfold execLinkDownTimeout
  try dsimp only
  repeat' first
    | with_reducible (first | assumption | apply keep_ite | apply out_keep_ite | apply keep_next | apply keep_modPort
                            | apply keep_raise | exact sub_trans rfl hM)
    | split

theorem keep_execLatCrcCntRead {M : Nat} {s₀ : State} (hM : M ||| 10 = M) (p : Fin 2) (s : State) (h0 : Keep M s₀ s) :
    outKeep M s₀ (execLatCrcCntRead p s) := by
  unfold execLatCrcCntRead
  try dsimp only
  repeat' first
    | with_reducible (first | assumption | apply keep_next | apply keep_readClear | exact sub_trans rfl hM)

theorem keep_execLatReplayCntRead {M : Nat} {s₀ : State} (hM : M ||| 10 = M) (p : Fin 2) (s : State) (h0 : Keep M s₀ s) :
    outKeep M s₀ (execLatReplayCntRead p s) := by
  unfold execLatReplayCntRead
  try dsimp only
  repeat' first
    | with_reducible (first | assumption | apply keep_next | apply keep_readClear | exact sub_trans rfl hM)

theorem keep_itemArrives {M : Nat} {s₀ : State} (hM : M ||| 6274 = M) (s : State) (p : Nat) (it : Item) (h0 : Keep M s₀ s) :
    Keep M s₀ (State.itemArrives s p it) := by
  unfold State.itemArrives
  try dsimp only
  repeat' first
    | with_reducible (first | assumption | apply keep_ite | apply keep_refuseItem | apply keep_duplicate | apply keep_latSend
                            | apply keep_enter | exact sub_trans rfl hM)
    | split

theorem keep_creditItem {M : Nat} {s₀ : State} (hM : M ||| 4226 = M) (s : State) (p : Nat) (it : Item) (h0 : Keep M s₀ s) :
    Keep M s₀ (State.creditItem s p it) := by
  unfold State.creditItem
  try dsimp only
  repeat' first
    | with_reducible (first | assumption | apply keep_ite | apply keep_latSend | exact sub_trans rfl hM)
    | split

theorem keep_drainInbox {M : Nat} {s0 : State} (hM : M ||| 6274 = M) (n : Nat) (s : State) (p : Nat) (h0 : Keep M s0 s) : Keep M s0 (State.drainInbox n s p) := by
  induction n generalizing s with
  | zero => exact h0
  | succ n ih =>
    unfold State.drainInbox
    split
    · exact h0
    · split
      · exact ih _ (keep_creditItem (sub_trans rfl hM) _ _ _ (keep_itemArrives (sub_trans rfl hM) _ _ _
          (keep_modPort (sub_trans rfl hM) _ _ _ h0)))
      · exact h0

theorem keep_execItem {M : Nat} {s₀ : State} (hM : M ||| 6274 = M) (h : FrameHdr) (it : Item) (s : State) (h0 : Keep M s₀ s) :
    outKeep M s₀ (execItem h it s) := by
  unfold execItem
  try dsimp only
  repeat' first
    | intro _
    | with_reducible (first | assumption | apply keep_ite | apply out_keep_ite | apply keep_next | apply keep_receive
                            | apply keep_modPort | apply keep_drainInbox | apply keep_latSend | apply keep_creditItem
                            | exact sub_trans rfl hM)
    | split

theorem keep_execItemAcc {M : Nat} {s₀ : State} (hM : M ||| 6274 = M) (h : FrameHdr) (k : Fin 4096) (seq : Nat) (s : State)
    (h0 : Keep M s₀ s) :
    outKeep M s₀ (execItemAcc h k seq s) := by
  unfold execItemAcc
  try dsimp only
  repeat' first
    | intro _
    | with_reducible (first | assumption | apply keep_ite | apply out_keep_ite | apply keep_next | apply keep_receive
                            | apply keep_executed | apply keep_latSend | exact sub_trans rfl hM)
    | split

theorem keep_execLoad {M : Nat} {s₀ : State} (hM : M ||| 528514 = M) (h : FrameHdr) (off : Nat) (bytes : List Byte) (s : State)
    (h0 : Keep M s₀ s) :
    outKeep M s₀ (execLoad h off bytes s) := by
  unfold execLoad
  try dsimp only
  repeat' first
    | intro _
    | with_reducible (first | assumption | apply keep_ite | apply out_keep_ite | apply keep_next | apply keep_receive
                            | apply keep_latSend | exact sub_trans rfl hM)
    | exact .inl (sub_bit rfl hM)
    | with_reducible (first | exact .inr rfl | exact .inr ⟨rfl, rfl⟩ | exact .inr ⟨rfl, rfl, rfl⟩)
    | split
    | with_reducible apply keep_mk

theorem keep_execLoadctlStart {M : Nat} {s₀ : State} (hM : M ||| 528514 = M) (h : FrameHdr) (deadline : Nat) (chk : StreamCheck) (s : State)
    (h0 : Keep M s₀ s) :
    outKeep M s₀ (execLoadctlStart h deadline chk s) := by
  unfold execLoadctlStart
  try dsimp only
  repeat' first
    | intro _
    | with_reducible (first | assumption | apply keep_ite | apply out_keep_ite | apply keep_next | apply keep_receive
                            | apply keep_latSend | apply keep_done | apply keep_setLoad | exact sub_trans rfl hM)
    | exact .inl (sub_bit rfl hM)
    | with_reducible (first | exact .inr rfl | exact .inr ⟨rfl, rfl⟩ | exact .inr ⟨rfl, rfl, rfl⟩)
    | split
    | with_reducible apply keep_mk

theorem keep_execLoadctlVerified {M : Nat} {s₀ : State} (hM : M ||| 528514 = M) (h : FrameHdr) (pos : Fin 8) (s : State)
    (h0 : Keep M s₀ s) :
    outKeep M s₀ (execLoadctlVerified h pos s) := by
  unfold execLoadctlVerified
  try dsimp only
  repeat' first
    | intro _
    | with_reducible (first | assumption | apply keep_ite | apply out_keep_ite | apply keep_next | apply keep_receive
                            | apply keep_tryApply | apply keep_latSend | exact sub_trans rfl hM)
    | exact .inl (sub_bit rfl hM)
    | with_reducible (first | exact .inr rfl | exact .inr ⟨rfl, rfl⟩ | exact .inr ⟨rfl, rfl, rfl⟩)
    | split
    | with_reducible apply keep_mk

theorem keep_execLoadctlReject {M : Nat} {s₀ : State} (hM : M ||| 622530 = M) (h : FrameHdr) (pos : Fin 8) (code : Fin 16) (s : State)
    (h0 : Keep M s₀ s) :
    outKeep M s₀ (execLoadctlReject h pos code s) := by
  unfold execLoadctlReject
  try dsimp only
  repeat' first
    | intro _
    | with_reducible (first | assumption | apply keep_ite | apply out_keep_ite | apply keep_next | apply keep_receive
                            | apply keep_latSend | apply keep_rejectLoad | exact sub_trans rfl hM)
    | split

theorem keep_execLoadctlApply {M : Nat} {s₀ : State} (hM : M ||| 528514 = M) (h : FrameHdr) (s : State) (h0 : Keep M s₀ s) :
    outKeep M s₀ (execLoadctlApply h s) := by
  unfold execLoadctlApply
  try dsimp only
  repeat' first
    | intro _
    | with_reducible (first | assumption | apply keep_ite | apply out_keep_ite | apply keep_next | apply keep_receive
                            | apply keep_applyStarts | exact sub_trans rfl hM)
    | split

theorem keep_execLoadctlAbort {M : Nat} {s₀ : State} (hM : M ||| 622530 = M) (h : FrameHdr) (pos : Fin 8) (code : Fin 16) (s : State)
    (h0 : Keep M s₀ s) :
    outKeep M s₀ (execLoadctlAbort h pos code s) := by
  unfold execLoadctlAbort
  try dsimp only
  repeat' first
    | intro _
    | with_reducible (first | assumption | apply keep_ite | apply out_keep_ite | apply keep_next | apply keep_receive
                            | apply keep_latSend | apply keep_put | apply keep_setLoad | apply keep_dropPins | apply keep_raise
                            | exact sub_trans rfl hM)
    | exact .inl (sub_bit rfl hM)
    | with_reducible (first | exact .inr rfl | exact .inr ⟨rfl, rfl⟩ | exact .inr ⟨rfl, rfl, rfl⟩)
    | split
    | with_reducible apply keep_mk

theorem keep_execLoadctlDone {M : Nat} {s₀ : State} (hM : M ||| 528514 = M) (h : FrameHdr) (pos : Fin 8) (s : State)
    (h0 : Keep M s₀ s) :
    outKeep M s₀ (execLoadctlDone h pos s) := by
  unfold execLoadctlDone
  try dsimp only
  repeat' first
    | intro _
    | with_reducible (first | assumption | apply keep_ite | apply out_keep_ite | apply keep_next | apply keep_receive
                            | apply keep_done | apply keep_latSend | exact sub_trans rfl hM)
    | exact .inl (sub_bit rfl hM)
    | with_reducible (first | exact .inr rfl | exact .inr ⟨rfl, rfl⟩ | exact .inr ⟨rfl, rfl, rfl⟩)
    | split
    | with_reducible apply keep_mk

theorem keep_execLoadctlClear {M : Nat} {s₀ : State} (hM : M ||| 529346 = M) (h : FrameHdr) (s : State) (h0 : Keep M s₀ s) :
    outKeep M s₀ (execLoadctlClear h s) := by
  unfold execLoadctlClear
  try dsimp only
  repeat' first
    | intro _
    | with_reducible (first | assumption | apply keep_ite | apply out_keep_ite | apply keep_next | apply keep_receive
                            | apply keep_latSend | apply keep_clearLoad | exact sub_trans rfl hM)
    | split

theorem keep_execBeaconSend {M : Nat} {s₀ : State} (hM : M ||| 4226 = M) (s : State) (h0 : Keep M s₀ s) :
    outKeep M s₀ (execBeaconSend s) := by
  unfold execBeaconSend
  try dsimp only
  repeat' first
    | with_reducible (first | assumption | apply keep_ite | apply out_keep_ite | apply keep_next | apply keep_sendBeacon
                            | exact sub_trans rfl hM)
    | split

theorem keep_beaconError {M : Nat} {s₀ : State} (hM : M ||| 34 = M) (s : State) (e : Int) (h0 : Keep M s₀ s) :
    Keep M s₀ (State.beaconError s e) := by
  unfold State.beaconError
  try dsimp only
  repeat' first
    | with_reducible (first | assumption | apply keep_ite | apply keep_put | apply keep_putB | exact sub_trans rfl hM)
    | exact .inl (sub_bit rfl hM)
    | with_reducible (first | exact .inr rfl | exact .inr ⟨rfl, rfl⟩ | exact .inr ⟨rfl, rfl, rfl⟩)
    | split
    | with_reducible apply keep_mk

theorem keep_missBeacon {M : Nat} {s₀ : State} (hM : M ||| 34 = M) (s : State) (h0 : Keep M s₀ s) :
    Keep M s₀ (State.missBeacon s) := by
  unfold State.missBeacon
  try dsimp only
  repeat' first
    | with_reducible (first | assumption | apply keep_ite | apply keep_putB | exact sub_trans rfl hM)
    | exact .inl (sub_bit rfl hM)
    | with_reducible (first | exact .inr rfl | exact .inr ⟨rfl, rfl⟩ | exact .inr ⟨rfl, rfl, rfl⟩)
    | split
    | with_reducible apply keep_mk

theorem keep_execBeacon {M : Nat} {s₀ : State} (hM : M ||| 4258 = M) (h : FrameHdr) (t1 d : Int) (q : Fin 4) (s : State)
    (h0 : Keep M s₀ s) :
    outKeep M s₀ (execBeacon h t1 d q s) := by
  unfold execBeacon
  try dsimp only
  repeat' first
    | intro _
    | with_reducible (first | assumption | apply keep_ite | apply out_keep_ite | apply keep_next | apply keep_receive
                            | apply keep_latSend | apply keep_missBeacon | apply keep_put | apply keep_beaconError
                            | exact sub_trans rfl hM)
    | split

theorem keep_execBeaconReply {M : Nat} {s₀ : State} (hM : M ||| 4226 = M) (h : FrameHdr) (t1 t2 t3 : Int) (q : Fin 4) (s : State)
    (h0 : Keep M s₀ s) :
    outKeep M s₀ (execBeaconReply h t1 t2 t3 q s) := by
  unfold execBeaconReply
  try dsimp only
  repeat' first
    | intro _
    | with_reducible (first | assumption | apply keep_next | apply keep_receive | apply keep_put | exact sub_trans rfl hM)

theorem keep_execBeaconMissed {M : Nat} {s₀ : State} (hM : M ||| 34 = M) (s : State) (h0 : Keep M s₀ s) :
    outKeep M s₀ (execBeaconMissed s) := by
  unfold execBeaconMissed
  try dsimp only
  repeat' first
    | with_reducible (first | assumption | apply keep_next | apply keep_missBeacon | exact sub_trans rfl hM)

theorem keep_execFault {M : Nat} {s₀ : State} (hM : M ||| 622530 = M) (h : FrameHdr) (cls : Nat) (origin : Fin 8) (cause : Nat) (source : Nat) (s : State)
    (h0 : Keep M s₀ s) :
    outKeep M s₀ (execFault h cls origin cause source s) := by
  unfold execFault
  try dsimp only
  repeat' first
    | intro _
    | with_reducible (first | assumption | apply keep_ite | apply out_keep_ite | apply keep_next | apply keep_receive
                            | apply keep_latSend | apply keep_raise | exact sub_trans rfl hM)
    | split

/-! ### Images -/

theorem keep_loadWord {M : Nat} {s₀ : State} (hM : M ||| 2 = M) (s : State) (a v : Nat) (h0 : Keep M s₀ s) :
    Keep M s₀ (State.loadWord s a v) := by
  unfold State.loadWord
  try dsimp only
  repeat' first
    | with_reducible (first | assumption | apply keep_setWord | exact sub_trans rfl hM)

theorem keep_applyEngine {M : Nat} {s₀ : State} (hM : M ||| 40962 = M) (s : State) (e : Nat) (body : List Byte)
    (h0 : Keep M s₀ s) :
    Keep M s₀ (State.applyEngine s e body) := by
  unfold State.applyEngine
  try dsimp only
  repeat' first
    | intro _
    | with_reducible (first | assumption | apply keep_loadWord | apply keep_imemWrite | apply keep_dataWrite | apply keep_modEng
                            | apply keep_inbufSmall | apply keep_foldl | exact sub_trans rfl hM)

theorem keep_reloadEngine {M : Nat} {s₀ : State} (hM : M ||| 40962 = M) (s : State) (e : Nat) (h0 : Keep M s₀ s) :
    Keep M s₀ (State.reloadEngine s e) := by
  unfold State.reloadEngine
  try dsimp only
  repeat' first
    | with_reducible (first | assumption | apply keep_applyEngine | apply keep_engStart | exact sub_trans rfl hM)
    | split

theorem keep_reloadRegion {M : Nat} {s₀ : State} (hM : M ||| 66450 = M) (s : State) (r : Nat) (h0 : Keep M s₀ s) :
    Keep M s₀ (State.reloadRegion s r) := by
  unfold State.reloadRegion
  try dsimp only
  repeat' first
    | with_reducible (first | assumption | apply keep_openRegion | exact sub_trans rfl hM)
    | split

theorem keep_clearMem {M : Nat} {s0 : State} (hM : M ||| 32768 = M) (s : State) (a b c d : Nat) (h0 : Keep M s0 s) :
    Keep M s0 { s with mem := { s.mem with
      loc := tblClear s.mem.loc a b
      imem := tblClear s.mem.imem c d } } :=
  keep_of hM h0 ⟨fun hs => ⟨hs.1, tblClear_wf _ _ _ _ hs.2.1, hs.2.2.1, hs.2.2.2.1, tblClear_wf _ _ _ _ hs.2.2.2.2.1, hs.2.2.2.2.2⟩,
    fun p => by cases p <;> first | exact .inl rfl | exact .inr rfl | exact .inr ⟨rfl, rfl⟩ | exact .inr ⟨rfl, rfl, rfl⟩⟩

theorem keep_loseEngine {M : Nat} {s0 : State} (hM : M ||| 40962 = M) (s : State) (e : Nat) (h0 : Keep M s0 s) : Keep M s0 (s.loseEngine e) :=
  keep_clearMem (sub_trans rfl hM) _ _ _ _ _ (keep_setEng (sub_trans rfl hM) _ e {} (keep_dropEngine (sub_trans rfl hM) s e h0))

theorem keep_loseRegion {M : Nat} {s₀ : State} (hM : M ||| 622530 = M) (s : State) (r : Nat) (h0 : Keep M s₀ s) :
    Keep M s₀ (State.loseRegion s r) := by
  unfold State.loseRegion
  try dsimp only
  repeat' first
    | with_reducible (first | assumption | apply keep_ite | apply keep_frameErr | apply keep_closeGirth | exact sub_trans rfl hM)
    | exact .inl (sub_bit rfl hM)
    | with_reducible (first | exact .inr rfl | exact .inr ⟨rfl, rfl⟩ | exact .inr ⟨rfl, rfl, rfl⟩)
    | split
    | with_reducible apply keep_mk

theorem keep_stopConv {M : Nat} {s₀ : State} (hM : M ||| 1666 = M) (s : State) (t : Nat) (h0 : Keep M s₀ s) :
    Keep M s₀ (State.stopConv s t) := by
  unfold State.stopConv
  try dsimp only
  repeat' first
    | with_reducible (first | assumption | apply keep_tileOutFault | apply keep_stopAdc | apply keep_putB
                            | exact sub_trans rfl hM)

theorem keep_loseConv {M : Nat} {s₀ : State} (hM : M ||| 1666 = M) (s : State) (t : Nat) (h0 : Keep M s₀ s) :
    Keep M s₀ (State.loseConv s t) := by
  unfold State.loseConv
  try dsimp only
  repeat' first
    | with_reducible (first | assumption | apply keep_stopConv | apply keep_abortCal | apply keep_putB | apply keep_modTile
                            | exact sub_trans rfl hM)

theorem keep_loseField {M : Nat} {s₀ : State} (hM : M ||| 1922 = M) (s : State) (t : Nat) (h0 : Keep M s₀ s) :
    Keep M s₀ (State.loseField s t) := by
  unfold State.loseField
  try dsimp only
  repeat' first
    | intro _
    | with_reducible (first | assumption | apply keep_ite | apply keep_laneOff | apply keep_eachPin | apply keep_fieldLost
                            | apply keep_modPin | apply keep_syncDout | apply keep_abandonSwitches | exact sub_trans rfl hM)
    | split

theorem keep_removeDomain {M : Nat} {s₀ : State} (hM : M ||| 786370 = M) (s : State) (d : Nat) (h0 : Keep M s₀ s) :
    Keep M s₀ (State.removeDomain s d) := by
  unfold State.removeDomain
  try dsimp only
  repeat' first
    | with_reducible (first | assumption | apply keep_ite | apply keep_setDom | apply keep_loseEngine | apply keep_loseConv
                            | apply keep_loseField | apply keep_loseRegion | exact sub_trans rfl hM)
    | exact .inl (sub_bit rfl hM)
    | with_reducible (first | exact .inr rfl | exact .inr ⟨rfl, rfl⟩ | exact .inr ⟨rfl, rfl, rfl⟩)
    | split
    | with_reducible apply keep_mk

theorem keep_unitUp {M : Nat} {s₀ : State} (hM : M ||| 2048 = M) (s : State) (u : Nat) (h0 : Keep M s₀ s) :
    Keep M s₀ (State.unitUp s u) := by
  unfold State.unitUp
  try dsimp only
  repeat' first
    | with_reducible (first | assumption | apply keep_ite | apply keep_endQuiesce | exact sub_trans rfl hM)
    | split

theorem keep_convReady {M : Nat} {s₀ : State} (hM : M ||| 1794 = M) (s : State) (t : Nat) (h0 : Keep M s₀ s) :
    Keep M s₀ (State.convReady s t) := by
  unfold State.convReady
  try dsimp only
  repeat' first
    | intro _
    | with_reducible (first | assumption | apply keep_ite | apply keep_loadSets | apply keep_settleAll | apply keep_putB
                            | apply keep_modTile | apply keep_startSeq | apply keep_eachPin | apply keep_stageOff
                            | apply keep_foldl | exact sub_trans rfl hM)
    | split

theorem keep_fieldReady {M : Nat} {s₀ : State} (hM : M ||| 67522 = M) (s : State) (t : Nat) (h0 : Keep M s₀ s) :
    Keep M s₀ (State.fieldReady s t) := by
  unfold State.fieldReady
  try dsimp only
  repeat' first
    | intro _
    | with_reducible (first | assumption | apply keep_ite | apply keep_eachPin | apply keep_holdFault | apply keep_modPin
                            | apply keep_syncDout | apply keep_reattachOuts | apply keep_laneOn | apply keep_connectTile
                            | exact sub_trans rfl hM)
    | split

theorem keep_domainReady {M : Nat} {s₀ : State} (hM : M ||| 241618 = M) (s : State) (d : Nat) (h0 : Keep M s₀ s) :
    Keep M s₀ (State.domainReady s d) := by
  unfold State.domainReady
  try dsimp only
  repeat' first
    | intro _
    | with_reducible (first | assumption | apply keep_ite | apply keep_reloadEngine | apply keep_convReady
                            | apply keep_connectTile | apply keep_fieldReady | apply keep_reloadRegion | apply keep_unitUp
                            | apply keep_foldl | exact sub_trans rfl hM)
    | exact .inl (sub_bit rfl hM)
    | with_reducible (first | exact .inr rfl | exact .inr ⟨rfl, rfl⟩ | exact .inr ⟨rfl, rfl, rfl⟩)
    | split
    | with_reducible apply keep_mk

/-! ### Memory -/

theorem keep_tlbiFields {M : Nat} {s₀ : State} (hM : M ||| 2 = M) (s : State) (sc : TlbScope) (op : Nat) (h0 : Keep M s₀ s) :
    Keep M s₀ (State.tlbiFields s sc op) := by
  unfold State.tlbiFields
  try dsimp only
  repeat' first
    | with_reducible (first | assumption | apply keep_put | exact sub_trans rfl hM)
    | split

theorem keep_tlbiAsid {M : Nat} {s₀ : State} (hM : M ||| 2 = M) (s : State) (sc : TlbScope) (asid : Nat) (h0 : Keep M s₀ s) :
    Keep M s₀ (State.tlbiAsid s sc asid) := by
  unfold State.tlbiAsid
  try dsimp only
  repeat' first
    | with_reducible (first | assumption | apply keep_put | exact sub_trans rfl hM)
    | split

theorem keep_tlbiVa {M : Nat} {s₀ : State} (hM : M ||| 2 = M) (s : State) (sc : TlbScope) (va : Nat) (h0 : Keep M s₀ s) :
    Keep M s₀ (State.tlbiVa s sc va) := by
  unfold State.tlbiVa
  try dsimp only
  repeat' first
    | with_reducible (first | assumption | apply keep_put | exact sub_trans rfl hM)
    | split

theorem keep_execTlbiAll {M : Nat} {s₀ : State} (hM : M ||| 655298 = M) (w : Writer) (sc : TlbScope) (s : State)
    (h0 : Keep M s₀ s) :
    outKeep M s₀ (execTlbiAll w sc s) := by
  unfold execTlbiAll
  try dsimp only
  repeat' first
    | intro _
    | with_reducible (first | assumption | apply keep_next | apply keep_byOwner | apply keep_tlbiFields | apply keep_tlbi
                            | exact sub_trans rfl hM)

theorem keep_execTlbiAsid {M : Nat} {s₀ : State} (hM : M ||| 655298 = M) (w : Writer) (sc : TlbScope) (asid : BitVec 12) (s : State)
    (h0 : Keep M s₀ s) :
    outKeep M s₀ (execTlbiAsid w sc asid s) := by
  unfold execTlbiAsid
  try dsimp only
  repeat' first
    | intro _
    | with_reducible (first | assumption | apply keep_next | apply keep_byOwner | apply keep_tlbiFields | apply keep_tlbiAsid
                            | apply keep_tlbi | exact sub_trans rfl hM)

theorem keep_execTlbiVaAsid {M : Nat} {s₀ : State} (hM : M ||| 655298 = M) (w : Writer) (sc : TlbScope) (asid : BitVec 12) (va : BitVec 48) (s : State)
    (h0 : Keep M s₀ s) :
    outKeep M s₀ (execTlbiVaAsid w sc asid va s) := by
  unfold execTlbiVaAsid
  try dsimp only
  repeat' first
    | intro _
    | with_reducible (first | assumption | apply keep_next | apply keep_byOwner | apply keep_tlbiFields | apply keep_tlbiAsid
                            | apply keep_tlbiVa | apply keep_tlbi | exact sub_trans rfl hM)

theorem keep_execTlbiVaAll {M : Nat} {s₀ : State} (hM : M ||| 655298 = M) (w : Writer) (sc : TlbScope) (va : BitVec 48) (s : State)
    (h0 : Keep M s₀ s) :
    outKeep M s₀ (execTlbiVaAll w sc va s) := by
  unfold execTlbiVaAll
  try dsimp only
  repeat' first
    | intro _
    | with_reducible (first | assumption | apply keep_next | apply keep_byOwner | apply keep_tlbiFields | apply keep_tlbiVa
                            | apply keep_tlbi | exact sub_trans rfl hM)

theorem keep_execTlbiDone {M : Nat} {s₀ : State} (hM : M ||| 130 = M) (sc : TlbScope) (s : State) (h0 : Keep M s₀ s) :
    outKeep M s₀ (execTlbiDone sc s) := by
  unfold execTlbiDone
  try dsimp only
  repeat' first
    | with_reducible (first | assumption | apply keep_next | apply keep_tlbiEnd | exact sub_trans rfl hM)

theorem keep_execPatrolScrub {M : Nat} {s₀ : State} (hM : M ||| 622530 = M) (ch : Fin 4) (addr : BitVec 32) (found : EccOutcome) (s : State)
    (h0 : Keep M s₀ s) :
    outKeep M s₀ (execPatrolScrub ch addr found s) := by
  unfold execPatrolScrub
  try dsimp only
  repeat' first
    | with_reducible (first | assumption | apply keep_ite | apply out_keep_ite | apply keep_next | apply keep_putB
                            | apply keep_eccCorrected | apply keep_eccUncorrectable | exact sub_trans rfl hM)
    | split

theorem keep_expectAgain {M : Nat} {s₀ : State} (hM : M ||| 2048 = M) (s : State) (f : Flight) (h0 : Keep M s₀ s) :
    Keep M s₀ (State.expectAgain s f) := by
  unfold State.expectAgain
  try dsimp only
  repeat' first
    | with_reducible (first | assumption | apply keep_ite | apply keep_modStream | exact sub_trans rfl hM)
    | split

theorem keep_forgetTaken {M : Nat} {s₀ : State} (hM : M ||| 2048 = M) (s : State) (h0 : Keep M s₀ s) :
    Keep M s₀ (State.forgetTaken s) := by
  unfold State.forgetTaken
  try dsimp only
  repeat' first
    | intro _
    | with_reducible (first | assumption | apply keep_expectAgain | apply keep_modRing | apply keep_foldl
                            | exact sub_trans rfl hM)

theorem keep_journalLost {M : Nat} {s₀ : State} (hM : M ||| 622530 = M) (s : State) (h0 : Keep M s₀ s) :
    Keep M s₀ (State.journalLost s) := by
  unfold State.journalLost
  try dsimp only
  repeat' first
    | with_reducible (first | assumption | apply keep_setFlights | apply keep_forgetTaken | apply keep_raise
                            | exact sub_trans rfl hM)

theorem keep_journalCopyLost {M : Nat} {s₀ : State} (hM : M ||| 622530 = M) (s : State) (ch : Nat) (h0 : Keep M s₀ s) :
    Keep M s₀ (State.journalCopyLost s ch) := by
  unfold State.journalCopyLost
  try dsimp only
  repeat' first
    | with_reducible (first | assumption | apply keep_ite | apply keep_putB | apply keep_journalLost | exact sub_trans rfl hM)
    | split

theorem keep_execDramChannelLost {M : Nat} {s₀ : State} (hM : M ||| 622530 = M) (ch : Fin 4) (s : State) (h0 : Keep M s₀ s) :
    outKeep M s₀ (execDramChannelLost ch s) := by
  unfold execDramChannelLost
  try dsimp only
  repeat' first
    | with_reducible (first | assumption | apply keep_ite | apply out_keep_ite | apply keep_next | apply keep_putIdx
                            | apply keep_journalCopyLost | apply keep_raise | exact sub_trans rfl hM)
    | split

theorem keep_execJournalRebuildDone {M : Nat} {s₀ : State} (hM : M ||| 2 = M) (ch : Fin 4) (s : State) (h0 : Keep M s₀ s) :
    outKeep M s₀ (execJournalRebuildDone ch s) := by
  unfold execJournalRebuildDone
  try dsimp only
  repeat' first
    | with_reducible (first | assumption | apply keep_ite | apply out_keep_ite | apply keep_next | apply keep_put
                            | apply keep_putB | exact sub_trans rfl hM)
    | split

theorem keep_execMemEccCntRead {M : Nat} {s₀ : State} (hM : M ||| 10 = M) (s : State) (h0 : Keep M s₀ s) :
    outKeep M s₀ (execMemEccCntRead s) := by
  unfold execMemEccCntRead
  try dsimp only
  repeat' first
    | with_reducible (first | assumption | apply keep_next | apply keep_readClear | exact sub_trans rfl hM)

theorem keep_execClTlbMissRead {M : Nat} {s₀ : State} (hM : M ||| 10 = M) (c : Fin 16) (s : State) (h0 : Keep M s₀ s) :
    outKeep M s₀ (execClTlbMissRead c s) := by
  unfold execClTlbMissRead
  try dsimp only
  repeat' first
    | with_reducible (first | assumption | apply keep_next | apply keep_readClear | exact sub_trans rfl hM)

theorem keep_execDmaTlbMissRead {M : Nat} {s₀ : State} (hM : M ||| 10 = M) (c : Fin 16) (s : State) (h0 : Keep M s₀ s) :
    outKeep M s₀ (execDmaTlbMissRead c s) := by
  unfold execDmaTlbMissRead
  try dsimp only
  repeat' first
    | with_reducible (first | assumption | apply keep_next | apply keep_readClear | exact sub_trans rfl hM)

/-! ### Power -/

theorem keep_pwrResult {M : Nat} {s₀ : State} (hM : M ||| 131202 = M) (s : State) (r : Nat) (h0 : Keep M s₀ s) :
    Keep M s₀ (State.pwrResult s r) := by
  unfold State.pwrResult
  try dsimp only
  repeat' first
    | with_reducible (first | assumption | apply keep_putB | apply keep_put | apply keep_done | exact sub_trans rfl hM)
    | exact .inl (sub_bit rfl hM)
    | with_reducible (first | exact .inr rfl | exact .inr ⟨rfl, rfl⟩ | exact .inr ⟨rfl, rfl, rfl⟩)
    | split
    | with_reducible apply keep_mk

theorem keep_pwrDone {M : Nat} {s₀ : State} (hM : M ||| 131202 = M) (s : State) (d r : Nat) (h0 : Keep M s₀ s) :
    Keep M s₀ (State.pwrDone s d r) := by
  unfold State.pwrDone
  try dsimp only
  repeat' first
    | with_reducible (first | assumption | apply keep_ite | apply keep_pwrResult | exact sub_trans rfl hM)
    | split

theorem keep_pwrCmd {M : Nat} {s₀ : State} (hM : M ||| 622530 = M) (s : State) (w : Writer) (d op : Nat) (f : State → State) (hf : ∀ (x0 : State), Keep M s₀ x0 → Keep M s₀ (f x0))
    (h0 : Keep M s₀ s) :
    Keep M s₀ (State.pwrCmd s w d op f) := by
  unfold State.pwrCmd
  try dsimp only
  repeat' first
    | intro _
    | with_reducible (first | assumption | apply keep_ite | apply keep_byOwner | apply keep_put | apply hf
                            | exact sub_trans rfl hM)
    | split

theorem keep_pwrStart {M : Nat} {s₀ : State} (hM : M ||| 131074 = M) (s : State) (d : Nat) (h0 : Keep M s₀ s) :
    Keep M s₀ (State.pwrStart s d) := by
  unfold State.pwrStart
  try dsimp only
  repeat' first
    | with_reducible (first | assumption | apply keep_putB | exact sub_trans rfl hM)
    | exact .inl (sub_bit rfl hM)
    | with_reducible (first | exact .inr rfl | exact .inr ⟨rfl, rfl⟩ | exact .inr ⟨rfl, rfl, rfl⟩)
    | split
    | with_reducible apply keep_mk

theorem keep_execDomainOn {M : Nat} {s₀ : State} (hM : M ||| 753602 = M) (w : Writer) (d : Byte) (s : State) (h0 : Keep M s₀ s) :
    outKeep M s₀ (execDomainOn w d s) := by
  unfold execDomainOn
  try dsimp only
  repeat' first
    | intro _
    | with_reducible (first | assumption | apply keep_ite | apply out_keep_ite | apply keep_next | apply keep_pwrCmd
                            | apply keep_pwrResult | apply keep_pwrStart | apply keep_startDomain | exact sub_trans rfl hM)
    | split

theorem keep_offAborts {M : Nat} {s₀ : State} (hM : M ||| 67714 = M) (s : State) (d : Nat) (h0 : Keep M s₀ s) :
    Keep M s₀ (State.offAborts s d) := by
  unfold State.offAborts
  try dsimp only
  repeat' first
    | with_reducible (first | assumption | apply keep_ite | apply keep_abortReload | exact sub_trans rfl hM)
    | split

theorem keep_execDomainOff {M : Nat} {s₀ : State} (hM : M ||| 753602 = M) (w : Writer) (d : Byte) (s : State) (h0 : Keep M s₀ s) :
    outKeep M s₀ (execDomainOff w d s) := by
  unfold execDomainOff
  try dsimp only
  repeat' first
    | intro _
    | with_reducible (first | assumption | apply keep_ite | apply out_keep_ite | apply keep_next | apply keep_pwrCmd
                            | apply keep_pwrResult | apply keep_pwrStart | apply keep_offAborts | apply keep_startQuiesce
                            | apply keep_foldl | exact sub_trans rfl hM)
    | exact .inl (sub_bit rfl hM)
    | with_reducible (first | exact .inr rfl | exact .inr ⟨rfl, rfl⟩ | exact .inr ⟨rfl, rfl, rfl⟩)
    | split
    | with_reducible apply keep_mk

theorem keep_execDomainPowerRemove {M : Nat} {s₀ : State} (hM : M ||| 786370 = M) (d : Fin 212) (s : State) (h0 : Keep M s₀ s) :
    outKeep M s₀ (execDomainPowerRemove d s) := by
  unfold execDomainPowerRemove
  try dsimp only
  repeat' first
    | intro _
    | with_reducible (first | assumption | apply keep_ite | apply out_keep_ite | apply keep_next | apply keep_endQuiesce
                            | apply keep_removeDomain | apply keep_pwrDone | apply keep_foldl | exact sub_trans rfl hM)
    | split

theorem keep_startStep {M : Nat} {s₀ : State} (hM : M ||| 131072 = M) (s : State) (d a b : Nat) (h0 : Keep M s₀ s) :
    Keep M s₀ (State.startStep s d a b) := by
  unfold State.startStep
  try dsimp only
  repeat' first
    | with_reducible (first | assumption | apply keep_ite | exact sub_trans rfl hM)
    | exact .inl (sub_bit rfl hM)
    | with_reducible (first | exact .inr rfl | exact .inr ⟨rfl, rfl⟩ | exact .inr ⟨rfl, rfl, rfl⟩)
    | split
    | with_reducible apply keep_mk

theorem keep_execFiddleheadRampDone {M : Nat} {s₀ : State} (hM : M ||| 131072 = M) (d : Fin 212) (s : State) (h0 : Keep M s₀ s) :
    outKeep M s₀ (execFiddleheadRampDone d s) := by
  unfold execFiddleheadRampDone
  try dsimp only
  repeat' first
    | with_reducible (first | assumption | apply keep_next | apply keep_startStep | exact sub_trans rfl hM)

theorem keep_execFiddleheadPllLock {M : Nat} {s₀ : State} (hM : M ||| 131072 = M) (d : Fin 212) (s : State) (h0 : Keep M s₀ s) :
    outKeep M s₀ (execFiddleheadPllLock d s) := by
  unfold execFiddleheadPllLock
  try dsimp only
  repeat' first
    | with_reducible (first | assumption | apply keep_next | apply keep_startStep | exact sub_trans rfl hM)

theorem keep_execPllLockTimeout {M : Nat} {s₀ : State} (hM : M ||| 786370 = M) (d : Fin 212) (s : State) (h0 : Keep M s₀ s) :
    outKeep M s₀ (execPllLockTimeout d s) := by
  unfold execPllLockTimeout
  try dsimp only
  repeat' first
    | intro _
    | with_reducible (first | assumption | apply keep_ite | apply out_keep_ite | apply keep_next | apply keep_removeDomain
                            | apply keep_bump | apply keep_put | apply keep_pwrDone | apply keep_raise | apply keep_foldl
                            | exact sub_trans rfl hM)
    | split

theorem keep_flushFuse {M : Nat} {s₀ : State} (hM : M ||| 1048832 = M) (s : State) (h0 : Keep M s₀ s) :
    Keep M s₀ (State.flushFuse s) := by
  unfold State.flushFuse
  try dsimp only
  repeat' first
    | with_reducible (first | assumption | apply keep_ite | exact sub_trans rfl hM)
    | exact .inl (sub_bit rfl hM)
    | with_reducible (first | exact .inr rfl | exact .inr ⟨rfl, rfl⟩ | exact .inr ⟨rfl, rfl, rfl⟩)
    | split
    | with_reducible apply keep_mk

theorem keep_flushCommits {M : Nat} {s₀ : State} (hM : M ||| 1048834 = M) (s : State) (h0 : Keep M s₀ s) :
    Keep M s₀ (State.flushCommits s) := by
  unfold State.flushCommits
  try dsimp only
  repeat' first
    | intro _
    | with_reducible (first | assumption | apply keep_ite | apply keep_flushFuse | apply keep_commitRecord
                            | apply keep_ledgerWrite | apply keep_foldl | exact sub_trans rfl hM)
    | exact .inl (sub_bit rfl hM)
    | with_reducible (first | exact .inr rfl | exact .inr ⟨rfl, rfl⟩ | exact .inr ⟨rfl, rfl, rfl⟩)
    | split
    | with_reducible apply keep_mk

theorem keep_flush {M : Nat} {s₀ : State} (hM : M ||| 1048834 = M) (s : State) (h0 : Keep M s₀ s) :
    Keep M s₀ (State.flush s) := by
  unfold State.flush
  try dsimp only
  repeat' first
    | with_reducible (first | assumption | apply keep_ite | apply keep_flushCommits | apply keep_ledgerWrite
                            | exact sub_trans rfl hM)
    | exact .inl (sub_bit rfl hM)
    | with_reducible (first | exact .inr rfl | exact .inr ⟨rfl, rfl⟩ | exact .inr ⟨rfl, rfl, rfl⟩)
    | split
    | with_reducible apply keep_mk

theorem keep_secSync {M : Nat} {s₀ : State} (hM : M ||| 2 = M) (s : State) (h0 : Keep M s₀ s) : Keep M s₀ (State.secSync s) := by
  unfold State.secSync
  try dsimp only
  repeat' first
    | intro _
    | with_reducible (first | assumption | apply keep_ite | apply keep_put | apply keep_putB | apply keep_foldl
                            | exact sub_trans rfl hM)
    | split

theorem keep_coldReset {M : Nat} {s0 : State} (hM : M ||| 2097134 = M) (s : State) (h0 : Keep M s0 s) : Keep M s0 s.coldReset := by
  unfold State.coldReset
  dsimp only
  refine keep_secSync (sub_trans rfl hM) _ (keep_putB (sub_trans rfl hM) _ _ _ (keep_foldl _ _ ?_
    fun t a ht => keep_setWord (sub_trans rfl hM) t a _ ht))
  refine keep_putB (sub_trans rfl hM) _ _ _ ?_
  exact keep_of hM h0 ⟨fun hs => ⟨rfl, rfl, rfl, rfl, rfl, hs.2.2.2.2.2⟩,
    fun p => by cases p <;> first | exact .inl rfl | exact .inr rfl | exact .inr ⟨rfl, rfl⟩ | exact .inr ⟨rfl, rfl, rfl⟩⟩

theorem keep_relight {M : Nat} {s₀ : State} (hM : M ||| 131106 = M) (s : State) (h0 : Keep M s₀ s) :
    Keep M s₀ (State.relight s) := by
  unfold State.relight
  try dsimp only
  repeat' first
    | with_reducible (first | assumption | apply keep_ite | apply keep_put | apply keep_setWord | exact sub_trans rfl hM)
    | exact .inl (sub_bit rfl hM)
    | with_reducible (first | exact .inr rfl | exact .inr ⟨rfl, rfl⟩ | exact .inr ⟨rfl, rfl, rfl⟩)
    | split
    | with_reducible apply keep_mk

theorem keep_powerUp {M : Nat} {s₀ : State} (hM : M ||| 1179938 = M) (s : State) (h0 : Keep M s₀ s) :
    Keep M s₀ (State.powerUp s) := by
  unfold State.powerUp
  try dsimp only
  repeat' first
    | intro _
    | with_reducible (first | assumption | apply keep_relight | apply keep_putB | apply keep_countNow | apply keep_setDom
                            | apply keep_foldl | exact sub_trans rfl hM)
    | exact .inl (sub_bit rfl hM)
    | with_reducible (first | exact .inr rfl | exact .inr ⟨rfl, rfl⟩ | exact .inr ⟨rfl, rfl, rfl⟩)
    | split
    | with_reducible apply keep_mk

theorem keep_execPowerGood {M : Nat} {s₀ : State} (hM : M ||| 1180002 = M) (s : State) (h0 : Keep M s₀ s) :
    outKeep M s₀ (execPowerGood s) := by
  unfold execPowerGood
  try dsimp only
  repeat' first
    | with_reducible (first | assumption | apply keep_ite | apply out_keep_ite | apply keep_next | apply keep_powerUp
                            | exact sub_trans rfl hM)
    | exact .inl (sub_bit rfl hM)
    | with_reducible (first | exact .inr rfl | exact .inr ⟨rfl, rfl⟩ | exact .inr ⟨rfl, rfl, rfl⟩)
    | split
    | with_reducible apply keep_mk

theorem keep_onVbat {M : Nat} {s₀ : State} (hM : M ||| 131074 = M) (s : State) (h0 : Keep M s₀ s) :
    Keep M s₀ (State.onVbat s) := by
  unfold State.onVbat
  try dsimp only
  repeat' first
    | with_reducible (first | assumption | apply keep_ite | apply keep_putB | exact sub_trans rfl hM)
    | exact .inl (sub_bit rfl hM)
    | with_reducible (first | exact .inr rfl | exact .inr ⟨rfl, rfl⟩ | exact .inr ⟨rfl, rfl, rfl⟩)
    | split
    | with_reducible apply keep_mk

theorem keep_execSysRstN {M : Nat} {s₀ : State} (hM : M ||| 2097134 = M) (s : State) (h0 : Keep M s₀ s) :
    outKeep M s₀ (execSysRstN s) := by
  unfold execSysRstN
  try dsimp only
  repeat' first
    | with_reducible (first | assumption | apply keep_ite | apply out_keep_ite | apply keep_next | apply keep_putB
                            | apply keep_flush | apply keep_coldReset | apply keep_onVbat | exact sub_trans rfl hM)
    | split

theorem keep_class5 {M : Nat} {s₀ : State} (hM : M ||| 2097134 = M) (s : State) (r : Src) (cause info : Nat) (h0 : Keep M s₀ s) :
    Keep M s₀ (State.class5 s r cause info) := by
  unfold State.class5
  try dsimp only
  repeat' first
    | intro _
    | with_reducible (first | assumption | apply keep_record | apply keep_faultFrames | apply keep_report | apply keep_putB
                            | apply keep_coldReset | apply keep_powerUp | apply keep_modPort | apply keep_foldl
                            | exact sub_trans rfl hM)
    | exact .inl (sub_bit rfl hM)
    | with_reducible (first | exact .inr rfl | exact .inr ⟨rfl, rfl⟩ | exact .inr ⟨rfl, rfl, rfl⟩)
    | split
    | with_reducible apply keep_mk

theorem keep_execLockstepMismatch {M : Nat} {s₀ : State} (hM : M ||| 2097134 = M) (pair : Fin 2) (s : State) (h0 : Keep M s₀ s) :
    outKeep M s₀ (execLockstepMismatch pair s) := by
  unfold execLockstepMismatch
  try dsimp only
  repeat' first
    | with_reducible (first | assumption | apply keep_next | apply keep_class5 | exact sub_trans rfl hM)

theorem keep_bootRom {M : Nat} {s₀ : State} (hM : M ||| 1179778 = M) (s : State) (h0 : Keep M s₀ s) :
    Keep M s₀ (State.bootRom s) := by
  unfold State.bootRom
  try dsimp only
  repeat' first
    | with_reducible (first | assumption | apply keep_ite | apply keep_secSync | apply keep_put | apply keep_trainPort
                            | apply keep_setLoad | exact sub_trans rfl hM)
    | exact .inl (sub_bit rfl hM)
    | with_reducible (first | exact .inr rfl | exact .inr ⟨rfl, rfl⟩ | exact .inr ⟨rfl, rfl, rfl⟩)
    | split
    | with_reducible apply keep_mk

theorem keep_execFirmwareVerified {M : Nat} {s₀ : State} (hM : M ||| 1179842 = M) (aOk bOk : Bool) (s : State)
    (h0 : Keep M s₀ s) :
    outKeep M s₀ (execFirmwareVerified aOk bOk s) := by
  unfold execFirmwareVerified
  try dsimp only
  repeat' first
    | with_reducible (first | assumption | apply keep_ite | apply out_keep_ite | apply keep_next | apply keep_bootRom
                            | exact sub_trans rfl hM)
    | exact .inl (sub_bit rfl hM)
    | with_reducible (first | exact .inr rfl | exact .inr ⟨rfl, rfl⟩ | exact .inr ⟨rfl, rfl, rfl⟩)
    | split
    | with_reducible apply keep_mk

theorem keep_loseRecord {M : Nat} {s₀ : State} (hM : M ||| 1048832 = M) (s : State) (x : TornSlot) (h0 : Keep M s₀ s) :
    Keep M s₀ (State.loseRecord s x) := by
  unfold State.loseRecord
  try dsimp only
  repeat' first
    | with_reducible (first | assumption | apply keep_ite | apply keep_setCalPair | apply keep_setSelfPair
                            | exact sub_trans rfl hM)
    | exact .inl (sub_bit rfl hM)
    | with_reducible (first | exact .inr rfl | exact .inr ⟨rfl, rfl⟩ | exact .inr ⟨rfl, rfl, rfl⟩)
    | split
    | with_reducible apply keep_mk

theorem keep_restoreCal {M : Nat} {s₀ : State} (hM : M ||| 622530 = M) (s : State) (h0 : Keep M s₀ s) :
    Keep M s₀ (State.restoreCal s) := by
  unfold State.restoreCal
  try dsimp only
  repeat' first
    | intro _
    | with_reducible (first | assumption | apply keep_ite | apply keep_loadSets | apply keep_showSelf | apply keep_putIdx
                            | apply keep_raise | apply keep_foldl | exact sub_trans rfl hM)
    | split

theorem keep_drawKey {M : Nat} {s0 : State} (hM : M ||| 32784 = M) (s : State) (h0 : Keep M s0 s) : Keep M s0 s.drawKey :=
  keep_of (m := 32768) (sub_trans rfl hM) (keep_draw (sub_trans rfl hM) s _ h0) ⟨fun hs => hs,
    fun p => by cases p <;> first | exact .inl rfl | exact .inr rfl | exact .inr ⟨rfl, rfl⟩ | exact .inr ⟨rfl, rfl, rfl⟩⟩

theorem keep_execMemoryTrained {M : Nat} {s₀ : State} (hM : M ||| 1834962 = M) (trained : BitVec 4) (torn : List TornSlot) (s : State)
    (h0 : Keep M s₀ s) :
    outKeep M s₀ (execMemoryTrained trained torn s) := by
  unfold execMemoryTrained
  try dsimp only
  repeat' first
    | intro _
    | with_reducible (first | assumption | apply keep_ite | apply out_keep_ite | apply keep_next | apply keep_putIdx
                            | apply keep_journalCopyLost | apply keep_raise | apply keep_putB | apply keep_drawKey
                            | apply keep_loseRecord | apply keep_secSync | apply keep_restoreCal | apply keep_startDomain
                            | apply keep_foldl | exact sub_trans rfl hM)
    | exact .inl (sub_bit rfl hM)
    | with_reducible (first | exact .inr rfl | exact .inr ⟨rfl, rfl⟩ | exact .inr ⟨rfl, rfl, rfl⟩)
    | split
    | with_reducible apply keep_mk

theorem keep_powerFail {M : Nat} {s₀ : State} (hM : M ||| 753602 = M) (s : State) (v24 : Bool) (h0 : Keep M s₀ s) :
    Keep M s₀ (State.powerFail s v24) := by
  unfold State.powerFail
  try dsimp only
  repeat' first
    | intro _
    | with_reducible (first | assumption | apply keep_ite | apply keep_putB | apply keep_logAdd | apply keep_abortCal
                            | apply keep_allOutFault | apply keep_frameErr | apply keep_abortReload | apply keep_put
                            | apply keep_done | apply keep_foldl | exact sub_trans rfl hM)
    | exact .inl (sub_bit rfl hM)
    | with_reducible (first | exact .inr rfl | exact .inr ⟨rfl, rfl⟩ | exact .inr ⟨rfl, rfl, rfl⟩)
    | split
    | with_reducible apply keep_mk

theorem keep_railLost {M : Nat} {s₀ : State} (hM : M ||| 132994 = M) (s : State) (rail : Rail) (h0 : Keep M s₀ s) :
    Keep M s₀ (State.railLost s rail) := by
  unfold State.railLost
  try dsimp only
  repeat' first
    | intro _
    | with_reducible (first | assumption | apply keep_stopConv | apply keep_loseField | apply keep_foldl
                            | exact sub_trans rfl hM)
    | exact .inl (sub_bit rfl hM)
    | with_reducible (first | exact .inr rfl | exact .inr ⟨rfl, rfl⟩ | exact .inr ⟨rfl, rfl, rfl⟩)
    | split
    | with_reducible apply keep_mk

theorem keep_v24Fell {M : Nat} {s₀ : State} (hM : M ||| 898 = M) (s : State) (h0 : Keep M s₀ s) :
    Keep M s₀ (State.v24Fell s) := by
  unfold State.v24Fell
  try dsimp only
  repeat' first
    | intro _
    | with_reducible (first | assumption | apply keep_putB | apply keep_eachTilePin | apply keep_syncDout
                            | exact sub_trans rfl hM)

theorem keep_execPfail {M : Nat} {s₀ : State} (hM : M ||| 753602 = M) (rail : Rail) (s : State) (h0 : Keep M s₀ s) :
    outKeep M s₀ (execPfail rail s) := by
  unfold execPfail
  try dsimp only
  repeat' first
    | with_reducible (first | assumption | apply keep_ite | apply out_keep_ite | apply keep_next | apply keep_v24Fell
                            | apply keep_powerFail | apply keep_railLost | exact sub_trans rfl hM)
    | split

theorem keep_execV24Arm {M : Nat} {s₀ : State} (hM : M ||| 898 = M) (s : State) (h0 : Keep M s₀ s) :
    outKeep M s₀ (execV24Arm s) := by
  unfold execV24Arm
  try dsimp only
  repeat' first
    | intro _
    | with_reducible (first | assumption | apply keep_ite | apply out_keep_ite | apply keep_next | apply keep_putB
                            | apply keep_eachTilePin | apply keep_syncDout | exact sub_trans rfl hM)
    | split

theorem keep_execV24Low {M : Nat} {s₀ : State} (hM : M ||| 753602 = M) (s : State) (h0 : Keep M s₀ s) :
    outKeep M s₀ (execV24Low s) := by
  unfold execV24Low
  try dsimp only
  repeat' first
    | with_reducible (first | assumption | apply keep_ite | apply out_keep_ite | apply keep_next | apply keep_v24Fell
                            | apply keep_powerFail | exact sub_trans rfl hM)
    | split

/-! ### Lichen -/

theorem keep_execTimeStatRead {M : Nat} {s₀ : State} (hM : M ||| 10 = M) (s : State) (h0 : Keep M s₀ s) :
    outKeep M s₀ (execTimeStatRead s) := by
  unfold execTimeStatRead
  try dsimp only
  repeat' first
    | with_reducible (first | assumption | apply keep_next | apply keep_readClear | exact sub_trans rfl hM)

theorem keep_execTimeLoRead {M : Nat} {s₀ : State} (hM : M ||| 8 = M) (s : State) (h0 : Keep M s₀ s) :
    outKeep M s₀ (execTimeLoRead s) := by
  unfold execTimeLoRead
  try dsimp only
  repeat' first
    | with_reducible (first | assumption | apply keep_next | apply keep_answer | exact sub_trans rfl hM)
    | exact .inl (sub_bit rfl hM)
    | with_reducible (first | exact .inr rfl | exact .inr ⟨rfl, rfl⟩ | exact .inr ⟨rfl, rfl, rfl⟩)
    | split
    | with_reducible apply keep_mk

theorem keep_execRtcSecRead {M : Nat} {s₀ : State} (hM : M ||| 8 = M) (s : State) (h0 : Keep M s₀ s) :
    outKeep M s₀ (execRtcSecRead s) := by
  unfold execRtcSecRead
  try dsimp only
  repeat' first
    | with_reducible (first | assumption | apply keep_next | apply keep_answer | exact sub_trans rfl hM)
    | exact .inl (sub_bit rfl hM)
    | with_reducible (first | exact .inr rfl | exact .inr ⟨rfl, rfl⟩ | exact .inr ⟨rfl, rfl, rfl⟩)
    | split
    | with_reducible apply keep_mk

theorem keep_setReminder {M : Nat} {s₀ : State} (hM : M ||| 256 = M) (s : State) (k : Nat) (r : Reminder) (h0 : Keep M s₀ s) :
    Keep M s₀ (State.setReminder s k r) := by
  unfold State.setReminder
  try dsimp only
  repeat' first
    | with_reducible (first | assumption | apply keep_ledgerWrite | exact sub_trans rfl hM)
    | exact .inl (sub_bit rfl hM)
    | with_reducible (first | exact .inr rfl | exact .inr ⟨rfl, rfl⟩ | exact .inr ⟨rfl, rfl, rfl⟩)
    | split
    | with_reducible apply keep_mk

theorem keep_fallDue {M : Nat} {s₀ : State} (hM : M ||| 622530 = M) (s : State) (k : Nat) (h0 : Keep M s₀ s) :
    Keep M s₀ (State.fallDue s k) := by
  unfold State.fallDue
  try dsimp only
  repeat' first
    | with_reducible (first | assumption | apply keep_ite | apply keep_putIdx | apply keep_raise | exact sub_trans rfl hM)
    | split

theorem keep_execReminderDue {M : Nat} {s₀ : State} (hM : M ||| 622530 = M) (k : Fin 32) (s : State) (h0 : Keep M s₀ s) :
    outKeep M s₀ (execReminderDue k s) := by
  unfold execReminderDue
  try dsimp only
  repeat' first
    | with_reducible (first | assumption | apply keep_next | apply keep_fallDue | exact sub_trans rfl hM)

theorem keep_execRtcSet {M : Nat} {s₀ : State} (hM : M ||| 622562 = M) (w : Writer) (sec : BitVec 40) (s : State)
    (h0 : Keep M s₀ s) :
    outKeep M s₀ (execRtcSet w sec s) := by
  unfold execRtcSet
  try dsimp only
  repeat' first
    | intro _
    | with_reducible (first | assumption | apply keep_ite | apply out_keep_ite | apply keep_next | apply keep_byOwner
                            | apply keep_put | apply keep_putB | apply keep_bump | apply keep_count | apply keep_logAdd
                            | apply keep_fallDue | apply keep_done | apply keep_foldl | exact sub_trans rfl hM)
    | exact .inl (sub_bit rfl hM)
    | with_reducible (first | exact .inr rfl | exact .inr ⟨rfl, rfl⟩ | exact .inr ⟨rfl, rfl, rfl⟩)
    | split
    | with_reducible apply keep_mk

theorem keep_execVbatLoss {M : Nat} {s₀ : State} (hM : M ||| 131074 = M) (s : State) (h0 : Keep M s₀ s) :
    outKeep M s₀ (execVbatLoss s) := by
  unfold execVbatLoss
  try dsimp only
  repeat' first
    | with_reducible (first | assumption | apply keep_ite | apply out_keep_ite | apply keep_next | apply keep_onVbat
                            | exact sub_trans rfl hM)
    | exact .inl (sub_bit rfl hM)
    | with_reducible (first | exact .inr rfl | exact .inr ⟨rfl, rfl⟩ | exact .inr ⟨rfl, rfl, rfl⟩)
    | split
    | with_reducible apply keep_mk

theorem keep_execVbatReturn {M : Nat} {s₀ : State} (hM : M ||| 131106 = M) (s : State) (h0 : Keep M s₀ s) :
    outKeep M s₀ (execVbatReturn s) := by
  unfold execVbatReturn
  try dsimp only
  repeat' first
    | with_reducible (first | assumption | apply keep_next | apply keep_relight | exact sub_trans rfl hM)
    | exact .inl (sub_bit rfl hM)
    | with_reducible (first | exact .inr rfl | exact .inr ⟨rfl, rfl⟩ | exact .inr ⟨rfl, rfl, rfl⟩)
    | split
    | with_reducible apply keep_mk

theorem keep_execVbatLow {M : Nat} {s₀ : State} (hM : M ||| 2 = M) (low : Bool) (s : State) (h0 : Keep M s₀ s) :
    outKeep M s₀ (execVbatLow low s) := by
  unfold execVbatLow
  try dsimp only
  repeat' first
    | with_reducible (first | assumption | apply keep_next | apply keep_putB | exact sub_trans rfl hM)

theorem keep_storeRem {M : Nat} {s₀ : State} (hM : M ||| 258 = M) (s : State) (x : LdgWork) (h0 : Keep M s₀ s) :
    Keep M s₀ (State.storeRem s x) := by
  unfold State.storeRem
  try dsimp only
  repeat' first
    | with_reducible (first | assumption | apply keep_ite | apply keep_setReminder | apply keep_putIdx | exact sub_trans rfl hM)
    | split

theorem keep_execLedgerFlushDone {M : Nat} {s₀ : State} (hM : M ||| 2097134 = M) (s : State) (h0 : Keep M s₀ s) :
    outKeep M s₀ (execLedgerFlushDone s) := by
  unfold execLedgerFlushDone
  try dsimp only
  repeat' first
    | with_reducible (first | assumption | apply keep_ite | apply out_keep_ite | apply keep_next | apply keep_storeRem
                            | apply keep_putB | apply keep_flush | apply keep_coldReset | exact sub_trans rfl hM)
    | exact .inl (sub_bit rfl hM)
    | with_reducible (first | exact .inr rfl | exact .inr ⟨rfl, rfl⟩ | exact .inr ⟨rfl, rfl, rfl⟩)
    | split
    | with_reducible apply keep_mk

theorem keep_execHoldupEnd {M : Nat} {s₀ : State} (hM : M ||| 2097134 = M) (s : State) (h0 : Keep M s₀ s) :
    outKeep M s₀ (execHoldupEnd s) := by
  unfold execHoldupEnd
  try dsimp only
  repeat' first
    | with_reducible (first | assumption | apply keep_ite | apply out_keep_ite | apply keep_next | apply keep_putB
                            | apply keep_coldReset | apply keep_onVbat | exact sub_trans rfl hM)
    | exact .inl (sub_bit rfl hM)
    | with_reducible (first | exact .inr rfl | exact .inr ⟨rfl, rfl⟩ | exact .inr ⟨rfl, rfl, rfl⟩)
    | split
    | with_reducible apply keep_mk

theorem keep_wear {M : Nat} {s₀ : State} (hM : M ||| 622530 = M) (s : State) (pct : Nat) (h0 : Keep M s₀ s) :
    Keep M s₀ (State.wear s pct) := by
  unfold State.wear
  try dsimp only
  repeat' first
    | with_reducible (first | assumption | apply keep_ite | apply keep_put | apply keep_raise | exact sub_trans rfl hM)
    | split

theorem keep_execCounterCommit {M : Nat} {s₀ : State} (hM : M ||| 622530 = M) (wear : Fin 256) (s : State) (h0 : Keep M s₀ s) :
    outKeep M s₀ (execCounterCommit wear s) := by
  unfold execCounterCommit
  try dsimp only
  repeat' first
    | intro _
    | with_reducible (first | assumption | apply keep_ite | apply out_keep_ite | apply keep_next | apply keep_count
                            | apply keep_ledgerWrite | apply keep_wear | apply keep_foldl | exact sub_trans rfl hM)
    | exact .inl (sub_bit rfl hM)
    | with_reducible (first | exact .inr rfl | exact .inr ⟨rfl, rfl⟩ | exact .inr ⟨rfl, rfl, rfl⟩)
    | split
    | with_reducible apply keep_mk

theorem keep_execHistogramMinute {M : Nat} {s₀ : State} (hM : M ||| 256 = M) (t : Fin 32) (s : State) (h0 : Keep M s₀ s) :
    outKeep M s₀ (execHistogramMinute t s) := by
  unfold execHistogramMinute
  try dsimp only
  repeat' first
    | with_reducible (first | assumption | apply keep_ite | apply out_keep_ite | apply keep_next | apply keep_count
                            | exact sub_trans rfl hM)
    | split

theorem keep_ldgEnd {M : Nat} {s₀ : State} (hM : M ||| 386 = M) (s : State) (status len : Nat) (h0 : Keep M s₀ s) :
    Keep M s₀ (State.ldgEnd s status len) := by
  unfold State.ldgEnd
  try dsimp only
  repeat' first
    | with_reducible (first | assumption | apply keep_putB | apply keep_put | apply keep_done | exact sub_trans rfl hM)
    | exact .inl (sub_bit rfl hM)
    | with_reducible (first | exact .inr rfl | exact .inr ⟨rfl, rfl⟩ | exact .inr ⟨rfl, rfl, rfl⟩)
    | split
    | with_reducible apply keep_mk

theorem keep_ldgCmd {M : Nat} {s₀ : State} (hM : M ||| 622530 = M) (s : State) (w : Writer) (op arg : Nat) (h0 : Keep M s₀ s) :
    Keep M s₀ (State.ldgCmd s w op arg) := by
  unfold State.ldgCmd
  try dsimp only
  repeat' first
    | intro _
    | with_reducible (first | assumption | apply keep_ite | apply keep_byOwner | apply keep_put | apply keep_done
                            | apply keep_ldgEnd | apply keep_putB | exact sub_trans rfl hM)
    | exact .inl (sub_bit rfl hM)
    | with_reducible (first | exact .inr rfl | exact .inr ⟨rfl, rfl⟩ | exact .inr ⟨rfl, rfl, rfl⟩)
    | split
    | with_reducible apply keep_mk

theorem keep_execReadCounters {M : Nat} {s₀ : State} (hM : M ||| 622530 = M) (w : Writer) (arg : Word) (s : State)
    (h0 : Keep M s₀ s) :
    outKeep M s₀ (execReadCounters w arg s) := by
  unfold execReadCounters
  try dsimp only
  repeat' first
    | with_reducible (first | assumption | apply keep_next | apply keep_ldgCmd | exact sub_trans rfl hM)

theorem keep_execReadHist {M : Nat} {s₀ : State} (hM : M ||| 622530 = M) (w : Writer) (arg : Word) (s : State)
    (h0 : Keep M s₀ s) :
    outKeep M s₀ (execReadHist w arg s) := by
  unfold execReadHist
  try dsimp only
  repeat' first
    | with_reducible (first | assumption | apply keep_next | apply keep_ldgCmd | exact sub_trans rfl hM)

theorem keep_execReadCal {M : Nat} {s₀ : State} (hM : M ||| 622530 = M) (w : Writer) (arg : Word) (s : State) (h0 : Keep M s₀ s) :
    outKeep M s₀ (execReadCal w arg s) := by
  unfold execReadCal
  try dsimp only
  repeat' first
    | with_reducible (first | assumption | apply keep_next | apply keep_ldgCmd | exact sub_trans rfl hM)

theorem keep_execReadRem {M : Nat} {s₀ : State} (hM : M ||| 622530 = M) (w : Writer) (arg : Word) (s : State) (h0 : Keep M s₀ s) :
    outKeep M s₀ (execReadRem w arg s) := by
  unfold execReadRem
  try dsimp only
  repeat' first
    | with_reducible (first | assumption | apply keep_next | apply keep_ldgCmd | exact sub_trans rfl hM)

theorem keep_execSetRem {M : Nat} {s₀ : State} (hM : M ||| 622530 = M) (w : Writer) (arg : Word) (s : State) (h0 : Keep M s₀ s) :
    outKeep M s₀ (execSetRem w arg s) := by
  unfold execSetRem
  try dsimp only
  repeat' first
    | with_reducible (first | assumption | apply keep_next | apply keep_ldgCmd | exact sub_trans rfl hM)

theorem keep_execAckRem {M : Nat} {s₀ : State} (hM : M ||| 622530 = M) (w : Writer) (arg : Word) (s : State) (h0 : Keep M s₀ s) :
    outKeep M s₀ (execAckRem w arg s) := by
  unfold execAckRem
  try dsimp only
  repeat' first
    | with_reducible (first | assumption | apply keep_next | apply keep_ldgCmd | exact sub_trans rfl hM)

theorem keep_execReadLog {M : Nat} {s₀ : State} (hM : M ||| 622530 = M) (w : Writer) (arg : Word) (s : State) (h0 : Keep M s₀ s) :
    outKeep M s₀ (execReadLog w arg s) := by
  unfold execReadLog
  try dsimp only
  repeat' first
    | with_reducible (first | assumption | apply keep_next | apply keep_ldgCmd | exact sub_trans rfl hM)

theorem keep_ldgBuf {M : Nat} {s₀ : State} (hM : M ||| 2 = M) (s : State) (bs : List Byte) (h0 : Keep M s₀ s) :
    Keep M s₀ (State.ldgBuf s bs) := by
  unfold State.ldgBuf
  try dsimp only
  repeat' first
    | intro _
    | with_reducible (first | assumption | apply keep_put | apply keep_foldl | exact sub_trans rfl hM)

theorem keep_execLedgerCommandDone {M : Nat} {s₀ : State} (hM : M ||| 386 = M) (ok : Bool) (s : State) (h0 : Keep M s₀ s) :
    outKeep M s₀ (execLedgerCommandDone ok s) := by
  unfold execLedgerCommandDone
  try dsimp only
  repeat' first
    | with_reducible (first | assumption | apply keep_ite | apply out_keep_ite | apply keep_next | apply keep_ldgEnd
                            | apply keep_storeRem | apply keep_ldgBuf | exact sub_trans rfl hM)
    | split

/-! ### Pins -/

theorem keep_execPinsOutWrite {M : Nat} {s₀ : State} (hM : M ||| 622530 = M) (w : Writer) (t : Fin 32) (v : Byte) (s : State)
    (h0 : Keep M s₀ s) :
    outKeep M s₀ (execPinsOutWrite w t v s) := by
  unfold execPinsOutWrite
  try dsimp only
  repeat' first
    | with_reducible (first | assumption | apply keep_next | apply keep_pinBits | apply keep_syncTile | exact sub_trans rfl hM)

theorem keep_execPinsOutSet {M : Nat} {s₀ : State} (hM : M ||| 622530 = M) (w : Writer) (t : Fin 32) (v : Byte) (s : State)
    (h0 : Keep M s₀ s) :
    outKeep M s₀ (execPinsOutSet w t v s) := by
  unfold execPinsOutSet
  try dsimp only
  repeat' first
    | with_reducible (first | assumption | apply keep_next | apply keep_pinBits | apply keep_syncTile | exact sub_trans rfl hM)

theorem keep_execPinsOutClr {M : Nat} {s₀ : State} (hM : M ||| 622530 = M) (w : Writer) (t : Fin 32) (v : Byte) (s : State)
    (h0 : Keep M s₀ s) :
    outKeep M s₀ (execPinsOutClr w t v s) := by
  unfold execPinsOutClr
  try dsimp only
  repeat' first
    | with_reducible (first | assumption | apply keep_next | apply keep_pinBits | apply keep_syncTile | exact sub_trans rfl hM)

theorem keep_execPinsOeWrite {M : Nat} {s₀ : State} (hM : M ||| 622530 = M) (w : Writer) (t : Fin 32) (v : Byte) (s : State)
    (h0 : Keep M s₀ s) :
    outKeep M s₀ (execPinsOeWrite w t v s) := by
  unfold execPinsOeWrite
  try dsimp only
  repeat' first
    | with_reducible (first | assumption | apply keep_next | apply keep_pinBits | apply keep_armEnables | exact sub_trans rfl hM)

theorem keep_clearPinFlt {M : Nat} {s₀ : State} (hM : M ||| 962 = M) (s : State) (t n mask : Nat) (h0 : Keep M s₀ s) :
    Keep M s₀ (State.clearPinFlt s t n mask) := by
  unfold State.clearPinFlt
  try dsimp only
  repeat' first
    | with_reducible (first | assumption | apply keep_ite | apply keep_put | apply keep_ackCause | apply keep_putB
                            | apply keep_syncDout | exact sub_trans rfl hM)
    | split

theorem keep_execPinFltClear {M : Nat} {s₀ : State} (hM : M ||| 622530 = M) (w : Writer) (t : Fin 32) (n : Fin 8) (mask : Word) (s : State)
    (h0 : Keep M s₀ s) :
    outKeep M s₀ (execPinFltClear w t n mask s) := by
  unfold execPinFltClear
  try dsimp only
  repeat' first
    | intro _
    | with_reducible (first | assumption | apply keep_ite | apply out_keep_ite | apply keep_next | apply keep_byPin
                            | apply keep_clearPinFlt | exact sub_trans rfl hM)
    | split

theorem keep_execPinEstTimeRead {M : Nat} {s₀ : State} (hM : M ||| 8 = M) (t : Fin 32) (n : Fin 8) (s : State)
    (h0 : Keep M s₀ s) :
    outKeep M s₀ (execPinEstTimeRead t n s) := by
  unfold execPinEstTimeRead
  try dsimp only
  repeat' first
    | with_reducible (first | assumption | apply keep_next | apply keep_answer | exact sub_trans rfl hM)
    | exact .inl (sub_bit rfl hM)
    | with_reducible (first | exact .inr rfl | exact .inr ⟨rfl, rfl⟩ | exact .inr ⟨rfl, rfl, rfl⟩)
    | split
    | with_reducible apply keep_mk

theorem keep_execFunctionAttach {M : Nat} {s₀ : State} (hM : M ||| 67522 = M) (t : Fin 32) (n : Fin 8) (s : State)
    (h0 : Keep M s₀ s) :
    outKeep M s₀ (execFunctionAttach t n s) := by
  unfold execFunctionAttach
  try dsimp only
  repeat' first
    | intro _
    | with_reducible (first | assumption | apply keep_ite | apply out_keep_ite | apply keep_next | apply keep_attach
                            | apply keep_syncSets | apply keep_foldl | exact sub_trans rfl hM)
    | split

theorem keep_execDinDebounce {M : Nat} {s₀ : State} (hM : M ||| 512 = M) (t : Fin 32) (n : Fin 8) (s : State) (h0 : Keep M s₀ s) :
    outKeep M s₀ (execDinDebounce t n s) := by
  unfold execDinDebounce
  try dsimp only
  repeat' first
    | with_reducible (first | assumption | apply keep_ite | apply out_keep_ite | apply keep_next | apply keep_modPin
                            | exact sub_trans rfl hM)
    | split

theorem keep_execDout24Trip {M : Nat} {s₀ : State} (hM : M ||| 622530 = M) (t : Fin 32) (n : Fin 8) (s : State)
    (h0 : Keep M s₀ s) :
    outKeep M s₀ (execDout24Trip t n s) := by
  unfold execDout24Trip
  try dsimp only
  repeat' first
    | with_reducible (first | assumption | apply keep_ite | apply out_keep_ite | apply keep_next | apply keep_putIdx
                            | apply keep_putB | apply keep_syncDout | apply keep_raise | exact sub_trans rfl hM)
    | split

theorem keep_execOverloadStart {M : Nat} {s₀ : State} (hM : M ||| 898 = M) (t : Fin 32) (n : Fin 8) (s : State)
    (h0 : Keep M s₀ s) :
    outKeep M s₀ (execOverloadStart t n s) := by
  unfold execOverloadStart
  try dsimp only
  repeat' first
    | with_reducible (first | assumption | apply keep_ite | apply out_keep_ite | apply keep_next | apply keep_modPin
                            | apply keep_bump | apply keep_putB | apply keep_count | apply keep_event | exact sub_trans rfl hM)
    | split

theorem keep_execOverloadEnd {M : Nat} {s₀ : State} (hM : M ||| 514 = M) (t : Fin 32) (n : Fin 8) (s : State) (h0 : Keep M s₀ s) :
    outKeep M s₀ (execOverloadEnd t n s) := by
  unfold execOverloadEnd
  try dsimp only
  repeat' first
    | with_reducible (first | assumption | apply keep_next | apply keep_modPin | apply keep_putB | exact sub_trans rfl hM)

theorem keep_pilotCrit {M : Nat} {s₀ : State} (hM : M ||| 622530 = M) (s : State) (t n : Nat) (c : Crit) (run good : Nat)
    (h0 : Keep M s₀ s) :
    Keep M s₀ (State.pilotCrit s t n c run good) := by
  unfold State.pilotCrit
  try dsimp only
  repeat' first
    | with_reducible (first | assumption | apply keep_ite | apply keep_critMet | apply keep_critGone | exact sub_trans rfl hM)
    | split

theorem keep_execPilotEstimate {M : Nat} {s₀ : State} (hM : M ||| 622530 = M) (t : Fin 32) (n : Fin 8) (est : Estimate) (s : State)
    (h0 : Keep M s₀ s) :
    outKeep M s₀ (execPilotEstimate t n est s) := by
  unfold execPilotEstimate
  try dsimp only
  repeat' first
    | with_reducible (first | assumption | apply keep_ite | apply out_keep_ite | apply keep_next | apply keep_put
                            | apply keep_bump | apply keep_putB | apply keep_modPin | apply keep_pilotCrit
                            | exact sub_trans rfl hM)
    | split

theorem keep_execShortTExpiry {M : Nat} {s₀ : State} (hM : M ||| 622530 = M) (t : Fin 32) (n : Fin 8) (c : Crit) (s : State)
    (h0 : Keep M s₀ s) :
    outKeep M s₀ (execShortTExpiry t n c s) := by
  unfold execShortTExpiry
  try dsimp only
  repeat' first
    | with_reducible (first | assumption | apply keep_ite | apply out_keep_ite | apply keep_next | apply keep_critMet
                            | apply keep_putB | exact sub_trans rfl hM)
    | split

theorem keep_execReversedPolarity {M : Nat} {s₀ : State} (hM : M ||| 622530 = M) (t : Fin 32) (n : Fin 8) (s : State)
    (h0 : Keep M s₀ s) :
    outKeep M s₀ (execReversedPolarity t n s) := by
  unfold execReversedPolarity
  try dsimp only
  repeat' first
    | with_reducible (first | assumption | apply keep_ite | apply out_keep_ite | apply keep_next | apply keep_critMet
                            | exact sub_trans rfl hM)
    | split

theorem keep_execV24Reversed {M : Nat} {s₀ : State} (hM : M ||| 622530 = M) (s : State) (h0 : Keep M s₀ s) :
    outKeep M s₀ (execV24Reversed s) := by
  unfold execV24Reversed
  try dsimp only
  repeat' first
    | intro _
    | with_reducible (first | assumption | apply keep_ite | apply out_keep_ite | apply keep_next | apply keep_eachTilePin
                            | apply keep_critLive | apply keep_syncDout | apply keep_raise | exact sub_trans rfl hM)
    | exact .inl (sub_bit rfl hM)
    | with_reducible (first | exact .inr rfl | exact .inr ⟨rfl, rfl⟩ | exact .inr ⟨rfl, rfl, rfl⟩)
    | split
    | with_reducible apply keep_mk

theorem keep_execV24ReverseClear {M : Nat} {s₀ : State} (hM : M ||| 898 = M) (s : State) (h0 : Keep M s₀ s) :
    outKeep M s₀ (execV24ReverseClear s) := by
  unfold execV24ReverseClear
  try dsimp only
  repeat' first
    | intro _
    | with_reducible (first | assumption | apply keep_ite | apply out_keep_ite | apply keep_next | apply keep_eachTilePin
                            | apply keep_critGone | apply keep_syncDout | exact sub_trans rfl hM)
    | exact .inl (sub_bit rfl hM)
    | with_reducible (first | exact .inr rfl | exact .inr ⟨rfl, rfl⟩ | exact .inr ⟨rfl, rfl, rfl⟩)
    | split
    | with_reducible apply keep_mk

theorem keep_execCriterionClear {M : Nat} {s₀ : State} (hM : M ||| 514 = M) (t : Fin 32) (n : Fin 8) (c : Crit) (s : State)
    (h0 : Keep M s₀ s) :
    outKeep M s₀ (execCriterionClear t n c s) := by
  unfold execCriterionClear
  try dsimp only
  repeat' first
    | with_reducible (first | assumption | apply keep_next | apply keep_critGone | apply keep_putB | exact sub_trans rfl hM)
    | split

theorem keep_execSenseTrip {M : Nat} {s₀ : State} (hM : M ||| 622530 = M) (t : Fin 32) (n : Fin 8) (s : State)
    (h0 : Keep M s₀ s) :
    outKeep M s₀ (execSenseTrip t n s) := by
  unfold execSenseTrip
  try dsimp only
  repeat' first
    | with_reducible (first | assumption | apply keep_ite | apply out_keep_ite | apply keep_next | apply keep_modPin
                            | apply keep_putIdx | apply keep_raise | exact sub_trans rfl hM)
    | split

theorem keep_execSenseTripClear {M : Nat} {s₀ : State} (hM : M ||| 622530 = M) (w : Writer) (t : Fin 32) (n : Fin 8) (s : State)
    (h0 : Keep M s₀ s) :
    outKeep M s₀ (execSenseTripClear w t n s) := by
  unfold execSenseTripClear
  try dsimp only
  repeat' first
    | intro _
    | with_reducible (first | assumption | apply keep_ite | apply out_keep_ite | apply keep_next | apply keep_byPin
                            | apply keep_putIdx | apply keep_ackCause | exact sub_trans rfl hM)
    | split

theorem keep_execSnReclose {M : Nat} {s₀ : State} (hM : M ||| 512 = M) (t : Fin 32) (n : Fin 8) (s : State) (h0 : Keep M s₀ s) :
    outKeep M s₀ (execSnReclose t n s) := by
  unfold execSnReclose
  try dsimp only
  repeat' first
    | with_reducible (first | assumption | apply keep_ite | apply out_keep_ite | apply keep_next | apply keep_modPin
                            | exact sub_trans rfl hM)
    | split

theorem keep_execLaneSwitchClose {M : Nat} {s₀ : State} (hM : M ||| 1154 = M) (t : Fin 32) (s : State) (h0 : Keep M s₀ s) :
    outKeep M s₀ (execLaneSwitchClose t s) := by
  unfold execLaneSwitchClose
  try dsimp only
  repeat' first
    | with_reducible (first | assumption | apply keep_ite | apply out_keep_ite | apply keep_next | apply keep_laneClose
                            | apply keep_finishCommit | exact sub_trans rfl hM)
    | split

theorem keep_protPin {M : Nat} {s₀ : State} (hM : M ||| 622530 = M) (s : State) (l u n : Nat) (h0 : Keep M s₀ s) :
    Keep M s₀ (State.protPin s l u n) := by
  unfold State.protPin
  try dsimp only
  repeat' first
    | with_reducible (first | assumption | apply keep_ite | apply keep_modPin | apply keep_putIdx | apply keep_raise
                            | exact sub_trans rfl hM)
    | split

theorem keep_protDrv {M : Nat} {s₀ : State} (hM : M ||| 622530 = M) (s : State) (l u k : Nat) (h0 : Keep M s₀ s) :
    Keep M s₀ (State.protDrv s l u k) := by
  unfold State.protDrv
  try dsimp only
  repeat' first
    | with_reducible (first | assumption | apply keep_ite | apply keep_modTile | apply keep_putIdx | apply keep_raise
                            | exact sub_trans rfl hM)
    | split

theorem keep_execLaneProtection {M : Nat} {s₀ : State} (hM : M ||| 622530 = M) (t : Fin 32) (lane : Fin 16) (s : State)
    (h0 : Keep M s₀ s) :
    outKeep M s₀ (execLaneProtection t lane s) := by
  unfold execLaneProtection
  try dsimp only
  repeat' first
    | intro _
    | with_reducible (first | assumption | apply keep_next | apply keep_protDrv | apply keep_eachPin | apply keep_protPin
                            | apply keep_foldl | exact sub_trans rfl hM)

theorem keep_execLaneProtClear {M : Nat} {s₀ : State} (hM : M ||| 622530 = M) (w : Writer) (t : Fin 32) (c : LaneConn) (s : State)
    (h0 : Keep M s₀ s) :
    outKeep M s₀ (execLaneProtClear w t c s) := by
  unfold execLaneProtClear
  try dsimp only
  repeat' first
    | intro _
    | with_reducible (first | assumption | apply keep_ite | apply out_keep_ite | apply keep_next | apply keep_byPin
                            | apply keep_putIdx | apply keep_ackCause | apply keep_modTile | exact sub_trans rfl hM)
    | split

theorem keep_execLaneReconnect {M : Nat} {s₀ : State} (hM : M ||| 67266 = M) (t : Fin 32) (c : LaneConn) (s : State)
    (h0 : Keep M s₀ s) :
    outKeep M s₀ (execLaneReconnect t c s) := by
  unfold execLaneReconnect
  try dsimp only
  repeat' first
    | with_reducible (first | assumption | apply keep_ite | apply out_keep_ite | apply keep_next | apply keep_modTile
                            | apply keep_modPin | apply keep_checkDrv | apply keep_closeDrv | exact sub_trans rfl hM)
    | split

theorem keep_execRefCheck {M : Nat} {s₀ : State} (hM : M ||| 622530 = M) (t : Fin 32) (dev zero : Int) (s : State)
    (h0 : Keep M s₀ s) :
    outKeep M s₀ (execRefCheck t dev zero s) := by
  unfold execRefCheck
  try dsimp only
  repeat' first
    | with_reducible (first | assumption | apply keep_ite | apply out_keep_ite | apply keep_next | apply keep_put
                            | apply keep_modTile | apply keep_putB | apply keep_raise | exact sub_trans rfl hM)
    | split

theorem keep_execTempReading {M : Nat} {s₀ : State} (hM : M ||| 622530 = M) (t : Fin 32) (temp : Int) (s : State)
    (h0 : Keep M s₀ s) :
    outKeep M s₀ (execTempReading t temp s) := by
  unfold execTempReading
  try dsimp only
  repeat' first
    | with_reducible (first | assumption | apply keep_ite | apply out_keep_ite | apply keep_next | apply keep_put
                            | apply keep_putB | apply keep_raise | apply keep_modTile | apply keep_abandonSwitches
                            | exact sub_trans rfl hM)
    | split

theorem keep_restartTile {M : Nat} {s₀ : State} (hM : M ||| 132162 = M) (s : State) (t : Nat) (h0 : Keep M s₀ s) :
    Keep M s₀ (State.restartTile s t) := by
  unfold State.restartTile
  try dsimp only
  repeat' first
    | with_reducible (first | assumption | apply keep_modTile | apply keep_startDomain | exact sub_trans rfl hM)
    | exact .inl (sub_bit rfl hM)
    | with_reducible (first | exact .inr rfl | exact .inr ⟨rfl, rfl⟩ | exact .inr ⟨rfl, rfl, rfl⟩)
    | split
    | with_reducible apply keep_mk

theorem keep_execTileRestart {M : Nat} {s₀ : State} (hM : M ||| 753602 = M) (w : Writer) (t : Fin 32) (s : State)
    (h0 : Keep M s₀ s) :
    outKeep M s₀ (execTileRestart w t s) := by
  unfold execTileRestart
  try dsimp only
  repeat' first
    | intro _
    | with_reducible (first | assumption | apply keep_ite | apply out_keep_ite | apply keep_next | apply keep_byOwner
                            | apply keep_putB | apply keep_endActive | apply keep_restartTile | exact sub_trans rfl hM)
    | split

theorem keep_execTileTempMaxRead {M : Nat} {s₀ : State} (hM : M ||| 10 = M) (t : Fin 32) (s : State) (h0 : Keep M s₀ s) :
    outKeep M s₀ (execTileTempMaxRead t s) := by
  unfold execTileTempMaxRead
  try dsimp only
  repeat' first
    | with_reducible (first | assumption | apply keep_next | apply keep_answer | apply keep_put | exact sub_trans rfl hM)

/-! ### Events -/

theorem keep_execSafeNAssert {M : Nat} {s₀ : State} (hM : M ||| 622530 = M) (s : State) (h0 : Keep M s₀ s) :
    outKeep M s₀ (execSafeNAssert s) := by
  unfold execSafeNAssert
  try dsimp only
  repeat' first
    | with_reducible (first | assumption | apply keep_ite | apply out_keep_ite | apply keep_next | apply keep_putB
                            | apply keep_raise | exact sub_trans rfl hM)
    | exact .inl (sub_bit rfl hM)
    | with_reducible (first | exact .inr rfl | exact .inr ⟨rfl, rfl⟩ | exact .inr ⟨rfl, rfl, rfl⟩)
    | split
    | with_reducible apply keep_mk

theorem keep_execSafeNDeassert {M : Nat} {s₀ : State} (hM : M ||| 66 = M) (s : State) (h0 : Keep M s₀ s) :
    outKeep M s₀ (execSafeNDeassert s) := by
  unfold execSafeNDeassert
  try dsimp only
  repeat' first
    | with_reducible (first | assumption | apply keep_next | apply keep_putB | exact sub_trans rfl hM)
    | exact .inl (sub_bit rfl hM)
    | with_reducible (first | exact .inr rfl | exact .inr ⟨rfl, rfl⟩ | exact .inr ⟨rfl, rfl, rfl⟩)
    | split
    | with_reducible apply keep_mk

theorem keep_popRecord {M : Nat} {s₀ : State} (hM : M ||| 64 = M) (s : State) (h0 : Keep M s₀ s) :
    Keep M s₀ (State.popRecord s) := by
  unfold State.popRecord
  try dsimp only
  repeat' first
    | with_reducible (first | assumption | apply keep_ite | apply keep_endActive | exact sub_trans rfl hM)
    | exact .inl (sub_bit rfl hM)
    | with_reducible (first | exact .inr rfl | exact .inr ⟨rfl, rfl⟩ | exact .inr ⟨rfl, rfl, rfl⟩)
    | split
    | with_reducible apply keep_mk

theorem keep_execPop {M : Nat} {s₀ : State} (hM : M ||| 622530 = M) (w : Writer) (s : State) (h0 : Keep M s₀ s) :
    outKeep M s₀ (execPop w s) := by
  unfold execPop
  try dsimp only
  repeat' first
    | intro _
    | with_reducible (first | assumption | apply keep_next | apply keep_byOwner | apply keep_popRecord | exact sub_trans rfl hM)

theorem keep_execExit {M : Nat} {s₀ : State} (hM : M ||| 622530 = M) (w : Writer) (s : State) (h0 : Keep M s₀ s) :
    outKeep M s₀ (execExit w s) := by
  unfold execExit
  try dsimp only
  repeat' first
    | intro _
    | with_reducible (first | assumption | apply keep_next | apply keep_byOwner | apply keep_exitC4 | apply keep_done
                            | exact sub_trans rfl hM)

theorem keep_execFltAck {M : Nat} {s₀ : State} (hM : M ||| 622530 = M) (w : Writer) (rseq : BitVec 16) (s : State)
    (h0 : Keep M s₀ s) :
    outKeep M s₀ (execFltAck w rseq s) := by
  unfold execFltAck
  try dsimp only
  repeat' first
    | intro _
    | with_reducible (first | assumption | apply keep_next | apply keep_byOwner | apply keep_endActive | exact sub_trans rfl hM)

theorem keep_recoverEngine {M : Nat} {s₀ : State} (hM : M ||| 40962 = M) (s : State) (e : Nat) (h0 : Keep M s₀ s) :
    Keep M s₀ (State.recoverEngine s e) := by
  unfold State.recoverEngine
  try dsimp only
  repeat' first
    | with_reducible (first | assumption | apply keep_putB | apply keep_reloadEngine | apply keep_put | apply keep_modEng
                            | exact sub_trans rfl hM)

theorem keep_releaseUnit {M : Nat} {s₀ : State} (hM : M ||| 255958 = M) (s : State) (u : Nat) (h0 : Keep M s₀ s) :
    Keep M s₀ (State.releaseUnit s u) := by
  unfold State.releaseUnit
  try dsimp only
  repeat' first
    | intro _
    | with_reducible (first | assumption | apply keep_ite | apply keep_restartTile | apply keep_recoverEngine | apply keep_putB
                            | apply keep_put | apply keep_dmaApply | apply keep_dmaCommitted | apply keep_openRegion
                            | apply keep_foldl | exact sub_trans rfl hM)
    | exact .inl (sub_bit rfl hM)
    | with_reducible (first | exact .inr rfl | exact .inr ⟨rfl, rfl⟩ | exact .inr ⟨rfl, rfl, rfl⟩)
    | split
    | with_reducible apply keep_mk

theorem keep_execFltRelease {M : Nat} {s₀ : State} (hM : M ||| 786390 = M) (w : Writer) (u : BitVec 13) (s : State)
    (h0 : Keep M s₀ s) :
    outKeep M s₀ (execFltRelease w u s) := by
  unfold execFltRelease
  try dsimp only
  repeat' first
    | intro _
    | with_reducible (first | assumption | apply keep_ite | apply out_keep_ite | apply keep_next | apply keep_byOwner
                            | apply keep_putB | apply keep_done | apply keep_releaseUnit | exact sub_trans rfl hM)
    | split

theorem keep_execFltDropCntRead {M : Nat} {s₀ : State} (hM : M ||| 10 = M) (s : State) (h0 : Keep M s₀ s) :
    outKeep M s₀ (execFltDropCntRead s) := by
  unfold execFltDropCntRead
  try dsimp only
  repeat' first
    | with_reducible (first | assumption | apply keep_next | apply keep_readClear | exact sub_trans rfl hM)

theorem keep_execIrqSwiWrite {M : Nat} {s₀ : State} (hM : M ||| 622530 = M) (w : Writer) (v : Byte) (s : State)
    (h0 : Keep M s₀ s) :
    outKeep M s₀ (execIrqSwiWrite w v s) := by
  unfold execIrqSwiWrite
  try dsimp only
  repeat' first
    | intro _
    | with_reducible (first | assumption | apply keep_next | apply keep_byOwner | apply keep_withSrcs | apply keep_put
                            | exact sub_trans rfl hM)

theorem keep_execEventTrigger {M : Nat} {s₀ : State} (hM : M ||| 66690 = M) (n : Fin 256) (s : State) (h0 : Keep M s₀ s) :
    outKeep M s₀ (execEventTrigger n s) := by
  unfold execEventTrigger
  try dsimp only
  repeat' first
    | with_reducible (first | assumption | apply keep_next | apply keep_trigRise | exact sub_trans rfl hM)

theorem keep_execEvcSnap {M : Nat} {s₀ : State} (hM : M ||| 622530 = M) (w : Writer) (groups : BitVec 16) (s : State)
    (h0 : Keep M s₀ s) :
    outKeep M s₀ (execEvcSnap w groups s) := by
  unfold execEvcSnap
  try dsimp only
  repeat' first
    | intro _
    | with_reducible (first | assumption | apply keep_next | apply keep_byOwner | apply keep_snapshot | exact sub_trans rfl hM)

theorem keep_execEvcSwtrig {M : Nat} {s₀ : State} (hM : M ||| 622530 = M) (w : Writer) (trigs : BitVec 16) (s : State)
    (h0 : Keep M s₀ s) :
    outKeep M s₀ (execEvcSwtrig w trigs s) := by
  unfold execEvcSwtrig
  try dsimp only
  repeat' first
    | intro _
    | with_reducible (first | assumption | apply keep_next | apply keep_byOwner | apply keep_trigSources
                            | exact sub_trans rfl hM)

theorem keep_execEvcWrap {M : Nat} {s₀ : State} (hM : M ||| 130 = M) (n : Fin 256) (s : State) (h0 : Keep M s₀ s) :
    outKeep M s₀ (execEvcWrap n s) := by
  unfold execEvcWrap
  try dsimp only
  repeat' first
    | with_reducible (first | assumption | apply keep_ite | apply out_keep_ite | apply keep_next | apply keep_evcAdd
                            | exact sub_trans rfl hM)
    | split

theorem keep_execEvcValRead {M : Nat} {s₀ : State} (hM : M ||| 8 = M) (n : Fin 256) (s : State) (h0 : Keep M s₀ s) :
    outKeep M s₀ (execEvcValRead n s) := by
  unfold execEvcValRead
  try dsimp only
  repeat' first
    | with_reducible (first | assumption | apply keep_next | apply keep_answer | exact sub_trans rfl hM)
    | exact .inl (sub_bit rfl hM)
    | with_reducible (first | exact .inr rfl | exact .inr ⟨rfl, rfl⟩ | exact .inr ⟨rfl, rfl, rfl⟩)
    | split
    | with_reducible apply keep_mk

theorem keep_execEvcValWrite {M : Nat} {s₀ : State} (hM : M ||| 622530 = M) (w : Writer) (n : Fin 256) (hi : Bool) (v : Word) (s : State)
    (h0 : Keep M s₀ s) :
    outKeep M s₀ (execEvcValWrite w n hi v s) := by
  unfold execEvcValWrite
  try dsimp only
  repeat' first
    | intro _
    | with_reducible (first | assumption | apply keep_ite | apply out_keep_ite | apply keep_next | apply keep_byOwner
                            | apply keep_put | exact sub_trans rfl hM)
    | split

theorem keep_execGlitchTrip {M : Nat} {s₀ : State} (hM : M ||| 2097134 = M) (m : Fin 6) (s : State) (h0 : Keep M s₀ s) :
    outKeep M s₀ (execGlitchTrip m s) := by
  unfold execGlitchTrip
  try dsimp only
  repeat' first
    | with_reducible (first | assumption | apply keep_ite | apply out_keep_ite | apply keep_next | apply keep_logAdd
                            | apply keep_countNow | apply keep_secSync | apply keep_put | apply keep_class5 | apply keep_raise
                            | exact sub_trans rfl hM)
    | exact .inl (sub_bit rfl hM)
    | with_reducible (first | exact .inr rfl | exact .inr ⟨rfl, rfl⟩ | exact .inr ⟨rfl, rfl, rfl⟩)
    | split
    | with_reducible apply keep_mk

/-! ### Host -/

theorem keep_readRing {M : Nat} {s₀ : State} (hM : M ||| 622546 = M) (s : State) (r : Nat) (h0 : Keep M s₀ s) :
    Keep M s₀ (State.readRing s r) := by
  unfold State.readRing
  try dsimp only
  repeat' first
    | with_reducible (first | assumption | apply keep_ite | apply keep_hostRead | apply keep_modRing | apply keep_seeProd
                            | exact sub_trans rfl hM)
    | split

theorem keep_readLines {M : Nat} {s₀ : State} (hM : M ||| 622546 = M) (s : State) (h0 : Keep M s₀ s) :
    Keep M s₀ (State.readLines s) := by
  unfold State.readLines
  try dsimp only
  repeat' first
    | intro _
    | with_reducible (first | assumption | apply keep_ite | apply keep_readRing | apply keep_hostRead | apply keep_seeAck
                            | apply keep_foldl | exact sub_trans rfl hM)
    | split

theorem keep_sendPending {M : Nat} {s₀ : State} (hM : M ||| 130 = M) (s : State) (h0 : Keep M s₀ s) :
    Keep M s₀ (State.sendPending s) := by
  unfold State.sendPending
  try dsimp only
  repeat' first
    | intro _
    | with_reducible (first | assumption | apply keep_ite | apply keep_msixSend | apply keep_foldl | exact sub_trans rfl hM)
    | exact .inl (sub_bit rfl hM)
    | with_reducible (first | exact .inr rfl | exact .inr ⟨rfl, rfl⟩ | exact .inr ⟨rfl, rfl, rfl⟩)
    | split
    | with_reducible apply keep_mk

theorem keep_hostBack {M : Nat} {s₀ : State} (hM : M ||| 622546 = M) (s : State) (h0 : Keep M s₀ s) :
    Keep M s₀ (State.hostBack s) := by
  unfold State.hostBack
  try dsimp only
  repeat' first
    | with_reducible (first | assumption | apply keep_ite | apply keep_readLines | apply keep_dirtyAll | apply keep_sendPending
                            | exact sub_trans rfl hM)
    | split

theorem keep_execLinkL0Entry {M : Nat} {s₀ : State} (hM : M ||| 884690 = M) (lanes : BitVec 8) (rates : BitVec 5) (cxl : Bool) (s : State)
    (h0 : Keep M s₀ s) :
    outKeep M s₀ (execLinkL0Entry lanes rates cxl s) := by
  unfold execLinkL0Entry
  try dsimp only
  repeat' first
    | with_reducible (first | assumption | apply keep_ite | apply out_keep_ite | apply keep_next | apply keep_put
                            | apply keep_putB | apply keep_startDeadline | apply keep_hostBack | exact sub_trans rfl hM)
    | exact .inl (sub_bit rfl hM)
    | with_reducible (first | exact .inr rfl | exact .inr ⟨rfl, rfl⟩ | exact .inr ⟨rfl, rfl, rfl⟩)
    | split
    | with_reducible apply keep_mk

theorem keep_clearIde {M : Nat} {s₀ : State} (hM : M ||| 1048576 = M) (s : State) (h0 : Keep M s₀ s) :
    Keep M s₀ (State.clearIde s) := by
  unfold State.clearIde
  try dsimp only
  repeat' first
    | with_reducible (first | assumption | exact sub_trans rfl hM)
    | exact .inl (sub_bit rfl hM)
    | with_reducible (first | exact .inr rfl | exact .inr ⟨rfl, rfl⟩ | exact .inr ⟨rfl, rfl, rfl⟩)
    | split
    | with_reducible apply keep_mk

theorem keep_dropLink {M : Nat} {s₀ : State} (hM : M ||| 262146 = M) (s : State) (h0 : Keep M s₀ s) :
    Keep M s₀ (State.dropLink s) := by
  unfold State.dropLink
  try dsimp only
  repeat' first
    | with_reducible (first | assumption | apply keep_put | exact sub_trans rfl hM)
    | exact .inl (sub_bit rfl hM)
    | with_reducible (first | exact .inr rfl | exact .inr ⟨rfl, rfl⟩ | exact .inr ⟨rfl, rfl, rfl⟩)
    | split
    | with_reducible apply keep_mk

theorem keep_loadReadFails {M : Nat} {s₀ : State} (hM : M ||| 622530 = M) (s : State) (h0 : Keep M s₀ s) :
    Keep M s₀ (State.loadReadFails s) := by
  unfold State.loadReadFails
  try dsimp only
  repeat' first
    | with_reducible (first | assumption | apply keep_ite | apply keep_rejectLoad | exact sub_trans rfl hM)
    | split

theorem keep_dropDoe {M : Nat} {s₀ : State} (hM : M ||| 262152 = M) (s : State) (h0 : Keep M s₀ s) :
    Keep M s₀ (State.dropDoe s) := by
  unfold State.dropDoe
  try dsimp only
  repeat' first
    | with_reducible (first | assumption | exact sub_trans rfl hM)
    | exact .inl (sub_bit rfl hM)
    | with_reducible (first | exact .inr rfl | exact .inr ⟨rfl, rfl⟩ | exact .inr ⟨rfl, rfl, rfl⟩)
    | split
    | with_reducible apply keep_mk

theorem keep_execLinkDown {M : Nat} {s₀ : State} (hM : M ||| 1933258 = M) (s : State) (h0 : Keep M s₀ s) :
    outKeep M s₀ (execLinkDown s) := by
  unfold execLinkDown
  try dsimp only
  repeat' first
    | with_reducible (first | assumption | apply keep_next | apply keep_dropDoe | apply keep_dropLink | apply keep_clearIde
                            | apply keep_loadReadFails | exact sub_trans rfl hM)

theorem keep_execLinkL1Entry {M : Nat} {s₀ : State} (hM : M ||| 262274 = M) (s : State) (h0 : Keep M s₀ s) :
    outKeep M s₀ (execLinkL1Entry s) := by
  unfold execLinkL1Entry
  try dsimp only
  repeat' first
    | with_reducible (first | assumption | apply keep_ite | apply out_keep_ite | apply keep_next | apply keep_event
                            | exact sub_trans rfl hM)
    | exact .inl (sub_bit rfl hM)
    | with_reducible (first | exact .inr rfl | exact .inr ⟨rfl, rfl⟩ | exact .inr ⟨rfl, rfl, rfl⟩)
    | split
    | with_reducible apply keep_mk

theorem keep_execLinkL1Exit {M : Nat} {s₀ : State} (hM : M ||| 884690 = M) (s : State) (h0 : Keep M s₀ s) :
    outKeep M s₀ (execLinkL1Exit s) := by
  unfold execLinkL1Exit
  try dsimp only
  repeat' first
    | with_reducible (first | assumption | apply keep_ite | apply out_keep_ite | apply keep_next | apply keep_hostBack
                            | exact sub_trans rfl hM)
    | exact .inl (sub_bit rfl hM)
    | with_reducible (first | exact .inr rfl | exact .inr ⟨rfl, rfl⟩ | exact .inr ⟨rfl, rfl, rfl⟩)
    | split
    | with_reducible apply keep_mk

theorem keep_execD3hotEntry {M : Nat} {s₀ : State} (hM : M ||| 262144 = M) (s : State) (h0 : Keep M s₀ s) :
    outKeep M s₀ (execD3hotEntry s) := by
  unfold execD3hotEntry
  try dsimp only
  repeat' first
    | with_reducible (first | assumption | apply keep_next | exact sub_trans rfl hM)
    | exact .inl (sub_bit rfl hM)
    | with_reducible (first | exact .inr rfl | exact .inr ⟨rfl, rfl⟩ | exact .inr ⟨rfl, rfl, rfl⟩)
    | split
    | with_reducible apply keep_mk

theorem keep_execD0Return {M : Nat} {s₀ : State} (hM : M ||| 884690 = M) (s : State) (h0 : Keep M s₀ s) :
    outKeep M s₀ (execD0Return s) := by
  unfold execD0Return
  try dsimp only
  repeat' first
    | with_reducible (first | assumption | apply keep_ite | apply out_keep_ite | apply keep_next | apply keep_hostBack
                            | exact sub_trans rfl hM)
    | exact .inl (sub_bit rfl hM)
    | with_reducible (first | exact .inr rfl | exact .inr ⟨rfl, rfl⟩ | exact .inr ⟨rfl, rfl, rfl⟩)
    | split
    | with_reducible apply keep_mk

theorem keep_msixReset {M : Nat} {s₀ : State} (hM : M ||| 134 = M) (s : State) (h0 : Keep M s₀ s) :
    Keep M s₀ (State.msixReset s) := by
  unfold State.msixReset
  try dsimp only
  repeat' first
    | with_reducible (first | assumption | apply keep_resetRange | exact sub_trans rfl hM)
    | exact .inl (sub_bit rfl hM)
    | with_reducible (first | exact .inr rfl | exact .inr ⟨rfl, rfl⟩ | exact .inr ⟨rfl, rfl, rfl⟩)
    | split
    | with_reducible apply keep_mk

theorem keep_functionReset {M : Nat} {s₀ : State} (hM : M ||| 1933262 = M) (s : State) (h0 : Keep M s₀ s) :
    Keep M s₀ (State.functionReset s) := by
  unfold State.functionReset
  try dsimp only
  repeat' first
    | with_reducible (first | assumption | apply keep_resetRange | apply keep_dropDoe | apply keep_msixReset
                            | apply keep_clearIde | apply keep_loadReadFails | exact sub_trans rfl hM)
    | exact .inl (sub_bit rfl hM)
    | with_reducible (first | exact .inr rfl | exact .inr ⟨rfl, rfl⟩ | exact .inr ⟨rfl, rfl, rfl⟩)
    | split
    | with_reducible apply keep_mk

theorem keep_hdmOff {M : Nat} {s₀ : State} (hM : M ||| 2 = M) (s : State) (h0 : Keep M s₀ s) : Keep M s₀ (State.hdmOff s) := by
  unfold State.hdmOff
  try dsimp only
  repeat' first
    | with_reducible (first | assumption | apply keep_putB | apply keep_put | exact sub_trans rfl hM)

theorem keep_configReset {M : Nat} {s₀ : State} (hM : M ||| 6 = M) (s : State) (h0 : Keep M s₀ s) :
    Keep M s₀ (State.configReset s) := by
  unfold State.configReset
  try dsimp only
  repeat' first
    | with_reducible (first | assumption | apply keep_resetRange | apply keep_putB | apply keep_hdmOff | exact sub_trans rfl hM)

theorem keep_hostReset {M : Nat} {s₀ : State} (hM : M ||| 1933262 = M) (s : State) (h0 : Keep M s₀ s) :
    Keep M s₀ (State.hostReset s) := by
  unfold State.hostReset
  try dsimp only
  repeat' first
    | with_reducible (first | assumption | apply keep_configReset | apply keep_resetRange | apply keep_putB
                            | apply keep_functionReset | apply keep_dropLink | exact sub_trans rfl hM)
    | exact .inl (sub_bit rfl hM)
    | with_reducible (first | exact .inr rfl | exact .inr ⟨rfl, rfl⟩ | exact .inr ⟨rfl, rfl, rfl⟩)
    | split
    | with_reducible apply keep_mk

theorem keep_execPerstN {M : Nat} {s₀ : State} (hM : M ||| 1933262 = M) (s : State) (h0 : Keep M s₀ s) :
    outKeep M s₀ (execPerstN s) := by
  unfold execPerstN
  try dsimp only
  repeat' first
    | with_reducible (first | assumption | apply keep_next | apply keep_hostReset | exact sub_trans rfl hM)

theorem keep_execHotReset {M : Nat} {s₀ : State} (hM : M ||| 1933262 = M) (s : State) (h0 : Keep M s₀ s) :
    outKeep M s₀ (execHotReset s) := by
  unfold execHotReset
  try dsimp only
  repeat' first
    | with_reducible (first | assumption | apply keep_next | apply keep_hostReset | exact sub_trans rfl hM)

theorem keep_unstage {M : Nat} {s₀ : State} (hM : M ||| 4 = M) (s : State) (f : Field) (h0 : Keep M s₀ s) :
    Keep M s₀ (State.unstage s f) := by
  unfold State.unstage
  try dsimp only
  repeat' first
    | with_reducible (first | assumption | apply keep_ite | exact sub_trans rfl hM)
    | exact .inl (sub_bit rfl hM)
    | with_reducible (first | exact .inr rfl | exact .inr ⟨rfl, rfl⟩ | exact .inr ⟨rfl, rfl, rfl⟩)
    | split
    | with_reducible apply keep_mk

theorem keep_flrReset {M : Nat} {s₀ : State} (hM : M ||| 1933262 = M) (s : State) (h0 : Keep M s₀ s) :
    Keep M s₀ (State.flrReset s) := by
  unfold State.flrReset
  try dsimp only
  repeat' first
    | intro _
    | with_reducible (first | assumption | apply keep_putB | apply keep_unstage | apply keep_ringDisable
                            | apply keep_functionReset | apply keep_dirtyAll | apply keep_foldl | exact sub_trans rfl hM)

theorem keep_execFlr {M : Nat} {s₀ : State} (hM : M ||| 1933262 = M) (s : State) (h0 : Keep M s₀ s) :
    outKeep M s₀ (execFlr s) := by
  unfold execFlr
  try dsimp only
  repeat' first
    | with_reducible (first | assumption | apply keep_next | apply keep_flrReset | exact sub_trans rfl hM)

theorem keep_execCxlReset {M : Nat} {s₀ : State} (hM : M ||| 1933262 = M) (s : State) (h0 : Keep M s₀ s) :
    outKeep M s₀ (execCxlReset s) := by
  unfold execCxlReset
  try dsimp only
  repeat' first
    | with_reducible (first | assumption | apply keep_next | apply keep_flrReset | apply keep_hdmOff | exact sub_trans rfl hM)

theorem keep_execViral {M : Nat} {s₀ : State} (hM : M ||| 622530 = M) (s : State) (h0 : Keep M s₀ s) :
    outKeep M s₀ (execViral s) := by
  unfold execViral
  try dsimp only
  repeat' first
    | with_reducible (first | assumption | apply keep_ite | apply out_keep_ite | apply keep_next | apply keep_raise
                            | exact sub_trans rfl hM)
    | split

theorem keep_execCacheWritebackInvalidate {M : Nat} {s₀ : State} (hM : M ||| 622546 = M) (s : State) (h0 : Keep M s₀ s) :
    outKeep M s₀ (execCacheWritebackInvalidate s) := by
  unfold execCacheWritebackInvalidate
  try dsimp only
  repeat' first
    | with_reducible (first | assumption | apply keep_ite | apply out_keep_ite | apply keep_next | apply keep_readLines
                            | exact sub_trans rfl hM)
    | split

theorem keep_hdmRead {M : Nat} {s₀ : State} (hM : M ||| 622554 = M) (s : State) (off : Nat) (found : EccOutcome)
    (h0 : Keep M s₀ s) :
    Keep M s₀ (State.hdmRead s off found) := by
  unfold State.hdmRead
  try dsimp only
  repeat' first
    | with_reducible (first | assumption | apply keep_ite | apply keep_eccCheck | apply keep_report | apply keep_memEvents
                            | apply keep_physRead | exact sub_trans rfl hM)
    | exact .inl (sub_bit rfl hM)
    | with_reducible (first | exact .inr rfl | exact .inr ⟨rfl, rfl⟩ | exact .inr ⟨rfl, rfl, rfl⟩)
    | split
    | with_reducible apply keep_mk

theorem keep_hdmWrite {M : Nat} {s₀ : State} (hM : M ||| 655298 = M) (s : State) (off : Nat) (bs : List Byte) (found : EccOutcome)
    (h0 : Keep M s₀ s) :
    Keep M s₀ (State.hdmWrite s off bs found) := by
  unfold State.hdmWrite
  try dsimp only
  repeat' first
    | with_reducible (first | assumption | apply keep_ite | apply keep_eccCheck | apply keep_memEvents | apply keep_physWrite
                            | exact sub_trans rfl hM)
    | split

theorem keep_execCxlMemAccess {M : Nat} {s₀ : State} (hM : M ||| 655322 = M) (line : Nat) (op : BusOp) (found : EccOutcome) (s : State)
    (h0 : Keep M s₀ s) :
    outKeep M s₀ (execCxlMemAccess line op found s) := by
  unfold execCxlMemAccess
  try dsimp only
  repeat' first
    | with_reducible (first | assumption | apply keep_ite | apply out_keep_ite | apply keep_next | apply keep_report
                            | apply keep_hdmRead | apply keep_hdmWrite | exact sub_trans rfl hM)
    | split

theorem keep_execMsixUnmask {M : Nat} {s₀ : State} (hM : M ||| 130 = M) (m : MsixTarget) (s : State) (h0 : Keep M s₀ s) :
    outKeep M s₀ (execMsixUnmask m s) := by
  unfold execMsixUnmask
  try dsimp only
  repeat' first
    | with_reducible (first | assumption | apply keep_ite | apply out_keep_ite | apply keep_next | apply keep_sendPending
                            | exact sub_trans rfl hM)
    | exact .inl (sub_bit rfl hM)
    | with_reducible (first | exact .inr rfl | exact .inr ⟨rfl, rfl⟩ | exact .inr ⟨rfl, rfl, rfl⟩)
    | split
    | with_reducible apply keep_mk

theorem keep_refusePtr {M : Nat} {s₀ : State} (hM : M ||| 2178 = M) (s : State) (r : Nat) (it : Option Item) (h0 : Keep M s₀ s) :
    Keep M s₀ (State.refusePtr s r it) := by
  unfold State.refusePtr
  try dsimp only
  repeat' first
    | with_reducible (first | assumption | apply keep_ite | apply keep_refuseEntry | apply keep_passEntry | apply keep_modRing
                            | exact sub_trans rfl hM)
    | split

theorem keep_busResponse {M : Nat} {s₀ : State} (hM : M ||| 622530 = M) (s : State) (q : Requester) (h0 : Keep M s₀ s) :
    Keep M s₀ (State.busResponse s q) := by
  unfold State.busResponse
  try dsimp only
  repeat' first
    | with_reducible (first | assumption | apply keep_ite | apply keep_engException | apply keep_event | apply keep_raise
                            | exact sub_trans rfl hM)
    | exact .inl (sub_bit rfl hM)
    | with_reducible (first | exact .inr rfl | exact .inr ⟨rfl, rfl⟩ | exact .inr ⟨rfl, rfl, rfl⟩)
    | split
    | with_reducible apply keep_mk

theorem keep_readFails {M : Nat} {s₀ : State} (hM : M ||| 622530 = M) (s : State) (r : HostRead) (h0 : Keep M s₀ s) :
    Keep M s₀ (State.readFails s r) := by
  unfold State.readFails
  try dsimp only
  repeat' first
    | with_reducible (first | assumption | apply keep_refusePtr | apply keep_loadReadFails | apply keep_busResponse
                            | exact sub_trans rfl hM)
    | split

theorem keep_execCompletionTimeout {M : Nat} {s₀ : State} (hM : M ||| 884674 = M) (r : HostRead) (s : State) (h0 : Keep M s₀ s) :
    outKeep M s₀ (execCompletionTimeout r s) := by
  unfold execCompletionTimeout
  try dsimp only
  repeat' first
    | with_reducible (first | assumption | apply keep_ite | apply out_keep_ite | apply keep_next | apply keep_report
                            | apply keep_readFails | exact sub_trans rfl hM)
    | exact .inl (sub_bit rfl hM)
    | with_reducible (first | exact .inr rfl | exact .inr ⟨rfl, rfl⟩ | exact .inr ⟨rfl, rfl, rfl⟩)
    | split
    | with_reducible apply keep_mk

theorem keep_execPoisonedCompletion {M : Nat} {s₀ : State} (hM : M ||| 622530 = M) (r : HostRead) (s : State) (h0 : Keep M s₀ s) :
    outKeep M s₀ (execPoisonedCompletion r s) := by
  unfold execPoisonedCompletion
  try dsimp only
  repeat' first
    | with_reducible (first | assumption | apply keep_next | apply keep_report | apply keep_readFails | exact sub_trans rfl hM)

theorem keep_execIdeCheckFailure {M : Nat} {s₀ : State} (hM : M ||| 1671106 = M) (str : Fin 2) (s : State) (h0 : Keep M s₀ s) :
    outKeep M s₀ (execIdeCheckFailure str s) := by
  unfold execIdeCheckFailure
  try dsimp only
  repeat' first
    | with_reducible (first | assumption | apply keep_ite | apply out_keep_ite | apply keep_next | apply keep_report
                            | apply keep_raise | exact sub_trans rfl hM)
    | exact .inl (sub_bit rfl hM)
    | with_reducible (first | exact .inr rfl | exact .inr ⟨rfl, rfl⟩ | exact .inr ⟨rfl, rfl, rfl⟩)
    | split
    | with_reducible apply keep_mk

theorem keep_resetGo {M : Nat} {s₀ : State} (hM : M ||| 2 = M) (s : State) (kind : Nat) (key : Byte) (f : State → State) (hf : ∀ (x0 : State), Keep M s₀ x0 → Keep M s₀ (f x0))
    (h0 : Keep M s₀ s) :
    Keep M s₀ (State.resetGo s kind key f) := by
  unfold State.resetGo
  try dsimp only
  repeat' first
    | with_reducible (first | assumption | apply keep_ite | apply keep_putB | apply keep_put | apply hf | exact sub_trans rfl hM)
    | split

theorem keep_execResetWarm {M : Nat} {s₀ : State} (hM : M ||| 264194 = M) (key : Byte) (s : State) (h0 : Keep M s₀ s) :
    outKeep M s₀ (execResetWarm key s) := by
  unfold execResetWarm
  try dsimp only
  repeat' first
    | intro _
    | with_reducible (first | assumption | apply keep_next | apply keep_resetGo | apply keep_putB | apply keep_startQuiesce
                            | apply keep_foldl | exact sub_trans rfl hM)
    | exact .inl (sub_bit rfl hM)
    | with_reducible (first | exact .inr rfl | exact .inr ⟨rfl, rfl⟩ | exact .inr ⟨rfl, rfl, rfl⟩)
    | split
    | with_reducible apply keep_mk

theorem keep_execWarmResetSafe {M : Nat} {s₀ : State} (hM : M ||| 293830 = M) (s : State) (h0 : Keep M s₀ s) :
    outKeep M s₀ (execWarmResetSafe s) := by
  unfold execWarmResetSafe
  try dsimp only
  repeat' first
    | intro _
    | with_reducible (first | assumption | apply keep_ite | apply out_keep_ite | apply keep_next | apply keep_quiesceReturn
                            | apply keep_allOutFault | apply keep_acceptFlight | apply keep_forgetTaken | apply keep_putB
                            | apply keep_foldl | exact sub_trans rfl hM)
    | exact .inl (sub_bit rfl hM)
    | with_reducible (first | exact .inr rfl | exact .inr ⟨rfl, rfl⟩ | exact .inr ⟨rfl, rfl, rfl⟩)
    | split
    | with_reducible apply keep_mk

theorem keep_warmReset {M : Nat} {s0 : State} (hM : M ||| 1309774 = M) (s : State) (h0 : Keep M s0 s) : Keep M s0 (State.warmReset s) := by
  unfold State.warmReset
  dsimp only
  refine keep_secSync (sub_trans rfl hM) _ (keep_putB (sub_trans rfl hM) _ _ _ (keep_putB (sub_trans rfl hM) _ _ _
    (keep_foldl _ _ ?_ fun t a ht => ?_)))
  · exact keep_of hM h0 ⟨fun hs => ⟨tblFilter_wf _ _ _ hs.1, hs.2⟩,
      fun p => by cases p <;> first | exact .inl rfl | exact .inr rfl | exact .inr ⟨rfl, rfl⟩ | exact .inr ⟨rfl, rfl, rfl⟩⟩
  · repeat' first
      | assumption
      | apply keep_put
      | apply keep_putB
      | exact sub_trans rfl hM

theorem keep_execWarmResetDomains {M : Nat} {s₀ : State} (hM : M ||| 1571918 = M) (s : State) (h0 : Keep M s₀ s) :
    outKeep M s₀ (execWarmResetDomains s) := by
  unfold execWarmResetDomains
  try dsimp only
  repeat' first
    | with_reducible (first | assumption | apply keep_ite | apply out_keep_ite | apply keep_next | apply keep_warmReset
                            | exact sub_trans rfl hM)
    | exact .inl (sub_bit rfl hM)
    | with_reducible (first | exact .inr rfl | exact .inr ⟨rfl, rfl⟩ | exact .inr ⟨rfl, rfl, rfl⟩)
    | split
    | with_reducible apply keep_mk

theorem keep_execWarmResetRom {M : Nat} {s₀ : State} (hM : M ||| 1441922 = M) (s : State) (h0 : Keep M s₀ s) :
    outKeep M s₀ (execWarmResetRom s) := by
  unfold execWarmResetRom
  try dsimp only
  repeat' first
    | with_reducible (first | assumption | apply keep_ite | apply out_keep_ite | apply keep_next | apply keep_bootRom
                            | exact sub_trans rfl hM)
    | exact .inl (sub_bit rfl hM)
    | with_reducible (first | exact .inr rfl | exact .inr ⟨rfl, rfl⟩ | exact .inr ⟨rfl, rfl, rfl⟩)
    | split
    | with_reducible apply keep_mk

theorem keep_execResetCold {M : Nat} {s₀ : State} (hM : M ||| 2097134 = M) (key : Byte) (s : State) (h0 : Keep M s₀ s) :
    outKeep M s₀ (execResetCold key s) := by
  unfold execResetCold
  try dsimp only
  repeat' first
    | intro _
    | with_reducible (first | assumption | apply keep_next | apply keep_resetGo | apply keep_putB | apply keep_flush
                            | apply keep_coldReset | apply keep_put | apply keep_powerUp | exact sub_trans rfl hM)

theorem keep_execDoeDiscovery {M : Nat} {s₀ : State} (hM : M ||| 8 = M) (index : Nat) (s : State) (h0 : Keep M s₀ s) :
    outKeep M s₀ (execDoeDiscovery index s) := by
  unfold execDoeDiscovery
  try dsimp only
  repeat' first
    | with_reducible (first | assumption | apply keep_next | exact sub_trans rfl hM)
    | exact .inl (sub_bit rfl hM)
    | with_reducible (first | exact .inr rfl | exact .inr ⟨rfl, rfl⟩ | exact .inr ⟨rfl, rfl, rfl⟩)
    | split
    | with_reducible apply keep_mk

theorem keep_execTableAccess {M : Nat} {s₀ : State} (hM : M ||| 8 = M) (s : State) (h0 : Keep M s₀ s) :
    outKeep M s₀ (execTableAccess s) := by
  unfold execTableAccess
  try dsimp only
  repeat' first
    | with_reducible (first | assumption | apply keep_next | exact sub_trans rfl hM)
    | exact .inl (sub_bit rfl hM)
    | with_reducible (first | exact .inr rfl | exact .inr ⟨rfl, rfl⟩ | exact .inr ⟨rfl, rfl, rfl⟩)
    | split
    | with_reducible apply keep_mk

theorem keep_execDoeAbort {M : Nat} {s₀ : State} (hM : M ||| 262152 = M) (s : State) (h0 : Keep M s₀ s) :
    outKeep M s₀ (execDoeAbort s) := by
  unfold execDoeAbort
  try dsimp only
  repeat' first
    | with_reducible (first | assumption | apply keep_next | apply keep_dropDoe | exact sub_trans rfl hM)

theorem keep_doeGo {M : Nat} {s₀ : State} (hM : M ||| 262152 = M) (s : State) (h0 : Keep M s₀ s) : Keep M s₀ (State.doeGo s) := by
  unfold State.doeGo
  try dsimp only
  repeat' first
    | with_reducible (first | assumption | apply keep_ite | apply keep_answer | exact sub_trans rfl hM)
    | exact .inl (sub_bit rfl hM)
    | with_reducible (first | exact .inr rfl | exact .inr ⟨rfl, rfl⟩ | exact .inr ⟨rfl, rfl, rfl⟩)
    | split
    | simp only [id_eq]
    | with_reducible apply keep_mk

theorem keep_execMctpControl {M : Nat} {s₀ : State} (hM : M ||| 8 = M) (cmd : Nat) (s : State) (h0 : Keep M s₀ s) :
    outKeep M s₀ (execMctpControl cmd s) := by
  unfold execMctpControl
  try dsimp only
  repeat' first
    | with_reducible (first | assumption | apply keep_next | exact sub_trans rfl hM)
    | exact .inl (sub_bit rfl hM)
    | with_reducible (first | exact .inr rfl | exact .inr ⟨rfl, rfl⟩ | exact .inr ⟨rfl, rfl, rfl⟩)
    | split
    | with_reducible apply keep_mk

theorem keep_scanIr {M : Nat} {s₀ : State} (hM : M ||| 262152 = M) (s : State) (ir : Nat) (bs : List Byte) (h0 : Keep M s₀ s) :
    Keep M s₀ (State.scanIr s ir bs) := by
  unfold State.scanIr
  try dsimp only
  repeat' first
    | with_reducible (first | assumption | exact sub_trans rfl hM)
    | exact .inl (sub_bit rfl hM)
    | with_reducible (first | exact .inr rfl | exact .inr ⟨rfl, rfl⟩ | exact .inr ⟨rfl, rfl, rfl⟩)
    | split
    | with_reducible apply keep_mk

theorem keep_execBypass {M : Nat} {s₀ : State} (hM : M ||| 262152 = M) (s : State) (h0 : Keep M s₀ s) :
    outKeep M s₀ (execBypass s) := by
  unfold execBypass
  try dsimp only
  repeat' first
    | with_reducible (first | assumption | apply keep_next | apply keep_scanIr | exact sub_trans rfl hM)

theorem keep_execIdcode {M : Nat} {s₀ : State} (hM : M ||| 262168 = M) (s : State) (h0 : Keep M s₀ s) :
    outKeep M s₀ (execIdcode s) := by
  unfold execIdcode
  try dsimp only
  repeat' first
    | with_reducible (first | assumption | apply keep_next | apply keep_draw | apply keep_scanIr | exact sub_trans rfl hM)

theorem keep_execSamplePreload {M : Nat} {s₀ : State} (hM : M ||| 262168 = M) (s : State) (h0 : Keep M s₀ s) :
    outKeep M s₀ (execSamplePreload s) := by
  unfold execSamplePreload
  try dsimp only
  repeat' first
    | with_reducible (first | assumption | apply keep_next | apply keep_draw | apply keep_scanIr | exact sub_trans rfl hM)
    | exact .inl (sub_bit rfl hM)
    | with_reducible (first | exact .inr rfl | exact .inr ⟨rfl, rfl⟩ | exact .inr ⟨rfl, rfl, rfl⟩)
    | split
    | with_reducible apply keep_mk

theorem keep_execExtest {M : Nat} {s₀ : State} (hM : M ||| 262152 = M) (s : State) (h0 : Keep M s₀ s) :
    outKeep M s₀ (execExtest s) := by
  unfold execExtest
  try dsimp only
  repeat' first
    | with_reducible (first | assumption | apply keep_ite | apply out_keep_ite | apply keep_next | apply keep_scanIr
                            | exact sub_trans rfl hM)
    | split

theorem keep_execClamp {M : Nat} {s₀ : State} (hM : M ||| 262152 = M) (s : State) (h0 : Keep M s₀ s) :
    outKeep M s₀ (execClamp s) := by
  unfold execClamp
  try dsimp only
  repeat' first
    | with_reducible (first | assumption | apply keep_next | apply keep_scanIr | exact sub_trans rfl hM)

theorem keep_execHighz {M : Nat} {s₀ : State} (hM : M ||| 262152 = M) (s : State) (h0 : Keep M s₀ s) :
    outKeep M s₀ (execHighz s) := by
  unfold execHighz
  try dsimp only
  repeat' first
    | with_reducible (first | assumption | apply keep_next | apply keep_scanIr | exact sub_trans rfl hM)

/-! ### Security -/

theorem keep_reply {M : Nat} {s₀ : State} (hM : M ||| 8 = M) (s : State) (op status tag : Nat) (bs : List Byte)
    (h0 : Keep M s₀ s) :
    Keep M s₀ (State.reply s op status tag bs) := by
  unfold State.reply
  try dsimp only
  repeat' first
    | with_reducible (first | assumption | exact sub_trans rfl hM)
    | exact .inl (sub_bit rfl hM)
    | with_reducible (first | exact .inr rfl | exact .inr ⟨rfl, rfl⟩ | exact .inr ⟨rfl, rfl, rfl⟩)
    | split
    | with_reducible apply keep_mk

theorem keep_object {M : Nat} {s₀ : State} (hM : M ||| 8 = M) (s : State) (op : Nat) (r : ObjReq) (f : State → State) (hf : ∀ (x0 : State), Keep M s₀ x0 → Keep M s₀ (f x0))
    (h0 : Keep M s₀ s) :
    Keep M s₀ (State.object s op r f) := by
  unfold State.object
  try dsimp only
  repeat' first
    | with_reducible (first | assumption | apply keep_ite | apply keep_reply | apply hf | exact sub_trans rfl hM)
    | split

theorem keep_regFrame {M : Nat} {s₀ : State} (hM : M ||| 266370 = M) (s : State) (op off v : Nat) (h0 : Keep M s₀ s) :
    Keep M s₀ (State.regFrame s op off v) := by
  unfold State.regFrame
  try dsimp only
  repeat' first
    | with_reducible (first | assumption | apply keep_latSend | exact sub_trans rfl hM)
    | exact .inl (sub_bit rfl hM)
    | with_reducible (first | exact .inr rfl | exact .inr ⟨rfl, rfl⟩ | exact .inr ⟨rfl, rfl, rfl⟩)
    | split
    | with_reducible apply keep_mk

theorem keep_signIndex {M : Nat} {s₀ : State} (hM : M ||| 1671106 = M) (s : State) (ledgerOk : Bool) (h0 : Keep M s₀ s) :
    Keep M s₀ (State.signIndex s ledgerOk).1 := by
  unfold State.signIndex
  try dsimp only
  repeat' first
    | with_reducible (first | assumption | apply keep_ite | apply keep_raise | apply keep_ledgerWrite | apply keep_secSync
                            | exact sub_trans rfl hM)
    | exact .inl (sub_bit rfl hM)
    | with_reducible (first | exact .inr rfl | exact .inr ⟨rfl, rfl⟩ | exact .inr ⟨rfl, rfl, rfl⟩)
    | split
    | with_reducible apply keep_mk

theorem keep_setSession {M : Nat} {s₀ : State} (hM : M ||| 1048576 = M) (s : State) (p : SecPort) (x : Option Session)
    (h0 : Keep M s₀ s) :
    Keep M s₀ (State.setSession s p x) := by
  unfold State.setSession
  try dsimp only
  repeat' first
    | with_reducible (first | assumption | exact sub_trans rfl hM)
    | exact .inl (sub_bit rfl hM)
    | with_reducible (first | exact .inr rfl | exact .inr ⟨rfl, rfl⟩ | exact .inr ⟨rfl, rfl, rfl⟩)
    | split
    | with_reducible apply keep_mk

theorem keep_prepared {M : Nat} {s₀ : State} (hM : M ||| 1048584 = M) (s : State) (p : SecPort) (op tag : Nat) (bs : List Byte)
    (h0 : Keep M s₀ s) :
    Keep M s₀ (State.prepared s p op tag bs) := by
  unfold State.prepared
  try dsimp only
  repeat' first
    | with_reducible (first | assumption | apply keep_reply | exact sub_trans rfl hM)
    | exact .inl (sub_bit rfl hM)
    | with_reducible (first | exact .inr rfl | exact .inr ⟨rfl, rfl⟩ | exact .inr ⟨rfl, rfl, rfl⟩)
    | split
    | with_reducible apply keep_mk

theorem keep_runMailbox {M : Nat} {s₀ : State} (hM : M ||| 266370 = M) (s : State) (pos nonce len : Nat) (h0 : Keep M s₀ s) :
    Keep M s₀ (State.runMailbox s pos nonce len) := by
  unfold State.runMailbox
  try dsimp only
  repeat' first
    | intro _
    | with_reducible (first | assumption | apply keep_regFrame | apply keep_foldl | exact sub_trans rfl hM)

theorem keep_execQuote {M : Nat} {s₀ : State} (hM : M ||| 1933258 = M) (p : SecPort) (req : ObjReq) (nonce : Nat) (pos : Byte) (sid : Nat) (ledgerOk : Bool) (far : Option (List Byte)) (s : State)
    (h0 : Keep M s₀ s) :
    outKeep M s₀ (execQuote p req nonce pos sid ledgerOk far s) := by
  unfold execQuote
  try dsimp only
  repeat' first
    | intro _
    | with_reducible (first | assumption | apply keep_ite | apply out_keep_ite | apply keep_next | apply keep_object
                            | apply keep_reply | apply keep_signIndex | apply keep_prepared | apply keep_runMailbox
                            | exact sub_trans rfl hM)
    | split

theorem keep_execCerts {M : Nat} {s₀ : State} (hM : M ||| 1048584 = M) (p : SecPort) (req : ObjReq) (pos : Byte) (far : Option (List Byte)) (s : State)
    (h0 : Keep M s₀ s) :
    outKeep M s₀ (execCerts p req pos far s) := by
  unfold execCerts
  try dsimp only
  repeat' first
    | intro _
    | with_reducible (first | assumption | apply keep_ite | apply out_keep_ite | apply keep_next | apply keep_object
                            | apply keep_reply | apply keep_prepared | exact sub_trans rfl hM)
    | split

theorem keep_execMctpRead {M : Nat} {s₀ : State} (hM : M ||| 8 = M) (r : ReadReq) (s : State) (h0 : Keep M s₀ s) :
    outKeep M s₀ (execMctpRead r s) := by
  unfold execMctpRead
  try dsimp only
  repeat' first
    | intro _
    | with_reducible (first | assumption | apply keep_next | apply keep_object | apply keep_reply | exact sub_trans rfl hM)

theorem keep_byMailbox {M : Nat} {s₀ : State} (hM : M ||| 622530 = M) (s : State) (w : Writer) (f : State → State) (hf : ∀ (x0 : State), Keep M s₀ x0 → Keep M s₀ (f x0))
    (h0 : Keep M s₀ s) :
    Keep M s₀ (State.byMailbox s w f) := by
  unfold State.byMailbox
  try dsimp only
  repeat' first
    | intro _
    | with_reducible (first | assumption | apply keep_ite | apply keep_byOwner | apply hf | exact sub_trans rfl hM)
    | split

theorem keep_execSecQuoteGo {M : Nat} {s₀ : State} (hM : M ||| 1671106 = M) (w : Writer) (s : State) (h0 : Keep M s₀ s) :
    outKeep M s₀ (execSecQuoteGo w s) := by
  unfold execSecQuoteGo
  try dsimp only
  repeat' first
    | intro _
    | with_reducible (first | assumption | apply keep_ite | apply out_keep_ite | apply keep_next | apply keep_byMailbox
                            | apply keep_putB | exact sub_trans rfl hM)
    | exact .inl (sub_bit rfl hM)
    | with_reducible (first | exact .inr rfl | exact .inr ⟨rfl, rfl⟩ | exact .inr ⟨rfl, rfl, rfl⟩)
    | split
    | with_reducible apply keep_mk

theorem keep_execQuoteBuilt {M : Nat} {s₀ : State} (hM : M ||| 1671106 = M) (ledgerOk : Bool) (s : State) (h0 : Keep M s₀ s) :
    outKeep M s₀ (execQuoteBuilt ledgerOk s) := by
  unfold execQuoteBuilt
  try dsimp only
  repeat' first
    | with_reducible (first | assumption | apply keep_ite | apply out_keep_ite | apply keep_next | apply keep_signIndex
                            | apply keep_putB | apply keep_put | apply keep_done | exact sub_trans rfl hM)
    | exact .inl (sub_bit rfl hM)
    | with_reducible (first | exact .inr rfl | exact .inr ⟨rfl, rfl⟩ | exact .inr ⟨rfl, rfl, rfl⟩)
    | split
    | with_reducible apply keep_mk

theorem keep_execSessionSetup {M : Nat} {s₀ : State} (hM : M ||| 1671130 = M) (p : SecPort) (req : ObjReq) (opOk : Bool) (nonceH : BitVec 256) (ct : List Byte) (ledgerOk : Bool) (s : State)
    (h0 : Keep M s₀ s) :
    outKeep M s₀ (execSessionSetup p req opOk nonceH ct ledgerOk s) := by
  unfold execSessionSetup
  try dsimp only
  repeat' first
    | intro _
    | with_reducible (first | assumption | apply keep_ite | apply out_keep_ite | apply keep_next | apply keep_object
                            | apply keep_signIndex | apply keep_reply | apply keep_draw | apply keep_setSession
                            | exact sub_trans rfl hM)
    | exact .inl (sub_bit rfl hM)
    | with_reducible (first | exact .inr rfl | exact .inr ⟨rfl, rfl⟩ | exact .inr ⟨rfl, rfl, rfl⟩)
    | split
    | with_reducible apply keep_mk

theorem keep_execSessionClose {M : Nat} {s₀ : State} (hM : M ||| 1048584 = M) (p : SecPort) (req : ObjReq) (sid : Nat) (s : State)
    (h0 : Keep M s₀ s) :
    outKeep M s₀ (execSessionClose p req sid s) := by
  unfold execSessionClose
  try dsimp only
  repeat' first
    | intro _
    | with_reducible (first | assumption | apply keep_ite | apply out_keep_ite | apply keep_next | apply keep_object
                            | apply keep_setSession | apply keep_reply | exact sub_trans rfl hM)
    | split

theorem keep_setIde {M : Nat} {s₀ : State} (hM : M ||| 1048576 = M) (s : State) (k : Nat) (x : IdeSt) (h0 : Keep M s₀ s) :
    Keep M s₀ (State.setIde s k x) := by
  unfold State.setIde
  try dsimp only
  repeat' first
    | with_reducible (first | assumption | exact sub_trans rfl hM)
    | exact .inl (sub_bit rfl hM)
    | with_reducible (first | exact .inr rfl | exact .inr ⟨rfl, rfl⟩ | exact .inr ⟨rfl, rfl, rfl⟩)
    | split
    | with_reducible apply keep_mk

theorem keep_ideObject {M : Nat} {s₀ : State} (hM : M ||| 24 = M) (s : State) (req : ObjReq) (sid : Nat) (str kset : Byte) (macOk : Bool) (f : Nat → Session → State → State) (hf : ∀ (x0 : Nat) (x1 : Session) (x2 : State), Keep M s₀ x2 → Keep M s₀ (f x0 x1 x2))
    (h0 : Keep M s₀ s) :
    Keep M s₀ (State.ideObject s req sid str kset macOk f) := by
  unfold State.ideObject
  try dsimp only
  repeat' first
    | intro _
    | with_reducible (first | assumption | apply keep_ite | apply keep_draw | apply keep_object | apply keep_reply | apply hf
                            | exact sub_trans rfl hM)
    | split

theorem keep_execProg {M : Nat} {s₀ : State} (hM : M ||| 1048600 = M) (req : ObjReq) (sid : Nat) (str kset : Byte) (gen : Nat) (macOk : Bool) (s : State)
    (h0 : Keep M s₀ s) :
    outKeep M s₀ (execProg req sid str kset gen macOk s) := by
  unfold execProg
  try dsimp only
  repeat' first
    | intro _
    | with_reducible (first | assumption | apply keep_ite | apply out_keep_ite | apply keep_next | apply keep_ideObject
                            | apply keep_reply | apply keep_setIde | exact sub_trans rfl hM)
    | split

theorem keep_execIdeGo {M : Nat} {s₀ : State} (hM : M ||| 1048600 = M) (req : ObjReq) (sid : Nat) (str kset : Byte) (macOk : Bool) (s : State)
    (h0 : Keep M s₀ s) :
    outKeep M s₀ (execIdeGo req sid str kset macOk s) := by
  unfold execIdeGo
  try dsimp only
  repeat' first
    | intro _
    | with_reducible (first | assumption | apply keep_next | apply keep_ideObject | apply keep_reply | apply keep_setIde
                            | exact sub_trans rfl hM)
    | split

theorem keep_ideSwitch {M : Nat} {s₀ : State} (hM : M ||| 1671122 = M) (s : State) (str : Nat) (h0 : Keep M s₀ s) :
    Keep M s₀ (State.ideSwitch s str) := by
  unfold State.ideSwitch
  try dsimp only
  repeat' first
    | with_reducible (first | assumption | apply keep_ite | apply keep_setIde | apply keep_hostBack | exact sub_trans rfl hM)
    | split

theorem keep_execIdeStop {M : Nat} {s₀ : State} (hM : M ||| 1048600 = M) (req : ObjReq) (sid : Nat) (str : Byte) (macOk : Bool) (s : State)
    (h0 : Keep M s₀ s) :
    outKeep M s₀ (execIdeStop req sid str macOk s) := by
  unfold execIdeStop
  try dsimp only
  repeat' first
    | intro _
    | with_reducible (first | assumption | apply keep_next | apply keep_ideObject | apply keep_setIde | apply keep_reply
                            | exact sub_trans rfl hM)

theorem keep_execOwnerChallenge {M : Nat} {s₀ : State} (hM : M ||| 1048600 = M) (req : ObjReq) (s : State) (h0 : Keep M s₀ s) :
    outKeep M s₀ (execOwnerChallenge req s) := by
  unfold execOwnerChallenge
  try dsimp only
  repeat' first
    | intro _
    | with_reducible (first | assumption | apply keep_next | apply keep_object | apply keep_draw | apply keep_reply
                            | exact sub_trans rfl hM)
    | exact .inl (sub_bit rfl hM)
    | with_reducible (first | exact .inr rfl | exact .inr ⟨rfl, rfl⟩ | exact .inr ⟨rfl, rfl, rfl⟩)
    | split
    | with_reducible apply keep_mk

theorem keep_execDebugChallenge {M : Nat} {s₀ : State} (hM : M ||| 1048600 = M) (req : ObjReq) (s : State) (h0 : Keep M s₀ s) :
    outKeep M s₀ (execDebugChallenge req s) := by
  unfold execDebugChallenge
  try dsimp only
  repeat' first
    | intro _
    | with_reducible (first | assumption | apply keep_next | apply keep_object | apply keep_draw | apply keep_reply
                            | exact sub_trans rfl hM)
    | exact .inl (sub_bit rfl hM)
    | with_reducible (first | exact .inr rfl | exact .inr ⟨rfl, rfl⟩ | exact .inr ⟨rfl, rfl, rfl⟩)
    | split
    | with_reducible apply keep_mk

theorem keep_execChallengeExpiry {M : Nat} {s₀ : State} (hM : M ||| 1048576 = M) (debug : Bool) (s : State) (h0 : Keep M s₀ s) :
    outKeep M s₀ (execChallengeExpiry debug s) := by
  unfold execChallengeExpiry
  try dsimp only
  repeat' first
    | with_reducible (first | assumption | apply keep_ite | apply out_keep_ite | apply keep_next | exact sub_trans rfl hM)
    | exact .inl (sub_bit rfl hM)
    | with_reducible (first | exact .inr rfl | exact .inr ⟨rfl, rfl⟩ | exact .inr ⟨rfl, rfl, rfl⟩)
    | split
    | with_reducible apply keep_mk

theorem keep_ownerOp {M : Nat} {s₀ : State} (hM : M ||| 1048600 = M) (s : State) (op : Nat) (hd : ObjReq) (req : SignedBody) (keyed : Bool) (f : State → State) (hf : ∀ (x0 : State), Keep M s₀ x0 → Keep M s₀ (f x0))
    (h0 : Keep M s₀ s) :
    Keep M s₀ (State.ownerOp s op hd req keyed f) := by
  unfold State.ownerOp
  try dsimp only
  repeat' first
    | intro _
    | with_reducible (first | assumption | apply keep_ite | apply keep_object | apply keep_reply | apply keep_draw | apply hf
                            | exact sub_trans rfl hM)
    | exact .inl (sub_bit rfl hM)
    | with_reducible (first | exact .inr rfl | exact .inr ⟨rfl, rfl⟩ | exact .inr ⟨rfl, rfl, rfl⟩)
    | split
    | with_reducible apply keep_mk

theorem keep_authOp {M : Nat} {s₀ : State} (hM : M ||| 1048600 = M) (s : State) (op : Nat) (hd : ObjReq) (req : SignedBody) (keyed : Bool) (f : State → State) (hf : ∀ (x0 : State), Keep M s₀ x0 → Keep M s₀ (f x0))
    (h0 : Keep M s₀ s) :
    Keep M s₀ (State.authOp s op hd req keyed f) := by
  unfold State.authOp
  try dsimp only
  repeat' first
    | intro _
    | with_reducible (first | assumption | apply keep_ite | apply keep_ownerOp | apply keep_reply | apply hf
                            | exact sub_trans rfl hM)
    | split

theorem keep_setSlot {M : Nat} {s₀ : State} (hM : M ||| 1048576 = M) (s : State) (k : Nat) (x : OwnerSlot) (h0 : Keep M s₀ s) :
    Keep M s₀ (State.setSlot s k x) := by
  unfold State.setSlot
  try dsimp only
  repeat' first
    | with_reducible (first | assumption | exact sub_trans rfl hM)
    | exact .inl (sub_bit rfl hM)
    | with_reducible (first | exact .inr rfl | exact .inr ⟨rfl, rfl⟩ | exact .inr ⟨rfl, rfl, rfl⟩)
    | split
    | with_reducible apply keep_mk

theorem keep_ownerCommit {M : Nat} {s₀ : State} (hM : M ||| 266 = M) (s : State) (op tag : Nat) (ledgerOk counts : Bool) (f : State → State) (hf : ∀ (x0 : State), Keep M s₀ x0 → Keep M s₀ (f x0))
    (h0 : Keep M s₀ s) :
    Keep M s₀ (State.ownerCommit s op tag ledgerOk counts f) := by
  unfold State.ownerCommit
  try dsimp only
  repeat' first
    | with_reducible (first | assumption | apply keep_ite | apply keep_reply | apply keep_ledgerWrite | apply keep_countNow
                            | apply keep_secSync | apply hf | exact sub_trans rfl hM)
    | split

theorem keep_strapOwnEn {M : Nat} {s₀ : State} (hM : M ||| 1048578 = M) (s : State) (v : Bool) (h0 : Keep M s₀ s) :
    Keep M s₀ (State.strapOwnEn s v) := by
  unfold State.strapOwnEn
  try dsimp only
  repeat' first
    | with_reducible (first | assumption | apply keep_putB | exact sub_trans rfl hM)
    | exact .inl (sub_bit rfl hM)
    | with_reducible (first | exact .inr rfl | exact .inr ⟨rfl, rfl⟩ | exact .inr ⟨rfl, rfl, rfl⟩)
    | split
    | with_reducible apply keep_mk

theorem keep_execEnrollFirst {M : Nat} {s₀ : State} (hM : M ||| 1048858 = M) (hd : ObjReq) (req : SignedBody) (ownEn ledgerOk : Bool) (s : State)
    (h0 : Keep M s₀ s) :
    outKeep M s₀ (execEnrollFirst hd req ownEn ledgerOk s) := by
  unfold execEnrollFirst
  try dsimp only
  repeat' first
    | intro _
    | with_reducible (first | assumption | apply keep_ite | apply out_keep_ite | apply keep_next | apply keep_strapOwnEn
                            | apply keep_ownerOp | apply keep_reply | apply keep_ownerCommit | apply keep_setSlot
                            | exact sub_trans rfl hM)
    | split

theorem keep_execOwnerAdd {M : Nat} {s₀ : State} (hM : M ||| 1048858 = M) (hd : ObjReq) (req : SignedBody) (ledgerOk : Bool) (s : State)
    (h0 : Keep M s₀ s) :
    outKeep M s₀ (execOwnerAdd hd req ledgerOk s) := by
  unfold execOwnerAdd
  try dsimp only
  repeat' first
    | intro _
    | with_reducible (first | assumption | apply keep_ite | apply out_keep_ite | apply keep_next | apply keep_authOp
                            | apply keep_reply | apply keep_ownerCommit | apply keep_setSlot | exact sub_trans rfl hM)
    | split

theorem keep_execRevoke {M : Nat} {s₀ : State} (hM : M ||| 1048858 = M) (hd : ObjReq) (req : SignedBody) (ledgerOk : Bool) (s : State)
    (h0 : Keep M s₀ s) :
    outKeep M s₀ (execRevoke hd req ledgerOk s) := by
  unfold execRevoke
  try dsimp only
  repeat' first
    | intro _
    | with_reducible (first | assumption | apply keep_ite | apply out_keep_ite | apply keep_next | apply keep_authOp
                            | apply keep_reply | apply keep_ownerCommit | apply keep_setSlot | exact sub_trans rfl hM)
    | split

theorem keep_execTransfer {M : Nat} {s₀ : State} (hM : M ||| 1048858 = M) (hd : ObjReq) (req : SignedBody) (ledgerOk : Bool) (s : State)
    (h0 : Keep M s₀ s) :
    outKeep M s₀ (execTransfer hd req ledgerOk s) := by
  unfold execTransfer
  try dsimp only
  repeat' first
    | intro _
    | with_reducible (first | assumption | apply keep_next | apply keep_authOp | apply keep_ownerCommit | apply keep_setSlot
                            | exact sub_trans rfl hM)
    | exact .inl (sub_bit rfl hM)
    | with_reducible (first | exact .inr rfl | exact .inr ⟨rfl, rfl⟩ | exact .inr ⟨rfl, rfl, rfl⟩)
    | split
    | with_reducible apply keep_mk

theorem keep_execOwnerRead {M : Nat} {s₀ : State} (hM : M ||| 8 = M) (req : ObjReq) (s : State) (h0 : Keep M s₀ s) :
    outKeep M s₀ (execOwnerRead req s) := by
  unfold execOwnerRead
  try dsimp only
  repeat' first
    | intro _
    | with_reducible (first | assumption | apply keep_next | apply keep_object | apply keep_reply | exact sub_trans rfl hM)

theorem keep_debugSync {M : Nat} {s₀ : State} (hM : M ||| 2 = M) (s : State) (h0 : Keep M s₀ s) :
    Keep M s₀ (State.debugSync s) := by
  unfold State.debugSync
  try dsimp only
  repeat' first
    | intro _
    | with_reducible (first | assumption | apply keep_put | apply keep_foldl | exact sub_trans rfl hM)

theorem keep_execUnlock {M : Nat} {s₀ : State} (hM : M ||| 1671130 = M) (hd : ObjReq) (token sig : List Byte) (sigOk : Bool) (s : State)
    (h0 : Keep M s₀ s) :
    outKeep M s₀ (execUnlock hd token sig sigOk s) := by
  unfold execUnlock
  try dsimp only
  repeat' first
    | intro _
    | with_reducible (first | assumption | apply keep_ite | apply out_keep_ite | apply keep_next | apply keep_object
                            | apply keep_reply | apply keep_draw | apply keep_debugSync | apply keep_countNow
                            | apply keep_logAdd | apply keep_raise | exact sub_trans rfl hM)
    | exact .inl (sub_bit rfl hM)
    | with_reducible (first | exact .inr rfl | exact .inr ⟨rfl, rfl⟩ | exact .inr ⟨rfl, rfl, rfl⟩)
    | split
    | with_reducible apply keep_mk

theorem keep_execDebugLock {M : Nat} {s₀ : State} (hM : M ||| 1048586 = M) (req : ObjReq) (s : State) (h0 : Keep M s₀ s) :
    outKeep M s₀ (execDebugLock req s) := by
  unfold execDebugLock
  try dsimp only
  repeat' first
    | intro _
    | with_reducible (first | assumption | apply keep_next | apply keep_object | apply keep_debugSync | apply keep_reply
                            | exact sub_trans rfl hM)
    | exact .inl (sub_bit rfl hM)
    | with_reducible (first | exact .inr rfl | exact .inr ⟨rfl, rfl⟩ | exact .inr ⟨rfl, rfl, rfl⟩)
    | split
    | with_reducible apply keep_mk

theorem keep_execUnlockExpiry {M : Nat} {s₀ : State} (hM : M ||| 1048578 = M) (s : State) (h0 : Keep M s₀ s) :
    outKeep M s₀ (execUnlockExpiry s) := by
  unfold execUnlockExpiry
  try dsimp only
  repeat' first
    | with_reducible (first | assumption | apply keep_next | apply keep_debugSync | exact sub_trans rfl hM)
    | exact .inl (sub_bit rfl hM)
    | with_reducible (first | exact .inr rfl | exact .inr ⟨rfl, rfl⟩ | exact .inr ⟨rfl, rfl, rfl⟩)
    | split
    | with_reducible apply keep_mk

theorem keep_byFwup {M : Nat} {s₀ : State} (hM : M ||| 622530 = M) (s : State) (w : Writer) (f : State → State) (hf : ∀ (x0 : State), Keep M s₀ x0 → Keep M s₀ (f x0))
    (h0 : Keep M s₀ s) :
    Keep M s₀ (State.byFwup s w f) := by
  unfold State.byFwup
  try dsimp only
  repeat' first
    | intro _
    | with_reducible (first | assumption | apply keep_ite | apply keep_byOwner | apply hf | exact sub_trans rfl hM)
    | split

theorem keep_fwGo {M : Nat} {s₀ : State} (hM : M ||| 130 = M) (s : State) (op : Nat) (f : State → State) (hf : ∀ (x0 : State), Keep M s₀ x0 → Keep M s₀ (f x0))
    (h0 : Keep M s₀ s) :
    Keep M s₀ (State.fwGo s op f) := by
  unfold State.fwGo
  try dsimp only
  repeat' first
    | with_reducible (first | assumption | apply keep_ite | apply keep_put | apply keep_done | apply hf | exact sub_trans rfl hM)
    | split

theorem keep_fwRun {M : Nat} {s₀ : State} (hM : M ||| 1048578 = M) (s : State) (op status : Nat) (img : FwImage)
    (h0 : Keep M s₀ s) :
    Keep M s₀ (State.fwRun s op status img) := by
  unfold State.fwRun
  try dsimp only
  repeat' first
    | with_reducible (first | assumption | apply keep_putB | exact sub_trans rfl hM)
    | exact .inl (sub_bit rfl hM)
    | with_reducible (first | exact .inr rfl | exact .inr ⟨rfl, rfl⟩ | exact .inr ⟨rfl, rfl, rfl⟩)
    | split
    | with_reducible apply keep_mk

theorem keep_execStage {M : Nat} {s₀ : State} (hM : M ||| 1671106 = M) (w : Writer) (svn : Nat) (readOk sigOk : Bool) (s : State)
    (h0 : Keep M s₀ s) :
    outKeep M s₀ (execStage w svn readOk sigOk s) := by
  unfold execStage
  try dsimp only
  repeat' first
    | intro _
    | with_reducible (first | assumption | apply keep_ite | apply out_keep_ite | apply keep_next | apply keep_byFwup
                            | apply keep_fwGo | apply keep_fwRun | exact sub_trans rfl hM)
    | split

theorem keep_execFwCommit {M : Nat} {s₀ : State} (hM : M ||| 1671106 = M) (w : Writer) (s : State) (h0 : Keep M s₀ s) :
    outKeep M s₀ (execFwCommit w s) := by
  unfold execFwCommit
  try dsimp only
  repeat' first
    | intro _
    | with_reducible (first | assumption | apply keep_ite | apply out_keep_ite | apply keep_next | apply keep_byOwner
                            | apply keep_fwGo | apply keep_put | apply keep_done | apply keep_secSync | apply keep_fwRun
                            | exact sub_trans rfl hM)
    | exact .inl (sub_bit rfl hM)
    | with_reducible (first | exact .inr rfl | exact .inr ⟨rfl, rfl⟩ | exact .inr ⟨rfl, rfl, rfl⟩)
    | split
    | with_reducible apply keep_mk

theorem keep_execFwupDone {M : Nat} {s₀ : State} (hM : M ||| 1048962 = M) (s : State) (h0 : Keep M s₀ s) :
    outKeep M s₀ (execFwupDone s) := by
  unfold execFwupDone
  try dsimp only
  repeat' first
    | with_reducible (first | assumption | apply keep_ite | apply out_keep_ite | apply keep_next | apply keep_ledgerWrite
                            | apply keep_countNow | apply keep_putB | apply keep_put | apply keep_secSync | apply keep_done
                            | exact sub_trans rfl hM)
    | exact .inl (sub_bit rfl hM)
    | with_reducible (first | exact .inr rfl | exact .inr ⟨rfl, rfl⟩ | exact .inr ⟨rfl, rfl, rfl⟩)
    | split
    | with_reducible apply keep_mk

/-! ### Tick -/

theorem keep_tickTime {M : Nat} {s₀ : State} (hM : M ||| 162 = M) (s : State) (h0 : Keep M s₀ s) :
    Keep M s₀ (State.tickTime s) := by
  unfold State.tickTime
  try dsimp only
  repeat' first
    | with_reducible (first | assumption | apply keep_ite | apply keep_events | exact sub_trans rfl hM)
    | exact .inl (sub_bit rfl hM)
    | with_reducible (first | exact .inr rfl | exact .inr ⟨rfl, rfl⟩ | exact .inr ⟨rfl, rfl, rfl⟩)
    | split
    | with_reducible apply keep_mk

theorem keep_tickEngines {M : Nat} {s₀ : State} (hM : M ||| 130 = M) (s : State) (h0 : Keep M s₀ s) :
    Keep M s₀ (State.tickEngines s) := by
  unfold State.tickEngines
  try dsimp only
  repeat' first
    | intro _
    | with_reducible (first | assumption | apply keep_ite | apply keep_event | apply keep_foldl | exact sub_trans rfl hM)
    | split

theorem keep_tickCal {M : Nat} {s₀ : State} (hM : M ||| 34 = M) (s : State) (h0 : Keep M s₀ s) : Keep M s₀ (State.tickCal s) := by
  unfold State.tickCal
  try dsimp only
  repeat' first
    | with_reducible (first | assumption | apply keep_ite | apply keep_put | exact sub_trans rfl hM)
    | exact .inl (sub_bit rfl hM)
    | with_reducible (first | exact .inr rfl | exact .inr ⟨rfl, rfl⟩ | exact .inr ⟨rfl, rfl, rfl⟩)
    | split
    | with_reducible apply keep_mk

theorem keep_tickIllegal {M : Nat} {s₀ : State} (hM : M ||| 622530 = M) (s : State) (h0 : Keep M s₀ s) :
    Keep M s₀ (State.tickIllegal s) := by
  unfold State.tickIllegal
  try dsimp only
  repeat' first
    | intro _
    | with_reducible (first | assumption | apply keep_issueIllegal | apply keep_foldl | exact sub_trans rfl hM)

theorem keep_tickTrain {M : Nat} {s₀ : State} (hM : M ||| 18 = M) (s : State) (h0 : Keep M s₀ s) :
    Keep M s₀ (State.tickTrain s) := by
  unfold State.tickTrain
  try dsimp only
  repeat' first
    | intro _
    | with_reducible (first | assumption | apply keep_ite | apply keep_draw | apply keep_put | apply keep_putB
                            | apply keep_foldl | exact sub_trans rfl hM)
    | split

theorem keep_tickPorts {M : Nat} {s₀ : State} (hM : M ||| 6274 = M) (s : State) (h0 : Keep M s₀ s) :
    Keep M s₀ (State.tickPorts s) := by
  unfold State.tickPorts
  try dsimp only
  repeat' first
    | intro _
    | with_reducible (first | assumption | apply keep_drainInbox | apply keep_foldl | exact sub_trans rfl hM)

theorem keep_tickFabric {M : Nat} {s₀ : State} (hM : M ||| 65552 = M) (s : State) (was : Nat) (h0 : Keep M s₀ s) :
    Keep M s₀ (State.tickFabric s was) := by
  unfold State.tickFabric
  try dsimp only
  repeat' first
    | intro _
    | with_reducible (first | assumption | apply keep_ite | apply keep_setCnt | apply keep_clockCells | apply keep_foldl
                            | exact sub_trans rfl hM)
    | split

theorem keep_tickIde {M : Nat} {s₀ : State} (hM : M ||| 1671122 = M) (s : State) (h0 : Keep M s₀ s) :
    Keep M s₀ (State.tickIde s) := by
  unfold State.tickIde
  try dsimp only
  repeat' first
    | intro _
    | with_reducible (first | assumption | apply keep_ite | apply keep_draw | apply keep_ideSwitch | apply keep_foldl
                            | exact sub_trans rfl hM)
    | split

theorem keep_tickPasses {M : Nat} {s₀ : State} (hM : M ||| 622530 = M) (s : State) (h0 : Keep M s₀ s) :
    Keep M s₀ (State.tickPasses s) := by
  unfold State.tickPasses
  try dsimp only
  repeat' first
    | intro _
    | with_reducible (first | assumption | apply keep_ite | apply keep_passClose | apply keep_foldl | exact sub_trans rfl hM)
    | split

end Sys2Proof.Machine
end

