-- ==== Sys2Proof/Laws/KeepBus.lean ====
section
/-! SUPPORT. The frames of the register pages, the bus and the DMA units: which parts of the state each may change, and that the
register bank and the memories keep their canonical form. -/

namespace Sys2Proof.Machine

/-! ### EngPage -/

theorem keep_execInvocationStart {M : Nat} {s₀ : State} (hM : M ||| 10242 = M) (e : Fin 128) (s : State) (h0 : Keep M s₀ s) :
    outKeep M s₀ (execInvocationStart e s) := by
  unfold execInvocationStart
  try dsimp only
  repeat' first
    | with_reducible (first | assumption | apply keep_ite | apply out_keep_ite | apply keep_next | apply keep_invStart
                            | exact sub_trans rfl hM)
    | split

theorem keep_execPreemption {M : Nat} {s₀ : State} (hM : M ||| 655298 = M) (e : Fin 128) (faulty : Bool) (s : State)
    (h0 : Keep M s₀ s) :
    outKeep M s₀ (execPreemption e faulty s) := by
  unfold execPreemption
  try dsimp only
  repeat' first
    | with_reducible (first | assumption | apply keep_ite | apply out_keep_ite | apply keep_next | apply keep_engException
                            | apply keep_invSave | exact sub_trans rfl hM)
    | split

theorem keep_execInvocationResume {M : Nat} {s₀ : State} (hM : M ||| 622530 = M) (e : Fin 128) (faulty : Bool) (s : State)
    (h0 : Keep M s₀ s) :
    outKeep M s₀ (execInvocationResume e faulty s) := by
  unfold execInvocationResume
  try dsimp only
  repeat' first
    | with_reducible (first | assumption | apply keep_ite | apply out_keep_ite | apply keep_next | apply keep_engException
                            | apply keep_invRestore | exact sub_trans rfl hM)
    | split

theorem keep_execInbufApply {M : Nat} {s₀ : State} (hM : M ||| 174230 = M) (e : Fin 128) (s : State) (h0 : Keep M s₀ s) :
    outKeep M s₀ (execInbufApply e s) := by
  unfold execInbufApply
  try dsimp only
  repeat' first
    | with_reducible (first | assumption | apply keep_next | apply keep_inbufApply | apply keep_feedEngine
                            | exact sub_trans rfl hM)

theorem keep_execSelfTestDone {M : Nat} {s₀ : State} (hM : M ||| 622530 = M) (e : Fin 128) (pass : Bool) (s : State)
    (h0 : Keep M s₀ s) :
    outKeep M s₀ (execSelfTestDone e pass s) := by
  unfold execSelfTestDone
  try dsimp only
  repeat' first
    | with_reducible (first | assumption | apply keep_ite | apply out_keep_ite | apply keep_next | apply keep_raise
                            | apply keep_modEng | apply keep_engNormal | exact sub_trans rfl hM)
    | split

theorem keep_execEngHalt {M : Nat} {s₀ : State} (hM : M ||| 622530 = M) (w : Writer) (e : Fin 128) (s : State)
    (h0 : Keep M s₀ s) :
    outKeep M s₀ (execEngHalt w e s) := by
  unfold execEngHalt
  try dsimp only
  repeat' first
    | intro _
    | with_reducible (first | assumption | apply keep_next | apply keep_byOwner | apply keep_engHalt | exact sub_trans rfl hM)

theorem keep_execEngResume {M : Nat} {s₀ : State} (hM : M ||| 622530 = M) (w : Writer) (e : Fin 128) (s : State)
    (h0 : Keep M s₀ s) :
    outKeep M s₀ (execEngResume w e s) := by
  unfold execEngResume
  try dsimp only
  repeat' first
    | intro _
    | with_reducible (first | assumption | apply keep_next | apply keep_byOwner | apply keep_engResume | exact sub_trans rfl hM)

theorem keep_execEngTest {M : Nat} {s₀ : State} (hM : M ||| 622530 = M) (w : Writer) (e : Fin 128) (s : State)
    (h0 : Keep M s₀ s) :
    outKeep M s₀ (execEngTest w e s) := by
  unfold execEngTest
  try dsimp only
  repeat' first
    | intro _
    | with_reducible (first | assumption | apply keep_next | apply keep_byOwner | apply keep_engTest | exact sub_trans rfl hM)

theorem keep_execEngPreMaxRead {M : Nat} {s₀ : State} (hM : M ||| 10 = M) (e : Fin 128) (s : State) (h0 : Keep M s₀ s) :
    outKeep M s₀ (execEngPreMaxRead e s) := by
  unfold execEngPreMaxRead
  try dsimp only
  repeat' first
    | with_reducible (first | assumption | apply keep_next | apply keep_readClear | exact sub_trans rfl hM)

theorem keep_execRetry {M : Nat} {s₀ : State} (hM : M ||| 622530 = M) (w : Writer) (e : Fin 128) (s : State) (h0 : Keep M s₀ s) :
    outKeep M s₀ (execRetry w e s) := by
  unfold execRetry
  try dsimp only
  repeat' first
    | intro _
    | with_reducible (first | assumption | apply keep_next | apply keep_byOwner | apply keep_engRetry | exact sub_trans rfl hM)

theorem keep_execAbandon {M : Nat} {s₀ : State} (hM : M ||| 622530 = M) (w : Writer) (e : Fin 128) (s : State)
    (h0 : Keep M s₀ s) :
    outKeep M s₀ (execAbandon w e s) := by
  unfold execAbandon
  try dsimp only
  repeat' first
    | intro _
    | with_reducible (first | assumption | apply keep_next | apply keep_byOwner | apply keep_engGiveUp | exact sub_trans rfl hM)

theorem keep_execClFaultTimeout {M : Nat} {s₀ : State} (hM : M ||| 622530 = M) (e : Fin 128) (s : State) (h0 : Keep M s₀ s) :
    outKeep M s₀ (execClFaultTimeout e s) := by
  unfold execClFaultTimeout
  try dsimp only
  repeat' first
    | with_reducible (first | assumption | apply keep_ite | apply out_keep_ite | apply keep_next | apply keep_engGiveUp
                            | exact sub_trans rfl hM)
    | split

/-! ### DmaOps -/

theorem keep_dmaActive {M : Nat} {s₀ : State} (hM : M ||| 2 = M) (s : State) (c j : Nat) (on : Bool) (h0 : Keep M s₀ s) :
    Keep M s₀ (State.dmaActive s c j on) := by
  unfold State.dmaActive
  try dsimp only
  repeat' first
    | with_reducible (first | assumption | apply keep_putB | apply keep_putIdx | exact sub_trans rfl hM)

theorem keep_dmaSusp {M : Nat} {s₀ : State} (hM : M ||| 2 = M) (s : State) (c j : Nat) (on : Bool) (h0 : Keep M s₀ s) :
    Keep M s₀ (State.dmaSusp s c j on) := by
  unfold State.dmaSusp
  try dsimp only
  repeat' first
    | with_reducible (first | assumption | apply keep_putB | apply keep_putIdx | exact sub_trans rfl hM)

theorem keep_dmaSuspend {M : Nat} {s₀ : State} (hM : M ||| 622530 = M) (s : State) (c j cause va : Nat) (write : Bool)
    (h0 : Keep M s₀ s) :
    Keep M s₀ (State.dmaSuspend s c j cause va write) := by
  unfold State.dmaSuspend
  try dsimp only
  repeat' first
    | with_reducible (first | assumption | apply keep_ite | apply keep_put | apply keep_putB | apply keep_dmaSusp
                            | apply keep_event | apply keep_modDma | apply keep_raise | exact sub_trans rfl hM)
    | split

theorem keep_dmaUnsuspend {M : Nat} {s₀ : State} (hM : M ||| 16450 = M) (s : State) (c j : Nat) (h0 : Keep M s₀ s) :
    Keep M s₀ (State.dmaUnsuspend s c j) := by
  unfold State.dmaUnsuspend
  try dsimp only
  repeat' first
    | with_reducible (first | assumption | apply keep_dmaSusp | apply keep_modDma | apply keep_ackSource
                            | exact sub_trans rfl hM)

theorem keep_dmaOver {M : Nat} {s₀ : State} (hM : M ||| 16450 = M) (s : State) (c j status : Nat) (h0 : Keep M s₀ s) :
    Keep M s₀ (State.dmaOver s c j status) := by
  unfold State.dmaOver
  try dsimp only
  repeat' first
    | with_reducible (first | assumption | apply keep_ite | apply keep_dmaUnsuspend | apply keep_modDma | exact sub_trans rfl hM)
    | split

theorem keep_dmaAnswer {M : Nat} {s₀ : State} (hM : M ||| 64 = M) (s : State) (c j : Nat) (h0 : Keep M s₀ s) :
    Keep M s₀ (State.dmaAnswer s c j) := by
  unfold State.dmaAnswer
  try dsimp only
  repeat' first
    | with_reducible (first | assumption | apply keep_ackSource | exact sub_trans rfl hM)

theorem keep_execDmaResume {M : Nat} {s₀ : State} (hM : M ||| 622530 = M) (w : Writer) (c : Fin 16) (j : Fin 16) (s : State)
    (h0 : Keep M s₀ s) :
    outKeep M s₀ (execDmaResume w c j s) := by
  unfold execDmaResume
  try dsimp only
  repeat' first
    | intro _
    | with_reducible (first | assumption | apply keep_ite | apply out_keep_ite | apply keep_next | apply keep_byOwner
                            | apply keep_dmaUnsuspend | apply keep_dmaAnswer | exact sub_trans rfl hM)
    | split

theorem keep_execDmaAbort {M : Nat} {s₀ : State} (hM : M ||| 622530 = M) (w : Writer) (c : Fin 16) (j : Fin 16) (s : State)
    (h0 : Keep M s₀ s) :
    outKeep M s₀ (execDmaAbort w c j s) := by
  unfold execDmaAbort
  try dsimp only
  repeat' first
    | intro _
    | with_reducible (first | assumption | apply keep_ite | apply out_keep_ite | apply keep_next | apply keep_byOwner
                            | apply keep_dmaAnswer | apply keep_dmaOver | exact sub_trans rfl hM)
    | split

theorem keep_execCapStop {M : Nat} {s₀ : State} (hM : M ||| 622530 = M) (w : Writer) (c : Fin 16) (j : Fin 16) (s : State)
    (h0 : Keep M s₀ s) :
    outKeep M s₀ (execCapStop w c j s) := by
  unfold execCapStop
  try dsimp only
  repeat' first
    | intro _
    | with_reducible (first | assumption | apply keep_ite | apply out_keep_ite | apply keep_next | apply keep_byOwner
                            | apply keep_modDma | apply keep_putB | exact sub_trans rfl hM)
    | split

theorem keep_execDmaFaultTimeout {M : Nat} {s₀ : State} (hM : M ||| 16450 = M) (c : Fin 16) (j : Fin 16) (s : State)
    (h0 : Keep M s₀ s) :
    outKeep M s₀ (execDmaFaultTimeout c j s) := by
  unfold execDmaFaultTimeout
  try dsimp only
  repeat' first
    | with_reducible (first | assumption | apply keep_ite | apply out_keep_ite | apply keep_next | apply keep_dmaOver
                            | exact sub_trans rfl hM)
    | split

theorem keep_execLinkResume {M : Nat} {s₀ : State} (hM : M ||| 24642 = M) (r : Requester) (s : State) (h0 : Keep M s₀ s) :
    outKeep M s₀ (execLinkResume r s) := by
  unfold execLinkResume
  try dsimp only
  repeat' first
    | with_reducible (first | assumption | apply keep_ite | apply out_keep_ite | apply keep_next | apply keep_engUnsuspend
                            | apply keep_dmaUnsuspend | exact sub_trans rfl hM)
    | split

/-! ### Dac -/

theorem keep_setSg {M : Nat} {s₀ : State} (hM : M ||| 1024 = M) (s : State) (t k : Nat) (x : SgSt) (h0 : Keep M s₀ s) :
    Keep M s₀ (State.setSg s t k x) := by
  unfold State.setSg
  try dsimp only
  repeat' first
    | with_reducible (first | assumption | apply keep_modTile | exact sub_trans rfl hM)

theorem keep_sgDrive {M : Nat} {s₀ : State} (hM : M ||| 642 = M) (s : State) (t k code : Nat) (h0 : Keep M s₀ s) :
    Keep M s₀ (State.sgDrive s t k code) := by
  unfold State.sgDrive
  try dsimp only
  repeat' first
    | intro _
    | with_reducible (first | assumption | apply keep_ite | apply keep_eachPin | apply keep_modPin | apply keep_putB
                            | apply keep_setLimit | exact sub_trans rfl hM)
    | split

theorem keep_sgOut {M : Nat} {s₀ : State} (hM : M ||| 1666 = M) (s : State) (t k acc : Nat) (h0 : Keep M s₀ s) :
    Keep M s₀ (State.sgOut s t k acc) := by
  unfold State.sgOut
  try dsimp only
  repeat' first
    | with_reducible (first | assumption | apply keep_ite | apply keep_setSg | apply keep_sgDrive | exact sub_trans rfl hM)
    | split

theorem keep_sgWrap {M : Nat} {s₀ : State} (hM : M ||| 1030 = M) (s : State) (t k : Nat) (h0 : Keep M s₀ s) :
    Keep M s₀ (State.sgWrap s t k) := by
  unfold State.sgWrap
  try dsimp only
  repeat' first
    | with_reducible (first | assumption | apply keep_ite | apply keep_setWord | apply keep_setSg | apply keep_applyWait
                            | exact sub_trans rfl hM)
    | split

theorem keep_execSgCoreClock {M : Nat} {s₀ : State} (hM : M ||| 1670 = M) (t : Fin 32) (k : Fin 2) (s : State)
    (h0 : Keep M s₀ s) :
    outKeep M s₀ (execSgCoreClock t k s) := by
  unfold execSgCoreClock
  try dsimp only
  repeat' first
    | with_reducible (first | assumption | apply keep_ite | apply out_keep_ite | apply keep_next | apply keep_sgWrap
                            | apply keep_sgOut | apply keep_outFinish | exact sub_trans rfl hM)
    | split

theorem keep_execSgAmpPhaseApply {M : Nat} {s₀ : State} (hM : M ||| 1670 = M) (t : Fin 32) (k : Fin 2) (s : State)
    (h0 : Keep M s₀ s) :
    outKeep M s₀ (execSgAmpPhaseApply t k s) := by
  unfold execSgAmpPhaseApply
  try dsimp only
  repeat' first
    | with_reducible (first | assumption | apply keep_ite | apply out_keep_ite | apply keep_next | apply keep_sgWrap
                            | apply keep_sgOut | apply keep_outFinish | exact sub_trans rfl hM)
    | split

theorem keep_execSgResync {M : Nat} {s₀ : State} (hM : M ||| 1670 = M) (t : Fin 32) (k : Fin 2) (s : State) (h0 : Keep M s₀ s) :
    outKeep M s₀ (execSgResync t k s) := by
  unfold execSgResync
  try dsimp only
  repeat' first
    | intro _
    | with_reducible (first | assumption | apply keep_ite | apply out_keep_ite | apply keep_next | apply keep_applyWait
                            | apply keep_putB | apply keep_setSg | apply keep_sgOut | apply keep_outFinish | apply keep_foldl
                            | exact sub_trans rfl hM)
    | split

theorem keep_commitOutPin {M : Nat} {s₀ : State} (hM : M ||| 646 = M) (s : State) (t n : Nat) (h0 : Keep M s₀ s) :
    Keep M s₀ (State.commitOutPin s t n) := by
  unfold State.commitOutPin
  try dsimp only
  repeat' first
    | intro _
    | with_reducible (first | assumption | apply keep_ite | apply keep_applyStaged | apply keep_modPin | apply keep_putB
                            | apply keep_setLimit | apply keep_put | apply keep_foldl | exact sub_trans rfl hM)
    | split

theorem keep_commitSg {M : Nat} {s₀ : State} (hM : M ||| 1030 = M) (s : State) (t k : Nat) (h0 : Keep M s₀ s) :
    Keep M s₀ (State.commitSg s t k) := by
  unfold State.commitSg
  try dsimp only
  repeat' first
    | intro _
    | with_reducible (first | assumption | apply keep_ite | apply keep_applyStaged | apply keep_putB | apply keep_setSg
                            | apply keep_toWait | apply keep_foldl | exact sub_trans rfl hM)
    | split

theorem keep_commitOut {M : Nat} {s₀ : State} (hM : M ||| 1670 = M) (s : State) (w : Writer) (t : Nat) (h0 : Keep M s₀ s) :
    Keep M s₀ (State.commitOut s w t) := by
  unfold State.commitOut
  try dsimp only
  repeat' first
    | intro _
    | with_reducible (first | assumption | apply keep_ite | apply keep_commitOutPin | apply keep_commitSg
                            | apply keep_commitDone | apply keep_foldl | exact sub_trans rfl hM)
    | split

theorem keep_writeOutCode {M : Nat} {s₀ : State} (hM : M ||| 622530 = M) (s : State) (w : Writer) (t n code : Nat)
    (h0 : Keep M s₀ s) :
    Keep M s₀ (State.writeOutCode s w t n code) := by
  unfold State.writeOutCode
  try dsimp only
  repeat' first
    | intro _
    | with_reducible (first | assumption | apply keep_ite | apply keep_byPin | apply keep_outAccept | apply keep_putB
                            | apply keep_event | exact sub_trans rfl hM)
    | split

theorem keep_execOutCodeWrite {M : Nat} {s₀ : State} (hM : M ||| 622530 = M) (w : Writer) (t : Fin 32) (n : Fin 8) (code : BitVec 16) (s : State)
    (h0 : Keep M s₀ s) :
    outKeep M s₀ (execOutCodeWrite w t n code s) := by
  unfold execOutCodeWrite
  try dsimp only
  repeat' first
    | with_reducible (first | assumption | apply keep_next | apply keep_writeOutCode | exact sub_trans rfl hM)

theorem keep_execSetpointExecute {M : Nat} {s₀ : State} (hM : M ||| 622530 = M) (t : Fin 32) (s : State) (h0 : Keep M s₀ s) :
    outKeep M s₀ (execSetpointExecute t s) := by
  unfold execSetpointExecute
  try dsimp only
  repeat' first
    | with_reducible (first | assumption | apply keep_next | apply keep_writeOutCode | apply keep_executed
                            | exact sub_trans rfl hM)
    | split

theorem keep_execPinsOutExecute {M : Nat} {s₀ : State} (hM : M ||| 622530 = M) (t : Fin 32) (s : State) (h0 : Keep M s₀ s) :
    outKeep M s₀ (execPinsOutExecute t s) := by
  unfold execPinsOutExecute
  try dsimp only
  repeat' first
    | with_reducible (first | assumption | apply keep_next | apply keep_pinBits | apply keep_syncTile | apply keep_executed
                            | exact sub_trans rfl hM)
    | split

theorem keep_execSlewStep {M : Nat} {s₀ : State} (hM : M ||| 642 = M) (t : Fin 32) (n : Fin 8) (s : State) (h0 : Keep M s₀ s) :
    outKeep M s₀ (execSlewStep t n s) := by
  unfold execSlewStep
  try dsimp only
  repeat' first
    | with_reducible (first | assumption | apply keep_ite | apply out_keep_ite | apply keep_next | apply keep_limStep
                            | exact sub_trans rfl hM)
    | split

theorem keep_execDeglitchHoldEnd {M : Nat} {s₀ : State} (hM : M ||| 514 = M) (t : Fin 32) (n : Fin 8) (s : State)
    (h0 : Keep M s₀ s) :
    outKeep M s₀ (execDeglitchHoldEnd t n s) := by
  unfold execDeglitchHoldEnd
  try dsimp only
  repeat' first
    | with_reducible (first | assumption | apply keep_ite | apply out_keep_ite | apply keep_next | apply keep_putB
                            | apply keep_modPin | exact sub_trans rfl hM)
    | split

theorem keep_execOutWdogExpiry {M : Nat} {s₀ : State} (hM : M ||| 622530 = M) (t : Fin 32) (n : Fin 8) (s : State)
    (h0 : Keep M s₀ s) :
    outKeep M s₀ (execOutWdogExpiry t n s) := by
  unfold execOutWdogExpiry
  try dsimp only
  repeat' first
    | with_reducible (first | assumption | apply keep_ite | apply out_keep_ite | apply keep_next | apply keep_outWdog
                            | apply keep_raise | exact sub_trans rfl hM)
    | split

theorem keep_execFaultHoldClear {M : Nat} {s₀ : State} (hM : M ||| 622530 = M) (w : Writer) (t : Fin 32) (n : Fin 8) (s : State)
    (h0 : Keep M s₀ s) :
    outKeep M s₀ (execFaultHoldClear w t n s) := by
  unfold execFaultHoldClear
  try dsimp only
  repeat' first
    | intro _
    | with_reducible (first | assumption | apply keep_ite | apply out_keep_ite | apply keep_next | apply keep_byPin
                            | apply keep_outRelease | exact sub_trans rfl hM)
    | split

theorem keep_execRangeChangeDisconnect {M : Nat} {s₀ : State} (hM : M ||| 514 = M) (t : Fin 32) (n : Fin 8) (s : State)
    (h0 : Keep M s₀ s) :
    outKeep M s₀ (execRangeChangeDisconnect t n s) := by
  unfold execRangeChangeDisconnect
  try dsimp only
  repeat' first
    | with_reducible (first | assumption | apply keep_ite | apply out_keep_ite | apply keep_next | apply keep_stageOff
                            | exact sub_trans rfl hM)
    | split

theorem keep_execRangeChangeReconnect {M : Nat} {s₀ : State} (hM : M ||| 1922 = M) (t : Fin 32) (n : Fin 8) (s : State)
    (h0 : Keep M s₀ s) :
    outKeep M s₀ (execRangeChangeReconnect t n s) := by
  unfold execRangeChangeReconnect
  try dsimp only
  repeat' first
    | with_reducible (first | assumption | apply keep_ite | apply out_keep_ite | apply keep_next | apply keep_put
                            | apply keep_putB | apply keep_modPin | apply keep_stageMid | apply keep_stageOff
                            | apply keep_setLimit | apply keep_outFinish | apply keep_rotResume | exact sub_trans rfl hM)
    | split

/-! ### PageOps -/

theorem keep_byCommitter {M : Nat} {s₀ : State} (hM : M ||| 622530 = M) (s : State) (w : Writer) (p : Page) (f : State → State) (hf : ∀ (x0 : State), Keep M s₀ x0 → Keep M s₀ (f x0))
    (h0 : Keep M s₀ s) :
    Keep M s₀ (State.byCommitter s w p f) := by
  unfold State.byCommitter
  try dsimp only
  repeat' first
    | with_reducible (first | assumption | apply keep_ite | apply keep_refuseNotOwner | apply hf | exact sub_trans rfl hM)
    | split

theorem keep_applyPage {M : Nat} {s₀ : State} (hM : M ||| 6 = M) (s : State) (pg : Nat) (h0 : Keep M s₀ s) :
    Keep M s₀ (State.applyPage s pg) := by
  unfold State.applyPage
  try dsimp only
  repeat' first
    | intro _
    | with_reducible (first | assumption | apply keep_applyStaged | apply keep_foldl | exact sub_trans rfl hM)

theorem keep_commitPlain {M : Nat} {s₀ : State} (hM : M ||| 134 = M) (s : State) (p : Page) (h0 : Keep M s₀ s) :
    Keep M s₀ (State.commitPlain s p) := by
  unfold State.commitPlain
  try dsimp only
  repeat' first
    | with_reducible (first | assumption | apply keep_applyPage | apply keep_commitDone | exact sub_trans rfl hM)

theorem keep_commitEngine {M : Nat} {s₀ : State} (hM : M ||| 8326 = M) (s : State) (e : Fin 128) (h0 : Keep M s₀ s) :
    Keep M s₀ (State.commitEngine s e) := by
  unfold State.commitEngine
  try dsimp only
  repeat' first
    | with_reducible (first | assumption | apply keep_toWait | apply keep_applyPage | apply keep_commitDone
                            | apply keep_inbufApply | exact sub_trans rfl hM)

theorem keep_commitDma {M : Nat} {s₀ : State} (hM : M ||| 16518 = M) (s : State) (c : Fin 16) (h0 : Keep M s₀ s) :
    Keep M s₀ (State.commitDma s c) := by
  unfold State.commitDma
  try dsimp only
  repeat' first
    | intro _
    | with_reducible (first | assumption | apply keep_toWait | apply keep_dmaApply | apply keep_applyPage
                            | apply keep_commitDone | apply keep_foldl | exact sub_trans rfl hM)

theorem keep_dropIdle {M : Nat} {s₀ : State} (hM : M ||| 4 = M) (s : State) (a : Nat) (h0 : Keep M s₀ s) :
    Keep M s₀ (State.dropIdle s a) := by
  unfold State.dropIdle
  try dsimp only
  repeat' first
    | with_reducible (first | assumption | apply keep_ite | exact sub_trans rfl hM)
    | exact .inl (sub_bit rfl hM)
    | with_reducible (first | exact .inr rfl | exact .inr ⟨rfl, rfl⟩ | exact .inr ⟨rfl, rfl, rfl⟩)
    | split
    | with_reducible apply keep_mk

theorem keep_commitRing {M : Nat} {s₀ : State} (hM : M ||| 622550 = M) (s : State) (r : Nat) (h0 : Keep M s₀ s) :
    Keep M s₀ (State.commitRing s r) := by
  unfold State.commitRing
  try dsimp only
  repeat' first
    | intro _
    | with_reducible (first | assumption | apply keep_ite | apply keep_applyWait | apply keep_applyStaged | apply keep_toWait
                            | apply keep_dropIdle | apply keep_putB | apply keep_ringEnable | apply keep_ringDisable
                            | apply keep_foldl | exact sub_trans rfl hM)
    | split

theorem keep_commitRings {M : Nat} {s₀ : State} (hM : M ||| 622550 = M) (s : State) (h0 : Keep M s₀ s) :
    Keep M s₀ (State.commitRings s) := by
  unfold State.commitRings
  try dsimp only
  repeat' first
    | intro _
    | with_reducible (first | assumption | apply keep_commitRing | apply keep_commitDone | apply keep_foldl
                            | exact sub_trans rfl hM)

theorem keep_withTriggers {M : Nat} {s₀ : State} (hM : M ||| 66690 = M) (s : State) (ns : List Nat) (f : State → State) (hf : ∀ (x0 : State), Keep M s₀ x0 → Keep M s₀ (f x0))
    (h0 : Keep M s₀ s) :
    Keep M s₀ (State.withTriggers s ns f) := by
  unfold State.withTriggers
  try dsimp only
  repeat' first
    | with_reducible (first | assumption | apply keep_ite | apply keep_trigRises | apply hf | exact sub_trans rfl hM)
    | split

theorem keep_commitEvCtl {M : Nat} {s₀ : State} (hM : M ||| 66694 = M) (s : State) (h0 : Keep M s₀ s) :
    Keep M s₀ (State.commitEvCtl s) := by
  unfold State.commitEvCtl
  try dsimp only
  repeat' first
    | intro _
    | with_reducible (first | assumption | apply keep_ite | apply keep_withTriggers | apply keep_applyPage
                            | apply keep_commitDone | exact sub_trans rfl hM)
    | split

theorem keep_commitFabric {M : Nat} {s₀ : State} (hM : M ||| 66694 = M) (s : State) (h0 : Keep M s₀ s) :
    Keep M s₀ (State.commitFabric s) := by
  unfold State.commitFabric
  try dsimp only
  repeat' first
    | intro _
    | with_reducible (first | assumption | apply keep_withTriggers | apply keep_applyPage | apply keep_commitDone
                            | exact sub_trans rfl hM)

theorem keep_evcRunSync {M : Nat} {s₀ : State} (hM : M ||| 2 = M) (s : State) (n : Nat) (h0 : Keep M s₀ s) :
    Keep M s₀ (State.evcRunSync s n) := by
  unfold State.evcRunSync
  try dsimp only
  repeat' first
    | with_reducible (first | assumption | apply keep_ite | apply keep_putB | exact sub_trans rfl hM)
    | split

theorem keep_commitEvCfg {M : Nat} {s₀ : State} (hM : M ||| 134 = M) (s : State) (h0 : Keep M s₀ s) :
    Keep M s₀ (State.commitEvCfg s) := by
  unfold State.commitEvCfg
  try dsimp only
  repeat' first
    | intro _
    | with_reducible (first | assumption | apply keep_ite | apply keep_withSrcs | apply keep_evcRunSync | apply keep_applyPage
                            | apply keep_commitDone | apply keep_foldl | exact sub_trans rfl hM)
    | split

theorem keep_commitNow {M : Nat} {s₀ : State} (hM : M ||| 622550 = M) (s : State) (w : Writer) (p : Page) (h0 : Keep M s₀ s) :
    Keep M s₀ (State.commitNow s w p) := by
  unfold State.commitNow
  try dsimp only
  repeat' first
    | intro _
    | with_reducible (first | assumption | apply keep_withSetup | apply keep_commitPins | apply keep_commitOut
                            | apply keep_commitInput | apply keep_commitEngine | apply keep_commitDma | apply keep_commitRings
                            | apply keep_commitEvCtl | apply keep_commitEvCfg | apply keep_commitFabric | apply keep_commitPlain
                            | exact sub_trans rfl hM)
    | split

theorem keep_commitPage {M : Nat} {s₀ : State} (hM : M ||| 622550 = M) (s : State) (w : Writer) (p : Page) (h0 : Keep M s₀ s) :
    Keep M s₀ (State.commitPage s w p) := by
  unfold State.commitPage
  try dsimp only
  repeat' first
    | with_reducible (first | assumption | apply keep_ite | apply keep_refuse | apply keep_putB | apply keep_commitNow
                            | exact sub_trans rfl hM)
    | exact .inl (sub_bit rfl hM)
    | with_reducible (first | exact .inr rfl | exact .inr ⟨rfl, rfl⟩ | exact .inr ⟨rfl, rfl, rfl⟩)
    | split
    | with_reducible apply keep_mk

theorem keep_commitDeferred {M : Nat} {s₀ : State} (hM : M ||| 622550 = M) (s : State) (h0 : Keep M s₀ s) :
    Keep M s₀ (State.commitDeferred s) := by
  unfold State.commitDeferred
  try dsimp only
  repeat' first
    | intro _
    | with_reducible (first | assumption | apply keep_commitNow | apply keep_foldl | exact sub_trans rfl hM)
    | exact .inl (sub_bit rfl hM)
    | with_reducible (first | exact .inr rfl | exact .inr ⟨rfl, rfl⟩ | exact .inr ⟨rfl, rfl, rfl⟩)
    | split
    | with_reducible apply keep_mk

theorem keep_discardPage {M : Nat} {s₀ : State} (hM : M ||| 134 = M) (s : State) (w : Writer) (p : Page) (h0 : Keep M s₀ s) :
    Keep M s₀ (State.discardPage s w p) := by
  unfold State.discardPage
  try dsimp only
  repeat' first
    | intro _
    | with_reducible (first | assumption | apply keep_ite | apply keep_refuse | apply keep_dropStaged | apply keep_foldl
                            | exact sub_trans rfl hM)
    | split

theorem keep_execPageCommit {M : Nat} {s₀ : State} (hM : M ||| 622550 = M) (w : Writer) (pg : Page) (s : State)
    (h0 : Keep M s₀ s) :
    outKeep M s₀ (execPageCommit w pg s) := by
  unfold execPageCommit
  try dsimp only
  repeat' first
    | intro _
    | with_reducible (first | assumption | apply keep_next | apply keep_byCommitter | apply keep_commitPage
                            | exact sub_trans rfl hM)

theorem keep_execPageDiscard {M : Nat} {s₀ : State} (hM : M ||| 622534 = M) (w : Writer) (pg : Page) (s : State)
    (h0 : Keep M s₀ s) :
    outKeep M s₀ (execPageDiscard w pg s) := by
  unfold execPageDiscard
  try dsimp only
  repeat' first
    | intro _
    | with_reducible (first | assumption | apply keep_next | apply keep_byCommitter | apply keep_discardPage
                            | exact sub_trans rfl hM)

theorem keep_execCommitEffective {M : Nat} {s₀ : State} (hM : M ||| 622534 = M) (pg : Page) (s : State) (h0 : Keep M s₀ s) :
    outKeep M s₀ (execCommitEffective pg s) := by
  unfold execCommitEffective
  try dsimp only
  repeat' first
    | intro _
    | with_reducible (first | assumption | apply keep_ite | apply out_keep_ite | apply keep_next | apply keep_finishCommit
                            | apply keep_outFinish | apply keep_passBoundary | apply keep_inbufApply | apply keep_dmaApply
                            | apply keep_dmaCommitted | apply keep_foldl | exact sub_trans rfl hM)
    | split

theorem keep_execPageLock {M : Nat} {s₀ : State} (hM : M ||| 622530 = M) (w : Writer) (pg : Page) (s : State) (h0 : Keep M s₀ s) :
    outKeep M s₀ (execPageLock w pg s) := by
  unfold execPageLock
  try dsimp only
  repeat' first
    | intro _
    | with_reducible (first | assumption | apply keep_ite | apply out_keep_ite | apply keep_next | apply keep_byOwner
                            | apply keep_putB | apply keep_refuse | exact sub_trans rfl hM)
    | split

theorem keep_execPageOwnerWrite {M : Nat} {s₀ : State} (hM : M ||| 622530 = M) (w : Writer) (pg : Page) (code : Byte) (s : State)
    (h0 : Keep M s₀ s) :
    outKeep M s₀ (execPageOwnerWrite w pg code s) := by
  unfold execPageOwnerWrite
  try dsimp only
  repeat' first
    | intro _
    | with_reducible (first | assumption | apply keep_ite | apply out_keep_ite | apply keep_next | apply keep_byOwner
                            | apply keep_refuse | apply keep_put | apply keep_refuseNotOwner | exact sub_trans rfl hM)
    | split

theorem keep_execIrqPendClear {M : Nat} {s₀ : State} (hM : M ||| 622530 = M) (w : Writer) (pg : Page) (mask : Word) (s : State)
    (h0 : Keep M s₀ s) :
    outKeep M s₀ (execIrqPendClear w pg mask s) := by
  unfold execIrqPendClear
  try dsimp only
  repeat' first
    | intro _
    | with_reducible (first | assumption | apply keep_next | apply keep_byOwner | apply keep_setWord | exact sub_trans rfl hM)

/-! ### RegAccess -/

/-- What an outcome leads to, if it is a next state. -/
theorem keep_after {M : Nat} {s0 : State} (s : State) (o : Host.Outcome State Fault Refusal) (h0 : Keep M s0 s)
    (ho : outKeep M s0 o) : Keep M s0 (s.after o) := by
  cases o with
  | next u => exact ho
  | fault f => exact h0
  | refused r => exact h0

theorem keep_plainWrite {M : Nat} {s₀ : State} (hM : M ||| 134 = M) (s : State) (p : Page) (a : Nat) (v : Word)
    (h0 : Keep M s₀ s) :
    Keep M s₀ (State.plainWrite s p a v) := by
  unfold State.plainWrite
  try dsimp only
  repeat' first
    | with_reducible (first | assumption | apply keep_ite | apply keep_setWord | apply keep_refuse | apply keep_stageWord
                            | exact sub_trans rfl hM)
    | split

theorem keep_ownedWrite {M : Nat} {s₀ : State} (hM : M ||| 622534 = M) (s : State) (w : Writer) (p : Page) (a : Nat) (v : Word)
    (h0 : Keep M s₀ s) :
    Keep M s₀ (State.ownedWrite s w p a v) := by
  unfold State.ownedWrite
  try dsimp only
  repeat' first
    | intro _
    | with_reducible (first | assumption | apply keep_byOwner | apply keep_plainWrite | exact sub_trans rfl hM)

theorem keep_writeHeader {M : Nat} {s₀ : State} (hM : M ||| 622550 = M) (s : State) (w : Writer) (p : Page) (o : Nat) (v : Word)
    (h0 : Keep M s₀ s) :
    Keep M s₀ (State.writeHeader s w p o v) := by
  unfold State.writeHeader
  try dsimp only
  repeat' first
    | intro _
    | with_reducible (first | assumption | apply keep_ite | apply keep_byCommitter | apply keep_commitPage
                            | apply keep_discardPage | apply keep_byOwner | apply keep_withSrc | apply keep_plainWrite
                            | apply keep_after | apply keep_execIrqPendClear | apply keep_execPageOwnerWrite
                            | apply keep_execPageLock | apply keep_ownedWrite | exact sub_trans rfl hM)
    | split
    | simp only [id_eq]

theorem keep_writePins {M : Nat} {s₀ : State} (hM : M ||| 753606 = M) (s : State) (w : Writer) (t : Fin 32) (o : Nat) (v : Word)
    (h0 : Keep M s₀ s) :
    Keep M s₀ (State.writePins s w t o v) := by
  unfold State.writePins
  try dsimp only
  repeat' first
    | intro _
    | with_reducible (first | assumption | apply keep_ite | apply keep_after | apply keep_execPinFltClear | apply keep_byPin
                            | apply keep_plainWrite | apply keep_cmpSync | apply keep_execPinsOutWrite
                            | apply keep_execPinsOutSet | apply keep_execPinsOutClr | apply keep_execPinsOeWrite
                            | apply keep_eachPin | apply keep_execSenseTripClear | apply keep_byOwner | apply keep_setWord
                            | apply keep_execLaneProtClear | apply keep_ownedWrite | apply keep_execTileRestart
                            | apply keep_foldl | exact sub_trans rfl hM)
    | split
    | simp only [id_eq]

theorem keep_writeInput {M : Nat} {s₀ : State} (hM : M ||| 622534 = M) (s : State) (w : Writer) (t : Fin 32) (o : Nat) (v : Word)
    (h0 : Keep M s₀ s) :
    Keep M s₀ (State.writeInput s w t o v) := by
  unfold State.writeInput
  try dsimp only
  repeat' first
    | intro _
    | with_reducible (first | assumption | apply keep_ite | apply keep_byOwner | apply keep_plainWrite | apply keep_ackCause
                            | apply keep_after | apply keep_execAdcTrigStart | apply keep_ownedWrite | exact sub_trans rfl hM)
    | split
    | simp only [id_eq]

theorem keep_writeOutStat {M : Nat} {s₀ : State} (hM : M ||| 622530 = M) (s : State) (w : Writer) (t : Fin 32) (n : Fin 8) (v : Word)
    (h0 : Keep M s₀ s) :
    Keep M s₀ (State.writeOutStat s w t n v) := by
  unfold State.writeOutStat
  try dsimp only
  repeat' first
    | intro _
    | with_reducible (first | assumption | apply keep_ite | apply keep_byPin | apply keep_setWord | apply keep_ackCause
                            | apply keep_after | apply keep_execFaultHoldClear | exact sub_trans rfl hM)
    | split

theorem keep_writeOutput {M : Nat} {s₀ : State} (hM : M ||| 622534 = M) (s : State) (w : Writer) (t : Fin 32) (o : Nat) (v : Word)
    (h0 : Keep M s₀ s) :
    Keep M s₀ (State.writeOutput s w t o v) := by
  unfold State.writeOutput
  try dsimp only
  repeat' first
    | intro _
    | with_reducible (first | assumption | apply keep_after | apply keep_execOutCodeWrite | apply keep_writeOutStat
                            | apply keep_byPin | apply keep_plainWrite | apply keep_ownedWrite | exact sub_trans rfl hM)
    | split

theorem keep_calGo {M : Nat} {s₀ : State} (hM : M ||| 622530 = M) (s : State) (w : Writer) (t : Fin 32) (v : Word)
    (h0 : Keep M s₀ s) :
    Keep M s₀ (State.calGo s w t v) := by
  unfold State.calGo
  try dsimp only
  repeat' first
    | with_reducible (first | assumption | apply keep_after | apply keep_execCalReqTileIn | apply keep_execCalReqConvA
                            | apply keep_execCalReqConvB | apply keep_execCalReqFrontEnd | apply keep_execCalReqSpare
                            | apply keep_calRequest | exact sub_trans rfl hM)
    | split

theorem keep_writeCalib {M : Nat} {s₀ : State} (hM : M ||| 622534 = M) (s : State) (w : Writer) (t : Fin 32) (o : Nat) (v : Word)
    (h0 : Keep M s₀ s) :
    Keep M s₀ (State.writeCalib s w t o v) := by
  unfold State.writeCalib
  try dsimp only
  repeat' first
    | intro _
    | with_reducible (first | assumption | apply keep_ite | apply keep_calGo | apply keep_byOwner | apply keep_plainWrite
                            | apply keep_after | apply keep_execCalRotNow | apply keep_execCapture0 | apply keep_execCapture1
                            | apply keep_execCancel | apply keep_execClearLost | apply keep_ownedWrite | exact sub_trans rfl hM)
    | split
    | simp only [id_eq]

theorem keep_writeEngine {M : Nat} {s₀ : State} (hM : M ||| 622534 = M) (s : State) (w : Writer) (e : Fin 128) (o : Nat) (v : Word)
    (h0 : Keep M s₀ s) :
    Keep M s₀ (State.writeEngine s w e o v) := by
  unfold State.writeEngine
  try dsimp only
  repeat' first
    | intro _
    | with_reducible (first | assumption | apply keep_after | apply keep_execEngHalt | apply keep_execEngResume
                            | apply keep_execEngTest | apply keep_byOwner | apply keep_ownedWrite | exact sub_trans rfl hM)
    | split
    | simp only [id_eq]

theorem keep_tlbiGo {M : Nat} {s₀ : State} (hM : M ||| 655298 = M) (s : State) (w : Writer) (sc : TlbScope) (op asid va : Nat)
    (h0 : Keep M s₀ s) :
    Keep M s₀ (State.tlbiGo s w sc op asid va) := by
  unfold State.tlbiGo
  try dsimp only
  repeat' first
    | with_reducible (first | assumption | apply keep_after | apply keep_execTlbiAll | apply keep_execTlbiAsid
                            | apply keep_execTlbiVaAsid | apply keep_execTlbiVaAll | exact sub_trans rfl hM)
    | split

theorem keep_writeCluster {M : Nat} {s₀ : State} (hM : M ||| 655302 = M) (s : State) (w : Writer) (c : Fin 16) (o : Nat) (v : Word)
    (h0 : Keep M s₀ s) :
    Keep M s₀ (State.writeCluster s w c o v) := by
  unfold State.writeCluster
  try dsimp only
  repeat' first
    | intro _
    | with_reducible (first | assumption | apply keep_ite | apply keep_byOwner | apply keep_plainWrite | apply keep_tlbiGo
                            | apply keep_after | apply keep_execRetry | apply keep_execAbandon | apply keep_ownedWrite
                            | exact sub_trans rfl hM)
    | split
    | simp only [id_eq]

theorem keep_writeDma {M : Nat} {s₀ : State} (hM : M ||| 622534 = M) (s : State) (w : Writer) (c : Fin 16) (o : Nat) (v : Word)
    (h0 : Keep M s₀ s) :
    Keep M s₀ (State.writeDma s w c o v) := by
  unfold State.writeDma
  try dsimp only
  repeat' first
    | intro _
    | with_reducible (first | assumption | apply keep_ite | apply keep_after | apply keep_execDmaResume
                            | apply keep_execDmaAbort | apply keep_execCapStop | apply keep_byOwner | apply keep_ownedWrite
                            | exact sub_trans rfl hM)
    | split
    | simp only [id_eq]

theorem keep_writeMem {M : Nat} {s₀ : State} (hM : M ||| 655302 = M) (s : State) (w : Writer) (o : Nat) (v : Word)
    (h0 : Keep M s₀ s) :
    Keep M s₀ (State.writeMem s w o v) := by
  unfold State.writeMem
  try dsimp only
  repeat' first
    | intro _
    | with_reducible (first | assumption | apply keep_ite | apply keep_byOwner | apply keep_plainWrite | apply keep_tlbiGo
                            | apply keep_ownedWrite | exact sub_trans rfl hM)
    | split

theorem keep_writeSched {M : Nat} {s₀ : State} (hM : M ||| 622550 = M) (s : State) (w : Writer) (o : Nat) (v : Word)
    (h0 : Keep M s₀ s) :
    Keep M s₀ (State.writeSched s w o v) := by
  unfold State.writeSched
  try dsimp only
  repeat' first
    | intro _
    | with_reducible (first | assumption | apply keep_ite | apply keep_byOwner | apply keep_plainWrite | apply keep_after
                            | apply keep_execStreamOpen | apply keep_execStreamClose | apply keep_execStreamSkip
                            | apply keep_execStreamQuery | apply keep_ownedWrite | exact sub_trans rfl hM)
    | split

theorem keep_writeLichen {M : Nat} {s₀ : State} (hM : M ||| 622566 = M) (s : State) (w : Writer) (o : Nat) (v : Word)
    (h0 : Keep M s₀ s) :
    Keep M s₀ (State.writeLichen s w o v) := by
  unfold State.writeLichen
  try dsimp only
  repeat' first
    | intro _
    | with_reducible (first | assumption | apply keep_ite | apply keep_byOwner | apply keep_plainWrite | apply keep_after
                            | apply keep_execRtcSet | apply keep_ldgCmd | apply keep_ownedWrite | exact sub_trans rfl hM)
    | split

theorem keep_writePower {M : Nat} {s₀ : State} (hM : M ||| 753606 = M) (s : State) (w : Writer) (o : Nat) (v : Word)
    (h0 : Keep M s₀ s) :
    Keep M s₀ (State.writePower s w o v) := by
  unfold State.writePower
  try dsimp only
  repeat' first
    | intro _
    | with_reducible (first | assumption | apply keep_ite | apply keep_byOwner | apply keep_plainWrite | apply keep_after
                            | apply keep_execDomainOn | apply keep_execDomainOff | apply keep_ownedWrite
                            | exact sub_trans rfl hM)
    | split

theorem keep_writeFault {M : Nat} {s₀ : State} (hM : M ||| 786390 = M) (s : State) (w : Writer) (o : Nat) (v : Word)
    (h0 : Keep M s₀ s) :
    Keep M s₀ (State.writeFault s w o v) := by
  unfold State.writeFault
  try dsimp only
  repeat' first
    | intro _
    | with_reducible (first | assumption | apply keep_ite | apply keep_byOwner | apply keep_after | apply keep_execPop
                            | apply keep_execExit | apply keep_execFltAck | apply keep_execFltRelease | apply keep_ownedWrite
                            | exact sub_trans rfl hM)
    | split
    | simp only [id_eq]

theorem keep_writeSecurity {M : Nat} {s₀ : State} (hM : M ||| 1671110 = M) (s : State) (w : Writer) (o : Nat) (v : Word)
    (h0 : Keep M s₀ s) :
    Keep M s₀ (State.writeSecurity s w o v) := by
  unfold State.writeSecurity
  try dsimp only
  repeat' first
    | intro _
    | with_reducible (first | assumption | apply keep_ite | apply keep_plainWrite | apply keep_refuseNotOwner | apply keep_after
                            | apply keep_execSecQuoteGo | apply keep_byMailbox | apply keep_byFwup | apply keep_execFwCommit
                            | apply keep_execStage | apply keep_ownedWrite | exact sub_trans rfl hM)
    | split
    | simp only [id_eq]

theorem keep_writeFabric {M : Nat} {s₀ : State} (hM : M ||| 622534 = M) (s : State) (w : Writer) (o : Nat) (v : Word)
    (h0 : Keep M s₀ s) :
    Keep M s₀ (State.writeFabric s w o v) := by
  unfold State.writeFabric
  try dsimp only
  repeat' first
    | intro _
    | with_reducible (first | assumption | apply keep_ite | apply keep_refuseNotOwner | apply keep_byOwner | apply keep_reload
                            | apply keep_ownedWrite | exact sub_trans rfl hM)
    | split

theorem keep_writePage {M : Nat} {s₀ : State} (hM : M ||| 1834998 = M) (s : State) (w : Writer) (p : Page) (o : Nat) (v : Word)
    (h0 : Keep M s₀ s) :
    Keep M s₀ (State.writePage s w p o v) := by
  unfold State.writePage
  try dsimp only
  repeat' first
    | with_reducible (first | assumption | apply keep_ite | apply keep_writePins | apply keep_writeInput
                            | apply keep_writeOutput | apply keep_writeCalib | apply keep_writeEngine | apply keep_writeCluster
                            | apply keep_writeDma | apply keep_writeMem | apply keep_writeSched | apply keep_writeLichen
                            | apply keep_writePower | apply keep_writeFault | apply keep_writeSecurity | apply keep_writeFabric
                            | apply keep_after | apply keep_execIrqSwiWrite | apply keep_ownedWrite | apply keep_execEvcSnap
                            | apply keep_execEvcSwtrig | apply keep_execEvcValWrite | exact sub_trans rfl hM)
    | split

theorem keep_writeMsix {M : Nat} {s₀ : State} (hM : M ||| 130 = M) (s : State) (o : Nat) (v : Word) (h0 : Keep M s₀ s) :
    Keep M s₀ (State.writeMsix s o v) := by
  unfold State.writeMsix
  try dsimp only
  repeat' first
    | with_reducible (first | assumption | apply keep_ite | apply keep_sendPending | apply keep_after
                            | apply keep_execMsixUnmask | exact sub_trans rfl hM)
    | exact .inl (sub_bit rfl hM)
    | with_reducible (first | exact .inr rfl | exact .inr ⟨rfl, rfl⟩ | exact .inr ⟨rfl, rfl, rfl⟩)
    | split
    | with_reducible apply keep_mk

theorem keep_writeConfig {M : Nat} {s₀ : State} (hM : M ||| 2097150 = M) (s : State) (o : Nat) (v : Word) (h0 : Keep M s₀ s) :
    Keep M s₀ (State.writeConfig s o v) := by
  unfold State.writeConfig
  try dsimp only
  repeat' first
    | with_reducible (first | assumption | apply keep_ite | apply keep_setWord | apply keep_writeMsix | apply keep_after
                            | apply keep_execDoeAbort | apply keep_doeGo | apply keep_execCacheWritebackInvalidate
                            | apply keep_execCxlReset | apply keep_execLoadGo | apply keep_execLoadClear
                            | apply keep_execResetWarm | apply keep_execResetCold | exact sub_trans rfl hM)
    | exact .inl (sub_bit rfl hM)
    | with_reducible (first | exact .inr rfl | exact .inr ⟨rfl, rfl⟩ | exact .inr ⟨rfl, rfl, rfl⟩)
    | split
    | with_reducible apply keep_mk

theorem keep_roWrite {M : Nat} {s₀ : State} (hM : M ||| 622530 = M) (s : State) (w : Writer) (p : Page) (a : Nat)
    (h0 : Keep M s₀ s) :
    Keep M s₀ (State.roWrite s w p a) := by
  unfold State.roWrite
  try dsimp only
  repeat' first
    | intro _
    | with_reducible (first | assumption | apply keep_ite | apply keep_byOwner | exact sub_trans rfl hM)
    | split
    | simp only [id_eq]

theorem keep_regWrite {M : Nat} {s₀ : State} (hM : M ||| 1834998 = M) (s : State) (w : Writer) (a : Nat) (v : Word)
    (h0 : Keep M s₀ s) :
    Keep M s₀ (State.regWrite s w a v) := by
  unfold State.regWrite
  try dsimp only
  repeat' first
    | with_reducible (first | assumption | apply keep_ite | apply keep_roWrite | apply keep_writeHeader | apply keep_writePage
                            | exact sub_trans rfl hM)
    | split

theorem keep_latchRead {M : Nat} {s0 : State} (hM : M ||| 266 = M) (s : State) (a : Nat) (h0 : Keep M s0 s) : optKeep M s0 (s.latchRead a) := by
  unfold State.latchRead
  repeat' first
    | with_reducible (first | assumption | apply opt_keep_none | apply opt_keep_some | apply keep_after
                            | apply keep_execPinEstTimeRead | apply keep_execTileTempMaxRead | apply keep_execTimeLoRead
                            | apply keep_execRtcSecRead | apply keep_execFabCntRead | apply keep_execEvcValRead
                            | exact sub_trans rfl hM)
    | split

theorem keep_regRead {M : Nat} {s0 : State} (hM : M ||| 282 = M) (s : State) (a : Nat) (h0 : Keep M s0 s) : Keep M s0 (s.regRead a).2 := by
  unfold State.regRead
  have hl := keep_latchRead (sub_trans rfl hM) s a h0
  split
  · rename_i t h
    rw [h] at hl
    exact keep_of (m := 8) (sub_trans rfl hM) hl ⟨id,
      fun p => by cases p <;> first | exact .inl rfl | exact .inr rfl | exact .inr ⟨rfl, rfl⟩ | exact .inr ⟨rfl, rfl, rfl⟩⟩
  · dsimp only
    split
    · exact keep_of (m := 16) (sub_trans rfl hM) h0 ⟨id,
        fun p => by cases p <;> first | exact .inl rfl | exact .inr rfl | exact .inr ⟨rfl, rfl⟩ | exact .inr ⟨rfl, rfl, rfl⟩⟩
    · split
      · exact h0
      · exact keep_setWord (sub_trans rfl hM) _ _ _ h0

/-! ### Bus -/

theorem keep_busWrite {M : Nat} {s₀ : State} (hM : M ||| 2097142 = M) (s : State) (w : Writer) (off : Nat) (v : Word)
    (h0 : Keep M s₀ s) :
    Keep M s₀ (State.busWrite s w off v) := by
  unfold State.busWrite
  try dsimp only
  repeat' first
    | with_reducible (first | assumption | apply keep_ite | apply keep_regWrite | apply keep_regFrame | exact sub_trans rfl hM)
    | split

theorem keep_busFetch {M : Nat} {s₀ : State} (hM : M ||| 266650 = M) (s : State) (off : Nat) (h0 : Keep M s₀ s) :
    Keep M s₀ (State.busFetch s off).2 := by
  unfold State.busFetch
  try dsimp only
  repeat' first
    | with_reducible (first | assumption | apply keep_ite | apply keep_regRead | apply keep_regFrame | apply keep_draw
                            | exact sub_trans rfl hM)
    | split

theorem keep_execRegisterWrite {M : Nat} {s₀ : State} (hM : M ||| 2097150 = M) (w : Writer) (a : Nat) (v : Word) (s : State)
    (h0 : Keep M s₀ s) :
    outKeep M s₀ (execRegisterWrite w a v s) := by
  unfold execRegisterWrite
  try dsimp only
  repeat' first
    | with_reducible (first | assumption | apply keep_ite | apply out_keep_ite | apply keep_next | apply keep_writeConfig
                            | apply keep_regWrite | apply keep_busWrite | exact sub_trans rfl hM)
    | split

theorem keep_execBar0BadAccess {M : Nat} {s₀ : State} (hM : M ||| 622538 = M) (write : Bool) (off : Nat) (s : State)
    (h0 : Keep M s₀ s) :
    outKeep M s₀ (execBar0BadAccess write off s) := by
  unfold execBar0BadAccess
  try dsimp only
  repeat' first
    | with_reducible (first | assumption | apply keep_ite | apply out_keep_ite | apply keep_next | apply keep_raise
                            | apply keep_answer | exact sub_trans rfl hM)
    | split

theorem keep_execBar2Access {M : Nat} {s₀ : State} (hM : M ||| 32842 = M) (off : Nat) (op : BusOp) (s : State)
    (h0 : Keep M s₀ s) :
    outKeep M s₀ (execBar2Access off op s) := by
  unfold execBar2Access
  try dsimp only
  repeat' first
    | with_reducible (first | assumption | apply keep_ite | apply out_keep_ite | apply keep_next | apply keep_report
                            | apply keep_sramWrite | exact sub_trans rfl hM)
    | exact .inl (sub_bit rfl hM)
    | with_reducible (first | exact .inr rfl | exact .inr ⟨rfl, rfl⟩ | exact .inr ⟨rfl, rfl, rfl⟩)
    | split
    | with_reducible apply keep_mk

theorem keep_passReg {M : Nat} {s₀ : State} (hM : M ||| 4226 = M) (s : State) (h : FrameHdr) (op tag off v : Nat)
    (h0 : Keep M s₀ s) :
    Keep M s₀ (State.passReg s h op tag off v) := by
  unfold State.passReg
  try dsimp only
  repeat' first
    | with_reducible (first | assumption | apply keep_latSend | exact sub_trans rfl hM)

theorem keep_execRegRead {M : Nat} {s₀ : State} (hM : M ||| 4506 = M) (h : FrameHdr) (tag : Nat) (off : Nat) (s : State)
    (h0 : Keep M s₀ s) :
    outKeep M s₀ (execRegRead h tag off s) := by
  unfold execRegRead
  try dsimp only
  repeat' first
    | intro _
    | with_reducible (first | assumption | apply keep_ite | apply out_keep_ite | apply keep_next | apply keep_receive
                            | apply keep_regRead | apply keep_latSend | apply keep_passReg | exact sub_trans rfl hM)
    | split

theorem keep_execRegWrite {M : Nat} {s₀ : State} (hM : M ||| 1834998 = M) (h : FrameHdr) (tag : Nat) (off : Nat) (v : Word) (s : State)
    (h0 : Keep M s₀ s) :
    outKeep M s₀ (execRegWrite h tag off v s) := by
  unfold execRegWrite
  try dsimp only
  repeat' first
    | intro _
    | with_reducible (first | assumption | apply keep_ite | apply out_keep_ite | apply keep_next | apply keep_receive
                            | apply keep_regWrite | apply keep_latSend | apply keep_passReg | exact sub_trans rfl hM)
    | split

theorem keep_endTag {M : Nat} {s₀ : State} (hM : M ||| 262144 = M) (s : State) (tag : Nat) (h0 : Keep M s₀ s) :
    Keep M s₀ (State.endTag s tag) := by
  unfold State.endTag
  try dsimp only
  repeat' first
    | with_reducible (first | assumption | exact sub_trans rfl hM)
    | exact .inl (sub_bit rfl hM)
    | with_reducible (first | exact .inr rfl | exact .inr ⟨rfl, rfl⟩ | exact .inr ⟨rfl, rfl, rfl⟩)
    | split
    | with_reducible apply keep_mk

theorem keep_execRegResponse {M : Nat} {s₀ : State} (hM : M ||| 266378 = M) (h : FrameHdr) (tag : Nat) (v : Word) (s : State)
    (h0 : Keep M s₀ s) :
    outKeep M s₀ (execRegResponse h tag v s) := by
  unfold execRegResponse
  try dsimp only
  repeat' first
    | intro _
    | with_reducible (first | assumption | apply keep_ite | apply out_keep_ite | apply keep_next | apply keep_receive
                            | apply keep_endTag | apply keep_answer | apply keep_passReg | exact sub_trans rfl hM)
    | split

theorem keep_execRegResponseTimeout {M : Nat} {s₀ : State} (hM : M ||| 884682 = M) (tag : Nat) (s : State) (h0 : Keep M s₀ s) :
    outKeep M s₀ (execRegResponseTimeout tag s) := by
  unfold execRegResponseTimeout
  try dsimp only
  repeat' first
    | with_reducible (first | assumption | apply keep_next | apply keep_endTag | apply keep_answer | apply keep_raise
                            | exact sub_trans rfl hM)
    | split

/-! ### Dma -/

theorem keep_elemRead {M : Nat} {s₀ : State} (hM : M ||| 884698 = M) (s : State) (pa n : Nat) (found : EccOutcome)
    (h0 : Keep M s₀ s) :
    Keep M s₀ (State.elemRead s pa n found).1 := by
  unfold State.elemRead
  try dsimp only
  repeat' first
    | with_reducible (first | assumption | apply keep_ite | apply keep_busFetch | apply keep_eccCheck | apply keep_physRead
                            | exact sub_trans rfl hM)
    | split

theorem keep_elemWrite {M : Nat} {s₀ : State} (hM : M ||| 2097142 = M) (s : State) (w : Writer) (pa : Nat) (bs : List Byte) (found : EccOutcome)
    (h0 : Keep M s₀ s) :
    Keep M s₀ (State.elemWrite s w pa bs found).1 := by
  unfold State.elemWrite
  try dsimp only
  repeat' first
    | with_reducible (first | assumption | apply keep_ite | apply keep_busWrite | apply keep_eccCheck | apply keep_physWrite
                            | exact sub_trans rfl hM)
    | split

theorem keep_elemMove {M : Nat} {s₀ : State} (hM : M ||| 2097150 = M) (s : State) (w : Writer) (src : ElemSrc) (dst n : Nat) (fs : List EccOutcome) (part : Bool)
    (h0 : Keep M s₀ s) :
    Keep M s₀ (State.elemMove s w src dst n fs part).1 := by
  unfold State.elemMove
  try dsimp only
  repeat' first
    | with_reducible (first | assumption | apply keep_ite | apply keep_elemWrite | apply keep_elemRead | exact sub_trans rfl hM)
    | split

theorem keep_elemsMove {M : Nat} {s0 : State} (hM : M ||| 2097150 = M) (w : Writer) (src : Nat → ElemSrc) (dst : Nat → Nat) (n : Nat) (part : Nat → Bool) (k i : Nat)
    (failed : Bool) (found : List EccOutcome) (s : State) (h0 : Keep M s0 s) :
    Keep M s0 (State.elemsMove w src dst n part k i failed found s).1 := by
  induction k generalizing i failed found s with
  | zero => exact h0
  | succ k ih =>
    unfold State.elemsMove
    dsimp only
    have hd := keep_draw (sub_trans rfl hM) s 2 h0
    split
    · refine ih _ _ _ _ ?_
      split
      · exact keep_elemMove (sub_trans rfl hM) _ _ _ _ _ _ _ hd
      · exact hd
    · have hr := keep_elemMove (sub_trans rfl hM) s w (src i) (dst i) n found (part i) h0
      split
      · exact ih _ _ _ _ hr
      · exact hr
      · exact ih _ _ _ _ hr

theorem keep_dmaEnd {M : Nat} {s₀ : State} (hM : M ||| 16384 = M) (s : State) (c j status cause : Nat) (h0 : Keep M s₀ s) :
    Keep M s₀ (State.dmaEnd s c j status cause) := by
  unfold State.dmaEnd
  try dsimp only
  repeat' first
    | with_reducible (first | assumption | apply keep_modDma | exact sub_trans rfl hM)

theorem keep_execDmaItemStart {M : Nat} {s₀ : State} (hM : M ||| 18434 = M) (c : Fin 16) (j : Fin 16) (s : State)
    (h0 : Keep M s₀ s) :
    outKeep M s₀ (execDmaItemStart c j s) := by
  unfold execDmaItemStart
  try dsimp only
  repeat' first
    | with_reducible (first | assumption | apply keep_ite | apply out_keep_ite | apply keep_next | apply keep_modFlight
                            | apply keep_dmaActive | apply keep_modDma | apply keep_put | apply keep_dmaEnd | apply keep_putB
                            | exact sub_trans rfl hM)
    | split

theorem keep_dmaTook {M : Nat} {s0 : State} (hM : M ||| 32768 = M) (s : State) (c j : Nat) (h0 : Keep M s0 s) :
    Keep M s0 (s.dmaTook c j) :=
  keep_of hM h0 ⟨fun hs => hs,
    fun p => by cases p <;> first | exact .inl rfl | exact .inr rfl | exact .inr ⟨rfl, rfl⟩ | exact .inr ⟨rfl, rfl, rfl⟩⟩

theorem keep_dmaBus {M : Nat} {s₀ : State} (hM : M ||| 622530 = M) (s : State) (c j : Nat) (h0 : Keep M s₀ s) :
    Keep M s₀ (State.dmaBus s c j) := by
  unfold State.dmaBus
  try dsimp only
  repeat' first
    | with_reducible (first | assumption | apply keep_dmaEnd | apply keep_event | apply keep_raise | exact sub_trans rfl hM)

theorem keep_dmaStopped {M : Nat} {s₀ : State} (hM : M ||| 622530 = M) (s : State) (c j cause va : Nat) (write : Bool)
    (h0 : Keep M s₀ s) :
    Keep M s₀ (State.dmaStopped s c j cause va write) := by
  unfold State.dmaStopped
  try dsimp only
  repeat' first
    | with_reducible (first | assumption | apply keep_ite | apply keep_dmaBus | apply keep_dmaSuspend | exact sub_trans rfl hM)
    | split

theorem keep_dmaMoved {M : Nat} {s₀ : State} (hM : M ||| 16530 = M) (s : State) (c j n : Nat) (h0 : Keep M s₀ s) :
    Keep M s₀ (State.dmaMoved s c j n) := by
  unfold State.dmaMoved
  try dsimp only
  repeat' first
    | with_reducible (first | assumption | apply keep_modDma | apply keep_netWords | apply keep_events | apply keep_event
                            | exact sub_trans rfl hM)

theorem keep_dmaNext {M : Nat} {s₀ : State} (hM : M ||| 16384 = M) (s : State) (c j : Nat) (it : Item) (h0 : Keep M s₀ s) :
    Keep M s₀ (State.dmaNext s c j it) := by
  unfold State.dmaNext
  try dsimp only
  repeat' first
    | with_reducible (first | assumption | apply keep_ite | apply keep_modDma | apply keep_dmaEnd | exact sub_trans rfl hM)
    | split

theorem keep_dmaRead {M : Nat} {s₀ : State} (hM : M ||| 917466 = M) (s : State) (c j va n : Nat) (fs : List EccOutcome)
    (h0 : Keep M s₀ s) :
    Keep M s₀ (State.dmaRead s c j va n fs).1 := by
  unfold State.dmaRead
  try dsimp only
  repeat' first
    | with_reducible (first | assumption | apply keep_translate | apply keep_elemRead | apply keep_memEvents
                            | exact sub_trans rfl hM)
    | split

theorem keep_dmaFetch {M : Nat} {s₀ : State} (hM : M ||| 917466 = M) (s : State) (c j : Nat) (it : Item) (fs : List EccOutcome)
    (h0 : Keep M s₀ s) :
    Keep M s₀ (State.dmaFetch s c j it fs).1 := by
  unfold State.dmaFetch
  try dsimp only
  repeat' first
    | with_reducible (first | assumption | apply keep_ite | apply keep_dmaRead | exact sub_trans rfl hM)
    | split

theorem keep_dmaMove {M : Nat} {s₀ : State} (hM : M ||| 2097150 = M) (s : State) (c j : Nat) (it : Item) (d : Desc) (sp dp : Nat) (fs : List EccOutcome)
    (h0 : Keep M s₀ s) :
    Keep M s₀ (State.dmaMove s c j it d sp dp fs) := by
  unfold State.dmaMove
  try dsimp only
  repeat' first
    | with_reducible (first | assumption | apply keep_ite | apply keep_elemsMove | apply keep_memEvents | apply keep_dmaMoved
                            | apply keep_modDma | apply keep_dmaStopped | apply keep_dmaNext | exact sub_trans rfl hM)
    | split

theorem keep_dmaBurstDesc {M : Nat} {s₀ : State} (hM : M ||| 2097150 = M) (s : State) (c j : Nat) (it : Item) (d : Desc) (fs : List EccOutcome)
    (h0 : Keep M s₀ s) :
    Keep M s₀ (State.dmaBurstDesc s c j it d fs) := by
  unfold State.dmaBurstDesc
  try dsimp only
  repeat' first
    | with_reducible (first | assumption | apply keep_ite | apply keep_dmaNext | apply keep_translate | apply keep_dmaSuspend
                            | apply keep_dmaMove | exact sub_trans rfl hM)
    | split

theorem keep_dmaDesc {M : Nat} {s₀ : State} (hM : M ||| 2097150 = M) (s : State) (c j : Nat) (it : Item) (fs : List EccOutcome)
    (h0 : Keep M s₀ s) :
    Keep M s₀ (State.dmaDesc s c j it fs) := by
  unfold State.dmaDesc
  try dsimp only
  repeat' first
    | with_reducible (first | assumption | apply keep_ite | apply keep_dmaBurstDesc | apply keep_dmaEnd | apply keep_dmaFetch
                            | apply keep_dmaStopped | apply keep_modDma | exact sub_trans rfl hM)
    | split

theorem keep_dmaCapture {M : Nat} {s₀ : State} (hM : M ||| 2097150 = M) (s : State) (c j : Nat) (it : Item) (fs : List EccOutcome)
    (h0 : Keep M s₀ s) :
    Keep M s₀ (State.dmaCapture s c j it fs) := by
  unfold State.dmaCapture
  try dsimp only
  repeat' first
    | with_reducible (first | assumption | apply keep_ite | apply keep_translate | apply keep_dmaSuspend | apply keep_elemsMove
                            | apply keep_memEvents | apply keep_dmaMoved | apply keep_modDma | apply keep_dmaStopped
                            | apply keep_put | apply keep_putB | apply keep_bump | apply keep_dmaEnd | exact sub_trans rfl hM)
    | split

theorem keep_execDmaBurst {M : Nat} {s₀ : State} (hM : M ||| 2097150 = M) (c : Fin 16) (j : Fin 16) (fs : List EccOutcome) (s : State)
    (h0 : Keep M s₀ s) :
    outKeep M s₀ (execDmaBurst c j fs s) := by
  unfold execDmaBurst
  try dsimp only
  repeat' first
    | with_reducible (first | assumption | apply keep_ite | apply out_keep_ite | apply keep_next | apply keep_dmaTook
                            | apply keep_dmaCapture | apply keep_dmaDesc | exact sub_trans rfl hM)
    | split

theorem keep_execDmaItemEnd {M : Nat} {s₀ : State} (hM : M ||| 18566 = M) (c : Fin 16) (j : Fin 16) (s : State)
    (h0 : Keep M s₀ s) :
    outKeep M s₀ (execDmaItemEnd c j s) := by
  unfold execDmaItemEnd
  try dsimp only
  repeat' first
    | with_reducible (first | assumption | apply keep_ite | apply out_keep_ite | apply keep_next | apply keep_dmaActive
                            | apply keep_event | apply keep_modDma | apply keep_executed | apply keep_dmaApply
                            | apply keep_dmaCommitted | exact sub_trans rfl hM)
    | exact .inl (sub_bit rfl hM)
    | with_reducible (first | exact .inr rfl | exact .inr ⟨rfl, rfl⟩ | exact .inr ⟨rfl, rfl, rfl⟩)
    | split
    | with_reducible apply keep_mk

end Sys2Proof.Machine
end

