-- ==== Sys2Proof/Laws/KeepEngine.lean ====
section
/-! SUPPORT. The frames of the instruction bundles of the engines: which parts of the state each may change, and that the
register bank and the memories keep their canonical form. -/

namespace Sys2Proof.Machine

/-! ### Bundle -/

theorem keep_engTranslate {M : Nat} {s₀ : State} (hM : M ||| 655314 = M) (s : State) (e va : Nat) (write : Bool) (found : EccOutcome)
    (h0 : Keep M s₀ s) :
    Keep M s₀ (State.engTranslate s e va write found).1 := by
  unfold State.engTranslate
  try dsimp only
  repeat' first
    | with_reducible (first | assumption | apply keep_event | apply keep_netWords | apply keep_translate
                            | exact sub_trans rfl hM)
    | split

theorem keep_engRead {M : Nat} {s₀ : State} (hM : M ||| 917466 = M) (s : State) (e va n : Nat) (found : EccOutcome)
    (h0 : Keep M s₀ s) :
    Keep M s₀ (State.engRead s e va n found).1 := by
  unfold State.engRead
  try dsimp only
  repeat' first
    | with_reducible (first | assumption | apply keep_ite | apply keep_engTranslate | apply keep_elemRead | apply keep_memEvents
                            | exact sub_trans rfl hM)
    | split

theorem keep_engWrite {M : Nat} {s₀ : State} (hM : M ||| 2097142 = M) (s : State) (e va : Nat) (bs : List Byte) (found : EccOutcome)
    (h0 : Keep M s₀ s) :
    Keep M s₀ (State.engWrite s e va bs found).1 := by
  unfold State.engWrite
  try dsimp only
  repeat' first
    | with_reducible (first | assumption | apply keep_ite | apply keep_dataWrite | apply keep_engTranslate
                            | apply keep_elemWrite | apply keep_memEvents | exact sub_trans rfl hM)
    | split

theorem keep_resultSent {M : Nat} {s₀ : State} (hM : M ||| 8338 = M) (s : State) (e : Nat) (it : Item) (h0 : Keep M s₀ s) :
    Keep M s₀ (State.resultSent s e it) := by
  unfold State.resultSent
  try dsimp only
  repeat' first
    | with_reducible (first | assumption | apply keep_ite | apply keep_modEng | apply keep_events | apply keep_netWords
                            | apply keep_bump | exact sub_trans rfl hM)
    | split

theorem keep_sendTake {M : Nat} {s0 : State} (hM : M ||| 786386 = M) (s : State) (e : Nat) (i : Inv) (it : Item) (h0 : Keep M s0 s) :
    Keep M s0 (State.sendTake s e i it).1 := by
  unfold State.sendTake
  dsimp only
  have ht := keep_takeItem (sub_trans rfl hM) s it i.pri none h0
  have hd := keep_sendDelivered (sub_trans rfl hM) (s.takeItem it i.pri none).1 it ht
  split
  · exact keep_refuseUnit (sub_trans rfl hM) _ _ _ h0
  · split
    · exact h0
    · split
      · exact h0
      · split
        · exact ht
        · split
          · rename_i t h
            rw [h] at hd
            exact keep_resultSent (sub_trans rfl hM) _ _ _ hd
          · apply keep_ite
            · exact keep_wakeUnit (sub_trans rfl hM) _ _ h0
            · exact h0

theorem keep_perform {M : Nat} {s0 : State} (hM : M ||| 2097150 = M) (s : State) (e : Nat) (found : EccOutcome) (a : Act) (h0 : Keep M s0 s) :
    Keep M s0 (State.perform s e found a).1 := by
  unfold State.perform
  dsimp only
  repeat' first
    | with_reducible (first | assumption | apply keep_ite | apply keep_engRead | apply keep_engWrite | apply keep_resultSent
                            | apply keep_sendTake | exact sub_trans rfl hM)
    | intro _
    | split

theorem keep_engSuspend {M : Nat} {s₀ : State} (hM : M ||| 622530 = M) (s : State) (e cause va : Nat) (write : Bool)
    (h0 : Keep M s₀ s) :
    Keep M s₀ (State.engSuspend s e cause va write) := by
  unfold State.engSuspend
  try dsimp only
  repeat' first
    | with_reducible (first | assumption | apply keep_ite | apply keep_engException | apply keep_put | apply keep_putB
                            | apply keep_modEng | apply keep_syncEng | apply keep_raise | apply keep_bump | apply keep_event
                            | exact sub_trans rfl hM)
    | split

theorem keep_clearSats {M : Nat} {s₀ : State} (hM : M ||| 8208 = M) (s : State) (e : Nat) (es : List Eff) (h0 : Keep M s₀ s) :
    Keep M s₀ (State.clearSats s e es) := by
  unfold State.clearSats
  try dsimp only
  repeat' first
    | with_reducible (first | assumption | apply keep_ite | apply keep_draw | apply keep_modEng | exact sub_trans rfl hM)
    | split

theorem keep_afterBundle {M : Nat} {s₀ : State} (hM : M ||| 786390 = M) (s : State) (e pc : Nat) (act : Act) (h0 : Keep M s₀ s) :
    Keep M s₀ (State.afterBundle s e pc act) := by
  unfold State.afterBundle
  try dsimp only
  repeat' first
    | with_reducible (first | assumption | apply keep_invEnd | apply keep_feedEngine | apply keep_put | apply keep_event
                            | apply keep_raise | exact sub_trans rfl hM)
    | split

theorem keep_runBundle {M : Nat} {s₀ : State} (hM : M ||| 2097150 = M) (s : State) (e : Nat) (es : List Eff) (h0 : Keep M s₀ s) :
    Keep M s₀ (State.runBundle s e es) := by
  unfold State.runBundle
  try dsimp only
  repeat' first
    | intro _
    | with_reducible (first | assumption | apply keep_ite | apply keep_modEng | apply keep_engException | apply keep_event
                            | apply keep_events | apply keep_perform | apply keep_engSuspend | apply keep_haltDue
                            | apply keep_abandonDue | apply keep_clearSats | apply keep_afterBundle | apply keep_syncEng
                            | apply keep_foldl | exact sub_trans rfl hM)
    | split

theorem keep_issue {M : Nat} {s₀ : State} (hM : M ||| 2097150 = M) (s : State) (i : Issue) (f : EngRegs → Bool → Eff)
    (h0 : Keep M s₀ s) :
    outKeep M s₀ (State.issue s i f) := by
  unfold State.issue
  try dsimp only
  repeat' first
    | with_reducible (first | assumption | apply keep_ite | apply out_keep_ite | apply keep_next | apply keep_runBundle
                            | apply keep_modEng | exact sub_trans rfl hM)
    | split

/-! ### Alu -/

theorem keep_execNop {M : Nat} {s₀ : State} (hM : M ||| 2097150 = M) (i : Issue) (s : State) (h0 : Keep M s₀ s) :
    outKeep M s₀ (execNop i s) := by
  unfold execNop
  try dsimp only
  repeat' first
    | with_reducible (first | assumption | apply keep_next | apply keep_issue | exact sub_trans rfl hM)

theorem keep_execAdd {M : Nat} {s₀ : State} (hM : M ||| 2097150 = M) (i : Issue) (d a b : Fin 64) (w : Option (Fin 4)) (s : State)
    (h0 : Keep M s₀ s) :
    outKeep M s₀ (execAdd i d a b w s) := by
  unfold execAdd
  try dsimp only
  repeat' first
    | with_reducible (first | assumption | apply keep_next | apply keep_issue | exact sub_trans rfl hM)

theorem keep_execSub {M : Nat} {s₀ : State} (hM : M ||| 2097150 = M) (i : Issue) (d a b : Fin 64) (w : Option (Fin 4)) (s : State)
    (h0 : Keep M s₀ s) :
    outKeep M s₀ (execSub i d a b w s) := by
  unfold execSub
  try dsimp only
  repeat' first
    | with_reducible (first | assumption | apply keep_next | apply keep_issue | exact sub_trans rfl hM)

theorem keep_execAnd {M : Nat} {s₀ : State} (hM : M ||| 2097150 = M) (i : Issue) (d a b : Fin 64) (w : Option (Fin 4)) (s : State)
    (h0 : Keep M s₀ s) :
    outKeep M s₀ (execAnd i d a b w s) := by
  unfold execAnd
  try dsimp only
  repeat' first
    | with_reducible (first | assumption | apply keep_next | apply keep_issue | exact sub_trans rfl hM)

theorem keep_execOr {M : Nat} {s₀ : State} (hM : M ||| 2097150 = M) (i : Issue) (d a b : Fin 64) (w : Option (Fin 4)) (s : State)
    (h0 : Keep M s₀ s) :
    outKeep M s₀ (execOr i d a b w s) := by
  unfold execOr
  try dsimp only
  repeat' first
    | with_reducible (first | assumption | apply keep_next | apply keep_issue | exact sub_trans rfl hM)

theorem keep_execXor {M : Nat} {s₀ : State} (hM : M ||| 2097150 = M) (i : Issue) (d a b : Fin 64) (w : Option (Fin 4)) (s : State)
    (h0 : Keep M s₀ s) :
    outKeep M s₀ (execXor i d a b w s) := by
  unfold execXor
  try dsimp only
  repeat' first
    | with_reducible (first | assumption | apply keep_next | apply keep_issue | exact sub_trans rfl hM)

theorem keep_execAndn {M : Nat} {s₀ : State} (hM : M ||| 2097150 = M) (i : Issue) (d a b : Fin 64) (w : Option (Fin 4)) (s : State)
    (h0 : Keep M s₀ s) :
    outKeep M s₀ (execAndn i d a b w s) := by
  unfold execAndn
  try dsimp only
  repeat' first
    | with_reducible (first | assumption | apply keep_next | apply keep_issue | exact sub_trans rfl hM)

theorem keep_execMin {M : Nat} {s₀ : State} (hM : M ||| 2097150 = M) (i : Issue) (d a b : Fin 64) (w : Option (Fin 4)) (s : State)
    (h0 : Keep M s₀ s) :
    outKeep M s₀ (execMin i d a b w s) := by
  unfold execMin
  try dsimp only
  repeat' first
    | with_reducible (first | assumption | apply keep_ite | apply out_keep_ite | apply keep_next | apply keep_issue
                            | exact sub_trans rfl hM)
    | split

theorem keep_execMax {M : Nat} {s₀ : State} (hM : M ||| 2097150 = M) (i : Issue) (d a b : Fin 64) (w : Option (Fin 4)) (s : State)
    (h0 : Keep M s₀ s) :
    outKeep M s₀ (execMax i d a b w s) := by
  unfold execMax
  try dsimp only
  repeat' first
    | with_reducible (first | assumption | apply keep_ite | apply out_keep_ite | apply keep_next | apply keep_issue
                            | exact sub_trans rfl hM)
    | split

theorem keep_execAbs {M : Nat} {s₀ : State} (hM : M ||| 2097150 = M) (i : Issue) (d a b : Fin 64) (w : Option (Fin 4)) (s : State)
    (h0 : Keep M s₀ s) :
    outKeep M s₀ (execAbs i d a b w s) := by
  unfold execAbs
  try dsimp only
  repeat' first
    | with_reducible (first | assumption | apply keep_next | apply keep_issue | exact sub_trans rfl hM)

theorem keep_execNeg {M : Nat} {s₀ : State} (hM : M ||| 2097150 = M) (i : Issue) (d a b : Fin 64) (w : Option (Fin 4)) (s : State)
    (h0 : Keep M s₀ s) :
    outKeep M s₀ (execNeg i d a b w s) := by
  unfold execNeg
  try dsimp only
  repeat' first
    | with_reducible (first | assumption | apply keep_next | apply keep_issue | exact sub_trans rfl hM)

theorem keep_execCmp {M : Nat} {s₀ : State} (hM : M ||| 2097150 = M) (i : Issue) (d a b : Fin 64) (w : Option (Fin 4)) (s : State)
    (h0 : Keep M s₀ s) :
    outKeep M s₀ (execCmp i d a b w s) := by
  unfold execCmp
  try dsimp only
  repeat' first
    | with_reducible (first | assumption | apply keep_next | apply keep_issue | exact sub_trans rfl hM)

theorem keep_execAddH {M : Nat} {s₀ : State} (hM : M ||| 2097150 = M) (i : Issue) (d a b : Fin 64) (w : Option (Fin 4)) (s : State)
    (h0 : Keep M s₀ s) :
    outKeep M s₀ (execAddH i d a b w s) := by
  unfold execAddH
  try dsimp only
  repeat' first
    | with_reducible (first | assumption | apply keep_next | apply keep_issue | exact sub_trans rfl hM)

theorem keep_execSubH {M : Nat} {s₀ : State} (hM : M ||| 2097150 = M) (i : Issue) (d a b : Fin 64) (w : Option (Fin 4)) (s : State)
    (h0 : Keep M s₀ s) :
    outKeep M s₀ (execSubH i d a b w s) := by
  unfold execSubH
  try dsimp only
  repeat' first
    | with_reducible (first | assumption | apply keep_next | apply keep_issue | exact sub_trans rfl hM)

theorem keep_execAddsH {M : Nat} {s₀ : State} (hM : M ||| 2097150 = M) (i : Issue) (d a b : Fin 64) (w : Option (Fin 4)) (s : State)
    (h0 : Keep M s₀ s) :
    outKeep M s₀ (execAddsH i d a b w s) := by
  unfold execAddsH
  try dsimp only
  repeat' first
    | with_reducible (first | assumption | apply keep_next | apply keep_issue | exact sub_trans rfl hM)

theorem keep_execSubsH {M : Nat} {s₀ : State} (hM : M ||| 2097150 = M) (i : Issue) (d a b : Fin 64) (w : Option (Fin 4)) (s : State)
    (h0 : Keep M s₀ s) :
    outKeep M s₀ (execSubsH i d a b w s) := by
  unfold execSubsH
  try dsimp only
  repeat' first
    | with_reducible (first | assumption | apply keep_next | apply keep_issue | exact sub_trans rfl hM)

theorem keep_execAsr {M : Nat} {s₀ : State} (hM : M ||| 2097150 = M) (i : Issue) (d a b : Fin 64) (w : Option (Fin 4)) (s : State)
    (h0 : Keep M s₀ s) :
    outKeep M s₀ (execAsr i d a b w s) := by
  unfold execAsr
  try dsimp only
  repeat' first
    | with_reducible (first | assumption | apply keep_next | apply keep_issue | exact sub_trans rfl hM)

theorem keep_execLsr {M : Nat} {s₀ : State} (hM : M ||| 2097150 = M) (i : Issue) (d a b : Fin 64) (w : Option (Fin 4)) (s : State)
    (h0 : Keep M s₀ s) :
    outKeep M s₀ (execLsr i d a b w s) := by
  unfold execLsr
  try dsimp only
  repeat' first
    | with_reducible (first | assumption | apply keep_next | apply keep_issue | exact sub_trans rfl hM)

theorem keep_execLsl {M : Nat} {s₀ : State} (hM : M ||| 2097150 = M) (i : Issue) (d a b : Fin 64) (w : Option (Fin 4)) (s : State)
    (h0 : Keep M s₀ s) :
    outKeep M s₀ (execLsl i d a b w s) := by
  unfold execLsl
  try dsimp only
  repeat' first
    | with_reducible (first | assumption | apply keep_next | apply keep_issue | exact sub_trans rfl hM)

theorem keep_execAsrr {M : Nat} {s₀ : State} (hM : M ||| 2097150 = M) (i : Issue) (d a b : Fin 64) (w : Option (Fin 4)) (s : State)
    (h0 : Keep M s₀ s) :
    outKeep M s₀ (execAsrr i d a b w s) := by
  unfold execAsrr
  try dsimp only
  repeat' first
    | with_reducible (first | assumption | apply keep_next | apply keep_issue | exact sub_trans rfl hM)

theorem keep_execAsri {M : Nat} {s₀ : State} (hM : M ||| 2097150 = M) (i : Issue) (d a b : Fin 64) (w : Option (Fin 4)) (s : State)
    (h0 : Keep M s₀ s) :
    outKeep M s₀ (execAsri i d a b w s) := by
  unfold execAsri
  try dsimp only
  repeat' first
    | with_reducible (first | assumption | apply keep_next | apply keep_issue | exact sub_trans rfl hM)

theorem keep_execLsri {M : Nat} {s₀ : State} (hM : M ||| 2097150 = M) (i : Issue) (d a b : Fin 64) (w : Option (Fin 4)) (s : State)
    (h0 : Keep M s₀ s) :
    outKeep M s₀ (execLsri i d a b w s) := by
  unfold execLsri
  try dsimp only
  repeat' first
    | with_reducible (first | assumption | apply keep_next | apply keep_issue | exact sub_trans rfl hM)

theorem keep_execLsli {M : Nat} {s₀ : State} (hM : M ||| 2097150 = M) (i : Issue) (d a b : Fin 64) (w : Option (Fin 4)) (s : State)
    (h0 : Keep M s₀ s) :
    outKeep M s₀ (execLsli i d a b w s) := by
  unfold execLsli
  try dsimp only
  repeat' first
    | with_reducible (first | assumption | apply keep_next | apply keep_issue | exact sub_trans rfl hM)

theorem keep_execAsrri {M : Nat} {s₀ : State} (hM : M ||| 2097150 = M) (i : Issue) (d a b : Fin 64) (w : Option (Fin 4)) (s : State)
    (h0 : Keep M s₀ s) :
    outKeep M s₀ (execAsrri i d a b w s) := by
  unfold execAsrri
  try dsimp only
  repeat' first
    | with_reducible (first | assumption | apply keep_next | apply keep_issue | exact sub_trans rfl hM)

theorem keep_execLsc {M : Nat} {s₀ : State} (hM : M ||| 2097150 = M) (i : Issue) (d a b : Fin 64) (w : Option (Fin 4)) (s : State)
    (h0 : Keep M s₀ s) :
    outKeep M s₀ (execLsc i d a b w s) := by
  unfold execLsc
  try dsimp only
  repeat' first
    | with_reducible (first | assumption | apply keep_next | apply keep_issue | exact sub_trans rfl hM)

theorem keep_execAddi {M : Nat} {s₀ : State} (hM : M ||| 2097150 = M) (i : Issue) (d a : Fin 64) (imm : BitVec 14) (s : State)
    (h0 : Keep M s₀ s) :
    outKeep M s₀ (execAddi i d a imm s) := by
  unfold execAddi
  try dsimp only
  repeat' first
    | with_reducible (first | assumption | apply keep_next | apply keep_issue | exact sub_trans rfl hM)

theorem keep_execAndi {M : Nat} {s₀ : State} (hM : M ||| 2097150 = M) (i : Issue) (d a : Fin 64) (imm : BitVec 14) (s : State)
    (h0 : Keep M s₀ s) :
    outKeep M s₀ (execAndi i d a imm s) := by
  unfold execAndi
  try dsimp only
  repeat' first
    | with_reducible (first | assumption | apply keep_next | apply keep_issue | exact sub_trans rfl hM)

theorem keep_execOri {M : Nat} {s₀ : State} (hM : M ||| 2097150 = M) (i : Issue) (d a : Fin 64) (imm : BitVec 14) (s : State)
    (h0 : Keep M s₀ s) :
    outKeep M s₀ (execOri i d a imm s) := by
  unfold execOri
  try dsimp only
  repeat' first
    | with_reducible (first | assumption | apply keep_next | apply keep_issue | exact sub_trans rfl hM)

theorem keep_execXori {M : Nat} {s₀ : State} (hM : M ||| 2097150 = M) (i : Issue) (d a : Fin 64) (imm : BitVec 14) (s : State)
    (h0 : Keep M s₀ s) :
    outKeep M s₀ (execXori i d a imm s) := by
  unfold execXori
  try dsimp only
  repeat' first
    | with_reducible (first | assumption | apply keep_next | apply keep_issue | exact sub_trans rfl hM)

theorem keep_execCmpi {M : Nat} {s₀ : State} (hM : M ||| 2097150 = M) (i : Issue) (d a : Fin 64) (imm : BitVec 14) (s : State)
    (h0 : Keep M s₀ s) :
    outKeep M s₀ (execCmpi i d a imm s) := by
  unfold execCmpi
  try dsimp only
  repeat' first
    | with_reducible (first | assumption | apply keep_next | apply keep_issue | exact sub_trans rfl hM)

theorem keep_execDivs {M : Nat} {s₀ : State} (hM : M ||| 2097150 = M) (i : Issue) (d a b : Fin 64) (s : State)
    (h0 : Keep M s₀ s) :
    outKeep M s₀ (execDivs i d a b s) := by
  unfold execDivs
  try dsimp only
  repeat' first
    | with_reducible (first | assumption | apply keep_next | apply keep_issue | exact sub_trans rfl hM)

theorem keep_execDivu {M : Nat} {s₀ : State} (hM : M ||| 2097150 = M) (i : Issue) (d a b : Fin 64) (s : State)
    (h0 : Keep M s₀ s) :
    outKeep M s₀ (execDivu i d a b s) := by
  unfold execDivu
  try dsimp only
  repeat' first
    | with_reducible (first | assumption | apply keep_next | apply keep_issue | exact sub_trans rfl hM)

/-! ### Apply -/

theorem keep_writeRecords {M : Nat} {s₀ : State} (hM : M ||| 1834998 = M) (s : State) (rs : List (Nat × Nat)) (h0 : Keep M s₀ s) :
    Keep M s₀ (State.writeRecords s rs) := by
  unfold State.writeRecords
  try dsimp only
  repeat' first
    | intro _
    | with_reducible (first | assumption | apply keep_regWrite | apply keep_foldl | exact sub_trans rfl hM)

theorem keep_commitRecords {M : Nat} {s₀ : State} (hM : M ||| 622550 = M) (s : State) (rs : List (Nat × Nat)) (h0 : Keep M s₀ s) :
    Keep M s₀ (State.commitRecords s rs) := by
  unfold State.commitRecords
  try dsimp only
  repeat' first
    | intro _
    | with_reducible (first | assumption | apply keep_commitPage | apply keep_foldl | exact sub_trans rfl hM)

theorem keep_applyRecords {M : Nat} {s₀ : State} (hM : M ||| 1834998 = M) (s : State) (rs : List (Nat × Nat)) (h0 : Keep M s₀ s) :
    Keep M s₀ (State.applyRecords s rs) := by
  unfold State.applyRecords
  try dsimp only
  repeat' first
    | with_reducible (first | assumption | apply keep_writeRecords | apply keep_commitRecords | exact sub_trans rfl hM)

theorem keep_applyPolicy {M : Nat} {s₀ : State} (hM : M ||| 258 = M) (s : State) (bs : List Byte) (h0 : Keep M s₀ s) :
    Keep M s₀ (State.applyPolicy s bs) := by
  unfold State.applyPolicy
  try dsimp only
  repeat' first
    | intro _
    | with_reducible (first | assumption | apply keep_ite | apply keep_put | apply keep_setReminder | apply keep_foldl
                            | exact sub_trans rfl hM)
    | split
    | simp only [id_eq]

theorem keep_applySection {M : Nat} {s₀ : State} (hM : M ||| 1834998 = M) (s : State) (x : Section) (h0 : Keep M s₀ s) :
    Keep M s₀ (State.applySection s x) := by
  unfold State.applySection
  try dsimp only
  repeat' first
    | intro _
    | with_reducible (first | assumption | apply keep_ite | apply keep_openRegion | apply keep_applyRecords
                            | apply keep_applyEngine | apply keep_engStart | apply keep_physWrite | apply keep_applyPolicy
                            | apply keep_foldl | exact sub_trans rfl hM)
    | split

theorem keep_applySections {M : Nat} {s₀ : State} (hM : M ||| 1834998 = M) (s : State) (img : PersStream) (h0 : Keep M s₀ s) :
    Keep M s₀ (State.applySections s img) := by
  unfold State.applySections
  try dsimp only
  repeat' first
    | intro _
    | with_reducible (first | assumption | apply keep_applySection | apply keep_foldl | exact sub_trans rfl hM)

theorem keep_applyStopped {M : Nat} {s₀ : State} (hM : M ||| 1834998 = M) (s : State) (img : PersStream) (h0 : Keep M s₀ s) :
    Keep M s₀ (State.applyStopped s img) := by
  unfold State.applyStopped
  try dsimp only
  repeat' first
    | intro _
    | with_reducible (first | assumption | apply keep_draw | apply keep_applySection | apply keep_putB | apply keep_foldl
                            | exact sub_trans rfl hM)
    | exact .inl (sub_bit rfl hM)
    | with_reducible (first | exact .inr rfl | exact .inr ⟨rfl, rfl⟩ | exact .inr ⟨rfl, rfl, rfl⟩)
    | split
    | with_reducible apply keep_mk

theorem keep_girthAll {M : Nat} {s₀ : State} (hM : M ||| 68482 = M) (s : State) (h0 : Keep M s₀ s) :
    Keep M s₀ (State.girthAll s) := by
  unfold State.girthAll
  try dsimp only
  repeat' first
    | intro _
    | with_reducible (first | assumption | apply keep_ite | apply keep_closeGirth | apply keep_foldl | exact sub_trans rfl hM)
    | split

theorem keep_waitSync {M : Nat} {s₀ : State} (hM : M ||| 2050 = M) (s : State) (k : Nat) (h0 : Keep M s₀ s) :
    Keep M s₀ (State.waitSync s k) := by
  unfold State.waitSync
  try dsimp only
  repeat' first
    | with_reducible (first | assumption | apply keep_modStream | apply keep_syncWait | exact sub_trans rfl hM)

theorem keep_loadOpen {M : Nat} {s₀ : State} (hM : M ||| 2066 = M) (s : State) (k digest : Nat) (h0 : Keep M s₀ s) :
    Keep M s₀ (State.loadOpen s k digest) := by
  unfold State.loadOpen
  try dsimp only
  repeat' first
    | with_reducible (first | assumption | apply keep_ite | apply keep_openStream | apply keep_modStream | apply keep_putB
                            | apply keep_waitSync | exact sub_trans rfl hM)
    | split

theorem keep_openStreams {M : Nat} {s₀ : State} (hM : M ||| 2066 = M) (s : State) (digest : Nat) (h0 : Keep M s₀ s) :
    Keep M s₀ (State.openStreams s digest) := by
  unfold State.openStreams
  try dsimp only
  repeat' first
    | intro _
    | with_reducible (first | assumption | apply keep_ite | apply keep_loadOpen | apply keep_foldl | exact sub_trans rfl hM)
    | split

theorem keep_execApplyDone {M : Nat} {s₀ : State} (hM : M ||| 1834998 = M) (written : Bool) (s : State) (h0 : Keep M s₀ s) :
    outKeep M s₀ (execApplyDone written s) := by
  unfold execApplyDone
  try dsimp only
  repeat' first
    | intro _
    | with_reducible (first | assumption | apply keep_ite | apply out_keep_ite | apply keep_next | apply keep_applyStopped
                            | apply keep_putB | apply keep_girthAll | apply keep_rejectLoad | apply keep_applySections
                            | apply keep_openStreams | apply keep_latSend | apply keep_foldl | exact sub_trans rfl hM)
    | exact .inl (sub_bit rfl hM)
    | with_reducible (first | exact .inr rfl | exact .inr ⟨rfl, rfl⟩ | exact .inr ⟨rfl, rfl, rfl⟩)
    | split
    | with_reducible apply keep_mk

theorem keep_cancelOff {M : Nat} {s₀ : State} (hM : M ||| 133250 = M) (s : State) (d : Nat) (h0 : Keep M s₀ s) :
    Keep M s₀ (State.cancelOff s d) := by
  unfold State.cancelOff
  try dsimp only
  repeat' first
    | intro _
    | with_reducible (first | assumption | apply keep_ite | apply keep_endQuiesce | apply keep_pwrDone | apply keep_foldl
                            | exact sub_trans rfl hM)
    | exact .inl (sub_bit rfl hM)
    | with_reducible (first | exact .inr rfl | exact .inr ⟨rfl, rfl⟩ | exact .inr ⟨rfl, rfl, rfl⟩)
    | split
    | with_reducible apply keep_mk

theorem keep_setDomain {M : Nat} {s₀ : State} (hM : M ||| 786370 = M) (s : State) (d : Nat) (want : Bool) (h0 : Keep M s₀ s) :
    Keep M s₀ (State.setDomain s d want) := by
  unfold State.setDomain
  try dsimp only
  repeat' first
    | intro _
    | with_reducible (first | assumption | apply keep_ite | apply keep_cancelOff | apply keep_startDomain
                            | apply keep_endQuiesce | apply keep_removeDomain | apply keep_pwrDone | apply keep_foldl
                            | exact sub_trans rfl hM)
    | split

theorem keep_loadDomains {M : Nat} {s₀ : State} (hM : M ||| 786370 = M) (s : State) (h0 : Keep M s₀ s) :
    Keep M s₀ (State.loadDomains s) := by
  unfold State.loadDomains
  try dsimp only
  repeat' first
    | intro _
    | with_reducible (first | assumption | apply keep_setDomain | apply keep_foldl | exact sub_trans rfl hM)

theorem keep_enginesNormal {M : Nat} {s₀ : State} (hM : M ||| 8194 = M) (s : State) (h0 : Keep M s₀ s) :
    Keep M s₀ (State.enginesNormal s) := by
  unfold State.enginesNormal
  try dsimp only
  repeat' first
    | intro _
    | with_reducible (first | assumption | apply keep_ite | apply keep_engNormal | apply keep_foldl | exact sub_trans rfl hM)
    | split

theorem keep_execLoaded {M : Nat} {s₀ : State} (hM : M ||| 786370 = M) (s : State) (h0 : Keep M s₀ s) :
    outKeep M s₀ (execLoaded s) := by
  unfold execLoaded
  try dsimp only
  repeat' first
    | intro _
    | with_reducible (first | assumption | apply keep_ite | apply out_keep_ite | apply keep_next | apply keep_setLoad
                            | apply keep_count | apply keep_enginesNormal | apply keep_loadDomains | apply keep_connectTile
                            | apply keep_foldl | exact sub_trans rfl hM)
    | exact .inl (sub_bit rfl hM)
    | with_reducible (first | exact .inr rfl | exact .inr ⟨rfl, rfl⟩ | exact .inr ⟨rfl, rfl, rfl⟩)
    | split
    | with_reducible apply keep_mk

theorem keep_releaseTile {M : Nat} {s₀ : State} (hM : M ||| 1834998 = M) (s : State) (t : Nat) (x : Section) (h0 : Keep M s₀ s) :
    Keep M s₀ (State.releaseTile s t x) := by
  unfold State.releaseTile
  try dsimp only
  repeat' first
    | intro _
    | with_reducible (first | assumption | apply keep_ite | apply keep_writeRecords | apply keep_commitRecords
                            | apply keep_eachPin | apply keep_rotRelease | apply keep_rotResume | apply keep_modTile
                            | apply keep_startSeq | exact sub_trans rfl hM)
    | exact .inl (sub_bit rfl hM)
    | with_reducible (first | exact .inr rfl | exact .inr ⟨rfl, rfl⟩ | exact .inr ⟨rfl, rfl, rfl⟩)
    | split
    | with_reducible apply keep_mk

theorem keep_releaseEngine {M : Nat} {s₀ : State} (hM : M ||| 106498 = M) (s : State) (e : Nat) (x : Section) (h0 : Keep M s₀ s) :
    Keep M s₀ (State.releaseEngine s e x) := by
  unfold State.releaseEngine
  try dsimp only
  repeat' first
    | intro _
    | with_reducible (first | assumption | apply keep_applyEngine | apply keep_engStart | apply keep_foldl
                            | exact sub_trans rfl hM)
    | exact .inl (sub_bit rfl hM)
    | with_reducible (first | exact .inr rfl | exact .inr ⟨rfl, rfl⟩ | exact .inr ⟨rfl, rfl, rfl⟩)
    | split
    | with_reducible apply keep_mk

theorem keep_freeTarget {M : Nat} {s₀ : State} (hM : M ||| 66 = M) (s : State) (u : Nat) (h0 : Keep M s₀ s) :
    Keep M s₀ (State.freeTarget s u) := by
  unfold State.freeTarget
  try dsimp only
  repeat' first
    | intro _
    | with_reducible (first | assumption | apply keep_ite | apply keep_putB | apply keep_foldl | exact sub_trans rfl hM)
    | exact .inl (sub_bit rfl hM)
    | with_reducible (first | exact .inr rfl | exact .inr ⟨rfl, rfl⟩ | exact .inr ⟨rfl, rfl, rfl⟩)
    | split
    | with_reducible apply keep_mk

theorem keep_execGirthRelease {M : Nat} {s₀ : State} (hM : M ||| 1834998 = M) (written : Bool) (s : State) (h0 : Keep M s₀ s) :
    outKeep M s₀ (execGirthRelease written s) := by
  unfold execGirthRelease
  try dsimp only
  repeat' first
    | with_reducible (first | assumption | apply keep_ite | apply out_keep_ite | apply keep_next | apply keep_frameErr
                            | apply keep_freeTarget | apply keep_openRegion | apply keep_releaseTile | apply keep_releaseEngine
                            | apply keep_put | apply keep_endReload | apply keep_endQuiesce | exact sub_trans rfl hM)
    | split

theorem keep_reopenD {M : Nat} {s₀ : State} (hM : M ||| 2066 = M) (s : State) (h0 : Keep M s₀ s) :
    Keep M s₀ (State.reopenD s) := by
  unfold State.reopenD
  try dsimp only
  repeat' first
    | intro _
    | with_reducible (first | assumption | apply keep_ite | apply keep_openStream | apply keep_foldl | exact sub_trans rfl hM)
    | split

theorem keep_reapply {M : Nat} {s₀ : State} (hM : M ||| 1834998 = M) (s : State) (img : PersStream) (h0 : Keep M s₀ s) :
    Keep M s₀ (State.reapply s img) := by
  unfold State.reapply
  try dsimp only
  repeat' first
    | with_reducible (first | assumption | apply keep_applySections | apply keep_reopenD | apply keep_enginesNormal
                            | exact sub_trans rfl hM)

theorem keep_restoreTiles {M : Nat} {s₀ : State} (hM : M ||| 1794 = M) (s : State) (h0 : Keep M s₀ s) :
    Keep M s₀ (State.restoreTiles s) := by
  unfold State.restoreTiles
  try dsimp only
  repeat' first
    | intro _
    | with_reducible (first | assumption | apply keep_ite | apply keep_convReady | apply keep_loadSets | apply keep_showSelf
                            | apply keep_foldl | exact sub_trans rfl hM)
    | split

theorem keep_warmEnd {M : Nat} {s₀ : State} (hM : M ||| 884690 = M) (s : State) (h0 : Keep M s₀ s) :
    Keep M s₀ (State.warmEnd s) := by
  unfold State.warmEnd
  try dsimp only
  repeat' first
    | intro _
    | with_reducible (first | assumption | apply keep_ite | apply keep_restoreTiles | apply keep_readLines | apply keep_bump
                            | apply keep_dirtyAll | apply keep_putB | apply keep_eachTilePin | apply keep_syncDout
                            | apply keep_enterC4 | apply keep_raise | apply keep_foldl | exact sub_trans rfl hM)
    | exact .inl (sub_bit rfl hM)
    | with_reducible (first | exact .inr rfl | exact .inr ⟨rfl, rfl⟩ | exact .inr ⟨rfl, rfl, rfl⟩)
    | split
    | with_reducible apply keep_mk

theorem keep_execWarmResetReapply {M : Nat} {s₀ : State} (hM : M ||| 2097142 = M) (hashOk : Bool) (s : State) (h0 : Keep M s₀ s) :
    outKeep M s₀ (execWarmResetReapply hashOk s) := by
  unfold execWarmResetReapply
  try dsimp only
  repeat' first
    | with_reducible (first | assumption | apply keep_ite | apply out_keep_ite | apply keep_next | apply keep_warmEnd
                            | apply keep_rejectLoad | apply keep_reapply | exact sub_trans rfl hM)
    | split

theorem keep_execFiddleheadReady {M : Nat} {s₀ : State} (hM : M ||| 786390 = M) (d : Fin 212) (s : State) (h0 : Keep M s₀ s) :
    outKeep M s₀ (execFiddleheadReady d s) := by
  unfold execFiddleheadReady
  try dsimp only
  repeat' first
    | with_reducible (first | assumption | apply keep_ite | apply out_keep_ite | apply keep_next | apply keep_domainReady
                            | apply keep_commitDeferred | apply keep_pwrDone | exact sub_trans rfl hM)
    | split

/-! ### Control -/

theorem keep_execBCond {M : Nat} {s₀ : State} (hM : M ||| 2097150 = M) (i : Issue) (cond : Fin 16) (tgt : Fin 4096) (s : State)
    (h0 : Keep M s₀ s) :
    outKeep M s₀ (execBCond i cond tgt s) := by
  unfold execBCond
  try dsimp only
  repeat' first
    | with_reducible (first | assumption | apply keep_ite | apply out_keep_ite | apply keep_next | apply keep_issue
                            | exact sub_trans rfl hM)
    | split

theorem keep_execJal {M : Nat} {s₀ : State} (hM : M ||| 2097150 = M) (i : Issue) (d : Fin 64) (tgt : Fin 4096) (s : State)
    (h0 : Keep M s₀ s) :
    outKeep M s₀ (execJal i d tgt s) := by
  unfold execJal
  try dsimp only
  repeat' first
    | with_reducible (first | assumption | apply keep_next | apply keep_issue | exact sub_trans rfl hM)

theorem keep_execJr {M : Nat} {s₀ : State} (hM : M ||| 2097150 = M) (i : Issue) (g : Fin 64) (s : State) (h0 : Keep M s₀ s) :
    outKeep M s₀ (execJr i g s) := by
  unfold execJr
  try dsimp only
  repeat' first
    | with_reducible (first | assumption | apply keep_next | apply keep_issue | exact sub_trans rfl hM)

theorem keep_execRepeatB {M : Nat} {s₀ : State} (hM : M ||| 2097150 = M) (i : Issue) (s : Bool) (k : Fin 64) (cnt : BitVec 12) (st : State)
    (h0 : Keep M s₀ st) :
    outKeep M s₀ (execRepeatB i s k cnt st) := by
  unfold execRepeatB
  try dsimp only
  repeat' first
    | with_reducible (first | assumption | apply keep_ite | apply out_keep_ite | apply keep_next | apply keep_issue
                            | exact sub_trans rfl hM)
    | split

theorem keep_execSend {M : Nat} {s₀ : State} (hM : M ||| 2097150 = M) (i : Issue) (gs : Fin 64) (pt pp : Fin 16) (gl : Fin 64) (e : Bool) (s : State)
    (h0 : Keep M s₀ s) :
    outKeep M s₀ (execSend i gs pt pp gl e s) := by
  unfold execSend
  try dsimp only
  repeat' first
    | with_reducible (first | assumption | apply keep_next | apply keep_issue | exact sub_trans rfl hM)

theorem keep_execEndInv {M : Nat} {s₀ : State} (hM : M ||| 2097150 = M) (i : Issue) (s : State) (h0 : Keep M s₀ s) :
    outKeep M s₀ (execEndInv i s) := by
  unfold execEndInv
  try dsimp only
  repeat' first
    | with_reducible (first | assumption | apply keep_next | apply keep_issue | exact sub_trans rfl hM)

theorem keep_execFence {M : Nat} {s₀ : State} (hM : M ||| 2097150 = M) (i : Issue) (s : State) (h0 : Keep M s₀ s) :
    outKeep M s₀ (execFence i s) := by
  unfold execFence
  try dsimp only
  repeat' first
    | with_reducible (first | assumption | apply keep_next | apply keep_issue | exact sub_trans rfl hM)

theorem keep_execTrap {M : Nat} {s₀ : State} (hM : M ||| 2097150 = M) (i : Issue) (imm : BitVec 16) (s : State)
    (h0 : Keep M s₀ s) :
    outKeep M s₀ (execTrap i imm s) := by
  unfold execTrap
  try dsimp only
  repeat' first
    | with_reducible (first | assumption | apply keep_next | apply keep_issue | exact sub_trans rfl hM)

/-! ### LoadStore -/

theorem keep_execLd {M : Nat} {s₀ : State} (hM : M ||| 2097150 = M) (i : Issue) (g : Fin 64) (m : MemAddr) (s : State)
    (h0 : Keep M s₀ s) :
    outKeep M s₀ (execLd i g m s) := by
  unfold execLd
  try dsimp only
  repeat' first
    | with_reducible (first | assumption | apply keep_next | apply keep_issue | exact sub_trans rfl hM)

theorem keep_execLdh {M : Nat} {s₀ : State} (hM : M ||| 2097150 = M) (i : Issue) (g : Fin 64) (m : MemAddr) (s : State)
    (h0 : Keep M s₀ s) :
    outKeep M s₀ (execLdh i g m s) := by
  unfold execLdh
  try dsimp only
  repeat' first
    | with_reducible (first | assumption | apply keep_next | apply keep_issue | exact sub_trans rfl hM)

theorem keep_execLdhu {M : Nat} {s₀ : State} (hM : M ||| 2097150 = M) (i : Issue) (g : Fin 64) (m : MemAddr) (s : State)
    (h0 : Keep M s₀ s) :
    outKeep M s₀ (execLdhu i g m s) := by
  unfold execLdhu
  try dsimp only
  repeat' first
    | with_reducible (first | assumption | apply keep_next | apply keep_issue | exact sub_trans rfl hM)

theorem keep_execLdb {M : Nat} {s₀ : State} (hM : M ||| 2097150 = M) (i : Issue) (g : Fin 64) (m : MemAddr) (s : State)
    (h0 : Keep M s₀ s) :
    outKeep M s₀ (execLdb i g m s) := by
  unfold execLdb
  try dsimp only
  repeat' first
    | with_reducible (first | assumption | apply keep_next | apply keep_issue | exact sub_trans rfl hM)

theorem keep_execLdbu {M : Nat} {s₀ : State} (hM : M ||| 2097150 = M) (i : Issue) (g : Fin 64) (m : MemAddr) (s : State)
    (h0 : Keep M s₀ s) :
    outKeep M s₀ (execLdbu i g m s) := by
  unfold execLdbu
  try dsimp only
  repeat' first
    | with_reducible (first | assumption | apply keep_next | apply keep_issue | exact sub_trans rfl hM)

theorem keep_execLdd {M : Nat} {s₀ : State} (hM : M ||| 2097150 = M) (i : Issue) (g : Fin 64) (m : MemAddr) (s : State)
    (h0 : Keep M s₀ s) :
    outKeep M s₀ (execLdd i g m s) := by
  unfold execLdd
  try dsimp only
  repeat' first
    | with_reducible (first | assumption | apply keep_next | apply keep_issue | exact sub_trans rfl hM)

theorem keep_execSt {M : Nat} {s₀ : State} (hM : M ||| 2097150 = M) (i : Issue) (g : Fin 64) (m : MemAddr) (s : State)
    (h0 : Keep M s₀ s) :
    outKeep M s₀ (execSt i g m s) := by
  unfold execSt
  try dsimp only
  repeat' first
    | with_reducible (first | assumption | apply keep_next | apply keep_issue | exact sub_trans rfl hM)

theorem keep_execSth {M : Nat} {s₀ : State} (hM : M ||| 2097150 = M) (i : Issue) (g : Fin 64) (m : MemAddr) (s : State)
    (h0 : Keep M s₀ s) :
    outKeep M s₀ (execSth i g m s) := by
  unfold execSth
  try dsimp only
  repeat' first
    | with_reducible (first | assumption | apply keep_next | apply keep_issue | exact sub_trans rfl hM)

theorem keep_execStb {M : Nat} {s₀ : State} (hM : M ||| 2097150 = M) (i : Issue) (g : Fin 64) (m : MemAddr) (s : State)
    (h0 : Keep M s₀ s) :
    outKeep M s₀ (execStb i g m s) := by
  unfold execStb
  try dsimp only
  repeat' first
    | with_reducible (first | assumption | apply keep_next | apply keep_issue | exact sub_trans rfl hM)

theorem keep_execStd {M : Nat} {s₀ : State} (hM : M ||| 2097150 = M) (i : Issue) (g : Fin 64) (m : MemAddr) (s : State)
    (h0 : Keep M s₀ s) :
    outKeep M s₀ (execStd i g m s) := by
  unfold execStd
  try dsimp only
  repeat' first
    | with_reducible (first | assumption | apply keep_ite | apply out_keep_ite | apply keep_next | apply keep_issue
                            | exact sub_trans rfl hM)
    | split

theorem keep_execBld {M : Nat} {s₀ : State} (hM : M ||| 2097150 = M) (i : Issue) (g : Fin 64) (m : MemAddr) (s : State)
    (h0 : Keep M s₀ s) :
    outKeep M s₀ (execBld i g m s) := by
  unfold execBld
  try dsimp only
  repeat' first
    | with_reducible (first | assumption | apply keep_next | apply keep_issue | exact sub_trans rfl hM)

theorem keep_execBst {M : Nat} {s₀ : State} (hM : M ||| 2097150 = M) (i : Issue) (g : Fin 64) (m : MemAddr) (s : State)
    (h0 : Keep M s₀ s) :
    outKeep M s₀ (execBst i g m s) := by
  unfold execBst
  try dsimp only
  repeat' first
    | with_reducible (first | assumption | apply keep_next | apply keep_issue | exact sub_trans rfl hM)

theorem keep_execTapm {M : Nat} {s₀ : State} (hM : M ||| 2097150 = M) (i : Issue) (n : Fin 8) (pc pd : Fin 16) (v : Fin 4) (s : State)
    (h0 : Keep M s₀ s) :
    outKeep M s₀ (execTapm i n pc pd v s) := by
  unfold execTapm
  try dsimp only
  repeat' first
    | with_reducible (first | assumption | apply keep_ite | apply out_keep_ite | apply keep_next | apply keep_issue
                            | exact sub_trans rfl hM)
    | split

/-! ### MacOps -/

theorem keep_execMac {M : Nat} {s₀ : State} (hM : M ||| 2097150 = M) (i : Issue) (n : Fin 8) (a b : Fin 64) (form : Fin 8) (sub z : Bool) (s : State)
    (h0 : Keep M s₀ s) :
    outKeep M s₀ (execMac i n a b form sub z s) := by
  unfold execMac
  try dsimp only
  repeat' first
    | with_reducible (first | assumption | apply keep_ite | apply out_keep_ite | apply keep_next | apply keep_issue
                            | exact sub_trans rfl hM)
    | split

theorem keep_execMac2 {M : Nat} {s₀ : State} (hM : M ||| 2097150 = M) (i : Issue) (np : Fin 4) (ap bp : Fin 32) (mode : Fin 4) (sub z : Bool) (sgn : Fin 4) (s : State)
    (h0 : Keep M s₀ s) :
    outKeep M s₀ (execMac2 i np ap bp mode sub z sgn s) := by
  unfold execMac2
  try dsimp only
  repeat' first
    | with_reducible (first | assumption | apply keep_ite | apply out_keep_ite | apply keep_next | apply keep_issue
                            | exact sub_trans rfl hM)
    | split

theorem keep_execCmac {M : Nat} {s₀ : State} (hM : M ||| 2097150 = M) (i : Issue) (np : Fin 4) (a b : Fin 64) (conj sub z : Bool) (s : State)
    (h0 : Keep M s₀ s) :
    outKeep M s₀ (execCmac i np a b conj sub z s) := by
  unfold execCmac
  try dsimp only
  repeat' first
    | with_reducible (first | assumption | apply keep_ite | apply out_keep_ite | apply keep_next | apply keep_issue
                            | exact sub_trans rfl hM)
    | split

theorem keep_execClr {M : Nat} {s₀ : State} (hM : M ||| 2097150 = M) (i : Issue) (mask : BitVec 8) (s : State)
    (h0 : Keep M s₀ s) :
    outKeep M s₀ (execClr i mask s) := by
  unfold execClr
  try dsimp only
  repeat' first
    | with_reducible (first | assumption | apply keep_next | apply keep_issue | exact sub_trans rfl hM)

theorem keep_execWb {M : Nat} {s₀ : State} (hM : M ||| 2097150 = M) (i : Issue) (d : Fin 64) (n : Fin 8) (k : Fin 4) (c : Bool) (s : State)
    (h0 : Keep M s₀ s) :
    outKeep M s₀ (execWb i d n k c s) := by
  unfold execWb
  try dsimp only
  repeat' first
    | with_reducible (first | assumption | apply keep_next | apply keep_issue | exact sub_trans rfl hM)

theorem keep_execWbp {M : Nat} {s₀ : State} (hM : M ||| 2097150 = M) (i : Issue) (d : Fin 64) (n : Fin 8) (k : Fin 4) (c : Bool) (s : State)
    (h0 : Keep M s₀ s) :
    outKeep M s₀ (execWbp i d n k c s) := by
  unfold execWbp
  try dsimp only
  repeat' first
    | with_reducible (first | assumption | apply keep_ite | apply out_keep_ite | apply keep_next | apply keep_issue
                            | exact sub_trans rfl hM)
    | split

theorem keep_execBinit {M : Nat} {s₀ : State} (hM : M ||| 2097150 = M) (i : Issue) (s : State) (h0 : Keep M s₀ s) :
    outKeep M s₀ (execBinit i s) := by
  unfold execBinit
  try dsimp only
  repeat' first
    | with_reducible (first | assumption | apply keep_next | apply keep_issue | exact sub_trans rfl hM)

theorem keep_execBbegin {M : Nat} {s₀ : State} (hM : M ||| 2097150 = M) (i : Issue) (s : State) (h0 : Keep M s₀ s) :
    outKeep M s₀ (execBbegin i s) := by
  unfold execBbegin
  try dsimp only
  repeat' first
    | with_reducible (first | assumption | apply keep_ite | apply out_keep_ite | apply keep_next | apply keep_issue
                            | exact sub_trans rfl hM)
    | split

theorem keep_execBend {M : Nat} {s₀ : State} (hM : M ||| 2097150 = M) (i : Issue) (s : State) (h0 : Keep M s₀ s) :
    outKeep M s₀ (execBend i s) := by
  unfold execBend
  try dsimp only
  repeat' first
    | with_reducible (first | assumption | apply keep_next | apply keep_issue | exact sub_trans rfl hM)

theorem keep_execBadj {M : Nat} {s₀ : State} (hM : M ||| 2097150 = M) (i : Issue) (imm : BitVec 8) (s : State)
    (h0 : Keep M s₀ s) :
    outKeep M s₀ (execBadj i imm s) := by
  unfold execBadj
  try dsimp only
  repeat' first
    | with_reducible (first | assumption | apply keep_next | apply keep_issue | exact sub_trans rfl hM)

/-! ### Moves -/

theorem keep_execMovi {M : Nat} {s₀ : State} (hM : M ||| 2097150 = M) (i : Issue) (r : BitVec 8) (imm : BitVec 18) (s : State)
    (h0 : Keep M s₀ s) :
    outKeep M s₀ (execMovi i r imm s) := by
  unfold execMovi
  try dsimp only
  repeat' first
    | with_reducible (first | assumption | apply keep_next | apply keep_issue | exact sub_trans rfl hM)

theorem keep_execMoviu {M : Nat} {s₀ : State} (hM : M ||| 2097150 = M) (i : Issue) (r : BitVec 8) (imm : BitVec 18) (s : State)
    (h0 : Keep M s₀ s) :
    outKeep M s₀ (execMoviu i r imm s) := by
  unfold execMoviu
  try dsimp only
  repeat' first
    | with_reducible (first | assumption | apply keep_next | apply keep_issue | exact sub_trans rfl hM)

theorem keep_execMovix {M : Nat} {s₀ : State} (hM : M ||| 2097150 = M) (i : Issue) (r : BitVec 8) (imm : BitVec 18) (s : State)
    (h0 : Keep M s₀ s) :
    outKeep M s₀ (execMovix i r imm s) := by
  unfold execMovix
  try dsimp only
  repeat' first
    | with_reducible (first | assumption | apply keep_ite | apply out_keep_ite | apply keep_next | apply keep_issue
                            | exact sub_trans rfl hM)
    | split

theorem keep_execLimm {M : Nat} {s₀ : State} (hM : M ||| 2097150 = M) (i : Issue) (n : Fin 16) (s : Bool) (imm : BitVec 21) (st : State)
    (h0 : Keep M s₀ st) :
    outKeep M s₀ (execLimm i n s imm st) := by
  unfold execLimm
  try dsimp only
  repeat' first
    | with_reducible (first | assumption | apply keep_ite | apply out_keep_ite | apply keep_next | apply keep_issue
                            | exact sub_trans rfl hM)
    | split

theorem keep_execMov {M : Nat} {s₀ : State} (hM : M ||| 2097150 = M) (i : Issue) (dst src : BitVec 8) (part : Fin 4) (s : State)
    (h0 : Keep M s₀ s) :
    outKeep M s₀ (execMov i dst src part s) := by
  unfold execMov
  try dsimp only
  repeat' first
    | with_reducible (first | assumption | apply keep_ite | apply out_keep_ite | apply keep_next | apply keep_issue
                            | exact sub_trans rfl hM)
    | split

end Sys2Proof.Machine
end

