-- ==== Sys2Proof/Laws/State.lean ====
section
/-! SUPPORT. What each update of the state leaves as it was: one lemma per update and field. -/

namespace Sys2Proof.Machine

/-! ### setWord -/

@[simp] theorem setWord_pending (s : State) (a : Nat) (w : Word) : (s.setWord a w).pending = s.pending := rfl
@[simp] theorem setWord_stg (s : State) (a : Nat) (w : Word) : (s.setWord a w).stg = s.stg := rfl
@[simp] theorem setWord_wait (s : State) (a : Nat) (w : Word) : (s.setWord a w).wait = s.wait := rfl
@[simp] theorem setWord_busRead (s : State) (a : Nat) (w : Word) : (s.setWord a w).busRead = s.busRead := rfl
@[simp] theorem setWord_busBytes (s : State) (a : Nat) (w : Word) : (s.setWord a w).busBytes = s.busBytes := rfl
@[simp] theorem setWord_free (s : State) (a : Nat) (w : Word) : (s.setWord a w).free = s.free := rfl
@[simp] theorem setWord_time (s : State) (a : Nat) (w : Word) : (s.setWord a w).time = s.time := rfl
@[simp] theorem setWord_flt (s : State) (a : Nat) (w : Word) : (s.setWord a w).flt = s.flt := rfl
@[simp] theorem setWord_contained (s : State) (a : Nat) (w : Word) : (s.setWord a w).contained = s.contained := rfl
@[simp] theorem setWord_msix (s : State) (a : Nat) (w : Word) : (s.setWord a w).msix = s.msix := rfl
@[simp] theorem setWord_latch (s : State) (a : Nat) (w : Word) : (s.setWord a w).latch = s.latch := rfl
@[simp] theorem setWord_deferred (s : State) (a : Nat) (w : Word) : (s.setWord a w).deferred = s.deferred := rfl
@[simp] theorem setWord_v24Rev (s : State) (a : Nat) (w : Word) : (s.setWord a w).v24Rev = s.v24Rev := rfl
@[simp] theorem setWord_rtcNs (s : State) (a : Nat) (w : Word) : (s.setWord a w).rtcNs = s.rtcNs := rfl
@[simp] theorem setWord_ledger (s : State) (a : Nat) (w : Word) : (s.setWord a w).ledger = s.ledger := rfl
@[simp] theorem setWord_pins (s : State) (a : Nat) (w : Word) : (s.setWord a w).pins = s.pins := rfl
@[simp] theorem setWord_gio (s : State) (a : Nat) (w : Word) : (s.setWord a w).gio = s.gio := rfl
@[simp] theorem setWord_tiles (s : State) (a : Nat) (w : Word) : (s.setWord a w).tiles = s.tiles := rfl
@[simp] theorem setWord_sched (s : State) (a : Nat) (w : Word) : (s.setWord a w).sched = s.sched := rfl
@[simp] theorem setWord_ports (s : State) (a : Nat) (w : Word) : (s.setWord a w).ports = s.ports := rfl
@[simp] theorem setWord_engs (s : State) (a : Nat) (w : Word) : (s.setWord a w).engs = s.engs := rfl
@[simp] theorem setWord_dmas (s : State) (a : Nat) (w : Word) : (s.setWord a w).dmas = s.dmas := rfl
@[simp] theorem setWord_mem (s : State) (a : Nat) (w : Word) : (s.setWord a w).mem = s.mem := rfl
@[simp] theorem setWord_fab (s : State) (a : Nat) (w : Word) : (s.setWord a w).fab = s.fab := rfl
@[simp] theorem setWord_rcfg (s : State) (a : Nat) (w : Word) : (s.setWord a w).rcfg = s.rcfg := rfl
@[simp] theorem setWord_pwr (s : State) (a : Nat) (w : Word) : (s.setWord a w).pwr = s.pwr := rfl
@[simp] theorem setWord_host (s : State) (a : Nat) (w : Word) : (s.setWord a w).host = s.host := rfl
@[simp] theorem setWord_load (s : State) (a : Nat) (w : Word) : (s.setWord a w).load = s.load := rfl
@[simp] theorem setWord_clock (s : State) (a : Nat) (w : Word) : (s.setWord a w).clock = s.clock := rfl
@[simp] theorem setWord_sec (s : State) (a : Nat) (w : Word) : (s.setWord a w).sec = s.sec := rfl
@[simp] theorem setWord_straps (s : State) (a : Nat) (w : Word) : (s.setWord a w).straps = s.straps := rfl

/-! ### put -/

@[simp] theorem put_pending (s : State) (f : Field) (v : Nat) : (s.put f v).pending = s.pending := rfl
@[simp] theorem put_stg (s : State) (f : Field) (v : Nat) : (s.put f v).stg = s.stg := rfl
@[simp] theorem put_wait (s : State) (f : Field) (v : Nat) : (s.put f v).wait = s.wait := rfl
@[simp] theorem put_busRead (s : State) (f : Field) (v : Nat) : (s.put f v).busRead = s.busRead := rfl
@[simp] theorem put_busBytes (s : State) (f : Field) (v : Nat) : (s.put f v).busBytes = s.busBytes := rfl
@[simp] theorem put_free (s : State) (f : Field) (v : Nat) : (s.put f v).free = s.free := rfl
@[simp] theorem put_time (s : State) (f : Field) (v : Nat) : (s.put f v).time = s.time := rfl
@[simp] theorem put_flt (s : State) (f : Field) (v : Nat) : (s.put f v).flt = s.flt := rfl
@[simp] theorem put_contained (s : State) (f : Field) (v : Nat) : (s.put f v).contained = s.contained := rfl
@[simp] theorem put_msix (s : State) (f : Field) (v : Nat) : (s.put f v).msix = s.msix := rfl
@[simp] theorem put_latch (s : State) (f : Field) (v : Nat) : (s.put f v).latch = s.latch := rfl
@[simp] theorem put_deferred (s : State) (f : Field) (v : Nat) : (s.put f v).deferred = s.deferred := rfl
@[simp] theorem put_v24Rev (s : State) (f : Field) (v : Nat) : (s.put f v).v24Rev = s.v24Rev := rfl
@[simp] theorem put_rtcNs (s : State) (f : Field) (v : Nat) : (s.put f v).rtcNs = s.rtcNs := rfl
@[simp] theorem put_ledger (s : State) (f : Field) (v : Nat) : (s.put f v).ledger = s.ledger := rfl
@[simp] theorem put_pins (s : State) (f : Field) (v : Nat) : (s.put f v).pins = s.pins := rfl
@[simp] theorem put_gio (s : State) (f : Field) (v : Nat) : (s.put f v).gio = s.gio := rfl
@[simp] theorem put_tiles (s : State) (f : Field) (v : Nat) : (s.put f v).tiles = s.tiles := rfl
@[simp] theorem put_sched (s : State) (f : Field) (v : Nat) : (s.put f v).sched = s.sched := rfl
@[simp] theorem put_ports (s : State) (f : Field) (v : Nat) : (s.put f v).ports = s.ports := rfl
@[simp] theorem put_engs (s : State) (f : Field) (v : Nat) : (s.put f v).engs = s.engs := rfl
@[simp] theorem put_dmas (s : State) (f : Field) (v : Nat) : (s.put f v).dmas = s.dmas := rfl
@[simp] theorem put_mem (s : State) (f : Field) (v : Nat) : (s.put f v).mem = s.mem := rfl
@[simp] theorem put_fab (s : State) (f : Field) (v : Nat) : (s.put f v).fab = s.fab := rfl
@[simp] theorem put_rcfg (s : State) (f : Field) (v : Nat) : (s.put f v).rcfg = s.rcfg := rfl
@[simp] theorem put_pwr (s : State) (f : Field) (v : Nat) : (s.put f v).pwr = s.pwr := rfl
@[simp] theorem put_host (s : State) (f : Field) (v : Nat) : (s.put f v).host = s.host := rfl
@[simp] theorem put_load (s : State) (f : Field) (v : Nat) : (s.put f v).load = s.load := rfl
@[simp] theorem put_clock (s : State) (f : Field) (v : Nat) : (s.put f v).clock = s.clock := rfl
@[simp] theorem put_sec (s : State) (f : Field) (v : Nat) : (s.put f v).sec = s.sec := rfl
@[simp] theorem put_straps (s : State) (f : Field) (v : Nat) : (s.put f v).straps = s.straps := rfl

/-! ### putB -/

@[simp] theorem putB_pending (s : State) (f : Field) (b : Bool) : (s.putB f b).pending = s.pending := rfl
@[simp] theorem putB_stg (s : State) (f : Field) (b : Bool) : (s.putB f b).stg = s.stg := rfl
@[simp] theorem putB_wait (s : State) (f : Field) (b : Bool) : (s.putB f b).wait = s.wait := rfl
@[simp] theorem putB_busRead (s : State) (f : Field) (b : Bool) : (s.putB f b).busRead = s.busRead := rfl
@[simp] theorem putB_busBytes (s : State) (f : Field) (b : Bool) : (s.putB f b).busBytes = s.busBytes := rfl
@[simp] theorem putB_free (s : State) (f : Field) (b : Bool) : (s.putB f b).free = s.free := rfl
@[simp] theorem putB_time (s : State) (f : Field) (b : Bool) : (s.putB f b).time = s.time := rfl
@[simp] theorem putB_flt (s : State) (f : Field) (b : Bool) : (s.putB f b).flt = s.flt := rfl
@[simp] theorem putB_contained (s : State) (f : Field) (b : Bool) : (s.putB f b).contained = s.contained := rfl
@[simp] theorem putB_msix (s : State) (f : Field) (b : Bool) : (s.putB f b).msix = s.msix := rfl
@[simp] theorem putB_latch (s : State) (f : Field) (b : Bool) : (s.putB f b).latch = s.latch := rfl
@[simp] theorem putB_deferred (s : State) (f : Field) (b : Bool) : (s.putB f b).deferred = s.deferred := rfl
@[simp] theorem putB_v24Rev (s : State) (f : Field) (b : Bool) : (s.putB f b).v24Rev = s.v24Rev := rfl
@[simp] theorem putB_rtcNs (s : State) (f : Field) (b : Bool) : (s.putB f b).rtcNs = s.rtcNs := rfl
@[simp] theorem putB_ledger (s : State) (f : Field) (b : Bool) : (s.putB f b).ledger = s.ledger := rfl
@[simp] theorem putB_pins (s : State) (f : Field) (b : Bool) : (s.putB f b).pins = s.pins := rfl
@[simp] theorem putB_gio (s : State) (f : Field) (b : Bool) : (s.putB f b).gio = s.gio := rfl
@[simp] theorem putB_tiles (s : State) (f : Field) (b : Bool) : (s.putB f b).tiles = s.tiles := rfl
@[simp] theorem putB_sched (s : State) (f : Field) (b : Bool) : (s.putB f b).sched = s.sched := rfl
@[simp] theorem putB_ports (s : State) (f : Field) (b : Bool) : (s.putB f b).ports = s.ports := rfl
@[simp] theorem putB_engs (s : State) (f : Field) (b : Bool) : (s.putB f b).engs = s.engs := rfl
@[simp] theorem putB_dmas (s : State) (f : Field) (b : Bool) : (s.putB f b).dmas = s.dmas := rfl
@[simp] theorem putB_mem (s : State) (f : Field) (b : Bool) : (s.putB f b).mem = s.mem := rfl
@[simp] theorem putB_fab (s : State) (f : Field) (b : Bool) : (s.putB f b).fab = s.fab := rfl
@[simp] theorem putB_rcfg (s : State) (f : Field) (b : Bool) : (s.putB f b).rcfg = s.rcfg := rfl
@[simp] theorem putB_pwr (s : State) (f : Field) (b : Bool) : (s.putB f b).pwr = s.pwr := rfl
@[simp] theorem putB_host (s : State) (f : Field) (b : Bool) : (s.putB f b).host = s.host := rfl
@[simp] theorem putB_load (s : State) (f : Field) (b : Bool) : (s.putB f b).load = s.load := rfl
@[simp] theorem putB_clock (s : State) (f : Field) (b : Bool) : (s.putB f b).clock = s.clock := rfl
@[simp] theorem putB_sec (s : State) (f : Field) (b : Bool) : (s.putB f b).sec = s.sec := rfl
@[simp] theorem putB_straps (s : State) (f : Field) (b : Bool) : (s.putB f b).straps = s.straps := rfl

/-! ### bump -/

@[simp] theorem bump_pending (s : State) (f : Field) (n : Nat) : (s.bump f n).pending = s.pending := rfl
@[simp] theorem bump_stg (s : State) (f : Field) (n : Nat) : (s.bump f n).stg = s.stg := rfl
@[simp] theorem bump_wait (s : State) (f : Field) (n : Nat) : (s.bump f n).wait = s.wait := rfl
@[simp] theorem bump_busRead (s : State) (f : Field) (n : Nat) : (s.bump f n).busRead = s.busRead := rfl
@[simp] theorem bump_busBytes (s : State) (f : Field) (n : Nat) : (s.bump f n).busBytes = s.busBytes := rfl
@[simp] theorem bump_free (s : State) (f : Field) (n : Nat) : (s.bump f n).free = s.free := rfl
@[simp] theorem bump_time (s : State) (f : Field) (n : Nat) : (s.bump f n).time = s.time := rfl
@[simp] theorem bump_flt (s : State) (f : Field) (n : Nat) : (s.bump f n).flt = s.flt := rfl
@[simp] theorem bump_contained (s : State) (f : Field) (n : Nat) : (s.bump f n).contained = s.contained := rfl
@[simp] theorem bump_msix (s : State) (f : Field) (n : Nat) : (s.bump f n).msix = s.msix := rfl
@[simp] theorem bump_latch (s : State) (f : Field) (n : Nat) : (s.bump f n).latch = s.latch := rfl
@[simp] theorem bump_deferred (s : State) (f : Field) (n : Nat) : (s.bump f n).deferred = s.deferred := rfl
@[simp] theorem bump_v24Rev (s : State) (f : Field) (n : Nat) : (s.bump f n).v24Rev = s.v24Rev := rfl
@[simp] theorem bump_rtcNs (s : State) (f : Field) (n : Nat) : (s.bump f n).rtcNs = s.rtcNs := rfl
@[simp] theorem bump_ledger (s : State) (f : Field) (n : Nat) : (s.bump f n).ledger = s.ledger := rfl
@[simp] theorem bump_pins (s : State) (f : Field) (n : Nat) : (s.bump f n).pins = s.pins := rfl
@[simp] theorem bump_gio (s : State) (f : Field) (n : Nat) : (s.bump f n).gio = s.gio := rfl
@[simp] theorem bump_tiles (s : State) (f : Field) (n : Nat) : (s.bump f n).tiles = s.tiles := rfl
@[simp] theorem bump_sched (s : State) (f : Field) (n : Nat) : (s.bump f n).sched = s.sched := rfl
@[simp] theorem bump_ports (s : State) (f : Field) (n : Nat) : (s.bump f n).ports = s.ports := rfl
@[simp] theorem bump_engs (s : State) (f : Field) (n : Nat) : (s.bump f n).engs = s.engs := rfl
@[simp] theorem bump_dmas (s : State) (f : Field) (n : Nat) : (s.bump f n).dmas = s.dmas := rfl
@[simp] theorem bump_mem (s : State) (f : Field) (n : Nat) : (s.bump f n).mem = s.mem := rfl
@[simp] theorem bump_fab (s : State) (f : Field) (n : Nat) : (s.bump f n).fab = s.fab := rfl
@[simp] theorem bump_rcfg (s : State) (f : Field) (n : Nat) : (s.bump f n).rcfg = s.rcfg := rfl
@[simp] theorem bump_pwr (s : State) (f : Field) (n : Nat) : (s.bump f n).pwr = s.pwr := rfl
@[simp] theorem bump_host (s : State) (f : Field) (n : Nat) : (s.bump f n).host = s.host := rfl
@[simp] theorem bump_load (s : State) (f : Field) (n : Nat) : (s.bump f n).load = s.load := rfl
@[simp] theorem bump_clock (s : State) (f : Field) (n : Nat) : (s.bump f n).clock = s.clock := rfl
@[simp] theorem bump_sec (s : State) (f : Field) (n : Nat) : (s.bump f n).sec = s.sec := rfl
@[simp] theorem bump_straps (s : State) (f : Field) (n : Nat) : (s.bump f n).straps = s.straps := rfl

/-! ### bumpSat -/

@[simp] theorem bumpSat_pending (s : State) (f : Field) (n : Nat) : (s.bumpSat f n).pending = s.pending := rfl
@[simp] theorem bumpSat_stg (s : State) (f : Field) (n : Nat) : (s.bumpSat f n).stg = s.stg := rfl
@[simp] theorem bumpSat_wait (s : State) (f : Field) (n : Nat) : (s.bumpSat f n).wait = s.wait := rfl
@[simp] theorem bumpSat_busRead (s : State) (f : Field) (n : Nat) : (s.bumpSat f n).busRead = s.busRead := rfl
@[simp] theorem bumpSat_busBytes (s : State) (f : Field) (n : Nat) : (s.bumpSat f n).busBytes = s.busBytes := rfl
@[simp] theorem bumpSat_free (s : State) (f : Field) (n : Nat) : (s.bumpSat f n).free = s.free := rfl
@[simp] theorem bumpSat_time (s : State) (f : Field) (n : Nat) : (s.bumpSat f n).time = s.time := rfl
@[simp] theorem bumpSat_flt (s : State) (f : Field) (n : Nat) : (s.bumpSat f n).flt = s.flt := rfl
@[simp] theorem bumpSat_contained (s : State) (f : Field) (n : Nat) : (s.bumpSat f n).contained = s.contained := rfl
@[simp] theorem bumpSat_msix (s : State) (f : Field) (n : Nat) : (s.bumpSat f n).msix = s.msix := rfl
@[simp] theorem bumpSat_latch (s : State) (f : Field) (n : Nat) : (s.bumpSat f n).latch = s.latch := rfl
@[simp] theorem bumpSat_deferred (s : State) (f : Field) (n : Nat) : (s.bumpSat f n).deferred = s.deferred := rfl
@[simp] theorem bumpSat_v24Rev (s : State) (f : Field) (n : Nat) : (s.bumpSat f n).v24Rev = s.v24Rev := rfl
@[simp] theorem bumpSat_rtcNs (s : State) (f : Field) (n : Nat) : (s.bumpSat f n).rtcNs = s.rtcNs := rfl
@[simp] theorem bumpSat_ledger (s : State) (f : Field) (n : Nat) : (s.bumpSat f n).ledger = s.ledger := rfl
@[simp] theorem bumpSat_pins (s : State) (f : Field) (n : Nat) : (s.bumpSat f n).pins = s.pins := rfl
@[simp] theorem bumpSat_gio (s : State) (f : Field) (n : Nat) : (s.bumpSat f n).gio = s.gio := rfl
@[simp] theorem bumpSat_tiles (s : State) (f : Field) (n : Nat) : (s.bumpSat f n).tiles = s.tiles := rfl
@[simp] theorem bumpSat_sched (s : State) (f : Field) (n : Nat) : (s.bumpSat f n).sched = s.sched := rfl
@[simp] theorem bumpSat_ports (s : State) (f : Field) (n : Nat) : (s.bumpSat f n).ports = s.ports := rfl
@[simp] theorem bumpSat_engs (s : State) (f : Field) (n : Nat) : (s.bumpSat f n).engs = s.engs := rfl
@[simp] theorem bumpSat_dmas (s : State) (f : Field) (n : Nat) : (s.bumpSat f n).dmas = s.dmas := rfl
@[simp] theorem bumpSat_mem (s : State) (f : Field) (n : Nat) : (s.bumpSat f n).mem = s.mem := rfl
@[simp] theorem bumpSat_fab (s : State) (f : Field) (n : Nat) : (s.bumpSat f n).fab = s.fab := rfl
@[simp] theorem bumpSat_rcfg (s : State) (f : Field) (n : Nat) : (s.bumpSat f n).rcfg = s.rcfg := rfl
@[simp] theorem bumpSat_pwr (s : State) (f : Field) (n : Nat) : (s.bumpSat f n).pwr = s.pwr := rfl
@[simp] theorem bumpSat_host (s : State) (f : Field) (n : Nat) : (s.bumpSat f n).host = s.host := rfl
@[simp] theorem bumpSat_load (s : State) (f : Field) (n : Nat) : (s.bumpSat f n).load = s.load := rfl
@[simp] theorem bumpSat_clock (s : State) (f : Field) (n : Nat) : (s.bumpSat f n).clock = s.clock := rfl
@[simp] theorem bumpSat_sec (s : State) (f : Field) (n : Nat) : (s.bumpSat f n).sec = s.sec := rfl
@[simp] theorem bumpSat_straps (s : State) (f : Field) (n : Nat) : (s.bumpSat f n).straps = s.straps := rfl

/-! ### putIdx -/

@[simp] theorem putIdx_pending (s : State) (f : Field) (k : Nat) (b : Bool) : (s.putIdx f k b).pending = s.pending := rfl
@[simp] theorem putIdx_stg (s : State) (f : Field) (k : Nat) (b : Bool) : (s.putIdx f k b).stg = s.stg := rfl
@[simp] theorem putIdx_wait (s : State) (f : Field) (k : Nat) (b : Bool) : (s.putIdx f k b).wait = s.wait := rfl
@[simp] theorem putIdx_busRead (s : State) (f : Field) (k : Nat) (b : Bool) : (s.putIdx f k b).busRead = s.busRead := rfl
@[simp] theorem putIdx_busBytes (s : State) (f : Field) (k : Nat) (b : Bool) : (s.putIdx f k b).busBytes = s.busBytes := rfl
@[simp] theorem putIdx_free (s : State) (f : Field) (k : Nat) (b : Bool) : (s.putIdx f k b).free = s.free := rfl
@[simp] theorem putIdx_time (s : State) (f : Field) (k : Nat) (b : Bool) : (s.putIdx f k b).time = s.time := rfl
@[simp] theorem putIdx_flt (s : State) (f : Field) (k : Nat) (b : Bool) : (s.putIdx f k b).flt = s.flt := rfl
@[simp] theorem putIdx_contained (s : State) (f : Field) (k : Nat) (b : Bool) : (s.putIdx f k b).contained = s.contained := rfl
@[simp] theorem putIdx_msix (s : State) (f : Field) (k : Nat) (b : Bool) : (s.putIdx f k b).msix = s.msix := rfl
@[simp] theorem putIdx_latch (s : State) (f : Field) (k : Nat) (b : Bool) : (s.putIdx f k b).latch = s.latch := rfl
@[simp] theorem putIdx_deferred (s : State) (f : Field) (k : Nat) (b : Bool) : (s.putIdx f k b).deferred = s.deferred := rfl
@[simp] theorem putIdx_v24Rev (s : State) (f : Field) (k : Nat) (b : Bool) : (s.putIdx f k b).v24Rev = s.v24Rev := rfl
@[simp] theorem putIdx_rtcNs (s : State) (f : Field) (k : Nat) (b : Bool) : (s.putIdx f k b).rtcNs = s.rtcNs := rfl
@[simp] theorem putIdx_ledger (s : State) (f : Field) (k : Nat) (b : Bool) : (s.putIdx f k b).ledger = s.ledger := rfl
@[simp] theorem putIdx_pins (s : State) (f : Field) (k : Nat) (b : Bool) : (s.putIdx f k b).pins = s.pins := rfl
@[simp] theorem putIdx_gio (s : State) (f : Field) (k : Nat) (b : Bool) : (s.putIdx f k b).gio = s.gio := rfl
@[simp] theorem putIdx_tiles (s : State) (f : Field) (k : Nat) (b : Bool) : (s.putIdx f k b).tiles = s.tiles := rfl
@[simp] theorem putIdx_sched (s : State) (f : Field) (k : Nat) (b : Bool) : (s.putIdx f k b).sched = s.sched := rfl
@[simp] theorem putIdx_ports (s : State) (f : Field) (k : Nat) (b : Bool) : (s.putIdx f k b).ports = s.ports := rfl
@[simp] theorem putIdx_engs (s : State) (f : Field) (k : Nat) (b : Bool) : (s.putIdx f k b).engs = s.engs := rfl
@[simp] theorem putIdx_dmas (s : State) (f : Field) (k : Nat) (b : Bool) : (s.putIdx f k b).dmas = s.dmas := rfl
@[simp] theorem putIdx_mem (s : State) (f : Field) (k : Nat) (b : Bool) : (s.putIdx f k b).mem = s.mem := rfl
@[simp] theorem putIdx_fab (s : State) (f : Field) (k : Nat) (b : Bool) : (s.putIdx f k b).fab = s.fab := rfl
@[simp] theorem putIdx_rcfg (s : State) (f : Field) (k : Nat) (b : Bool) : (s.putIdx f k b).rcfg = s.rcfg := rfl
@[simp] theorem putIdx_pwr (s : State) (f : Field) (k : Nat) (b : Bool) : (s.putIdx f k b).pwr = s.pwr := rfl
@[simp] theorem putIdx_host (s : State) (f : Field) (k : Nat) (b : Bool) : (s.putIdx f k b).host = s.host := rfl
@[simp] theorem putIdx_load (s : State) (f : Field) (k : Nat) (b : Bool) : (s.putIdx f k b).load = s.load := rfl
@[simp] theorem putIdx_clock (s : State) (f : Field) (k : Nat) (b : Bool) : (s.putIdx f k b).clock = s.clock := rfl
@[simp] theorem putIdx_sec (s : State) (f : Field) (k : Nat) (b : Bool) : (s.putIdx f k b).sec = s.sec := rfl
@[simp] theorem putIdx_straps (s : State) (f : Field) (k : Nat) (b : Bool) : (s.putIdx f k b).straps = s.straps := rfl

/-! ### stageWord -/

@[simp] theorem stageWord_pending (s : State) (a : Nat) (w : Word) : (s.stageWord a w).pending = s.pending := rfl
@[simp] theorem stageWord_regs (s : State) (a : Nat) (w : Word) : (s.stageWord a w).regs = s.regs := rfl
@[simp] theorem stageWord_wait (s : State) (a : Nat) (w : Word) : (s.stageWord a w).wait = s.wait := rfl
@[simp] theorem stageWord_busRead (s : State) (a : Nat) (w : Word) : (s.stageWord a w).busRead = s.busRead := rfl
@[simp] theorem stageWord_busBytes (s : State) (a : Nat) (w : Word) : (s.stageWord a w).busBytes = s.busBytes := rfl
@[simp] theorem stageWord_free (s : State) (a : Nat) (w : Word) : (s.stageWord a w).free = s.free := rfl
@[simp] theorem stageWord_time (s : State) (a : Nat) (w : Word) : (s.stageWord a w).time = s.time := rfl
@[simp] theorem stageWord_flt (s : State) (a : Nat) (w : Word) : (s.stageWord a w).flt = s.flt := rfl
@[simp] theorem stageWord_contained (s : State) (a : Nat) (w : Word) : (s.stageWord a w).contained = s.contained := rfl
@[simp] theorem stageWord_msix (s : State) (a : Nat) (w : Word) : (s.stageWord a w).msix = s.msix := rfl
@[simp] theorem stageWord_latch (s : State) (a : Nat) (w : Word) : (s.stageWord a w).latch = s.latch := rfl
@[simp] theorem stageWord_deferred (s : State) (a : Nat) (w : Word) : (s.stageWord a w).deferred = s.deferred := rfl
@[simp] theorem stageWord_v24Rev (s : State) (a : Nat) (w : Word) : (s.stageWord a w).v24Rev = s.v24Rev := rfl
@[simp] theorem stageWord_rtcNs (s : State) (a : Nat) (w : Word) : (s.stageWord a w).rtcNs = s.rtcNs := rfl
@[simp] theorem stageWord_ledger (s : State) (a : Nat) (w : Word) : (s.stageWord a w).ledger = s.ledger := rfl
@[simp] theorem stageWord_pins (s : State) (a : Nat) (w : Word) : (s.stageWord a w).pins = s.pins := rfl
@[simp] theorem stageWord_gio (s : State) (a : Nat) (w : Word) : (s.stageWord a w).gio = s.gio := rfl
@[simp] theorem stageWord_tiles (s : State) (a : Nat) (w : Word) : (s.stageWord a w).tiles = s.tiles := rfl
@[simp] theorem stageWord_sched (s : State) (a : Nat) (w : Word) : (s.stageWord a w).sched = s.sched := rfl
@[simp] theorem stageWord_ports (s : State) (a : Nat) (w : Word) : (s.stageWord a w).ports = s.ports := rfl
@[simp] theorem stageWord_engs (s : State) (a : Nat) (w : Word) : (s.stageWord a w).engs = s.engs := rfl
@[simp] theorem stageWord_dmas (s : State) (a : Nat) (w : Word) : (s.stageWord a w).dmas = s.dmas := rfl
@[simp] theorem stageWord_mem (s : State) (a : Nat) (w : Word) : (s.stageWord a w).mem = s.mem := rfl
@[simp] theorem stageWord_fab (s : State) (a : Nat) (w : Word) : (s.stageWord a w).fab = s.fab := rfl
@[simp] theorem stageWord_rcfg (s : State) (a : Nat) (w : Word) : (s.stageWord a w).rcfg = s.rcfg := rfl
@[simp] theorem stageWord_pwr (s : State) (a : Nat) (w : Word) : (s.stageWord a w).pwr = s.pwr := rfl
@[simp] theorem stageWord_host (s : State) (a : Nat) (w : Word) : (s.stageWord a w).host = s.host := rfl
@[simp] theorem stageWord_load (s : State) (a : Nat) (w : Word) : (s.stageWord a w).load = s.load := rfl
@[simp] theorem stageWord_clock (s : State) (a : Nat) (w : Word) : (s.stageWord a w).clock = s.clock := rfl
@[simp] theorem stageWord_sec (s : State) (a : Nat) (w : Word) : (s.stageWord a w).sec = s.sec := rfl
@[simp] theorem stageWord_straps (s : State) (a : Nat) (w : Word) : (s.stageWord a w).straps = s.straps := rfl

/-! ### dropStaged -/

@[simp] theorem dropStaged_pending (s : State) (a : Nat) : (s.dropStaged a).pending = s.pending := rfl
@[simp] theorem dropStaged_regs (s : State) (a : Nat) : (s.dropStaged a).regs = s.regs := rfl
@[simp] theorem dropStaged_wait (s : State) (a : Nat) : (s.dropStaged a).wait = s.wait := rfl
@[simp] theorem dropStaged_busRead (s : State) (a : Nat) : (s.dropStaged a).busRead = s.busRead := rfl
@[simp] theorem dropStaged_busBytes (s : State) (a : Nat) : (s.dropStaged a).busBytes = s.busBytes := rfl
@[simp] theorem dropStaged_free (s : State) (a : Nat) : (s.dropStaged a).free = s.free := rfl
@[simp] theorem dropStaged_time (s : State) (a : Nat) : (s.dropStaged a).time = s.time := rfl
@[simp] theorem dropStaged_flt (s : State) (a : Nat) : (s.dropStaged a).flt = s.flt := rfl
@[simp] theorem dropStaged_contained (s : State) (a : Nat) : (s.dropStaged a).contained = s.contained := rfl
@[simp] theorem dropStaged_msix (s : State) (a : Nat) : (s.dropStaged a).msix = s.msix := rfl
@[simp] theorem dropStaged_latch (s : State) (a : Nat) : (s.dropStaged a).latch = s.latch := rfl
@[simp] theorem dropStaged_deferred (s : State) (a : Nat) : (s.dropStaged a).deferred = s.deferred := rfl
@[simp] theorem dropStaged_v24Rev (s : State) (a : Nat) : (s.dropStaged a).v24Rev = s.v24Rev := rfl
@[simp] theorem dropStaged_rtcNs (s : State) (a : Nat) : (s.dropStaged a).rtcNs = s.rtcNs := rfl
@[simp] theorem dropStaged_ledger (s : State) (a : Nat) : (s.dropStaged a).ledger = s.ledger := rfl
@[simp] theorem dropStaged_pins (s : State) (a : Nat) : (s.dropStaged a).pins = s.pins := rfl
@[simp] theorem dropStaged_gio (s : State) (a : Nat) : (s.dropStaged a).gio = s.gio := rfl
@[simp] theorem dropStaged_tiles (s : State) (a : Nat) : (s.dropStaged a).tiles = s.tiles := rfl
@[simp] theorem dropStaged_sched (s : State) (a : Nat) : (s.dropStaged a).sched = s.sched := rfl
@[simp] theorem dropStaged_ports (s : State) (a : Nat) : (s.dropStaged a).ports = s.ports := rfl
@[simp] theorem dropStaged_engs (s : State) (a : Nat) : (s.dropStaged a).engs = s.engs := rfl
@[simp] theorem dropStaged_dmas (s : State) (a : Nat) : (s.dropStaged a).dmas = s.dmas := rfl
@[simp] theorem dropStaged_mem (s : State) (a : Nat) : (s.dropStaged a).mem = s.mem := rfl
@[simp] theorem dropStaged_fab (s : State) (a : Nat) : (s.dropStaged a).fab = s.fab := rfl
@[simp] theorem dropStaged_rcfg (s : State) (a : Nat) : (s.dropStaged a).rcfg = s.rcfg := rfl
@[simp] theorem dropStaged_pwr (s : State) (a : Nat) : (s.dropStaged a).pwr = s.pwr := rfl
@[simp] theorem dropStaged_host (s : State) (a : Nat) : (s.dropStaged a).host = s.host := rfl
@[simp] theorem dropStaged_load (s : State) (a : Nat) : (s.dropStaged a).load = s.load := rfl
@[simp] theorem dropStaged_clock (s : State) (a : Nat) : (s.dropStaged a).clock = s.clock := rfl
@[simp] theorem dropStaged_sec (s : State) (a : Nat) : (s.dropStaged a).sec = s.sec := rfl
@[simp] theorem dropStaged_straps (s : State) (a : Nat) : (s.dropStaged a).straps = s.straps := rfl

/-! ### resetRange -/

@[simp] theorem resetRange_pending (s : State) (lo hi : Nat) : (s.resetRange lo hi).pending = s.pending := rfl
@[simp] theorem resetRange_busRead (s : State) (lo hi : Nat) : (s.resetRange lo hi).busRead = s.busRead := rfl
@[simp] theorem resetRange_busBytes (s : State) (lo hi : Nat) : (s.resetRange lo hi).busBytes = s.busBytes := rfl
@[simp] theorem resetRange_free (s : State) (lo hi : Nat) : (s.resetRange lo hi).free = s.free := rfl
@[simp] theorem resetRange_time (s : State) (lo hi : Nat) : (s.resetRange lo hi).time = s.time := rfl
@[simp] theorem resetRange_flt (s : State) (lo hi : Nat) : (s.resetRange lo hi).flt = s.flt := rfl
@[simp] theorem resetRange_contained (s : State) (lo hi : Nat) : (s.resetRange lo hi).contained = s.contained := rfl
@[simp] theorem resetRange_msix (s : State) (lo hi : Nat) : (s.resetRange lo hi).msix = s.msix := rfl
@[simp] theorem resetRange_latch (s : State) (lo hi : Nat) : (s.resetRange lo hi).latch = s.latch := rfl
@[simp] theorem resetRange_deferred (s : State) (lo hi : Nat) : (s.resetRange lo hi).deferred = s.deferred := rfl
@[simp] theorem resetRange_v24Rev (s : State) (lo hi : Nat) : (s.resetRange lo hi).v24Rev = s.v24Rev := rfl
@[simp] theorem resetRange_rtcNs (s : State) (lo hi : Nat) : (s.resetRange lo hi).rtcNs = s.rtcNs := rfl
@[simp] theorem resetRange_ledger (s : State) (lo hi : Nat) : (s.resetRange lo hi).ledger = s.ledger := rfl
@[simp] theorem resetRange_pins (s : State) (lo hi : Nat) : (s.resetRange lo hi).pins = s.pins := rfl
@[simp] theorem resetRange_gio (s : State) (lo hi : Nat) : (s.resetRange lo hi).gio = s.gio := rfl
@[simp] theorem resetRange_tiles (s : State) (lo hi : Nat) : (s.resetRange lo hi).tiles = s.tiles := rfl
@[simp] theorem resetRange_sched (s : State) (lo hi : Nat) : (s.resetRange lo hi).sched = s.sched := rfl
@[simp] theorem resetRange_ports (s : State) (lo hi : Nat) : (s.resetRange lo hi).ports = s.ports := rfl
@[simp] theorem resetRange_engs (s : State) (lo hi : Nat) : (s.resetRange lo hi).engs = s.engs := rfl
@[simp] theorem resetRange_dmas (s : State) (lo hi : Nat) : (s.resetRange lo hi).dmas = s.dmas := rfl
@[simp] theorem resetRange_mem (s : State) (lo hi : Nat) : (s.resetRange lo hi).mem = s.mem := rfl
@[simp] theorem resetRange_fab (s : State) (lo hi : Nat) : (s.resetRange lo hi).fab = s.fab := rfl
@[simp] theorem resetRange_rcfg (s : State) (lo hi : Nat) : (s.resetRange lo hi).rcfg = s.rcfg := rfl
@[simp] theorem resetRange_pwr (s : State) (lo hi : Nat) : (s.resetRange lo hi).pwr = s.pwr := rfl
@[simp] theorem resetRange_host (s : State) (lo hi : Nat) : (s.resetRange lo hi).host = s.host := rfl
@[simp] theorem resetRange_load (s : State) (lo hi : Nat) : (s.resetRange lo hi).load = s.load := rfl
@[simp] theorem resetRange_clock (s : State) (lo hi : Nat) : (s.resetRange lo hi).clock = s.clock := rfl
@[simp] theorem resetRange_sec (s : State) (lo hi : Nat) : (s.resetRange lo hi).sec = s.sec := rfl
@[simp] theorem resetRange_straps (s : State) (lo hi : Nat) : (s.resetRange lo hi).straps = s.straps := rfl

/-! ### setPin -/

@[simp] theorem setPin_pending (s : State) (t n : Nat) (p : PinSt) : (s.setPin t n p).pending = s.pending := rfl
@[simp] theorem setPin_regs (s : State) (t n : Nat) (p : PinSt) : (s.setPin t n p).regs = s.regs := rfl
@[simp] theorem setPin_stg (s : State) (t n : Nat) (p : PinSt) : (s.setPin t n p).stg = s.stg := rfl
@[simp] theorem setPin_wait (s : State) (t n : Nat) (p : PinSt) : (s.setPin t n p).wait = s.wait := rfl
@[simp] theorem setPin_busRead (s : State) (t n : Nat) (p : PinSt) : (s.setPin t n p).busRead = s.busRead := rfl
@[simp] theorem setPin_busBytes (s : State) (t n : Nat) (p : PinSt) : (s.setPin t n p).busBytes = s.busBytes := rfl
@[simp] theorem setPin_free (s : State) (t n : Nat) (p : PinSt) : (s.setPin t n p).free = s.free := rfl
@[simp] theorem setPin_time (s : State) (t n : Nat) (p : PinSt) : (s.setPin t n p).time = s.time := rfl
@[simp] theorem setPin_flt (s : State) (t n : Nat) (p : PinSt) : (s.setPin t n p).flt = s.flt := rfl
@[simp] theorem setPin_contained (s : State) (t n : Nat) (p : PinSt) : (s.setPin t n p).contained = s.contained := rfl
@[simp] theorem setPin_msix (s : State) (t n : Nat) (p : PinSt) : (s.setPin t n p).msix = s.msix := rfl
@[simp] theorem setPin_latch (s : State) (t n : Nat) (p : PinSt) : (s.setPin t n p).latch = s.latch := rfl
@[simp] theorem setPin_deferred (s : State) (t n : Nat) (p : PinSt) : (s.setPin t n p).deferred = s.deferred := rfl
@[simp] theorem setPin_v24Rev (s : State) (t n : Nat) (p : PinSt) : (s.setPin t n p).v24Rev = s.v24Rev := rfl
@[simp] theorem setPin_rtcNs (s : State) (t n : Nat) (p : PinSt) : (s.setPin t n p).rtcNs = s.rtcNs := rfl
@[simp] theorem setPin_ledger (s : State) (t n : Nat) (p : PinSt) : (s.setPin t n p).ledger = s.ledger := rfl
@[simp] theorem setPin_gio (s : State) (t n : Nat) (p : PinSt) : (s.setPin t n p).gio = s.gio := rfl
@[simp] theorem setPin_tiles (s : State) (t n : Nat) (p : PinSt) : (s.setPin t n p).tiles = s.tiles := rfl
@[simp] theorem setPin_sched (s : State) (t n : Nat) (p : PinSt) : (s.setPin t n p).sched = s.sched := rfl
@[simp] theorem setPin_ports (s : State) (t n : Nat) (p : PinSt) : (s.setPin t n p).ports = s.ports := rfl
@[simp] theorem setPin_engs (s : State) (t n : Nat) (p : PinSt) : (s.setPin t n p).engs = s.engs := rfl
@[simp] theorem setPin_dmas (s : State) (t n : Nat) (p : PinSt) : (s.setPin t n p).dmas = s.dmas := rfl
@[simp] theorem setPin_mem (s : State) (t n : Nat) (p : PinSt) : (s.setPin t n p).mem = s.mem := rfl
@[simp] theorem setPin_fab (s : State) (t n : Nat) (p : PinSt) : (s.setPin t n p).fab = s.fab := rfl
@[simp] theorem setPin_rcfg (s : State) (t n : Nat) (p : PinSt) : (s.setPin t n p).rcfg = s.rcfg := rfl
@[simp] theorem setPin_pwr (s : State) (t n : Nat) (p : PinSt) : (s.setPin t n p).pwr = s.pwr := rfl
@[simp] theorem setPin_host (s : State) (t n : Nat) (p : PinSt) : (s.setPin t n p).host = s.host := rfl
@[simp] theorem setPin_load (s : State) (t n : Nat) (p : PinSt) : (s.setPin t n p).load = s.load := rfl
@[simp] theorem setPin_clock (s : State) (t n : Nat) (p : PinSt) : (s.setPin t n p).clock = s.clock := rfl
@[simp] theorem setPin_sec (s : State) (t n : Nat) (p : PinSt) : (s.setPin t n p).sec = s.sec := rfl
@[simp] theorem setPin_straps (s : State) (t n : Nat) (p : PinSt) : (s.setPin t n p).straps = s.straps := rfl

/-! ### modPin -/

@[simp] theorem modPin_pending (s : State) (t n : Nat) (f : PinSt → PinSt) : (s.modPin t n f).pending = s.pending := rfl
@[simp] theorem modPin_regs (s : State) (t n : Nat) (f : PinSt → PinSt) : (s.modPin t n f).regs = s.regs := rfl
@[simp] theorem modPin_stg (s : State) (t n : Nat) (f : PinSt → PinSt) : (s.modPin t n f).stg = s.stg := rfl
@[simp] theorem modPin_wait (s : State) (t n : Nat) (f : PinSt → PinSt) : (s.modPin t n f).wait = s.wait := rfl
@[simp] theorem modPin_busRead (s : State) (t n : Nat) (f : PinSt → PinSt) : (s.modPin t n f).busRead = s.busRead := rfl
@[simp] theorem modPin_busBytes (s : State) (t n : Nat) (f : PinSt → PinSt) : (s.modPin t n f).busBytes = s.busBytes := rfl
@[simp] theorem modPin_free (s : State) (t n : Nat) (f : PinSt → PinSt) : (s.modPin t n f).free = s.free := rfl
@[simp] theorem modPin_time (s : State) (t n : Nat) (f : PinSt → PinSt) : (s.modPin t n f).time = s.time := rfl
@[simp] theorem modPin_flt (s : State) (t n : Nat) (f : PinSt → PinSt) : (s.modPin t n f).flt = s.flt := rfl
@[simp] theorem modPin_contained (s : State) (t n : Nat) (f : PinSt → PinSt) : (s.modPin t n f).contained = s.contained := rfl
@[simp] theorem modPin_msix (s : State) (t n : Nat) (f : PinSt → PinSt) : (s.modPin t n f).msix = s.msix := rfl
@[simp] theorem modPin_latch (s : State) (t n : Nat) (f : PinSt → PinSt) : (s.modPin t n f).latch = s.latch := rfl
@[simp] theorem modPin_deferred (s : State) (t n : Nat) (f : PinSt → PinSt) : (s.modPin t n f).deferred = s.deferred := rfl
@[simp] theorem modPin_v24Rev (s : State) (t n : Nat) (f : PinSt → PinSt) : (s.modPin t n f).v24Rev = s.v24Rev := rfl
@[simp] theorem modPin_rtcNs (s : State) (t n : Nat) (f : PinSt → PinSt) : (s.modPin t n f).rtcNs = s.rtcNs := rfl
@[simp] theorem modPin_ledger (s : State) (t n : Nat) (f : PinSt → PinSt) : (s.modPin t n f).ledger = s.ledger := rfl
@[simp] theorem modPin_gio (s : State) (t n : Nat) (f : PinSt → PinSt) : (s.modPin t n f).gio = s.gio := rfl
@[simp] theorem modPin_tiles (s : State) (t n : Nat) (f : PinSt → PinSt) : (s.modPin t n f).tiles = s.tiles := rfl
@[simp] theorem modPin_sched (s : State) (t n : Nat) (f : PinSt → PinSt) : (s.modPin t n f).sched = s.sched := rfl
@[simp] theorem modPin_ports (s : State) (t n : Nat) (f : PinSt → PinSt) : (s.modPin t n f).ports = s.ports := rfl
@[simp] theorem modPin_engs (s : State) (t n : Nat) (f : PinSt → PinSt) : (s.modPin t n f).engs = s.engs := rfl
@[simp] theorem modPin_dmas (s : State) (t n : Nat) (f : PinSt → PinSt) : (s.modPin t n f).dmas = s.dmas := rfl
@[simp] theorem modPin_mem (s : State) (t n : Nat) (f : PinSt → PinSt) : (s.modPin t n f).mem = s.mem := rfl
@[simp] theorem modPin_fab (s : State) (t n : Nat) (f : PinSt → PinSt) : (s.modPin t n f).fab = s.fab := rfl
@[simp] theorem modPin_rcfg (s : State) (t n : Nat) (f : PinSt → PinSt) : (s.modPin t n f).rcfg = s.rcfg := rfl
@[simp] theorem modPin_pwr (s : State) (t n : Nat) (f : PinSt → PinSt) : (s.modPin t n f).pwr = s.pwr := rfl
@[simp] theorem modPin_host (s : State) (t n : Nat) (f : PinSt → PinSt) : (s.modPin t n f).host = s.host := rfl
@[simp] theorem modPin_load (s : State) (t n : Nat) (f : PinSt → PinSt) : (s.modPin t n f).load = s.load := rfl
@[simp] theorem modPin_clock (s : State) (t n : Nat) (f : PinSt → PinSt) : (s.modPin t n f).clock = s.clock := rfl
@[simp] theorem modPin_sec (s : State) (t n : Nat) (f : PinSt → PinSt) : (s.modPin t n f).sec = s.sec := rfl
@[simp] theorem modPin_straps (s : State) (t n : Nat) (f : PinSt → PinSt) : (s.modPin t n f).straps = s.straps := rfl

/-! ### setTile -/

@[simp] theorem setTile_pending (s : State) (t : Nat) (x : TileSt) : (s.setTile t x).pending = s.pending := rfl
@[simp] theorem setTile_regs (s : State) (t : Nat) (x : TileSt) : (s.setTile t x).regs = s.regs := rfl
@[simp] theorem setTile_stg (s : State) (t : Nat) (x : TileSt) : (s.setTile t x).stg = s.stg := rfl
@[simp] theorem setTile_wait (s : State) (t : Nat) (x : TileSt) : (s.setTile t x).wait = s.wait := rfl
@[simp] theorem setTile_busRead (s : State) (t : Nat) (x : TileSt) : (s.setTile t x).busRead = s.busRead := rfl
@[simp] theorem setTile_busBytes (s : State) (t : Nat) (x : TileSt) : (s.setTile t x).busBytes = s.busBytes := rfl
@[simp] theorem setTile_free (s : State) (t : Nat) (x : TileSt) : (s.setTile t x).free = s.free := rfl
@[simp] theorem setTile_time (s : State) (t : Nat) (x : TileSt) : (s.setTile t x).time = s.time := rfl
@[simp] theorem setTile_flt (s : State) (t : Nat) (x : TileSt) : (s.setTile t x).flt = s.flt := rfl
@[simp] theorem setTile_contained (s : State) (t : Nat) (x : TileSt) : (s.setTile t x).contained = s.contained := rfl
@[simp] theorem setTile_msix (s : State) (t : Nat) (x : TileSt) : (s.setTile t x).msix = s.msix := rfl
@[simp] theorem setTile_latch (s : State) (t : Nat) (x : TileSt) : (s.setTile t x).latch = s.latch := rfl
@[simp] theorem setTile_deferred (s : State) (t : Nat) (x : TileSt) : (s.setTile t x).deferred = s.deferred := rfl
@[simp] theorem setTile_v24Rev (s : State) (t : Nat) (x : TileSt) : (s.setTile t x).v24Rev = s.v24Rev := rfl
@[simp] theorem setTile_rtcNs (s : State) (t : Nat) (x : TileSt) : (s.setTile t x).rtcNs = s.rtcNs := rfl
@[simp] theorem setTile_ledger (s : State) (t : Nat) (x : TileSt) : (s.setTile t x).ledger = s.ledger := rfl
@[simp] theorem setTile_pins (s : State) (t : Nat) (x : TileSt) : (s.setTile t x).pins = s.pins := rfl
@[simp] theorem setTile_gio (s : State) (t : Nat) (x : TileSt) : (s.setTile t x).gio = s.gio := rfl
@[simp] theorem setTile_sched (s : State) (t : Nat) (x : TileSt) : (s.setTile t x).sched = s.sched := rfl
@[simp] theorem setTile_ports (s : State) (t : Nat) (x : TileSt) : (s.setTile t x).ports = s.ports := rfl
@[simp] theorem setTile_engs (s : State) (t : Nat) (x : TileSt) : (s.setTile t x).engs = s.engs := rfl
@[simp] theorem setTile_dmas (s : State) (t : Nat) (x : TileSt) : (s.setTile t x).dmas = s.dmas := rfl
@[simp] theorem setTile_mem (s : State) (t : Nat) (x : TileSt) : (s.setTile t x).mem = s.mem := rfl
@[simp] theorem setTile_fab (s : State) (t : Nat) (x : TileSt) : (s.setTile t x).fab = s.fab := rfl
@[simp] theorem setTile_rcfg (s : State) (t : Nat) (x : TileSt) : (s.setTile t x).rcfg = s.rcfg := rfl
@[simp] theorem setTile_pwr (s : State) (t : Nat) (x : TileSt) : (s.setTile t x).pwr = s.pwr := rfl
@[simp] theorem setTile_host (s : State) (t : Nat) (x : TileSt) : (s.setTile t x).host = s.host := rfl
@[simp] theorem setTile_load (s : State) (t : Nat) (x : TileSt) : (s.setTile t x).load = s.load := rfl
@[simp] theorem setTile_clock (s : State) (t : Nat) (x : TileSt) : (s.setTile t x).clock = s.clock := rfl
@[simp] theorem setTile_sec (s : State) (t : Nat) (x : TileSt) : (s.setTile t x).sec = s.sec := rfl
@[simp] theorem setTile_straps (s : State) (t : Nat) (x : TileSt) : (s.setTile t x).straps = s.straps := rfl

/-! ### modTile -/

@[simp] theorem modTile_pending (s : State) (t : Nat) (f : TileSt → TileSt) : (s.modTile t f).pending = s.pending := rfl
@[simp] theorem modTile_regs (s : State) (t : Nat) (f : TileSt → TileSt) : (s.modTile t f).regs = s.regs := rfl
@[simp] theorem modTile_stg (s : State) (t : Nat) (f : TileSt → TileSt) : (s.modTile t f).stg = s.stg := rfl
@[simp] theorem modTile_wait (s : State) (t : Nat) (f : TileSt → TileSt) : (s.modTile t f).wait = s.wait := rfl
@[simp] theorem modTile_busRead (s : State) (t : Nat) (f : TileSt → TileSt) : (s.modTile t f).busRead = s.busRead := rfl
@[simp] theorem modTile_busBytes (s : State) (t : Nat) (f : TileSt → TileSt) : (s.modTile t f).busBytes = s.busBytes := rfl
@[simp] theorem modTile_free (s : State) (t : Nat) (f : TileSt → TileSt) : (s.modTile t f).free = s.free := rfl
@[simp] theorem modTile_time (s : State) (t : Nat) (f : TileSt → TileSt) : (s.modTile t f).time = s.time := rfl
@[simp] theorem modTile_flt (s : State) (t : Nat) (f : TileSt → TileSt) : (s.modTile t f).flt = s.flt := rfl
@[simp] theorem modTile_contained (s : State) (t : Nat) (f : TileSt → TileSt) : (s.modTile t f).contained = s.contained := rfl
@[simp] theorem modTile_msix (s : State) (t : Nat) (f : TileSt → TileSt) : (s.modTile t f).msix = s.msix := rfl
@[simp] theorem modTile_latch (s : State) (t : Nat) (f : TileSt → TileSt) : (s.modTile t f).latch = s.latch := rfl
@[simp] theorem modTile_deferred (s : State) (t : Nat) (f : TileSt → TileSt) : (s.modTile t f).deferred = s.deferred := rfl
@[simp] theorem modTile_v24Rev (s : State) (t : Nat) (f : TileSt → TileSt) : (s.modTile t f).v24Rev = s.v24Rev := rfl
@[simp] theorem modTile_rtcNs (s : State) (t : Nat) (f : TileSt → TileSt) : (s.modTile t f).rtcNs = s.rtcNs := rfl
@[simp] theorem modTile_ledger (s : State) (t : Nat) (f : TileSt → TileSt) : (s.modTile t f).ledger = s.ledger := rfl
@[simp] theorem modTile_pins (s : State) (t : Nat) (f : TileSt → TileSt) : (s.modTile t f).pins = s.pins := rfl
@[simp] theorem modTile_gio (s : State) (t : Nat) (f : TileSt → TileSt) : (s.modTile t f).gio = s.gio := rfl
@[simp] theorem modTile_sched (s : State) (t : Nat) (f : TileSt → TileSt) : (s.modTile t f).sched = s.sched := rfl
@[simp] theorem modTile_ports (s : State) (t : Nat) (f : TileSt → TileSt) : (s.modTile t f).ports = s.ports := rfl
@[simp] theorem modTile_engs (s : State) (t : Nat) (f : TileSt → TileSt) : (s.modTile t f).engs = s.engs := rfl
@[simp] theorem modTile_dmas (s : State) (t : Nat) (f : TileSt → TileSt) : (s.modTile t f).dmas = s.dmas := rfl
@[simp] theorem modTile_mem (s : State) (t : Nat) (f : TileSt → TileSt) : (s.modTile t f).mem = s.mem := rfl
@[simp] theorem modTile_fab (s : State) (t : Nat) (f : TileSt → TileSt) : (s.modTile t f).fab = s.fab := rfl
@[simp] theorem modTile_rcfg (s : State) (t : Nat) (f : TileSt → TileSt) : (s.modTile t f).rcfg = s.rcfg := rfl
@[simp] theorem modTile_pwr (s : State) (t : Nat) (f : TileSt → TileSt) : (s.modTile t f).pwr = s.pwr := rfl
@[simp] theorem modTile_host (s : State) (t : Nat) (f : TileSt → TileSt) : (s.modTile t f).host = s.host := rfl
@[simp] theorem modTile_load (s : State) (t : Nat) (f : TileSt → TileSt) : (s.modTile t f).load = s.load := rfl
@[simp] theorem modTile_clock (s : State) (t : Nat) (f : TileSt → TileSt) : (s.modTile t f).clock = s.clock := rfl
@[simp] theorem modTile_sec (s : State) (t : Nat) (f : TileSt → TileSt) : (s.modTile t f).sec = s.sec := rfl
@[simp] theorem modTile_straps (s : State) (t : Nat) (f : TileSt → TileSt) : (s.modTile t f).straps = s.straps := rfl

/-! ### setPort -/

@[simp] theorem setPort_pending (s : State) (p : Nat) (x : PortSt) : (s.setPort p x).pending = s.pending := rfl
@[simp] theorem setPort_regs (s : State) (p : Nat) (x : PortSt) : (s.setPort p x).regs = s.regs := rfl
@[simp] theorem setPort_stg (s : State) (p : Nat) (x : PortSt) : (s.setPort p x).stg = s.stg := rfl
@[simp] theorem setPort_wait (s : State) (p : Nat) (x : PortSt) : (s.setPort p x).wait = s.wait := rfl
@[simp] theorem setPort_busRead (s : State) (p : Nat) (x : PortSt) : (s.setPort p x).busRead = s.busRead := rfl
@[simp] theorem setPort_busBytes (s : State) (p : Nat) (x : PortSt) : (s.setPort p x).busBytes = s.busBytes := rfl
@[simp] theorem setPort_free (s : State) (p : Nat) (x : PortSt) : (s.setPort p x).free = s.free := rfl
@[simp] theorem setPort_time (s : State) (p : Nat) (x : PortSt) : (s.setPort p x).time = s.time := rfl
@[simp] theorem setPort_flt (s : State) (p : Nat) (x : PortSt) : (s.setPort p x).flt = s.flt := rfl
@[simp] theorem setPort_contained (s : State) (p : Nat) (x : PortSt) : (s.setPort p x).contained = s.contained := rfl
@[simp] theorem setPort_msix (s : State) (p : Nat) (x : PortSt) : (s.setPort p x).msix = s.msix := rfl
@[simp] theorem setPort_latch (s : State) (p : Nat) (x : PortSt) : (s.setPort p x).latch = s.latch := rfl
@[simp] theorem setPort_deferred (s : State) (p : Nat) (x : PortSt) : (s.setPort p x).deferred = s.deferred := rfl
@[simp] theorem setPort_v24Rev (s : State) (p : Nat) (x : PortSt) : (s.setPort p x).v24Rev = s.v24Rev := rfl
@[simp] theorem setPort_rtcNs (s : State) (p : Nat) (x : PortSt) : (s.setPort p x).rtcNs = s.rtcNs := rfl
@[simp] theorem setPort_ledger (s : State) (p : Nat) (x : PortSt) : (s.setPort p x).ledger = s.ledger := rfl
@[simp] theorem setPort_pins (s : State) (p : Nat) (x : PortSt) : (s.setPort p x).pins = s.pins := rfl
@[simp] theorem setPort_gio (s : State) (p : Nat) (x : PortSt) : (s.setPort p x).gio = s.gio := rfl
@[simp] theorem setPort_tiles (s : State) (p : Nat) (x : PortSt) : (s.setPort p x).tiles = s.tiles := rfl
@[simp] theorem setPort_sched (s : State) (p : Nat) (x : PortSt) : (s.setPort p x).sched = s.sched := rfl
@[simp] theorem setPort_engs (s : State) (p : Nat) (x : PortSt) : (s.setPort p x).engs = s.engs := rfl
@[simp] theorem setPort_dmas (s : State) (p : Nat) (x : PortSt) : (s.setPort p x).dmas = s.dmas := rfl
@[simp] theorem setPort_mem (s : State) (p : Nat) (x : PortSt) : (s.setPort p x).mem = s.mem := rfl
@[simp] theorem setPort_fab (s : State) (p : Nat) (x : PortSt) : (s.setPort p x).fab = s.fab := rfl
@[simp] theorem setPort_rcfg (s : State) (p : Nat) (x : PortSt) : (s.setPort p x).rcfg = s.rcfg := rfl
@[simp] theorem setPort_pwr (s : State) (p : Nat) (x : PortSt) : (s.setPort p x).pwr = s.pwr := rfl
@[simp] theorem setPort_host (s : State) (p : Nat) (x : PortSt) : (s.setPort p x).host = s.host := rfl
@[simp] theorem setPort_load (s : State) (p : Nat) (x : PortSt) : (s.setPort p x).load = s.load := rfl
@[simp] theorem setPort_clock (s : State) (p : Nat) (x : PortSt) : (s.setPort p x).clock = s.clock := rfl
@[simp] theorem setPort_sec (s : State) (p : Nat) (x : PortSt) : (s.setPort p x).sec = s.sec := rfl
@[simp] theorem setPort_straps (s : State) (p : Nat) (x : PortSt) : (s.setPort p x).straps = s.straps := rfl

/-! ### modPort -/

@[simp] theorem modPort_pending (s : State) (p : Nat) (f : PortSt → PortSt) : (s.modPort p f).pending = s.pending := rfl
@[simp] theorem modPort_regs (s : State) (p : Nat) (f : PortSt → PortSt) : (s.modPort p f).regs = s.regs := rfl
@[simp] theorem modPort_stg (s : State) (p : Nat) (f : PortSt → PortSt) : (s.modPort p f).stg = s.stg := rfl
@[simp] theorem modPort_wait (s : State) (p : Nat) (f : PortSt → PortSt) : (s.modPort p f).wait = s.wait := rfl
@[simp] theorem modPort_busRead (s : State) (p : Nat) (f : PortSt → PortSt) : (s.modPort p f).busRead = s.busRead := rfl
@[simp] theorem modPort_busBytes (s : State) (p : Nat) (f : PortSt → PortSt) : (s.modPort p f).busBytes = s.busBytes := rfl
@[simp] theorem modPort_free (s : State) (p : Nat) (f : PortSt → PortSt) : (s.modPort p f).free = s.free := rfl
@[simp] theorem modPort_time (s : State) (p : Nat) (f : PortSt → PortSt) : (s.modPort p f).time = s.time := rfl
@[simp] theorem modPort_flt (s : State) (p : Nat) (f : PortSt → PortSt) : (s.modPort p f).flt = s.flt := rfl
@[simp] theorem modPort_contained (s : State) (p : Nat) (f : PortSt → PortSt) : (s.modPort p f).contained = s.contained := rfl
@[simp] theorem modPort_msix (s : State) (p : Nat) (f : PortSt → PortSt) : (s.modPort p f).msix = s.msix := rfl
@[simp] theorem modPort_latch (s : State) (p : Nat) (f : PortSt → PortSt) : (s.modPort p f).latch = s.latch := rfl
@[simp] theorem modPort_deferred (s : State) (p : Nat) (f : PortSt → PortSt) : (s.modPort p f).deferred = s.deferred := rfl
@[simp] theorem modPort_v24Rev (s : State) (p : Nat) (f : PortSt → PortSt) : (s.modPort p f).v24Rev = s.v24Rev := rfl
@[simp] theorem modPort_rtcNs (s : State) (p : Nat) (f : PortSt → PortSt) : (s.modPort p f).rtcNs = s.rtcNs := rfl
@[simp] theorem modPort_ledger (s : State) (p : Nat) (f : PortSt → PortSt) : (s.modPort p f).ledger = s.ledger := rfl
@[simp] theorem modPort_pins (s : State) (p : Nat) (f : PortSt → PortSt) : (s.modPort p f).pins = s.pins := rfl
@[simp] theorem modPort_gio (s : State) (p : Nat) (f : PortSt → PortSt) : (s.modPort p f).gio = s.gio := rfl
@[simp] theorem modPort_tiles (s : State) (p : Nat) (f : PortSt → PortSt) : (s.modPort p f).tiles = s.tiles := rfl
@[simp] theorem modPort_sched (s : State) (p : Nat) (f : PortSt → PortSt) : (s.modPort p f).sched = s.sched := rfl
@[simp] theorem modPort_engs (s : State) (p : Nat) (f : PortSt → PortSt) : (s.modPort p f).engs = s.engs := rfl
@[simp] theorem modPort_dmas (s : State) (p : Nat) (f : PortSt → PortSt) : (s.modPort p f).dmas = s.dmas := rfl
@[simp] theorem modPort_mem (s : State) (p : Nat) (f : PortSt → PortSt) : (s.modPort p f).mem = s.mem := rfl
@[simp] theorem modPort_fab (s : State) (p : Nat) (f : PortSt → PortSt) : (s.modPort p f).fab = s.fab := rfl
@[simp] theorem modPort_rcfg (s : State) (p : Nat) (f : PortSt → PortSt) : (s.modPort p f).rcfg = s.rcfg := rfl
@[simp] theorem modPort_pwr (s : State) (p : Nat) (f : PortSt → PortSt) : (s.modPort p f).pwr = s.pwr := rfl
@[simp] theorem modPort_host (s : State) (p : Nat) (f : PortSt → PortSt) : (s.modPort p f).host = s.host := rfl
@[simp] theorem modPort_load (s : State) (p : Nat) (f : PortSt → PortSt) : (s.modPort p f).load = s.load := rfl
@[simp] theorem modPort_clock (s : State) (p : Nat) (f : PortSt → PortSt) : (s.modPort p f).clock = s.clock := rfl
@[simp] theorem modPort_sec (s : State) (p : Nat) (f : PortSt → PortSt) : (s.modPort p f).sec = s.sec := rfl
@[simp] theorem modPort_straps (s : State) (p : Nat) (f : PortSt → PortSt) : (s.modPort p f).straps = s.straps := rfl

/-! ### setStream -/

@[simp] theorem setStream_pending (s : State) (k : Nat) (x : StreamSt) : (s.setStream k x).pending = s.pending := rfl
@[simp] theorem setStream_regs (s : State) (k : Nat) (x : StreamSt) : (s.setStream k x).regs = s.regs := rfl
@[simp] theorem setStream_stg (s : State) (k : Nat) (x : StreamSt) : (s.setStream k x).stg = s.stg := rfl
@[simp] theorem setStream_wait (s : State) (k : Nat) (x : StreamSt) : (s.setStream k x).wait = s.wait := rfl
@[simp] theorem setStream_busRead (s : State) (k : Nat) (x : StreamSt) : (s.setStream k x).busRead = s.busRead := rfl
@[simp] theorem setStream_busBytes (s : State) (k : Nat) (x : StreamSt) : (s.setStream k x).busBytes = s.busBytes := rfl
@[simp] theorem setStream_free (s : State) (k : Nat) (x : StreamSt) : (s.setStream k x).free = s.free := rfl
@[simp] theorem setStream_time (s : State) (k : Nat) (x : StreamSt) : (s.setStream k x).time = s.time := rfl
@[simp] theorem setStream_flt (s : State) (k : Nat) (x : StreamSt) : (s.setStream k x).flt = s.flt := rfl
@[simp] theorem setStream_contained (s : State) (k : Nat) (x : StreamSt) : (s.setStream k x).contained = s.contained := rfl
@[simp] theorem setStream_msix (s : State) (k : Nat) (x : StreamSt) : (s.setStream k x).msix = s.msix := rfl
@[simp] theorem setStream_latch (s : State) (k : Nat) (x : StreamSt) : (s.setStream k x).latch = s.latch := rfl
@[simp] theorem setStream_deferred (s : State) (k : Nat) (x : StreamSt) : (s.setStream k x).deferred = s.deferred := rfl
@[simp] theorem setStream_v24Rev (s : State) (k : Nat) (x : StreamSt) : (s.setStream k x).v24Rev = s.v24Rev := rfl
@[simp] theorem setStream_rtcNs (s : State) (k : Nat) (x : StreamSt) : (s.setStream k x).rtcNs = s.rtcNs := rfl
@[simp] theorem setStream_ledger (s : State) (k : Nat) (x : StreamSt) : (s.setStream k x).ledger = s.ledger := rfl
@[simp] theorem setStream_pins (s : State) (k : Nat) (x : StreamSt) : (s.setStream k x).pins = s.pins := rfl
@[simp] theorem setStream_gio (s : State) (k : Nat) (x : StreamSt) : (s.setStream k x).gio = s.gio := rfl
@[simp] theorem setStream_tiles (s : State) (k : Nat) (x : StreamSt) : (s.setStream k x).tiles = s.tiles := rfl
@[simp] theorem setStream_ports (s : State) (k : Nat) (x : StreamSt) : (s.setStream k x).ports = s.ports := rfl
@[simp] theorem setStream_engs (s : State) (k : Nat) (x : StreamSt) : (s.setStream k x).engs = s.engs := rfl
@[simp] theorem setStream_dmas (s : State) (k : Nat) (x : StreamSt) : (s.setStream k x).dmas = s.dmas := rfl
@[simp] theorem setStream_mem (s : State) (k : Nat) (x : StreamSt) : (s.setStream k x).mem = s.mem := rfl
@[simp] theorem setStream_fab (s : State) (k : Nat) (x : StreamSt) : (s.setStream k x).fab = s.fab := rfl
@[simp] theorem setStream_rcfg (s : State) (k : Nat) (x : StreamSt) : (s.setStream k x).rcfg = s.rcfg := rfl
@[simp] theorem setStream_pwr (s : State) (k : Nat) (x : StreamSt) : (s.setStream k x).pwr = s.pwr := rfl
@[simp] theorem setStream_host (s : State) (k : Nat) (x : StreamSt) : (s.setStream k x).host = s.host := rfl
@[simp] theorem setStream_load (s : State) (k : Nat) (x : StreamSt) : (s.setStream k x).load = s.load := rfl
@[simp] theorem setStream_clock (s : State) (k : Nat) (x : StreamSt) : (s.setStream k x).clock = s.clock := rfl
@[simp] theorem setStream_sec (s : State) (k : Nat) (x : StreamSt) : (s.setStream k x).sec = s.sec := rfl
@[simp] theorem setStream_straps (s : State) (k : Nat) (x : StreamSt) : (s.setStream k x).straps = s.straps := rfl

/-! ### modStream -/

@[simp] theorem modStream_pending (s : State) (k : Nat) (f : StreamSt → StreamSt) : (s.modStream k f).pending = s.pending := rfl
@[simp] theorem modStream_regs (s : State) (k : Nat) (f : StreamSt → StreamSt) : (s.modStream k f).regs = s.regs := rfl
@[simp] theorem modStream_stg (s : State) (k : Nat) (f : StreamSt → StreamSt) : (s.modStream k f).stg = s.stg := rfl
@[simp] theorem modStream_wait (s : State) (k : Nat) (f : StreamSt → StreamSt) : (s.modStream k f).wait = s.wait := rfl
@[simp] theorem modStream_busRead (s : State) (k : Nat) (f : StreamSt → StreamSt) : (s.modStream k f).busRead = s.busRead := rfl
@[simp] theorem modStream_busBytes (s : State) (k : Nat) (f : StreamSt → StreamSt) : (s.modStream k f).busBytes = s.busBytes := rfl
@[simp] theorem modStream_free (s : State) (k : Nat) (f : StreamSt → StreamSt) : (s.modStream k f).free = s.free := rfl
@[simp] theorem modStream_time (s : State) (k : Nat) (f : StreamSt → StreamSt) : (s.modStream k f).time = s.time := rfl
@[simp] theorem modStream_flt (s : State) (k : Nat) (f : StreamSt → StreamSt) : (s.modStream k f).flt = s.flt := rfl
@[simp] theorem modStream_contained (s : State) (k : Nat) (f : StreamSt → StreamSt) : (s.modStream k f).contained = s.contained := rfl
@[simp] theorem modStream_msix (s : State) (k : Nat) (f : StreamSt → StreamSt) : (s.modStream k f).msix = s.msix := rfl
@[simp] theorem modStream_latch (s : State) (k : Nat) (f : StreamSt → StreamSt) : (s.modStream k f).latch = s.latch := rfl
@[simp] theorem modStream_deferred (s : State) (k : Nat) (f : StreamSt → StreamSt) : (s.modStream k f).deferred = s.deferred := rfl
@[simp] theorem modStream_v24Rev (s : State) (k : Nat) (f : StreamSt → StreamSt) : (s.modStream k f).v24Rev = s.v24Rev := rfl
@[simp] theorem modStream_rtcNs (s : State) (k : Nat) (f : StreamSt → StreamSt) : (s.modStream k f).rtcNs = s.rtcNs := rfl
@[simp] theorem modStream_ledger (s : State) (k : Nat) (f : StreamSt → StreamSt) : (s.modStream k f).ledger = s.ledger := rfl
@[simp] theorem modStream_pins (s : State) (k : Nat) (f : StreamSt → StreamSt) : (s.modStream k f).pins = s.pins := rfl
@[simp] theorem modStream_gio (s : State) (k : Nat) (f : StreamSt → StreamSt) : (s.modStream k f).gio = s.gio := rfl
@[simp] theorem modStream_tiles (s : State) (k : Nat) (f : StreamSt → StreamSt) : (s.modStream k f).tiles = s.tiles := rfl
@[simp] theorem modStream_ports (s : State) (k : Nat) (f : StreamSt → StreamSt) : (s.modStream k f).ports = s.ports := rfl
@[simp] theorem modStream_engs (s : State) (k : Nat) (f : StreamSt → StreamSt) : (s.modStream k f).engs = s.engs := rfl
@[simp] theorem modStream_dmas (s : State) (k : Nat) (f : StreamSt → StreamSt) : (s.modStream k f).dmas = s.dmas := rfl
@[simp] theorem modStream_mem (s : State) (k : Nat) (f : StreamSt → StreamSt) : (s.modStream k f).mem = s.mem := rfl
@[simp] theorem modStream_fab (s : State) (k : Nat) (f : StreamSt → StreamSt) : (s.modStream k f).fab = s.fab := rfl
@[simp] theorem modStream_rcfg (s : State) (k : Nat) (f : StreamSt → StreamSt) : (s.modStream k f).rcfg = s.rcfg := rfl
@[simp] theorem modStream_pwr (s : State) (k : Nat) (f : StreamSt → StreamSt) : (s.modStream k f).pwr = s.pwr := rfl
@[simp] theorem modStream_host (s : State) (k : Nat) (f : StreamSt → StreamSt) : (s.modStream k f).host = s.host := rfl
@[simp] theorem modStream_load (s : State) (k : Nat) (f : StreamSt → StreamSt) : (s.modStream k f).load = s.load := rfl
@[simp] theorem modStream_clock (s : State) (k : Nat) (f : StreamSt → StreamSt) : (s.modStream k f).clock = s.clock := rfl
@[simp] theorem modStream_sec (s : State) (k : Nat) (f : StreamSt → StreamSt) : (s.modStream k f).sec = s.sec := rfl
@[simp] theorem modStream_straps (s : State) (k : Nat) (f : StreamSt → StreamSt) : (s.modStream k f).straps = s.straps := rfl

/-! ### setRing -/

@[simp] theorem setRing_pending (s : State) (r : Nat) (x : RingSt) : (s.setRing r x).pending = s.pending := rfl
@[simp] theorem setRing_regs (s : State) (r : Nat) (x : RingSt) : (s.setRing r x).regs = s.regs := rfl
@[simp] theorem setRing_stg (s : State) (r : Nat) (x : RingSt) : (s.setRing r x).stg = s.stg := rfl
@[simp] theorem setRing_wait (s : State) (r : Nat) (x : RingSt) : (s.setRing r x).wait = s.wait := rfl
@[simp] theorem setRing_busRead (s : State) (r : Nat) (x : RingSt) : (s.setRing r x).busRead = s.busRead := rfl
@[simp] theorem setRing_busBytes (s : State) (r : Nat) (x : RingSt) : (s.setRing r x).busBytes = s.busBytes := rfl
@[simp] theorem setRing_free (s : State) (r : Nat) (x : RingSt) : (s.setRing r x).free = s.free := rfl
@[simp] theorem setRing_time (s : State) (r : Nat) (x : RingSt) : (s.setRing r x).time = s.time := rfl
@[simp] theorem setRing_flt (s : State) (r : Nat) (x : RingSt) : (s.setRing r x).flt = s.flt := rfl
@[simp] theorem setRing_contained (s : State) (r : Nat) (x : RingSt) : (s.setRing r x).contained = s.contained := rfl
@[simp] theorem setRing_msix (s : State) (r : Nat) (x : RingSt) : (s.setRing r x).msix = s.msix := rfl
@[simp] theorem setRing_latch (s : State) (r : Nat) (x : RingSt) : (s.setRing r x).latch = s.latch := rfl
@[simp] theorem setRing_deferred (s : State) (r : Nat) (x : RingSt) : (s.setRing r x).deferred = s.deferred := rfl
@[simp] theorem setRing_v24Rev (s : State) (r : Nat) (x : RingSt) : (s.setRing r x).v24Rev = s.v24Rev := rfl
@[simp] theorem setRing_rtcNs (s : State) (r : Nat) (x : RingSt) : (s.setRing r x).rtcNs = s.rtcNs := rfl
@[simp] theorem setRing_ledger (s : State) (r : Nat) (x : RingSt) : (s.setRing r x).ledger = s.ledger := rfl
@[simp] theorem setRing_pins (s : State) (r : Nat) (x : RingSt) : (s.setRing r x).pins = s.pins := rfl
@[simp] theorem setRing_gio (s : State) (r : Nat) (x : RingSt) : (s.setRing r x).gio = s.gio := rfl
@[simp] theorem setRing_tiles (s : State) (r : Nat) (x : RingSt) : (s.setRing r x).tiles = s.tiles := rfl
@[simp] theorem setRing_ports (s : State) (r : Nat) (x : RingSt) : (s.setRing r x).ports = s.ports := rfl
@[simp] theorem setRing_engs (s : State) (r : Nat) (x : RingSt) : (s.setRing r x).engs = s.engs := rfl
@[simp] theorem setRing_dmas (s : State) (r : Nat) (x : RingSt) : (s.setRing r x).dmas = s.dmas := rfl
@[simp] theorem setRing_mem (s : State) (r : Nat) (x : RingSt) : (s.setRing r x).mem = s.mem := rfl
@[simp] theorem setRing_fab (s : State) (r : Nat) (x : RingSt) : (s.setRing r x).fab = s.fab := rfl
@[simp] theorem setRing_rcfg (s : State) (r : Nat) (x : RingSt) : (s.setRing r x).rcfg = s.rcfg := rfl
@[simp] theorem setRing_pwr (s : State) (r : Nat) (x : RingSt) : (s.setRing r x).pwr = s.pwr := rfl
@[simp] theorem setRing_host (s : State) (r : Nat) (x : RingSt) : (s.setRing r x).host = s.host := rfl
@[simp] theorem setRing_load (s : State) (r : Nat) (x : RingSt) : (s.setRing r x).load = s.load := rfl
@[simp] theorem setRing_clock (s : State) (r : Nat) (x : RingSt) : (s.setRing r x).clock = s.clock := rfl
@[simp] theorem setRing_sec (s : State) (r : Nat) (x : RingSt) : (s.setRing r x).sec = s.sec := rfl
@[simp] theorem setRing_straps (s : State) (r : Nat) (x : RingSt) : (s.setRing r x).straps = s.straps := rfl

/-! ### modRing -/

@[simp] theorem modRing_pending (s : State) (r : Nat) (f : RingSt → RingSt) : (s.modRing r f).pending = s.pending := rfl
@[simp] theorem modRing_regs (s : State) (r : Nat) (f : RingSt → RingSt) : (s.modRing r f).regs = s.regs := rfl
@[simp] theorem modRing_stg (s : State) (r : Nat) (f : RingSt → RingSt) : (s.modRing r f).stg = s.stg := rfl
@[simp] theorem modRing_wait (s : State) (r : Nat) (f : RingSt → RingSt) : (s.modRing r f).wait = s.wait := rfl
@[simp] theorem modRing_busRead (s : State) (r : Nat) (f : RingSt → RingSt) : (s.modRing r f).busRead = s.busRead := rfl
@[simp] theorem modRing_busBytes (s : State) (r : Nat) (f : RingSt → RingSt) : (s.modRing r f).busBytes = s.busBytes := rfl
@[simp] theorem modRing_free (s : State) (r : Nat) (f : RingSt → RingSt) : (s.modRing r f).free = s.free := rfl
@[simp] theorem modRing_time (s : State) (r : Nat) (f : RingSt → RingSt) : (s.modRing r f).time = s.time := rfl
@[simp] theorem modRing_flt (s : State) (r : Nat) (f : RingSt → RingSt) : (s.modRing r f).flt = s.flt := rfl
@[simp] theorem modRing_contained (s : State) (r : Nat) (f : RingSt → RingSt) : (s.modRing r f).contained = s.contained := rfl
@[simp] theorem modRing_msix (s : State) (r : Nat) (f : RingSt → RingSt) : (s.modRing r f).msix = s.msix := rfl
@[simp] theorem modRing_latch (s : State) (r : Nat) (f : RingSt → RingSt) : (s.modRing r f).latch = s.latch := rfl
@[simp] theorem modRing_deferred (s : State) (r : Nat) (f : RingSt → RingSt) : (s.modRing r f).deferred = s.deferred := rfl
@[simp] theorem modRing_v24Rev (s : State) (r : Nat) (f : RingSt → RingSt) : (s.modRing r f).v24Rev = s.v24Rev := rfl
@[simp] theorem modRing_rtcNs (s : State) (r : Nat) (f : RingSt → RingSt) : (s.modRing r f).rtcNs = s.rtcNs := rfl
@[simp] theorem modRing_ledger (s : State) (r : Nat) (f : RingSt → RingSt) : (s.modRing r f).ledger = s.ledger := rfl
@[simp] theorem modRing_pins (s : State) (r : Nat) (f : RingSt → RingSt) : (s.modRing r f).pins = s.pins := rfl
@[simp] theorem modRing_gio (s : State) (r : Nat) (f : RingSt → RingSt) : (s.modRing r f).gio = s.gio := rfl
@[simp] theorem modRing_tiles (s : State) (r : Nat) (f : RingSt → RingSt) : (s.modRing r f).tiles = s.tiles := rfl
@[simp] theorem modRing_ports (s : State) (r : Nat) (f : RingSt → RingSt) : (s.modRing r f).ports = s.ports := rfl
@[simp] theorem modRing_engs (s : State) (r : Nat) (f : RingSt → RingSt) : (s.modRing r f).engs = s.engs := rfl
@[simp] theorem modRing_dmas (s : State) (r : Nat) (f : RingSt → RingSt) : (s.modRing r f).dmas = s.dmas := rfl
@[simp] theorem modRing_mem (s : State) (r : Nat) (f : RingSt → RingSt) : (s.modRing r f).mem = s.mem := rfl
@[simp] theorem modRing_fab (s : State) (r : Nat) (f : RingSt → RingSt) : (s.modRing r f).fab = s.fab := rfl
@[simp] theorem modRing_rcfg (s : State) (r : Nat) (f : RingSt → RingSt) : (s.modRing r f).rcfg = s.rcfg := rfl
@[simp] theorem modRing_pwr (s : State) (r : Nat) (f : RingSt → RingSt) : (s.modRing r f).pwr = s.pwr := rfl
@[simp] theorem modRing_host (s : State) (r : Nat) (f : RingSt → RingSt) : (s.modRing r f).host = s.host := rfl
@[simp] theorem modRing_load (s : State) (r : Nat) (f : RingSt → RingSt) : (s.modRing r f).load = s.load := rfl
@[simp] theorem modRing_clock (s : State) (r : Nat) (f : RingSt → RingSt) : (s.modRing r f).clock = s.clock := rfl
@[simp] theorem modRing_sec (s : State) (r : Nat) (f : RingSt → RingSt) : (s.modRing r f).sec = s.sec := rfl
@[simp] theorem modRing_straps (s : State) (r : Nat) (f : RingSt → RingSt) : (s.modRing r f).straps = s.straps := rfl

/-! ### setFlights -/

@[simp] theorem setFlights_pending (s : State) (l : List Flight) : (s.setFlights l).pending = s.pending := rfl
@[simp] theorem setFlights_regs (s : State) (l : List Flight) : (s.setFlights l).regs = s.regs := rfl
@[simp] theorem setFlights_stg (s : State) (l : List Flight) : (s.setFlights l).stg = s.stg := rfl
@[simp] theorem setFlights_wait (s : State) (l : List Flight) : (s.setFlights l).wait = s.wait := rfl
@[simp] theorem setFlights_busRead (s : State) (l : List Flight) : (s.setFlights l).busRead = s.busRead := rfl
@[simp] theorem setFlights_busBytes (s : State) (l : List Flight) : (s.setFlights l).busBytes = s.busBytes := rfl
@[simp] theorem setFlights_free (s : State) (l : List Flight) : (s.setFlights l).free = s.free := rfl
@[simp] theorem setFlights_time (s : State) (l : List Flight) : (s.setFlights l).time = s.time := rfl
@[simp] theorem setFlights_flt (s : State) (l : List Flight) : (s.setFlights l).flt = s.flt := rfl
@[simp] theorem setFlights_contained (s : State) (l : List Flight) : (s.setFlights l).contained = s.contained := rfl
@[simp] theorem setFlights_msix (s : State) (l : List Flight) : (s.setFlights l).msix = s.msix := rfl
@[simp] theorem setFlights_latch (s : State) (l : List Flight) : (s.setFlights l).latch = s.latch := rfl
@[simp] theorem setFlights_deferred (s : State) (l : List Flight) : (s.setFlights l).deferred = s.deferred := rfl
@[simp] theorem setFlights_v24Rev (s : State) (l : List Flight) : (s.setFlights l).v24Rev = s.v24Rev := rfl
@[simp] theorem setFlights_rtcNs (s : State) (l : List Flight) : (s.setFlights l).rtcNs = s.rtcNs := rfl
@[simp] theorem setFlights_ledger (s : State) (l : List Flight) : (s.setFlights l).ledger = s.ledger := rfl
@[simp] theorem setFlights_pins (s : State) (l : List Flight) : (s.setFlights l).pins = s.pins := rfl
@[simp] theorem setFlights_gio (s : State) (l : List Flight) : (s.setFlights l).gio = s.gio := rfl
@[simp] theorem setFlights_tiles (s : State) (l : List Flight) : (s.setFlights l).tiles = s.tiles := rfl
@[simp] theorem setFlights_ports (s : State) (l : List Flight) : (s.setFlights l).ports = s.ports := rfl
@[simp] theorem setFlights_engs (s : State) (l : List Flight) : (s.setFlights l).engs = s.engs := rfl
@[simp] theorem setFlights_dmas (s : State) (l : List Flight) : (s.setFlights l).dmas = s.dmas := rfl
@[simp] theorem setFlights_mem (s : State) (l : List Flight) : (s.setFlights l).mem = s.mem := rfl
@[simp] theorem setFlights_fab (s : State) (l : List Flight) : (s.setFlights l).fab = s.fab := rfl
@[simp] theorem setFlights_rcfg (s : State) (l : List Flight) : (s.setFlights l).rcfg = s.rcfg := rfl
@[simp] theorem setFlights_pwr (s : State) (l : List Flight) : (s.setFlights l).pwr = s.pwr := rfl
@[simp] theorem setFlights_host (s : State) (l : List Flight) : (s.setFlights l).host = s.host := rfl
@[simp] theorem setFlights_load (s : State) (l : List Flight) : (s.setFlights l).load = s.load := rfl
@[simp] theorem setFlights_clock (s : State) (l : List Flight) : (s.setFlights l).clock = s.clock := rfl
@[simp] theorem setFlights_sec (s : State) (l : List Flight) : (s.setFlights l).sec = s.sec := rfl
@[simp] theorem setFlights_straps (s : State) (l : List Flight) : (s.setFlights l).straps = s.straps := rfl

/-! ### setEng -/

@[simp] theorem setEng_pending (s : State) (e : Nat) (x : EngSt) : (s.setEng e x).pending = s.pending := rfl
@[simp] theorem setEng_regs (s : State) (e : Nat) (x : EngSt) : (s.setEng e x).regs = s.regs := rfl
@[simp] theorem setEng_stg (s : State) (e : Nat) (x : EngSt) : (s.setEng e x).stg = s.stg := rfl
@[simp] theorem setEng_wait (s : State) (e : Nat) (x : EngSt) : (s.setEng e x).wait = s.wait := rfl
@[simp] theorem setEng_busRead (s : State) (e : Nat) (x : EngSt) : (s.setEng e x).busRead = s.busRead := rfl
@[simp] theorem setEng_busBytes (s : State) (e : Nat) (x : EngSt) : (s.setEng e x).busBytes = s.busBytes := rfl
@[simp] theorem setEng_free (s : State) (e : Nat) (x : EngSt) : (s.setEng e x).free = s.free := rfl
@[simp] theorem setEng_time (s : State) (e : Nat) (x : EngSt) : (s.setEng e x).time = s.time := rfl
@[simp] theorem setEng_flt (s : State) (e : Nat) (x : EngSt) : (s.setEng e x).flt = s.flt := rfl
@[simp] theorem setEng_contained (s : State) (e : Nat) (x : EngSt) : (s.setEng e x).contained = s.contained := rfl
@[simp] theorem setEng_msix (s : State) (e : Nat) (x : EngSt) : (s.setEng e x).msix = s.msix := rfl
@[simp] theorem setEng_latch (s : State) (e : Nat) (x : EngSt) : (s.setEng e x).latch = s.latch := rfl
@[simp] theorem setEng_deferred (s : State) (e : Nat) (x : EngSt) : (s.setEng e x).deferred = s.deferred := rfl
@[simp] theorem setEng_v24Rev (s : State) (e : Nat) (x : EngSt) : (s.setEng e x).v24Rev = s.v24Rev := rfl
@[simp] theorem setEng_rtcNs (s : State) (e : Nat) (x : EngSt) : (s.setEng e x).rtcNs = s.rtcNs := rfl
@[simp] theorem setEng_ledger (s : State) (e : Nat) (x : EngSt) : (s.setEng e x).ledger = s.ledger := rfl
@[simp] theorem setEng_pins (s : State) (e : Nat) (x : EngSt) : (s.setEng e x).pins = s.pins := rfl
@[simp] theorem setEng_gio (s : State) (e : Nat) (x : EngSt) : (s.setEng e x).gio = s.gio := rfl
@[simp] theorem setEng_tiles (s : State) (e : Nat) (x : EngSt) : (s.setEng e x).tiles = s.tiles := rfl
@[simp] theorem setEng_sched (s : State) (e : Nat) (x : EngSt) : (s.setEng e x).sched = s.sched := rfl
@[simp] theorem setEng_ports (s : State) (e : Nat) (x : EngSt) : (s.setEng e x).ports = s.ports := rfl
@[simp] theorem setEng_dmas (s : State) (e : Nat) (x : EngSt) : (s.setEng e x).dmas = s.dmas := rfl
@[simp] theorem setEng_mem (s : State) (e : Nat) (x : EngSt) : (s.setEng e x).mem = s.mem := rfl
@[simp] theorem setEng_fab (s : State) (e : Nat) (x : EngSt) : (s.setEng e x).fab = s.fab := rfl
@[simp] theorem setEng_rcfg (s : State) (e : Nat) (x : EngSt) : (s.setEng e x).rcfg = s.rcfg := rfl
@[simp] theorem setEng_pwr (s : State) (e : Nat) (x : EngSt) : (s.setEng e x).pwr = s.pwr := rfl
@[simp] theorem setEng_host (s : State) (e : Nat) (x : EngSt) : (s.setEng e x).host = s.host := rfl
@[simp] theorem setEng_load (s : State) (e : Nat) (x : EngSt) : (s.setEng e x).load = s.load := rfl
@[simp] theorem setEng_clock (s : State) (e : Nat) (x : EngSt) : (s.setEng e x).clock = s.clock := rfl
@[simp] theorem setEng_sec (s : State) (e : Nat) (x : EngSt) : (s.setEng e x).sec = s.sec := rfl
@[simp] theorem setEng_straps (s : State) (e : Nat) (x : EngSt) : (s.setEng e x).straps = s.straps := rfl

/-! ### modEng -/

@[simp] theorem modEng_pending (s : State) (e : Nat) (f : EngSt → EngSt) : (s.modEng e f).pending = s.pending := rfl
@[simp] theorem modEng_regs (s : State) (e : Nat) (f : EngSt → EngSt) : (s.modEng e f).regs = s.regs := rfl
@[simp] theorem modEng_stg (s : State) (e : Nat) (f : EngSt → EngSt) : (s.modEng e f).stg = s.stg := rfl
@[simp] theorem modEng_wait (s : State) (e : Nat) (f : EngSt → EngSt) : (s.modEng e f).wait = s.wait := rfl
@[simp] theorem modEng_busRead (s : State) (e : Nat) (f : EngSt → EngSt) : (s.modEng e f).busRead = s.busRead := rfl
@[simp] theorem modEng_busBytes (s : State) (e : Nat) (f : EngSt → EngSt) : (s.modEng e f).busBytes = s.busBytes := rfl
@[simp] theorem modEng_free (s : State) (e : Nat) (f : EngSt → EngSt) : (s.modEng e f).free = s.free := rfl
@[simp] theorem modEng_time (s : State) (e : Nat) (f : EngSt → EngSt) : (s.modEng e f).time = s.time := rfl
@[simp] theorem modEng_flt (s : State) (e : Nat) (f : EngSt → EngSt) : (s.modEng e f).flt = s.flt := rfl
@[simp] theorem modEng_contained (s : State) (e : Nat) (f : EngSt → EngSt) : (s.modEng e f).contained = s.contained := rfl
@[simp] theorem modEng_msix (s : State) (e : Nat) (f : EngSt → EngSt) : (s.modEng e f).msix = s.msix := rfl
@[simp] theorem modEng_latch (s : State) (e : Nat) (f : EngSt → EngSt) : (s.modEng e f).latch = s.latch := rfl
@[simp] theorem modEng_deferred (s : State) (e : Nat) (f : EngSt → EngSt) : (s.modEng e f).deferred = s.deferred := rfl
@[simp] theorem modEng_v24Rev (s : State) (e : Nat) (f : EngSt → EngSt) : (s.modEng e f).v24Rev = s.v24Rev := rfl
@[simp] theorem modEng_rtcNs (s : State) (e : Nat) (f : EngSt → EngSt) : (s.modEng e f).rtcNs = s.rtcNs := rfl
@[simp] theorem modEng_ledger (s : State) (e : Nat) (f : EngSt → EngSt) : (s.modEng e f).ledger = s.ledger := rfl
@[simp] theorem modEng_pins (s : State) (e : Nat) (f : EngSt → EngSt) : (s.modEng e f).pins = s.pins := rfl
@[simp] theorem modEng_gio (s : State) (e : Nat) (f : EngSt → EngSt) : (s.modEng e f).gio = s.gio := rfl
@[simp] theorem modEng_tiles (s : State) (e : Nat) (f : EngSt → EngSt) : (s.modEng e f).tiles = s.tiles := rfl
@[simp] theorem modEng_sched (s : State) (e : Nat) (f : EngSt → EngSt) : (s.modEng e f).sched = s.sched := rfl
@[simp] theorem modEng_ports (s : State) (e : Nat) (f : EngSt → EngSt) : (s.modEng e f).ports = s.ports := rfl
@[simp] theorem modEng_dmas (s : State) (e : Nat) (f : EngSt → EngSt) : (s.modEng e f).dmas = s.dmas := rfl
@[simp] theorem modEng_mem (s : State) (e : Nat) (f : EngSt → EngSt) : (s.modEng e f).mem = s.mem := rfl
@[simp] theorem modEng_fab (s : State) (e : Nat) (f : EngSt → EngSt) : (s.modEng e f).fab = s.fab := rfl
@[simp] theorem modEng_rcfg (s : State) (e : Nat) (f : EngSt → EngSt) : (s.modEng e f).rcfg = s.rcfg := rfl
@[simp] theorem modEng_pwr (s : State) (e : Nat) (f : EngSt → EngSt) : (s.modEng e f).pwr = s.pwr := rfl
@[simp] theorem modEng_host (s : State) (e : Nat) (f : EngSt → EngSt) : (s.modEng e f).host = s.host := rfl
@[simp] theorem modEng_load (s : State) (e : Nat) (f : EngSt → EngSt) : (s.modEng e f).load = s.load := rfl
@[simp] theorem modEng_clock (s : State) (e : Nat) (f : EngSt → EngSt) : (s.modEng e f).clock = s.clock := rfl
@[simp] theorem modEng_sec (s : State) (e : Nat) (f : EngSt → EngSt) : (s.modEng e f).sec = s.sec := rfl
@[simp] theorem modEng_straps (s : State) (e : Nat) (f : EngSt → EngSt) : (s.modEng e f).straps = s.straps := rfl

/-! ### setDma -/

@[simp] theorem setDma_pending (s : State) (c j : Nat) (x : DmaSt) : (s.setDma c j x).pending = s.pending := rfl
@[simp] theorem setDma_regs (s : State) (c j : Nat) (x : DmaSt) : (s.setDma c j x).regs = s.regs := rfl
@[simp] theorem setDma_stg (s : State) (c j : Nat) (x : DmaSt) : (s.setDma c j x).stg = s.stg := rfl
@[simp] theorem setDma_wait (s : State) (c j : Nat) (x : DmaSt) : (s.setDma c j x).wait = s.wait := rfl
@[simp] theorem setDma_busRead (s : State) (c j : Nat) (x : DmaSt) : (s.setDma c j x).busRead = s.busRead := rfl
@[simp] theorem setDma_busBytes (s : State) (c j : Nat) (x : DmaSt) : (s.setDma c j x).busBytes = s.busBytes := rfl
@[simp] theorem setDma_free (s : State) (c j : Nat) (x : DmaSt) : (s.setDma c j x).free = s.free := rfl
@[simp] theorem setDma_time (s : State) (c j : Nat) (x : DmaSt) : (s.setDma c j x).time = s.time := rfl
@[simp] theorem setDma_flt (s : State) (c j : Nat) (x : DmaSt) : (s.setDma c j x).flt = s.flt := rfl
@[simp] theorem setDma_contained (s : State) (c j : Nat) (x : DmaSt) : (s.setDma c j x).contained = s.contained := rfl
@[simp] theorem setDma_msix (s : State) (c j : Nat) (x : DmaSt) : (s.setDma c j x).msix = s.msix := rfl
@[simp] theorem setDma_latch (s : State) (c j : Nat) (x : DmaSt) : (s.setDma c j x).latch = s.latch := rfl
@[simp] theorem setDma_deferred (s : State) (c j : Nat) (x : DmaSt) : (s.setDma c j x).deferred = s.deferred := rfl
@[simp] theorem setDma_v24Rev (s : State) (c j : Nat) (x : DmaSt) : (s.setDma c j x).v24Rev = s.v24Rev := rfl
@[simp] theorem setDma_rtcNs (s : State) (c j : Nat) (x : DmaSt) : (s.setDma c j x).rtcNs = s.rtcNs := rfl
@[simp] theorem setDma_ledger (s : State) (c j : Nat) (x : DmaSt) : (s.setDma c j x).ledger = s.ledger := rfl
@[simp] theorem setDma_pins (s : State) (c j : Nat) (x : DmaSt) : (s.setDma c j x).pins = s.pins := rfl
@[simp] theorem setDma_gio (s : State) (c j : Nat) (x : DmaSt) : (s.setDma c j x).gio = s.gio := rfl
@[simp] theorem setDma_tiles (s : State) (c j : Nat) (x : DmaSt) : (s.setDma c j x).tiles = s.tiles := rfl
@[simp] theorem setDma_sched (s : State) (c j : Nat) (x : DmaSt) : (s.setDma c j x).sched = s.sched := rfl
@[simp] theorem setDma_ports (s : State) (c j : Nat) (x : DmaSt) : (s.setDma c j x).ports = s.ports := rfl
@[simp] theorem setDma_engs (s : State) (c j : Nat) (x : DmaSt) : (s.setDma c j x).engs = s.engs := rfl
@[simp] theorem setDma_mem (s : State) (c j : Nat) (x : DmaSt) : (s.setDma c j x).mem = s.mem := rfl
@[simp] theorem setDma_fab (s : State) (c j : Nat) (x : DmaSt) : (s.setDma c j x).fab = s.fab := rfl
@[simp] theorem setDma_rcfg (s : State) (c j : Nat) (x : DmaSt) : (s.setDma c j x).rcfg = s.rcfg := rfl
@[simp] theorem setDma_pwr (s : State) (c j : Nat) (x : DmaSt) : (s.setDma c j x).pwr = s.pwr := rfl
@[simp] theorem setDma_host (s : State) (c j : Nat) (x : DmaSt) : (s.setDma c j x).host = s.host := rfl
@[simp] theorem setDma_load (s : State) (c j : Nat) (x : DmaSt) : (s.setDma c j x).load = s.load := rfl
@[simp] theorem setDma_clock (s : State) (c j : Nat) (x : DmaSt) : (s.setDma c j x).clock = s.clock := rfl
@[simp] theorem setDma_sec (s : State) (c j : Nat) (x : DmaSt) : (s.setDma c j x).sec = s.sec := rfl
@[simp] theorem setDma_straps (s : State) (c j : Nat) (x : DmaSt) : (s.setDma c j x).straps = s.straps := rfl

/-! ### modDma -/

@[simp] theorem modDma_pending (s : State) (c j : Nat) (f : DmaSt → DmaSt) : (s.modDma c j f).pending = s.pending := rfl
@[simp] theorem modDma_regs (s : State) (c j : Nat) (f : DmaSt → DmaSt) : (s.modDma c j f).regs = s.regs := rfl
@[simp] theorem modDma_stg (s : State) (c j : Nat) (f : DmaSt → DmaSt) : (s.modDma c j f).stg = s.stg := rfl
@[simp] theorem modDma_wait (s : State) (c j : Nat) (f : DmaSt → DmaSt) : (s.modDma c j f).wait = s.wait := rfl
@[simp] theorem modDma_busRead (s : State) (c j : Nat) (f : DmaSt → DmaSt) : (s.modDma c j f).busRead = s.busRead := rfl
@[simp] theorem modDma_busBytes (s : State) (c j : Nat) (f : DmaSt → DmaSt) : (s.modDma c j f).busBytes = s.busBytes := rfl
@[simp] theorem modDma_free (s : State) (c j : Nat) (f : DmaSt → DmaSt) : (s.modDma c j f).free = s.free := rfl
@[simp] theorem modDma_time (s : State) (c j : Nat) (f : DmaSt → DmaSt) : (s.modDma c j f).time = s.time := rfl
@[simp] theorem modDma_flt (s : State) (c j : Nat) (f : DmaSt → DmaSt) : (s.modDma c j f).flt = s.flt := rfl
@[simp] theorem modDma_contained (s : State) (c j : Nat) (f : DmaSt → DmaSt) : (s.modDma c j f).contained = s.contained := rfl
@[simp] theorem modDma_msix (s : State) (c j : Nat) (f : DmaSt → DmaSt) : (s.modDma c j f).msix = s.msix := rfl
@[simp] theorem modDma_latch (s : State) (c j : Nat) (f : DmaSt → DmaSt) : (s.modDma c j f).latch = s.latch := rfl
@[simp] theorem modDma_deferred (s : State) (c j : Nat) (f : DmaSt → DmaSt) : (s.modDma c j f).deferred = s.deferred := rfl
@[simp] theorem modDma_v24Rev (s : State) (c j : Nat) (f : DmaSt → DmaSt) : (s.modDma c j f).v24Rev = s.v24Rev := rfl
@[simp] theorem modDma_rtcNs (s : State) (c j : Nat) (f : DmaSt → DmaSt) : (s.modDma c j f).rtcNs = s.rtcNs := rfl
@[simp] theorem modDma_ledger (s : State) (c j : Nat) (f : DmaSt → DmaSt) : (s.modDma c j f).ledger = s.ledger := rfl
@[simp] theorem modDma_pins (s : State) (c j : Nat) (f : DmaSt → DmaSt) : (s.modDma c j f).pins = s.pins := rfl
@[simp] theorem modDma_gio (s : State) (c j : Nat) (f : DmaSt → DmaSt) : (s.modDma c j f).gio = s.gio := rfl
@[simp] theorem modDma_tiles (s : State) (c j : Nat) (f : DmaSt → DmaSt) : (s.modDma c j f).tiles = s.tiles := rfl
@[simp] theorem modDma_sched (s : State) (c j : Nat) (f : DmaSt → DmaSt) : (s.modDma c j f).sched = s.sched := rfl
@[simp] theorem modDma_ports (s : State) (c j : Nat) (f : DmaSt → DmaSt) : (s.modDma c j f).ports = s.ports := rfl
@[simp] theorem modDma_engs (s : State) (c j : Nat) (f : DmaSt → DmaSt) : (s.modDma c j f).engs = s.engs := rfl
@[simp] theorem modDma_mem (s : State) (c j : Nat) (f : DmaSt → DmaSt) : (s.modDma c j f).mem = s.mem := rfl
@[simp] theorem modDma_fab (s : State) (c j : Nat) (f : DmaSt → DmaSt) : (s.modDma c j f).fab = s.fab := rfl
@[simp] theorem modDma_rcfg (s : State) (c j : Nat) (f : DmaSt → DmaSt) : (s.modDma c j f).rcfg = s.rcfg := rfl
@[simp] theorem modDma_pwr (s : State) (c j : Nat) (f : DmaSt → DmaSt) : (s.modDma c j f).pwr = s.pwr := rfl
@[simp] theorem modDma_host (s : State) (c j : Nat) (f : DmaSt → DmaSt) : (s.modDma c j f).host = s.host := rfl
@[simp] theorem modDma_load (s : State) (c j : Nat) (f : DmaSt → DmaSt) : (s.modDma c j f).load = s.load := rfl
@[simp] theorem modDma_clock (s : State) (c j : Nat) (f : DmaSt → DmaSt) : (s.modDma c j f).clock = s.clock := rfl
@[simp] theorem modDma_sec (s : State) (c j : Nat) (f : DmaSt → DmaSt) : (s.modDma c j f).sec = s.sec := rfl
@[simp] theorem modDma_straps (s : State) (c j : Nat) (f : DmaSt → DmaSt) : (s.modDma c j f).straps = s.straps := rfl

/-! ### setCnt -/

@[simp] theorem setCnt_pending (s : State) (b : Nat) (x : CntSt) : (s.setCnt b x).pending = s.pending := rfl
@[simp] theorem setCnt_regs (s : State) (b : Nat) (x : CntSt) : (s.setCnt b x).regs = s.regs := rfl
@[simp] theorem setCnt_stg (s : State) (b : Nat) (x : CntSt) : (s.setCnt b x).stg = s.stg := rfl
@[simp] theorem setCnt_wait (s : State) (b : Nat) (x : CntSt) : (s.setCnt b x).wait = s.wait := rfl
@[simp] theorem setCnt_busRead (s : State) (b : Nat) (x : CntSt) : (s.setCnt b x).busRead = s.busRead := rfl
@[simp] theorem setCnt_busBytes (s : State) (b : Nat) (x : CntSt) : (s.setCnt b x).busBytes = s.busBytes := rfl
@[simp] theorem setCnt_free (s : State) (b : Nat) (x : CntSt) : (s.setCnt b x).free = s.free := rfl
@[simp] theorem setCnt_time (s : State) (b : Nat) (x : CntSt) : (s.setCnt b x).time = s.time := rfl
@[simp] theorem setCnt_flt (s : State) (b : Nat) (x : CntSt) : (s.setCnt b x).flt = s.flt := rfl
@[simp] theorem setCnt_contained (s : State) (b : Nat) (x : CntSt) : (s.setCnt b x).contained = s.contained := rfl
@[simp] theorem setCnt_msix (s : State) (b : Nat) (x : CntSt) : (s.setCnt b x).msix = s.msix := rfl
@[simp] theorem setCnt_latch (s : State) (b : Nat) (x : CntSt) : (s.setCnt b x).latch = s.latch := rfl
@[simp] theorem setCnt_deferred (s : State) (b : Nat) (x : CntSt) : (s.setCnt b x).deferred = s.deferred := rfl
@[simp] theorem setCnt_v24Rev (s : State) (b : Nat) (x : CntSt) : (s.setCnt b x).v24Rev = s.v24Rev := rfl
@[simp] theorem setCnt_rtcNs (s : State) (b : Nat) (x : CntSt) : (s.setCnt b x).rtcNs = s.rtcNs := rfl
@[simp] theorem setCnt_ledger (s : State) (b : Nat) (x : CntSt) : (s.setCnt b x).ledger = s.ledger := rfl
@[simp] theorem setCnt_pins (s : State) (b : Nat) (x : CntSt) : (s.setCnt b x).pins = s.pins := rfl
@[simp] theorem setCnt_gio (s : State) (b : Nat) (x : CntSt) : (s.setCnt b x).gio = s.gio := rfl
@[simp] theorem setCnt_tiles (s : State) (b : Nat) (x : CntSt) : (s.setCnt b x).tiles = s.tiles := rfl
@[simp] theorem setCnt_sched (s : State) (b : Nat) (x : CntSt) : (s.setCnt b x).sched = s.sched := rfl
@[simp] theorem setCnt_ports (s : State) (b : Nat) (x : CntSt) : (s.setCnt b x).ports = s.ports := rfl
@[simp] theorem setCnt_engs (s : State) (b : Nat) (x : CntSt) : (s.setCnt b x).engs = s.engs := rfl
@[simp] theorem setCnt_dmas (s : State) (b : Nat) (x : CntSt) : (s.setCnt b x).dmas = s.dmas := rfl
@[simp] theorem setCnt_mem (s : State) (b : Nat) (x : CntSt) : (s.setCnt b x).mem = s.mem := rfl
@[simp] theorem setCnt_rcfg (s : State) (b : Nat) (x : CntSt) : (s.setCnt b x).rcfg = s.rcfg := rfl
@[simp] theorem setCnt_pwr (s : State) (b : Nat) (x : CntSt) : (s.setCnt b x).pwr = s.pwr := rfl
@[simp] theorem setCnt_host (s : State) (b : Nat) (x : CntSt) : (s.setCnt b x).host = s.host := rfl
@[simp] theorem setCnt_load (s : State) (b : Nat) (x : CntSt) : (s.setCnt b x).load = s.load := rfl
@[simp] theorem setCnt_clock (s : State) (b : Nat) (x : CntSt) : (s.setCnt b x).clock = s.clock := rfl
@[simp] theorem setCnt_sec (s : State) (b : Nat) (x : CntSt) : (s.setCnt b x).sec = s.sec := rfl
@[simp] theorem setCnt_straps (s : State) (b : Nat) (x : CntSt) : (s.setCnt b x).straps = s.straps := rfl

/-! ### modCnt -/

@[simp] theorem modCnt_pending (s : State) (b : Nat) (f : CntSt → CntSt) : (s.modCnt b f).pending = s.pending := rfl
@[simp] theorem modCnt_regs (s : State) (b : Nat) (f : CntSt → CntSt) : (s.modCnt b f).regs = s.regs := rfl
@[simp] theorem modCnt_stg (s : State) (b : Nat) (f : CntSt → CntSt) : (s.modCnt b f).stg = s.stg := rfl
@[simp] theorem modCnt_wait (s : State) (b : Nat) (f : CntSt → CntSt) : (s.modCnt b f).wait = s.wait := rfl
@[simp] theorem modCnt_busRead (s : State) (b : Nat) (f : CntSt → CntSt) : (s.modCnt b f).busRead = s.busRead := rfl
@[simp] theorem modCnt_busBytes (s : State) (b : Nat) (f : CntSt → CntSt) : (s.modCnt b f).busBytes = s.busBytes := rfl
@[simp] theorem modCnt_free (s : State) (b : Nat) (f : CntSt → CntSt) : (s.modCnt b f).free = s.free := rfl
@[simp] theorem modCnt_time (s : State) (b : Nat) (f : CntSt → CntSt) : (s.modCnt b f).time = s.time := rfl
@[simp] theorem modCnt_flt (s : State) (b : Nat) (f : CntSt → CntSt) : (s.modCnt b f).flt = s.flt := rfl
@[simp] theorem modCnt_contained (s : State) (b : Nat) (f : CntSt → CntSt) : (s.modCnt b f).contained = s.contained := rfl
@[simp] theorem modCnt_msix (s : State) (b : Nat) (f : CntSt → CntSt) : (s.modCnt b f).msix = s.msix := rfl
@[simp] theorem modCnt_latch (s : State) (b : Nat) (f : CntSt → CntSt) : (s.modCnt b f).latch = s.latch := rfl
@[simp] theorem modCnt_deferred (s : State) (b : Nat) (f : CntSt → CntSt) : (s.modCnt b f).deferred = s.deferred := rfl
@[simp] theorem modCnt_v24Rev (s : State) (b : Nat) (f : CntSt → CntSt) : (s.modCnt b f).v24Rev = s.v24Rev := rfl
@[simp] theorem modCnt_rtcNs (s : State) (b : Nat) (f : CntSt → CntSt) : (s.modCnt b f).rtcNs = s.rtcNs := rfl
@[simp] theorem modCnt_ledger (s : State) (b : Nat) (f : CntSt → CntSt) : (s.modCnt b f).ledger = s.ledger := rfl
@[simp] theorem modCnt_pins (s : State) (b : Nat) (f : CntSt → CntSt) : (s.modCnt b f).pins = s.pins := rfl
@[simp] theorem modCnt_gio (s : State) (b : Nat) (f : CntSt → CntSt) : (s.modCnt b f).gio = s.gio := rfl
@[simp] theorem modCnt_tiles (s : State) (b : Nat) (f : CntSt → CntSt) : (s.modCnt b f).tiles = s.tiles := rfl
@[simp] theorem modCnt_sched (s : State) (b : Nat) (f : CntSt → CntSt) : (s.modCnt b f).sched = s.sched := rfl
@[simp] theorem modCnt_ports (s : State) (b : Nat) (f : CntSt → CntSt) : (s.modCnt b f).ports = s.ports := rfl
@[simp] theorem modCnt_engs (s : State) (b : Nat) (f : CntSt → CntSt) : (s.modCnt b f).engs = s.engs := rfl
@[simp] theorem modCnt_dmas (s : State) (b : Nat) (f : CntSt → CntSt) : (s.modCnt b f).dmas = s.dmas := rfl
@[simp] theorem modCnt_mem (s : State) (b : Nat) (f : CntSt → CntSt) : (s.modCnt b f).mem = s.mem := rfl
@[simp] theorem modCnt_rcfg (s : State) (b : Nat) (f : CntSt → CntSt) : (s.modCnt b f).rcfg = s.rcfg := rfl
@[simp] theorem modCnt_pwr (s : State) (b : Nat) (f : CntSt → CntSt) : (s.modCnt b f).pwr = s.pwr := rfl
@[simp] theorem modCnt_host (s : State) (b : Nat) (f : CntSt → CntSt) : (s.modCnt b f).host = s.host := rfl
@[simp] theorem modCnt_load (s : State) (b : Nat) (f : CntSt → CntSt) : (s.modCnt b f).load = s.load := rfl
@[simp] theorem modCnt_clock (s : State) (b : Nat) (f : CntSt → CntSt) : (s.modCnt b f).clock = s.clock := rfl
@[simp] theorem modCnt_sec (s : State) (b : Nat) (f : CntSt → CntSt) : (s.modCnt b f).sec = s.sec := rfl
@[simp] theorem modCnt_straps (s : State) (b : Nat) (f : CntSt → CntSt) : (s.modCnt b f).straps = s.straps := rfl

/-! ### modGio -/

@[simp] theorem modGio_pending (s : State) (g : Nat) (f : GioOut → GioOut) : (s.modGio g f).pending = s.pending := rfl
@[simp] theorem modGio_regs (s : State) (g : Nat) (f : GioOut → GioOut) : (s.modGio g f).regs = s.regs := rfl
@[simp] theorem modGio_stg (s : State) (g : Nat) (f : GioOut → GioOut) : (s.modGio g f).stg = s.stg := rfl
@[simp] theorem modGio_wait (s : State) (g : Nat) (f : GioOut → GioOut) : (s.modGio g f).wait = s.wait := rfl
@[simp] theorem modGio_busRead (s : State) (g : Nat) (f : GioOut → GioOut) : (s.modGio g f).busRead = s.busRead := rfl
@[simp] theorem modGio_busBytes (s : State) (g : Nat) (f : GioOut → GioOut) : (s.modGio g f).busBytes = s.busBytes := rfl
@[simp] theorem modGio_free (s : State) (g : Nat) (f : GioOut → GioOut) : (s.modGio g f).free = s.free := rfl
@[simp] theorem modGio_time (s : State) (g : Nat) (f : GioOut → GioOut) : (s.modGio g f).time = s.time := rfl
@[simp] theorem modGio_flt (s : State) (g : Nat) (f : GioOut → GioOut) : (s.modGio g f).flt = s.flt := rfl
@[simp] theorem modGio_contained (s : State) (g : Nat) (f : GioOut → GioOut) : (s.modGio g f).contained = s.contained := rfl
@[simp] theorem modGio_msix (s : State) (g : Nat) (f : GioOut → GioOut) : (s.modGio g f).msix = s.msix := rfl
@[simp] theorem modGio_latch (s : State) (g : Nat) (f : GioOut → GioOut) : (s.modGio g f).latch = s.latch := rfl
@[simp] theorem modGio_deferred (s : State) (g : Nat) (f : GioOut → GioOut) : (s.modGio g f).deferred = s.deferred := rfl
@[simp] theorem modGio_v24Rev (s : State) (g : Nat) (f : GioOut → GioOut) : (s.modGio g f).v24Rev = s.v24Rev := rfl
@[simp] theorem modGio_rtcNs (s : State) (g : Nat) (f : GioOut → GioOut) : (s.modGio g f).rtcNs = s.rtcNs := rfl
@[simp] theorem modGio_ledger (s : State) (g : Nat) (f : GioOut → GioOut) : (s.modGio g f).ledger = s.ledger := rfl
@[simp] theorem modGio_pins (s : State) (g : Nat) (f : GioOut → GioOut) : (s.modGio g f).pins = s.pins := rfl
@[simp] theorem modGio_gio (s : State) (g : Nat) (f : GioOut → GioOut) : (s.modGio g f).gio = s.gio := rfl
@[simp] theorem modGio_tiles (s : State) (g : Nat) (f : GioOut → GioOut) : (s.modGio g f).tiles = s.tiles := rfl
@[simp] theorem modGio_sched (s : State) (g : Nat) (f : GioOut → GioOut) : (s.modGio g f).sched = s.sched := rfl
@[simp] theorem modGio_ports (s : State) (g : Nat) (f : GioOut → GioOut) : (s.modGio g f).ports = s.ports := rfl
@[simp] theorem modGio_engs (s : State) (g : Nat) (f : GioOut → GioOut) : (s.modGio g f).engs = s.engs := rfl
@[simp] theorem modGio_dmas (s : State) (g : Nat) (f : GioOut → GioOut) : (s.modGio g f).dmas = s.dmas := rfl
@[simp] theorem modGio_mem (s : State) (g : Nat) (f : GioOut → GioOut) : (s.modGio g f).mem = s.mem := rfl
@[simp] theorem modGio_rcfg (s : State) (g : Nat) (f : GioOut → GioOut) : (s.modGio g f).rcfg = s.rcfg := rfl
@[simp] theorem modGio_pwr (s : State) (g : Nat) (f : GioOut → GioOut) : (s.modGio g f).pwr = s.pwr := rfl
@[simp] theorem modGio_host (s : State) (g : Nat) (f : GioOut → GioOut) : (s.modGio g f).host = s.host := rfl
@[simp] theorem modGio_load (s : State) (g : Nat) (f : GioOut → GioOut) : (s.modGio g f).load = s.load := rfl
@[simp] theorem modGio_clock (s : State) (g : Nat) (f : GioOut → GioOut) : (s.modGio g f).clock = s.clock := rfl
@[simp] theorem modGio_sec (s : State) (g : Nat) (f : GioOut → GioOut) : (s.modGio g f).sec = s.sec := rfl
@[simp] theorem modGio_straps (s : State) (g : Nat) (f : GioOut → GioOut) : (s.modGio g f).straps = s.straps := rfl

/-! ### answer -/

@[simp] theorem answer_pending (s : State) (w : Word) : (s.answer w).pending = s.pending := rfl
@[simp] theorem answer_regs (s : State) (w : Word) : (s.answer w).regs = s.regs := rfl
@[simp] theorem answer_stg (s : State) (w : Word) : (s.answer w).stg = s.stg := rfl
@[simp] theorem answer_wait (s : State) (w : Word) : (s.answer w).wait = s.wait := rfl
@[simp] theorem answer_busBytes (s : State) (w : Word) : (s.answer w).busBytes = s.busBytes := rfl
@[simp] theorem answer_free (s : State) (w : Word) : (s.answer w).free = s.free := rfl
@[simp] theorem answer_time (s : State) (w : Word) : (s.answer w).time = s.time := rfl
@[simp] theorem answer_flt (s : State) (w : Word) : (s.answer w).flt = s.flt := rfl
@[simp] theorem answer_contained (s : State) (w : Word) : (s.answer w).contained = s.contained := rfl
@[simp] theorem answer_msix (s : State) (w : Word) : (s.answer w).msix = s.msix := rfl
@[simp] theorem answer_latch (s : State) (w : Word) : (s.answer w).latch = s.latch := rfl
@[simp] theorem answer_deferred (s : State) (w : Word) : (s.answer w).deferred = s.deferred := rfl
@[simp] theorem answer_v24Rev (s : State) (w : Word) : (s.answer w).v24Rev = s.v24Rev := rfl
@[simp] theorem answer_rtcNs (s : State) (w : Word) : (s.answer w).rtcNs = s.rtcNs := rfl
@[simp] theorem answer_ledger (s : State) (w : Word) : (s.answer w).ledger = s.ledger := rfl
@[simp] theorem answer_pins (s : State) (w : Word) : (s.answer w).pins = s.pins := rfl
@[simp] theorem answer_gio (s : State) (w : Word) : (s.answer w).gio = s.gio := rfl
@[simp] theorem answer_tiles (s : State) (w : Word) : (s.answer w).tiles = s.tiles := rfl
@[simp] theorem answer_sched (s : State) (w : Word) : (s.answer w).sched = s.sched := rfl
@[simp] theorem answer_ports (s : State) (w : Word) : (s.answer w).ports = s.ports := rfl
@[simp] theorem answer_engs (s : State) (w : Word) : (s.answer w).engs = s.engs := rfl
@[simp] theorem answer_dmas (s : State) (w : Word) : (s.answer w).dmas = s.dmas := rfl
@[simp] theorem answer_mem (s : State) (w : Word) : (s.answer w).mem = s.mem := rfl
@[simp] theorem answer_fab (s : State) (w : Word) : (s.answer w).fab = s.fab := rfl
@[simp] theorem answer_rcfg (s : State) (w : Word) : (s.answer w).rcfg = s.rcfg := rfl
@[simp] theorem answer_pwr (s : State) (w : Word) : (s.answer w).pwr = s.pwr := rfl
@[simp] theorem answer_host (s : State) (w : Word) : (s.answer w).host = s.host := rfl
@[simp] theorem answer_load (s : State) (w : Word) : (s.answer w).load = s.load := rfl
@[simp] theorem answer_clock (s : State) (w : Word) : (s.answer w).clock = s.clock := rfl
@[simp] theorem answer_sec (s : State) (w : Word) : (s.answer w).sec = s.sec := rfl
@[simp] theorem answer_straps (s : State) (w : Word) : (s.answer w).straps = s.straps := rfl

/-! ### readClear -/

@[simp] theorem readClear_pending (s : State) (f : Field) : (s.readClear f).pending = s.pending := rfl
@[simp] theorem readClear_stg (s : State) (f : Field) : (s.readClear f).stg = s.stg := rfl
@[simp] theorem readClear_wait (s : State) (f : Field) : (s.readClear f).wait = s.wait := rfl
@[simp] theorem readClear_busBytes (s : State) (f : Field) : (s.readClear f).busBytes = s.busBytes := rfl
@[simp] theorem readClear_free (s : State) (f : Field) : (s.readClear f).free = s.free := rfl
@[simp] theorem readClear_time (s : State) (f : Field) : (s.readClear f).time = s.time := rfl
@[simp] theorem readClear_flt (s : State) (f : Field) : (s.readClear f).flt = s.flt := rfl
@[simp] theorem readClear_contained (s : State) (f : Field) : (s.readClear f).contained = s.contained := rfl
@[simp] theorem readClear_msix (s : State) (f : Field) : (s.readClear f).msix = s.msix := rfl
@[simp] theorem readClear_latch (s : State) (f : Field) : (s.readClear f).latch = s.latch := rfl
@[simp] theorem readClear_deferred (s : State) (f : Field) : (s.readClear f).deferred = s.deferred := rfl
@[simp] theorem readClear_v24Rev (s : State) (f : Field) : (s.readClear f).v24Rev = s.v24Rev := rfl
@[simp] theorem readClear_rtcNs (s : State) (f : Field) : (s.readClear f).rtcNs = s.rtcNs := rfl
@[simp] theorem readClear_ledger (s : State) (f : Field) : (s.readClear f).ledger = s.ledger := rfl
@[simp] theorem readClear_pins (s : State) (f : Field) : (s.readClear f).pins = s.pins := rfl
@[simp] theorem readClear_gio (s : State) (f : Field) : (s.readClear f).gio = s.gio := rfl
@[simp] theorem readClear_tiles (s : State) (f : Field) : (s.readClear f).tiles = s.tiles := rfl
@[simp] theorem readClear_sched (s : State) (f : Field) : (s.readClear f).sched = s.sched := rfl
@[simp] theorem readClear_ports (s : State) (f : Field) : (s.readClear f).ports = s.ports := rfl
@[simp] theorem readClear_engs (s : State) (f : Field) : (s.readClear f).engs = s.engs := rfl
@[simp] theorem readClear_dmas (s : State) (f : Field) : (s.readClear f).dmas = s.dmas := rfl
@[simp] theorem readClear_mem (s : State) (f : Field) : (s.readClear f).mem = s.mem := rfl
@[simp] theorem readClear_fab (s : State) (f : Field) : (s.readClear f).fab = s.fab := rfl
@[simp] theorem readClear_rcfg (s : State) (f : Field) : (s.readClear f).rcfg = s.rcfg := rfl
@[simp] theorem readClear_pwr (s : State) (f : Field) : (s.readClear f).pwr = s.pwr := rfl
@[simp] theorem readClear_host (s : State) (f : Field) : (s.readClear f).host = s.host := rfl
@[simp] theorem readClear_load (s : State) (f : Field) : (s.readClear f).load = s.load := rfl
@[simp] theorem readClear_clock (s : State) (f : Field) : (s.readClear f).clock = s.clock := rfl
@[simp] theorem readClear_sec (s : State) (f : Field) : (s.readClear f).sec = s.sec := rfl
@[simp] theorem readClear_straps (s : State) (f : Field) : (s.readClear f).straps = s.straps := rfl

/-! ### count -/

@[simp] theorem count_pending (s : State) (f : Counts → Counts) : (s.count f).pending = s.pending := rfl
@[simp] theorem count_regs (s : State) (f : Counts → Counts) : (s.count f).regs = s.regs := rfl
@[simp] theorem count_stg (s : State) (f : Counts → Counts) : (s.count f).stg = s.stg := rfl
@[simp] theorem count_wait (s : State) (f : Counts → Counts) : (s.count f).wait = s.wait := rfl
@[simp] theorem count_busRead (s : State) (f : Counts → Counts) : (s.count f).busRead = s.busRead := rfl
@[simp] theorem count_busBytes (s : State) (f : Counts → Counts) : (s.count f).busBytes = s.busBytes := rfl
@[simp] theorem count_free (s : State) (f : Counts → Counts) : (s.count f).free = s.free := rfl
@[simp] theorem count_time (s : State) (f : Counts → Counts) : (s.count f).time = s.time := rfl
@[simp] theorem count_flt (s : State) (f : Counts → Counts) : (s.count f).flt = s.flt := rfl
@[simp] theorem count_contained (s : State) (f : Counts → Counts) : (s.count f).contained = s.contained := rfl
@[simp] theorem count_msix (s : State) (f : Counts → Counts) : (s.count f).msix = s.msix := rfl
@[simp] theorem count_latch (s : State) (f : Counts → Counts) : (s.count f).latch = s.latch := rfl
@[simp] theorem count_deferred (s : State) (f : Counts → Counts) : (s.count f).deferred = s.deferred := rfl
@[simp] theorem count_v24Rev (s : State) (f : Counts → Counts) : (s.count f).v24Rev = s.v24Rev := rfl
@[simp] theorem count_rtcNs (s : State) (f : Counts → Counts) : (s.count f).rtcNs = s.rtcNs := rfl
@[simp] theorem count_pins (s : State) (f : Counts → Counts) : (s.count f).pins = s.pins := rfl
@[simp] theorem count_gio (s : State) (f : Counts → Counts) : (s.count f).gio = s.gio := rfl
@[simp] theorem count_tiles (s : State) (f : Counts → Counts) : (s.count f).tiles = s.tiles := rfl
@[simp] theorem count_sched (s : State) (f : Counts → Counts) : (s.count f).sched = s.sched := rfl
@[simp] theorem count_ports (s : State) (f : Counts → Counts) : (s.count f).ports = s.ports := rfl
@[simp] theorem count_engs (s : State) (f : Counts → Counts) : (s.count f).engs = s.engs := rfl
@[simp] theorem count_dmas (s : State) (f : Counts → Counts) : (s.count f).dmas = s.dmas := rfl
@[simp] theorem count_mem (s : State) (f : Counts → Counts) : (s.count f).mem = s.mem := rfl
@[simp] theorem count_fab (s : State) (f : Counts → Counts) : (s.count f).fab = s.fab := rfl
@[simp] theorem count_rcfg (s : State) (f : Counts → Counts) : (s.count f).rcfg = s.rcfg := rfl
@[simp] theorem count_pwr (s : State) (f : Counts → Counts) : (s.count f).pwr = s.pwr := rfl
@[simp] theorem count_host (s : State) (f : Counts → Counts) : (s.count f).host = s.host := rfl
@[simp] theorem count_load (s : State) (f : Counts → Counts) : (s.count f).load = s.load := rfl
@[simp] theorem count_clock (s : State) (f : Counts → Counts) : (s.count f).clock = s.clock := rfl
@[simp] theorem count_sec (s : State) (f : Counts → Counts) : (s.count f).sec = s.sec := rfl
@[simp] theorem count_straps (s : State) (f : Counts → Counts) : (s.count f).straps = s.straps := rfl

/-! ### countNow -/

@[simp] theorem countNow_pending (s : State) (f : Counts → Counts) : (s.countNow f).pending = s.pending := rfl
@[simp] theorem countNow_regs (s : State) (f : Counts → Counts) : (s.countNow f).regs = s.regs := rfl
@[simp] theorem countNow_stg (s : State) (f : Counts → Counts) : (s.countNow f).stg = s.stg := rfl
@[simp] theorem countNow_wait (s : State) (f : Counts → Counts) : (s.countNow f).wait = s.wait := rfl
@[simp] theorem countNow_busRead (s : State) (f : Counts → Counts) : (s.countNow f).busRead = s.busRead := rfl
@[simp] theorem countNow_busBytes (s : State) (f : Counts → Counts) : (s.countNow f).busBytes = s.busBytes := rfl
@[simp] theorem countNow_free (s : State) (f : Counts → Counts) : (s.countNow f).free = s.free := rfl
@[simp] theorem countNow_time (s : State) (f : Counts → Counts) : (s.countNow f).time = s.time := rfl
@[simp] theorem countNow_flt (s : State) (f : Counts → Counts) : (s.countNow f).flt = s.flt := rfl
@[simp] theorem countNow_contained (s : State) (f : Counts → Counts) : (s.countNow f).contained = s.contained := rfl
@[simp] theorem countNow_msix (s : State) (f : Counts → Counts) : (s.countNow f).msix = s.msix := rfl
@[simp] theorem countNow_latch (s : State) (f : Counts → Counts) : (s.countNow f).latch = s.latch := rfl
@[simp] theorem countNow_deferred (s : State) (f : Counts → Counts) : (s.countNow f).deferred = s.deferred := rfl
@[simp] theorem countNow_v24Rev (s : State) (f : Counts → Counts) : (s.countNow f).v24Rev = s.v24Rev := rfl
@[simp] theorem countNow_rtcNs (s : State) (f : Counts → Counts) : (s.countNow f).rtcNs = s.rtcNs := rfl
@[simp] theorem countNow_pins (s : State) (f : Counts → Counts) : (s.countNow f).pins = s.pins := rfl
@[simp] theorem countNow_gio (s : State) (f : Counts → Counts) : (s.countNow f).gio = s.gio := rfl
@[simp] theorem countNow_tiles (s : State) (f : Counts → Counts) : (s.countNow f).tiles = s.tiles := rfl
@[simp] theorem countNow_sched (s : State) (f : Counts → Counts) : (s.countNow f).sched = s.sched := rfl
@[simp] theorem countNow_ports (s : State) (f : Counts → Counts) : (s.countNow f).ports = s.ports := rfl
@[simp] theorem countNow_engs (s : State) (f : Counts → Counts) : (s.countNow f).engs = s.engs := rfl
@[simp] theorem countNow_dmas (s : State) (f : Counts → Counts) : (s.countNow f).dmas = s.dmas := rfl
@[simp] theorem countNow_mem (s : State) (f : Counts → Counts) : (s.countNow f).mem = s.mem := rfl
@[simp] theorem countNow_fab (s : State) (f : Counts → Counts) : (s.countNow f).fab = s.fab := rfl
@[simp] theorem countNow_rcfg (s : State) (f : Counts → Counts) : (s.countNow f).rcfg = s.rcfg := rfl
@[simp] theorem countNow_pwr (s : State) (f : Counts → Counts) : (s.countNow f).pwr = s.pwr := rfl
@[simp] theorem countNow_host (s : State) (f : Counts → Counts) : (s.countNow f).host = s.host := rfl
@[simp] theorem countNow_load (s : State) (f : Counts → Counts) : (s.countNow f).load = s.load := rfl
@[simp] theorem countNow_clock (s : State) (f : Counts → Counts) : (s.countNow f).clock = s.clock := rfl
@[simp] theorem countNow_sec (s : State) (f : Counts → Counts) : (s.countNow f).sec = s.sec := rfl
@[simp] theorem countNow_straps (s : State) (f : Counts → Counts) : (s.countNow f).straps = s.straps := rfl

/-! ### logAdd -/

@[simp] theorem logAdd_pending (s : State) (e : LogEntry) : (s.logAdd e).pending = s.pending := rfl
@[simp] theorem logAdd_regs (s : State) (e : LogEntry) : (s.logAdd e).regs = s.regs := rfl
@[simp] theorem logAdd_stg (s : State) (e : LogEntry) : (s.logAdd e).stg = s.stg := rfl
@[simp] theorem logAdd_wait (s : State) (e : LogEntry) : (s.logAdd e).wait = s.wait := rfl
@[simp] theorem logAdd_busRead (s : State) (e : LogEntry) : (s.logAdd e).busRead = s.busRead := rfl
@[simp] theorem logAdd_busBytes (s : State) (e : LogEntry) : (s.logAdd e).busBytes = s.busBytes := rfl
@[simp] theorem logAdd_free (s : State) (e : LogEntry) : (s.logAdd e).free = s.free := rfl
@[simp] theorem logAdd_time (s : State) (e : LogEntry) : (s.logAdd e).time = s.time := rfl
@[simp] theorem logAdd_flt (s : State) (e : LogEntry) : (s.logAdd e).flt = s.flt := rfl
@[simp] theorem logAdd_contained (s : State) (e : LogEntry) : (s.logAdd e).contained = s.contained := rfl
@[simp] theorem logAdd_msix (s : State) (e : LogEntry) : (s.logAdd e).msix = s.msix := rfl
@[simp] theorem logAdd_latch (s : State) (e : LogEntry) : (s.logAdd e).latch = s.latch := rfl
@[simp] theorem logAdd_deferred (s : State) (e : LogEntry) : (s.logAdd e).deferred = s.deferred := rfl
@[simp] theorem logAdd_v24Rev (s : State) (e : LogEntry) : (s.logAdd e).v24Rev = s.v24Rev := rfl
@[simp] theorem logAdd_rtcNs (s : State) (e : LogEntry) : (s.logAdd e).rtcNs = s.rtcNs := rfl
@[simp] theorem logAdd_pins (s : State) (e : LogEntry) : (s.logAdd e).pins = s.pins := rfl
@[simp] theorem logAdd_gio (s : State) (e : LogEntry) : (s.logAdd e).gio = s.gio := rfl
@[simp] theorem logAdd_tiles (s : State) (e : LogEntry) : (s.logAdd e).tiles = s.tiles := rfl
@[simp] theorem logAdd_sched (s : State) (e : LogEntry) : (s.logAdd e).sched = s.sched := rfl
@[simp] theorem logAdd_ports (s : State) (e : LogEntry) : (s.logAdd e).ports = s.ports := rfl
@[simp] theorem logAdd_engs (s : State) (e : LogEntry) : (s.logAdd e).engs = s.engs := rfl
@[simp] theorem logAdd_dmas (s : State) (e : LogEntry) : (s.logAdd e).dmas = s.dmas := rfl
@[simp] theorem logAdd_mem (s : State) (e : LogEntry) : (s.logAdd e).mem = s.mem := rfl
@[simp] theorem logAdd_fab (s : State) (e : LogEntry) : (s.logAdd e).fab = s.fab := rfl
@[simp] theorem logAdd_rcfg (s : State) (e : LogEntry) : (s.logAdd e).rcfg = s.rcfg := rfl
@[simp] theorem logAdd_pwr (s : State) (e : LogEntry) : (s.logAdd e).pwr = s.pwr := rfl
@[simp] theorem logAdd_host (s : State) (e : LogEntry) : (s.logAdd e).host = s.host := rfl
@[simp] theorem logAdd_load (s : State) (e : LogEntry) : (s.logAdd e).load = s.load := rfl
@[simp] theorem logAdd_clock (s : State) (e : LogEntry) : (s.logAdd e).clock = s.clock := rfl
@[simp] theorem logAdd_sec (s : State) (e : LogEntry) : (s.logAdd e).sec = s.sec := rfl
@[simp] theorem logAdd_straps (s : State) (e : LogEntry) : (s.logAdd e).straps = s.straps := rfl

/-! ### setDom -/

@[simp] theorem setDom_pending (s : State) (d : Nat) (on : Bool) : (s.setDom d on).pending = s.pending := rfl
@[simp] theorem setDom_stg (s : State) (d : Nat) (on : Bool) : (s.setDom d on).stg = s.stg := rfl
@[simp] theorem setDom_wait (s : State) (d : Nat) (on : Bool) : (s.setDom d on).wait = s.wait := rfl
@[simp] theorem setDom_busRead (s : State) (d : Nat) (on : Bool) : (s.setDom d on).busRead = s.busRead := rfl
@[simp] theorem setDom_busBytes (s : State) (d : Nat) (on : Bool) : (s.setDom d on).busBytes = s.busBytes := rfl
@[simp] theorem setDom_free (s : State) (d : Nat) (on : Bool) : (s.setDom d on).free = s.free := rfl
@[simp] theorem setDom_time (s : State) (d : Nat) (on : Bool) : (s.setDom d on).time = s.time := rfl
@[simp] theorem setDom_flt (s : State) (d : Nat) (on : Bool) : (s.setDom d on).flt = s.flt := rfl
@[simp] theorem setDom_contained (s : State) (d : Nat) (on : Bool) : (s.setDom d on).contained = s.contained := rfl
@[simp] theorem setDom_msix (s : State) (d : Nat) (on : Bool) : (s.setDom d on).msix = s.msix := rfl
@[simp] theorem setDom_latch (s : State) (d : Nat) (on : Bool) : (s.setDom d on).latch = s.latch := rfl
@[simp] theorem setDom_deferred (s : State) (d : Nat) (on : Bool) : (s.setDom d on).deferred = s.deferred := rfl
@[simp] theorem setDom_v24Rev (s : State) (d : Nat) (on : Bool) : (s.setDom d on).v24Rev = s.v24Rev := rfl
@[simp] theorem setDom_rtcNs (s : State) (d : Nat) (on : Bool) : (s.setDom d on).rtcNs = s.rtcNs := rfl
@[simp] theorem setDom_ledger (s : State) (d : Nat) (on : Bool) : (s.setDom d on).ledger = s.ledger := rfl
@[simp] theorem setDom_pins (s : State) (d : Nat) (on : Bool) : (s.setDom d on).pins = s.pins := rfl
@[simp] theorem setDom_gio (s : State) (d : Nat) (on : Bool) : (s.setDom d on).gio = s.gio := rfl
@[simp] theorem setDom_tiles (s : State) (d : Nat) (on : Bool) : (s.setDom d on).tiles = s.tiles := rfl
@[simp] theorem setDom_sched (s : State) (d : Nat) (on : Bool) : (s.setDom d on).sched = s.sched := rfl
@[simp] theorem setDom_ports (s : State) (d : Nat) (on : Bool) : (s.setDom d on).ports = s.ports := rfl
@[simp] theorem setDom_engs (s : State) (d : Nat) (on : Bool) : (s.setDom d on).engs = s.engs := rfl
@[simp] theorem setDom_dmas (s : State) (d : Nat) (on : Bool) : (s.setDom d on).dmas = s.dmas := rfl
@[simp] theorem setDom_mem (s : State) (d : Nat) (on : Bool) : (s.setDom d on).mem = s.mem := rfl
@[simp] theorem setDom_fab (s : State) (d : Nat) (on : Bool) : (s.setDom d on).fab = s.fab := rfl
@[simp] theorem setDom_rcfg (s : State) (d : Nat) (on : Bool) : (s.setDom d on).rcfg = s.rcfg := rfl
@[simp] theorem setDom_pwr (s : State) (d : Nat) (on : Bool) : (s.setDom d on).pwr = s.pwr := rfl
@[simp] theorem setDom_host (s : State) (d : Nat) (on : Bool) : (s.setDom d on).host = s.host := rfl
@[simp] theorem setDom_load (s : State) (d : Nat) (on : Bool) : (s.setDom d on).load = s.load := rfl
@[simp] theorem setDom_clock (s : State) (d : Nat) (on : Bool) : (s.setDom d on).clock = s.clock := rfl
@[simp] theorem setDom_sec (s : State) (d : Nat) (on : Bool) : (s.setDom d on).sec = s.sec := rfl
@[simp] theorem setDom_straps (s : State) (d : Nat) (on : Bool) : (s.setDom d on).straps = s.straps := rfl

/-! ### startDomain -/

@[simp] theorem startDomain_pending (s : State) (d : Nat) : (s.startDomain d).pending = s.pending := rfl
@[simp] theorem startDomain_stg (s : State) (d : Nat) : (s.startDomain d).stg = s.stg := rfl
@[simp] theorem startDomain_wait (s : State) (d : Nat) : (s.startDomain d).wait = s.wait := rfl
@[simp] theorem startDomain_busRead (s : State) (d : Nat) : (s.startDomain d).busRead = s.busRead := rfl
@[simp] theorem startDomain_busBytes (s : State) (d : Nat) : (s.startDomain d).busBytes = s.busBytes := rfl
@[simp] theorem startDomain_free (s : State) (d : Nat) : (s.startDomain d).free = s.free := rfl
@[simp] theorem startDomain_time (s : State) (d : Nat) : (s.startDomain d).time = s.time := rfl
@[simp] theorem startDomain_flt (s : State) (d : Nat) : (s.startDomain d).flt = s.flt := rfl
@[simp] theorem startDomain_contained (s : State) (d : Nat) : (s.startDomain d).contained = s.contained := rfl
@[simp] theorem startDomain_msix (s : State) (d : Nat) : (s.startDomain d).msix = s.msix := rfl
@[simp] theorem startDomain_latch (s : State) (d : Nat) : (s.startDomain d).latch = s.latch := rfl
@[simp] theorem startDomain_deferred (s : State) (d : Nat) : (s.startDomain d).deferred = s.deferred := rfl
@[simp] theorem startDomain_v24Rev (s : State) (d : Nat) : (s.startDomain d).v24Rev = s.v24Rev := rfl
@[simp] theorem startDomain_rtcNs (s : State) (d : Nat) : (s.startDomain d).rtcNs = s.rtcNs := rfl
@[simp] theorem startDomain_ledger (s : State) (d : Nat) : (s.startDomain d).ledger = s.ledger := rfl
@[simp] theorem startDomain_pins (s : State) (d : Nat) : (s.startDomain d).pins = s.pins := rfl
@[simp] theorem startDomain_gio (s : State) (d : Nat) : (s.startDomain d).gio = s.gio := rfl
@[simp] theorem startDomain_tiles (s : State) (d : Nat) : (s.startDomain d).tiles = s.tiles := rfl
@[simp] theorem startDomain_sched (s : State) (d : Nat) : (s.startDomain d).sched = s.sched := rfl
@[simp] theorem startDomain_ports (s : State) (d : Nat) : (s.startDomain d).ports = s.ports := rfl
@[simp] theorem startDomain_engs (s : State) (d : Nat) : (s.startDomain d).engs = s.engs := rfl
@[simp] theorem startDomain_dmas (s : State) (d : Nat) : (s.startDomain d).dmas = s.dmas := rfl
@[simp] theorem startDomain_mem (s : State) (d : Nat) : (s.startDomain d).mem = s.mem := rfl
@[simp] theorem startDomain_fab (s : State) (d : Nat) : (s.startDomain d).fab = s.fab := rfl
@[simp] theorem startDomain_rcfg (s : State) (d : Nat) : (s.startDomain d).rcfg = s.rcfg := rfl
@[simp] theorem startDomain_host (s : State) (d : Nat) : (s.startDomain d).host = s.host := rfl
@[simp] theorem startDomain_load (s : State) (d : Nat) : (s.startDomain d).load = s.load := rfl
@[simp] theorem startDomain_clock (s : State) (d : Nat) : (s.startDomain d).clock = s.clock := rfl
@[simp] theorem startDomain_sec (s : State) (d : Nat) : (s.startDomain d).sec = s.sec := rfl
@[simp] theorem startDomain_straps (s : State) (d : Nat) : (s.startDomain d).straps = s.straps := rfl

/-! ### commitsUp -/

@[simp] theorem commitsUp_pending (s : State) (pg : Nat) : (s.commitsUp pg).pending = s.pending := rfl
@[simp] theorem commitsUp_stg (s : State) (pg : Nat) : (s.commitsUp pg).stg = s.stg := rfl
@[simp] theorem commitsUp_wait (s : State) (pg : Nat) : (s.commitsUp pg).wait = s.wait := rfl
@[simp] theorem commitsUp_busRead (s : State) (pg : Nat) : (s.commitsUp pg).busRead = s.busRead := rfl
@[simp] theorem commitsUp_busBytes (s : State) (pg : Nat) : (s.commitsUp pg).busBytes = s.busBytes := rfl
@[simp] theorem commitsUp_free (s : State) (pg : Nat) : (s.commitsUp pg).free = s.free := rfl
@[simp] theorem commitsUp_time (s : State) (pg : Nat) : (s.commitsUp pg).time = s.time := rfl
@[simp] theorem commitsUp_flt (s : State) (pg : Nat) : (s.commitsUp pg).flt = s.flt := rfl
@[simp] theorem commitsUp_contained (s : State) (pg : Nat) : (s.commitsUp pg).contained = s.contained := rfl
@[simp] theorem commitsUp_msix (s : State) (pg : Nat) : (s.commitsUp pg).msix = s.msix := rfl
@[simp] theorem commitsUp_latch (s : State) (pg : Nat) : (s.commitsUp pg).latch = s.latch := rfl
@[simp] theorem commitsUp_deferred (s : State) (pg : Nat) : (s.commitsUp pg).deferred = s.deferred := rfl
@[simp] theorem commitsUp_v24Rev (s : State) (pg : Nat) : (s.commitsUp pg).v24Rev = s.v24Rev := rfl
@[simp] theorem commitsUp_rtcNs (s : State) (pg : Nat) : (s.commitsUp pg).rtcNs = s.rtcNs := rfl
@[simp] theorem commitsUp_ledger (s : State) (pg : Nat) : (s.commitsUp pg).ledger = s.ledger := rfl
@[simp] theorem commitsUp_pins (s : State) (pg : Nat) : (s.commitsUp pg).pins = s.pins := rfl
@[simp] theorem commitsUp_gio (s : State) (pg : Nat) : (s.commitsUp pg).gio = s.gio := rfl
@[simp] theorem commitsUp_tiles (s : State) (pg : Nat) : (s.commitsUp pg).tiles = s.tiles := rfl
@[simp] theorem commitsUp_sched (s : State) (pg : Nat) : (s.commitsUp pg).sched = s.sched := rfl
@[simp] theorem commitsUp_ports (s : State) (pg : Nat) : (s.commitsUp pg).ports = s.ports := rfl
@[simp] theorem commitsUp_engs (s : State) (pg : Nat) : (s.commitsUp pg).engs = s.engs := rfl
@[simp] theorem commitsUp_dmas (s : State) (pg : Nat) : (s.commitsUp pg).dmas = s.dmas := rfl
@[simp] theorem commitsUp_mem (s : State) (pg : Nat) : (s.commitsUp pg).mem = s.mem := rfl
@[simp] theorem commitsUp_fab (s : State) (pg : Nat) : (s.commitsUp pg).fab = s.fab := rfl
@[simp] theorem commitsUp_rcfg (s : State) (pg : Nat) : (s.commitsUp pg).rcfg = s.rcfg := rfl
@[simp] theorem commitsUp_pwr (s : State) (pg : Nat) : (s.commitsUp pg).pwr = s.pwr := rfl
@[simp] theorem commitsUp_host (s : State) (pg : Nat) : (s.commitsUp pg).host = s.host := rfl
@[simp] theorem commitsUp_load (s : State) (pg : Nat) : (s.commitsUp pg).load = s.load := rfl
@[simp] theorem commitsUp_clock (s : State) (pg : Nat) : (s.commitsUp pg).clock = s.clock := rfl
@[simp] theorem commitsUp_sec (s : State) (pg : Nat) : (s.commitsUp pg).sec = s.sec := rfl
@[simp] theorem commitsUp_straps (s : State) (pg : Nat) : (s.commitsUp pg).straps = s.straps := rfl

/-! ### dataWrite -/

@[simp] theorem dataWrite_pending (s : State) (e a : Nat) (bs : List Byte) : (s.dataWrite e a bs).pending = s.pending := rfl
@[simp] theorem dataWrite_regs (s : State) (e a : Nat) (bs : List Byte) : (s.dataWrite e a bs).regs = s.regs := rfl
@[simp] theorem dataWrite_stg (s : State) (e a : Nat) (bs : List Byte) : (s.dataWrite e a bs).stg = s.stg := rfl
@[simp] theorem dataWrite_wait (s : State) (e a : Nat) (bs : List Byte) : (s.dataWrite e a bs).wait = s.wait := rfl
@[simp] theorem dataWrite_busRead (s : State) (e a : Nat) (bs : List Byte) : (s.dataWrite e a bs).busRead = s.busRead := rfl
@[simp] theorem dataWrite_busBytes (s : State) (e a : Nat) (bs : List Byte) : (s.dataWrite e a bs).busBytes = s.busBytes := rfl
@[simp] theorem dataWrite_free (s : State) (e a : Nat) (bs : List Byte) : (s.dataWrite e a bs).free = s.free := rfl
@[simp] theorem dataWrite_time (s : State) (e a : Nat) (bs : List Byte) : (s.dataWrite e a bs).time = s.time := rfl
@[simp] theorem dataWrite_flt (s : State) (e a : Nat) (bs : List Byte) : (s.dataWrite e a bs).flt = s.flt := rfl
@[simp] theorem dataWrite_contained (s : State) (e a : Nat) (bs : List Byte) : (s.dataWrite e a bs).contained = s.contained := rfl
@[simp] theorem dataWrite_msix (s : State) (e a : Nat) (bs : List Byte) : (s.dataWrite e a bs).msix = s.msix := rfl
@[simp] theorem dataWrite_latch (s : State) (e a : Nat) (bs : List Byte) : (s.dataWrite e a bs).latch = s.latch := rfl
@[simp] theorem dataWrite_deferred (s : State) (e a : Nat) (bs : List Byte) : (s.dataWrite e a bs).deferred = s.deferred := rfl
@[simp] theorem dataWrite_v24Rev (s : State) (e a : Nat) (bs : List Byte) : (s.dataWrite e a bs).v24Rev = s.v24Rev := rfl
@[simp] theorem dataWrite_rtcNs (s : State) (e a : Nat) (bs : List Byte) : (s.dataWrite e a bs).rtcNs = s.rtcNs := rfl
@[simp] theorem dataWrite_ledger (s : State) (e a : Nat) (bs : List Byte) : (s.dataWrite e a bs).ledger = s.ledger := rfl
@[simp] theorem dataWrite_pins (s : State) (e a : Nat) (bs : List Byte) : (s.dataWrite e a bs).pins = s.pins := rfl
@[simp] theorem dataWrite_gio (s : State) (e a : Nat) (bs : List Byte) : (s.dataWrite e a bs).gio = s.gio := rfl
@[simp] theorem dataWrite_tiles (s : State) (e a : Nat) (bs : List Byte) : (s.dataWrite e a bs).tiles = s.tiles := rfl
@[simp] theorem dataWrite_sched (s : State) (e a : Nat) (bs : List Byte) : (s.dataWrite e a bs).sched = s.sched := rfl
@[simp] theorem dataWrite_ports (s : State) (e a : Nat) (bs : List Byte) : (s.dataWrite e a bs).ports = s.ports := rfl
@[simp] theorem dataWrite_engs (s : State) (e a : Nat) (bs : List Byte) : (s.dataWrite e a bs).engs = s.engs := rfl
@[simp] theorem dataWrite_dmas (s : State) (e a : Nat) (bs : List Byte) : (s.dataWrite e a bs).dmas = s.dmas := rfl
@[simp] theorem dataWrite_fab (s : State) (e a : Nat) (bs : List Byte) : (s.dataWrite e a bs).fab = s.fab := rfl
@[simp] theorem dataWrite_rcfg (s : State) (e a : Nat) (bs : List Byte) : (s.dataWrite e a bs).rcfg = s.rcfg := rfl
@[simp] theorem dataWrite_pwr (s : State) (e a : Nat) (bs : List Byte) : (s.dataWrite e a bs).pwr = s.pwr := rfl
@[simp] theorem dataWrite_host (s : State) (e a : Nat) (bs : List Byte) : (s.dataWrite e a bs).host = s.host := rfl
@[simp] theorem dataWrite_load (s : State) (e a : Nat) (bs : List Byte) : (s.dataWrite e a bs).load = s.load := rfl
@[simp] theorem dataWrite_clock (s : State) (e a : Nat) (bs : List Byte) : (s.dataWrite e a bs).clock = s.clock := rfl
@[simp] theorem dataWrite_sec (s : State) (e a : Nat) (bs : List Byte) : (s.dataWrite e a bs).sec = s.sec := rfl
@[simp] theorem dataWrite_straps (s : State) (e a : Nat) (bs : List Byte) : (s.dataWrite e a bs).straps = s.straps := rfl

/-! ### sramWrite -/

@[simp] theorem sramWrite_pending (s : State) (a : Nat) (bs : List Byte) : (s.sramWrite a bs).pending = s.pending := rfl
@[simp] theorem sramWrite_regs (s : State) (a : Nat) (bs : List Byte) : (s.sramWrite a bs).regs = s.regs := rfl
@[simp] theorem sramWrite_stg (s : State) (a : Nat) (bs : List Byte) : (s.sramWrite a bs).stg = s.stg := rfl
@[simp] theorem sramWrite_wait (s : State) (a : Nat) (bs : List Byte) : (s.sramWrite a bs).wait = s.wait := rfl
@[simp] theorem sramWrite_busRead (s : State) (a : Nat) (bs : List Byte) : (s.sramWrite a bs).busRead = s.busRead := rfl
@[simp] theorem sramWrite_busBytes (s : State) (a : Nat) (bs : List Byte) : (s.sramWrite a bs).busBytes = s.busBytes := rfl
@[simp] theorem sramWrite_free (s : State) (a : Nat) (bs : List Byte) : (s.sramWrite a bs).free = s.free := rfl
@[simp] theorem sramWrite_time (s : State) (a : Nat) (bs : List Byte) : (s.sramWrite a bs).time = s.time := rfl
@[simp] theorem sramWrite_flt (s : State) (a : Nat) (bs : List Byte) : (s.sramWrite a bs).flt = s.flt := rfl
@[simp] theorem sramWrite_contained (s : State) (a : Nat) (bs : List Byte) : (s.sramWrite a bs).contained = s.contained := rfl
@[simp] theorem sramWrite_msix (s : State) (a : Nat) (bs : List Byte) : (s.sramWrite a bs).msix = s.msix := rfl
@[simp] theorem sramWrite_latch (s : State) (a : Nat) (bs : List Byte) : (s.sramWrite a bs).latch = s.latch := rfl
@[simp] theorem sramWrite_deferred (s : State) (a : Nat) (bs : List Byte) : (s.sramWrite a bs).deferred = s.deferred := rfl
@[simp] theorem sramWrite_v24Rev (s : State) (a : Nat) (bs : List Byte) : (s.sramWrite a bs).v24Rev = s.v24Rev := rfl
@[simp] theorem sramWrite_rtcNs (s : State) (a : Nat) (bs : List Byte) : (s.sramWrite a bs).rtcNs = s.rtcNs := rfl
@[simp] theorem sramWrite_ledger (s : State) (a : Nat) (bs : List Byte) : (s.sramWrite a bs).ledger = s.ledger := rfl
@[simp] theorem sramWrite_pins (s : State) (a : Nat) (bs : List Byte) : (s.sramWrite a bs).pins = s.pins := rfl
@[simp] theorem sramWrite_gio (s : State) (a : Nat) (bs : List Byte) : (s.sramWrite a bs).gio = s.gio := rfl
@[simp] theorem sramWrite_tiles (s : State) (a : Nat) (bs : List Byte) : (s.sramWrite a bs).tiles = s.tiles := rfl
@[simp] theorem sramWrite_sched (s : State) (a : Nat) (bs : List Byte) : (s.sramWrite a bs).sched = s.sched := rfl
@[simp] theorem sramWrite_ports (s : State) (a : Nat) (bs : List Byte) : (s.sramWrite a bs).ports = s.ports := rfl
@[simp] theorem sramWrite_engs (s : State) (a : Nat) (bs : List Byte) : (s.sramWrite a bs).engs = s.engs := rfl
@[simp] theorem sramWrite_dmas (s : State) (a : Nat) (bs : List Byte) : (s.sramWrite a bs).dmas = s.dmas := rfl
@[simp] theorem sramWrite_fab (s : State) (a : Nat) (bs : List Byte) : (s.sramWrite a bs).fab = s.fab := rfl
@[simp] theorem sramWrite_rcfg (s : State) (a : Nat) (bs : List Byte) : (s.sramWrite a bs).rcfg = s.rcfg := rfl
@[simp] theorem sramWrite_pwr (s : State) (a : Nat) (bs : List Byte) : (s.sramWrite a bs).pwr = s.pwr := rfl
@[simp] theorem sramWrite_host (s : State) (a : Nat) (bs : List Byte) : (s.sramWrite a bs).host = s.host := rfl
@[simp] theorem sramWrite_load (s : State) (a : Nat) (bs : List Byte) : (s.sramWrite a bs).load = s.load := rfl
@[simp] theorem sramWrite_clock (s : State) (a : Nat) (bs : List Byte) : (s.sramWrite a bs).clock = s.clock := rfl
@[simp] theorem sramWrite_sec (s : State) (a : Nat) (bs : List Byte) : (s.sramWrite a bs).sec = s.sec := rfl
@[simp] theorem sramWrite_straps (s : State) (a : Nat) (bs : List Byte) : (s.sramWrite a bs).straps = s.straps := rfl

/-! ### dramWrite -/

@[simp] theorem dramWrite_pending (s : State) (a : Nat) (bs : List Byte) : (s.dramWrite a bs).pending = s.pending := rfl
@[simp] theorem dramWrite_regs (s : State) (a : Nat) (bs : List Byte) : (s.dramWrite a bs).regs = s.regs := rfl
@[simp] theorem dramWrite_stg (s : State) (a : Nat) (bs : List Byte) : (s.dramWrite a bs).stg = s.stg := rfl
@[simp] theorem dramWrite_wait (s : State) (a : Nat) (bs : List Byte) : (s.dramWrite a bs).wait = s.wait := rfl
@[simp] theorem dramWrite_busRead (s : State) (a : Nat) (bs : List Byte) : (s.dramWrite a bs).busRead = s.busRead := rfl
@[simp] theorem dramWrite_busBytes (s : State) (a : Nat) (bs : List Byte) : (s.dramWrite a bs).busBytes = s.busBytes := rfl
@[simp] theorem dramWrite_free (s : State) (a : Nat) (bs : List Byte) : (s.dramWrite a bs).free = s.free := rfl
@[simp] theorem dramWrite_time (s : State) (a : Nat) (bs : List Byte) : (s.dramWrite a bs).time = s.time := rfl
@[simp] theorem dramWrite_flt (s : State) (a : Nat) (bs : List Byte) : (s.dramWrite a bs).flt = s.flt := rfl
@[simp] theorem dramWrite_contained (s : State) (a : Nat) (bs : List Byte) : (s.dramWrite a bs).contained = s.contained := rfl
@[simp] theorem dramWrite_msix (s : State) (a : Nat) (bs : List Byte) : (s.dramWrite a bs).msix = s.msix := rfl
@[simp] theorem dramWrite_latch (s : State) (a : Nat) (bs : List Byte) : (s.dramWrite a bs).latch = s.latch := rfl
@[simp] theorem dramWrite_deferred (s : State) (a : Nat) (bs : List Byte) : (s.dramWrite a bs).deferred = s.deferred := rfl
@[simp] theorem dramWrite_v24Rev (s : State) (a : Nat) (bs : List Byte) : (s.dramWrite a bs).v24Rev = s.v24Rev := rfl
@[simp] theorem dramWrite_rtcNs (s : State) (a : Nat) (bs : List Byte) : (s.dramWrite a bs).rtcNs = s.rtcNs := rfl
@[simp] theorem dramWrite_ledger (s : State) (a : Nat) (bs : List Byte) : (s.dramWrite a bs).ledger = s.ledger := rfl
@[simp] theorem dramWrite_pins (s : State) (a : Nat) (bs : List Byte) : (s.dramWrite a bs).pins = s.pins := rfl
@[simp] theorem dramWrite_gio (s : State) (a : Nat) (bs : List Byte) : (s.dramWrite a bs).gio = s.gio := rfl
@[simp] theorem dramWrite_tiles (s : State) (a : Nat) (bs : List Byte) : (s.dramWrite a bs).tiles = s.tiles := rfl
@[simp] theorem dramWrite_sched (s : State) (a : Nat) (bs : List Byte) : (s.dramWrite a bs).sched = s.sched := rfl
@[simp] theorem dramWrite_ports (s : State) (a : Nat) (bs : List Byte) : (s.dramWrite a bs).ports = s.ports := rfl
@[simp] theorem dramWrite_engs (s : State) (a : Nat) (bs : List Byte) : (s.dramWrite a bs).engs = s.engs := rfl
@[simp] theorem dramWrite_dmas (s : State) (a : Nat) (bs : List Byte) : (s.dramWrite a bs).dmas = s.dmas := rfl
@[simp] theorem dramWrite_fab (s : State) (a : Nat) (bs : List Byte) : (s.dramWrite a bs).fab = s.fab := rfl
@[simp] theorem dramWrite_rcfg (s : State) (a : Nat) (bs : List Byte) : (s.dramWrite a bs).rcfg = s.rcfg := rfl
@[simp] theorem dramWrite_pwr (s : State) (a : Nat) (bs : List Byte) : (s.dramWrite a bs).pwr = s.pwr := rfl
@[simp] theorem dramWrite_host (s : State) (a : Nat) (bs : List Byte) : (s.dramWrite a bs).host = s.host := rfl
@[simp] theorem dramWrite_load (s : State) (a : Nat) (bs : List Byte) : (s.dramWrite a bs).load = s.load := rfl
@[simp] theorem dramWrite_clock (s : State) (a : Nat) (bs : List Byte) : (s.dramWrite a bs).clock = s.clock := rfl
@[simp] theorem dramWrite_sec (s : State) (a : Nat) (bs : List Byte) : (s.dramWrite a bs).sec = s.sec := rfl
@[simp] theorem dramWrite_straps (s : State) (a : Nat) (bs : List Byte) : (s.dramWrite a bs).straps = s.straps := rfl

/-! ### imemWrite -/

@[simp] theorem imemWrite_pending (s : State) (e a : Nat) (bs : List Byte) : (s.imemWrite e a bs).pending = s.pending := rfl
@[simp] theorem imemWrite_regs (s : State) (e a : Nat) (bs : List Byte) : (s.imemWrite e a bs).regs = s.regs := rfl
@[simp] theorem imemWrite_stg (s : State) (e a : Nat) (bs : List Byte) : (s.imemWrite e a bs).stg = s.stg := rfl
@[simp] theorem imemWrite_wait (s : State) (e a : Nat) (bs : List Byte) : (s.imemWrite e a bs).wait = s.wait := rfl
@[simp] theorem imemWrite_busRead (s : State) (e a : Nat) (bs : List Byte) : (s.imemWrite e a bs).busRead = s.busRead := rfl
@[simp] theorem imemWrite_busBytes (s : State) (e a : Nat) (bs : List Byte) : (s.imemWrite e a bs).busBytes = s.busBytes := rfl
@[simp] theorem imemWrite_free (s : State) (e a : Nat) (bs : List Byte) : (s.imemWrite e a bs).free = s.free := rfl
@[simp] theorem imemWrite_time (s : State) (e a : Nat) (bs : List Byte) : (s.imemWrite e a bs).time = s.time := rfl
@[simp] theorem imemWrite_flt (s : State) (e a : Nat) (bs : List Byte) : (s.imemWrite e a bs).flt = s.flt := rfl
@[simp] theorem imemWrite_contained (s : State) (e a : Nat) (bs : List Byte) : (s.imemWrite e a bs).contained = s.contained := rfl
@[simp] theorem imemWrite_msix (s : State) (e a : Nat) (bs : List Byte) : (s.imemWrite e a bs).msix = s.msix := rfl
@[simp] theorem imemWrite_latch (s : State) (e a : Nat) (bs : List Byte) : (s.imemWrite e a bs).latch = s.latch := rfl
@[simp] theorem imemWrite_deferred (s : State) (e a : Nat) (bs : List Byte) : (s.imemWrite e a bs).deferred = s.deferred := rfl
@[simp] theorem imemWrite_v24Rev (s : State) (e a : Nat) (bs : List Byte) : (s.imemWrite e a bs).v24Rev = s.v24Rev := rfl
@[simp] theorem imemWrite_rtcNs (s : State) (e a : Nat) (bs : List Byte) : (s.imemWrite e a bs).rtcNs = s.rtcNs := rfl
@[simp] theorem imemWrite_ledger (s : State) (e a : Nat) (bs : List Byte) : (s.imemWrite e a bs).ledger = s.ledger := rfl
@[simp] theorem imemWrite_pins (s : State) (e a : Nat) (bs : List Byte) : (s.imemWrite e a bs).pins = s.pins := rfl
@[simp] theorem imemWrite_gio (s : State) (e a : Nat) (bs : List Byte) : (s.imemWrite e a bs).gio = s.gio := rfl
@[simp] theorem imemWrite_tiles (s : State) (e a : Nat) (bs : List Byte) : (s.imemWrite e a bs).tiles = s.tiles := rfl
@[simp] theorem imemWrite_sched (s : State) (e a : Nat) (bs : List Byte) : (s.imemWrite e a bs).sched = s.sched := rfl
@[simp] theorem imemWrite_ports (s : State) (e a : Nat) (bs : List Byte) : (s.imemWrite e a bs).ports = s.ports := rfl
@[simp] theorem imemWrite_engs (s : State) (e a : Nat) (bs : List Byte) : (s.imemWrite e a bs).engs = s.engs := rfl
@[simp] theorem imemWrite_dmas (s : State) (e a : Nat) (bs : List Byte) : (s.imemWrite e a bs).dmas = s.dmas := rfl
@[simp] theorem imemWrite_fab (s : State) (e a : Nat) (bs : List Byte) : (s.imemWrite e a bs).fab = s.fab := rfl
@[simp] theorem imemWrite_rcfg (s : State) (e a : Nat) (bs : List Byte) : (s.imemWrite e a bs).rcfg = s.rcfg := rfl
@[simp] theorem imemWrite_pwr (s : State) (e a : Nat) (bs : List Byte) : (s.imemWrite e a bs).pwr = s.pwr := rfl
@[simp] theorem imemWrite_host (s : State) (e a : Nat) (bs : List Byte) : (s.imemWrite e a bs).host = s.host := rfl
@[simp] theorem imemWrite_load (s : State) (e a : Nat) (bs : List Byte) : (s.imemWrite e a bs).load = s.load := rfl
@[simp] theorem imemWrite_clock (s : State) (e a : Nat) (bs : List Byte) : (s.imemWrite e a bs).clock = s.clock := rfl
@[simp] theorem imemWrite_sec (s : State) (e a : Nat) (bs : List Byte) : (s.imemWrite e a bs).sec = s.sec := rfl
@[simp] theorem imemWrite_straps (s : State) (e a : Nat) (bs : List Byte) : (s.imemWrite e a bs).straps = s.straps := rfl

/-! ### hostWrite -/

@[simp] theorem hostWrite_pending (s : State) (a : Nat) (bs : List Byte) : (s.hostWrite a bs).pending = s.pending := rfl
@[simp] theorem hostWrite_regs (s : State) (a : Nat) (bs : List Byte) : (s.hostWrite a bs).regs = s.regs := rfl
@[simp] theorem hostWrite_stg (s : State) (a : Nat) (bs : List Byte) : (s.hostWrite a bs).stg = s.stg := rfl
@[simp] theorem hostWrite_wait (s : State) (a : Nat) (bs : List Byte) : (s.hostWrite a bs).wait = s.wait := rfl
@[simp] theorem hostWrite_busRead (s : State) (a : Nat) (bs : List Byte) : (s.hostWrite a bs).busRead = s.busRead := rfl
@[simp] theorem hostWrite_busBytes (s : State) (a : Nat) (bs : List Byte) : (s.hostWrite a bs).busBytes = s.busBytes := rfl
@[simp] theorem hostWrite_free (s : State) (a : Nat) (bs : List Byte) : (s.hostWrite a bs).free = s.free := rfl
@[simp] theorem hostWrite_time (s : State) (a : Nat) (bs : List Byte) : (s.hostWrite a bs).time = s.time := rfl
@[simp] theorem hostWrite_flt (s : State) (a : Nat) (bs : List Byte) : (s.hostWrite a bs).flt = s.flt := rfl
@[simp] theorem hostWrite_contained (s : State) (a : Nat) (bs : List Byte) : (s.hostWrite a bs).contained = s.contained := rfl
@[simp] theorem hostWrite_msix (s : State) (a : Nat) (bs : List Byte) : (s.hostWrite a bs).msix = s.msix := rfl
@[simp] theorem hostWrite_latch (s : State) (a : Nat) (bs : List Byte) : (s.hostWrite a bs).latch = s.latch := rfl
@[simp] theorem hostWrite_deferred (s : State) (a : Nat) (bs : List Byte) : (s.hostWrite a bs).deferred = s.deferred := rfl
@[simp] theorem hostWrite_v24Rev (s : State) (a : Nat) (bs : List Byte) : (s.hostWrite a bs).v24Rev = s.v24Rev := rfl
@[simp] theorem hostWrite_rtcNs (s : State) (a : Nat) (bs : List Byte) : (s.hostWrite a bs).rtcNs = s.rtcNs := rfl
@[simp] theorem hostWrite_ledger (s : State) (a : Nat) (bs : List Byte) : (s.hostWrite a bs).ledger = s.ledger := rfl
@[simp] theorem hostWrite_pins (s : State) (a : Nat) (bs : List Byte) : (s.hostWrite a bs).pins = s.pins := rfl
@[simp] theorem hostWrite_gio (s : State) (a : Nat) (bs : List Byte) : (s.hostWrite a bs).gio = s.gio := rfl
@[simp] theorem hostWrite_tiles (s : State) (a : Nat) (bs : List Byte) : (s.hostWrite a bs).tiles = s.tiles := rfl
@[simp] theorem hostWrite_sched (s : State) (a : Nat) (bs : List Byte) : (s.hostWrite a bs).sched = s.sched := rfl
@[simp] theorem hostWrite_ports (s : State) (a : Nat) (bs : List Byte) : (s.hostWrite a bs).ports = s.ports := rfl
@[simp] theorem hostWrite_engs (s : State) (a : Nat) (bs : List Byte) : (s.hostWrite a bs).engs = s.engs := rfl
@[simp] theorem hostWrite_dmas (s : State) (a : Nat) (bs : List Byte) : (s.hostWrite a bs).dmas = s.dmas := rfl
@[simp] theorem hostWrite_fab (s : State) (a : Nat) (bs : List Byte) : (s.hostWrite a bs).fab = s.fab := rfl
@[simp] theorem hostWrite_rcfg (s : State) (a : Nat) (bs : List Byte) : (s.hostWrite a bs).rcfg = s.rcfg := rfl
@[simp] theorem hostWrite_pwr (s : State) (a : Nat) (bs : List Byte) : (s.hostWrite a bs).pwr = s.pwr := rfl
@[simp] theorem hostWrite_host (s : State) (a : Nat) (bs : List Byte) : (s.hostWrite a bs).host = s.host := rfl
@[simp] theorem hostWrite_load (s : State) (a : Nat) (bs : List Byte) : (s.hostWrite a bs).load = s.load := rfl
@[simp] theorem hostWrite_clock (s : State) (a : Nat) (bs : List Byte) : (s.hostWrite a bs).clock = s.clock := rfl
@[simp] theorem hostWrite_sec (s : State) (a : Nat) (bs : List Byte) : (s.hostWrite a bs).sec = s.sec := rfl
@[simp] theorem hostWrite_straps (s : State) (a : Nat) (bs : List Byte) : (s.hostWrite a bs).straps = s.straps := rfl

/-! ### setTlb -/

@[simp] theorem setTlb_pending (s : State) (key : Nat) (l : List TlbEnt) : (s.setTlb key l).pending = s.pending := rfl
@[simp] theorem setTlb_regs (s : State) (key : Nat) (l : List TlbEnt) : (s.setTlb key l).regs = s.regs := rfl
@[simp] theorem setTlb_stg (s : State) (key : Nat) (l : List TlbEnt) : (s.setTlb key l).stg = s.stg := rfl
@[simp] theorem setTlb_wait (s : State) (key : Nat) (l : List TlbEnt) : (s.setTlb key l).wait = s.wait := rfl
@[simp] theorem setTlb_busRead (s : State) (key : Nat) (l : List TlbEnt) : (s.setTlb key l).busRead = s.busRead := rfl
@[simp] theorem setTlb_busBytes (s : State) (key : Nat) (l : List TlbEnt) : (s.setTlb key l).busBytes = s.busBytes := rfl
@[simp] theorem setTlb_free (s : State) (key : Nat) (l : List TlbEnt) : (s.setTlb key l).free = s.free := rfl
@[simp] theorem setTlb_time (s : State) (key : Nat) (l : List TlbEnt) : (s.setTlb key l).time = s.time := rfl
@[simp] theorem setTlb_flt (s : State) (key : Nat) (l : List TlbEnt) : (s.setTlb key l).flt = s.flt := rfl
@[simp] theorem setTlb_contained (s : State) (key : Nat) (l : List TlbEnt) : (s.setTlb key l).contained = s.contained := rfl
@[simp] theorem setTlb_msix (s : State) (key : Nat) (l : List TlbEnt) : (s.setTlb key l).msix = s.msix := rfl
@[simp] theorem setTlb_latch (s : State) (key : Nat) (l : List TlbEnt) : (s.setTlb key l).latch = s.latch := rfl
@[simp] theorem setTlb_deferred (s : State) (key : Nat) (l : List TlbEnt) : (s.setTlb key l).deferred = s.deferred := rfl
@[simp] theorem setTlb_v24Rev (s : State) (key : Nat) (l : List TlbEnt) : (s.setTlb key l).v24Rev = s.v24Rev := rfl
@[simp] theorem setTlb_rtcNs (s : State) (key : Nat) (l : List TlbEnt) : (s.setTlb key l).rtcNs = s.rtcNs := rfl
@[simp] theorem setTlb_ledger (s : State) (key : Nat) (l : List TlbEnt) : (s.setTlb key l).ledger = s.ledger := rfl
@[simp] theorem setTlb_pins (s : State) (key : Nat) (l : List TlbEnt) : (s.setTlb key l).pins = s.pins := rfl
@[simp] theorem setTlb_gio (s : State) (key : Nat) (l : List TlbEnt) : (s.setTlb key l).gio = s.gio := rfl
@[simp] theorem setTlb_tiles (s : State) (key : Nat) (l : List TlbEnt) : (s.setTlb key l).tiles = s.tiles := rfl
@[simp] theorem setTlb_sched (s : State) (key : Nat) (l : List TlbEnt) : (s.setTlb key l).sched = s.sched := rfl
@[simp] theorem setTlb_ports (s : State) (key : Nat) (l : List TlbEnt) : (s.setTlb key l).ports = s.ports := rfl
@[simp] theorem setTlb_engs (s : State) (key : Nat) (l : List TlbEnt) : (s.setTlb key l).engs = s.engs := rfl
@[simp] theorem setTlb_dmas (s : State) (key : Nat) (l : List TlbEnt) : (s.setTlb key l).dmas = s.dmas := rfl
@[simp] theorem setTlb_fab (s : State) (key : Nat) (l : List TlbEnt) : (s.setTlb key l).fab = s.fab := rfl
@[simp] theorem setTlb_rcfg (s : State) (key : Nat) (l : List TlbEnt) : (s.setTlb key l).rcfg = s.rcfg := rfl
@[simp] theorem setTlb_pwr (s : State) (key : Nat) (l : List TlbEnt) : (s.setTlb key l).pwr = s.pwr := rfl
@[simp] theorem setTlb_host (s : State) (key : Nat) (l : List TlbEnt) : (s.setTlb key l).host = s.host := rfl
@[simp] theorem setTlb_load (s : State) (key : Nat) (l : List TlbEnt) : (s.setTlb key l).load = s.load := rfl
@[simp] theorem setTlb_clock (s : State) (key : Nat) (l : List TlbEnt) : (s.setTlb key l).clock = s.clock := rfl
@[simp] theorem setTlb_sec (s : State) (key : Nat) (l : List TlbEnt) : (s.setTlb key l).sec = s.sec := rfl
@[simp] theorem setTlb_straps (s : State) (key : Nat) (l : List TlbEnt) : (s.setTlb key l).straps = s.straps := rfl

/-! ### draw -/

@[simp] theorem draw_pending (s : State) (n : Nat) : (s.draw n).2.pending = s.pending := rfl
@[simp] theorem draw_regs (s : State) (n : Nat) : (s.draw n).2.regs = s.regs := rfl
@[simp] theorem draw_stg (s : State) (n : Nat) : (s.draw n).2.stg = s.stg := rfl
@[simp] theorem draw_wait (s : State) (n : Nat) : (s.draw n).2.wait = s.wait := rfl
@[simp] theorem draw_busRead (s : State) (n : Nat) : (s.draw n).2.busRead = s.busRead := rfl
@[simp] theorem draw_busBytes (s : State) (n : Nat) : (s.draw n).2.busBytes = s.busBytes := rfl
@[simp] theorem draw_time (s : State) (n : Nat) : (s.draw n).2.time = s.time := rfl
@[simp] theorem draw_flt (s : State) (n : Nat) : (s.draw n).2.flt = s.flt := rfl
@[simp] theorem draw_contained (s : State) (n : Nat) : (s.draw n).2.contained = s.contained := rfl
@[simp] theorem draw_msix (s : State) (n : Nat) : (s.draw n).2.msix = s.msix := rfl
@[simp] theorem draw_latch (s : State) (n : Nat) : (s.draw n).2.latch = s.latch := rfl
@[simp] theorem draw_deferred (s : State) (n : Nat) : (s.draw n).2.deferred = s.deferred := rfl
@[simp] theorem draw_v24Rev (s : State) (n : Nat) : (s.draw n).2.v24Rev = s.v24Rev := rfl
@[simp] theorem draw_rtcNs (s : State) (n : Nat) : (s.draw n).2.rtcNs = s.rtcNs := rfl
@[simp] theorem draw_ledger (s : State) (n : Nat) : (s.draw n).2.ledger = s.ledger := rfl
@[simp] theorem draw_pins (s : State) (n : Nat) : (s.draw n).2.pins = s.pins := rfl
@[simp] theorem draw_gio (s : State) (n : Nat) : (s.draw n).2.gio = s.gio := rfl
@[simp] theorem draw_tiles (s : State) (n : Nat) : (s.draw n).2.tiles = s.tiles := rfl
@[simp] theorem draw_sched (s : State) (n : Nat) : (s.draw n).2.sched = s.sched := rfl
@[simp] theorem draw_ports (s : State) (n : Nat) : (s.draw n).2.ports = s.ports := rfl
@[simp] theorem draw_engs (s : State) (n : Nat) : (s.draw n).2.engs = s.engs := rfl
@[simp] theorem draw_dmas (s : State) (n : Nat) : (s.draw n).2.dmas = s.dmas := rfl
@[simp] theorem draw_mem (s : State) (n : Nat) : (s.draw n).2.mem = s.mem := rfl
@[simp] theorem draw_fab (s : State) (n : Nat) : (s.draw n).2.fab = s.fab := rfl
@[simp] theorem draw_rcfg (s : State) (n : Nat) : (s.draw n).2.rcfg = s.rcfg := rfl
@[simp] theorem draw_pwr (s : State) (n : Nat) : (s.draw n).2.pwr = s.pwr := rfl
@[simp] theorem draw_host (s : State) (n : Nat) : (s.draw n).2.host = s.host := rfl
@[simp] theorem draw_load (s : State) (n : Nat) : (s.draw n).2.load = s.load := rfl
@[simp] theorem draw_clock (s : State) (n : Nat) : (s.draw n).2.clock = s.clock := rfl
@[simp] theorem draw_sec (s : State) (n : Nat) : (s.draw n).2.sec = s.sec := rfl
@[simp] theorem draw_straps (s : State) (n : Nat) : (s.draw n).2.straps = s.straps := rfl

end Sys2Proof.Machine
end

