-- ==== Sys2Proof/Laws/Word.lean ====
section
/-! SUPPORT. What register fields and words read as after a write. -/

namespace Sys2Proof.Machine

/-- A field stands inside its word. -/
def Field.fits (f : Field) : Bool := decide (f.lo ≤ f.hi) && decide (f.hi < 32)

/-- Two fields share no bit. -/
def Field.apart (f g : Field) : Bool := decide (f.hi < g.lo) || decide (g.hi < f.lo)

theorem testBit_bitMask (hi lo i : Nat) (h : lo ≤ hi) : (bitMask hi lo).testBit i = (decide (lo ≤ i) && decide (i ≤ hi)) := by
  unfold bitMask
  rw [Nat.testBit_mul_two_pow, Nat.testBit_two_pow_sub_one]
  by_cases h1 : lo ≤ i <;> by_cases h2 : i ≤ hi <;> simp [h1, h2] <;> omega

theorem testBit_getBits (w : Word) (hi lo i : Nat) :
    (getBits w hi lo).testBit i = (decide (i < hi + 1 - lo) && w.getLsbD (i + lo)) := by
  unfold getBits
  rw [Nat.testBit_mod_two_pow, Nat.testBit_div_two_pow]
  rfl

theorem getLsbD_putBits (w : Word) (hi lo v i : Nat) (h : lo ≤ hi) (hh : hi < 32) :
    (putBits w hi lo v).getLsbD i = if lo ≤ i ∧ i ≤ hi then v.testBit (i - lo) else w.getLsbD i := by
  unfold putBits
  by_cases hi32 : i < 32
  · simp only [BitVec.getLsbD_or, BitVec.getLsbD_and, BitVec.getLsbD_not, BitVec.getLsbD_ofNat, testBit_bitMask _ _ _ h,
      Nat.testBit_mul_two_pow, hi32]
    by_cases h1 : lo ≤ i <;> by_cases h2 : i ≤ hi <;> simp [h1, h2]
  · have : ¬ (lo ≤ i ∧ i ≤ hi) := by omega
    rw [if_neg this, BitVec.getLsbD_of_ge _ _ (by omega), BitVec.getLsbD_of_ge _ _ (by omega)]

theorem getBits_putBits_same (w : Word) (hi lo v : Nat) (h : lo ≤ hi) (hh : hi < 32) :
    getBits (putBits w hi lo v) hi lo = v % 2 ^ (hi + 1 - lo) := by
  apply Nat.eq_of_testBit_eq
  intro i
  rw [testBit_getBits, getLsbD_putBits _ _ _ _ _ h hh, Nat.testBit_mod_two_pow]
  by_cases h1 : i < hi + 1 - lo
  · have : lo ≤ i + lo ∧ i + lo ≤ hi := by omega
    simp [h1, this]
  · simp [h1]

theorem getBits_putBits_apart (w : Word) (hi lo v hi' lo' : Nat) (h : lo ≤ hi) (hh : hi < 32) (ha : hi < lo' ∨ hi' < lo) :
    getBits (putBits w hi lo v) hi' lo' = getBits w hi' lo' := by
  apply Nat.eq_of_testBit_eq
  intro i
  rw [testBit_getBits, testBit_getBits, getLsbD_putBits _ _ _ _ _ h hh]
  by_cases h1 : i < hi' + 1 - lo'
  · have : ¬ (lo ≤ i + lo' ∧ i + lo' ≤ hi) := by omega
    simp [this]
  · simp [h1]

/-! ### Words -/

@[simp] theorem word_setWord (s : State) (a b : Nat) (w : Word) :
    (s.setWord a w).word b = if b = a then w else s.word b := tblGet_tblSet resetWord s.regs a b w

theorem word_put (s : State) (f : Field) (v b : Nat) :
    (s.put f v).word b = if b = f.addr then putBits (s.word f.addr) f.hi f.lo v else s.word b := word_setWord _ _ _ _

theorem word_put_other (s : State) (f : Field) (v b : Nat) (h : b ≠ f.addr) : (s.put f v).word b = s.word b := by
  rw [word_put, if_neg h]

theorem word_putB_other (s : State) (f : Field) (v : Bool) (b : Nat) (h : b ≠ f.addr) : (s.putB f v).word b = s.word b :=
  word_put_other s f _ b h

theorem word_bump_other (s : State) (f : Field) (n b : Nat) (h : b ≠ f.addr) : (s.bump f n).word b = s.word b :=
  word_put_other s f _ b h

/-! ### Fields -/

theorem get_put (s : State) (f : Field) (v : Nat) (h : f.fits = true) : (s.put f v).get f = v % 2 ^ (f.hi + 1 - f.lo) := by
  simp only [Field.fits, Bool.and_eq_true, decide_eq_true_eq] at h
  unfold State.get
  rw [word_put, if_pos rfl, getBits_putBits_same _ _ _ _ h.1 h.2]

theorem get_putB (s : State) (f : Field) (b : Bool) (h : f.fits = true) : (s.putB f b).get f = b.toNat := by
  unfold State.putB
  rw [get_put s f _ h]
  simp only [Field.fits, Bool.and_eq_true, decide_eq_true_eq] at h
  apply Nat.mod_eq_of_lt
  have : 2 ≤ 2 ^ (f.hi + 1 - f.lo) := by
    calc 2 = 2 ^ 1 := rfl
      _ ≤ 2 ^ (f.hi + 1 - f.lo) := Nat.pow_le_pow_right (by omega) (by omega)
  have := Bool.toNat_le b
  omega

theorem bit_putB (s : State) (f : Field) (b : Bool) (h : f.fits = true) : (s.putB f b).bit f = b := by
  unfold State.bit
  rw [get_putB s f b h]
  cases b <;> rfl

/-- A write of one field leaves a field of another word. -/
theorem get_put_other (s : State) (f g : Field) (v : Nat) (h : g.addr ≠ f.addr) : (s.put f v).get g = s.get g := by
  unfold State.get
  rw [word_put_other s f v g.addr h]

/-- A write of one field leaves a field that shares no bit with it. -/
theorem get_put_apart (s : State) (f g : Field) (v : Nat) (h : f.fits = true) (ha : f.apart g = true) :
    (s.put f v).get g = s.get g := by
  simp only [Field.fits, Bool.and_eq_true, decide_eq_true_eq] at h
  simp only [Field.apart, Bool.or_eq_true, decide_eq_true_eq] at ha
  unfold State.get
  rw [word_put]
  split
  · next he => rw [getBits_putBits_apart _ _ _ _ _ _ h.1 h.2 ha, he]
  · rfl

theorem get_putB_other (s : State) (f g : Field) (b : Bool) (h : g.addr ≠ f.addr) : (s.putB f b).get g = s.get g :=
  get_put_other s f g _ h

theorem get_putB_apart (s : State) (f g : Field) (b : Bool) (h : f.fits = true) (ha : f.apart g = true) :
    (s.putB f b).get g = s.get g := get_put_apart s f g _ h ha

theorem bit_put_other (s : State) (f g : Field) (v : Nat) (h : g.addr ≠ f.addr) : (s.put f v).bit g = s.bit g := by
  unfold State.bit
  rw [get_put_other s f g v h]

theorem bit_putB_other (s : State) (f g : Field) (b : Bool) (h : g.addr ≠ f.addr) : (s.putB f b).bit g = s.bit g :=
  bit_put_other s f g _ h

theorem bit_putB_apart (s : State) (f g : Field) (b : Bool) (h : f.fits = true) (ha : f.apart g = true) :
    (s.putB f b).bit g = s.bit g := by
  unfold State.bit
  rw [get_putB_apart s f g b h ha]

/-! ### One bit of a field -/

theorem testBit_get (s : State) (f : Field) (i : Nat) :
    (s.get f).testBit i = (decide (i < f.hi + 1 - f.lo) && (s.word f.addr).getLsbD (i + f.lo)) := testBit_getBits _ _ _ _

/-- The bits of a field after a write of one of them. -/
theorem testBit_putIdx (s : State) (f : Field) (k j : Nat) (b : Bool) (h : f.fits = true) (hk : f.lo + k ≤ f.hi) :
    ((s.putIdx f k b).get f).testBit j = if j = k then b else (s.get f).testBit j := by
  simp only [Field.fits, Bool.and_eq_true, decide_eq_true_eq] at h
  rw [testBit_get]
  unfold State.putIdx State.putB
  rw [word_put, if_pos rfl, getLsbD_putBits _ _ _ _ _ (Nat.le_refl _) (by show f.lo + k < 32; omega)]
  by_cases hj : j = k
  · subst hj
    have h1 : j < f.hi + 1 - f.lo := by omega
    have h2 : f.lo + j ≤ j + f.lo ∧ j + f.lo ≤ f.lo + j := by omega
    rw [if_pos h2, if_pos rfl]
    have h3 : j + f.lo - (f.lo + j) = 0 := by omega
    rw [h3]
    cases b <;> simp [h1]
  · have h2 : ¬ (f.lo + k ≤ j + f.lo ∧ j + f.lo ≤ f.lo + k) := by omega
    rw [if_neg h2, if_neg hj, testBit_get]

theorem getIdx_putIdx (s : State) (f : Field) (k j : Nat) (b : Bool) (h : f.fits = true) (hk : f.lo + k ≤ f.hi) :
    (s.putIdx f k b).getIdx f j = if j = k then b else s.getIdx f j := testBit_putIdx s f k j b h hk

theorem word_putIdx_other (s : State) (f : Field) (k : Nat) (b : Bool) (q : Nat) (h : q ≠ f.addr) :
    (s.putIdx f k b).word q = s.word q := word_put_other s _ _ q h

theorem get_putIdx_other (s : State) (f g : Field) (k : Nat) (b : Bool) (h : g.addr ≠ f.addr) :
    (s.putIdx f k b).get g = s.get g := get_put_other s _ g _ h

theorem bit_putIdx_other (s : State) (f g : Field) (k : Nat) (b : Bool) (h : g.addr ≠ f.addr) :
    (s.putIdx f k b).bit g = s.bit g := bit_put_other s _ g _ h

/-- A field holds no bit above its width. -/
theorem get_lt (s : State) (f : Field) : s.get f < 2 ^ (f.hi + 1 - f.lo) := Nat.mod_lt _ (Nat.two_pow_pos _)

/-! ### The units' parts -/

theorem pin_modPin (s : State) (t n : Nat) (f : PinSt → PinSt) (u m : Nat) :
    (s.modPin t n f).pin u m = if 8 * u + m = 8 * t + n then f (s.pin t n) else s.pin u m := tblGet_tblSet _ _ _ _ _

@[simp] theorem pin_modPin_same (s : State) (t n : Nat) (f : PinSt → PinSt) :
    (s.modPin t n f).pin t n = f (s.pin t n) := by
  rw [pin_modPin, if_pos rfl]

theorem tile_modTile (s : State) (t : Nat) (f : TileSt → TileSt) (u : Nat) :
    (s.modTile t f).tile u = if u = t then f (s.tile t) else s.tile u := tblGet_tblSet _ _ _ _ _

@[simp] theorem tile_modTile_same (s : State) (t : Nat) (f : TileSt → TileSt) :
    (s.modTile t f).tile t = f (s.tile t) := by
  rw [tile_modTile, if_pos rfl]

theorem port_modPort (s : State) (t : Nat) (f : PortSt → PortSt) (u : Nat) :
    (s.modPort t f).port u = if u = t then f (s.port t) else s.port u := tblGet_tblSet _ _ _ _ _

@[simp] theorem port_modPort_same (s : State) (t : Nat) (f : PortSt → PortSt) :
    (s.modPort t f).port t = f (s.port t) := by
  rw [port_modPort, if_pos rfl]

theorem stream_modStream (s : State) (t : Nat) (f : StreamSt → StreamSt) (u : Nat) :
    (s.modStream t f).stream u = if u = t then f (s.stream t) else s.stream u := tblGet_tblSet _ _ _ _ _

@[simp] theorem stream_modStream_same (s : State) (t : Nat) (f : StreamSt → StreamSt) :
    (s.modStream t f).stream t = f (s.stream t) := by
  rw [stream_modStream, if_pos rfl]

theorem ring_modRing (s : State) (t : Nat) (f : RingSt → RingSt) (u : Nat) :
    (s.modRing t f).ring u = if u = t then f (s.ring t) else s.ring u := tblGet_tblSet _ _ _ _ _

@[simp] theorem ring_modRing_same (s : State) (t : Nat) (f : RingSt → RingSt) :
    (s.modRing t f).ring t = f (s.ring t) := by
  rw [ring_modRing, if_pos rfl]

theorem eng_modEng (s : State) (t : Nat) (f : EngSt → EngSt) (u : Nat) :
    (s.modEng t f).eng u = if u = t then f (s.eng t) else s.eng u := tblGet_tblSet _ _ _ _ _

@[simp] theorem eng_modEng_same (s : State) (t : Nat) (f : EngSt → EngSt) :
    (s.modEng t f).eng t = f (s.eng t) := by
  rw [eng_modEng, if_pos rfl]

theorem cnt_modCnt (s : State) (t : Nat) (f : CntSt → CntSt) (u : Nat) :
    (s.modCnt t f).cnt u = if u = t then f (s.cnt t) else s.cnt u := tblGet_tblSet _ _ _ _ _

@[simp] theorem cnt_modCnt_same (s : State) (t : Nat) (f : CntSt → CntSt) :
    (s.modCnt t f).cnt t = f (s.cnt t) := by
  rw [cnt_modCnt, if_pos rfl]

theorem dma_modDma (s : State) (t n : Nat) (f : DmaSt → DmaSt) (u m : Nat) :
    (s.modDma t n f).dma u m = if 16 * u + m = 16 * t + n then f (s.dma t n) else s.dma u m := tblGet_tblSet _ _ _ _ _

@[simp] theorem dma_modDma_same (s : State) (t n : Nat) (f : DmaSt → DmaSt) :
    (s.modDma t n f).dma t n = f (s.dma t n) := by
  rw [dma_modDma, if_pos rfl]

/-! ### Words and parts under updates of other fields -/

@[simp] theorem pin_setWord (s : State) (a : Nat) (w : Word) (q z : Nat) : (s.setWord a w).pin q z = s.pin q z := rfl
@[simp] theorem tile_setWord (s : State) (a : Nat) (w : Word) (q : Nat) : (s.setWord a w).tile q = s.tile q := rfl
@[simp] theorem port_setWord (s : State) (a : Nat) (w : Word) (q : Nat) : (s.setWord a w).port q = s.port q := rfl
@[simp] theorem stream_setWord (s : State) (a : Nat) (w : Word) (q : Nat) : (s.setWord a w).stream q = s.stream q := rfl
@[simp] theorem ring_setWord (s : State) (a : Nat) (w : Word) (q : Nat) : (s.setWord a w).ring q = s.ring q := rfl
@[simp] theorem eng_setWord (s : State) (a : Nat) (w : Word) (q : Nat) : (s.setWord a w).eng q = s.eng q := rfl
@[simp] theorem cnt_setWord (s : State) (a : Nat) (w : Word) (q : Nat) : (s.setWord a w).cnt q = s.cnt q := rfl
@[simp] theorem dma_setWord (s : State) (a : Nat) (w : Word) (q z : Nat) : (s.setWord a w).dma q z = s.dma q z := rfl
@[simp] theorem pin_put (s : State) (f : Field) (v : Nat) (q z : Nat) : (s.put f v).pin q z = s.pin q z := rfl
@[simp] theorem tile_put (s : State) (f : Field) (v : Nat) (q : Nat) : (s.put f v).tile q = s.tile q := rfl
@[simp] theorem port_put (s : State) (f : Field) (v : Nat) (q : Nat) : (s.put f v).port q = s.port q := rfl
@[simp] theorem stream_put (s : State) (f : Field) (v : Nat) (q : Nat) : (s.put f v).stream q = s.stream q := rfl
@[simp] theorem ring_put (s : State) (f : Field) (v : Nat) (q : Nat) : (s.put f v).ring q = s.ring q := rfl
@[simp] theorem eng_put (s : State) (f : Field) (v : Nat) (q : Nat) : (s.put f v).eng q = s.eng q := rfl
@[simp] theorem cnt_put (s : State) (f : Field) (v : Nat) (q : Nat) : (s.put f v).cnt q = s.cnt q := rfl
@[simp] theorem dma_put (s : State) (f : Field) (v : Nat) (q z : Nat) : (s.put f v).dma q z = s.dma q z := rfl
@[simp] theorem pin_putB (s : State) (f : Field) (b : Bool) (q z : Nat) : (s.putB f b).pin q z = s.pin q z := rfl
@[simp] theorem tile_putB (s : State) (f : Field) (b : Bool) (q : Nat) : (s.putB f b).tile q = s.tile q := rfl
@[simp] theorem port_putB (s : State) (f : Field) (b : Bool) (q : Nat) : (s.putB f b).port q = s.port q := rfl
@[simp] theorem stream_putB (s : State) (f : Field) (b : Bool) (q : Nat) : (s.putB f b).stream q = s.stream q := rfl
@[simp] theorem ring_putB (s : State) (f : Field) (b : Bool) (q : Nat) : (s.putB f b).ring q = s.ring q := rfl
@[simp] theorem eng_putB (s : State) (f : Field) (b : Bool) (q : Nat) : (s.putB f b).eng q = s.eng q := rfl
@[simp] theorem cnt_putB (s : State) (f : Field) (b : Bool) (q : Nat) : (s.putB f b).cnt q = s.cnt q := rfl
@[simp] theorem dma_putB (s : State) (f : Field) (b : Bool) (q z : Nat) : (s.putB f b).dma q z = s.dma q z := rfl
@[simp] theorem pin_bump (s : State) (f : Field) (n : Nat) (q z : Nat) : (s.bump f n).pin q z = s.pin q z := rfl
@[simp] theorem tile_bump (s : State) (f : Field) (n : Nat) (q : Nat) : (s.bump f n).tile q = s.tile q := rfl
@[simp] theorem port_bump (s : State) (f : Field) (n : Nat) (q : Nat) : (s.bump f n).port q = s.port q := rfl
@[simp] theorem stream_bump (s : State) (f : Field) (n : Nat) (q : Nat) : (s.bump f n).stream q = s.stream q := rfl
@[simp] theorem ring_bump (s : State) (f : Field) (n : Nat) (q : Nat) : (s.bump f n).ring q = s.ring q := rfl
@[simp] theorem eng_bump (s : State) (f : Field) (n : Nat) (q : Nat) : (s.bump f n).eng q = s.eng q := rfl
@[simp] theorem cnt_bump (s : State) (f : Field) (n : Nat) (q : Nat) : (s.bump f n).cnt q = s.cnt q := rfl
@[simp] theorem dma_bump (s : State) (f : Field) (n : Nat) (q z : Nat) : (s.bump f n).dma q z = s.dma q z := rfl
@[simp] theorem pin_bumpSat (s : State) (f : Field) (n : Nat) (q z : Nat) : (s.bumpSat f n).pin q z = s.pin q z := rfl
@[simp] theorem tile_bumpSat (s : State) (f : Field) (n : Nat) (q : Nat) : (s.bumpSat f n).tile q = s.tile q := rfl
@[simp] theorem port_bumpSat (s : State) (f : Field) (n : Nat) (q : Nat) : (s.bumpSat f n).port q = s.port q := rfl
@[simp] theorem stream_bumpSat (s : State) (f : Field) (n : Nat) (q : Nat) : (s.bumpSat f n).stream q = s.stream q := rfl
@[simp] theorem ring_bumpSat (s : State) (f : Field) (n : Nat) (q : Nat) : (s.bumpSat f n).ring q = s.ring q := rfl
@[simp] theorem eng_bumpSat (s : State) (f : Field) (n : Nat) (q : Nat) : (s.bumpSat f n).eng q = s.eng q := rfl
@[simp] theorem cnt_bumpSat (s : State) (f : Field) (n : Nat) (q : Nat) : (s.bumpSat f n).cnt q = s.cnt q := rfl
@[simp] theorem dma_bumpSat (s : State) (f : Field) (n : Nat) (q z : Nat) : (s.bumpSat f n).dma q z = s.dma q z := rfl
@[simp] theorem pin_putIdx (s : State) (f : Field) (k : Nat) (b : Bool) (q z : Nat) : (s.putIdx f k b).pin q z = s.pin q z := rfl
@[simp] theorem tile_putIdx (s : State) (f : Field) (k : Nat) (b : Bool) (q : Nat) : (s.putIdx f k b).tile q = s.tile q := rfl
@[simp] theorem port_putIdx (s : State) (f : Field) (k : Nat) (b : Bool) (q : Nat) : (s.putIdx f k b).port q = s.port q := rfl
@[simp] theorem stream_putIdx (s : State) (f : Field) (k : Nat) (b : Bool) (q : Nat) : (s.putIdx f k b).stream q = s.stream q := rfl
@[simp] theorem ring_putIdx (s : State) (f : Field) (k : Nat) (b : Bool) (q : Nat) : (s.putIdx f k b).ring q = s.ring q := rfl
@[simp] theorem eng_putIdx (s : State) (f : Field) (k : Nat) (b : Bool) (q : Nat) : (s.putIdx f k b).eng q = s.eng q := rfl
@[simp] theorem cnt_putIdx (s : State) (f : Field) (k : Nat) (b : Bool) (q : Nat) : (s.putIdx f k b).cnt q = s.cnt q := rfl
@[simp] theorem dma_putIdx (s : State) (f : Field) (k : Nat) (b : Bool) (q z : Nat) : (s.putIdx f k b).dma q z = s.dma q z := rfl
@[simp] theorem word_stageWord (s : State) (a : Nat) (w : Word) (q : Nat) : (s.stageWord a w).word q = s.word q := rfl
@[simp] theorem get_stageWord (s : State) (a : Nat) (w : Word) (q : Field) : (s.stageWord a w).get q = s.get q := rfl
@[simp] theorem bit_stageWord (s : State) (a : Nat) (w : Word) (q : Field) : (s.stageWord a w).bit q = s.bit q := rfl
@[simp] theorem pin_stageWord (s : State) (a : Nat) (w : Word) (q z : Nat) : (s.stageWord a w).pin q z = s.pin q z := rfl
@[simp] theorem tile_stageWord (s : State) (a : Nat) (w : Word) (q : Nat) : (s.stageWord a w).tile q = s.tile q := rfl
@[simp] theorem port_stageWord (s : State) (a : Nat) (w : Word) (q : Nat) : (s.stageWord a w).port q = s.port q := rfl
@[simp] theorem stream_stageWord (s : State) (a : Nat) (w : Word) (q : Nat) : (s.stageWord a w).stream q = s.stream q := rfl
@[simp] theorem ring_stageWord (s : State) (a : Nat) (w : Word) (q : Nat) : (s.stageWord a w).ring q = s.ring q := rfl
@[simp] theorem eng_stageWord (s : State) (a : Nat) (w : Word) (q : Nat) : (s.stageWord a w).eng q = s.eng q := rfl
@[simp] theorem cnt_stageWord (s : State) (a : Nat) (w : Word) (q : Nat) : (s.stageWord a w).cnt q = s.cnt q := rfl
@[simp] theorem dma_stageWord (s : State) (a : Nat) (w : Word) (q z : Nat) : (s.stageWord a w).dma q z = s.dma q z := rfl
@[simp] theorem word_dropStaged (s : State) (a : Nat) (q : Nat) : (s.dropStaged a).word q = s.word q := rfl
@[simp] theorem get_dropStaged (s : State) (a : Nat) (q : Field) : (s.dropStaged a).get q = s.get q := rfl
@[simp] theorem bit_dropStaged (s : State) (a : Nat) (q : Field) : (s.dropStaged a).bit q = s.bit q := rfl
@[simp] theorem pin_dropStaged (s : State) (a : Nat) (q z : Nat) : (s.dropStaged a).pin q z = s.pin q z := rfl
@[simp] theorem tile_dropStaged (s : State) (a : Nat) (q : Nat) : (s.dropStaged a).tile q = s.tile q := rfl
@[simp] theorem port_dropStaged (s : State) (a : Nat) (q : Nat) : (s.dropStaged a).port q = s.port q := rfl
@[simp] theorem stream_dropStaged (s : State) (a : Nat) (q : Nat) : (s.dropStaged a).stream q = s.stream q := rfl
@[simp] theorem ring_dropStaged (s : State) (a : Nat) (q : Nat) : (s.dropStaged a).ring q = s.ring q := rfl
@[simp] theorem eng_dropStaged (s : State) (a : Nat) (q : Nat) : (s.dropStaged a).eng q = s.eng q := rfl
@[simp] theorem cnt_dropStaged (s : State) (a : Nat) (q : Nat) : (s.dropStaged a).cnt q = s.cnt q := rfl
@[simp] theorem dma_dropStaged (s : State) (a : Nat) (q z : Nat) : (s.dropStaged a).dma q z = s.dma q z := rfl
@[simp] theorem pin_resetRange (s : State) (lo hi : Nat) (q z : Nat) : (s.resetRange lo hi).pin q z = s.pin q z := rfl
@[simp] theorem tile_resetRange (s : State) (lo hi : Nat) (q : Nat) : (s.resetRange lo hi).tile q = s.tile q := rfl
@[simp] theorem port_resetRange (s : State) (lo hi : Nat) (q : Nat) : (s.resetRange lo hi).port q = s.port q := rfl
@[simp] theorem stream_resetRange (s : State) (lo hi : Nat) (q : Nat) : (s.resetRange lo hi).stream q = s.stream q := rfl
@[simp] theorem ring_resetRange (s : State) (lo hi : Nat) (q : Nat) : (s.resetRange lo hi).ring q = s.ring q := rfl
@[simp] theorem eng_resetRange (s : State) (lo hi : Nat) (q : Nat) : (s.resetRange lo hi).eng q = s.eng q := rfl
@[simp] theorem cnt_resetRange (s : State) (lo hi : Nat) (q : Nat) : (s.resetRange lo hi).cnt q = s.cnt q := rfl
@[simp] theorem dma_resetRange (s : State) (lo hi : Nat) (q z : Nat) : (s.resetRange lo hi).dma q z = s.dma q z := rfl
@[simp] theorem word_setPin (s : State) (t n : Nat) (p : PinSt) (q : Nat) : (s.setPin t n p).word q = s.word q := rfl
@[simp] theorem get_setPin (s : State) (t n : Nat) (p : PinSt) (q : Field) : (s.setPin t n p).get q = s.get q := rfl
@[simp] theorem bit_setPin (s : State) (t n : Nat) (p : PinSt) (q : Field) : (s.setPin t n p).bit q = s.bit q := rfl
@[simp] theorem tile_setPin (s : State) (t n : Nat) (p : PinSt) (q : Nat) : (s.setPin t n p).tile q = s.tile q := rfl
@[simp] theorem port_setPin (s : State) (t n : Nat) (p : PinSt) (q : Nat) : (s.setPin t n p).port q = s.port q := rfl
@[simp] theorem stream_setPin (s : State) (t n : Nat) (p : PinSt) (q : Nat) : (s.setPin t n p).stream q = s.stream q := rfl
@[simp] theorem ring_setPin (s : State) (t n : Nat) (p : PinSt) (q : Nat) : (s.setPin t n p).ring q = s.ring q := rfl
@[simp] theorem eng_setPin (s : State) (t n : Nat) (p : PinSt) (q : Nat) : (s.setPin t n p).eng q = s.eng q := rfl
@[simp] theorem cnt_setPin (s : State) (t n : Nat) (p : PinSt) (q : Nat) : (s.setPin t n p).cnt q = s.cnt q := rfl
@[simp] theorem dma_setPin (s : State) (t n : Nat) (p : PinSt) (q z : Nat) : (s.setPin t n p).dma q z = s.dma q z := rfl
@[simp] theorem word_modPin (s : State) (t n : Nat) (f : PinSt → PinSt) (q : Nat) : (s.modPin t n f).word q = s.word q := rfl
@[simp] theorem get_modPin (s : State) (t n : Nat) (f : PinSt → PinSt) (q : Field) : (s.modPin t n f).get q = s.get q := rfl
@[simp] theorem bit_modPin (s : State) (t n : Nat) (f : PinSt → PinSt) (q : Field) : (s.modPin t n f).bit q = s.bit q := rfl
@[simp] theorem tile_modPin (s : State) (t n : Nat) (f : PinSt → PinSt) (q : Nat) : (s.modPin t n f).tile q = s.tile q := rfl
@[simp] theorem port_modPin (s : State) (t n : Nat) (f : PinSt → PinSt) (q : Nat) : (s.modPin t n f).port q = s.port q := rfl
@[simp] theorem stream_modPin (s : State) (t n : Nat) (f : PinSt → PinSt) (q : Nat) : (s.modPin t n f).stream q = s.stream q := rfl
@[simp] theorem ring_modPin (s : State) (t n : Nat) (f : PinSt → PinSt) (q : Nat) : (s.modPin t n f).ring q = s.ring q := rfl
@[simp] theorem eng_modPin (s : State) (t n : Nat) (f : PinSt → PinSt) (q : Nat) : (s.modPin t n f).eng q = s.eng q := rfl
@[simp] theorem cnt_modPin (s : State) (t n : Nat) (f : PinSt → PinSt) (q : Nat) : (s.modPin t n f).cnt q = s.cnt q := rfl
@[simp] theorem dma_modPin (s : State) (t n : Nat) (f : PinSt → PinSt) (q z : Nat) : (s.modPin t n f).dma q z = s.dma q z := rfl
@[simp] theorem word_setTile (s : State) (t : Nat) (x : TileSt) (q : Nat) : (s.setTile t x).word q = s.word q := rfl
@[simp] theorem get_setTile (s : State) (t : Nat) (x : TileSt) (q : Field) : (s.setTile t x).get q = s.get q := rfl
@[simp] theorem bit_setTile (s : State) (t : Nat) (x : TileSt) (q : Field) : (s.setTile t x).bit q = s.bit q := rfl
@[simp] theorem pin_setTile (s : State) (t : Nat) (x : TileSt) (q z : Nat) : (s.setTile t x).pin q z = s.pin q z := rfl
@[simp] theorem port_setTile (s : State) (t : Nat) (x : TileSt) (q : Nat) : (s.setTile t x).port q = s.port q := rfl
@[simp] theorem stream_setTile (s : State) (t : Nat) (x : TileSt) (q : Nat) : (s.setTile t x).stream q = s.stream q := rfl
@[simp] theorem ring_setTile (s : State) (t : Nat) (x : TileSt) (q : Nat) : (s.setTile t x).ring q = s.ring q := rfl
@[simp] theorem eng_setTile (s : State) (t : Nat) (x : TileSt) (q : Nat) : (s.setTile t x).eng q = s.eng q := rfl
@[simp] theorem cnt_setTile (s : State) (t : Nat) (x : TileSt) (q : Nat) : (s.setTile t x).cnt q = s.cnt q := rfl
@[simp] theorem dma_setTile (s : State) (t : Nat) (x : TileSt) (q z : Nat) : (s.setTile t x).dma q z = s.dma q z := rfl
@[simp] theorem word_modTile (s : State) (t : Nat) (f : TileSt → TileSt) (q : Nat) : (s.modTile t f).word q = s.word q := rfl
@[simp] theorem get_modTile (s : State) (t : Nat) (f : TileSt → TileSt) (q : Field) : (s.modTile t f).get q = s.get q := rfl
@[simp] theorem bit_modTile (s : State) (t : Nat) (f : TileSt → TileSt) (q : Field) : (s.modTile t f).bit q = s.bit q := rfl
@[simp] theorem pin_modTile (s : State) (t : Nat) (f : TileSt → TileSt) (q z : Nat) : (s.modTile t f).pin q z = s.pin q z := rfl
@[simp] theorem port_modTile (s : State) (t : Nat) (f : TileSt → TileSt) (q : Nat) : (s.modTile t f).port q = s.port q := rfl
@[simp] theorem stream_modTile (s : State) (t : Nat) (f : TileSt → TileSt) (q : Nat) : (s.modTile t f).stream q = s.stream q := rfl
@[simp] theorem ring_modTile (s : State) (t : Nat) (f : TileSt → TileSt) (q : Nat) : (s.modTile t f).ring q = s.ring q := rfl
@[simp] theorem eng_modTile (s : State) (t : Nat) (f : TileSt → TileSt) (q : Nat) : (s.modTile t f).eng q = s.eng q := rfl
@[simp] theorem cnt_modTile (s : State) (t : Nat) (f : TileSt → TileSt) (q : Nat) : (s.modTile t f).cnt q = s.cnt q := rfl
@[simp] theorem dma_modTile (s : State) (t : Nat) (f : TileSt → TileSt) (q z : Nat) : (s.modTile t f).dma q z = s.dma q z := rfl
@[simp] theorem word_setPort (s : State) (p : Nat) (x : PortSt) (q : Nat) : (s.setPort p x).word q = s.word q := rfl
@[simp] theorem get_setPort (s : State) (p : Nat) (x : PortSt) (q : Field) : (s.setPort p x).get q = s.get q := rfl
@[simp] theorem bit_setPort (s : State) (p : Nat) (x : PortSt) (q : Field) : (s.setPort p x).bit q = s.bit q := rfl
@[simp] theorem pin_setPort (s : State) (p : Nat) (x : PortSt) (q z : Nat) : (s.setPort p x).pin q z = s.pin q z := rfl
@[simp] theorem tile_setPort (s : State) (p : Nat) (x : PortSt) (q : Nat) : (s.setPort p x).tile q = s.tile q := rfl
@[simp] theorem stream_setPort (s : State) (p : Nat) (x : PortSt) (q : Nat) : (s.setPort p x).stream q = s.stream q := rfl
@[simp] theorem ring_setPort (s : State) (p : Nat) (x : PortSt) (q : Nat) : (s.setPort p x).ring q = s.ring q := rfl
@[simp] theorem eng_setPort (s : State) (p : Nat) (x : PortSt) (q : Nat) : (s.setPort p x).eng q = s.eng q := rfl
@[simp] theorem cnt_setPort (s : State) (p : Nat) (x : PortSt) (q : Nat) : (s.setPort p x).cnt q = s.cnt q := rfl
@[simp] theorem dma_setPort (s : State) (p : Nat) (x : PortSt) (q z : Nat) : (s.setPort p x).dma q z = s.dma q z := rfl
@[simp] theorem word_modPort (s : State) (p : Nat) (f : PortSt → PortSt) (q : Nat) : (s.modPort p f).word q = s.word q := rfl
@[simp] theorem get_modPort (s : State) (p : Nat) (f : PortSt → PortSt) (q : Field) : (s.modPort p f).get q = s.get q := rfl
@[simp] theorem bit_modPort (s : State) (p : Nat) (f : PortSt → PortSt) (q : Field) : (s.modPort p f).bit q = s.bit q := rfl
@[simp] theorem pin_modPort (s : State) (p : Nat) (f : PortSt → PortSt) (q z : Nat) : (s.modPort p f).pin q z = s.pin q z := rfl
@[simp] theorem tile_modPort (s : State) (p : Nat) (f : PortSt → PortSt) (q : Nat) : (s.modPort p f).tile q = s.tile q := rfl
@[simp] theorem stream_modPort (s : State) (p : Nat) (f : PortSt → PortSt) (q : Nat) : (s.modPort p f).stream q = s.stream q := rfl
@[simp] theorem ring_modPort (s : State) (p : Nat) (f : PortSt → PortSt) (q : Nat) : (s.modPort p f).ring q = s.ring q := rfl
@[simp] theorem eng_modPort (s : State) (p : Nat) (f : PortSt → PortSt) (q : Nat) : (s.modPort p f).eng q = s.eng q := rfl
@[simp] theorem cnt_modPort (s : State) (p : Nat) (f : PortSt → PortSt) (q : Nat) : (s.modPort p f).cnt q = s.cnt q := rfl
@[simp] theorem dma_modPort (s : State) (p : Nat) (f : PortSt → PortSt) (q z : Nat) : (s.modPort p f).dma q z = s.dma q z := rfl
@[simp] theorem word_setStream (s : State) (k : Nat) (x : StreamSt) (q : Nat) : (s.setStream k x).word q = s.word q := rfl
@[simp] theorem get_setStream (s : State) (k : Nat) (x : StreamSt) (q : Field) : (s.setStream k x).get q = s.get q := rfl
@[simp] theorem bit_setStream (s : State) (k : Nat) (x : StreamSt) (q : Field) : (s.setStream k x).bit q = s.bit q := rfl
@[simp] theorem pin_setStream (s : State) (k : Nat) (x : StreamSt) (q z : Nat) : (s.setStream k x).pin q z = s.pin q z := rfl
@[simp] theorem tile_setStream (s : State) (k : Nat) (x : StreamSt) (q : Nat) : (s.setStream k x).tile q = s.tile q := rfl
@[simp] theorem port_setStream (s : State) (k : Nat) (x : StreamSt) (q : Nat) : (s.setStream k x).port q = s.port q := rfl
@[simp] theorem eng_setStream (s : State) (k : Nat) (x : StreamSt) (q : Nat) : (s.setStream k x).eng q = s.eng q := rfl
@[simp] theorem cnt_setStream (s : State) (k : Nat) (x : StreamSt) (q : Nat) : (s.setStream k x).cnt q = s.cnt q := rfl
@[simp] theorem dma_setStream (s : State) (k : Nat) (x : StreamSt) (q z : Nat) : (s.setStream k x).dma q z = s.dma q z := rfl
@[simp] theorem word_modStream (s : State) (k : Nat) (f : StreamSt → StreamSt) (q : Nat) : (s.modStream k f).word q = s.word q := rfl
@[simp] theorem get_modStream (s : State) (k : Nat) (f : StreamSt → StreamSt) (q : Field) : (s.modStream k f).get q = s.get q := rfl
@[simp] theorem bit_modStream (s : State) (k : Nat) (f : StreamSt → StreamSt) (q : Field) : (s.modStream k f).bit q = s.bit q := rfl
@[simp] theorem pin_modStream (s : State) (k : Nat) (f : StreamSt → StreamSt) (q z : Nat) : (s.modStream k f).pin q z = s.pin q z := rfl
@[simp] theorem tile_modStream (s : State) (k : Nat) (f : StreamSt → StreamSt) (q : Nat) : (s.modStream k f).tile q = s.tile q := rfl
@[simp] theorem port_modStream (s : State) (k : Nat) (f : StreamSt → StreamSt) (q : Nat) : (s.modStream k f).port q = s.port q := rfl
@[simp] theorem eng_modStream (s : State) (k : Nat) (f : StreamSt → StreamSt) (q : Nat) : (s.modStream k f).eng q = s.eng q := rfl
@[simp] theorem cnt_modStream (s : State) (k : Nat) (f : StreamSt → StreamSt) (q : Nat) : (s.modStream k f).cnt q = s.cnt q := rfl
@[simp] theorem dma_modStream (s : State) (k : Nat) (f : StreamSt → StreamSt) (q z : Nat) : (s.modStream k f).dma q z = s.dma q z := rfl
@[simp] theorem word_setRing (s : State) (r : Nat) (x : RingSt) (q : Nat) : (s.setRing r x).word q = s.word q := rfl
@[simp] theorem get_setRing (s : State) (r : Nat) (x : RingSt) (q : Field) : (s.setRing r x).get q = s.get q := rfl
@[simp] theorem bit_setRing (s : State) (r : Nat) (x : RingSt) (q : Field) : (s.setRing r x).bit q = s.bit q := rfl
@[simp] theorem pin_setRing (s : State) (r : Nat) (x : RingSt) (q z : Nat) : (s.setRing r x).pin q z = s.pin q z := rfl
@[simp] theorem tile_setRing (s : State) (r : Nat) (x : RingSt) (q : Nat) : (s.setRing r x).tile q = s.tile q := rfl
@[simp] theorem port_setRing (s : State) (r : Nat) (x : RingSt) (q : Nat) : (s.setRing r x).port q = s.port q := rfl
@[simp] theorem eng_setRing (s : State) (r : Nat) (x : RingSt) (q : Nat) : (s.setRing r x).eng q = s.eng q := rfl
@[simp] theorem cnt_setRing (s : State) (r : Nat) (x : RingSt) (q : Nat) : (s.setRing r x).cnt q = s.cnt q := rfl
@[simp] theorem dma_setRing (s : State) (r : Nat) (x : RingSt) (q z : Nat) : (s.setRing r x).dma q z = s.dma q z := rfl
@[simp] theorem word_modRing (s : State) (r : Nat) (f : RingSt → RingSt) (q : Nat) : (s.modRing r f).word q = s.word q := rfl
@[simp] theorem get_modRing (s : State) (r : Nat) (f : RingSt → RingSt) (q : Field) : (s.modRing r f).get q = s.get q := rfl
@[simp] theorem bit_modRing (s : State) (r : Nat) (f : RingSt → RingSt) (q : Field) : (s.modRing r f).bit q = s.bit q := rfl
@[simp] theorem pin_modRing (s : State) (r : Nat) (f : RingSt → RingSt) (q z : Nat) : (s.modRing r f).pin q z = s.pin q z := rfl
@[simp] theorem tile_modRing (s : State) (r : Nat) (f : RingSt → RingSt) (q : Nat) : (s.modRing r f).tile q = s.tile q := rfl
@[simp] theorem port_modRing (s : State) (r : Nat) (f : RingSt → RingSt) (q : Nat) : (s.modRing r f).port q = s.port q := rfl
@[simp] theorem eng_modRing (s : State) (r : Nat) (f : RingSt → RingSt) (q : Nat) : (s.modRing r f).eng q = s.eng q := rfl
@[simp] theorem cnt_modRing (s : State) (r : Nat) (f : RingSt → RingSt) (q : Nat) : (s.modRing r f).cnt q = s.cnt q := rfl
@[simp] theorem dma_modRing (s : State) (r : Nat) (f : RingSt → RingSt) (q z : Nat) : (s.modRing r f).dma q z = s.dma q z := rfl
@[simp] theorem word_setFlights (s : State) (l : List Flight) (q : Nat) : (s.setFlights l).word q = s.word q := rfl
@[simp] theorem get_setFlights (s : State) (l : List Flight) (q : Field) : (s.setFlights l).get q = s.get q := rfl
@[simp] theorem bit_setFlights (s : State) (l : List Flight) (q : Field) : (s.setFlights l).bit q = s.bit q := rfl
@[simp] theorem pin_setFlights (s : State) (l : List Flight) (q z : Nat) : (s.setFlights l).pin q z = s.pin q z := rfl
@[simp] theorem tile_setFlights (s : State) (l : List Flight) (q : Nat) : (s.setFlights l).tile q = s.tile q := rfl
@[simp] theorem port_setFlights (s : State) (l : List Flight) (q : Nat) : (s.setFlights l).port q = s.port q := rfl
@[simp] theorem eng_setFlights (s : State) (l : List Flight) (q : Nat) : (s.setFlights l).eng q = s.eng q := rfl
@[simp] theorem cnt_setFlights (s : State) (l : List Flight) (q : Nat) : (s.setFlights l).cnt q = s.cnt q := rfl
@[simp] theorem dma_setFlights (s : State) (l : List Flight) (q z : Nat) : (s.setFlights l).dma q z = s.dma q z := rfl
@[simp] theorem word_setEng (s : State) (e : Nat) (x : EngSt) (q : Nat) : (s.setEng e x).word q = s.word q := rfl
@[simp] theorem get_setEng (s : State) (e : Nat) (x : EngSt) (q : Field) : (s.setEng e x).get q = s.get q := rfl
@[simp] theorem bit_setEng (s : State) (e : Nat) (x : EngSt) (q : Field) : (s.setEng e x).bit q = s.bit q := rfl
@[simp] theorem pin_setEng (s : State) (e : Nat) (x : EngSt) (q z : Nat) : (s.setEng e x).pin q z = s.pin q z := rfl
@[simp] theorem tile_setEng (s : State) (e : Nat) (x : EngSt) (q : Nat) : (s.setEng e x).tile q = s.tile q := rfl
@[simp] theorem port_setEng (s : State) (e : Nat) (x : EngSt) (q : Nat) : (s.setEng e x).port q = s.port q := rfl
@[simp] theorem stream_setEng (s : State) (e : Nat) (x : EngSt) (q : Nat) : (s.setEng e x).stream q = s.stream q := rfl
@[simp] theorem ring_setEng (s : State) (e : Nat) (x : EngSt) (q : Nat) : (s.setEng e x).ring q = s.ring q := rfl
@[simp] theorem cnt_setEng (s : State) (e : Nat) (x : EngSt) (q : Nat) : (s.setEng e x).cnt q = s.cnt q := rfl
@[simp] theorem dma_setEng (s : State) (e : Nat) (x : EngSt) (q z : Nat) : (s.setEng e x).dma q z = s.dma q z := rfl
@[simp] theorem word_modEng (s : State) (e : Nat) (f : EngSt → EngSt) (q : Nat) : (s.modEng e f).word q = s.word q := rfl
@[simp] theorem get_modEng (s : State) (e : Nat) (f : EngSt → EngSt) (q : Field) : (s.modEng e f).get q = s.get q := rfl
@[simp] theorem bit_modEng (s : State) (e : Nat) (f : EngSt → EngSt) (q : Field) : (s.modEng e f).bit q = s.bit q := rfl
@[simp] theorem pin_modEng (s : State) (e : Nat) (f : EngSt → EngSt) (q z : Nat) : (s.modEng e f).pin q z = s.pin q z := rfl
@[simp] theorem tile_modEng (s : State) (e : Nat) (f : EngSt → EngSt) (q : Nat) : (s.modEng e f).tile q = s.tile q := rfl
@[simp] theorem port_modEng (s : State) (e : Nat) (f : EngSt → EngSt) (q : Nat) : (s.modEng e f).port q = s.port q := rfl
@[simp] theorem stream_modEng (s : State) (e : Nat) (f : EngSt → EngSt) (q : Nat) : (s.modEng e f).stream q = s.stream q := rfl
@[simp] theorem ring_modEng (s : State) (e : Nat) (f : EngSt → EngSt) (q : Nat) : (s.modEng e f).ring q = s.ring q := rfl
@[simp] theorem cnt_modEng (s : State) (e : Nat) (f : EngSt → EngSt) (q : Nat) : (s.modEng e f).cnt q = s.cnt q := rfl
@[simp] theorem dma_modEng (s : State) (e : Nat) (f : EngSt → EngSt) (q z : Nat) : (s.modEng e f).dma q z = s.dma q z := rfl
@[simp] theorem word_setDma (s : State) (c j : Nat) (x : DmaSt) (q : Nat) : (s.setDma c j x).word q = s.word q := rfl
@[simp] theorem get_setDma (s : State) (c j : Nat) (x : DmaSt) (q : Field) : (s.setDma c j x).get q = s.get q := rfl
@[simp] theorem bit_setDma (s : State) (c j : Nat) (x : DmaSt) (q : Field) : (s.setDma c j x).bit q = s.bit q := rfl
@[simp] theorem pin_setDma (s : State) (c j : Nat) (x : DmaSt) (q z : Nat) : (s.setDma c j x).pin q z = s.pin q z := rfl
@[simp] theorem tile_setDma (s : State) (c j : Nat) (x : DmaSt) (q : Nat) : (s.setDma c j x).tile q = s.tile q := rfl
@[simp] theorem port_setDma (s : State) (c j : Nat) (x : DmaSt) (q : Nat) : (s.setDma c j x).port q = s.port q := rfl
@[simp] theorem stream_setDma (s : State) (c j : Nat) (x : DmaSt) (q : Nat) : (s.setDma c j x).stream q = s.stream q := rfl
@[simp] theorem ring_setDma (s : State) (c j : Nat) (x : DmaSt) (q : Nat) : (s.setDma c j x).ring q = s.ring q := rfl
@[simp] theorem eng_setDma (s : State) (c j : Nat) (x : DmaSt) (q : Nat) : (s.setDma c j x).eng q = s.eng q := rfl
@[simp] theorem cnt_setDma (s : State) (c j : Nat) (x : DmaSt) (q : Nat) : (s.setDma c j x).cnt q = s.cnt q := rfl
@[simp] theorem word_modDma (s : State) (c j : Nat) (f : DmaSt → DmaSt) (q : Nat) : (s.modDma c j f).word q = s.word q := rfl
@[simp] theorem get_modDma (s : State) (c j : Nat) (f : DmaSt → DmaSt) (q : Field) : (s.modDma c j f).get q = s.get q := rfl
@[simp] theorem bit_modDma (s : State) (c j : Nat) (f : DmaSt → DmaSt) (q : Field) : (s.modDma c j f).bit q = s.bit q := rfl
@[simp] theorem pin_modDma (s : State) (c j : Nat) (f : DmaSt → DmaSt) (q z : Nat) : (s.modDma c j f).pin q z = s.pin q z := rfl
@[simp] theorem tile_modDma (s : State) (c j : Nat) (f : DmaSt → DmaSt) (q : Nat) : (s.modDma c j f).tile q = s.tile q := rfl
@[simp] theorem port_modDma (s : State) (c j : Nat) (f : DmaSt → DmaSt) (q : Nat) : (s.modDma c j f).port q = s.port q := rfl
@[simp] theorem stream_modDma (s : State) (c j : Nat) (f : DmaSt → DmaSt) (q : Nat) : (s.modDma c j f).stream q = s.stream q := rfl
@[simp] theorem ring_modDma (s : State) (c j : Nat) (f : DmaSt → DmaSt) (q : Nat) : (s.modDma c j f).ring q = s.ring q := rfl
@[simp] theorem eng_modDma (s : State) (c j : Nat) (f : DmaSt → DmaSt) (q : Nat) : (s.modDma c j f).eng q = s.eng q := rfl
@[simp] theorem cnt_modDma (s : State) (c j : Nat) (f : DmaSt → DmaSt) (q : Nat) : (s.modDma c j f).cnt q = s.cnt q := rfl
@[simp] theorem word_setCnt (s : State) (b : Nat) (x : CntSt) (q : Nat) : (s.setCnt b x).word q = s.word q := rfl
@[simp] theorem get_setCnt (s : State) (b : Nat) (x : CntSt) (q : Field) : (s.setCnt b x).get q = s.get q := rfl
@[simp] theorem bit_setCnt (s : State) (b : Nat) (x : CntSt) (q : Field) : (s.setCnt b x).bit q = s.bit q := rfl
@[simp] theorem pin_setCnt (s : State) (b : Nat) (x : CntSt) (q z : Nat) : (s.setCnt b x).pin q z = s.pin q z := rfl
@[simp] theorem tile_setCnt (s : State) (b : Nat) (x : CntSt) (q : Nat) : (s.setCnt b x).tile q = s.tile q := rfl
@[simp] theorem port_setCnt (s : State) (b : Nat) (x : CntSt) (q : Nat) : (s.setCnt b x).port q = s.port q := rfl
@[simp] theorem stream_setCnt (s : State) (b : Nat) (x : CntSt) (q : Nat) : (s.setCnt b x).stream q = s.stream q := rfl
@[simp] theorem ring_setCnt (s : State) (b : Nat) (x : CntSt) (q : Nat) : (s.setCnt b x).ring q = s.ring q := rfl
@[simp] theorem eng_setCnt (s : State) (b : Nat) (x : CntSt) (q : Nat) : (s.setCnt b x).eng q = s.eng q := rfl
@[simp] theorem dma_setCnt (s : State) (b : Nat) (x : CntSt) (q z : Nat) : (s.setCnt b x).dma q z = s.dma q z := rfl
@[simp] theorem word_modCnt (s : State) (b : Nat) (f : CntSt → CntSt) (q : Nat) : (s.modCnt b f).word q = s.word q := rfl
@[simp] theorem get_modCnt (s : State) (b : Nat) (f : CntSt → CntSt) (q : Field) : (s.modCnt b f).get q = s.get q := rfl
@[simp] theorem bit_modCnt (s : State) (b : Nat) (f : CntSt → CntSt) (q : Field) : (s.modCnt b f).bit q = s.bit q := rfl
@[simp] theorem pin_modCnt (s : State) (b : Nat) (f : CntSt → CntSt) (q z : Nat) : (s.modCnt b f).pin q z = s.pin q z := rfl
@[simp] theorem tile_modCnt (s : State) (b : Nat) (f : CntSt → CntSt) (q : Nat) : (s.modCnt b f).tile q = s.tile q := rfl
@[simp] theorem port_modCnt (s : State) (b : Nat) (f : CntSt → CntSt) (q : Nat) : (s.modCnt b f).port q = s.port q := rfl
@[simp] theorem stream_modCnt (s : State) (b : Nat) (f : CntSt → CntSt) (q : Nat) : (s.modCnt b f).stream q = s.stream q := rfl
@[simp] theorem ring_modCnt (s : State) (b : Nat) (f : CntSt → CntSt) (q : Nat) : (s.modCnt b f).ring q = s.ring q := rfl
@[simp] theorem eng_modCnt (s : State) (b : Nat) (f : CntSt → CntSt) (q : Nat) : (s.modCnt b f).eng q = s.eng q := rfl
@[simp] theorem dma_modCnt (s : State) (b : Nat) (f : CntSt → CntSt) (q z : Nat) : (s.modCnt b f).dma q z = s.dma q z := rfl
@[simp] theorem word_modGio (s : State) (g : Nat) (f : GioOut → GioOut) (q : Nat) : (s.modGio g f).word q = s.word q := rfl
@[simp] theorem get_modGio (s : State) (g : Nat) (f : GioOut → GioOut) (q : Field) : (s.modGio g f).get q = s.get q := rfl
@[simp] theorem bit_modGio (s : State) (g : Nat) (f : GioOut → GioOut) (q : Field) : (s.modGio g f).bit q = s.bit q := rfl
@[simp] theorem pin_modGio (s : State) (g : Nat) (f : GioOut → GioOut) (q z : Nat) : (s.modGio g f).pin q z = s.pin q z := rfl
@[simp] theorem tile_modGio (s : State) (g : Nat) (f : GioOut → GioOut) (q : Nat) : (s.modGio g f).tile q = s.tile q := rfl
@[simp] theorem port_modGio (s : State) (g : Nat) (f : GioOut → GioOut) (q : Nat) : (s.modGio g f).port q = s.port q := rfl
@[simp] theorem stream_modGio (s : State) (g : Nat) (f : GioOut → GioOut) (q : Nat) : (s.modGio g f).stream q = s.stream q := rfl
@[simp] theorem ring_modGio (s : State) (g : Nat) (f : GioOut → GioOut) (q : Nat) : (s.modGio g f).ring q = s.ring q := rfl
@[simp] theorem eng_modGio (s : State) (g : Nat) (f : GioOut → GioOut) (q : Nat) : (s.modGio g f).eng q = s.eng q := rfl
@[simp] theorem dma_modGio (s : State) (g : Nat) (f : GioOut → GioOut) (q z : Nat) : (s.modGio g f).dma q z = s.dma q z := rfl
@[simp] theorem word_answer (s : State) (w : Word) (q : Nat) : (s.answer w).word q = s.word q := rfl
@[simp] theorem get_answer (s : State) (w : Word) (q : Field) : (s.answer w).get q = s.get q := rfl
@[simp] theorem bit_answer (s : State) (w : Word) (q : Field) : (s.answer w).bit q = s.bit q := rfl
@[simp] theorem pin_answer (s : State) (w : Word) (q z : Nat) : (s.answer w).pin q z = s.pin q z := rfl
@[simp] theorem tile_answer (s : State) (w : Word) (q : Nat) : (s.answer w).tile q = s.tile q := rfl
@[simp] theorem port_answer (s : State) (w : Word) (q : Nat) : (s.answer w).port q = s.port q := rfl
@[simp] theorem stream_answer (s : State) (w : Word) (q : Nat) : (s.answer w).stream q = s.stream q := rfl
@[simp] theorem ring_answer (s : State) (w : Word) (q : Nat) : (s.answer w).ring q = s.ring q := rfl
@[simp] theorem eng_answer (s : State) (w : Word) (q : Nat) : (s.answer w).eng q = s.eng q := rfl
@[simp] theorem cnt_answer (s : State) (w : Word) (q : Nat) : (s.answer w).cnt q = s.cnt q := rfl
@[simp] theorem dma_answer (s : State) (w : Word) (q z : Nat) : (s.answer w).dma q z = s.dma q z := rfl
@[simp] theorem pin_readClear (s : State) (f : Field) (q z : Nat) : (s.readClear f).pin q z = s.pin q z := rfl
@[simp] theorem tile_readClear (s : State) (f : Field) (q : Nat) : (s.readClear f).tile q = s.tile q := rfl
@[simp] theorem port_readClear (s : State) (f : Field) (q : Nat) : (s.readClear f).port q = s.port q := rfl
@[simp] theorem stream_readClear (s : State) (f : Field) (q : Nat) : (s.readClear f).stream q = s.stream q := rfl
@[simp] theorem ring_readClear (s : State) (f : Field) (q : Nat) : (s.readClear f).ring q = s.ring q := rfl
@[simp] theorem eng_readClear (s : State) (f : Field) (q : Nat) : (s.readClear f).eng q = s.eng q := rfl
@[simp] theorem cnt_readClear (s : State) (f : Field) (q : Nat) : (s.readClear f).cnt q = s.cnt q := rfl
@[simp] theorem dma_readClear (s : State) (f : Field) (q z : Nat) : (s.readClear f).dma q z = s.dma q z := rfl
@[simp] theorem word_count (s : State) (f : Counts → Counts) (q : Nat) : (s.count f).word q = s.word q := rfl
@[simp] theorem get_count (s : State) (f : Counts → Counts) (q : Field) : (s.count f).get q = s.get q := rfl
@[simp] theorem bit_count (s : State) (f : Counts → Counts) (q : Field) : (s.count f).bit q = s.bit q := rfl
@[simp] theorem pin_count (s : State) (f : Counts → Counts) (q z : Nat) : (s.count f).pin q z = s.pin q z := rfl
@[simp] theorem tile_count (s : State) (f : Counts → Counts) (q : Nat) : (s.count f).tile q = s.tile q := rfl
@[simp] theorem port_count (s : State) (f : Counts → Counts) (q : Nat) : (s.count f).port q = s.port q := rfl
@[simp] theorem stream_count (s : State) (f : Counts → Counts) (q : Nat) : (s.count f).stream q = s.stream q := rfl
@[simp] theorem ring_count (s : State) (f : Counts → Counts) (q : Nat) : (s.count f).ring q = s.ring q := rfl
@[simp] theorem eng_count (s : State) (f : Counts → Counts) (q : Nat) : (s.count f).eng q = s.eng q := rfl
@[simp] theorem cnt_count (s : State) (f : Counts → Counts) (q : Nat) : (s.count f).cnt q = s.cnt q := rfl
@[simp] theorem dma_count (s : State) (f : Counts → Counts) (q z : Nat) : (s.count f).dma q z = s.dma q z := rfl
@[simp] theorem word_countNow (s : State) (f : Counts → Counts) (q : Nat) : (s.countNow f).word q = s.word q := rfl
@[simp] theorem get_countNow (s : State) (f : Counts → Counts) (q : Field) : (s.countNow f).get q = s.get q := rfl
@[simp] theorem bit_countNow (s : State) (f : Counts → Counts) (q : Field) : (s.countNow f).bit q = s.bit q := rfl
@[simp] theorem pin_countNow (s : State) (f : Counts → Counts) (q z : Nat) : (s.countNow f).pin q z = s.pin q z := rfl
@[simp] theorem tile_countNow (s : State) (f : Counts → Counts) (q : Nat) : (s.countNow f).tile q = s.tile q := rfl
@[simp] theorem port_countNow (s : State) (f : Counts → Counts) (q : Nat) : (s.countNow f).port q = s.port q := rfl
@[simp] theorem stream_countNow (s : State) (f : Counts → Counts) (q : Nat) : (s.countNow f).stream q = s.stream q := rfl
@[simp] theorem ring_countNow (s : State) (f : Counts → Counts) (q : Nat) : (s.countNow f).ring q = s.ring q := rfl
@[simp] theorem eng_countNow (s : State) (f : Counts → Counts) (q : Nat) : (s.countNow f).eng q = s.eng q := rfl
@[simp] theorem cnt_countNow (s : State) (f : Counts → Counts) (q : Nat) : (s.countNow f).cnt q = s.cnt q := rfl
@[simp] theorem dma_countNow (s : State) (f : Counts → Counts) (q z : Nat) : (s.countNow f).dma q z = s.dma q z := rfl
@[simp] theorem word_logAdd (s : State) (e : LogEntry) (q : Nat) : (s.logAdd e).word q = s.word q := rfl
@[simp] theorem get_logAdd (s : State) (e : LogEntry) (q : Field) : (s.logAdd e).get q = s.get q := rfl
@[simp] theorem bit_logAdd (s : State) (e : LogEntry) (q : Field) : (s.logAdd e).bit q = s.bit q := rfl
@[simp] theorem pin_logAdd (s : State) (e : LogEntry) (q z : Nat) : (s.logAdd e).pin q z = s.pin q z := rfl
@[simp] theorem tile_logAdd (s : State) (e : LogEntry) (q : Nat) : (s.logAdd e).tile q = s.tile q := rfl
@[simp] theorem port_logAdd (s : State) (e : LogEntry) (q : Nat) : (s.logAdd e).port q = s.port q := rfl
@[simp] theorem stream_logAdd (s : State) (e : LogEntry) (q : Nat) : (s.logAdd e).stream q = s.stream q := rfl
@[simp] theorem ring_logAdd (s : State) (e : LogEntry) (q : Nat) : (s.logAdd e).ring q = s.ring q := rfl
@[simp] theorem eng_logAdd (s : State) (e : LogEntry) (q : Nat) : (s.logAdd e).eng q = s.eng q := rfl
@[simp] theorem cnt_logAdd (s : State) (e : LogEntry) (q : Nat) : (s.logAdd e).cnt q = s.cnt q := rfl
@[simp] theorem dma_logAdd (s : State) (e : LogEntry) (q z : Nat) : (s.logAdd e).dma q z = s.dma q z := rfl
@[simp] theorem pin_setDom (s : State) (d : Nat) (on : Bool) (q z : Nat) : (s.setDom d on).pin q z = s.pin q z := rfl
@[simp] theorem tile_setDom (s : State) (d : Nat) (on : Bool) (q : Nat) : (s.setDom d on).tile q = s.tile q := rfl
@[simp] theorem port_setDom (s : State) (d : Nat) (on : Bool) (q : Nat) : (s.setDom d on).port q = s.port q := rfl
@[simp] theorem stream_setDom (s : State) (d : Nat) (on : Bool) (q : Nat) : (s.setDom d on).stream q = s.stream q := rfl
@[simp] theorem ring_setDom (s : State) (d : Nat) (on : Bool) (q : Nat) : (s.setDom d on).ring q = s.ring q := rfl
@[simp] theorem eng_setDom (s : State) (d : Nat) (on : Bool) (q : Nat) : (s.setDom d on).eng q = s.eng q := rfl
@[simp] theorem cnt_setDom (s : State) (d : Nat) (on : Bool) (q : Nat) : (s.setDom d on).cnt q = s.cnt q := rfl
@[simp] theorem dma_setDom (s : State) (d : Nat) (on : Bool) (q z : Nat) : (s.setDom d on).dma q z = s.dma q z := rfl
@[simp] theorem pin_startDomain (s : State) (d : Nat) (q z : Nat) : (s.startDomain d).pin q z = s.pin q z := rfl
@[simp] theorem tile_startDomain (s : State) (d : Nat) (q : Nat) : (s.startDomain d).tile q = s.tile q := rfl
@[simp] theorem port_startDomain (s : State) (d : Nat) (q : Nat) : (s.startDomain d).port q = s.port q := rfl
@[simp] theorem stream_startDomain (s : State) (d : Nat) (q : Nat) : (s.startDomain d).stream q = s.stream q := rfl
@[simp] theorem ring_startDomain (s : State) (d : Nat) (q : Nat) : (s.startDomain d).ring q = s.ring q := rfl
@[simp] theorem eng_startDomain (s : State) (d : Nat) (q : Nat) : (s.startDomain d).eng q = s.eng q := rfl
@[simp] theorem cnt_startDomain (s : State) (d : Nat) (q : Nat) : (s.startDomain d).cnt q = s.cnt q := rfl
@[simp] theorem dma_startDomain (s : State) (d : Nat) (q z : Nat) : (s.startDomain d).dma q z = s.dma q z := rfl
@[simp] theorem pin_commitsUp (s : State) (pg : Nat) (q z : Nat) : (s.commitsUp pg).pin q z = s.pin q z := rfl
@[simp] theorem tile_commitsUp (s : State) (pg : Nat) (q : Nat) : (s.commitsUp pg).tile q = s.tile q := rfl
@[simp] theorem port_commitsUp (s : State) (pg : Nat) (q : Nat) : (s.commitsUp pg).port q = s.port q := rfl
@[simp] theorem stream_commitsUp (s : State) (pg : Nat) (q : Nat) : (s.commitsUp pg).stream q = s.stream q := rfl
@[simp] theorem ring_commitsUp (s : State) (pg : Nat) (q : Nat) : (s.commitsUp pg).ring q = s.ring q := rfl
@[simp] theorem eng_commitsUp (s : State) (pg : Nat) (q : Nat) : (s.commitsUp pg).eng q = s.eng q := rfl
@[simp] theorem cnt_commitsUp (s : State) (pg : Nat) (q : Nat) : (s.commitsUp pg).cnt q = s.cnt q := rfl
@[simp] theorem dma_commitsUp (s : State) (pg : Nat) (q z : Nat) : (s.commitsUp pg).dma q z = s.dma q z := rfl
@[simp] theorem word_dataWrite (s : State) (e a : Nat) (bs : List Byte) (q : Nat) : (s.dataWrite e a bs).word q = s.word q := rfl
@[simp] theorem get_dataWrite (s : State) (e a : Nat) (bs : List Byte) (q : Field) : (s.dataWrite e a bs).get q = s.get q := rfl
@[simp] theorem bit_dataWrite (s : State) (e a : Nat) (bs : List Byte) (q : Field) : (s.dataWrite e a bs).bit q = s.bit q := rfl
@[simp] theorem pin_dataWrite (s : State) (e a : Nat) (bs : List Byte) (q z : Nat) : (s.dataWrite e a bs).pin q z = s.pin q z := rfl
@[simp] theorem tile_dataWrite (s : State) (e a : Nat) (bs : List Byte) (q : Nat) : (s.dataWrite e a bs).tile q = s.tile q := rfl
@[simp] theorem port_dataWrite (s : State) (e a : Nat) (bs : List Byte) (q : Nat) : (s.dataWrite e a bs).port q = s.port q := rfl
@[simp] theorem stream_dataWrite (s : State) (e a : Nat) (bs : List Byte) (q : Nat) : (s.dataWrite e a bs).stream q = s.stream q := rfl
@[simp] theorem ring_dataWrite (s : State) (e a : Nat) (bs : List Byte) (q : Nat) : (s.dataWrite e a bs).ring q = s.ring q := rfl
@[simp] theorem eng_dataWrite (s : State) (e a : Nat) (bs : List Byte) (q : Nat) : (s.dataWrite e a bs).eng q = s.eng q := rfl
@[simp] theorem cnt_dataWrite (s : State) (e a : Nat) (bs : List Byte) (q : Nat) : (s.dataWrite e a bs).cnt q = s.cnt q := rfl
@[simp] theorem dma_dataWrite (s : State) (e a : Nat) (bs : List Byte) (q z : Nat) : (s.dataWrite e a bs).dma q z = s.dma q z := rfl
@[simp] theorem word_sramWrite (s : State) (a : Nat) (bs : List Byte) (q : Nat) : (s.sramWrite a bs).word q = s.word q := rfl
@[simp] theorem get_sramWrite (s : State) (a : Nat) (bs : List Byte) (q : Field) : (s.sramWrite a bs).get q = s.get q := rfl
@[simp] theorem bit_sramWrite (s : State) (a : Nat) (bs : List Byte) (q : Field) : (s.sramWrite a bs).bit q = s.bit q := rfl
@[simp] theorem pin_sramWrite (s : State) (a : Nat) (bs : List Byte) (q z : Nat) : (s.sramWrite a bs).pin q z = s.pin q z := rfl
@[simp] theorem tile_sramWrite (s : State) (a : Nat) (bs : List Byte) (q : Nat) : (s.sramWrite a bs).tile q = s.tile q := rfl
@[simp] theorem port_sramWrite (s : State) (a : Nat) (bs : List Byte) (q : Nat) : (s.sramWrite a bs).port q = s.port q := rfl
@[simp] theorem stream_sramWrite (s : State) (a : Nat) (bs : List Byte) (q : Nat) : (s.sramWrite a bs).stream q = s.stream q := rfl
@[simp] theorem ring_sramWrite (s : State) (a : Nat) (bs : List Byte) (q : Nat) : (s.sramWrite a bs).ring q = s.ring q := rfl
@[simp] theorem eng_sramWrite (s : State) (a : Nat) (bs : List Byte) (q : Nat) : (s.sramWrite a bs).eng q = s.eng q := rfl
@[simp] theorem cnt_sramWrite (s : State) (a : Nat) (bs : List Byte) (q : Nat) : (s.sramWrite a bs).cnt q = s.cnt q := rfl
@[simp] theorem dma_sramWrite (s : State) (a : Nat) (bs : List Byte) (q z : Nat) : (s.sramWrite a bs).dma q z = s.dma q z := rfl
@[simp] theorem word_dramWrite (s : State) (a : Nat) (bs : List Byte) (q : Nat) : (s.dramWrite a bs).word q = s.word q := rfl
@[simp] theorem get_dramWrite (s : State) (a : Nat) (bs : List Byte) (q : Field) : (s.dramWrite a bs).get q = s.get q := rfl
@[simp] theorem bit_dramWrite (s : State) (a : Nat) (bs : List Byte) (q : Field) : (s.dramWrite a bs).bit q = s.bit q := rfl
@[simp] theorem pin_dramWrite (s : State) (a : Nat) (bs : List Byte) (q z : Nat) : (s.dramWrite a bs).pin q z = s.pin q z := rfl
@[simp] theorem tile_dramWrite (s : State) (a : Nat) (bs : List Byte) (q : Nat) : (s.dramWrite a bs).tile q = s.tile q := rfl
@[simp] theorem port_dramWrite (s : State) (a : Nat) (bs : List Byte) (q : Nat) : (s.dramWrite a bs).port q = s.port q := rfl
@[simp] theorem stream_dramWrite (s : State) (a : Nat) (bs : List Byte) (q : Nat) : (s.dramWrite a bs).stream q = s.stream q := rfl
@[simp] theorem ring_dramWrite (s : State) (a : Nat) (bs : List Byte) (q : Nat) : (s.dramWrite a bs).ring q = s.ring q := rfl
@[simp] theorem eng_dramWrite (s : State) (a : Nat) (bs : List Byte) (q : Nat) : (s.dramWrite a bs).eng q = s.eng q := rfl
@[simp] theorem cnt_dramWrite (s : State) (a : Nat) (bs : List Byte) (q : Nat) : (s.dramWrite a bs).cnt q = s.cnt q := rfl
@[simp] theorem dma_dramWrite (s : State) (a : Nat) (bs : List Byte) (q z : Nat) : (s.dramWrite a bs).dma q z = s.dma q z := rfl
@[simp] theorem word_imemWrite (s : State) (e a : Nat) (bs : List Byte) (q : Nat) : (s.imemWrite e a bs).word q = s.word q := rfl
@[simp] theorem get_imemWrite (s : State) (e a : Nat) (bs : List Byte) (q : Field) : (s.imemWrite e a bs).get q = s.get q := rfl
@[simp] theorem bit_imemWrite (s : State) (e a : Nat) (bs : List Byte) (q : Field) : (s.imemWrite e a bs).bit q = s.bit q := rfl
@[simp] theorem pin_imemWrite (s : State) (e a : Nat) (bs : List Byte) (q z : Nat) : (s.imemWrite e a bs).pin q z = s.pin q z := rfl
@[simp] theorem tile_imemWrite (s : State) (e a : Nat) (bs : List Byte) (q : Nat) : (s.imemWrite e a bs).tile q = s.tile q := rfl
@[simp] theorem port_imemWrite (s : State) (e a : Nat) (bs : List Byte) (q : Nat) : (s.imemWrite e a bs).port q = s.port q := rfl
@[simp] theorem stream_imemWrite (s : State) (e a : Nat) (bs : List Byte) (q : Nat) : (s.imemWrite e a bs).stream q = s.stream q := rfl
@[simp] theorem ring_imemWrite (s : State) (e a : Nat) (bs : List Byte) (q : Nat) : (s.imemWrite e a bs).ring q = s.ring q := rfl
@[simp] theorem eng_imemWrite (s : State) (e a : Nat) (bs : List Byte) (q : Nat) : (s.imemWrite e a bs).eng q = s.eng q := rfl
@[simp] theorem cnt_imemWrite (s : State) (e a : Nat) (bs : List Byte) (q : Nat) : (s.imemWrite e a bs).cnt q = s.cnt q := rfl
@[simp] theorem dma_imemWrite (s : State) (e a : Nat) (bs : List Byte) (q z : Nat) : (s.imemWrite e a bs).dma q z = s.dma q z := rfl
@[simp] theorem word_hostWrite (s : State) (a : Nat) (bs : List Byte) (q : Nat) : (s.hostWrite a bs).word q = s.word q := rfl
@[simp] theorem get_hostWrite (s : State) (a : Nat) (bs : List Byte) (q : Field) : (s.hostWrite a bs).get q = s.get q := rfl
@[simp] theorem bit_hostWrite (s : State) (a : Nat) (bs : List Byte) (q : Field) : (s.hostWrite a bs).bit q = s.bit q := rfl
@[simp] theorem pin_hostWrite (s : State) (a : Nat) (bs : List Byte) (q z : Nat) : (s.hostWrite a bs).pin q z = s.pin q z := rfl
@[simp] theorem tile_hostWrite (s : State) (a : Nat) (bs : List Byte) (q : Nat) : (s.hostWrite a bs).tile q = s.tile q := rfl
@[simp] theorem port_hostWrite (s : State) (a : Nat) (bs : List Byte) (q : Nat) : (s.hostWrite a bs).port q = s.port q := rfl
@[simp] theorem stream_hostWrite (s : State) (a : Nat) (bs : List Byte) (q : Nat) : (s.hostWrite a bs).stream q = s.stream q := rfl
@[simp] theorem ring_hostWrite (s : State) (a : Nat) (bs : List Byte) (q : Nat) : (s.hostWrite a bs).ring q = s.ring q := rfl
@[simp] theorem eng_hostWrite (s : State) (a : Nat) (bs : List Byte) (q : Nat) : (s.hostWrite a bs).eng q = s.eng q := rfl
@[simp] theorem cnt_hostWrite (s : State) (a : Nat) (bs : List Byte) (q : Nat) : (s.hostWrite a bs).cnt q = s.cnt q := rfl
@[simp] theorem dma_hostWrite (s : State) (a : Nat) (bs : List Byte) (q z : Nat) : (s.hostWrite a bs).dma q z = s.dma q z := rfl
@[simp] theorem word_setTlb (s : State) (key : Nat) (l : List TlbEnt) (q : Nat) : (s.setTlb key l).word q = s.word q := rfl
@[simp] theorem get_setTlb (s : State) (key : Nat) (l : List TlbEnt) (q : Field) : (s.setTlb key l).get q = s.get q := rfl
@[simp] theorem bit_setTlb (s : State) (key : Nat) (l : List TlbEnt) (q : Field) : (s.setTlb key l).bit q = s.bit q := rfl
@[simp] theorem pin_setTlb (s : State) (key : Nat) (l : List TlbEnt) (q z : Nat) : (s.setTlb key l).pin q z = s.pin q z := rfl
@[simp] theorem tile_setTlb (s : State) (key : Nat) (l : List TlbEnt) (q : Nat) : (s.setTlb key l).tile q = s.tile q := rfl
@[simp] theorem port_setTlb (s : State) (key : Nat) (l : List TlbEnt) (q : Nat) : (s.setTlb key l).port q = s.port q := rfl
@[simp] theorem stream_setTlb (s : State) (key : Nat) (l : List TlbEnt) (q : Nat) : (s.setTlb key l).stream q = s.stream q := rfl
@[simp] theorem ring_setTlb (s : State) (key : Nat) (l : List TlbEnt) (q : Nat) : (s.setTlb key l).ring q = s.ring q := rfl
@[simp] theorem eng_setTlb (s : State) (key : Nat) (l : List TlbEnt) (q : Nat) : (s.setTlb key l).eng q = s.eng q := rfl
@[simp] theorem cnt_setTlb (s : State) (key : Nat) (l : List TlbEnt) (q : Nat) : (s.setTlb key l).cnt q = s.cnt q := rfl
@[simp] theorem dma_setTlb (s : State) (key : Nat) (l : List TlbEnt) (q z : Nat) : (s.setTlb key l).dma q z = s.dma q z := rfl
@[simp] theorem word_draw (s : State) (k : Nat) (q : Nat) : (s.draw k).2.word q = s.word q := rfl
@[simp] theorem get_draw (s : State) (k : Nat) (q : Field) : (s.draw k).2.get q = s.get q := rfl
@[simp] theorem bit_draw (s : State) (k : Nat) (q : Field) : (s.draw k).2.bit q = s.bit q := rfl
@[simp] theorem pin_draw (s : State) (k : Nat) (q z : Nat) : (s.draw k).2.pin q z = s.pin q z := rfl
@[simp] theorem tile_draw (s : State) (k : Nat) (q : Nat) : (s.draw k).2.tile q = s.tile q := rfl
@[simp] theorem port_draw (s : State) (k : Nat) (q : Nat) : (s.draw k).2.port q = s.port q := rfl
@[simp] theorem stream_draw (s : State) (k : Nat) (q : Nat) : (s.draw k).2.stream q = s.stream q := rfl
@[simp] theorem ring_draw (s : State) (k : Nat) (q : Nat) : (s.draw k).2.ring q = s.ring q := rfl
@[simp] theorem eng_draw (s : State) (k : Nat) (q : Nat) : (s.draw k).2.eng q = s.eng q := rfl
@[simp] theorem cnt_draw (s : State) (k : Nat) (q : Nat) : (s.draw k).2.cnt q = s.cnt q := rfl
@[simp] theorem dma_draw (s : State) (k : Nat) (q z : Nat) : (s.draw k).2.dma q z = s.dma q z := rfl
@[simp] theorem getIdx_stageWord (s : State) (a : Nat) (w : Word) (q : Field) (z : Nat) : (s.stageWord a w).getIdx q z = s.getIdx q z := rfl
@[simp] theorem func_stageWord (s : State) (a : Nat) (w : Word) (q z : Nat) : (s.stageWord a w).func q z = s.func q z := rfl
@[simp] theorem unitId_stageWord (s : State) (a : Nat) (w : Word) (q : Nat) : (s.stageWord a w).unitId q = s.unitId q := rfl
@[simp] theorem getIdx_dropStaged (s : State) (a : Nat) (q : Field) (z : Nat) : (s.dropStaged a).getIdx q z = s.getIdx q z := rfl
@[simp] theorem func_dropStaged (s : State) (a : Nat) (q z : Nat) : (s.dropStaged a).func q z = s.func q z := rfl
@[simp] theorem unitId_dropStaged (s : State) (a : Nat) (q : Nat) : (s.dropStaged a).unitId q = s.unitId q := rfl
@[simp] theorem getIdx_setPin (s : State) (t n : Nat) (p : PinSt) (q : Field) (z : Nat) : (s.setPin t n p).getIdx q z = s.getIdx q z := rfl
@[simp] theorem func_setPin (s : State) (t n : Nat) (p : PinSt) (q z : Nat) : (s.setPin t n p).func q z = s.func q z := rfl
@[simp] theorem unitId_setPin (s : State) (t n : Nat) (p : PinSt) (q : Nat) : (s.setPin t n p).unitId q = s.unitId q := rfl
@[simp] theorem getIdx_modPin (s : State) (t n : Nat) (f : PinSt → PinSt) (q : Field) (z : Nat) : (s.modPin t n f).getIdx q z = s.getIdx q z := rfl
@[simp] theorem func_modPin (s : State) (t n : Nat) (f : PinSt → PinSt) (q z : Nat) : (s.modPin t n f).func q z = s.func q z := rfl
@[simp] theorem unitId_modPin (s : State) (t n : Nat) (f : PinSt → PinSt) (q : Nat) : (s.modPin t n f).unitId q = s.unitId q := rfl
@[simp] theorem getIdx_setTile (s : State) (t : Nat) (x : TileSt) (q : Field) (z : Nat) : (s.setTile t x).getIdx q z = s.getIdx q z := rfl
@[simp] theorem func_setTile (s : State) (t : Nat) (x : TileSt) (q z : Nat) : (s.setTile t x).func q z = s.func q z := rfl
@[simp] theorem unitId_setTile (s : State) (t : Nat) (x : TileSt) (q : Nat) : (s.setTile t x).unitId q = s.unitId q := rfl
@[simp] theorem getIdx_modTile (s : State) (t : Nat) (f : TileSt → TileSt) (q : Field) (z : Nat) : (s.modTile t f).getIdx q z = s.getIdx q z := rfl
@[simp] theorem func_modTile (s : State) (t : Nat) (f : TileSt → TileSt) (q z : Nat) : (s.modTile t f).func q z = s.func q z := rfl
@[simp] theorem unitId_modTile (s : State) (t : Nat) (f : TileSt → TileSt) (q : Nat) : (s.modTile t f).unitId q = s.unitId q := rfl
@[simp] theorem getIdx_setPort (s : State) (p : Nat) (x : PortSt) (q : Field) (z : Nat) : (s.setPort p x).getIdx q z = s.getIdx q z := rfl
@[simp] theorem func_setPort (s : State) (p : Nat) (x : PortSt) (q z : Nat) : (s.setPort p x).func q z = s.func q z := rfl
@[simp] theorem unitId_setPort (s : State) (p : Nat) (x : PortSt) (q : Nat) : (s.setPort p x).unitId q = s.unitId q := rfl
@[simp] theorem getIdx_modPort (s : State) (p : Nat) (f : PortSt → PortSt) (q : Field) (z : Nat) : (s.modPort p f).getIdx q z = s.getIdx q z := rfl
@[simp] theorem func_modPort (s : State) (p : Nat) (f : PortSt → PortSt) (q z : Nat) : (s.modPort p f).func q z = s.func q z := rfl
@[simp] theorem unitId_modPort (s : State) (p : Nat) (f : PortSt → PortSt) (q : Nat) : (s.modPort p f).unitId q = s.unitId q := rfl
@[simp] theorem getIdx_setStream (s : State) (k : Nat) (x : StreamSt) (q : Field) (z : Nat) : (s.setStream k x).getIdx q z = s.getIdx q z := rfl
@[simp] theorem func_setStream (s : State) (k : Nat) (x : StreamSt) (q z : Nat) : (s.setStream k x).func q z = s.func q z := rfl
@[simp] theorem unitId_setStream (s : State) (k : Nat) (x : StreamSt) (q : Nat) : (s.setStream k x).unitId q = s.unitId q := rfl
@[simp] theorem getIdx_modStream (s : State) (k : Nat) (f : StreamSt → StreamSt) (q : Field) (z : Nat) : (s.modStream k f).getIdx q z = s.getIdx q z := rfl
@[simp] theorem func_modStream (s : State) (k : Nat) (f : StreamSt → StreamSt) (q z : Nat) : (s.modStream k f).func q z = s.func q z := rfl
@[simp] theorem unitId_modStream (s : State) (k : Nat) (f : StreamSt → StreamSt) (q : Nat) : (s.modStream k f).unitId q = s.unitId q := rfl
@[simp] theorem getIdx_setRing (s : State) (r : Nat) (x : RingSt) (q : Field) (z : Nat) : (s.setRing r x).getIdx q z = s.getIdx q z := rfl
@[simp] theorem func_setRing (s : State) (r : Nat) (x : RingSt) (q z : Nat) : (s.setRing r x).func q z = s.func q z := rfl
@[simp] theorem unitId_setRing (s : State) (r : Nat) (x : RingSt) (q : Nat) : (s.setRing r x).unitId q = s.unitId q := rfl
@[simp] theorem getIdx_modRing (s : State) (r : Nat) (f : RingSt → RingSt) (q : Field) (z : Nat) : (s.modRing r f).getIdx q z = s.getIdx q z := rfl
@[simp] theorem func_modRing (s : State) (r : Nat) (f : RingSt → RingSt) (q z : Nat) : (s.modRing r f).func q z = s.func q z := rfl
@[simp] theorem unitId_modRing (s : State) (r : Nat) (f : RingSt → RingSt) (q : Nat) : (s.modRing r f).unitId q = s.unitId q := rfl
@[simp] theorem getIdx_setFlights (s : State) (l : List Flight) (q : Field) (z : Nat) : (s.setFlights l).getIdx q z = s.getIdx q z := rfl
@[simp] theorem func_setFlights (s : State) (l : List Flight) (q z : Nat) : (s.setFlights l).func q z = s.func q z := rfl
@[simp] theorem unitId_setFlights (s : State) (l : List Flight) (q : Nat) : (s.setFlights l).unitId q = s.unitId q := rfl
@[simp] theorem getIdx_setEng (s : State) (e : Nat) (x : EngSt) (q : Field) (z : Nat) : (s.setEng e x).getIdx q z = s.getIdx q z := rfl
@[simp] theorem func_setEng (s : State) (e : Nat) (x : EngSt) (q z : Nat) : (s.setEng e x).func q z = s.func q z := rfl
@[simp] theorem unitId_setEng (s : State) (e : Nat) (x : EngSt) (q : Nat) : (s.setEng e x).unitId q = s.unitId q := rfl
@[simp] theorem getIdx_modEng (s : State) (e : Nat) (f : EngSt → EngSt) (q : Field) (z : Nat) : (s.modEng e f).getIdx q z = s.getIdx q z := rfl
@[simp] theorem func_modEng (s : State) (e : Nat) (f : EngSt → EngSt) (q z : Nat) : (s.modEng e f).func q z = s.func q z := rfl
@[simp] theorem unitId_modEng (s : State) (e : Nat) (f : EngSt → EngSt) (q : Nat) : (s.modEng e f).unitId q = s.unitId q := rfl
@[simp] theorem getIdx_setDma (s : State) (c j : Nat) (x : DmaSt) (q : Field) (z : Nat) : (s.setDma c j x).getIdx q z = s.getIdx q z := rfl
@[simp] theorem func_setDma (s : State) (c j : Nat) (x : DmaSt) (q z : Nat) : (s.setDma c j x).func q z = s.func q z := rfl
@[simp] theorem unitId_setDma (s : State) (c j : Nat) (x : DmaSt) (q : Nat) : (s.setDma c j x).unitId q = s.unitId q := rfl
@[simp] theorem getIdx_modDma (s : State) (c j : Nat) (f : DmaSt → DmaSt) (q : Field) (z : Nat) : (s.modDma c j f).getIdx q z = s.getIdx q z := rfl
@[simp] theorem func_modDma (s : State) (c j : Nat) (f : DmaSt → DmaSt) (q z : Nat) : (s.modDma c j f).func q z = s.func q z := rfl
@[simp] theorem unitId_modDma (s : State) (c j : Nat) (f : DmaSt → DmaSt) (q : Nat) : (s.modDma c j f).unitId q = s.unitId q := rfl
@[simp] theorem getIdx_setCnt (s : State) (b : Nat) (x : CntSt) (q : Field) (z : Nat) : (s.setCnt b x).getIdx q z = s.getIdx q z := rfl
@[simp] theorem func_setCnt (s : State) (b : Nat) (x : CntSt) (q z : Nat) : (s.setCnt b x).func q z = s.func q z := rfl
@[simp] theorem unitId_setCnt (s : State) (b : Nat) (x : CntSt) (q : Nat) : (s.setCnt b x).unitId q = s.unitId q := rfl
@[simp] theorem getIdx_modCnt (s : State) (b : Nat) (f : CntSt → CntSt) (q : Field) (z : Nat) : (s.modCnt b f).getIdx q z = s.getIdx q z := rfl
@[simp] theorem func_modCnt (s : State) (b : Nat) (f : CntSt → CntSt) (q z : Nat) : (s.modCnt b f).func q z = s.func q z := rfl
@[simp] theorem unitId_modCnt (s : State) (b : Nat) (f : CntSt → CntSt) (q : Nat) : (s.modCnt b f).unitId q = s.unitId q := rfl
@[simp] theorem getIdx_modGio (s : State) (g : Nat) (f : GioOut → GioOut) (q : Field) (z : Nat) : (s.modGio g f).getIdx q z = s.getIdx q z := rfl
@[simp] theorem func_modGio (s : State) (g : Nat) (f : GioOut → GioOut) (q z : Nat) : (s.modGio g f).func q z = s.func q z := rfl
@[simp] theorem unitId_modGio (s : State) (g : Nat) (f : GioOut → GioOut) (q : Nat) : (s.modGio g f).unitId q = s.unitId q := rfl
@[simp] theorem getIdx_answer (s : State) (w : Word) (q : Field) (z : Nat) : (s.answer w).getIdx q z = s.getIdx q z := rfl
@[simp] theorem func_answer (s : State) (w : Word) (q z : Nat) : (s.answer w).func q z = s.func q z := rfl
@[simp] theorem unitId_answer (s : State) (w : Word) (q : Nat) : (s.answer w).unitId q = s.unitId q := rfl
@[simp] theorem getIdx_count (s : State) (f : Counts → Counts) (q : Field) (z : Nat) : (s.count f).getIdx q z = s.getIdx q z := rfl
@[simp] theorem func_count (s : State) (f : Counts → Counts) (q z : Nat) : (s.count f).func q z = s.func q z := rfl
@[simp] theorem unitId_count (s : State) (f : Counts → Counts) (q : Nat) : (s.count f).unitId q = s.unitId q := rfl
@[simp] theorem getIdx_countNow (s : State) (f : Counts → Counts) (q : Field) (z : Nat) : (s.countNow f).getIdx q z = s.getIdx q z := rfl
@[simp] theorem func_countNow (s : State) (f : Counts → Counts) (q z : Nat) : (s.countNow f).func q z = s.func q z := rfl
@[simp] theorem unitId_countNow (s : State) (f : Counts → Counts) (q : Nat) : (s.countNow f).unitId q = s.unitId q := rfl
@[simp] theorem getIdx_logAdd (s : State) (e : LogEntry) (q : Field) (z : Nat) : (s.logAdd e).getIdx q z = s.getIdx q z := rfl
@[simp] theorem func_logAdd (s : State) (e : LogEntry) (q z : Nat) : (s.logAdd e).func q z = s.func q z := rfl
@[simp] theorem unitId_logAdd (s : State) (e : LogEntry) (q : Nat) : (s.logAdd e).unitId q = s.unitId q := rfl
@[simp] theorem getIdx_dataWrite (s : State) (e a : Nat) (bs : List Byte) (q : Field) (z : Nat) : (s.dataWrite e a bs).getIdx q z = s.getIdx q z := rfl
@[simp] theorem func_dataWrite (s : State) (e a : Nat) (bs : List Byte) (q z : Nat) : (s.dataWrite e a bs).func q z = s.func q z := rfl
@[simp] theorem unitId_dataWrite (s : State) (e a : Nat) (bs : List Byte) (q : Nat) : (s.dataWrite e a bs).unitId q = s.unitId q := rfl
@[simp] theorem getIdx_sramWrite (s : State) (a : Nat) (bs : List Byte) (q : Field) (z : Nat) : (s.sramWrite a bs).getIdx q z = s.getIdx q z := rfl
@[simp] theorem func_sramWrite (s : State) (a : Nat) (bs : List Byte) (q z : Nat) : (s.sramWrite a bs).func q z = s.func q z := rfl
@[simp] theorem unitId_sramWrite (s : State) (a : Nat) (bs : List Byte) (q : Nat) : (s.sramWrite a bs).unitId q = s.unitId q := rfl
@[simp] theorem getIdx_dramWrite (s : State) (a : Nat) (bs : List Byte) (q : Field) (z : Nat) : (s.dramWrite a bs).getIdx q z = s.getIdx q z := rfl
@[simp] theorem func_dramWrite (s : State) (a : Nat) (bs : List Byte) (q z : Nat) : (s.dramWrite a bs).func q z = s.func q z := rfl
@[simp] theorem unitId_dramWrite (s : State) (a : Nat) (bs : List Byte) (q : Nat) : (s.dramWrite a bs).unitId q = s.unitId q := rfl
@[simp] theorem getIdx_imemWrite (s : State) (e a : Nat) (bs : List Byte) (q : Field) (z : Nat) : (s.imemWrite e a bs).getIdx q z = s.getIdx q z := rfl
@[simp] theorem func_imemWrite (s : State) (e a : Nat) (bs : List Byte) (q z : Nat) : (s.imemWrite e a bs).func q z = s.func q z := rfl
@[simp] theorem unitId_imemWrite (s : State) (e a : Nat) (bs : List Byte) (q : Nat) : (s.imemWrite e a bs).unitId q = s.unitId q := rfl
@[simp] theorem getIdx_hostWrite (s : State) (a : Nat) (bs : List Byte) (q : Field) (z : Nat) : (s.hostWrite a bs).getIdx q z = s.getIdx q z := rfl
@[simp] theorem func_hostWrite (s : State) (a : Nat) (bs : List Byte) (q z : Nat) : (s.hostWrite a bs).func q z = s.func q z := rfl
@[simp] theorem unitId_hostWrite (s : State) (a : Nat) (bs : List Byte) (q : Nat) : (s.hostWrite a bs).unitId q = s.unitId q := rfl
@[simp] theorem getIdx_setTlb (s : State) (key : Nat) (l : List TlbEnt) (q : Field) (z : Nat) : (s.setTlb key l).getIdx q z = s.getIdx q z := rfl
@[simp] theorem func_setTlb (s : State) (key : Nat) (l : List TlbEnt) (q z : Nat) : (s.setTlb key l).func q z = s.func q z := rfl
@[simp] theorem unitId_setTlb (s : State) (key : Nat) (l : List TlbEnt) (q : Nat) : (s.setTlb key l).unitId q = s.unitId q := rfl

end Sys2Proof.Machine
end

