-- ==== Sys2Proof/Laws/Notice.lean ====
section
/-! SUPPORT. What events, interrupt sources and page notices change, and that they change nothing else. -/

namespace Sys2Proof.Machine

theorem noted_refl (s : State) : s.noted s := ⟨fun _ _ => rfl, rfl⟩

theorem noted_trans {s t u : State} (h : s.noted t) (k : t.noted u) : s.noted u := by
  refine ⟨fun a ha => (k.1 a ha).trans (h.1 a ha), ?_⟩
  rw [k.2, h.2]

theorem noted_setWord (s : State) (a : Nat) (w : Word) (h : noticeWord a) : s.noted (s.setWord a w) := by
  refine ⟨fun b hb => ?_, rfl⟩
  rw [word_setWord, if_neg]
  rintro rfl
  exact hb h

theorem noted_put (s : State) (f : Field) (v : Nat) (h : noticeWord f.addr) : s.noted (s.put f v) :=
  noted_setWord _ _ _ h

theorem noted_ite {s a b : State} (c : Prop) [Decidable c] (ha : s.noted a) (hb : s.noted b) : s.noted (if c then a else b) := by
  split <;> assumption

theorem noted_msixQueue (s : State) (v : Nat) : s.noted (s.msixQueue v) := by
  unfold State.msixQueue
  split
  · exact ⟨fun _ _ => rfl, rfl⟩
  · split <;> exact ⟨fun _ _ => rfl, rfl⟩

theorem noted_srcNote (s : State) (i : Nat) (h : i < 768) : s.noted (s.srcNote i) := by
  have h1 : s.noted (s.bump (R.IRQ_ROUTE_COUNT i)) :=
    noted_put _ _ _ (by simp only [R.IRQ_ROUTE_COUNT, noticeWord, irqPage, evfPage, evlPage]; omega)
  unfold State.srcNote
  dsimp only
  have h2 := noted_ite (s := s) ((s.bump (R.IRQ_ROUTE_COUNT i)).bit (R.IRQ_ROUTE_MSIX_EN i) = true)
    (noted_trans h1 (noted_msixQueue _ ((s.bump (R.IRQ_ROUTE_COUNT i)).get (R.IRQ_ROUTE_VECTOR i)))) h1
  apply noted_ite
  · exact noted_trans h2 ⟨fun _ _ => rfl, rfl⟩
  · exact h2

theorem evcRunning_lt (s : State) (n : Nat) (h : n ∈ s.evcRunning) : n < 256 := by
  unfold State.evcRunning at h
  simp only [List.mem_filterMap] at h
  obtain ⟨e, -, he⟩ := h
  split at he
  · next hc => simp only [Option.some.injEq] at he; omega
  · cases he

theorem noted_foldl {β : Type} (f : State → β → State) (l : List β) (s : State) (h : ∀ t : State, ∀ x ∈ l, t.noted (f t x)) :
    s.noted (l.foldl f s) := by
  induction l generalizing s with
  | nil => exact noted_refl s
  | cons x l ih => exact noted_trans (h s x (List.mem_cons_self ..)) (ih _ fun t y hy => h t y (List.mem_cons_of_mem _ hy))

theorem noted_evcAdd (f : Nat) (s : State) (n k : Nat) (h : n < 256) : s.noted (State.evcAdd f s n k) := by
  have hp : ∀ (t : State) (n v : Nat), n < 256 → t.noted (t.setEvcVal n v) := fun t n v h => noted_trans
    (noted_put _ _ _ (by simp only [R.EVC_VAL_LO, noticeWord, irqPage, evfPage, evlPage]; omega))
    (noted_put _ _ _ (by simp only [R.EVC_VAL_HI, noticeWord, irqPage, evfPage, evlPage]; omega))
  have ho : ∀ (t : State) (n : Nat), n < 256 → t.noted (t.putB (R.EVC_TRG_OVF n) true) := fun t n h =>
    noted_put _ _ _ (by simp only [R.EVC_TRG_OVF, noticeWord, irqPage, evfPage, evlPage]; omega)
  induction f generalizing s n k with
  | zero =>
    unfold State.evcAdd
    dsimp only
    refine noted_ite _ (hp s n _ h) (noted_ite _ (noted_trans (hp s n _ h) (ho _ n h)) ?_)
    exact noted_trans (noted_trans (hp s n _ h) (ho _ n h)) (noted_srcNote _ _ (by omega))
  | succ f ih =>
    unfold State.evcAdd
    dsimp only
    refine noted_ite _ (hp s n _ h) (noted_ite _ (noted_trans (hp s n _ h) (ho _ n h)) ?_)
    have hn := noted_trans (noted_trans (hp s n (s.evcVal n + k) h) (ho _ n h)) (noted_srcNote _ (280 + n / 32) (by omega))
    refine noted_ite _ (noted_trans hn (noted_foldl _ _ _ fun t m hm => ?_)) hn
    exact noted_ite _ (ih t m 1 (evcRunning_lt _ m hm)) (noted_refl t)

theorem noted_events (s : State) (p : Page) (ev k : Nat) (g : EvTag) : s.noted (s.events p ev k g) := by
  unfold State.events
  split
  · refine noted_foldl _ _ _ fun t n hn => ?_
    apply noted_ite
    · exact noted_evcAdd 8 t n k (evcRunning_lt s n hn)
    · exact noted_refl t
  · exact noted_refl s

theorem noted_event (s : State) (p : Page) (ev : Nat) (g : EvTag) : s.noted (s.event p ev g) := noted_events s p ev 1 g

theorem noted_eventInst (s : State) (p : Page) (inst ev : Nat) (g : EvTag) : s.noted (s.eventInst p inst ev g) := by
  unfold State.eventInst
  split
  · refine noted_foldl _ _ _ fun t n hn => ?_
    apply noted_ite
    · exact noted_evcAdd 8 t n 1 (evcRunning_lt s n hn)
    · exact noted_refl t
  · exact noted_refl s

theorem noted_srcFire (s : State) (i : Nat) (h : i < 768) : s.noted (s.srcFire i) := by
  unfold State.srcFire
  exact noted_ite _ (noted_trans (noted_srcNote s i h) (noted_event _ _ _ _)) (noted_srcNote s i h)

theorem noted_msixSend (s : State) (v : Nat) : s.noted (s.msixSend v) := by
  unfold State.msixSend
  exact noted_ite _ (noted_trans (noted_msixQueue s v) (noted_event _ _ _ _)) (noted_msixQueue s v)

/-- Firing a source after a change adds only notices to the change. -/
theorem noted_withSrc (s : State) (i : Nat) (f : State → State) (h : i < 768) : (f s).noted (s.withSrc i f) := by
  unfold State.withSrc
  exact noted_ite _ (noted_srcFire _ i h) (noted_refl _)

theorem noted_withSrcs (s : State) (l : List Nat) (f : State → State) (h : ∀ i ∈ l, i < 768) : (f s).noted (s.withSrcs l f) := by
  unfold State.withSrcs
  exact noted_foldl _ _ _ fun t i hi => by
    split
    · exact noted_srcFire t i (h i hi)
    · exact noted_refl t

theorem pageSrc_lt (p : Page) : pageSrc p < 768 := by
  cases p <;> simp only [pageSrc] <;> omega

/-- Pending bits are set in one word; the rest are notices. -/
theorem noted_pend (s : State) (p : Page) (m : Nat) :
    (s.setWord (pageBase p + 0x18) (s.word (pageBase p + 0x18) ||| BitVec.ofNat 32 m)).noted (s.pend p m) :=
  noted_withSrc s _ _ (pageSrc_lt p)

theorem noted_done (s : State) (p : Page) :
    (s.setWord (pageBase p + 0x18) (s.word (pageBase p + 0x18) ||| BitVec.ofNat 32 irqDone)).noted (s.done p) := noted_pend s p _

theorem noted_get {s t : State} (h : s.noted t) (f : Field) (hf : ¬ noticeWord f.addr) : t.get f = s.get f := by
  unfold State.get
  rw [h.1 _ hf]

theorem noted_bit {s t : State} (h : s.noted t) (f : Field) (hf : ¬ noticeWord f.addr) : t.bit f = s.bit f := by
  unfold State.bit
  rw [noted_get h f hf]

theorem noted_pending {s t : State} (h : s.noted t) : t.pending = s.pending := by rw [h.2]
theorem noted_stg {s t : State} (h : s.noted t) : t.stg = s.stg := by rw [h.2]
theorem noted_wait {s t : State} (h : s.noted t) : t.wait = s.wait := by rw [h.2]
theorem noted_busRead {s t : State} (h : s.noted t) : t.busRead = s.busRead := by rw [h.2]
theorem noted_busBytes {s t : State} (h : s.noted t) : t.busBytes = s.busBytes := by rw [h.2]
theorem noted_free {s t : State} (h : s.noted t) : t.free = s.free := by rw [h.2]
theorem noted_time {s t : State} (h : s.noted t) : t.time = s.time := by rw [h.2]
theorem noted_flt {s t : State} (h : s.noted t) : t.flt = s.flt := by rw [h.2]
theorem noted_contained {s t : State} (h : s.noted t) : t.contained = s.contained := by rw [h.2]
theorem noted_latch {s t : State} (h : s.noted t) : t.latch = s.latch := by rw [h.2]
theorem noted_deferred {s t : State} (h : s.noted t) : t.deferred = s.deferred := by rw [h.2]
theorem noted_v24Rev {s t : State} (h : s.noted t) : t.v24Rev = s.v24Rev := by rw [h.2]
theorem noted_rtcNs {s t : State} (h : s.noted t) : t.rtcNs = s.rtcNs := by rw [h.2]
theorem noted_pins {s t : State} (h : s.noted t) : t.pins = s.pins := by rw [h.2]
theorem noted_gio {s t : State} (h : s.noted t) : t.gio = s.gio := by rw [h.2]
theorem noted_tiles {s t : State} (h : s.noted t) : t.tiles = s.tiles := by rw [h.2]
theorem noted_sched {s t : State} (h : s.noted t) : t.sched = s.sched := by rw [h.2]
theorem noted_ports {s t : State} (h : s.noted t) : t.ports = s.ports := by rw [h.2]
theorem noted_engs {s t : State} (h : s.noted t) : t.engs = s.engs := by rw [h.2]
theorem noted_dmas {s t : State} (h : s.noted t) : t.dmas = s.dmas := by rw [h.2]
theorem noted_mem {s t : State} (h : s.noted t) : t.mem = s.mem := by rw [h.2]
theorem noted_fab {s t : State} (h : s.noted t) : t.fab = s.fab := by rw [h.2]
theorem noted_rcfg {s t : State} (h : s.noted t) : t.rcfg = s.rcfg := by rw [h.2]
theorem noted_pwr {s t : State} (h : s.noted t) : t.pwr = s.pwr := by rw [h.2]
theorem noted_host {s t : State} (h : s.noted t) : t.host = s.host := by rw [h.2]
theorem noted_load {s t : State} (h : s.noted t) : t.load = s.load := by rw [h.2]
theorem noted_clock {s t : State} (h : s.noted t) : t.clock = s.clock := by rw [h.2]
theorem noted_sec {s t : State} (h : s.noted t) : t.sec = s.sec := by rw [h.2]
theorem noted_pin {s t : State} (h : s.noted t) (q z : Nat) : t.pin q z = s.pin q z := by rw [h.2]; rfl
theorem noted_tile {s t : State} (h : s.noted t) (q : Nat) : t.tile q = s.tile q := by rw [h.2]; rfl
theorem noted_port {s t : State} (h : s.noted t) (q : Nat) : t.port q = s.port q := by rw [h.2]; rfl
theorem noted_stream {s t : State} (h : s.noted t) (q : Nat) : t.stream q = s.stream q := by rw [h.2]; rfl
theorem noted_ring {s t : State} (h : s.noted t) (q : Nat) : t.ring q = s.ring q := by rw [h.2]; rfl
theorem noted_eng {s t : State} (h : s.noted t) (q : Nat) : t.eng q = s.eng q := by rw [h.2]; rfl
theorem noted_cnt {s t : State} (h : s.noted t) (q : Nat) : t.cnt q = s.cnt q := by rw [h.2]; rfl
theorem noted_dma {s t : State} (h : s.noted t) (q z : Nat) : t.dma q z = s.dma q z := by rw [h.2]; rfl

/-! ### Fields under events and notices -/

@[simp] theorem events_pending (s : State) (p : Page) (ev k : Nat) (g : EvTag) : (s.events p ev k g).pending = s.pending := noted_pending (noted_events s p ev k g)
@[simp] theorem events_stg (s : State) (p : Page) (ev k : Nat) (g : EvTag) : (s.events p ev k g).stg = s.stg := noted_stg (noted_events s p ev k g)
@[simp] theorem events_wait (s : State) (p : Page) (ev k : Nat) (g : EvTag) : (s.events p ev k g).wait = s.wait := noted_wait (noted_events s p ev k g)
@[simp] theorem events_busRead (s : State) (p : Page) (ev k : Nat) (g : EvTag) : (s.events p ev k g).busRead = s.busRead := noted_busRead (noted_events s p ev k g)
@[simp] theorem events_busBytes (s : State) (p : Page) (ev k : Nat) (g : EvTag) : (s.events p ev k g).busBytes = s.busBytes := noted_busBytes (noted_events s p ev k g)
@[simp] theorem events_free (s : State) (p : Page) (ev k : Nat) (g : EvTag) : (s.events p ev k g).free = s.free := noted_free (noted_events s p ev k g)
@[simp] theorem events_time (s : State) (p : Page) (ev k : Nat) (g : EvTag) : (s.events p ev k g).time = s.time := noted_time (noted_events s p ev k g)
@[simp] theorem events_flt (s : State) (p : Page) (ev k : Nat) (g : EvTag) : (s.events p ev k g).flt = s.flt := noted_flt (noted_events s p ev k g)
@[simp] theorem events_contained (s : State) (p : Page) (ev k : Nat) (g : EvTag) : (s.events p ev k g).contained = s.contained := noted_contained (noted_events s p ev k g)
@[simp] theorem events_latch (s : State) (p : Page) (ev k : Nat) (g : EvTag) : (s.events p ev k g).latch = s.latch := noted_latch (noted_events s p ev k g)
@[simp] theorem events_deferred (s : State) (p : Page) (ev k : Nat) (g : EvTag) : (s.events p ev k g).deferred = s.deferred := noted_deferred (noted_events s p ev k g)
@[simp] theorem events_v24Rev (s : State) (p : Page) (ev k : Nat) (g : EvTag) : (s.events p ev k g).v24Rev = s.v24Rev := noted_v24Rev (noted_events s p ev k g)
@[simp] theorem events_rtcNs (s : State) (p : Page) (ev k : Nat) (g : EvTag) : (s.events p ev k g).rtcNs = s.rtcNs := noted_rtcNs (noted_events s p ev k g)
@[simp] theorem events_pins (s : State) (p : Page) (ev k : Nat) (g : EvTag) : (s.events p ev k g).pins = s.pins := noted_pins (noted_events s p ev k g)
@[simp] theorem events_gio (s : State) (p : Page) (ev k : Nat) (g : EvTag) : (s.events p ev k g).gio = s.gio := noted_gio (noted_events s p ev k g)
@[simp] theorem events_tiles (s : State) (p : Page) (ev k : Nat) (g : EvTag) : (s.events p ev k g).tiles = s.tiles := noted_tiles (noted_events s p ev k g)
@[simp] theorem events_sched (s : State) (p : Page) (ev k : Nat) (g : EvTag) : (s.events p ev k g).sched = s.sched := noted_sched (noted_events s p ev k g)
@[simp] theorem events_ports (s : State) (p : Page) (ev k : Nat) (g : EvTag) : (s.events p ev k g).ports = s.ports := noted_ports (noted_events s p ev k g)
@[simp] theorem events_engs (s : State) (p : Page) (ev k : Nat) (g : EvTag) : (s.events p ev k g).engs = s.engs := noted_engs (noted_events s p ev k g)
@[simp] theorem events_dmas (s : State) (p : Page) (ev k : Nat) (g : EvTag) : (s.events p ev k g).dmas = s.dmas := noted_dmas (noted_events s p ev k g)
@[simp] theorem events_mem (s : State) (p : Page) (ev k : Nat) (g : EvTag) : (s.events p ev k g).mem = s.mem := noted_mem (noted_events s p ev k g)
@[simp] theorem events_fab (s : State) (p : Page) (ev k : Nat) (g : EvTag) : (s.events p ev k g).fab = s.fab := noted_fab (noted_events s p ev k g)
@[simp] theorem events_rcfg (s : State) (p : Page) (ev k : Nat) (g : EvTag) : (s.events p ev k g).rcfg = s.rcfg := noted_rcfg (noted_events s p ev k g)
@[simp] theorem events_pwr (s : State) (p : Page) (ev k : Nat) (g : EvTag) : (s.events p ev k g).pwr = s.pwr := noted_pwr (noted_events s p ev k g)
@[simp] theorem events_host (s : State) (p : Page) (ev k : Nat) (g : EvTag) : (s.events p ev k g).host = s.host := noted_host (noted_events s p ev k g)
@[simp] theorem events_load (s : State) (p : Page) (ev k : Nat) (g : EvTag) : (s.events p ev k g).load = s.load := noted_load (noted_events s p ev k g)
@[simp] theorem events_clock (s : State) (p : Page) (ev k : Nat) (g : EvTag) : (s.events p ev k g).clock = s.clock := noted_clock (noted_events s p ev k g)
@[simp] theorem events_sec (s : State) (p : Page) (ev k : Nat) (g : EvTag) : (s.events p ev k g).sec = s.sec := noted_sec (noted_events s p ev k g)
@[simp] theorem pin_events (s : State) (p : Page) (ev k : Nat) (g : EvTag) (q z : Nat) : (s.events p ev k g).pin q z = s.pin q z := noted_pin (noted_events s p ev k g) q z
@[simp] theorem tile_events (s : State) (p : Page) (ev k : Nat) (g : EvTag) (q : Nat) : (s.events p ev k g).tile q = s.tile q := noted_tile (noted_events s p ev k g) q
@[simp] theorem port_events (s : State) (p : Page) (ev k : Nat) (g : EvTag) (q : Nat) : (s.events p ev k g).port q = s.port q := noted_port (noted_events s p ev k g) q
@[simp] theorem stream_events (s : State) (p : Page) (ev k : Nat) (g : EvTag) (q : Nat) : (s.events p ev k g).stream q = s.stream q := noted_stream (noted_events s p ev k g) q
@[simp] theorem ring_events (s : State) (p : Page) (ev k : Nat) (g : EvTag) (q : Nat) : (s.events p ev k g).ring q = s.ring q := noted_ring (noted_events s p ev k g) q
@[simp] theorem eng_events (s : State) (p : Page) (ev k : Nat) (g : EvTag) (q : Nat) : (s.events p ev k g).eng q = s.eng q := noted_eng (noted_events s p ev k g) q
@[simp] theorem cnt_events (s : State) (p : Page) (ev k : Nat) (g : EvTag) (q : Nat) : (s.events p ev k g).cnt q = s.cnt q := noted_cnt (noted_events s p ev k g) q
@[simp] theorem dma_events (s : State) (p : Page) (ev k : Nat) (g : EvTag) (q z : Nat) : (s.events p ev k g).dma q z = s.dma q z := noted_dma (noted_events s p ev k g) q z
theorem word_events (s : State) (p : Page) (ev k : Nat) (g : EvTag) (q : Nat) (hq : ¬ noticeWord q) : (s.events p ev k g).word q = s.word q := (noted_events s p ev k g).1 q hq
theorem get_events (s : State) (p : Page) (ev k : Nat) (g : EvTag) (q : Field) (hq : ¬ noticeWord q.addr) : (s.events p ev k g).get q = s.get q := noted_get (noted_events s p ev k g) q hq
theorem bit_events (s : State) (p : Page) (ev k : Nat) (g : EvTag) (q : Field) (hq : ¬ noticeWord q.addr) : (s.events p ev k g).bit q = s.bit q := noted_bit (noted_events s p ev k g) q hq

@[simp] theorem event_pending (s : State) (p : Page) (ev : Nat) (g : EvTag) : (s.event p ev g).pending = s.pending := noted_pending (noted_event s p ev g)
@[simp] theorem event_stg (s : State) (p : Page) (ev : Nat) (g : EvTag) : (s.event p ev g).stg = s.stg := noted_stg (noted_event s p ev g)
@[simp] theorem event_wait (s : State) (p : Page) (ev : Nat) (g : EvTag) : (s.event p ev g).wait = s.wait := noted_wait (noted_event s p ev g)
@[simp] theorem event_busRead (s : State) (p : Page) (ev : Nat) (g : EvTag) : (s.event p ev g).busRead = s.busRead := noted_busRead (noted_event s p ev g)
@[simp] theorem event_busBytes (s : State) (p : Page) (ev : Nat) (g : EvTag) : (s.event p ev g).busBytes = s.busBytes := noted_busBytes (noted_event s p ev g)
@[simp] theorem event_free (s : State) (p : Page) (ev : Nat) (g : EvTag) : (s.event p ev g).free = s.free := noted_free (noted_event s p ev g)
@[simp] theorem event_time (s : State) (p : Page) (ev : Nat) (g : EvTag) : (s.event p ev g).time = s.time := noted_time (noted_event s p ev g)
@[simp] theorem event_flt (s : State) (p : Page) (ev : Nat) (g : EvTag) : (s.event p ev g).flt = s.flt := noted_flt (noted_event s p ev g)
@[simp] theorem event_contained (s : State) (p : Page) (ev : Nat) (g : EvTag) : (s.event p ev g).contained = s.contained := noted_contained (noted_event s p ev g)
@[simp] theorem event_latch (s : State) (p : Page) (ev : Nat) (g : EvTag) : (s.event p ev g).latch = s.latch := noted_latch (noted_event s p ev g)
@[simp] theorem event_deferred (s : State) (p : Page) (ev : Nat) (g : EvTag) : (s.event p ev g).deferred = s.deferred := noted_deferred (noted_event s p ev g)
@[simp] theorem event_v24Rev (s : State) (p : Page) (ev : Nat) (g : EvTag) : (s.event p ev g).v24Rev = s.v24Rev := noted_v24Rev (noted_event s p ev g)
@[simp] theorem event_rtcNs (s : State) (p : Page) (ev : Nat) (g : EvTag) : (s.event p ev g).rtcNs = s.rtcNs := noted_rtcNs (noted_event s p ev g)
@[simp] theorem event_pins (s : State) (p : Page) (ev : Nat) (g : EvTag) : (s.event p ev g).pins = s.pins := noted_pins (noted_event s p ev g)
@[simp] theorem event_gio (s : State) (p : Page) (ev : Nat) (g : EvTag) : (s.event p ev g).gio = s.gio := noted_gio (noted_event s p ev g)
@[simp] theorem event_tiles (s : State) (p : Page) (ev : Nat) (g : EvTag) : (s.event p ev g).tiles = s.tiles := noted_tiles (noted_event s p ev g)
@[simp] theorem event_sched (s : State) (p : Page) (ev : Nat) (g : EvTag) : (s.event p ev g).sched = s.sched := noted_sched (noted_event s p ev g)
@[simp] theorem event_ports (s : State) (p : Page) (ev : Nat) (g : EvTag) : (s.event p ev g).ports = s.ports := noted_ports (noted_event s p ev g)
@[simp] theorem event_engs (s : State) (p : Page) (ev : Nat) (g : EvTag) : (s.event p ev g).engs = s.engs := noted_engs (noted_event s p ev g)
@[simp] theorem event_dmas (s : State) (p : Page) (ev : Nat) (g : EvTag) : (s.event p ev g).dmas = s.dmas := noted_dmas (noted_event s p ev g)
@[simp] theorem event_mem (s : State) (p : Page) (ev : Nat) (g : EvTag) : (s.event p ev g).mem = s.mem := noted_mem (noted_event s p ev g)
@[simp] theorem event_fab (s : State) (p : Page) (ev : Nat) (g : EvTag) : (s.event p ev g).fab = s.fab := noted_fab (noted_event s p ev g)
@[simp] theorem event_rcfg (s : State) (p : Page) (ev : Nat) (g : EvTag) : (s.event p ev g).rcfg = s.rcfg := noted_rcfg (noted_event s p ev g)
@[simp] theorem event_pwr (s : State) (p : Page) (ev : Nat) (g : EvTag) : (s.event p ev g).pwr = s.pwr := noted_pwr (noted_event s p ev g)
@[simp] theorem event_host (s : State) (p : Page) (ev : Nat) (g : EvTag) : (s.event p ev g).host = s.host := noted_host (noted_event s p ev g)
@[simp] theorem event_load (s : State) (p : Page) (ev : Nat) (g : EvTag) : (s.event p ev g).load = s.load := noted_load (noted_event s p ev g)
@[simp] theorem event_clock (s : State) (p : Page) (ev : Nat) (g : EvTag) : (s.event p ev g).clock = s.clock := noted_clock (noted_event s p ev g)
@[simp] theorem event_sec (s : State) (p : Page) (ev : Nat) (g : EvTag) : (s.event p ev g).sec = s.sec := noted_sec (noted_event s p ev g)
@[simp] theorem pin_event (s : State) (p : Page) (ev : Nat) (g : EvTag) (q z : Nat) : (s.event p ev g).pin q z = s.pin q z := noted_pin (noted_event s p ev g) q z
@[simp] theorem tile_event (s : State) (p : Page) (ev : Nat) (g : EvTag) (q : Nat) : (s.event p ev g).tile q = s.tile q := noted_tile (noted_event s p ev g) q
@[simp] theorem port_event (s : State) (p : Page) (ev : Nat) (g : EvTag) (q : Nat) : (s.event p ev g).port q = s.port q := noted_port (noted_event s p ev g) q
@[simp] theorem stream_event (s : State) (p : Page) (ev : Nat) (g : EvTag) (q : Nat) : (s.event p ev g).stream q = s.stream q := noted_stream (noted_event s p ev g) q
@[simp] theorem ring_event (s : State) (p : Page) (ev : Nat) (g : EvTag) (q : Nat) : (s.event p ev g).ring q = s.ring q := noted_ring (noted_event s p ev g) q
@[simp] theorem eng_event (s : State) (p : Page) (ev : Nat) (g : EvTag) (q : Nat) : (s.event p ev g).eng q = s.eng q := noted_eng (noted_event s p ev g) q
@[simp] theorem cnt_event (s : State) (p : Page) (ev : Nat) (g : EvTag) (q : Nat) : (s.event p ev g).cnt q = s.cnt q := noted_cnt (noted_event s p ev g) q
@[simp] theorem dma_event (s : State) (p : Page) (ev : Nat) (g : EvTag) (q z : Nat) : (s.event p ev g).dma q z = s.dma q z := noted_dma (noted_event s p ev g) q z
theorem word_event (s : State) (p : Page) (ev : Nat) (g : EvTag) (q : Nat) (hq : ¬ noticeWord q) : (s.event p ev g).word q = s.word q := (noted_event s p ev g).1 q hq
theorem get_event (s : State) (p : Page) (ev : Nat) (g : EvTag) (q : Field) (hq : ¬ noticeWord q.addr) : (s.event p ev g).get q = s.get q := noted_get (noted_event s p ev g) q hq
theorem bit_event (s : State) (p : Page) (ev : Nat) (g : EvTag) (q : Field) (hq : ¬ noticeWord q.addr) : (s.event p ev g).bit q = s.bit q := noted_bit (noted_event s p ev g) q hq

@[simp] theorem eventInst_pending (s : State) (p : Page) (i ev : Nat) (g : EvTag) : (s.eventInst p i ev g).pending = s.pending := noted_pending (noted_eventInst s p i ev g)
@[simp] theorem eventInst_stg (s : State) (p : Page) (i ev : Nat) (g : EvTag) : (s.eventInst p i ev g).stg = s.stg := noted_stg (noted_eventInst s p i ev g)
@[simp] theorem eventInst_wait (s : State) (p : Page) (i ev : Nat) (g : EvTag) : (s.eventInst p i ev g).wait = s.wait := noted_wait (noted_eventInst s p i ev g)
@[simp] theorem eventInst_busRead (s : State) (p : Page) (i ev : Nat) (g : EvTag) : (s.eventInst p i ev g).busRead = s.busRead := noted_busRead (noted_eventInst s p i ev g)
@[simp] theorem eventInst_busBytes (s : State) (p : Page) (i ev : Nat) (g : EvTag) : (s.eventInst p i ev g).busBytes = s.busBytes := noted_busBytes (noted_eventInst s p i ev g)
@[simp] theorem eventInst_free (s : State) (p : Page) (i ev : Nat) (g : EvTag) : (s.eventInst p i ev g).free = s.free := noted_free (noted_eventInst s p i ev g)
@[simp] theorem eventInst_time (s : State) (p : Page) (i ev : Nat) (g : EvTag) : (s.eventInst p i ev g).time = s.time := noted_time (noted_eventInst s p i ev g)
@[simp] theorem eventInst_flt (s : State) (p : Page) (i ev : Nat) (g : EvTag) : (s.eventInst p i ev g).flt = s.flt := noted_flt (noted_eventInst s p i ev g)
@[simp] theorem eventInst_contained (s : State) (p : Page) (i ev : Nat) (g : EvTag) : (s.eventInst p i ev g).contained = s.contained := noted_contained (noted_eventInst s p i ev g)
@[simp] theorem eventInst_latch (s : State) (p : Page) (i ev : Nat) (g : EvTag) : (s.eventInst p i ev g).latch = s.latch := noted_latch (noted_eventInst s p i ev g)
@[simp] theorem eventInst_deferred (s : State) (p : Page) (i ev : Nat) (g : EvTag) : (s.eventInst p i ev g).deferred = s.deferred := noted_deferred (noted_eventInst s p i ev g)
@[simp] theorem eventInst_v24Rev (s : State) (p : Page) (i ev : Nat) (g : EvTag) : (s.eventInst p i ev g).v24Rev = s.v24Rev := noted_v24Rev (noted_eventInst s p i ev g)
@[simp] theorem eventInst_rtcNs (s : State) (p : Page) (i ev : Nat) (g : EvTag) : (s.eventInst p i ev g).rtcNs = s.rtcNs := noted_rtcNs (noted_eventInst s p i ev g)
@[simp] theorem eventInst_pins (s : State) (p : Page) (i ev : Nat) (g : EvTag) : (s.eventInst p i ev g).pins = s.pins := noted_pins (noted_eventInst s p i ev g)
@[simp] theorem eventInst_gio (s : State) (p : Page) (i ev : Nat) (g : EvTag) : (s.eventInst p i ev g).gio = s.gio := noted_gio (noted_eventInst s p i ev g)
@[simp] theorem eventInst_tiles (s : State) (p : Page) (i ev : Nat) (g : EvTag) : (s.eventInst p i ev g).tiles = s.tiles := noted_tiles (noted_eventInst s p i ev g)
@[simp] theorem eventInst_sched (s : State) (p : Page) (i ev : Nat) (g : EvTag) : (s.eventInst p i ev g).sched = s.sched := noted_sched (noted_eventInst s p i ev g)
@[simp] theorem eventInst_ports (s : State) (p : Page) (i ev : Nat) (g : EvTag) : (s.eventInst p i ev g).ports = s.ports := noted_ports (noted_eventInst s p i ev g)
@[simp] theorem eventInst_engs (s : State) (p : Page) (i ev : Nat) (g : EvTag) : (s.eventInst p i ev g).engs = s.engs := noted_engs (noted_eventInst s p i ev g)
@[simp] theorem eventInst_dmas (s : State) (p : Page) (i ev : Nat) (g : EvTag) : (s.eventInst p i ev g).dmas = s.dmas := noted_dmas (noted_eventInst s p i ev g)
@[simp] theorem eventInst_mem (s : State) (p : Page) (i ev : Nat) (g : EvTag) : (s.eventInst p i ev g).mem = s.mem := noted_mem (noted_eventInst s p i ev g)
@[simp] theorem eventInst_fab (s : State) (p : Page) (i ev : Nat) (g : EvTag) : (s.eventInst p i ev g).fab = s.fab := noted_fab (noted_eventInst s p i ev g)
@[simp] theorem eventInst_rcfg (s : State) (p : Page) (i ev : Nat) (g : EvTag) : (s.eventInst p i ev g).rcfg = s.rcfg := noted_rcfg (noted_eventInst s p i ev g)
@[simp] theorem eventInst_pwr (s : State) (p : Page) (i ev : Nat) (g : EvTag) : (s.eventInst p i ev g).pwr = s.pwr := noted_pwr (noted_eventInst s p i ev g)
@[simp] theorem eventInst_host (s : State) (p : Page) (i ev : Nat) (g : EvTag) : (s.eventInst p i ev g).host = s.host := noted_host (noted_eventInst s p i ev g)
@[simp] theorem eventInst_load (s : State) (p : Page) (i ev : Nat) (g : EvTag) : (s.eventInst p i ev g).load = s.load := noted_load (noted_eventInst s p i ev g)
@[simp] theorem eventInst_clock (s : State) (p : Page) (i ev : Nat) (g : EvTag) : (s.eventInst p i ev g).clock = s.clock := noted_clock (noted_eventInst s p i ev g)
@[simp] theorem eventInst_sec (s : State) (p : Page) (i ev : Nat) (g : EvTag) : (s.eventInst p i ev g).sec = s.sec := noted_sec (noted_eventInst s p i ev g)
@[simp] theorem pin_eventInst (s : State) (p : Page) (i ev : Nat) (g : EvTag) (q z : Nat) : (s.eventInst p i ev g).pin q z = s.pin q z := noted_pin (noted_eventInst s p i ev g) q z
@[simp] theorem tile_eventInst (s : State) (p : Page) (i ev : Nat) (g : EvTag) (q : Nat) : (s.eventInst p i ev g).tile q = s.tile q := noted_tile (noted_eventInst s p i ev g) q
@[simp] theorem port_eventInst (s : State) (p : Page) (i ev : Nat) (g : EvTag) (q : Nat) : (s.eventInst p i ev g).port q = s.port q := noted_port (noted_eventInst s p i ev g) q
@[simp] theorem stream_eventInst (s : State) (p : Page) (i ev : Nat) (g : EvTag) (q : Nat) : (s.eventInst p i ev g).stream q = s.stream q := noted_stream (noted_eventInst s p i ev g) q
@[simp] theorem ring_eventInst (s : State) (p : Page) (i ev : Nat) (g : EvTag) (q : Nat) : (s.eventInst p i ev g).ring q = s.ring q := noted_ring (noted_eventInst s p i ev g) q
@[simp] theorem eng_eventInst (s : State) (p : Page) (i ev : Nat) (g : EvTag) (q : Nat) : (s.eventInst p i ev g).eng q = s.eng q := noted_eng (noted_eventInst s p i ev g) q
@[simp] theorem cnt_eventInst (s : State) (p : Page) (i ev : Nat) (g : EvTag) (q : Nat) : (s.eventInst p i ev g).cnt q = s.cnt q := noted_cnt (noted_eventInst s p i ev g) q
@[simp] theorem dma_eventInst (s : State) (p : Page) (i ev : Nat) (g : EvTag) (q z : Nat) : (s.eventInst p i ev g).dma q z = s.dma q z := noted_dma (noted_eventInst s p i ev g) q z
theorem word_eventInst (s : State) (p : Page) (i ev : Nat) (g : EvTag) (q : Nat) (hq : ¬ noticeWord q) : (s.eventInst p i ev g).word q = s.word q := (noted_eventInst s p i ev g).1 q hq
theorem get_eventInst (s : State) (p : Page) (i ev : Nat) (g : EvTag) (q : Field) (hq : ¬ noticeWord q.addr) : (s.eventInst p i ev g).get q = s.get q := noted_get (noted_eventInst s p i ev g) q hq
theorem bit_eventInst (s : State) (p : Page) (i ev : Nat) (g : EvTag) (q : Field) (hq : ¬ noticeWord q.addr) : (s.eventInst p i ev g).bit q = s.bit q := noted_bit (noted_eventInst s p i ev g) q hq

@[simp] theorem srcFire_pending (s : State) (i : Nat) (h : i < 768) : (s.srcFire i).pending = s.pending := noted_pending (noted_srcFire s i h)
@[simp] theorem srcFire_stg (s : State) (i : Nat) (h : i < 768) : (s.srcFire i).stg = s.stg := noted_stg (noted_srcFire s i h)
@[simp] theorem srcFire_wait (s : State) (i : Nat) (h : i < 768) : (s.srcFire i).wait = s.wait := noted_wait (noted_srcFire s i h)
@[simp] theorem srcFire_busRead (s : State) (i : Nat) (h : i < 768) : (s.srcFire i).busRead = s.busRead := noted_busRead (noted_srcFire s i h)
@[simp] theorem srcFire_busBytes (s : State) (i : Nat) (h : i < 768) : (s.srcFire i).busBytes = s.busBytes := noted_busBytes (noted_srcFire s i h)
@[simp] theorem srcFire_free (s : State) (i : Nat) (h : i < 768) : (s.srcFire i).free = s.free := noted_free (noted_srcFire s i h)
@[simp] theorem srcFire_time (s : State) (i : Nat) (h : i < 768) : (s.srcFire i).time = s.time := noted_time (noted_srcFire s i h)
@[simp] theorem srcFire_flt (s : State) (i : Nat) (h : i < 768) : (s.srcFire i).flt = s.flt := noted_flt (noted_srcFire s i h)
@[simp] theorem srcFire_contained (s : State) (i : Nat) (h : i < 768) : (s.srcFire i).contained = s.contained := noted_contained (noted_srcFire s i h)
@[simp] theorem srcFire_latch (s : State) (i : Nat) (h : i < 768) : (s.srcFire i).latch = s.latch := noted_latch (noted_srcFire s i h)
@[simp] theorem srcFire_deferred (s : State) (i : Nat) (h : i < 768) : (s.srcFire i).deferred = s.deferred := noted_deferred (noted_srcFire s i h)
@[simp] theorem srcFire_v24Rev (s : State) (i : Nat) (h : i < 768) : (s.srcFire i).v24Rev = s.v24Rev := noted_v24Rev (noted_srcFire s i h)
@[simp] theorem srcFire_rtcNs (s : State) (i : Nat) (h : i < 768) : (s.srcFire i).rtcNs = s.rtcNs := noted_rtcNs (noted_srcFire s i h)
@[simp] theorem srcFire_pins (s : State) (i : Nat) (h : i < 768) : (s.srcFire i).pins = s.pins := noted_pins (noted_srcFire s i h)
@[simp] theorem srcFire_gio (s : State) (i : Nat) (h : i < 768) : (s.srcFire i).gio = s.gio := noted_gio (noted_srcFire s i h)
@[simp] theorem srcFire_tiles (s : State) (i : Nat) (h : i < 768) : (s.srcFire i).tiles = s.tiles := noted_tiles (noted_srcFire s i h)
@[simp] theorem srcFire_sched (s : State) (i : Nat) (h : i < 768) : (s.srcFire i).sched = s.sched := noted_sched (noted_srcFire s i h)
@[simp] theorem srcFire_ports (s : State) (i : Nat) (h : i < 768) : (s.srcFire i).ports = s.ports := noted_ports (noted_srcFire s i h)
@[simp] theorem srcFire_engs (s : State) (i : Nat) (h : i < 768) : (s.srcFire i).engs = s.engs := noted_engs (noted_srcFire s i h)
@[simp] theorem srcFire_dmas (s : State) (i : Nat) (h : i < 768) : (s.srcFire i).dmas = s.dmas := noted_dmas (noted_srcFire s i h)
@[simp] theorem srcFire_mem (s : State) (i : Nat) (h : i < 768) : (s.srcFire i).mem = s.mem := noted_mem (noted_srcFire s i h)
@[simp] theorem srcFire_fab (s : State) (i : Nat) (h : i < 768) : (s.srcFire i).fab = s.fab := noted_fab (noted_srcFire s i h)
@[simp] theorem srcFire_rcfg (s : State) (i : Nat) (h : i < 768) : (s.srcFire i).rcfg = s.rcfg := noted_rcfg (noted_srcFire s i h)
@[simp] theorem srcFire_pwr (s : State) (i : Nat) (h : i < 768) : (s.srcFire i).pwr = s.pwr := noted_pwr (noted_srcFire s i h)
@[simp] theorem srcFire_host (s : State) (i : Nat) (h : i < 768) : (s.srcFire i).host = s.host := noted_host (noted_srcFire s i h)
@[simp] theorem srcFire_load (s : State) (i : Nat) (h : i < 768) : (s.srcFire i).load = s.load := noted_load (noted_srcFire s i h)
@[simp] theorem srcFire_clock (s : State) (i : Nat) (h : i < 768) : (s.srcFire i).clock = s.clock := noted_clock (noted_srcFire s i h)
@[simp] theorem srcFire_sec (s : State) (i : Nat) (h : i < 768) : (s.srcFire i).sec = s.sec := noted_sec (noted_srcFire s i h)
@[simp] theorem pin_srcFire (s : State) (i : Nat) (h : i < 768) (q z : Nat) : (s.srcFire i).pin q z = s.pin q z := noted_pin (noted_srcFire s i h) q z
@[simp] theorem tile_srcFire (s : State) (i : Nat) (h : i < 768) (q : Nat) : (s.srcFire i).tile q = s.tile q := noted_tile (noted_srcFire s i h) q
@[simp] theorem port_srcFire (s : State) (i : Nat) (h : i < 768) (q : Nat) : (s.srcFire i).port q = s.port q := noted_port (noted_srcFire s i h) q
@[simp] theorem stream_srcFire (s : State) (i : Nat) (h : i < 768) (q : Nat) : (s.srcFire i).stream q = s.stream q := noted_stream (noted_srcFire s i h) q
@[simp] theorem ring_srcFire (s : State) (i : Nat) (h : i < 768) (q : Nat) : (s.srcFire i).ring q = s.ring q := noted_ring (noted_srcFire s i h) q
@[simp] theorem eng_srcFire (s : State) (i : Nat) (h : i < 768) (q : Nat) : (s.srcFire i).eng q = s.eng q := noted_eng (noted_srcFire s i h) q
@[simp] theorem cnt_srcFire (s : State) (i : Nat) (h : i < 768) (q : Nat) : (s.srcFire i).cnt q = s.cnt q := noted_cnt (noted_srcFire s i h) q
@[simp] theorem dma_srcFire (s : State) (i : Nat) (h : i < 768) (q z : Nat) : (s.srcFire i).dma q z = s.dma q z := noted_dma (noted_srcFire s i h) q z
theorem word_srcFire (s : State) (i : Nat) (h : i < 768) (q : Nat) (hq : ¬ noticeWord q) : (s.srcFire i).word q = s.word q := (noted_srcFire s i h).1 q hq
theorem get_srcFire (s : State) (i : Nat) (h : i < 768) (q : Field) (hq : ¬ noticeWord q.addr) : (s.srcFire i).get q = s.get q := noted_get (noted_srcFire s i h) q hq
theorem bit_srcFire (s : State) (i : Nat) (h : i < 768) (q : Field) (hq : ¬ noticeWord q.addr) : (s.srcFire i).bit q = s.bit q := noted_bit (noted_srcFire s i h) q hq

@[simp] theorem pend_pending (s : State) (p : Page) (m : Nat) : (s.pend p m).pending = s.pending := by rw [noted_pending (noted_pend s p m)]; rfl
@[simp] theorem pend_stg (s : State) (p : Page) (m : Nat) : (s.pend p m).stg = s.stg := by rw [noted_stg (noted_pend s p m)]; rfl
@[simp] theorem pend_wait (s : State) (p : Page) (m : Nat) : (s.pend p m).wait = s.wait := by rw [noted_wait (noted_pend s p m)]; rfl
@[simp] theorem pend_busRead (s : State) (p : Page) (m : Nat) : (s.pend p m).busRead = s.busRead := by rw [noted_busRead (noted_pend s p m)]; rfl
@[simp] theorem pend_busBytes (s : State) (p : Page) (m : Nat) : (s.pend p m).busBytes = s.busBytes := by rw [noted_busBytes (noted_pend s p m)]; rfl
@[simp] theorem pend_free (s : State) (p : Page) (m : Nat) : (s.pend p m).free = s.free := by rw [noted_free (noted_pend s p m)]; rfl
@[simp] theorem pend_time (s : State) (p : Page) (m : Nat) : (s.pend p m).time = s.time := by rw [noted_time (noted_pend s p m)]; rfl
@[simp] theorem pend_flt (s : State) (p : Page) (m : Nat) : (s.pend p m).flt = s.flt := by rw [noted_flt (noted_pend s p m)]; rfl
@[simp] theorem pend_contained (s : State) (p : Page) (m : Nat) : (s.pend p m).contained = s.contained := by rw [noted_contained (noted_pend s p m)]; rfl
@[simp] theorem pend_latch (s : State) (p : Page) (m : Nat) : (s.pend p m).latch = s.latch := by rw [noted_latch (noted_pend s p m)]; rfl
@[simp] theorem pend_deferred (s : State) (p : Page) (m : Nat) : (s.pend p m).deferred = s.deferred := by rw [noted_deferred (noted_pend s p m)]; rfl
@[simp] theorem pend_v24Rev (s : State) (p : Page) (m : Nat) : (s.pend p m).v24Rev = s.v24Rev := by rw [noted_v24Rev (noted_pend s p m)]; rfl
@[simp] theorem pend_rtcNs (s : State) (p : Page) (m : Nat) : (s.pend p m).rtcNs = s.rtcNs := by rw [noted_rtcNs (noted_pend s p m)]; rfl
@[simp] theorem pend_pins (s : State) (p : Page) (m : Nat) : (s.pend p m).pins = s.pins := by rw [noted_pins (noted_pend s p m)]; rfl
@[simp] theorem pend_gio (s : State) (p : Page) (m : Nat) : (s.pend p m).gio = s.gio := by rw [noted_gio (noted_pend s p m)]; rfl
@[simp] theorem pend_tiles (s : State) (p : Page) (m : Nat) : (s.pend p m).tiles = s.tiles := by rw [noted_tiles (noted_pend s p m)]; rfl
@[simp] theorem pend_sched (s : State) (p : Page) (m : Nat) : (s.pend p m).sched = s.sched := by rw [noted_sched (noted_pend s p m)]; rfl
@[simp] theorem pend_ports (s : State) (p : Page) (m : Nat) : (s.pend p m).ports = s.ports := by rw [noted_ports (noted_pend s p m)]; rfl
@[simp] theorem pend_engs (s : State) (p : Page) (m : Nat) : (s.pend p m).engs = s.engs := by rw [noted_engs (noted_pend s p m)]; rfl
@[simp] theorem pend_dmas (s : State) (p : Page) (m : Nat) : (s.pend p m).dmas = s.dmas := by rw [noted_dmas (noted_pend s p m)]; rfl
@[simp] theorem pend_mem (s : State) (p : Page) (m : Nat) : (s.pend p m).mem = s.mem := by rw [noted_mem (noted_pend s p m)]; rfl
@[simp] theorem pend_fab (s : State) (p : Page) (m : Nat) : (s.pend p m).fab = s.fab := by rw [noted_fab (noted_pend s p m)]; rfl
@[simp] theorem pend_rcfg (s : State) (p : Page) (m : Nat) : (s.pend p m).rcfg = s.rcfg := by rw [noted_rcfg (noted_pend s p m)]; rfl
@[simp] theorem pend_pwr (s : State) (p : Page) (m : Nat) : (s.pend p m).pwr = s.pwr := by rw [noted_pwr (noted_pend s p m)]; rfl
@[simp] theorem pend_host (s : State) (p : Page) (m : Nat) : (s.pend p m).host = s.host := by rw [noted_host (noted_pend s p m)]; rfl
@[simp] theorem pend_load (s : State) (p : Page) (m : Nat) : (s.pend p m).load = s.load := by rw [noted_load (noted_pend s p m)]; rfl
@[simp] theorem pend_clock (s : State) (p : Page) (m : Nat) : (s.pend p m).clock = s.clock := by rw [noted_clock (noted_pend s p m)]; rfl
@[simp] theorem pend_sec (s : State) (p : Page) (m : Nat) : (s.pend p m).sec = s.sec := by rw [noted_sec (noted_pend s p m)]; rfl
@[simp] theorem pin_pend (s : State) (p : Page) (m : Nat) (q z : Nat) : (s.pend p m).pin q z = s.pin q z := by rw [noted_pin (noted_pend s p m)]; rfl
@[simp] theorem tile_pend (s : State) (p : Page) (m : Nat) (q : Nat) : (s.pend p m).tile q = s.tile q := by rw [noted_tile (noted_pend s p m)]; rfl
@[simp] theorem port_pend (s : State) (p : Page) (m : Nat) (q : Nat) : (s.pend p m).port q = s.port q := by rw [noted_port (noted_pend s p m)]; rfl
@[simp] theorem stream_pend (s : State) (p : Page) (m : Nat) (q : Nat) : (s.pend p m).stream q = s.stream q := by rw [noted_stream (noted_pend s p m)]; rfl
@[simp] theorem ring_pend (s : State) (p : Page) (m : Nat) (q : Nat) : (s.pend p m).ring q = s.ring q := by rw [noted_ring (noted_pend s p m)]; rfl
@[simp] theorem eng_pend (s : State) (p : Page) (m : Nat) (q : Nat) : (s.pend p m).eng q = s.eng q := by rw [noted_eng (noted_pend s p m)]; rfl
@[simp] theorem cnt_pend (s : State) (p : Page) (m : Nat) (q : Nat) : (s.pend p m).cnt q = s.cnt q := by rw [noted_cnt (noted_pend s p m)]; rfl
@[simp] theorem dma_pend (s : State) (p : Page) (m : Nat) (q z : Nat) : (s.pend p m).dma q z = s.dma q z := by rw [noted_dma (noted_pend s p m)]; rfl
/-- No word of a page header is a notice word. -/
theorem quiet_header (p : Page) (o : Nat) (h : o < 0x40) : ¬ noticeWord (pageBase p + o) := by
  cases p <;> simp only [pageBase, noticeWord, irqPage, evfPage, evlPage, idPage, fltPage, latPage, licPage, pwrPage, secPage, memPage,
    fabPage, schPage, rngPage, evcPage, evsPage, pinPage, inPage, outPage, calPage, engPage, dmaPage, clPage] <;> omega

theorem word_pend_own (s : State) (p : Page) (m : Nat) :
    (s.pend p m).word (pageBase p + 0x18) = s.word (pageBase p + 0x18) ||| BitVec.ofNat 32 m := by
  rw [(noted_pend s p m).1 _ (quiet_header p 0x18 (by omega)), word_setWord, if_pos rfl]

theorem word_pend (s : State) (p : Page) (m : Nat) (q : Nat) (hq : ¬ noticeWord q) (hp : q ≠ pageBase p + 0x18) :
    (s.pend p m).word q = s.word q := by
  rw [(noted_pend s p m).1 q hq, word_setWord, if_neg hp]

theorem get_pend (s : State) (p : Page) (m : Nat) (q : Field) (hq : ¬ noticeWord q.addr) (hp : q.addr ≠ pageBase p + 0x18) :
    (s.pend p m).get q = s.get q := by
  simp only [State.get, State.bit, word_pend s p m q.addr hq hp]

theorem bit_pend (s : State) (p : Page) (m : Nat) (q : Field) (hq : ¬ noticeWord q.addr) (hp : q.addr ≠ pageBase p + 0x18) :
    (s.pend p m).bit q = s.bit q := by
  simp only [State.get, State.bit, word_pend s p m q.addr hq hp]

@[simp] theorem done_pending (s : State) (p : Page) : (s.done p).pending = s.pending := by rw [noted_pending (noted_done s p)]; rfl
@[simp] theorem done_stg (s : State) (p : Page) : (s.done p).stg = s.stg := by rw [noted_stg (noted_done s p)]; rfl
@[simp] theorem done_wait (s : State) (p : Page) : (s.done p).wait = s.wait := by rw [noted_wait (noted_done s p)]; rfl
@[simp] theorem done_busRead (s : State) (p : Page) : (s.done p).busRead = s.busRead := by rw [noted_busRead (noted_done s p)]; rfl
@[simp] theorem done_busBytes (s : State) (p : Page) : (s.done p).busBytes = s.busBytes := by rw [noted_busBytes (noted_done s p)]; rfl
@[simp] theorem done_free (s : State) (p : Page) : (s.done p).free = s.free := by rw [noted_free (noted_done s p)]; rfl
@[simp] theorem done_time (s : State) (p : Page) : (s.done p).time = s.time := by rw [noted_time (noted_done s p)]; rfl
@[simp] theorem done_flt (s : State) (p : Page) : (s.done p).flt = s.flt := by rw [noted_flt (noted_done s p)]; rfl
@[simp] theorem done_contained (s : State) (p : Page) : (s.done p).contained = s.contained := by rw [noted_contained (noted_done s p)]; rfl
@[simp] theorem done_latch (s : State) (p : Page) : (s.done p).latch = s.latch := by rw [noted_latch (noted_done s p)]; rfl
@[simp] theorem done_deferred (s : State) (p : Page) : (s.done p).deferred = s.deferred := by rw [noted_deferred (noted_done s p)]; rfl
@[simp] theorem done_v24Rev (s : State) (p : Page) : (s.done p).v24Rev = s.v24Rev := by rw [noted_v24Rev (noted_done s p)]; rfl
@[simp] theorem done_rtcNs (s : State) (p : Page) : (s.done p).rtcNs = s.rtcNs := by rw [noted_rtcNs (noted_done s p)]; rfl
@[simp] theorem done_pins (s : State) (p : Page) : (s.done p).pins = s.pins := by rw [noted_pins (noted_done s p)]; rfl
@[simp] theorem done_gio (s : State) (p : Page) : (s.done p).gio = s.gio := by rw [noted_gio (noted_done s p)]; rfl
@[simp] theorem done_tiles (s : State) (p : Page) : (s.done p).tiles = s.tiles := by rw [noted_tiles (noted_done s p)]; rfl
@[simp] theorem done_sched (s : State) (p : Page) : (s.done p).sched = s.sched := by rw [noted_sched (noted_done s p)]; rfl
@[simp] theorem done_ports (s : State) (p : Page) : (s.done p).ports = s.ports := by rw [noted_ports (noted_done s p)]; rfl
@[simp] theorem done_engs (s : State) (p : Page) : (s.done p).engs = s.engs := by rw [noted_engs (noted_done s p)]; rfl
@[simp] theorem done_dmas (s : State) (p : Page) : (s.done p).dmas = s.dmas := by rw [noted_dmas (noted_done s p)]; rfl
@[simp] theorem done_mem (s : State) (p : Page) : (s.done p).mem = s.mem := by rw [noted_mem (noted_done s p)]; rfl
@[simp] theorem done_fab (s : State) (p : Page) : (s.done p).fab = s.fab := by rw [noted_fab (noted_done s p)]; rfl
@[simp] theorem done_rcfg (s : State) (p : Page) : (s.done p).rcfg = s.rcfg := by rw [noted_rcfg (noted_done s p)]; rfl
@[simp] theorem done_pwr (s : State) (p : Page) : (s.done p).pwr = s.pwr := by rw [noted_pwr (noted_done s p)]; rfl
@[simp] theorem done_host (s : State) (p : Page) : (s.done p).host = s.host := by rw [noted_host (noted_done s p)]; rfl
@[simp] theorem done_load (s : State) (p : Page) : (s.done p).load = s.load := by rw [noted_load (noted_done s p)]; rfl
@[simp] theorem done_clock (s : State) (p : Page) : (s.done p).clock = s.clock := by rw [noted_clock (noted_done s p)]; rfl
@[simp] theorem done_sec (s : State) (p : Page) : (s.done p).sec = s.sec := by rw [noted_sec (noted_done s p)]; rfl
@[simp] theorem pin_done (s : State) (p : Page) (q z : Nat) : (s.done p).pin q z = s.pin q z := by rw [noted_pin (noted_done s p)]; rfl
@[simp] theorem tile_done (s : State) (p : Page) (q : Nat) : (s.done p).tile q = s.tile q := by rw [noted_tile (noted_done s p)]; rfl
@[simp] theorem port_done (s : State) (p : Page) (q : Nat) : (s.done p).port q = s.port q := by rw [noted_port (noted_done s p)]; rfl
@[simp] theorem stream_done (s : State) (p : Page) (q : Nat) : (s.done p).stream q = s.stream q := by rw [noted_stream (noted_done s p)]; rfl
@[simp] theorem ring_done (s : State) (p : Page) (q : Nat) : (s.done p).ring q = s.ring q := by rw [noted_ring (noted_done s p)]; rfl
@[simp] theorem eng_done (s : State) (p : Page) (q : Nat) : (s.done p).eng q = s.eng q := by rw [noted_eng (noted_done s p)]; rfl
@[simp] theorem cnt_done (s : State) (p : Page) (q : Nat) : (s.done p).cnt q = s.cnt q := by rw [noted_cnt (noted_done s p)]; rfl
@[simp] theorem dma_done (s : State) (p : Page) (q z : Nat) : (s.done p).dma q z = s.dma q z := by rw [noted_dma (noted_done s p)]; rfl
theorem word_done (s : State) (p : Page) (q : Nat) (hq : ¬ noticeWord q) (hp : q ≠ pageBase p + 0x18) :
    (s.done p).word q = s.word q := by
  rw [(noted_done s p).1 q hq, word_setWord, if_neg hp]

theorem get_done (s : State) (p : Page) (q : Field) (hq : ¬ noticeWord q.addr) (hp : q.addr ≠ pageBase p + 0x18) :
    (s.done p).get q = s.get q := by
  simp only [State.get, State.bit, word_done s p q.addr hq hp]

theorem bit_done (s : State) (p : Page) (q : Field) (hq : ¬ noticeWord q.addr) (hp : q.addr ≠ pageBase p + 0x18) :
    (s.done p).bit q = s.bit q := by
  simp only [State.get, State.bit, word_done s p q.addr hq hp]

end Sys2Proof.Machine
end

