-- ==== Sys2Proof/WellFormed.lean ====
section
/-! DEFINITION. Which commands are well formed: an operand that the type leaves wider than the spec's field stays within it. -/

namespace Sys2Proof

/-- A tag's numbers fit the fields of R266, and the payload has LEN bytes. -/
def Item.ok (it : Item) : Bool :=
  it.tag.stream < 4096 && it.tag.seq < 2 ^ 48 && it.tag.ctx < 4096 && it.tag.pri < 4 && it.tag.src < 65536 &&
    it.tag.dst < 65536 && it.tag.typ < 256 && -128 ≤ it.tag.exp && it.tag.exp < 128 && it.tag.flags < 65536 &&
    it.tag.len < 65536 && it.tag.chk < 2 ^ 32 && it.tag.time < 2 ^ 64 && it.payload.length == it.tag.len

/-- A unit's 16-bit ID (R15). -/
def Writer.ok : Writer → Bool
  | .unit id => id < 65536
  | _ => true

/-- The well-formed commands: register accesses are aligned and in the writer's window (R357), the host also reaching the other chain
positions, configuration space and BAR4; bus ranges have a length, and work items fit their tag's fields; a ring entry has 64 bytes,
and its payload at most 4,096 (R277); a LOAD frame carries at most 4,096 bytes (R337); SID and GEN are 4 bytes (R385, R387). -/
def Instr.wellFormed : Instr → Bool
  | .registerWrite w a _ => w.ok && a % 4 == 0 && a < 0x4040000 && (a < 0x400000 || w == .host)
  | .bar2Access _ (.read n) => 0 < n
  | .bar2Access _ (.write bs) => !bs.isEmpty
  | .cxlMemAccess _ (.read n) _ => n == 64
  | .cxlMemAccess _ (.write bs) _ => 0 < bs.length && bs.length ≤ 64
  | .item _ it => it.ok
  | .load _ off bs => off < 2 ^ 64 && bs.length ≤ 4096
  | .prog _ sid _ _ gen _ => sid < 2 ^ 32 && gen < 2 ^ 32
  | .ideGo _ sid _ _ _ => sid < 2 ^ 32
  | .ideStop _ sid _ _ => sid < 2 ^ 32
  | .sessionClose _ _ sid => sid < 2 ^ 32
  | .quote _ _ nonce _ sid _ _ => nonce < 2 ^ 256 && sid < 2 ^ 32
  | .fabricPortSend _ _ it => it.ok
  | .ringEntryTake _ e => e.bytes.length == 64 && e.read.length ≤ 4096
  | .credit _ cs => cs.length == 4
  | .itemAcc _ _ q => q < 2 ^ 48
  | .itemAccept _ q => 0 < q && q < 2 ^ 48
  | .itemTake u => u < 65536
  | .itemDispatch u => u < 65536
  | .quiesceTimeout u => u < 65536
  | .quiesceReturn u => u < 65536
  | .replayReissue u => u < 65536
  | .seqPass _ cs => cs.length ≤ 16
  | _ => true

end Sys2Proof
end

