-- ==== Sys2Proof/Tests/Slice0.lean ====
section
/-! SUPPORT. The model's own tests: an ill-formed command for each check of WellFormed, the spec's worked examples, and for every
statement with hypotheses states and operands that meet them. -/

set_option Elab.async false

namespace Sys2Proof.Tests

open Sys2Proof.Machine

/-! ### Parts of the witness states -/

def tag0 : Tag := { stream := 1, seq := 1, ctx := 0, pri := 0, src := 0, dst := 0, typ := 0, exp := 0, flags := 0, len := 0, chk := 0, time := 0, zeroBad := false }
def item0 : Item := { tag := tag0, payload := [] }
def flight0 : Flight := { item := item0, phase := .held, isD := false }
def flt0 : FltRec := { rseq := 1, cls := 2, esc := false, remote := false, orig := 0, unit := 0, sub := 0, cause := 0, isrc := 0, info := 0, time := 0, cal := 0 }
/-- A stream whose bytes hold numbers: an offset, a size in bytes and a value each, the later ones over the earlier. -/
def persOf (l : List (Nat × Nat × Nat)) : PersStream :=
  { bytes := l.foldl (fun m x => memWrite m x.1 (leBytes x.2.1 x.2.2)) [], chk := {} }

/-- The header of a stream for one device, with no section (R321): MAGIC, FMT_VER, FAMILY, DEVICE, STEP_MASK, NDEV, TOTAL_LEN,
TRAILER_OFF and TRAILER_LEN. -/
def streamHdr0 : List (Nat × Nat × Nat) :=
  [(0, 4, 0x53504446), (4, 2, 1), (6, 2, 0x0F0D), (8, 2, 0x8128), (10, 2, 1), (12, 1, 1), (16, 8, 5184), (24, 8, 5120), (32, 4, 64)]
def pers0 : PersStream := persOf streamHdr0

def inv0 : Inv := { stream := 5, seq := 1, handler := 2, pri := 1, entry := 10, addr := 0x100, len := 16, flags := 0, ctx := 0, queued := 0 }
/-- An owner operation of R382 for the unit whose serial is 0: OP, SLOT, AUTH_SLOT, challenge 9, a key of L 1, and no signature byte. -/
def ownerBody (op slot auth : Byte) (sigOk : Bool) : SignedBody :=
  { bytes := leBytes 4 0x574F4446 ++ [op, slot, auth, 0] ++ leBytes 16 0 ++ leBytes 32 9 ++
      (if op = 4 then leBytes 60 0 else [0, 0, 0, 1, 0, 0, 0, 5, 0, 0, 0, 1] ++ leBytes 48 0) ++ leBytes 4 0
    sigOk := sigOk }

/-- A debug token of R394 for the unit whose serial is 0, with challenge 9. -/
def tokenBody (scope notAfter : Nat) (auth : Byte) (sigOk : Bool) : SignedBody :=
  { bytes := leBytes 4 0x55444446 ++ leBytes 16 0 ++ leBytes 32 9 ++ leBytes 4 scope ++ leBytes 8 notAfter ++ [auth, 0, 0, 0] ++ leBytes 4 0
    sigOk := sigOk }
def body0 : SignedBody := { bytes := [], sigOk := true }

/-- A ring entry whose tag stands at its first 32 bytes (R266, R277). -/
def entryOf (g : Tag) : RingEntry := { bytes := tagBytes g ++ leBytes 32 0, read := [], readErr := false }
def entry0 : RingEntry := entryOf tag0
def cnt0 : CntSt := {}

/-- A frame header that arrives in order at a port after reset, with the type and the CRC of its content. -/
def hdrOf (m : LatMsg) (port : Fin 2 := 0) : FrameHdr :=
  { port := port, ftype := BitVec.ofNat 8 m.ftype, pri := 0, fseq := 1, ack := 0,
    crc := BitVec.ofNat 32 (crc32c (frameBody m.ftype 0 1 0 m.payload)) }

def hdr0 : FrameHdr := hdrOf .ack
def regs0 : EngRegs := {}
def iss0 : Issue := { eng := 0, slot := .x, paired := false, rsvd := false, stalls := 0, ecc := .clean }
def frame0 : Frame := { words := [], time := 0, stream := 0, last := false }

/-- What an `Except` answers, read off a check that computes. -/
theorem except_ok {ε α : Type} [DecidableEq α] {x : Except ε α} {y : α}
    (h : (match x with | .ok a => decide (a = y) | .error _ => false) = true) : x = .ok y := by
  cases x with
  | ok a => exact congrArg Except.ok (of_decide_eq_true h)
  | error c => cases h

theorem except_error {ε α : Type} [DecidableEq ε] {x : Except ε α} {y : ε}
    (h : (match x with | .ok _ => false | .error c => decide (c = y)) = true) : x = .error y := by
  cases x with
  | ok a => cases h
  | error c => exact congrArg Except.error (of_decide_eq_true h)

end Sys2Proof.Tests

namespace Sys2Proof.Machine

/-- A state in which engine `e` issues, with registers `r`. -/
def State.withEngine (s : State) (e : Nat) (r : EngRegs) : State :=
  ((s.setDom (domEngine e) true).setDom (domCluster (e / 8)) true).modEng e fun x => { x with run := some Tests.inv0, regs := r }

end Sys2Proof.Machine

namespace Sys2Proof.Tests

open Sys2Proof.Machine

/-! ### Engine statements: an engine that issues, and operands for each condition -/

/-- Engine 0 issues with registers `r`. -/
def engine0 (r : EngRegs) : State := State.reset.withEngine 0 r

theorem witness_AluResults : ∃ (s : State) (i : Issue), s.aloneReady i ∧ i.slot = .x :=
  ⟨engine0 regs0, iss0, by decide +kernel⟩

theorem witness_ShiftAndImmediateResults : ∃ (s : State) (i : Issue), s.aloneReady i ∧ i.slot = .x :=
  ⟨engine0 regs0, iss0, by decide +kernel⟩

/-- Registers of the most negative number in G3 and −1 in G4. -/
def regsNeg : EngRegs := { g := [(3, 0x80000000), (4, 0xFFFFFFFF)] }

theorem witness_HalvesDivisionAndWidth :
    (∃ (s : State) (i : Issue) (a b : Fin 64), s.aloneReady i ∧ i.slot = .x ∧ (s.eng i.eng).regs.rptOn = false ∧
      (s.eng i.eng).regs.gR b ≠ 0 ∧ ((s.eng i.eng).regs.gR a ≠ 0x80000000#32 ∨ (s.eng i.eng).regs.gR b ≠ 0xFFFFFFFF#32)) ∧
    (∃ (s : State) (i : Issue) (b : Fin 64), s.aloneReady i ∧ i.slot = .x ∧ (s.eng i.eng).regs.rptOn = false ∧ (s.eng i.eng).regs.gR b = 0) ∧
    (∃ (s : State) (i : Issue) (a b : Fin 64), s.aloneReady i ∧ i.slot = .x ∧ (s.eng i.eng).regs.rptOn = false ∧
      (s.eng i.eng).regs.gR a = 0x80000000#32 ∧ (s.eng i.eng).regs.gR b = 0xFFFFFFFF#32) ∧
    (∃ (s : State) (i : Issue), s.aloneReady i ∧ i.slot = .x ∧ (s.eng i.eng).regs.rptOn = true) ∧
    (∃ (s : State) (i : Issue) (a b : Fin 64) (k : Fin 4) (v : Int), s.aloneReady i ∧ i.slot = .x ∧
      v = wOperand ((s.eng i.eng).regs.wselR k) ((s.eng i.eng).regs.gR a) + wOperand ((s.eng i.eng).regs.wselR k) ((s.eng i.eng).regs.gR b) ∧
      fits (wselWidth 31 ((s.eng i.eng).regs.wselR k)) v = true) ∧
    (∃ (s : State) (i : Issue) (a b : Fin 64) (k : Fin 4) (v : Int), s.aloneReady i ∧ i.slot = .x ∧
      v = wOperand ((s.eng i.eng).regs.wselR k) ((s.eng i.eng).regs.gR a) - wOperand ((s.eng i.eng).regs.wselR k) ((s.eng i.eng).regs.gR b) ∧
      topOf (wselWidth 31 ((s.eng i.eng).regs.wselR k)) < v ∧ wselWraps ((s.eng i.eng).regs.wselR k) = false) :=
  ⟨⟨engine0 regsNeg, iss0, 3, 3, by decide +kernel⟩, ⟨engine0 regsNeg, iss0, 5, by decide +kernel⟩,
    ⟨engine0 regsNeg, iss0, 3, 4, by decide +kernel⟩, ⟨engine0 { regs0 with rptOn := true }, iss0, by decide +kernel⟩,
    ⟨engine0 { g := [(3, 5)] }, iss0, 3, 3, 0, _, by decide +kernel, rfl, rfl, by decide +kernel⟩,
    ⟨engine0 { g := [(3, 0x7FFFFFFF), (4, 0x80000000)] }, iss0, 3, 4, 0, _, by decide +kernel, rfl, rfl, by decide +kernel⟩⟩

theorem witness_MacResults :
    (∃ (s : State) (i : Issue) (n : Fin 8) (form : Fin 8) (mode sgn : Fin 4), s.aloneReady i ∧ i.slot = .x ∧ form.val < 3 ∧ n.val % 2 = 0 ∧
      sgn.val < 3 ∧ mode.val = 3) ∧
    (∃ (s : State) (i : Issue) (n : Fin 8) (imm : Byte), s.aloneReady i ∧ i.slot = .x ∧ n.val % 2 = 1 ∧
      -128 ≤ bexpTot (s.eng i.eng).regs.bexp + imm.toInt ∧ bexpTot (s.eng i.eng).regs.bexp + imm.toInt ≤ 127) ∧
    (∃ (s : State) (i : Issue) (imm : Byte), s.aloneReady i ∧ i.slot = .x ∧ 127 < bexpTot (s.eng i.eng).regs.bexp + imm.toInt) ∧
    (∃ (s : State) (i : Issue) (sh t : Int), s.aloneReady i ∧ i.slot = .x ∧
      sh = (getBits (s.eng i.eng).regs.bexp 4 0 : Int) - getBits (s.eng i.eng).regs.bexp 7 6 ∧
      t = bexpTot (s.eng i.eng).regs.bexp - sh ∧ -128 ≤ t ∧ t ≤ 127) :=
  ⟨⟨engine0 regs0, iss0, 6, 2, 3, 2, by decide +kernel⟩, ⟨engine0 regs0, iss0, 7, 0x80, by decide +kernel⟩,
    ⟨engine0 { regs0 with bexp := 0x00010000 }, iss0, 0x7F, by decide +kernel⟩,
    ⟨engine0 regs0, iss0, _, _, by decide +kernel, rfl, rfl, rfl, by decide +kernel⟩⟩

theorem witness_MoveResults :
    (∃ (s : State) (i : Issue) (k : BitVec 8), s.aloneReady i ∧ regOf k = none) ∧
    (∃ (s : State) (i : Issue) (k : BitVec 8) (d : Reg), s.aloneReady i ∧ regOf k = some d ∧ (d = .rpt ∨ d = .pc)) ∧
    (∃ (s : State) (i : Issue) (k : BitVec 8) (d : Reg), s.aloneReady i ∧ regOf k = some d ∧ d ≠ .rpt ∧ d ≠ .pc) ∧
    (∃ (s : State) (i : Issue) (k : BitVec 8) (imm : BitVec 18) (d : Reg), s.aloneReady i ∧ regOf k = some d ∧ imm.toNat < 0x10000 ∧
      ∃ j, d = .p j ∨ d = .b j) ∧
    (∃ (s : State) (i : Issue) (k : BitVec 8) (imm : BitVec 18) (d : Reg), s.aloneReady i ∧ regOf k = some d ∧ imm.toNat < 0x10000 ∧
      ∀ j, d ≠ .p j ∧ d ≠ .b j) ∧
    (∃ (s : State) (i : Issue) (imm : BitVec 18), s.aloneReady i ∧ 0x10000 ≤ imm.toNat) ∧
    (∃ (s : State) (i : Issue) (k src : BitVec 8) (part : Fin 4) (d c : Reg) (v : Int), s.aloneReady i ∧ regOf k = some d ∧
      regOf src = some c ∧ part.val ≠ 3 ∧ movValue (s.eng i.eng).regs part d c = some v ∧ d ≠ .rpt ∧ d ≠ .pc) ∧
    (∃ (s : State) (i : Issue) (k src : BitVec 8) (part : Fin 4) (d c : Reg), s.aloneReady i ∧ regOf k = some d ∧
      regOf src = some c ∧ part.val ≠ 3 ∧ movValue (s.eng i.eng).regs part d c = none) ∧
    (∃ (s : State) (i : Issue) (lim lim2 : BitVec 21), s.aloneReady i ∧ lim.toNat < 64 ∧ 64 ≤ lim2.toNat) :=
  ⟨⟨engine0 regs0, iss0, 0x90, by decide +kernel⟩, ⟨engine0 regs0, iss0, 0x8F, .pc, by decide +kernel⟩,
    ⟨engine0 regs0, iss0, 0x8D, .flg, by decide +kernel⟩,
    ⟨engine0 regs0, iss0, 0x4F, 0xFFFF, .p 15, by decide +kernel, by decide, by decide, 15, .inl rfl⟩,
    ⟨engine0 regs0, iss0, 0x3F, 0xFFFF, .g 63, by decide +kernel, by decide, by decide, fun _ => ⟨nofun, nofun⟩⟩,
    ⟨engine0 regs0, iss0, 0x10000, by decide +kernel⟩,
    ⟨engine0 { g := [(1, 7)] }, iss0, 0x40, 1, 0, .p 0, .g 1, 7, by decide +kernel⟩,
    ⟨engine0 regs0, iss0, 0x80, 0x40, 0, .acc 0, .p 0, by decide +kernel⟩,
    ⟨engine0 regs0, iss0, 63, 64, by decide +kernel⟩⟩

/-- P0 to P7 at addresses of each alignment, at the last byte that a store may write, and outside local memory. -/
def regsP : EngRegs :=
  { p := [(1, 0x1001), (2, 0x1002), (3, 0x1004), (4, 0xEFF8), (5, 0xF000), (6, 0x10000)] }

theorem witness_LoadsAndStores :
    (∃ (s : State) (i : Issue) (g : Fin 64) (m : MemAddr), s.aloneReady i ∧ i.slot = .y ∧ ((s.eng i.eng).regs.address m).exc = [] ∧
      ((s.eng i.eng).regs.address m).va < 0xF000 ∧ ((s.eng i.eng).regs.address m).va % 8 = 0 ∧ g.val % 2 = 0) ∧
    (∃ (s : State) (i : Issue) (g : Fin 64) (m : MemAddr), s.aloneReady i ∧ i.slot = .y ∧ ((s.eng i.eng).regs.address m).exc = [] ∧
      ((s.eng i.eng).regs.address m).va < 0x10000 ∧ ((s.eng i.eng).regs.address m).va % 2 ≠ 0 ∧ g.val % 2 = 1) ∧
    (∃ (s : State) (i : Issue) (m : MemAddr), s.aloneReady i ∧ i.slot = .y ∧ ((s.eng i.eng).regs.address m).exc = [] ∧
      ((s.eng i.eng).regs.address m).va < 0x10000 ∧ ((s.eng i.eng).regs.address m).va % 4 ≠ 0 ∧ ((s.eng i.eng).regs.address m).va % 2 = 0) ∧
    (∃ (s : State) (i : Issue) (g : Fin 64) (m : MemAddr), s.aloneReady i ∧ i.slot = .y ∧ ((s.eng i.eng).regs.address m).exc = [] ∧
      ((s.eng i.eng).regs.address m).va < 0x10000 ∧ ((s.eng i.eng).regs.address m).va % 8 ≠ 0 ∧ ((s.eng i.eng).regs.address m).va % 4 = 0 ∧
      g.val % 2 = 0) ∧
    (∃ (s : State) (i : Issue) (m : MemAddr), s.aloneReady i ∧ i.slot = .y ∧ ((s.eng i.eng).regs.address m).exc = [] ∧
      ((s.eng i.eng).regs.address m).va < 0x10000 ∧ 0xF000 ≤ ((s.eng i.eng).regs.address m).va ∧ ((s.eng i.eng).regs.address m).va % 4 = 0) ∧
    (∃ (s : State) (i : Issue) (m : MemAddr), s.aloneReady i ∧ i.slot = .y ∧ ((s.eng i.eng).regs.address m).exc = [1]) ∧
    (∃ (s : State) (i : Issue) (m : MemAddr), s.aloneReady i ∧ i.slot = .y ∧ ((s.eng i.eng).regs.address m).exc = [] ∧
      0x10000 ≤ ((s.eng i.eng).regs.address m).va ∧ (s.eng i.eng).regs.rptOn = true) :=
  ⟨⟨engine0 regsP, { iss0 with slot := .y }, 62, ⟨0, 4, 0⟩, by decide +kernel⟩,
    ⟨engine0 regsP, { iss0 with slot := .y }, 63, ⟨0, 1, 0⟩, by decide +kernel⟩,
    ⟨engine0 regsP, { iss0 with slot := .y }, ⟨0, 2, 0⟩, by decide +kernel⟩,
    ⟨engine0 regsP, { iss0 with slot := .y }, 0, ⟨2, 3, 0⟩, by decide +kernel⟩,
    ⟨engine0 regsP, { iss0 with slot := .y }, ⟨3, 5, 0x1FFF⟩, by decide +kernel⟩,
    ⟨engine0 regsP, { iss0 with slot := .y }, ⟨7, 0, 0⟩, by decide +kernel⟩,
    ⟨engine0 { regsP with rptOn := true }, { iss0 with slot := .y }, ⟨0, 6, 0⟩, by decide +kernel⟩⟩

/-- Engine 0 with a translation that maps the 2 MiB from 0 on to shared SRAM. -/
def engineTlb : State :=
  ((engine0 regsP).putB R.MEM_CTX_BASE_EN true).setTlb 0 [{ asid := 0, size := 21, page := 0, base := 2 ^ 52, glob := true, r := true, w := true }]

/-- LD and ST outside data memory: what an access through a translation answers, the BUS exception of the context table, and the
suspension where nothing maps the address. -/
theorem witness_LoadsAndStores_translated :
    (∃ (s : State) (i : Issue) (m : MemAddr) (bs : List Byte), s.aloneReady i ∧ i.slot = .y ∧ ((s.eng i.eng).regs.address m).exc = [] ∧
      0x10000 ≤ ((s.eng i.eng).regs.address m).va ∧ ((s.eng i.eng).regs.address m).va % 4 = 0 ∧ (s.eng i.eng).regs.rptOn = false ∧
      ((s.opened i 0).engRead i.eng ((s.eng i.eng).regs.address m).va 4 i.ecc).2 = .ok bs) ∧
    (∃ (s : State) (i : Issue) (m : MemAddr) (c : Nat), s.aloneReady i ∧ i.slot = .y ∧ ((s.eng i.eng).regs.address m).exc = [] ∧
      0x10000 ≤ ((s.eng i.eng).regs.address m).va ∧ ((s.eng i.eng).regs.address m).va % 4 = 0 ∧ (s.eng i.eng).regs.rptOn = false ∧
      ((s.opened i 0).engRead i.eng ((s.eng i.eng).regs.address m).va 4 i.ecc).2 = .error (.exc c)) ∧
    (∃ (s : State) (i : Issue) (m : MemAddr) (c : Nat), s.aloneReady i ∧ i.slot = .y ∧ ((s.eng i.eng).regs.address m).exc = [] ∧
      0x10000 ≤ ((s.eng i.eng).regs.address m).va ∧ ((s.eng i.eng).regs.address m).va % 4 = 0 ∧ (s.eng i.eng).regs.rptOn = false ∧
      ((s.opened i 0).engRead i.eng ((s.eng i.eng).regs.address m).va 4 i.ecc).2 = .error (.susp c ((s.eng i.eng).regs.address m).va false)) ∧
    (∃ (s : State) (i : Issue) (g : Fin 64) (m : MemAddr), s.aloneReady i ∧ i.slot = .y ∧ ((s.eng i.eng).regs.address m).exc = [] ∧
      0x10000 ≤ ((s.eng i.eng).regs.address m).va ∧ ((s.eng i.eng).regs.address m).va % 4 = 0 ∧ (s.eng i.eng).regs.rptOn = false ∧
      ((s.opened i 0).engWrite i.eng ((s.eng i.eng).regs.address m).va (leBytes 4 ((s.eng i.eng).regs.gR g).toNat) i.ecc).2 = none) ∧
    (∃ (s : State) (i : Issue) (g : Fin 64) (m : MemAddr) (c : Nat), s.aloneReady i ∧ i.slot = .y ∧
      ((s.eng i.eng).regs.address m).exc = [] ∧
      0x10000 ≤ ((s.eng i.eng).regs.address m).va ∧ ((s.eng i.eng).regs.address m).va % 4 = 0 ∧ (s.eng i.eng).regs.rptOn = false ∧
      ((s.opened i 0).engWrite i.eng ((s.eng i.eng).regs.address m).va (leBytes 4 ((s.eng i.eng).regs.gR g).toNat) i.ecc).2 =
        some (.exc c)) ∧
    (∃ (s : State) (i : Issue) (g : Fin 64) (m : MemAddr) (c : Nat), s.aloneReady i ∧ i.slot = .y ∧
      ((s.eng i.eng).regs.address m).exc = [] ∧
      0x10000 ≤ ((s.eng i.eng).regs.address m).va ∧ ((s.eng i.eng).regs.address m).va % 4 = 0 ∧ (s.eng i.eng).regs.rptOn = false ∧
      ((s.opened i 0).engWrite i.eng ((s.eng i.eng).regs.address m).va (leBytes 4 ((s.eng i.eng).regs.gR g).toNat) i.ecc).2 =
        some (.susp c ((s.eng i.eng).regs.address m).va true)) :=
  ⟨⟨engineTlb, { iss0 with slot := .y }, ⟨0, 6, 0⟩, [0, 0, 0, 0], by decide +kernel, rfl, by decide +kernel, by decide +kernel,
      by decide +kernel, rfl, except_ok (by decide +kernel)⟩,
    ⟨engineTlb.put R.MEM_CTX_BASE 1, { iss0 with slot := .y }, ⟨0, 6, 0⟩, 0x11, by decide +kernel, rfl, by decide +kernel, by decide +kernel,
      by decide +kernel, rfl, except_error (by decide +kernel)⟩,
    ⟨engine0 regsP, { iss0 with slot := .y }, ⟨0, 6, 0⟩, 2, by decide +kernel, rfl, by decide +kernel, by decide +kernel,
      by decide +kernel, rfl, except_error (by decide +kernel)⟩,
    ⟨engineTlb, { iss0 with slot := .y }, 0, ⟨0, 6, 0⟩, by decide +kernel⟩,
    ⟨engineTlb.put R.MEM_CTX_BASE 1, { iss0 with slot := .y }, 0, ⟨0, 6, 0⟩, 0x11, by decide +kernel⟩,
    ⟨engine0 regsP, { iss0 with slot := .y }, 0, ⟨0, 6, 0⟩, 2, by decide +kernel⟩⟩

theorem witness_TapmResults :
    (∃ (s : State) (i : Issue) (c d : Fin 16), s.aloneReady i ∧ i.slot = .x ∧ c ≠ d ∧ ((s.eng i.eng).regs.pR c).toNat < 0x10000 ∧
      ((s.eng i.eng).regs.pR d).toNat < 0x10000 ∧ ((s.eng i.eng).regs.pR c).toNat % 4 = 0 ∧ ((s.eng i.eng).regs.pR d).toNat % 4 = 0 ∧
      ((s.eng i.eng).regs.stepOf d (-((s.eng i.eng).regs.mR d).toInt)).1.toNat % 4 = 0 ∧
      ((s.eng i.eng).regs.stepOf d (-((s.eng i.eng).regs.mR d).toInt)).1.toNat < 0xF000) ∧
    (∃ (s : State) (i : Issue) (c d : Fin 16), s.aloneReady i ∧ i.slot = .x ∧ c = d) ∧
    (∃ (s : State) (i : Issue) (c d : Fin 16) (back : Nat), s.aloneReady i ∧ i.slot = .x ∧ c ≠ d ∧
      ((s.eng i.eng).regs.pR c).toNat < 0x10000 ∧ ((s.eng i.eng).regs.pR d).toNat < 0x10000 ∧ ((s.eng i.eng).regs.pR c).toNat % 4 = 0 ∧
      ((s.eng i.eng).regs.pR d).toNat % 4 = 0 ∧ back = ((s.eng i.eng).regs.stepOf d (-((s.eng i.eng).regs.mR d).toInt)).1.toNat ∧
      back % 4 = 0 ∧ 0xF000 ≤ back ∧ back < 0x10000) ∧
    (∃ (s : State) (i : Issue) (c d : Fin 16), s.aloneReady i ∧ i.slot = .x ∧ c ≠ d ∧
      (((s.eng i.eng).regs.pR c).toNat % 4 ≠ 0 ∨ ((s.eng i.eng).regs.pR d).toNat % 4 ≠ 0) ∧ (s.eng i.eng).regs.rptOn = false) :=
  ⟨⟨engine0 { regsP with m := [(4, 4)] }, iss0, 5, 4, by decide +kernel⟩, ⟨engine0 regsP, iss0, 3, 3, by decide +kernel⟩,
    ⟨engine0 regsP, iss0, 3, 5, 0xF000, by decide +kernel⟩, ⟨engine0 regsP, iss0, 3, 1, by decide +kernel⟩⟩

def issY0 : Issue := { iss0 with slot := .y }

/-- Engine 0 may send on stream 1 to the host; the tag image stands at address 0. -/
def sender : State :=
  let s := engine0 regs0
  let s := s.modStream 1 fun x => { x with valid := true, state := 1, src := 0x100, dst := 0x1F00, spri := 1 }
  { s with mem := { s.mem with loc := [(0, 1), (13, 0x1F), (14, 1)] } }

theorem witness_ControlResults :
    (∃ (s : State) (i : Issue) (cond : Fin 16) (k : Fin 64) (cnt : BitVec 12) (taken : Bool) (inv : Inv), s.aloneReady i ∧ i.slot = .y ∧
      (s.eng i.eng).regs.rptOn = false ∧ condition (s.eng i.eng).regs.flg cond = some taken ∧
      (s.eng i.eng).regs.pc + k.val + 1 ≤ 4095 ∧ cnt.toNat < 64 ∧ ((s.eng i.eng).regs.gR cnt.toNat).toNat % 8192 = 0 ∧
      (s.eng i.eng).run = some inv) ∧
    (∃ (s : State) (i : Issue) (k : Fin 64) (cnt : BitVec 12) (q : Nat), s.aloneReady i ∧ i.slot = .y ∧
      (s.eng i.eng).regs.rptOn = false ∧ (s.eng i.eng).regs.pc + k.val + 1 ≤ 4095 ∧ cnt.toNat < 64 ∧
      q = min 4096 (((s.eng i.eng).regs.gR cnt.toNat).toNat % 8192) ∧ 0 < q) ∧
    (∃ (s : State) (i : Issue) (k : Fin 64) (cnt : BitVec 12), s.aloneReady i ∧ i.slot = .y ∧ (s.eng i.eng).regs.rptOn = false ∧
      (s.eng i.eng).regs.pc + k.val + 1 ≤ 4095 ∧ 64 ≤ cnt.toNat) ∧
    (∃ (s : State) (i : Issue) (k : Fin 64), s.aloneReady i ∧ i.slot = .y ∧ (s.eng i.eng).regs.rptOn = false ∧
      4095 < (s.eng i.eng).regs.pc + k.val + 1) ∧
    (∃ (s : State) (i : Issue) (pt pp : Fin 16), s.aloneReady i ∧ i.slot = .y ∧ (s.eng i.eng).regs.rptOn = false ∧
      (((s.eng i.eng).regs.pR pt).toNat % 32 ≠ 0 ∨ ((s.eng i.eng).regs.pR pp).toNat % 8 ≠ 0)) ∧
    (∃ (s : State) (i : Issue) (pt pp : Fin 16) (k : Fin 64), s.aloneReady i ∧ i.slot = .y ∧ (s.eng i.eng).regs.rptOn = false ∧
      ((s.eng i.eng).regs.pR pt).toNat % 32 = 0 ∧ ((s.eng i.eng).regs.pR pp).toNat % 8 = 0 ∧
      (0x10000 < ((s.eng i.eng).regs.pR pt).toNat + 32 ∨
        0x10000 < ((s.eng i.eng).regs.pR pp).toNat + ((s.eng i.eng).regs.gR k).toNat)) ∧
    (∃ (s : State) (i : Issue), s.aloneReady i ∧ i.slot = .y ∧ (s.eng i.eng).regs.rptOn = true) :=
  ⟨⟨engine0 { regs0 with pc := 4031 }, issY0, 0, 63, 0, false, inv0, by decide +kernel⟩,
    ⟨engine0 { g := [(63, 0x1FFF)] }, issY0, 63, 63, _, by decide +kernel, rfl, rfl, by decide, by decide, rfl, by decide +kernel⟩,
    ⟨engine0 regs0, issY0, 0, 64, by decide +kernel⟩, ⟨engine0 { regs0 with pc := 4095 }, issY0, 0, by decide +kernel⟩,
    ⟨engine0 regsP, issY0, 3, 0, by decide +kernel⟩, ⟨engine0 regsP, issY0, 6, 0, 0, by decide +kernel⟩,
    ⟨engine0 { regs0 with rptOn := true }, issY0, by decide +kernel⟩⟩

/-- Engine 0 sends to unit 0x400, which no unit has. -/
def wildSender : State :=
  let s := engine0 regs0
  { s with mem := { s.mem with loc := [(13, 4)] } }

/-- Engine 0 issues while an item fills the journal. -/
def fullJournal : State :=
  let s := engine0 regs0
  { s with sched := { s.sched with flights := [{ flight0 with item := { tag := { tag0 with len := 96 * 2 ^ 20 }, payload := [] } }] } }

/-- SEND: an unassigned destination; a length above 4,096; an item that the scheduler takes; an item for which the journal has no room. -/
theorem witness_ControlResults_send :
    (∃ (s p : State) (i : Issue) (inv : Inv) (pt pp : Fin 16) (k : Fin 64) (len : Nat) (it : Item), s.aloneReady i ∧ i.slot = .y ∧ (s.eng i.eng).regs.rptOn = false ∧
      (s.eng i.eng).run = some inv ∧ ((s.eng i.eng).regs.pR pt).toNat % 32 = 0 ∧ ((s.eng i.eng).regs.pR pp).toNat % 8 = 0 ∧
      ((s.eng i.eng).regs.pR pt).toNat + 32 ≤ 0x10000 ∧ len = ((s.eng i.eng).regs.gR k).toNat ∧
      ((s.eng i.eng).regs.pR pp).toNat + len ≤ 0x10000 ∧ p = s.opened i 0 ∧
      it = p.sendItem i.eng inv ((s.eng i.eng).regs.pR pt).toNat ((s.eng i.eng).regs.pR pp).toNat len false ∧ p.dstBad it.tag.dst = true) ∧
    (∃ (s p : State) (i : Issue) (inv : Inv) (pt pp : Fin 16) (k : Fin 64) (len : Nat) (it : Item), s.aloneReady i ∧ i.slot = .y ∧ (s.eng i.eng).regs.rptOn = false ∧
      (s.eng i.eng).run = some inv ∧ ((s.eng i.eng).regs.pR pt).toNat % 32 = 0 ∧ ((s.eng i.eng).regs.pR pp).toNat % 8 = 0 ∧
      ((s.eng i.eng).regs.pR pt).toNat + 32 ≤ 0x10000 ∧ len = ((s.eng i.eng).regs.gR k).toNat ∧
      ((s.eng i.eng).regs.pR pp).toNat + len ≤ 0x10000 ∧ p = s.opened i 0 ∧
      it = p.sendItem i.eng inv ((s.eng i.eng).regs.pR pt).toNat ((s.eng i.eng).regs.pR pp).toNat len false ∧ p.dstBad it.tag.dst = false ∧ 4096 < it.tag.len) ∧
    (∃ (s p t : State) (i : Issue) (inv : Inv) (pt pp : Fin 16) (k : Fin 64) (len : Nat) (it : Item), s.aloneReady i ∧ i.slot = .y ∧ (s.eng i.eng).regs.rptOn = false ∧
      (s.eng i.eng).run = some inv ∧ ((s.eng i.eng).regs.pR pt).toNat % 32 = 0 ∧ ((s.eng i.eng).regs.pR pp).toNat % 8 = 0 ∧
      ((s.eng i.eng).regs.pR pt).toNat + 32 ≤ 0x10000 ∧ len = ((s.eng i.eng).regs.gR k).toNat ∧
      ((s.eng i.eng).regs.pR pp).toNat + len ≤ 0x10000 ∧ p = s.opened i 0 ∧
      it = p.sendItem i.eng inv ((s.eng i.eng).regs.pR pt).toNat ((s.eng i.eng).regs.pR pp).toNat len false ∧ p.dstBad it.tag.dst = false ∧ it.tag.len ≤ 4096 ∧
      p.hasRoomFor it = true ∧ (p.takeItem it inv.pri none).2 = 0 ∧ (p.takeItem it inv.pri none).1.sendDelivered it = some t) ∧
    (∃ (s p : State) (i : Issue) (inv : Inv) (pt pp : Fin 16) (k : Fin 64) (len : Nat) (it : Item), s.aloneReady i ∧ i.slot = .y ∧ (s.eng i.eng).regs.rptOn = false ∧
      (s.eng i.eng).run = some inv ∧ ((s.eng i.eng).regs.pR pt).toNat % 32 = 0 ∧ ((s.eng i.eng).regs.pR pp).toNat % 8 = 0 ∧
      ((s.eng i.eng).regs.pR pt).toNat + 32 ≤ 0x10000 ∧ len = ((s.eng i.eng).regs.gR k).toNat ∧
      ((s.eng i.eng).regs.pR pp).toNat + len ≤ 0x10000 ∧ p = s.opened i 0 ∧
      it = p.sendItem i.eng inv ((s.eng i.eng).regs.pR pt).toNat ((s.eng i.eng).regs.pR pp).toNat len false ∧ p.dstBad it.tag.dst = false ∧ it.tag.len ≤ 4096 ∧
      p.hasRoomFor it = false) := by
  refine ⟨⟨wildSender, _, issY0, inv0, 0, 0, 0, _, _, ?_, rfl, rfl, rfl, ?_, ?_, ?_, rfl, ?_, rfl, rfl, ?_⟩,
    ⟨engine0 { g := [(1, 4097)] }, _, issY0, inv0, 0, 0, 1, _, _, ?_, rfl, rfl, rfl, ?_, ?_, ?_, rfl, ?_, rfl, rfl, ?_, ?_⟩,
    ⟨sender, _, ((sender.opened issY0 0).takeItem ((sender.opened issY0 0).sendItem 0 inv0 0 0 0 false) 1 none).1, issY0, inv0,
      0, 0, 0, _, _, ?_, rfl, rfl, ?_, ?_, ?_, ?_, rfl, ?_, rfl, rfl, ?_, ?_, ?_, ?_, ?_⟩,
    ⟨fullJournal, _, issY0, inv0, 0, 0, 0, _, _, ?_, rfl, rfl, rfl, ?_, ?_, ?_, rfl, ?_, rfl, rfl, ?_, ?_, ?_⟩⟩ <;> decide +kernel

theorem witness_StepKeepsCanonical : ∃ s t : State, s.canon ∧ step s = .next t :=
  ⟨State.reset, tick State.reset, ⟨rfl, rfl, rfl, rfl, rfl, rfl, rfl⟩, rfl⟩

theorem witness_MemoryReadsWhatWasWritten_canon : ∃ (s : State) (sp : Nat), sp < 3 ∧ s.canon :=
  ⟨State.reset, 2, by decide, rfl, rfl, rfl, rfl, rfl, rfl, rfl⟩

theorem witness_CommandFrames : ∃ (c : Instr) (p : Part), (touches c).contains p = false := ⟨.powerGood, .queue, by decide⟩

theorem witness_ReadsThatClear : ∃ (f g : Field) (a : Nat), f = R.TIME_STAT_PPS_NEW ∧ a ≠ f.addr ∧ g.addr = f.addr ∧ g.lo ≤ g.hi ∧
    g.hi < 32 ∧ (f.hi < g.lo ∨ g.hi < f.lo) :=
  ⟨R.TIME_STAT_PPS_NEW, ⟨R.TIME_STAT_PPS_NEW.addr, 31, R.TIME_STAT_PPS_NEW.hi + 1⟩, 0, by decide⟩

/-! ### Sections whose hash holds, and one whose hash does not -/

theorem fromLe_leBytes (k n : Nat) : fromLe (leBytes k n) = n % 256 ^ k := by
  induction k generalizing n with
  | zero => simp [leBytes, fromLe, Nat.mod_one]
  | succ k ih =>
    rw [leBytes, fromLe, ih, Nat.pow_succ', Nat.mod_mul]
    simp

/-- A read passes over the cells before it. -/
theorem memRead_skip {l m : List Host.Cell} {k a : Nat} (h : ∀ c ∈ l, c.1 < a) : memRead (l ++ m) k a = memRead m k a := by
  have key : ∀ b, a ≤ b → memByte (l ++ m) b = memByte m b := by
    intro b hb
    induction l with
    | nil => rfl
    | cons c l ih =>
      have hc : b ≠ c.1 := by have := h c (.head _); omega
      simpa [memByte, tblGet, hc] using ih fun c hc => h c (.tail _ hc)
  induction k generalizing a with
  | zero => rfl
  | succ k ih => rw [memRead, memRead, key a (Nat.le_refl a),
      ih (fun c hc => Nat.lt_succ_of_lt (h c hc)) fun b hb => key b (by omega)]

/-- A stream for one device: cells below the HASH of its first section, which is `n`, and the bytes that have come. -/
def hashed (l : List Host.Cell) (n : Nat) : PersStream :=
  { bytes := l ++ (leBytes 32 n).mapIdx fun i b => (4128 + i, b), chk := {}, len := 5184 }

theorem hashed_hashOk {l : List Host.Cell} {n : Nat} {p : List Byte} (h : n < 2 ^ 256) (hl : ∀ c ∈ l, c.1 < 4128)
    (hp : (hashed l n).entPayload 0 = p) : ((hashed l n).sectionAt 0).hashOk = decide (n = sha256 p) := by
  have r : memRead (hashed l n).bytes 32 4128 = leBytes 32 n := by
    unfold hashed
    rw [memRead_skip hl]
    simp [memRead, memByte, tblGet, leBytes]
  have e : (hashed l n).entHash 0 = n := by
    change fromLe (memRead (hashed l n).bytes 32 4128) = n
    rw [r, fromLe_leBytes]
    exact Nat.mod_eq_of_lt (Nat.lt_of_lt_of_eq h (by decide))
  unfold PersStream.sectionAt
  rw [e, hp]

/-- One COUNTERS section of 64 zero bytes, which is no such section's length. -/
def shortCounters : List Host.Cell :=
  [(12, 1), (16, 0x40), (17, 0x14), (25, 0x14), (32, 64), (4097, 0x14), (4104, 64), (4108, 3), (4110, 0xFF), (4111, 0xFF)]

/-- A reload image for T0 with no record: the flag of R326, and a TILE_CFG section of 8 zero bytes. -/
def emptyTile : List Host.Cell :=
  [(0, 0x46), (1, 0x44), (2, 0x50), (3, 0x53), (4, 1), (6, 0x0D), (7, 0x0F), (8, 0x28), (9, 0x81), (10, 1), (12, 1), (14, 1),
   (16, 0x80), (17, 0x14), (24, 0x40), (25, 0x14), (32, 64), (4097, 0x14), (4104, 8), (4108, 2)]

/-- The hashes of the two sections, and a number that is not the first. -/
def goodHash : Nat := sha256 (List.replicate 64 0)
def badHash : Nat := if goodHash = 0 then 1 else 0
def tileHash : Nat := sha256 (List.replicate 8 0)

theorem sha256_lt (p : List Byte) : sha256 p < 2 ^ 256 := Nat.mod_lt _ (by decide)

theorem goodHash_ok : ((hashed shortCounters goodHash).sectionAt 0).hashOk = true := by
  rw [hashed_hashOk (show goodHash < 2 ^ 256 from sha256_lt _) (by decide) (p := List.replicate 64 0) (by decide +kernel)]
  exact decide_eq_true rfl

theorem badHash_bad : ((hashed shortCounters badHash).sectionAt 0).hashOk = false := by
  rw [hashed_hashOk (by unfold badHash; split <;> decide) (by decide) (p := List.replicate 64 0) (by decide +kernel)]
  apply decide_eq_false
  change badHash ≠ goodHash
  unfold badHash
  split <;> omega

theorem tileHash_ok : ((hashed emptyTile tileHash).sectionAt 0).hashOk = true := by
  rw [hashed_hashOk (show tileHash < 2 ^ 256 from sha256_lt _) (by decide) (p := List.replicate 8 0) (by decide +kernel)]
  exact decide_eq_true rfl

theorem hashed_sections {l : List Host.Cell} {n : Nat} (h : (hashed l n).entries = [0]) :
    (hashed l n).sections = [(hashed l n).sectionAt 0] := by
  unfold PersStream.sections
  rw [h]
  rfl

/-- The head verifies a stream. -/
def verifying (img : PersStream) : State :=
  let s := State.reset.put R.LAT_LOAD_STAT_STATE 2
  { s with load := { s.load with img := some img, len := 5184 } }

theorem own_of_pos {l : List Host.Cell} {n : Nat} {s : State} (h : (hashed l n).entries = [0]) (p : s.pos = 0) :
    s.ownSections (hashed l n) = [(hashed l n).sectionAt 0] := by
  unfold State.ownSections
  rw [hashed_sections h, p]
  rfl

theorem witness_LoadCommands_hash :
    (∃ (s : State) (img : PersStream), s.get R.LAT_LOAD_STAT_STATE = 2 ∧ s.load.img = some img ∧ s.loadShort img = false ∧
      ∃ x ∈ s.ownSections img, x.hashOk = false) ∧
    (∃ (s : State) (img : PersStream), s.get R.LAT_LOAD_STAT_STATE = 2 ∧ s.load.img = some img ∧ s.loadShort img = false ∧
      (∀ x ∈ s.ownSections img, x.hashOk = true) ∧ ∃ x ∈ s.ownSections img, sectionOk x = false) :=
  have own : ∀ n, (hashed shortCounters n).entries = [0] → (verifying (hashed shortCounters n)).pos = 0 →
      (verifying (hashed shortCounters n)).ownSections (hashed shortCounters n) = [(hashed shortCounters n).sectionAt 0] :=
    fun _ h p => own_of_pos h p
  have good := own goodHash (by decide +kernel) (by decide +kernel)
  have bad := own badHash (by decide +kernel) (by decide +kernel)
  ⟨⟨verifying (hashed shortCounters badHash), hashed shortCounters badHash, by decide +kernel, rfl, by decide +kernel, _, by rw [bad]; exact .head _, badHash_bad⟩,
    ⟨verifying (hashed shortCounters goodHash), hashed shortCounters goodHash, by decide +kernel, rfl, by decide +kernel,
      fun x h => by rw [good, List.mem_singleton] at h; rw [h]; exact goodHash_ok,
      _, by rw [good]; exact .head _, by decide +kernel⟩⟩

/-- A reload of T0 in its first phase. -/
def reloading (img : PersStream) : State :=
  let s := (((State.reset.putB R.FAB_RCFG_STAT_BUSY true).put R.FAB_RCFG_STAT_PHASE 1).put R.FAB_RCFG_ADDR_HI_SPACE 1).put R.MEM_CTX_BASE 64
  let s := s.putIdx R.SEC_STAT_OWNERS 0 true
  { s with rcfg := { s.rcfg with img := some img, kind := 1 } }

theorem witness_PortAndReloadCommands_hash :
    (∃ (s : State) (img : PersStream), s.bit R.FAB_RCFG_STAT_BUSY = true ∧ s.get R.FAB_RCFG_STAT_PHASE = 1 ∧ s.rcfg.img = some img ∧
      s.rcfgAddrBad true = false ∧ s.ownerSlot img.ownerSlot = true ∧ ∃ x ∈ img.sections, x.hashOk = false) ∧
    (∃ (s : State) (img : PersStream), s.bit R.FAB_RCFG_STAT_BUSY = true ∧ s.get R.FAB_RCFG_STAT_PHASE = 1 ∧ s.rcfg.img = some img ∧
      s.rcfgResult img true true = 0) := by
  refine ⟨⟨reloading (hashed shortCounters badHash), hashed shortCounters badHash, by decide +kernel, by decide +kernel, rfl,
    by decide +kernel, by decide +kernel, _, List.mem_map.2 ⟨0, by decide +kernel, rfl⟩, badHash_bad⟩,
    reloading (hashed emptyTile tileHash), hashed emptyTile tileHash, by decide +kernel, by decide +kernel, rfl, ?_⟩
  unfold State.rcfgResult
  rw [hashed_sections (by decide +kernel), List.any_cons, tileHash_ok]
  decide +kernel

theorem witness_PortAndReloadCommands_load :
    ∃ (s : State) (x : Section), s.bit R.FAB_RCFG_STAT_BUSY = true ∧ s.rcfg.girth = true ∧ s.bit R.FLT_STAT_C4 = false ∧
      s.rcfgSection = some x ∧ s.flt.pfail = false :=
  let s := State.reset.putB R.FAB_RCFG_STAT_BUSY true
  ⟨{ s with rcfg := { s.rcfg with img := some (hashed emptyTile tileHash), girth := true } }, (hashed emptyTile tileHash).sectionAt 0,
    by decide +kernel, rfl, by decide +kernel, congrArg List.head? (hashed_sections (l := emptyTile) (n := tileHash) (by decide +kernel)), rfl⟩

/-- A FABRIC section of one byte for F7. -/
def lastRegion : List Host.Cell :=
  [(12, 1), (4096, 0x70), (4097, 0x17), (4104, 1), (4108, 1), (4110, 7), (4111, 3)]

theorem witness_FaultPageCommands_region :
    ∃ (s v : State) (k : Nat) (x : Section), v = s.releaseUnit k ∧ 0x300 ≤ k ∧ s.stagedRegion (k - 0x300) = some x := by
  let img := hashed lastRegion 0
  let s : State := { State.reset with load := { State.reset.load with staged := some img } }
  refine ⟨s, s.releaseUnit 0x307, 0x307, img.sectionAt 0, rfl, by decide, ?_⟩
  change ((s.ownSections img).filter fun x => x.typ = 1).find? (fun x => x.target = 0x307) = some (img.sectionAt 0)
  rw [own_of_pos (by decide +kernel) (by decide +kernel)]
  rfl

/-! ### Well-formedness: an ill-formed command for each check -/

/-- The state after a command. -/
def after (c : Instr) (s : State) : State :=
  match exec c s with
  | .next u => u
  | .fault _ => s
  | .refused _ => s

/-- The reset state once the firmware runs. -/
def awakened : State := { State.reset with pwr := { State.reset.pwr with phase := 3 } }

/-- An item whose payload is shorter than LEN. -/
def badItem : Item := { tag := { tag0 with len := 1 }, payload := [] }

theorem test_wf_registerWrite_unaligned : (Instr.registerWrite .secure 0x42 0).wellFormed = false := by decide
theorem test_wf_registerWrite_range : (Instr.registerWrite .host 0x4040000 0).wellFormed = false := by decide
theorem test_wf_registerWrite_window : (Instr.registerWrite .secure 0x400000 0).wellFormed = false := by decide
theorem test_wf_registerWrite_unit : (Instr.registerWrite (.unit 65536) 0x44 0).wellFormed = false := by decide
theorem test_wf_registerWrite : (Instr.registerWrite (.unit 65535) 0x3FFFFC 0).wellFormed = true := by decide
theorem test_wf_bar2_read : (Instr.bar2Access 0 (.read 0)).wellFormed = false := by decide
theorem test_wf_bar2_write : (Instr.bar2Access 0 (.write [])).wellFormed = false := by decide
theorem test_wf_cxl_read : (Instr.cxlMemAccess 0 (.read 63) .clean).wellFormed = false := by decide
theorem test_wf_cxl_write : (Instr.cxlMemAccess 0 (.write []) .clean).wellFormed = false := by decide
theorem test_wf_cxl_write_long : (Instr.cxlMemAccess 0 (.write (List.replicate 65 0)) .clean).wellFormed = false := by decide
theorem test_wf_item : (Instr.item hdr0 badItem).wellFormed = false := by decide
theorem test_wf_fabricPortSend : (Instr.fabricPortSend 0 0 badItem).wellFormed = false := by decide
theorem test_wf_ringEntryTake : (Instr.ringEntryTake 0 { entry0 with bytes := [] }).wellFormed = false := by decide
theorem test_wf_ringEntryTake_read : (Instr.ringEntryTake 0 { entry0 with read := List.replicate 4097 0 }).wellFormed = false := by
  decide +kernel
theorem test_wf_load_offset : (Instr.load hdr0 (2 ^ 64) []).wellFormed = false := by decide
theorem test_wf_load_length : (Instr.load hdr0 0 (List.replicate 4097 0)).wellFormed = false := by decide +kernel
theorem test_wf_prog : (Instr.prog { tag := 0 } 0 0 0 (2 ^ 32) true).wellFormed = false := by decide
theorem test_wf_ideGo : (Instr.ideGo { tag := 0 } (2 ^ 32) 0 0 true).wellFormed = false := by decide
theorem test_wf_ideStop : (Instr.ideStop { tag := 0 } (2 ^ 32) 0 true).wellFormed = false := by decide
theorem test_wf_sessionClose : (Instr.sessionClose .doe { tag := 0 } (2 ^ 32)).wellFormed = false := by decide
theorem test_wf_quote : (Instr.quote .doe { tag := 0 } (2 ^ 256) 0 0 true none).wellFormed = false := by decide
theorem test_wf_credit : (Instr.credit hdr0 [0, 0, 0]).wellFormed = false := by decide
theorem test_wf_itemAcc : (Instr.itemAcc hdr0 0 (2 ^ 48)).wellFormed = false := by decide
theorem test_wf_itemAccept : (Instr.itemAccept 0 0).wellFormed = false := by decide
theorem test_wf_itemTake : (Instr.itemTake 65536).wellFormed = false := by decide
theorem test_wf_itemDispatch : (Instr.itemDispatch 65536).wellFormed = false := by decide
theorem test_wf_quiesceTimeout : (Instr.quiesceTimeout 65536).wellFormed = false := by decide
theorem test_wf_quiesceReturn : (Instr.quiesceReturn 65536).wellFormed = false := by decide
theorem test_wf_replayReissue : (Instr.replayReissue 65536).wellFormed = false := by decide
theorem test_wf_seqPass : (Instr.seqPass 0 (List.replicate 17 { x16 := 0, clip := false, b := none })).wellFormed = false := by decide

/-! ### The spec's worked examples and tables -/

/-- The table gives no row any bits. -/
theorem test_no_word_spells_a_command (nbits w : Nat) : decodeTableWord nbits w = none := rfl

/-- The check value that catalogues of CRCs give CRC-32C, over the ASCII digits 1 to 9 (R336 gives the polynomial and its form). -/
theorem test_crc32c : crc32c [0x31, 0x32, 0x33, 0x34, 0x35, 0x36, 0x37, 0x38, 0x39] = 0xE3069283 := by decide +kernel

/-- Chapter 01: SE37 on the device at position 2 has unit ID 0x4125. -/
theorem test_unit_id : (State.reset.put R.LAT_POS 2).unitId (0x100 + 37) = 0x4125 := by decide

/-- Chapters 05 and 13: the output page of T10, and the BAR0 offset of SE37's page on the device at position 2. -/
theorem test_page_addresses : outPage 10 = 0x12A000 ∧ 2 * 0x400000 + engPage 37 = 0xA25000 := by decide

/-- Chapter 05: a quarter period after the resync the 5 kHz generator's code is 0xE99A. -/
theorem test_sine_peak : sineCode (phaseAddr (12500 * 0x14F8B588E) 0) 27034 = 0xE99A := by decide

/-- Chapter 05: the write of OUT_CODE on FP80 sets OUT_TARGET to 60,075. -/
theorem test_fp80_target :
    (after (.outCodeWrite .secure 10 0 60075) (awakened.put (R.PIN_STAT_FUNC_ACT 10 0) 3)).get (R.OUT_TARGET 10 0) = 60075 := by
  decide +kernel

/-- Chapter 06: the two accepted points of the pressure input give G and OFF. -/
theorem test_cal_points : calSolve 1343204 6707784 83886 419430 4096 = .inr (-2059, 4197528) := by decide

/-- R157: a ramp step rounds towards zero. -/
theorem test_ramp_truncates : rampAt 0 (-10) 1 3 = -3 ∧ rampAt 0 10 2 3 = 6 := by decide

/-- Chapter 07: WSEL0 of the tach filter gives W = 16, wrap and SH = 15. -/
theorem test_wsel_tach : wselWidth 31 0x0F4F = 16 ∧ wselWraps 0x0F4F = true ∧ getBits 0x0F4F 13 8 = 15 := by decide

/-- Chapter 07: stage 3 of the FFT ends with CUR = 5 and HEAD = 2: BEND gives SHIFT = 3 and TOT = −3. -/
theorem test_bend_stage3 :
    let r := ((after (.bend iss0) (engine0 { regs0 with bexp := 0xA5 })).eng 0).regs
    getBits r.bexp 13 8 = 3 ∧ bexpTot r.bexp = -3 := by decide +kernel

/-- Chapter 07: stage 4 ends with CUR = 1: BEND gives SHIFT = −1 and TOT = −2. -/
theorem test_bend_stage4 :
    let r := ((after (.bend iss0) (engine0 { regs0 with bexp := 0x00FD03A1 })).eng 0).regs
    getBits r.bexp 13 8 = 0x3F ∧ bexpTot r.bexp = -2 := by decide +kernel

/-- The words of a bundle of chapter 08's worked example, X in bits 31:0 and Y in bits 63:32, and the instructions that it gives. -/
def exampleBundle (w : Nat) : Option (List Instr) := decodeBundle 0 (w % 2 ^ 32) (w / 2 ^ 32)

/-- A slot of a bundle whose two slots both issue. -/
def issP (sl : Slot) : Issue := ⟨0, sl, true, false, 0, .clean⟩

theorem test_decode_movi_ld : exampleBundle 0x8011E00042200F4F = some [.movi (issP .x) 0x88 0x0F4F, .ld (issP .y) 1 ⟨0, 15, 0⟩] := rfl
theorem test_decode_limm : exampleBundle 0x4C4000004C000000 = some [.limm (issP .x) 0 false 0, .limm (issP .y) 1 false 0] := rfl
theorem test_decode_movi_st : exampleBundle 0x981A110041301200 = some [.movi (issP .x) 0x4C 0x1200, .st (issP .y) 1 ⟨5, 0, 0x1100⟩] := rfl
theorem test_decode_clr_repeat : exampleBundle 0xBC0000172C000001 = some [.clr (issP .x) 1, .repeatB (issP .y) false 0 23] := rfl
theorem test_decode_tapm : exampleBundle 0xFC000000F8008000 = some [.tapm { issP .x with paired := false } 0 0 1 0] := rfl
theorem test_decode_wb_nop : exampleBundle 0x0000000030200000 = some [.wb (issP .x) 2 0 0 false, .nop (issP .y)] := rfl
theorem test_decode_nop_send : exampleBundle 0xC03CF10000000000 = some [.nop (issP .x), .send (issP .y) 3 12 15 4 false] := rfl
theorem test_decode_nop_end : exampleBundle 0xC400000000000000 = some [.nop (issP .x), .endInv (issP .y)] := rfl

/-- Chapter 08, bundle 5: REPEAT 24, 1 repeats the one bundle behind it 24 times. -/
theorem test_repeat_tach :
    let r := ((after (.repeatB issY0 false 0 23) (engine0 { regs0 with pc := 5 })).eng 0).regs
    r.rptCnt = 24 ∧ r.rptLen = 1 ∧ r.rptStart = 6 ∧ r.pc = 6 := by decide +kernel

/-- Chapter 08, bundle 2: MOVI M1, −4. -/
theorem test_movi_minus_four :
    ((after (.movi { issY0 with eng := 0 } 0x51 0x3FFFC) (engine0 regs0)).eng 0).regs.mR 1 = 0xFFFFFFFC := by decide +kernel

/-- R272: 1 is later than 2^48 − 1 by 1, and 2 is later than 2^48 − 2 by 3. -/
theorem test_seq_cycle :
    seqDist 1 (2 ^ 48 - 1) = 1 ∧ seqDist 2 (2 ^ 48 - 2) = 3 ∧ seqLater 1 (2 ^ 48 - 1) = true ∧ seqSucc (2 ^ 48 - 1) = 1 := by decide

/-- R266: CHK is 0 when LEN = 0. -/
theorem test_chk_empty : chkOf [] = 0 := by decide

/-- Chapter 09: the capture copy's page: level-1 index 0x800, level-2 index 0x35, SPACE 3 and both rights. -/
theorem test_walk_capture :
    let s := State.reset.putB R.MEM_CTX_BASE_EN true
    let s := { s with mem := { s.mem with sram :=
      [(0x210, 1), (0x211, 0x10), (0x216, 0x10), (0x218, 36), (0x5000, 3), (0x5002, 1), (0x5006, 0x10),
       (0x101A8, 0x0D), (0x101AA, 0x35), (0x101AB, 0x8B), (0x101AC, 0x21), (0x101AE, 0x30)] } }
    (match s.walk 0x21 0x100035000 true with
     | .ok x => x.base = 3 * 2 ^ 52 + 0x218B350000 && x.r && x.w
     | .error _ => false) = true := by decide +kernel

/-- R434: a refused write to the scheduler page has SUB 0x13E0; chapter 16: the ISRC of five sources. -/
theorem test_sources :
    (State.reset.srcPage .sched).sub = 0x13E0 ∧ State.reset.isrcOf (State.reset.srcDev 0x10) = 274 ∧
      State.reset.isrcOf (State.reset.srcDev 0x11) = 266 ∧ State.reset.isrcOf (State.reset.srcDev 0x12) = 267 ∧
      State.reset.isrcOf (State.reset.srcDev 0x1A) = 277 ∧ State.reset.isrcOf (State.reset.srcPage .sched) = 264 := by decide

/-- The command at the front runs; the rest of the queue stays. -/
theorem test_step_front :
    (match step { State.reset with pending := [.nop iss0, .powerGood] } with
     | .next u => decide (u.pending = [.powerGood])
     | _ => false) = true := by decide +kernel

/-- On an empty queue 1 ns passes once the device runs. -/
theorem test_step_idle :
    (match step { State.reset with pwr := { State.reset.pwr with phase := 3 } } with
     | .next u => decide (u.time = 1)
     | _ => false) = true := by decide +kernel


/-! ### Witnesses: states and operands that meet the hypotheses of each clause -/

theorem witness_StepTakesFront :
    ∃ (s : State), s.pending = [] :=
  let s : State := State.reset
  let s : State := { s with pending := [] }
  ⟨s, by decide +kernel⟩

theorem witness_LoadGoOnlyInWait :
    (∃ (s : State), s.get R.LAT_LOAD_STAT_STATE = 0 ∧ s.pos = 0) ∧
    (∃ (s : State), s.get R.LAT_LOAD_STAT_STATE ≠ 0) :=
  ⟨(let s : State := ((State.reset).put R.LAT_LOAD_STAT_STATE 0).put R.LAT_POS 0;
     ⟨s, by decide +kernel⟩),
    (let s : State := (State.reset).put R.LAT_LOAD_STAT_STATE 1;
     ⟨s, by decide +kernel⟩)⟩

theorem witness_LeadingSignCount :
    (∃ (n v : Nat) (k : _), (n = 32 ∨ n = 16) ∧ k < leadingSigns n v) ∧
    (∃ (n v : Nat), (n = 32 ∨ n = 16) ∧ leadingSigns n v < n - 1) :=
  ⟨(let n : Nat := 32;
     let v : Nat := 1;
     let k := 29;
     ⟨n, v, k, by decide +kernel⟩),
    (let n : Nat := 16;
     let v : Nat := 0x7000;
     ⟨n, v, by decide +kernel⟩)⟩

theorem witness_BitRangesInclusive :
    ∃ (hi lo : Nat), lo ≤ hi ∧ hi < 32 :=
  let hi : Nat := 31
  let lo : Nat := 0
  ⟨hi, lo, by decide +kernel⟩

theorem witness_PageCommands_1 :
    (∃ (s : State), s.awake = false) ∧
    (∃ (s : State) (pg : Page) (w : Writer), s.awake = true ∧ s.matchesOwner w (s.get (R.PAGE_OWNER (pageBase pg))) =
      true ∧ (w ≠ .secure ∨ s.bit (R.PAGE_LOCK (pageBase pg)) = true)) ∧
    (∃ (s : State) (pg : Page) (w : Writer) (code : Byte), s.awake = true ∧ s.matchesOwner w
      (s.get (R.PAGE_OWNER (pageBase pg))) = true ∧ s.bit (R.PAGE_LOCK (pageBase pg)) = false ∧ ownerCodeOk
      code.toNat = true) ∧
    (∃ (s : State) (pg : Page) (w : Writer) (code : Byte), s.awake = true ∧ s.matchesOwner w
      (s.get (R.PAGE_OWNER (pageBase pg))) = true ∧ s.bit (R.PAGE_LOCK (pageBase pg)) = false ∧ ownerCodeOk
      code.toNat = false) ∧
    (∃ (s : State) (pg : Page) (w : Writer), s.awake = true ∧ s.matchesOwner w (s.get (R.PAGE_OWNER (pageBase pg))) =
      true ∧ s.bit (R.PAGE_LOCK (pageBase pg)) = true) ∧
    (∃ (s : State) (pg : Page) (w : Writer), s.awake = true ∧ s.matchesOwner w (s.get (R.PAGE_OWNER (pageBase pg))) =
      false) ∧
    (∃ (s : State) (pg : Page) (w : Writer), s.awake = true ∧ s.mayCommit w pg = false) ∧
    (∃ (s : State) (pg : Page) (w : Writer), s.awake = true ∧ s.mayCommit w pg = true ∧ s.bit
      (R.PAGE_LOCK (pageBase pg)) = true) ∧
    (∃ (s : State) (pg : Page) (w : Writer), s.awake = true ∧ s.mayCommit w pg = true ∧ s.bit
      (R.PAGE_LOCK (pageBase pg)) = false) ∧
    (∃ (s : State) (pg : Page) (a : _), s.bit (R.PAGE_STAT_REFUSED (pageBase pg)) = false ∧ a ≠ pageBase pg + 0x0C ∧
      a ≠ pageBase pg + 0x18 ∧ ¬ noticeWord a) ∧
    (∃ (s : State) (pg : Page), s.bit (R.PAGE_STAT_REFUSED (pageBase pg)) = true) ∧
    (∃ (s : State) (pg : Page) (w : Writer), s.awake = true ∧ s.mayCommit w pg = true ∧ s.pageGirth pg = true) :=
  ⟨(let s : State := State.reset;
     ⟨s, by decide +kernel⟩),
    (let pg : Page := .mem;
     let w : Writer := .host;
     let s : State := State.reset;
     let s : State := { s with pwr := { s.pwr with phase := 3 } };
     ⟨s, pg, w, by decide +kernel⟩),
    (let pg : Page := .mem;
     let w : Writer := .secure;
     let code : Byte := 0;
     let s : State := State.reset;
     let s : State := { s with pwr := { s.pwr with phase := 3 } };
     let s : State := s.putB (R.PAGE_LOCK (pageBase pg)) false;
     ⟨s, pg, w, code, by decide +kernel⟩),
    (let pg : Page := .mem;
     let w : Writer := .secure;
     let code : Byte := 0x80;
     let s : State := State.reset;
     let s : State := { s with pwr := { s.pwr with phase := 3 } };
     let s : State := s.putB (R.PAGE_LOCK (pageBase pg)) false;
     ⟨s, pg, w, code, by decide +kernel⟩),
    (let pg : Page := .mem;
     let w : Writer := .secure;
     let s : State := State.reset;
     let s : State := { s with pwr := { s.pwr with phase := 3 } };
     let s : State := s.putB (R.PAGE_LOCK (pageBase pg)) true;
     ⟨s, pg, w, by decide +kernel⟩),
    (let pg : Page := .mem;
     let w : Writer := .unit 0;
     let s : State := State.reset;
     let s : State := { s with pwr := { s.pwr with phase := 3 } };
     ⟨s, pg, w, by decide +kernel⟩),
    (let pg : Page := .mem;
     let w : Writer := .unit 0;
     let s : State := State.reset;
     let s : State := { s with pwr := { s.pwr with phase := 3 } };
     ⟨s, pg, w, by decide +kernel⟩),
    (let pg : Page := .mem;
     let w : Writer := .secure;
     let s : State := State.reset;
     let s : State := { s with pwr := { s.pwr with phase := 3 } };
     let s : State := s.putB (R.PAGE_LOCK (pageBase pg)) true;
     ⟨s, pg, w, by decide +kernel⟩),
    (let pg : Page := .mem;
     let w : Writer := .secure;
     let s : State := State.reset;
     let s : State := { s with pwr := { s.pwr with phase := 3 } };
     let s : State := s.putB (R.PAGE_LOCK (pageBase pg)) false;
     ⟨s, pg, w, by decide +kernel⟩),
    (let pg : Page := .mem;
     let a := 0x40;
     let s : State := (State.reset).putB (R.PAGE_STAT_REFUSED (pageBase pg)) false;
     ⟨s, pg, a, by decide, by decide, by decide, fun h => absurd h (by unfold noticeWord; decide)⟩),
    (let pg : Page := .mem;
     let s : State := (State.reset).putB (R.PAGE_STAT_REFUSED (pageBase pg)) true;
     ⟨s, pg, by decide +kernel⟩),
    (let pg : Page := .pins 0;
     let w : Writer := .secure;
     let s : State := State.reset;
     let s : State := { s with pwr := { s.pwr with phase := 3 } };
     let s : State := { s with fab := { s.fab with shut := [0] } };
     ⟨s, pg, w, by decide +kernel⟩)⟩

theorem witness_PageCommands_2 :
    (∃ (s : State) (pg : Page) (w : Writer), s.awake = true ∧ s.mayCommit w pg = true ∧ s.pageGirth pg = false ∧
      s.commitHeld pg = true) ∧
    (∃ (s : State) (pg : Page) (w : Writer), s.awake = true ∧ s.mayCommit w pg = true ∧ s.pageGirth pg = false ∧
      s.commitHeld pg = false ∧
      (pg = .security ∨ pg = .lichen ∨ pg = .power ∨ pg = .latigo ∨ pg = .mem ∨ pg = .fault ∨ pg = .sched)) :=
  ⟨(let pg : Page := .pins 0;
     let w : Writer := .secure;
     let s : State := State.reset;
     let s : State := { s with pwr := { s.pwr with phase := 3 } };
     ⟨s, pg, w, by decide +kernel⟩),
    (let pg : Page := .security;
     let w : Writer := .secure;
     let s : State := State.reset;
     let s : State := { s with pwr := { s.pwr with phase := 3 } };
     ⟨s, pg, w, by decide +kernel⟩)⟩

theorem witness_PinOwnedWrites :
    (∃ (s : State) (w : Writer) (t : Fin 32) (v : Byte), s.awake = true ∧
      (∀ m < 8, (s.get (R.PINS_OUT t) ^^^ v.toNat).testBit m = true → s.matchesOwner w (s.pinOwner t m) = true)) ∧
    (∃ (s : State) (w : Writer) (t : Fin 32) (v : Byte), s.awake = true ∧
      (∀ m < 8, v.toNat.testBit m = true → s.matchesOwner w (s.pinOwner t m) = true)) ∧
    (∃ (s : State) (w : Writer) (t : Fin 32) (v : Byte), s.awake = true ∧
      (∀ m < 8, (s.get (R.PINS_OE t) ^^^ v.toNat).testBit m = true → s.matchesOwner w (s.pinOwner t m) = true)) ∧
    (∃ (mask : Word), mask.toNat % 128 = 0) ∧
    (∃ (s : State) (w : Writer) (t : Fin 32) (n : Fin 8) (mask : Word), s.awake = true ∧ mask.toNat % 128 ≠ 0 ∧
      s.matchesOwner w (s.pinOwner t n) = true) ∧
    (∃ (s : State) (w : Writer) (t : Fin 32) (n : Fin 8) (mask : Word), s.awake = true ∧ mask.toNat % 128 ≠ 0 ∧
      s.matchesOwner w (s.pinOwner t n) = false) ∧
    (∃ (s : State), s.awake = false) :=
  ⟨(let w : Writer := .secure;
     let t : Fin 32 := 0;
     let v : Byte := 0;
     let s : State := State.reset;
     let s : State := { s with pwr := { s.pwr with phase := 3 } };
     ⟨s, w, t, v, by decide +kernel, fun _ _ _ => rfl⟩),
    (let w : Writer := .secure;
     let t : Fin 32 := 0;
     let v : Byte := 0;
     let s : State := State.reset;
     let s : State := { s with pwr := { s.pwr with phase := 3 } };
     ⟨s, w, t, v, by decide +kernel, fun _ _ _ => rfl⟩),
    (let w : Writer := .secure;
     let t : Fin 32 := 0;
     let v : Byte := 0;
     let s : State := State.reset;
     let s : State := { s with pwr := { s.pwr with phase := 3 } };
     ⟨s, w, t, v, by decide +kernel, fun _ _ _ => rfl⟩),
    (let mask : Word := 0;
     ⟨mask, by decide +kernel⟩),
    (let w : Writer := .secure;
     let t : Fin 32 := 0;
     let n : Fin 8 := 7;
     let mask : Word := 127;
     let s : State := State.reset;
     let s : State := { s with pwr := { s.pwr with phase := 3 } };
     ⟨s, w, t, n, mask, by decide +kernel⟩),
    (let w : Writer := .unit 0;
     let t : Fin 32 := 0;
     let n : Fin 8 := 7;
     let mask : Word := 1;
     let s : State := State.reset;
     let s : State := { s with pwr := { s.pwr with phase := 3 } };
     ⟨s, w, t, n, mask, by decide +kernel⟩),
    (let s : State := State.reset;
     ⟨s, by decide +kernel⟩)⟩

theorem witness_PinStateCommands :
    (∃ (s : State) (t : Fin 32) (n : Fin 8), s.func t n = 7 ∧ s.get (R.PIN_CFG_DIN_FILT t n) ≠ 0) ∧
    (∃ (s : State) (t : Fin 32) (n : Fin 8), (s.func t n ≠ 7 ∨ s.get (R.PIN_CFG_DIN_FILT t n) = 0)) ∧
    (∃ (s : State) (t : Fin 32) (n : Fin 8), (s.pin t n).overload = false) ∧
    (∃ (s : State) (t : Fin 32) (n : Fin 8), (s.pin t n).overload = true) ∧
    (∃ (s : State) (t : Fin 32) (n : Fin 8), s.getIdx (R.TILE_AFE_STAT_SENSE_TRIP t) n = false) ∧
    (∃ (s : State) (t : Fin 32) (n : Fin 8), s.getIdx (R.TILE_AFE_STAT_SENSE_TRIP t) n = true) ∧
    (∃ (s : State) (t : Fin 32) (n : Fin 8), s.func t n ≠ 0 ∧ s.bit (R.PIN_STAT_SWITCHING t n) = false ∧ s.domOn
      (domConv t) = true) ∧
    (∃ (s : State) (t : Fin 32) (n : Fin 8),
      (s.func t n = 0 ∨ s.bit (R.PIN_STAT_SWITCHING t n) = true ∨ s.domOn (domConv t) = false)) :=
  ⟨(let t : Fin 32 := 0;
     let n : Fin 8 := 0;
     let s : State := ((State.reset).put (R.PIN_STAT_FUNC_ACT t n) 7).put (R.PIN_CFG_DIN_FILT t n) 1;
     ⟨s, t, n, by decide +kernel⟩),
    (let t : Fin 32 := 0;
     let n : Fin 8 := 0;
     let s : State := State.reset;
     ⟨s, t, n, by decide +kernel⟩),
    (let t : Fin 32 := 0;
     let n : Fin 8 := 0;
     let s : State := (State.reset).modPin t n fun x => { x with overload := false };
     ⟨s, t, n, by decide +kernel⟩),
    (let t : Fin 32 := 0;
     let n : Fin 8 := 0;
     let s : State := (State.reset).modPin t n fun x => { x with overload := true };
     ⟨s, t, n, by decide +kernel⟩),
    (let t : Fin 32 := 0;
     let n : Fin 8 := 0;
     let s : State := (State.reset).putIdx (R.TILE_AFE_STAT_SENSE_TRIP t) n false;
     ⟨s, t, n, by decide +kernel⟩),
    (let t : Fin 32 := 0;
     let n : Fin 8 := 0;
     let s : State := (State.reset).putIdx (R.TILE_AFE_STAT_SENSE_TRIP t) n true;
     ⟨s, t, n, by decide +kernel⟩),
    (let t : Fin 32 := 0;
     let n : Fin 8 := 0;
     let s : State := ((State.reset).put (R.PIN_STAT_FUNC_ACT t n) 3).setDom (domConv t) true;
     ⟨s, t, n, by decide +kernel⟩),
    (let t : Fin 32 := 0;
     let n : Fin 8 := 0;
     let s : State := (State.reset).put (R.PIN_STAT_FUNC_ACT t n) 0;
     ⟨s, t, n, by decide +kernel⟩)⟩

theorem witness_WireAndProtectionFaults_1 :
    (∃ (s : State), s.awake = false) ∧
    (∃ (s : State) (t : Fin 32) (n : Fin 8), (s.pin t n).doutOn = true) ∧
    (∃ (s : State) (t : Fin 32) (n : Fin 8), s.bit (R.PIN_STAT_SWITCHING t n) = false ∧
      (s.func t n = 4 ∨ s.func t n = 6)) ∧
    (∃ (s : State) (t : Fin 32) (n : Fin 8), s.bit (R.PIN_STAT_SWITCHING t n) = false ∧
      (s.func t n = 4 ∨ s.func t n = 6 ∨ s.func t n = 7 ∨ s.func t n = 13)) ∧
    (∃ (s : State) (t : Fin 32) (n : Fin 8), s.bit (R.PIN_STAT_SWITCHING t n) = false ∧ shortByCurrent (s.func t n) n
      = true) ∧
    (∃ (s : State) (t : Fin 32) (n : Fin 8), s.bit (R.PIN_STAT_SWITCHING t n) = false ∧ s.func t n = 8 ∧
      (s.pin t n).doutOn = false) ∧
    (∃ (s : State) (t : Fin 32) (n : Fin 8) (c : Crit), s.bit (condStat t n (critCond c)) = false) ∧
    (∃ (s : State) (t : Fin 32) (n : Fin 8) (c : Crit), s.bit (condStat t n (critCond c)) = true) ∧
    (∃ (s : State), s.v24Rev = false) ∧
    (∃ (s : State), s.v24Rev = true) ∧
    (∃ (c : Crit), (c = .openCompliance ∨ c = .shortSupply ∨ c = .revPolarity)) ∧
    (∃ (s : State) (t : Fin 32) (n : Fin 8) (c : Crit), (s.pin t n).crits = [c]) :=
  ⟨(let s : State := State.reset;
     ⟨s, by decide +kernel⟩),
    (let t : Fin 32 := 0;
     let n : Fin 8 := 0;
     let s : State := (State.reset).modPin t n fun x => { x with doutOn := true };
     ⟨s, t, n, by decide +kernel⟩),
    (let t : Fin 32 := 0;
     let n : Fin 8 := 0;
     let s : State := ((State.reset).putB (R.PIN_STAT_SWITCHING t n) false).put (R.PIN_STAT_FUNC_ACT t n) 4;
     ⟨s, t, n, by decide +kernel⟩),
    (let t : Fin 32 := 0;
     let n : Fin 8 := 0;
     let s : State := ((State.reset).putB (R.PIN_STAT_SWITCHING t n) false).put (R.PIN_STAT_FUNC_ACT t n) 4;
     ⟨s, t, n, by decide +kernel⟩),
    (let t : Fin 32 := 0;
     let n : Fin 8 := 0;
     let s : State := (State.reset).put (R.PIN_STAT_FUNC_ACT t n) 5;
     ⟨s, t, n, by decide +kernel⟩),
    (let t : Fin 32 := 0;
     let n : Fin 8 := 0;
     let s : State := (((State.reset).putB (R.PIN_STAT_SWITCHING t n) false).put (R.PIN_STAT_FUNC_ACT t n) 8).modPin
        t n fun x => { x with doutOn := false };
     ⟨s, t, n, by decide +kernel⟩),
    (let t : Fin 32 := 0;
     let n : Fin 8 := 0;
     let c : Crit := .openPilot;
     let s : State := (State.reset).putB (condStat t n (critCond c)) false;
     ⟨s, t, n, c, by decide +kernel⟩),
    (let t : Fin 32 := 0;
     let n : Fin 8 := 0;
     let c : Crit := .openPilot;
     let s : State := (State.reset).putB (condStat t n (critCond c)) true;
     ⟨s, t, n, c, by decide +kernel⟩),
    (let s : State := State.reset;
     let s : State := { s with v24Rev := false };
     ⟨s, by decide +kernel⟩),
    (let s : State := State.reset;
     let s : State := { s with v24Rev := true };
     ⟨s, by decide +kernel⟩),
    (let c : Crit := .openCompliance;
     ⟨c, by decide +kernel⟩),
    (let t : Fin 32 := 0;
     let n : Fin 8 := 0;
     let c : Crit := .openPilot;
     let s : State := (State.reset).modPin t n fun x => { x with crits := [c] };
     ⟨s, t, n, c, by decide +kernel⟩)⟩

theorem witness_WireAndProtectionFaults_2 :
    (∃ (s : State) (t : Fin 32) (n : Fin 8), s.func t n = 1 ∧ s.bit (R.TILE_AFE_SENSE t n) = true ∧
      (s.pin t n).snOpen = false) ∧
    (∃ (s : State) (t : Fin 32) (n : Fin 8) (w : Writer), s.awake = true ∧ s.matchesOwner w (s.pinOwner t n) = true ∧
      s.getIdx (R.TILE_AFE_STAT_SENSE_TRIP t) n = true) ∧
    (∃ (s : State) (t : Fin 32) (n : Fin 8) (w : Writer), s.awake = true ∧ s.matchesOwner w (s.pinOwner t n) = false) :=
  ⟨(let t : Fin 32 := 0;
     let n : Fin 8 := 0;
     let s : State := (((State.reset).put (R.PIN_STAT_FUNC_ACT t n) 1).putB (R.TILE_AFE_SENSE t n) true).modPin t n
        fun x => { x with snOpen := false };
     ⟨s, t, n, by decide +kernel⟩),
    (let t : Fin 32 := 0;
     let n : Fin 8 := 0;
     let w : Writer := .secure;
     let s : State := State.reset;
     let s : State := { s with pwr := { s.pwr with phase := 3 } };
     let s : State := s.putIdx (R.TILE_AFE_STAT_SENSE_TRIP t) n true;
     ⟨s, t, n, w, by decide +kernel⟩),
    (let t : Fin 32 := 0;
     let n : Fin 8 := 0;
     let w : Writer := .unit 0;
     let s : State := State.reset;
     let s : State := { s with pwr := { s.pwr with phase := 3 } };
     ⟨s, t, n, w, by decide +kernel⟩)⟩

theorem witness_TileCommands_1 :
    (∃ (s : State), s.awake = false) ∧
    (∃ (s : State) (t : Fin 32) (n : Fin 8), s.bit (R.PIN_STAT_SWITCHING t n) = true ∧ s.driversReady t = true ∧
      groupOf (s.pin t n).nextFunc n = [n.val]) ∧
    (∃ (s : State) (t : Fin 32) (n : Fin 8), (s.bit (R.PIN_STAT_SWITCHING t n) = false ∨ s.driversReady t = false)) ∧
    (∃ (s : State) (t : Fin 32), s.bit (R.TILE_LANE_STAT_SEG_PENDING t) = true ∧ s.domReady (domField t) = true) ∧
    (∃ (s : State) (t : Fin 32), (s.bit (R.TILE_LANE_STAT_SEG_PENDING t) = false ∨ s.domReady (domField t) = false)) ∧
    (∃ (s : State) (t : Fin 32) (n : Fin 8) (lane : Fin 16), (s.pin t n).slClosed = true ∧ s.get (R.PIN_CFG_LANE t n)
      = lane) ∧
    (∃ (s : State) (t : Fin 32) (w : Writer) (c : LaneConn), s.awake = true ∧ s.matchesOwner w
      (s.pinOwner t (s.protBit t c).2.2) = false) ∧
    (∃ (s : State) (t : Fin 32) (w : Writer) (c : LaneConn), s.awake = true ∧ s.matchesOwner w
      (s.pinOwner t (s.protBit t c).2.2) = true ∧ s.getIdx (s.protBit t c).1 (s.protBit t c).2.1 = true) ∧
    (∃ (s : State) (t : Fin 32) (n : Fin 8) (w : Writer), s.awake = true ∧ s.matchesOwner w (s.pinOwner t n) = true ∧
      s.getIdx (R.TILE_LANE_STAT_PIN_PROT t) n = true) ∧
    (∃ (s : State) (t : Fin 32) (n : Fin 8), (s.tile t).protWait.contains (.sl n) = true ∧ s.func t n = 15 ∧ s.bit
      (R.PIN_STAT_SWITCHING t n) = false ∧ s.getIdx (R.TILE_LANE_STAT_PIN_PROT t) n = false ∧ s.domReady (domField t)
      = true) ∧
    (∃ (s : State) (t : Fin 32) (k : Fin 2), (s.tile t).protWait.contains (.drv k) = true) ∧
    (∃ (s : State) (t : Fin 32) (dev zero : Int), 500 < dev ∧ dev ≤ 32767 ∧ -400 ≤ zero ∧ zero ≤ 400 ∧ 1 ≤
      (s.tile t).refBad ∧ s.bit (R.TILE_REF_STAT_REF_ERR t) = false) :=
  ⟨(let s : State := State.reset;
     ⟨s, by decide +kernel⟩),
    (let t : Fin 32 := 0;
     let n : Fin 8 := 0;
     let s : State :=
        ((((((State.reset).putB (R.PIN_STAT_SWITCHING t n) true).put R.LAT_LOAD_STAT_STATE 5).modTile t fun x => { x with selfCal := true }).setDom (domField t) true).setDom (domConv t) true).modPin
        t n fun x => { x with nextFunc := 3 };
     ⟨s, t, n, by decide +kernel⟩),
    (let t : Fin 32 := 0;
     let n : Fin 8 := 0;
     let s : State := (State.reset).putB (R.PIN_STAT_SWITCHING t n) false;
     ⟨s, t, n, by decide +kernel⟩),
    (let t : Fin 32 := 0;
     let s : State := ((State.reset).putB (R.TILE_LANE_STAT_SEG_PENDING t) true).setDom (domField t) true;
     ⟨s, t, by decide +kernel⟩),
    (let t : Fin 32 := 0;
     let s : State := (State.reset).putB (R.TILE_LANE_STAT_SEG_PENDING t) false;
     ⟨s, t, by decide +kernel⟩),
    (let t : Fin 32 := 0;
     let n : Fin 8 := 0;
     let lane : Fin 16 := 0;
     let s : State := ((State.reset).modPin t n fun x => { x with slClosed := true }).put (R.PIN_CFG_LANE t n) lane;
     ⟨s, t, n, lane, by decide +kernel⟩),
    (let t : Fin 32 := 0;
     let w : Writer := .unit 0;
     let c : LaneConn := .sl 0;
     let s : State := State.reset;
     let s : State := { s with pwr := { s.pwr with phase := 3 } };
     ⟨s, t, w, c, by decide +kernel⟩),
    (let t : Fin 32 := 0;
     let w : Writer := .secure;
     let c : LaneConn := .sl 0;
     let s : State := State.reset;
     let s : State := { s with pwr := { s.pwr with phase := 3 } };
     let s : State := s.putIdx (s.protBit t c).1 (s.protBit t c).2.1 true;
     ⟨s, t, w, c, by decide +kernel⟩),
    (let t : Fin 32 := 0;
     let n : Fin 8 := 0;
     let w : Writer := .secure;
     let s : State := State.reset;
     let s : State := { s with pwr := { s.pwr with phase := 3 } };
     let s : State := s.putIdx (R.TILE_LANE_STAT_PIN_PROT t) n true;
     ⟨s, t, n, w, by decide +kernel⟩),
    (let t : Fin 32 := 0;
     let n : Fin 8 := 0;
     let s : State :=
        (((((State.reset).modTile t fun x => { x with protWait := [(.sl n)] }).put (R.PIN_STAT_FUNC_ACT t n) 15).putB (R.PIN_STAT_SWITCHING t n) false).putIdx (R.TILE_LANE_STAT_PIN_PROT t) n false).setDom
        (domField t) true;
     ⟨s, t, n, by decide +kernel⟩),
    (let t : Fin 32 := 0;
     let k : Fin 2 := 0;
     let s : State := (State.reset).modTile t fun x => { x with protWait := [(.drv k)] };
     ⟨s, t, k, by decide +kernel⟩),
    (let t : Fin 32 := 0;
     let dev : Int := (500 + 1);
     let zero : Int := 0;
     let s : State := ((State.reset).modTile t fun x => { x with refBad := 1 }).putB (R.TILE_REF_STAT_REF_ERR t)
        false;
     ⟨s, t, dev, zero, by decide +kernel⟩)⟩

theorem witness_TileCommands_2 :
    (∃ (dev zero : Int), -500 ≤ dev ∧ dev ≤ 500 ∧ -400 ≤ zero ∧ zero ≤ 400) ∧
    (∃ (s : State) (t : Fin 32) (temp : Int), s.domOn (domConv t) = true ∧ -32768 ≤ temp ∧ temp < 1920 ∧
      (temp < sext 16 (s.get (R.TILE_TEMP_WARN_WARN_TH t)) ∨ s.bit (R.TILE_TEMP_WARN t) = true)) ∧
    (∃ (s : State) (t : Fin 32) (temp : Int), s.domOn (domConv t) = true ∧ temp < 1920 ∧ sext 16
      (s.get (R.TILE_TEMP_WARN_WARN_TH t)) ≤ temp ∧ s.bit (R.TILE_TEMP_WARN t) = false ∧ -32768 ≤ temp) ∧
    (∃ (s : State) (t : Fin 32) (temp : Int), s.domOn (domConv t) = true ∧ 1920 ≤ temp ∧ temp ≤ 32767 ∧ s.bit
      (R.TILE_TEMP_WARN t) = true ∧ s.bit (R.TILE_TEMP_SHUTDOWN t) = false ∧ sext 16
      (s.get (R.TILE_TEMP_WARN_WARN_TH t)) ≤ 1920 ∧ 1 ≤ (s.tile t).hot) ∧
    (∃ (s : State) (t : Fin 32), s.domOn (domConv t) = false) ∧
    (∃ (s : State) (t : Fin 32) (w : Writer), s.awake = true ∧ s.matchesOwner w (s.get (R.PAGE_OWNER (pinPage t))) =
      true ∧ s.bit (R.TILE_TEMP_SHUTDOWN t) = true ∧ sext 16 (s.get (R.TILE_TEMP t)) < sext 16
      (s.get (R.TILE_TEMP_WARN_WARN_TH t))) ∧
    (∃ (s : State) (t : Fin 32) (w : Writer), s.awake = true ∧ s.matchesOwner w (s.get (R.PAGE_OWNER (pinPage t))) =
      false) :=
  ⟨(let dev : Int := 0;
     let zero : Int := 0;
     ⟨dev, zero, by decide +kernel⟩),
    (let t : Fin 32 := 0;
     let temp : Int := 0;
     let s : State := (State.reset).setDom (domConv t) true;
     ⟨s, t, temp, by decide +kernel⟩),
    (let t : Fin 32 := 0;
     let temp : Int := 1680;
     let s : State := ((State.reset).setDom (domConv t) true).put (R.TILE_TEMP_WARN_WARN_TH t) 1680;
     ⟨s, t, temp, by decide +kernel⟩),
    (let t : Fin 32 := 0;
     let temp : Int := 1920;
     let s : State :=
        ((((State.reset).setDom (domConv t) true).putB (R.TILE_TEMP_WARN t) true).putB (R.TILE_TEMP_SHUTDOWN t) false).modTile
        t fun x => { x with hot := 1 };
     ⟨s, t, temp, by decide +kernel⟩),
    (let t : Fin 32 := 0;
     let s : State := (State.reset).setDom (domConv t) false;
     ⟨s, t, by decide +kernel⟩),
    (let t : Fin 32 := 0;
     let w : Writer := .secure;
     let s : State := State.reset;
     let s : State := { s with pwr := { s.pwr with phase := 3 } };
     let s : State := s.putB (R.TILE_TEMP_SHUTDOWN t) true;
     ⟨s, t, w, by decide +kernel⟩),
    (let t : Fin 32 := 0;
     let w : Writer := .unit 0;
     let s : State := State.reset;
     let s : State := { s with pwr := { s.pwr with phase := 3 } };
     ⟨s, t, w, by decide +kernel⟩)⟩

theorem witness_SequencerCommands_1 :
    (∃ (s : State), s.awake = false) ∧
    (∃ (s v : State) (t : Fin 32) (u : Nat), v =
      (if s.passActive t = true ∧ s.passStart t = none then s else s.passBoundary t) ∧ v.passStart t = some u ∧ v.bit
      (R.TILE_ADC_STAT_RUNNING t) = true ∧ (v.bit (R.TILE_ADC_CTRL_MODE t) = false ∨ (v.tile t).passRun = true) ∧
      (v.tile t).intlvEnter = false) ∧
    (∃ (s v : State) (t : Fin 32), v =
      (if s.passActive t = true ∧ s.passStart t = none then s else s.passBoundary t) ∧
      (v.passStart t = none ∨ v.bit (R.TILE_ADC_STAT_RUNNING t) = false ∨ v.bit (R.TILE_ADC_CTRL_MODE t) = true ∧ (v.tile t).passRun = false ∨ (v.tile t).intlvEnter = true)) ∧
    (∃ (s : State) (t : Fin 32) (u : Nat), s.passStart t = some u ∧ s.bit (R.TILE_ADC_CTRL_MODE t) = false ∧ 0 <
      s.get (R.TILE_ADC_SEQ_PER t)) ∧
    (∃ (s : State) (t : Fin 32) (k : Nat), k < s.seqLen t) ∧
    (∃ (s : State) (t : Fin 32), s.bit (R.TILE_ADC_STAT_RUNNING t) = true ∧ s.bit (R.TILE_ADC_CTRL_MODE t) = true ∧
      (s.tile t).passRun = false ∧ s.passActive t = false) ∧
    (∃ (s : State) (t : Fin 32), s.bit (R.TILE_ADC_STAT_RUNNING t) = true ∧ s.bit (R.TILE_ADC_CTRL_MODE t) = true ∧
      ((s.tile t).passRun = true ∨ s.passActive t = true)) ∧
    (∃ (s : State) (t : Fin 32),
      (s.bit (R.TILE_ADC_CTRL_MODE t) = false ∨ s.bit (R.TILE_ADC_STAT_RUNNING t) = false)) ∧
    (∃ (s : State) (t : Fin 32) (w : Writer), s.awake = true ∧ s.matchesOwner w (s.get (R.PAGE_OWNER (inPage t))) =
      true) ∧
    (∃ (s : State) (t : Fin 32) (w : Writer), s.awake = true ∧ s.matchesOwner w (s.get (R.PAGE_OWNER (inPage t))) =
      false) ∧
    (∃ (s : State) (t : Fin 32), s.passActive t = true) ∧
    (∃ (s : State) (t : Fin 32), (∃ a ∈ inputLate t, (s.passClose t).waits a = true)) :=
  ⟨(let s : State := State.reset;
     ⟨s, by decide +kernel⟩),
    (let t : Fin 32 := 0;
     let u : Nat := 0;
     let s : State := (State.reset).putB (R.TILE_ADC_STAT_RUNNING t) true;
     let v : State := (if s.passActive t = true ∧ s.passStart t = none then s else s.passBoundary t);
     ⟨s, v, t, u, rfl, by decide +kernel⟩),
    (let t : Fin 32 := 0;
     let s : State := State.reset;
     let v : State := (if s.passActive t = true ∧ s.passStart t = none then s else s.passBoundary t);
     ⟨s, v, t, rfl, by decide +kernel⟩),
    (let t : Fin 32 := 0;
     let u : Nat := 0;
     let s : State := ((State.reset).putB (R.TILE_ADC_CTRL_MODE t) false).put (R.TILE_ADC_SEQ_PER t) (0 + 1);
     ⟨s, t, u, by decide +kernel⟩),
    (let t : Fin 32 := 0;
     let k : Nat := 0;
     let s : State := State.reset;
     ⟨s, t, k, by decide +kernel⟩),
    (let t : Fin 32 := 0;
     let s : State :=
        (((State.reset).putB (R.TILE_ADC_STAT_RUNNING t) true).putB (R.TILE_ADC_CTRL_MODE t) true).modTile t fun x =>
        { x with passRun := false };
     ⟨s, t, by decide +kernel⟩),
    (let t : Fin 32 := 0;
     let s : State :=
        (((State.reset).putB (R.TILE_ADC_STAT_RUNNING t) true).putB (R.TILE_ADC_CTRL_MODE t) true).modTile t fun x =>
        { x with passRun := true };
     ⟨s, t, by decide +kernel⟩),
    (let t : Fin 32 := 0;
     let s : State := (State.reset).putB (R.TILE_ADC_CTRL_MODE t) false;
     ⟨s, t, by decide +kernel⟩),
    (let t : Fin 32 := 0;
     let w : Writer := .secure;
     let s : State := State.reset;
     let s : State := { s with pwr := { s.pwr with phase := 3 } };
     ⟨s, t, w, by decide +kernel⟩),
    (let t : Fin 32 := 0;
     let w : Writer := .unit 0;
     let s : State := State.reset;
     let s : State := { s with pwr := { s.pwr with phase := 3 } };
     ⟨s, t, w, by decide +kernel⟩),
    (let t : Fin 32 := 0;
     let s : State := State.reset;
     let s : State := { s with time := 1 };
     let s : State := (s.putB (R.TILE_ADC_STAT_RUNNING t) true).modTile t fun x => { x with passEnd := 5 };
     ⟨s, t, by decide +kernel⟩),
    (let t : Fin 32 := 0;
     let s : State := State.reset;
     let s : State := { s with wait := [(inPage 0 + 0x40, 1)] };
     ⟨s, t, ⟨inPage 0 + 0x40, by decide +kernel, by decide +kernel⟩⟩)⟩

theorem witness_SequencerCommands_2 :
    (∃ (s : State) (t : Fin 32), (∀ a ∈ inputLate t, (s.passClose t).waits a = false)) ∧
    (∃ (s : State) (t : Fin 32), (s.tile t).passOut = []) ∧
    (∃ (s : State) (t : Fin 32) (e : Nat × Word × Nat), (s.tile t).passOut = [e]) :=
  ⟨(let t : Fin 32 := 0;
     let s : State := State.reset;
     ⟨s, t, by decide +kernel⟩),
    (let t : Fin 32 := 0;
     let s : State := (State.reset).modTile t fun x => { x with passOut := [] };
     ⟨s, t, by decide +kernel⟩),
    (let t : Fin 32 := 0;
     let e : Nat × Word × Nat := (0, (0 : Word), 0);
     let s : State := (State.reset).modTile t fun x => { x with passOut := [e] };
     ⟨s, t, e, by decide +kernel⟩)⟩

theorem witness_SamplesAndInterleave_1 :
    (∃ (v : Int), -524288 ≤ v ∧ v ≤ 524287) ∧
    (∃ (s : State) (t : Fin 32) (d : Fin 8) (n : Nat) (ws : List Word), n = s.decM t d * 2 ^ s.decH t d ∧ ws =
      ((s.dec t d).inq.take n).map (·.1) ∧ s.bit (R.TILE_DEC_CFG_EN t d) = true ∧ n ≤ (s.dec t d).inq.length) ∧
    (∃ (s : State) (t : Fin 32) (d : Fin 8),
      (s.bit (R.TILE_DEC_CFG_EN t d) = false ∨ (s.dec t d).inq.length < s.decM t d * 2 ^ s.decH t d)) ∧
    (∃ (s : State) (t : Fin 32) (out : Fin 25) (e : Nat × Frame), (s.tile t).ready.find? (fun f => f.1 = out.val) =
      some e) ∧
    (∃ (s : State) (t : Fin 32) (out : Fin 25), (s.tile t).ready.find? (fun f => f.1 = out.val) = none) ∧
    (∃ (s : State) (t : Fin 32), (s.tile t).intlvEnter = true ∧ s.passActive t = false) ∧
    (∃ (s : State) (t : Fin 32), ((s.tile t).intlvEnter = false ∨ s.passActive t = true)) ∧
    (∃ (s : State) (t : Fin 32), s.bit (R.TILE_ADC_STAT_INTLV_ACT t) = false) ∧
    (∃ (s : State), s.time % 50 ≠ 0) ∧
    (∃ (s : State) (t : Fin 32), s.bit (R.TILE_ADC_STAT_INTLV_ACT t) = true ∧ s.time % 50 = 0 ∧ (s.tile t).passFrom ≤
      4 * s.time) ∧
    (∃ (s : State) (t : Fin 32), (s.tile t).intlvExit = false) ∧
    (∃ (s : State) (t : Fin 32), (s.tile t).intlvExit = true ∧ s.bit (R.TILE_ADC_STAT_INTLV_ACT t) = true ∧ s.bit
      (R.TILE_ADC_CTRL_RUN t) = false) :=
  ⟨(let v : Int := 0;
     ⟨v, by decide +kernel⟩),
    (let t : Fin 32 := 0;
     let d : Fin 8 := 0;
     let s : State := ((State.reset).putB (R.TILE_DEC_CFG_EN t d) true).modTile t fun x =>
        { x with decs := [(0, { inq := List.replicate 64 ((0 : Word), 0) })] };
     let n : Nat := s.decM t d * 2 ^ s.decH t d;
     let ws : List Word := ((s.dec t d).inq.take n).map (·.1);
     ⟨s, t, d, n, ws, rfl, rfl, by decide +kernel⟩),
    (let t : Fin 32 := 0;
     let d : Fin 8 := 0;
     let s : State := (State.reset).putB (R.TILE_DEC_CFG_EN t d) false;
     ⟨s, t, d, by decide +kernel⟩),
    (let t : Fin 32 := 0;
     let out : Fin 25 := 0;
     let e : Nat × Frame := (0, frame0);
     let s : State := (State.reset).modTile t fun x => { x with ready := [e] };
     ⟨s, t, out, e, by decide +kernel⟩),
    (let t : Fin 32 := 0;
     let out : Fin 25 := 0;
     let s : State := State.reset;
     ⟨s, t, out, by decide +kernel⟩),
    (let t : Fin 32 := 0;
     let s : State := (State.reset).modTile t fun x => { x with intlvEnter := true };
     ⟨s, t, by decide +kernel⟩),
    (let t : Fin 32 := 0;
     let s : State := (State.reset).modTile t fun x => { x with intlvEnter := false };
     ⟨s, t, by decide +kernel⟩),
    (let t : Fin 32 := 0;
     let s : State := (State.reset).putB (R.TILE_ADC_STAT_INTLV_ACT t) false;
     ⟨s, t, by decide +kernel⟩),
    (let s : State := State.reset;
     let s : State := { s with time := 1 };
     ⟨s, by decide +kernel⟩),
    (let t : Fin 32 := 0;
     let s : State := (State.reset).putB (R.TILE_ADC_STAT_INTLV_ACT t) true;
     ⟨s, t, by decide +kernel⟩),
    (let t : Fin 32 := 0;
     let s : State := (State.reset).modTile t fun x => { x with intlvExit := false };
     ⟨s, t, by decide +kernel⟩),
    (let t : Fin 32 := 0;
     let s : State :=
        (((State.reset).modTile t fun x => { x with intlvExit := true }).putB (R.TILE_ADC_STAT_INTLV_ACT t) true).putB
        (R.TILE_ADC_CTRL_RUN t) false;
     ⟨s, t, by decide +kernel⟩)⟩

theorem witness_SamplesAndInterleave_2 :
    ∃ (s : State) (t : Fin 32), (s.tile t).intlvExit = true ∧ s.bit (R.TILE_ADC_STAT_INTLV_ACT t) = true ∧ s.bit
      (R.TILE_ADC_CTRL_RUN t) = true :=
  let t : Fin 32 := 0
  let s : State :=
    (((State.reset).modTile t fun x => { x with intlvExit := true }).putB (R.TILE_ADC_STAT_INTLV_ACT t) true).putB
    (R.TILE_ADC_CTRL_RUN t) true
  ⟨s, t, by decide +kernel⟩

theorem witness_OutCodeWrites :
    (∃ (s : State), s.awake = false) ∧
    (∃ (s : State) (w : Writer) (t : Fin 32) (n : Fin 8), s.awake = true ∧ s.matchesOwner w (s.pinOwner t n) = false) ∧
    (∃ (s : State) (w : Writer) (t : Fin 32) (n : Fin 8), s.awake = true ∧ s.matchesOwner w (s.pinOwner t n) = true ∧
      (s.bit (R.PIN_STAT_SWITCHING t n) = true ∨ (s.func t n ≠ 3 ∧ s.func t n ≠ 4))) ∧
    (∃ (s : State) (w : Writer) (t : Fin 32) (n : Fin 8), s.awake = true ∧ s.matchesOwner w (s.pinOwner t n) = true ∧
      s.bit (R.PIN_STAT_SWITCHING t n) = false ∧ (s.func t n = 3 ∨ s.func t n = 4) ∧
      (s.outHeld t n = true ∨ s.bit (R.OUT_STAT_RCHG t n) = true)) ∧
    (∃ (s : State) (w : Writer) (t : Fin 32) (n : Fin 8), s.awake = true ∧ s.matchesOwner w (s.pinOwner t n) = true ∧
      s.bit (R.PIN_STAT_SWITCHING t n) = false ∧ (s.func t n = 3 ∨ s.func t n = 4) ∧ s.outHeld t n = false ∧ s.bit
      (R.OUT_STAT_RCHG t n) = false ∧ s.bit (R.OUT_STAT_FAULT_HOLD t n) = true) ∧
    (∃ (s : State) (w : Writer) (t : Fin 32) (n : Fin 8), s.awake = true ∧ s.matchesOwner w (s.pinOwner t n) = true ∧
      s.bit (R.PIN_STAT_SWITCHING t n) = false ∧ (s.func t n = 3 ∨ s.func t n = 4) ∧ s.outHeld t n = false ∧ s.bit
      (R.OUT_STAT_RCHG t n) = false ∧ s.bit (R.OUT_STAT_FAULT_HOLD t n) = false) ∧
    (∃ (s : State) (t : Fin 32) (it : _), s.tileItem t 3 = some it) ∧
    (∃ (s : State) (t : Fin 32) (it : _), s.tileItem t 4 = some it) ∧
    (∃ (s : State) (t : Fin 32), s.tileItem t 3 = none) ∧
    (∃ (s : State) (t : Fin 32), s.tileItem t 4 = none) ∧
    (∃ (s : State), s.bit R.FLT_STAT_C4 = true) :=
  ⟨(let s : State := State.reset;
     ⟨s, by decide +kernel⟩),
    (let w : Writer := .unit 0;
     let t : Fin 32 := 0;
     let n : Fin 8 := 0;
     let s : State := State.reset;
     let s : State := { s with pwr := { s.pwr with phase := 3 } };
     ⟨s, w, t, n, by decide +kernel⟩),
    (let w : Writer := .secure;
     let t : Fin 32 := 0;
     let n : Fin 8 := 0;
     let s : State := State.reset;
     let s : State := { s with pwr := { s.pwr with phase := 3 } };
     let s : State := s.putB (R.PIN_STAT_SWITCHING t n) true;
     ⟨s, w, t, n, by decide +kernel⟩),
    (let w : Writer := .secure;
     let t : Fin 32 := 0;
     let n : Fin 8 := 0;
     let s : State := State.reset;
     let s : State := { s with pwr := { s.pwr with phase := 3 } };
     let s : State := (s.put (R.PIN_STAT_FUNC_ACT t n) 4).putB (R.OUT_STAT_RCHG t n) true;
     ⟨s, w, t, n, by decide +kernel⟩),
    (let w : Writer := .secure;
     let t : Fin 32 := 0;
     let n : Fin 8 := 0;
     let s : State := State.reset;
     let s : State := { s with pwr := { s.pwr with phase := 3 } };
     let s : State :=
        (((s.putB (R.PIN_STAT_SWITCHING t n) false).put (R.PIN_STAT_FUNC_ACT t n) 3).putB (R.OUT_STAT_RCHG t n) false).putB
        (R.OUT_STAT_FAULT_HOLD t n) true;
     ⟨s, w, t, n, by decide +kernel⟩),
    (let w : Writer := .secure;
     let t : Fin 32 := 0;
     let n : Fin 8 := 0;
     let s : State := State.reset;
     let s : State := { s with pwr := { s.pwr with phase := 3 } };
     let s : State :=
        (((s.putB (R.PIN_STAT_SWITCHING t n) false).put (R.PIN_STAT_FUNC_ACT t n) 3).putB (R.OUT_STAT_RCHG t n) false).putB
        (R.OUT_STAT_FAULT_HOLD t n) false;
     ⟨s, w, t, n, by decide +kernel⟩),
    (let t : Fin 32 := 0;
     let it := { item0 with tag := { tag0 with typ := 3 } };
     let s : State := State.reset;
     let s : State := { s with sched := { s.sched with flights := [{ item := it, phase := .sent, isD := false }] } };
     ⟨s, t, it, by decide +kernel⟩),
    (let t : Fin 32 := 0;
     let it := { item0 with tag := { tag0 with typ := 4 } };
     let s : State := State.reset;
     let s : State := { s with sched := { s.sched with flights := [{ item := it, phase := .sent, isD := false }] } };
     ⟨s, t, it, by decide +kernel⟩),
    (let t : Fin 32 := 0;
     let s : State := State.reset;
     ⟨s, t, by decide +kernel⟩),
    (let t : Fin 32 := 0;
     let s : State := State.reset;
     ⟨s, t, by decide +kernel⟩),
    (let s : State := (State.reset).putB R.FLT_STAT_C4 true;
     ⟨s, by decide +kernel⟩)⟩

theorem witness_OutputStageCommands_1 :
    (∃ (s : State), s.awake = false) ∧
    (∃ (s : State) (t : Fin 32) (n : Fin 8), isOutFunc (s.func t n) = true ∧ s.bit (R.PIN_STAT_SWITCHING t n) =
      false ∧ s.outHeld t n = false ∧ s.get (R.OUT_READ_CORE t n) ≠ (s.pin t n).limit ∧ (s.pin t n).limit < 65536 ∧
      s.domReady (domConv t) = true) ∧
    (∃ (s : State) (t : Fin 32) (n : Fin 8),
      (s.get (R.OUT_READ_CORE t n) = (s.pin t n).limit ∨ isOutFunc (s.func t n) = false ∨ s.bit (R.PIN_STAT_SWITCHING t n) = true ∨ s.outHeld t n = true ∨ s.domReady (domConv t) = false)) ∧
    (∃ (s : State) (t : Fin 32) (n : Fin 8), s.bit (R.OUT_STAT_RCHG t n) = false ∧ s.bit (R.OUT_STAT_FAULT_HOLD t n)
      = false) ∧
    (∃ (s : State) (t : Fin 32) (n : Fin 8), s.bit (R.OUT_STAT_DG_HOLD t n) = true) ∧
    (∃ (s : State) (t : Fin 32) (n : Fin 8), s.bit (R.OUT_STAT_DG_HOLD t n) = false) ∧
    (∃ (s : State) (t : Fin 32) (n : Fin 8), s.get (R.OUT_WDOG_TIMEOUT t n) ≠ 0 ∧ (s.func t n = 3 ∨ s.func t n = 4) ∧
      s.bit (R.PIN_STAT_SWITCHING t n) = false ∧ (s.pin t n).wdogLive = false) ∧
    (∃ (s : State) (t : Fin 32) (n : Fin 8), (s.get (R.OUT_WDOG_TIMEOUT t n) = 0 ∨ (s.pin t n).wdogLive = true)) ∧
    (∃ (s : State) (t : Fin 32) (n : Fin 8) (w : Writer), s.awake = true ∧ s.matchesOwner w (s.pinOwner t n) = true ∧
      s.bit (R.OUT_STAT_FAULT_HOLD t n) = true ∧ s.faultPersists t n = false) ∧
    (∃ (s : State) (t : Fin 32) (n : Fin 8) (w : Writer), s.awake = true ∧ s.matchesOwner w (s.pinOwner t n) = true ∧
      (s.faultPersists t n = true ∨ s.bit (R.OUT_STAT_FAULT_HOLD t n) = false)) ∧
    (∃ (s : State) (t : Fin 32) (n : Fin 8) (w : Writer), s.awake = true ∧ s.matchesOwner w (s.pinOwner t n) = false) ∧
    (∃ (s : State) (t : Fin 32) (n : Fin 8), s.bit (R.OUT_STAT_RCHG t n) = true ∧ s.rotHold t n = false ∧ s.get
      (R.OUT_READ_CORE t n) = 0x8000) :=
  ⟨(let s : State := State.reset;
     ⟨s, by decide +kernel⟩),
    (let t : Fin 32 := 0;
     let n : Fin 8 := 0;
     let s : State := (((State.reset).put (R.PIN_STAT_FUNC_ACT t n) 4).put (R.OUT_READ_CORE t n) 5).setDom
        (domConv t) true;
     ⟨s, t, n, by decide +kernel⟩),
    (let t : Fin 32 := 0;
     let n : Fin 8 := 0;
     let s : State := State.reset;
     let s : State := s.put (R.OUT_READ_CORE t n) (s.pin t n).limit;
     ⟨s, t, n, by decide +kernel⟩),
    (let t : Fin 32 := 0;
     let n : Fin 8 := 0;
     let s : State := ((State.reset).putB (R.OUT_STAT_RCHG t n) false).putB (R.OUT_STAT_FAULT_HOLD t n) false;
     ⟨s, t, n, by decide +kernel⟩),
    (let t : Fin 32 := 0;
     let n : Fin 8 := 0;
     let s : State := (State.reset).putB (R.OUT_STAT_DG_HOLD t n) true;
     ⟨s, t, n, by decide +kernel⟩),
    (let t : Fin 32 := 0;
     let n : Fin 8 := 0;
     let s : State := (State.reset).putB (R.OUT_STAT_DG_HOLD t n) false;
     ⟨s, t, n, by decide +kernel⟩),
    (let t : Fin 32 := 0;
     let n : Fin 8 := 0;
     let s : State :=
        ((((State.reset).put (R.OUT_WDOG_TIMEOUT t n) 1).put (R.PIN_STAT_FUNC_ACT t n) 3).putB (R.PIN_STAT_SWITCHING t n) false).modPin
        t n fun x => { x with wdogLive := false };
     ⟨s, t, n, by decide +kernel⟩),
    (let t : Fin 32 := 0;
     let n : Fin 8 := 0;
     let s : State := (State.reset).put (R.OUT_WDOG_TIMEOUT t n) 0;
     ⟨s, t, n, by decide +kernel⟩),
    (let t : Fin 32 := 0;
     let n : Fin 8 := 0;
     let w : Writer := .secure;
     let s : State := State.reset;
     let s : State := { s with pwr := { s.pwr with phase := 3 } };
     let s : State :=
        (((s.putB (R.OUT_STAT_FAULT_HOLD t n) true).setDom (domConv t) true).setDom (domField t) true).put
        R.LAT_LOAD_STAT_STATE 5;
     ⟨s, t, n, w, by decide +kernel⟩),
    (let t : Fin 32 := 0;
     let n : Fin 8 := 0;
     let w : Writer := .secure;
     let s : State := State.reset;
     let s : State := { s with pwr := { s.pwr with phase := 3 } };
     ⟨s, t, n, w, by decide +kernel⟩),
    (let t : Fin 32 := 0;
     let n : Fin 8 := 0;
     let w : Writer := .unit 0;
     let s : State := State.reset;
     let s : State := { s with pwr := { s.pwr with phase := 3 } };
     ⟨s, t, n, w, by decide +kernel⟩),
    (let t : Fin 32 := 0;
     let n : Fin 8 := 0;
     let s : State := ((State.reset).putB (R.OUT_STAT_RCHG t n) true).put (R.OUT_READ_CORE t n) 0x8000;
     ⟨s, t, n, by decide +kernel⟩)⟩

theorem witness_OutputStageCommands_2 :
    (∃ (s : State) (t : Fin 32) (n : Fin 8), s.bit (R.OUT_STAT_RCHG t n) = true ∧ s.bit (R.OUT_STAT_DISC t n) =
      true ∧ s.domReady (domField t) = true ∧ (s.pin t n).rchgFault = false ∧ rangeFits (s.func t n)
      (s.get (R.OUT_CFG_ORANGE t n)) = true ∧ ((s.pin t n).defer = none ∨ s.tileGirth t = false)) ∧
    (∃ (s : State) (t : Fin 32) (n : Fin 8), s.bit (R.OUT_STAT_RCHG t n) = true ∧ s.bit (R.OUT_STAT_DISC t n) =
      true ∧ (s.pin t n).defer = none ∧
      (((s.pin t n).rchgFault = true ∧ s.bit (R.OUT_CFG_FAULT_DISC t n) = true) ∨ rangeFits (s.func t n) (s.get (R.OUT_CFG_ORANGE t n)) = false ∨ s.domReady (domField t) = false)) ∧
    (∃ (s : State) (t : Fin 32) (n : Fin 8) (c : _), s.bit (R.OUT_STAT_RCHG t n) = true ∧ s.bit (R.OUT_STAT_DISC t n)
      = true ∧ (s.pin t n).defer = some c ∧ (s.bit (R.OUT_STAT_FAULT_HOLD t n) = true ∨ s.tileGirth t = true)) ∧
    (∃ (s : State) (t : Fin 32) (n : Fin 8), s.bit (R.OUT_STAT_RCHG t n) = true ∧
      (s.rotHold t n = true ∨ s.get (R.OUT_READ_CORE t n) ≠ 0x8000)) ∧
    (∃ (s : State) (t : Fin 32) (n : Fin 8), s.bit (R.OUT_STAT_DISC t n) = false) ∧
    (∃ (s : State) (t : Fin 32) (k : Fin 2) (acc : Nat), acc = ((s.sg t k).acc + s.ftw t k) % 2 ^ 48 ∧ s.bit
      (R.SG_STAT_RUN t k) = true) ∧
    (∃ (s : State) (t : Fin 32) (k : Fin 2), s.bit (R.SG_STAT_RUN t k) = false) ∧
    (∃ (s : State) (t : Fin 32) (k : Fin 2), s.waits (sgBase t k + 0x0C) = true ∧ s.bit (R.SG_STAT_RESYNC_PEND t k) =
      false) ∧
    (∃ (s : State) (t : Fin 32) (k : Fin 2), s.waits (sgBase t k + 0x0C) = false) ∧
    (∃ (s : State) (t : Fin 32) (k : Fin 2), s.bit (R.SG_STAT_RESYNC_PEND t k) = true) :=
  ⟨(let t : Fin 32 := 0;
     let n : Fin 8 := 0;
     let s : State :=
        (((((State.reset).putB (R.OUT_STAT_RCHG t n) true).putB (R.OUT_STAT_DISC t n) true).setDom (domField t) true).modPin t n fun x => { x with rchgFault := false }).modPin
        t n fun x => { x with defer := none };
     ⟨s, t, n, by decide +kernel⟩),
    (let t : Fin 32 := 0;
     let n : Fin 8 := 0;
     let s : State :=
        (((((State.reset).putB (R.OUT_STAT_RCHG t n) true).putB (R.OUT_STAT_DISC t n) true).modPin t n fun x => { x with defer := none }).modPin t n fun x => { x with rchgFault := true }).putB
        (R.OUT_CFG_FAULT_DISC t n) true;
     ⟨s, t, n, by decide +kernel⟩),
    (let t : Fin 32 := 0;
     let n : Fin 8 := 0;
     let c := 0;
     let s : State :=
        ((((State.reset).putB (R.OUT_STAT_RCHG t n) true).putB (R.OUT_STAT_DISC t n) true).modPin t n fun x => { x with defer := some 0 }).putB
        (R.OUT_STAT_FAULT_HOLD t n) true;
     ⟨s, t, n, c, by decide +kernel⟩),
    (let t : Fin 32 := 0;
     let n : Fin 8 := 0;
     let s : State := ((State.reset).putB (R.OUT_STAT_RCHG t n) true).put (R.OUT_READ_CORE t n) 5;
     ⟨s, t, n, by decide +kernel⟩),
    (let t : Fin 32 := 0;
     let n : Fin 8 := 0;
     let s : State := (State.reset).putB (R.OUT_STAT_DISC t n) false;
     ⟨s, t, n, by decide +kernel⟩),
    (let t : Fin 32 := 0;
     let k : Fin 2 := 0;
     let s : State := (State.reset).putB (R.SG_STAT_RUN t k) true;
     let acc : Nat := ((s.sg t k).acc + s.ftw t k) % 2 ^ 48;
     ⟨s, t, k, acc, rfl, by decide +kernel⟩),
    (let t : Fin 32 := 0;
     let k : Fin 2 := 0;
     let s : State := (State.reset).putB (R.SG_STAT_RUN t k) false;
     ⟨s, t, k, by decide +kernel⟩),
    (let t : Fin 32 := 0;
     let k : Fin 2 := 0;
     let s : State := State.reset;
     let s : State := { s with wait := [(sgBase t k + 0x0C, 1)] };
     ⟨s, t, k, by decide +kernel⟩),
    (let t : Fin 32 := 0;
     let k : Fin 2 := 0;
     let s : State := State.reset;
     ⟨s, t, k, by decide +kernel⟩),
    (let t : Fin 32 := 0;
     let k : Fin 2 := 0;
     let s : State := (State.reset).putB (R.SG_STAT_RESYNC_PEND t k) true;
     ⟨s, t, k, by decide +kernel⟩)⟩

theorem witness_SelfCalibrationCommands_1 :
    (∃ (s : State), s.awake = false) ∧
    (∃ (s : State) (t : Fin 32) (w : Writer) (ch : Fin 16), s.awake = true ∧ s.matchesOwner w
      (s.get (R.PAGE_OWNER (calPage t))) = true ∧ s.calBusy t = false ∧
      (8 ≤ ch.val ∧ ch.val < 10 ∨ ch.val < 8 ∧ (∀ f ∈ [0, 7, 8, 9, 10, 12, 14], s.func t ch ≠ f))) ∧
    (∃ (s : State) (t : Fin 32) (w : Writer), s.awake = true ∧ s.matchesOwner w (s.get (R.PAGE_OWNER (calPage t))) =
      true ∧ s.calBusy t = true) ∧
    (∃ (s : State) (t : Fin 32) (w : Writer) (ch : Fin 16), s.awake = true ∧ s.matchesOwner w
      (s.get (R.PAGE_OWNER (calPage t))) = true ∧
      (s.calBusy t = true ∨ 10 ≤ ch.val ∨ ch.val < 8 ∧ (∃ f ∈ [0, 7, 8, 9, 10, 12, 14], s.func t ch = f))) ∧
    (∃ (s : State) (t : Fin 32) (w : Writer), s.awake = true ∧ s.matchesOwner w (s.get (R.PAGE_OWNER (calPage t))) =
      false) ∧
    (∃ (s : State) (t : Fin 32), (s.tile t).work = none) ∧
    (∃ (s : State) (t : Fin 32) (r : SelfCal) (k : _), (s.tile t).work = some k ∧ r.aborted = true) ∧
    (∃ (s : State) (t : Fin 32) (r : SelfCal) (scope : _) (c : _), (s.tile t).work = some (.request scope c) ∧
      r.aborted = false ∧ scope ≠ 4 ∧ r.ref = true) ∧
    (∃ (s : State) (t : Fin 32) (r : SelfCal) (scope : _) (c : _), (s.tile t).work = some (.request scope c) ∧
      r.aborted = false ∧ scope ≠ 4 ∧ r.ref = false ∧ s.bit (R.TILE_REF_STAT_REF_ERR t) = false ∧ s.bit
      (R.TILE_REF_STAT_ZERO_ERR t) = false ∧ r.limit = true) ∧
    (∃ (s : State) (t : Fin 32) (r : SelfCal) (scope : _) (c : _), (s.tile t).work = some (.request scope c) ∧
      r.aborted = false ∧ scope ≠ 4 ∧ r.ref = false ∧ r.limit = false ∧ r.ledgerBad = false ∧ s.bit
      (R.TILE_REF_STAT_REF_ERR t) = false ∧ s.bit (R.TILE_REF_STAT_ZERO_ERR t) = false) ∧
    (∃ (s : State) (t : Fin 32) (r : SelfCal) (c : _), (s.tile t).work = some (.request 4 c) ∧ r.aborted = false ∧
      r.ref = false ∧ s.bit (R.TILE_REF_STAT_REF_ERR t) = false ∧ s.bit (R.TILE_REF_STAT_ZERO_ERR t) = false ∧
      r.limit = false ∧ r.coreBad = 0) ∧
    (∃ (s : State) (t : Fin 32) (r : SelfCal) (c : _), (s.tile t).work = some (.request 4 c) ∧ r.aborted = false ∧
      r.ref = false ∧ s.bit (R.TILE_REF_STAT_REF_ERR t) = false ∧ s.bit (R.TILE_REF_STAT_ZERO_ERR t) = false ∧
      r.limit = false ∧ s.get (R.TILE_DAC_ROUTE_SPARE_CORE t) < 3 ∧ r.coreBad.getLsbD
      (s.get (R.TILE_DAC_ROUTE_SPARE_CORE t)) = true) :=
  ⟨(let s : State := State.reset;
     ⟨s, by decide +kernel⟩),
    (let t : Fin 32 := 0;
     let w : Writer := .secure;
     let ch : Fin 16 := 8;
     let s : State := State.reset;
     let s : State := { s with pwr := { s.pwr with phase := 3 } };
     ⟨s, t, w, ch, by decide +kernel, by decide +kernel, by decide +kernel, .inl (by decide)⟩),
    (let t : Fin 32 := 0;
     let w : Writer := .secure;
     let s : State := State.reset;
     let s : State := { s with pwr := { s.pwr with phase := 3 } };
     let s : State := s.put (R.CAL_SYS_STAT_STATE t) 1;
     ⟨s, t, w, by decide +kernel⟩),
    (let t : Fin 32 := 0;
     let w : Writer := .secure;
     let ch : Fin 16 := 10;
     let s : State := State.reset;
     let s : State := { s with pwr := { s.pwr with phase := 3 } };
     ⟨s, t, w, ch, by decide +kernel, by decide +kernel, .inr (.inl (by decide))⟩),
    (let t : Fin 32 := 0;
     let w : Writer := .unit 0;
     let s : State := State.reset;
     let s : State := { s with pwr := { s.pwr with phase := 3 } };
     ⟨s, t, w, by decide +kernel⟩),
    (let t : Fin 32 := 0;
     let s : State := (State.reset).modTile t fun x => { x with work := none };
     ⟨s, t, by decide +kernel⟩),
    (let t : Fin 32 := 0;
     let r : SelfCal := { ref := false, limit := false, coreBad := 0, aborted := true };
     let k := .powerUp;
     let s : State := (State.reset).modTile t fun x => { x with work := some k };
     ⟨s, t, r, k, by decide +kernel⟩),
    (let t : Fin 32 := 0;
     let r : SelfCal := { ref := true, limit := false, coreBad := 0, aborted := false };
     let scope := 0;
     let c := 0;
     let s : State := (State.reset).modTile t fun x => { x with work := some (.request scope c) };
     ⟨s, t, r, scope, c, by decide +kernel⟩),
    (let t : Fin 32 := 0;
     let r : SelfCal := { ref := false, limit := true, coreBad := 0, aborted := false };
     let scope := (3 : Nat);
     let c := (9 : Nat);
     let s : State := (State.reset).modTile t fun x => { x with work := some (.request scope c) };
     ⟨s, t, r, scope, c, by decide +kernel⟩),
    (let t : Fin 32 := 0;
     let r : SelfCal := { ref := false, limit := false, coreBad := 7, aborted := false };
     let scope := (2 : Nat);
     let c := (9 : Nat);
     let s : State := (State.reset).modTile t fun x => { x with work := some (.request scope c) };
     ⟨s, t, r, scope, c, by decide +kernel⟩),
    (let t : Fin 32 := 0;
     let r : SelfCal := { ref := false, limit := false, coreBad := 0, aborted := false };
     let c := (0 : Nat);
     let s : State := (State.reset).modTile t fun x => { x with work := some (.request 4 c) };
     ⟨s, t, r, c, by decide +kernel⟩),
    (let t : Fin 32 := 0;
     let r : SelfCal := { ref := false, limit := false, coreBad := 4, aborted := false };
     let c := (0 : Nat);
     let s : State := (State.reset).modTile t fun x => { x with work := some (.request 4 c) };
     ⟨s, t, r, c, by decide +kernel⟩)⟩

theorem witness_SelfCalibrationCommands_2 :
    ∃ (s : State) (t : Fin 32) (r : SelfCal), (s.tile t).work = some .powerUp ∧ r.aborted = false ∧ r.ref = false ∧
      r.limit = false ∧ r.ledgerBad = false ∧ r.coreBad = 0 ∧ s.bit (R.TILE_REF_STAT_REF_ERR t) = false ∧ s.bit
      (R.TILE_REF_STAT_ZERO_ERR t) = false ∧ (s.tile t).recal = false :=
  let t : Fin 32 := 0
  let r : SelfCal :=
    ({ (({ (({ (({ (({ ({ ref := false, limit := false, coreBad := 0, aborted := false } : SelfCal) with aborted := false } : SelfCal) : SelfCal) with ref := false } : SelfCal) : SelfCal) with limit := false } : SelfCal) : SelfCal) with ledgerBad := false } : SelfCal) : SelfCal) with coreBad := 0 } : SelfCal)
  let s : State :=
    ((((State.reset).modTile t fun x => { x with work := some .powerUp }).putB (R.TILE_REF_STAT_REF_ERR t) false).putB (R.TILE_REF_STAT_ZERO_ERR t) false).modTile
    t fun x => { x with recal := false }
  ⟨s, t, r, by decide +kernel⟩

theorem witness_SystemCalibrationCommands_1 :
    (∃ (s : State), s.awake = false) ∧
    (∃ (s : State) (t : Fin 32) (w : Writer), s.awake = true ∧ s.matchesOwner w (s.get (R.PAGE_OWNER (calPage t))) =
      true ∧ s.get (R.CAL_SYS_STAT_STATE t) = 0 ∧ (s.tile t).work = none ∧ s.get (R.CAL_SYS_CFG_CH t) < 10 ∧ s.bit
      (R.TILE_ADC_STAT_RUNNING t) = true ∧ (s.capSlot t (s.get (R.CAL_SYS_CFG_CH t))).isSome = true ∧ s.get
      (R.CAL_SYS_LIM_MINSPAN t) ≤ (s.ref1 t - s.ref0 t).natAbs) ∧
    (∃ (s : State) (t : Fin 32) (w : Writer), s.awake = true ∧ s.matchesOwner w (s.get (R.PAGE_OWNER (calPage t))) =
      true ∧ (s.get (R.CAL_SYS_STAT_STATE t) ≠ 0 ∨ (s.tile t).work.isSome = true)) ∧
    (∃ (s : State) (t : Fin 32) (w : Writer), s.awake = true ∧ s.matchesOwner w (s.get (R.PAGE_OWNER (calPage t))) =
      true ∧ s.get (R.CAL_SYS_STAT_STATE t) = 0 ∧ (s.tile t).work = none ∧ 10 ≤ s.get (R.CAL_SYS_CFG_CH t)) ∧
    (∃ (s : State) (t : Fin 32) (w : Writer), s.awake = true ∧ s.matchesOwner w (s.get (R.PAGE_OWNER (calPage t))) =
      true ∧ s.get (R.CAL_SYS_STAT_STATE t) = 0 ∧ (s.tile t).work = none ∧ s.get (R.CAL_SYS_CFG_CH t) < 10 ∧ s.bit
      (R.TILE_ADC_STAT_RUNNING t) = false) ∧
    (∃ (s : State) (t : Fin 32) (w : Writer), s.awake = true ∧ s.matchesOwner w (s.get (R.PAGE_OWNER (calPage t))) =
      true ∧ s.get (R.CAL_SYS_STAT_STATE t) ≠ 0) ∧
    (∃ (s : State) (t : Fin 32) (w : Writer), s.awake = true ∧ s.matchesOwner w (s.get (R.PAGE_OWNER (calPage t))) =
      true ∧ s.get (R.CAL_SYS_STAT_STATE t) = 2) ∧
    (∃ (s : State) (t : Fin 32) (w : Writer), s.awake = true ∧ s.matchesOwner w (s.get (R.PAGE_OWNER (calPage t))) =
      true ∧ s.get (R.CAL_SYS_STAT_STATE t) ≠ 2) ∧
    (∃ (s : State) (t : Fin 32) (w : Writer), s.awake = true ∧ s.matchesOwner w (s.get (R.PAGE_OWNER (calPage t))) =
      true ∧ s.get (R.CAL_SYS_CFG_CH t) < 10 ∧ s.getIdx (R.CAL_LOST t) (s.get (R.CAL_SYS_CFG_CH t)) = true) ∧
    (∃ (s : State) (t : Fin 32) (w : Writer), s.awake = true ∧ s.matchesOwner w (s.get (R.PAGE_OWNER (calPage t))) =
      true ∧ s.get (R.CAL_SYS_CFG_CH t) < 10 ∧ s.getIdx (R.CAL_LOST t) (s.get (R.CAL_SYS_CFG_CH t)) = false) ∧
    (∃ (s : State) (t : Fin 32) (w : Writer), s.awake = true ∧ s.matchesOwner w (s.get (R.PAGE_OWNER (calPage t))) =
      false) ∧
    (∃ (s : State) (t : Fin 32), (s.get (R.CAL_SYS_STAT_STATE t) = 1 ∨ s.get (R.CAL_SYS_STAT_STATE t) = 3) ∧ s.capAvg
      t ≤ (s.tile t).cap.count) :=
  ⟨(let s : State := State.reset;
     ⟨s, by decide +kernel⟩),
    (let t : Fin 32 := 0;
     let w : Writer := .secure;
     let s : State := State.reset;
     let s : State := { s with pwr := { s.pwr with phase := 3 } };
     let s : State :=
        ((((s.put (R.CAL_SYS_CFG_CH t) 0).put (R.TILE_ADC_SLOT_SRC t 0) 0).putB (R.TILE_ADC_STAT_RUNNING t) true).put (R.CAL_SYS_REF1 t) 0x70000).put
        (R.CAL_SYS_REF0 t) 0x10000;
     ⟨s, t, w, by decide +kernel⟩),
    (let t : Fin 32 := 0;
     let w : Writer := .secure;
     let s : State := State.reset;
     let s : State := { s with pwr := { s.pwr with phase := 3 } };
     let s : State := s.put (R.CAL_SYS_STAT_STATE t) 1;
     ⟨s, t, w, by decide +kernel⟩),
    (let t : Fin 32 := 0;
     let w : Writer := .secure;
     let s : State := State.reset;
     let s : State := { s with pwr := { s.pwr with phase := 3 } };
     let s : State := ((s.put (R.CAL_SYS_STAT_STATE t) 0).modTile t fun x => { x with work := none }).put
        (R.CAL_SYS_CFG_CH t) 10;
     ⟨s, t, w, by decide +kernel⟩),
    (let t : Fin 32 := 0;
     let w : Writer := .secure;
     let s : State := State.reset;
     let s : State := { s with pwr := { s.pwr with phase := 3 } };
     let s : State := ((s.put (R.CAL_SYS_STAT_STATE t) 0).modTile t fun x => { x with work := none }).putB
        (R.TILE_ADC_STAT_RUNNING t) false;
     ⟨s, t, w, by decide +kernel⟩),
    (let t : Fin 32 := 0;
     let w : Writer := .secure;
     let s : State := State.reset;
     let s : State := { s with pwr := { s.pwr with phase := 3 } };
     let s : State := s.put (R.CAL_SYS_STAT_STATE t) 1;
     ⟨s, t, w, by decide +kernel⟩),
    (let t : Fin 32 := 0;
     let w : Writer := .secure;
     let s : State := State.reset;
     let s : State := { s with pwr := { s.pwr with phase := 3 } };
     let s : State := s.put (R.CAL_SYS_STAT_STATE t) 2;
     ⟨s, t, w, by decide +kernel⟩),
    (let t : Fin 32 := 0;
     let w : Writer := .secure;
     let s : State := State.reset;
     let s : State := { s with pwr := { s.pwr with phase := 3 } };
     let s : State := s.put (R.CAL_SYS_STAT_STATE t) 0;
     ⟨s, t, w, by decide +kernel⟩),
    (let t : Fin 32 := 0;
     let w : Writer := .secure;
     let s : State := State.reset;
     let s : State := { s with pwr := { s.pwr with phase := 3 } };
     let s : State := s.putIdx (R.CAL_LOST t) (s.get (R.CAL_SYS_CFG_CH t)) true;
     ⟨s, t, w, by decide +kernel⟩),
    (let t : Fin 32 := 0;
     let w : Writer := .secure;
     let s : State := State.reset;
     let s : State := { s with pwr := { s.pwr with phase := 3 } };
     let s : State := s.putIdx (R.CAL_LOST t) (s.get (R.CAL_SYS_CFG_CH t)) false;
     ⟨s, t, w, by decide +kernel⟩),
    (let t : Fin 32 := 0;
     let w : Writer := .unit 0;
     let s : State := State.reset;
     let s : State := { s with pwr := { s.pwr with phase := 3 } };
     ⟨s, t, w, by decide +kernel⟩),
    (let t : Fin 32 := 0;
     let s : State := ((State.reset).put (R.CAL_SYS_STAT_STATE t) 3).modTile t fun x =>
        { x with cap := { x.cap with count := 4096 } };
     ⟨s, t, by decide +kernel⟩)⟩

theorem witness_SystemCalibrationCommands_2 :
    (∃ (s : State) (t : Fin 32), (s.get (R.CAL_SYS_STAT_STATE t) = 1 ∨ s.get (R.CAL_SYS_STAT_STATE t) = 3) ∧
      (s.tile t).cap.count < s.capAvg t) ∧
    (∃ (s : State) (t : Fin 32), s.get (R.CAL_SYS_STAT_STATE t) ≠ 1 ∧ s.get (R.CAL_SYS_STAT_STATE t) ≠ 3) ∧
    (∃ (s : State) (t : Fin 32), 16 * (s.get (R.CAL_SYS_LIM_STAB_PP t) : Int) < (s.tile t).cap.high -
      (s.tile t).cap.low) ∧
    (∃ (s : State) (t : Fin 32), (s.tile t).cap.high - (s.tile t).cap.low ≤ 16 *
      (s.get (R.CAL_SYS_LIM_STAB_PP t) : Int) ∧ (s.tile t).cap.bCount < 4 ∧ (s.tile t).cap.point = 0) ∧
    (∃ (s : State) (t : Fin 32), s.get (R.CAL_SYS_STAT_STATE t) ≠ 4) ∧
    (∃ (s : State) (t : Fin 32), s.get (R.CAL_SYS_STAT_STATE t) = 4) ∧
    (∃ (reason : _), reason < 16) :=
  ⟨(let t : Fin 32 := 0;
     let s : State := (State.reset).put (R.CAL_SYS_STAT_STATE t) 1;
     ⟨s, t, by decide +kernel⟩),
    (let t : Fin 32 := 0;
     let s : State := ((State.reset).put (R.CAL_SYS_STAT_STATE t) 0).put (R.CAL_SYS_STAT_STATE t) 0;
     ⟨s, t, by decide +kernel⟩),
    (let t : Fin 32 := 0;
     let s : State := (State.reset).modTile t fun x => { x with cap := { x.cap with low := -1024, high := 1 } };
     ⟨s, t, by decide +kernel⟩),
    (let t : Fin 32 := 0;
     let s : State := (State.reset).modTile t fun x => { x with cap.point := 0 };
     ⟨s, t, by decide +kernel⟩),
    (let t : Fin 32 := 0;
     let s : State := (State.reset).put (R.CAL_SYS_STAT_STATE t) 0;
     ⟨s, t, by decide +kernel⟩),
    (let t : Fin 32 := 0;
     let s : State := (State.reset).put (R.CAL_SYS_STAT_STATE t) 4;
     ⟨s, t, by decide +kernel⟩),
    (let reason := 15;
     ⟨reason, by decide +kernel⟩)⟩

theorem witness_RampAndRotationCommands_1 :
    (∃ (s : State), s.awake = false) ∧
    (∃ (s : State) (t : Fin 32) (ch : Fin 10) (r : Ramp), tblFind (s.tile t).ramps ch = some r ∧ r.steps ≤ r.step +
      1) ∧
    (∃ (s : State) (t : Fin 32) (ch : Fin 10) (r : Ramp), tblFind (s.tile t).ramps ch = some r ∧ r.step + 1 <
      r.steps) ∧
    (∃ (s : State) (t : Fin 32) (ch : Fin 10), tblFind (s.tile t).ramps ch = none) ∧
    (∃ (s : State) (t : Fin 32) (w : Writer), s.awake = true ∧ s.matchesOwner w (s.get (R.PAGE_OWNER (calPage t))) =
      true) ∧
    (∃ (s : State) (t : Fin 32) (w : Writer), s.awake = true ∧ s.matchesOwner w (s.get (R.PAGE_OWNER (calPage t))) =
      false) ∧
    (∃ (s : State) (t : Fin 32), s.get (R.CAL_ROT_PER t) = 0) ∧
    (∃ (s : State) (t : Fin 32),
      (s.get (R.CAL_STAT_CORE_BAD t) ≠ 0 ∨ s.bit (R.CAL_ROT_STAT_SPARE_BAD t) = true ∨ s.get (R.CAL_ROT_STAT_PHASE t) ≠ 0)) ∧
    (∃ (s : State) (t : Fin 32), s.get (R.CAL_ROT_PER t) ≠ 0 ∧ s.get (R.CAL_STAT_CORE_BAD t) = 0 ∧ s.bit
      (R.CAL_ROT_STAT_SPARE_BAD t) = false ∧ s.get (R.CAL_ROT_STAT_PHASE t) = 0 ∧ s.domReady (domConv t) = true ∧
      s.tileContained t = false ∧ s.anyRchg t = false ∧ s.tileGirth t = false ∧ s.rotSkips t (s.tile t).rotNext =
      false) ∧
    (∃ (s : State) (t : Fin 32), s.get (R.CAL_ROT_PER t) ≠ 0 ∧ s.get (R.CAL_STAT_CORE_BAD t) = 0 ∧ s.bit
      (R.CAL_ROT_STAT_SPARE_BAD t) = false ∧ s.get (R.CAL_ROT_STAT_PHASE t) = 0 ∧ s.domReady (domConv t) = true ∧
      s.tileContained t = false ∧ (s.anyRchg t = true ∨ s.tileGirth t = true)) ∧
    (∃ (s : State) (t : Fin 32), s.get (R.CAL_ROT_STAT_PHASE t) = 1 ∧ (s.tile t).rotCore ≠ 2) ∧
    (∃ (s : State) (t : Fin 32), s.get (R.CAL_ROT_STAT_PHASE t) = 1 ∧ (s.tile t).rotCore = 2) :=
  ⟨(let s : State := State.reset;
     ⟨s, by decide +kernel⟩),
    (let t : Fin 32 := 0;
     let ch : Fin 10 := 0;
     let r : Ramp := { off0 := 0, gain0 := 0, off1 := 0, gain1 := 0, step := 0, steps := 1 };
     let s : State := (State.reset).modTile t fun x => { x with ramps := [(ch, r)] };
     ⟨s, t, ch, r, by decide +kernel⟩),
    (let t : Fin 32 := 0;
     let ch : Fin 10 := 0;
     let r : Ramp := { off0 := 0, gain0 := 0, off1 := 0, gain1 := 0, step := 0, steps := 2 };
     let s : State := (State.reset).modTile t fun x => { x with ramps := [(ch, r)] };
     ⟨s, t, ch, r, by decide +kernel⟩),
    (let t : Fin 32 := 0;
     let ch : Fin 10 := 0;
     let s : State := State.reset;
     ⟨s, t, ch, by decide +kernel⟩),
    (let t : Fin 32 := 0;
     let w : Writer := .secure;
     let s : State := State.reset;
     let s : State := { s with pwr := { s.pwr with phase := 3 } };
     ⟨s, t, w, by decide +kernel⟩),
    (let t : Fin 32 := 0;
     let w : Writer := .unit 0;
     let s : State := State.reset;
     let s : State := { s with pwr := { s.pwr with phase := 3 } };
     ⟨s, t, w, by decide +kernel⟩),
    (let t : Fin 32 := 0;
     let s : State := (State.reset).put (R.CAL_ROT_PER t) 0;
     ⟨s, t, by decide +kernel⟩),
    (let t : Fin 32 := 0;
     let s : State := (State.reset).put (R.CAL_STAT_CORE_BAD t) 1;
     ⟨s, t, by decide +kernel⟩),
    (let t : Fin 32 := 0;
     let s : State :=
        (((((State.reset).put (R.CAL_ROT_PER t) 1).put (R.CAL_STAT_CORE_BAD t) 0).putB (R.CAL_ROT_STAT_SPARE_BAD t) false).put (R.CAL_ROT_STAT_PHASE t) 0).setDom
        (domConv t) true;
     ⟨s, t, by decide +kernel⟩),
    (let t : Fin 32 := 0;
     let s : State := (((State.reset).put (R.CAL_ROT_PER t) 1).setDom (domConv t) true).putB (R.OUT_STAT_RCHG t 7)
        true;
     ⟨s, t, by decide +kernel⟩),
    (let t : Fin 32 := 0;
     let s : State := ((State.reset).put (R.CAL_ROT_STAT_PHASE t) 1).modTile t fun x => { x with rotCore := 0 };
     ⟨s, t, by decide +kernel⟩),
    (let t : Fin 32 := 0;
     let s : State := ((State.reset).put (R.CAL_ROT_STAT_PHASE t) 1).modTile t fun x => { x with rotCore := 2 };
     ⟨s, t, by decide +kernel⟩)⟩

theorem witness_RampAndRotationCommands_2 :
    (∃ (s : State) (t : Fin 32), s.get (R.CAL_ROT_STAT_PHASE t) ≠ 1) ∧
    (∃ (s : State) (t : Fin 32), s.get (R.CAL_ROT_STAT_PHASE t) ≠ 2) ∧
    (∃ (s : State) (t : Fin 32), s.get (R.CAL_ROT_STAT_PHASE t) ≠ 3) ∧
    (∃ (s : State) (t : Fin 32) (n : _), s.get (R.CAL_ROT_STAT_PHASE t) = 2 ∧ s.corePin t (s.tile t).rotCore = some
      n ∧ s.bit (R.OUT_STAT_RCHG t n) = true) ∧
    (∃ (s : State) (t : Fin 32) (n : _), s.get (R.CAL_ROT_STAT_PHASE t) = 2 ∧ s.corePin t (s.tile t).rotCore = some
      n ∧ s.bit (R.OUT_STAT_RCHG t n) = false) ∧
    (∃ (s : State) (t : Fin 32), s.get (R.CAL_ROT_STAT_PHASE t) = 2 ∧ s.corePin t (s.tile t).rotCore = none) ∧
    (∃ (s : State) (t : Fin 32), s.get (R.CAL_ROT_STAT_PHASE t) = 3 ∧ s.corePin t (s.tile t).rotCore = none) ∧
    (∃ (s : State) (t : Fin 32) (n : _), s.get (R.CAL_ROT_STAT_PHASE t) = 3 ∧ s.corePin t (s.tile t).rotCore = some
      n) ∧
    (∃ (s : State) (t : Fin 32), (s.tile t).rotCore = 0) :=
  ⟨(let t : Fin 32 := 0;
     let s : State := (State.reset).put (R.CAL_ROT_STAT_PHASE t) 0;
     ⟨s, t, by decide +kernel⟩),
    (let t : Fin 32 := 0;
     let s : State := (State.reset).put (R.CAL_ROT_STAT_PHASE t) 0;
     ⟨s, t, by decide +kernel⟩),
    (let t : Fin 32 := 0;
     let s : State := (State.reset).put (R.CAL_ROT_STAT_PHASE t) 0;
     ⟨s, t, by decide +kernel⟩),
    (let t : Fin 32 := 0;
     let n := 3;
     let s : State :=
        (((((State.reset).put (R.CAL_ROT_STAT_PHASE t) 2).putB (R.TILE_DAC_ROUTE_D0_USED t) true).put (R.TILE_DAC_ROUTE_D0_PIN t) 3).modTile t fun x => { x with rotCore := 0 }).putB
        (R.OUT_STAT_RCHG t n) true;
     ⟨s, t, n, by decide +kernel⟩),
    (let t : Fin 32 := 0;
     let n := 3;
     let s : State :=
        ((((State.reset).put (R.CAL_ROT_STAT_PHASE t) 2).putB (R.TILE_DAC_ROUTE_D0_USED t) true).put (R.TILE_DAC_ROUTE_D0_PIN t) 3).modTile
        t fun x => { x with rotCore := 0 };
     ⟨s, t, n, by decide +kernel⟩),
    (let t : Fin 32 := 0;
     let s : State := (State.reset).put (R.CAL_ROT_STAT_PHASE t) 2;
     ⟨s, t, by decide +kernel⟩),
    (let t : Fin 32 := 0;
     let s : State := (State.reset).put (R.CAL_ROT_STAT_PHASE t) 3;
     ⟨s, t, by decide +kernel⟩),
    (let t : Fin 32 := 0;
     let n := 3;
     let s : State :=
        ((((State.reset).put (R.CAL_ROT_STAT_PHASE t) 3).putB (R.TILE_DAC_ROUTE_D0_USED t) true).put (R.TILE_DAC_ROUTE_D0_PIN t) 3).modTile
        t fun x => { x with rotCore := 0 };
     ⟨s, t, n, by decide +kernel⟩),
    (let t : Fin 32 := 0;
     let s : State := (State.reset).modTile t fun x => { x with rotCore := 0 };
     ⟨s, t, by decide +kernel⟩)⟩

theorem witness_BundleRules_1 :
    (∃ (s : State) (c : Instr) (i : Issue), issueOf c = some i ∧ s.engIssues i.eng = false ∧ (s.eng i.eng).half =
      none) ∧
    (∃ (s : State) (c : Instr) (i : Issue), issueOf c = some i ∧ s.engIssues i.eng = true ∧ (s.eng i.eng).half =
      none ∧ i.paired = true) ∧
    (∃ (s : State) (c : Instr) (i : Issue), issueOf c = some i ∧ s.engIssues i.eng = true ∧ (s.eng i.eng).half =
      none ∧ i.paired = false ∧ 4096 ≤ (s.eng i.eng).regs.pc) ∧
    (∃ (s : State) (c : Instr) (i : Issue), issueOf c = some i ∧ s.engIssues i.eng = true ∧ (s.eng i.eng).half =
      none ∧ i.paired = false ∧ (s.eng i.eng).regs.pc < 4096 ∧ i.rsvd = true) ∧
    (∃ (s : State) (c : Instr) (i : Issue) (x : Eff), issueOf c = some i ∧ s.engIssues i.eng = true ∧
      (s.eng i.eng).half = some x ∧ i.paired = true ∧ i.slot = .y ∧ x.slot = 0) ∧
    (∃ (s : State) (c : Instr) (i : Issue), issueOf c = some i ∧ s.aloneReady i ∧ slotAllowed c i.slot = false) ∧
    (∃ (s : State) (e : Fin 128), (s.eng e).regs.pc < 4096 ∧ s.bundleInstrs e (s.eng e).regs.pc = none ∧ s.engIssues
      e = true ∧ (s.eng e).half = none) ∧
    (∃ (x y : Nat), x / 2 ^ 26 = 0x3E ∧ y ≠ 0xFC000000) ∧
    (∃ (x : Nat), x < 2 ^ 32 ∧ x / 2 ^ 26 ≠ 0x3E) ∧
    (∃ (w : Nat), w < 2 ^ 32 ∧ reservedOps.contains (w / 2 ^ 26) = true) ∧
    (∃ (w : Nat), w < 2 ^ 32 ∧ w / 2 ^ 26 = 0x01 ∧ (w % 32 = 0x0F ∨ 0x19 ≤ w % 32)) ∧
    (∃ (w : Nat), w < 2 ^ 32 ∧ w / 2 ^ 26 = 0x0E ∧ 4 ≤ w / 2 ^ 23 % 8) :=
  ⟨(let c : Instr := .nop iss0;
     let i : Issue := iss0;
     let s : State := State.reset;
     ⟨s, c, i, by decide +kernel⟩),
    (let i : Issue := { iss0 with paired := true };
     let c : Instr := .nop i;
     let s : State := (State.reset).withEngine 0 regs0;
     ⟨s, c, i, by decide +kernel⟩),
    (let i : Issue := iss0;
     let c : Instr := .nop i;
     let s : State := (State.reset).withEngine 0 { regs0 with pc := 4096 };
     ⟨s, c, i, by decide +kernel⟩),
    (let i : Issue := { iss0 with rsvd := true };
     let c : Instr := .nop i;
     let s : State := (State.reset).withEngine 0 { regs0 with pc := 4095 };
     ⟨s, c, i, by decide +kernel⟩),
    (let i : Issue := { iss0 with paired := true, slot := .y };
     let x : Eff := { slot := 0 };
     let c : Instr := .nop i;
     let s : State := ((State.reset).withEngine 0 regs0).modEng 0 fun x => { x with half := some { slot := 0 } };
     ⟨s, c, i, x, by decide +kernel⟩),
    (let i : Issue := iss0;
     let c : Instr := .endInv i;
     let s : State := (State.reset).withEngine 0 regs0;
     ⟨s, c, i, by decide +kernel⟩),
    (let e : Fin 128 := 0;
     let s : State := (State.reset).withEngine 0 regs0;
     let s : State := { s with mem := { s.mem with imem := [(0, 0xFF), (1, 0xFF), (2, 0xFF), (3, 0xFF)] } };
     ⟨s, e, by decide +kernel⟩),
    (let x : Nat := 0xF8000000;
     let y : Nat := 0;
     ⟨x, y, by decide +kernel⟩),
    (let x : Nat := 0;
     ⟨x, by decide +kernel⟩),
    (let w : Nat := 2 ^ 32 - 1;
     ⟨w, by decide +kernel⟩),
    (let w : Nat := 0x0400000F;
     ⟨w, by decide +kernel⟩),
    (let w : Nat := 0x3A000000;
     ⟨w, by decide +kernel⟩)⟩

theorem witness_BundleRules_2 :
    (∃ (w : Nat), w < 2 ^ 32 ∧ w / 2 ^ 26 = 0x0F ∧ 2 ≤ w % 256) ∧
    (∃ (i : Issue) (g : _), i.rsvd = false ∧ g ∈ aluFunctions) ∧
    (∃ (i : Issue) (g : _), i.rsvd = false ∧ g ∈ immFunctions) ∧
    (∃ (i : Issue) (g : _), i.rsvd = false ∧ g ∈ memFunctions) ∧
    (∃ (r : EngRegs), r.rptOn = true ∧ r.rptPos + 1 < r.rptLen) ∧
    (∃ (r : EngRegs), r.rptOn = true ∧ r.rptLen ≤ r.rptPos + 1 ∧ 1 < r.rptCnt) ∧
    (∃ (r : EngRegs), r.rptOn = true ∧ r.rptLen ≤ r.rptPos + 1 ∧ r.rptCnt ≤ 1) :=
  ⟨(let w : Nat := 0x3C000002;
     ⟨w, by decide +kernel⟩),
    (let i : Issue := ({ (iss0 : Issue) with rsvd := false } : Issue);
     let g := (0, Instr.add);
     ⟨i, g, rfl, .head _⟩),
    (let i : Issue := ({ (iss0 : Issue) with rsvd := false } : Issue);
     let g := (0x02, Instr.addi);
     ⟨i, g, rfl, .head _⟩),
    (let i : Issue := ({ (iss0 : Issue) with rsvd := false } : Issue);
     let g := (0x20, Instr.ld);
     ⟨i, g, rfl, .head _⟩),
    (let r : EngRegs := { regs0 with rptOn := true, rptPos := 0, rptLen := 2 };
     ⟨r, by decide +kernel⟩),
    (let r : EngRegs := { regs0 with rptOn := true, rptPos := 1, rptLen := 2, rptCnt := 2 };
     ⟨r, by decide +kernel⟩),
    (let r : EngRegs := ({ (regs0 : EngRegs) with rptOn := true } : EngRegs);
     ⟨r, by decide +kernel⟩)⟩

theorem witness_InvocationCommands_1 :
    (∃ (s : State) (e : Fin 128), s.engLive e = false) ∧
    (∃ (r : EngRegs) (h p : Nat) (q : _) (k : _), q = contextRegs (contextBytes r h p) ∧ r.pc < 4096 ∧ r.rptCnt <
      8192 ∧ 1 ≤ r.rptLen ∧ r.rptLen ≤ 64 ∧ r.rptStart < 4096 ∧ r.rptPos < 64 ∧ k < 64) ∧
    (∃ (r : EngRegs) (h p : Nat) (q : _) (k : _), q = contextRegs (contextBytes r h p) ∧ r.pc < 4096 ∧ r.rptCnt <
      8192 ∧ 1 ≤ r.rptLen ∧ r.rptLen ≤ 64 ∧ r.rptStart < 4096 ∧ r.rptPos < 64 ∧ k < 16) ∧
    (∃ (r : EngRegs) (h p : Nat) (q : _) (k : _), q = contextRegs (contextBytes r h p) ∧ r.pc < 4096 ∧ r.rptCnt <
      8192 ∧ 1 ≤ r.rptLen ∧ r.rptLen ≤ 64 ∧ r.rptStart < 4096 ∧ r.rptPos < 64 ∧ k < 8) ∧
    (∃ (r : EngRegs) (h p : Nat) (q : _) (k : _), q = contextRegs (contextBytes r h p) ∧ r.pc < 4096 ∧ r.rptCnt <
      8192 ∧ 1 ≤ r.rptLen ∧ r.rptLen ≤ 64 ∧ r.rptStart < 4096 ∧ r.rptPos < 64 ∧ k < 4) ∧
    (∃ (s : State) (e : Fin 128), s.engLive e = true ∧ s.engDispatches e = false) ∧
    (∃ (s : State) (e : Fin 128), s.engLive e = true ∧ s.quiesceLate (s.unitId (0x100 + e.val)) = true) ∧
    (∃ (s : State) (e : Fin 128) (i : Inv), s.engLive e = true ∧ s.engDispatches e = true ∧ s.quiesceLate
      (s.unitId (0x100 + e.val)) = false ∧ (s.eng e).nextInv = some i) ∧
    (∃ (s : State) (e : Fin 128), s.engLive e = true ∧ (s.eng e).nextInv = none) ∧
    (∃ (s : State) (e : Fin 128) (i : Inv), s.engLive e = true ∧ s.engDispatches e = true ∧ (s.eng e).run = some i ∧
      (s.eng e).preempts = true ∧ (s.eng e).atPoint = true) ∧
    (∃ (s : State) (e : Fin 128), s.engLive e = true ∧ ((s.eng e).preempts = false ∨ (s.eng e).atPoint = false)) ∧
    (∃ (s : State) (e : Fin 128) (i : Inv) (l : Nat), s.engLive e = true ∧ (s.eng e).resumeLevel = some l ∧
      (s.eng e).saved.find? (fun v => v.1 = l) = some (l, i)) :=
  ⟨(let e : Fin 128 := 0;
     let s : State := State.reset;
     ⟨s, e, by decide +kernel⟩),
    (let r : EngRegs := { regs0 with rptLen := 64, pc := 4095, rptCnt := 8191 };
     let h : Nat := 0;
     let p : Nat := 0;
     let k := (63 : Nat);
     let q := contextRegs (contextBytes r h p);
     ⟨r, h, p, q, k, rfl, by decide +kernel⟩),
    (let r : EngRegs := { regs0 with rptLen := 64, pc := 4095, rptCnt := 8191 };
     let h : Nat := 0;
     let p : Nat := 0;
     let k := (15 : Nat);
     let q := contextRegs (contextBytes r h p);
     ⟨r, h, p, q, k, rfl, by decide +kernel⟩),
    (let r : EngRegs := { regs0 with rptLen := 64, pc := 4095, rptCnt := 8191 };
     let h : Nat := 0;
     let p : Nat := 0;
     let k := (7 : Nat);
     let q := contextRegs (contextBytes r h p);
     ⟨r, h, p, q, k, rfl, by decide +kernel⟩),
    (let r : EngRegs := { regs0 with rptLen := 64, pc := 4095, rptCnt := 8191 };
     let h : Nat := 0;
     let p : Nat := 0;
     let k := (3 : Nat);
     let q := contextRegs (contextBytes r h p);
     ⟨r, h, p, q, k, rfl, by decide +kernel⟩),
    (let e : Fin 128 := 0;
     let s : State := ((State.reset).setDom (domEngine e) true).setDom (domCluster (e / 8)) true;
     ⟨s, e, by decide +kernel⟩),
    (let e : Fin 128 := 0;
     let s : State := (((State.reset).setDom (domEngine e) true).setDom (domCluster (e / 8)) true).put
        (R.ENG_STAT_STATE e) 1;
     let s : State := { s with sched := { s.sched with quiesce := [(0x100, 2)] } };
     ⟨s, e, by decide +kernel⟩),
    (let e : Fin 128 := 0;
     let i : Inv := inv0;
     let s : State :=
        ((((State.reset).setDom (domEngine e) true).setDom (domCluster (e / 8)) true).put (R.ENG_STAT_STATE e) 1).modEng
        e fun x => { x with queue := [inv0] };
     ⟨s, e, i, by decide +kernel⟩),
    (let e : Fin 128 := 0;
     let s : State := ((State.reset).setDom (domEngine e) true).setDom (domCluster (e / 8)) true;
     ⟨s, e, by decide +kernel⟩),
    (let e : Fin 128 := 0;
     let i : Inv := { inv0 with pri := 0 };
     let s : State :=
        ((((State.reset).setDom (domEngine e) true).setDom (domCluster (e / 8)) true).put (R.ENG_STAT_STATE e) 1).modEng
        e fun x => { x with run := some i, queue := [inv0] };
     ⟨s, e, i, by decide +kernel⟩),
    (let e : Fin 128 := 0;
     let s : State := ((State.reset).setDom (domEngine e) true).setDom (domCluster (e / 8)) true;
     ⟨s, e, by decide +kernel⟩),
    (let e : Fin 128 := 0;
     let i : Inv := inv0;
     let l : Nat := 1;
     let s : State :=
        ((((State.reset).setDom (domEngine e) true).setDom (domCluster (e / 8)) true).put (R.ENG_STAT_STATE e) 1).modEng
        e fun x => { x with saved := [(1, inv0)] };
     ⟨s, e, i, l, by decide +kernel⟩)⟩

theorem witness_InvocationCommands_2 :
    ∃ (s : State) (e : Fin 128), s.engLive e = true ∧ (s.eng e).resumeLevel = none :=
  let e : Fin 128 := 0
  let s : State := ((State.reset).setDom (domEngine e) true).setDom (domCluster (e / 8)) true
  ⟨s, e, by decide +kernel⟩

theorem witness_EnginePageCommands :
    (∃ (s : State), s.awake = false) ∧
    (∃ (s : State) (w : Writer) (e : Fin 128), s.awake = true ∧ s.matchesOwner w (s.get (R.PAGE_OWNER (engPage e))) =
      true ∧ ((s.eng e).run = none ∨ (s.eng e).atPoint = true)) ∧
    (∃ (s : State) (w : Writer) (e : Fin 128), s.awake = true ∧ s.matchesOwner w (s.get (R.PAGE_OWNER (engPage e))) =
      true ∧ (s.eng e).run.isSome = true ∧ (s.eng e).atPoint = false) ∧
    (∃ (s : State) (w : Writer) (e : Fin 128), s.awake = true ∧ s.matchesOwner w (s.get (R.PAGE_OWNER (engPage e))) =
      true ∧ s.get (R.ENG_STAT_STATE e) = 1 ∧ (s.eng e).run = none ∧ (s.eng e).saved = []) ∧
    (∃ (s : State) (w : Writer) (e : Fin 128), s.awake = true ∧ s.matchesOwner w (s.get (R.PAGE_OWNER (engPage e))) =
      true ∧ s.get (R.ENG_STAT_STATE e) = 1 ∧ ((s.eng e).run.isSome = true ∨ (s.eng e).saved ≠ [])) ∧
    (∃ (s : State) (w : Writer) (e : Fin 128), s.awake = true ∧ s.matchesOwner w (s.get (R.PAGE_OWNER (engPage e))) =
      true ∧ s.get (R.ENG_STAT_STATE e) ≠ 1) ∧
    (∃ (s : State) (w : Writer) (e : Fin 128), s.awake = true ∧ s.matchesOwner w (s.get (R.PAGE_OWNER (engPage e))) =
      false) ∧
    (∃ (s : State) (e : Fin 128), s.engReady e = true ∧ s.bit (R.ENG_STAT_CONTAINED e) = false ∧ s.get
      (R.ENG_STAT_STATE e) ≠ 1 ∧
      (s.get (R.ENG_STAT_STATE e) ≠ 3 ∨ ((s.eng e).reloaded = true ∧ (s.eng e).run = none ∧ (s.eng e).saved = []))) ∧
    (∃ (s : State) (e : Fin 128), s.engReady e = true ∧ s.bit (R.ENG_STAT_CONTAINED e) = false ∧ s.get
      (R.ENG_STAT_STATE e) ≠ 1 ∧ s.get (R.ENG_STAT_STATE e) = 3 ∧
      ((s.eng e).reloaded = false ∨ (s.eng e).run.isSome = true ∨ (s.eng e).saved ≠ [])) ∧
    (∃ (s : State) (e : Fin 128),
      (s.engReady e = false ∨ s.bit (R.ENG_STAT_CONTAINED e) = true ∨ s.get (R.ENG_STAT_STATE e) = 1)) ∧
    (∃ (s : State) (e : Fin 128), s.waits (R.ENG_INBUF_BASE e).addr = true ∧ (s.eng e).slots = [] ∧
      (∀ f ∈ s.sched.flights, f.item.tag.dst = s.unitId (0x100 + e) → f.phase ≠ .waiting)) ∧
    (∃ (s : State) (e : Fin 128), ((s.eng e).slots ≠ [] ∨ s.waits (R.ENG_INBUF_BASE e).addr = false)) :=
  ⟨(let s : State := State.reset;
     ⟨s, by decide +kernel⟩),
    (let w : Writer := .secure;
     let e : Fin 128 := 0;
     let s : State := State.reset;
     let s : State := { s with pwr := { s.pwr with phase := 3 } };
     let s : State := s.modEng e fun x => { x with run := none };
     ⟨s, w, e, by decide +kernel⟩),
    (let w : Writer := .secure;
     let e : Fin 128 := 0;
     let s : State := State.reset;
     let s : State := { s with pwr := { s.pwr with phase := 3 } };
     let s : State := s.modEng e fun x => { x with run := some inv0, half := some { slot := 0 } };
     ⟨s, w, e, by decide +kernel⟩),
    (let w : Writer := .secure;
     let e : Fin 128 := 0;
     let s : State := State.reset;
     let s : State := { s with pwr := { s.pwr with phase := 3 } };
     let s : State := ((s.put (R.ENG_STAT_STATE e) 1).modEng e fun x => { x with run := none }).modEng e fun x =>
        { x with saved := [] };
     ⟨s, w, e, by decide +kernel⟩),
    (let w : Writer := .secure;
     let e : Fin 128 := 0;
     let s : State := State.reset;
     let s : State := { s with pwr := { s.pwr with phase := 3 } };
     let s : State := (s.put (R.ENG_STAT_STATE e) 1).modEng e fun x => { x with run := some inv0 };
     ⟨s, w, e, by decide +kernel⟩),
    (let w : Writer := .secure;
     let e : Fin 128 := 0;
     let s : State := State.reset;
     let s : State := { s with pwr := { s.pwr with phase := 3 } };
     let s : State := s.put (R.ENG_STAT_STATE e) 0;
     ⟨s, w, e, by decide +kernel⟩),
    (let w : Writer := .unit 0;
     let e : Fin 128 := 0;
     let s : State := State.reset;
     let s : State := { s with pwr := { s.pwr with phase := 3 } };
     ⟨s, w, e, by decide +kernel⟩),
    (let e : Fin 128 := 0;
     let s : State :=
        (((((State.reset).setDom (domEngine e) true).setDom (domCluster (e / 8)) true).putB (R.ENG_STAT_CONTAINED e) false).put (R.ENG_STAT_STATE e) 0).put
        (R.ENG_STAT_STATE e) 0;
     ⟨s, e, by decide +kernel⟩),
    (let e : Fin 128 := 0;
     let s : State :=
        ((((((State.reset).setDom (domEngine e) true).setDom (domCluster (e / 8)) true).putB (R.ENG_STAT_CONTAINED e) false).put (R.ENG_STAT_STATE e) 0).put (R.ENG_STAT_STATE e) 3).modEng
        e fun x => { x with reloaded := false };
     ⟨s, e, by decide +kernel⟩),
    (let e : Fin 128 := 0;
     let s : State := State.reset;
     ⟨s, e, by decide +kernel⟩),
    (let e : Fin 128 := 0;
     let s : State := State.reset;
     let s : State := { s with wait := [((R.ENG_INBUF_BASE e).addr, 1)] };
     ⟨s, e, by decide +kernel, rfl, nofun⟩),
    (let e : Fin 128 := 0;
     let s : State := (State.reset).modEng e fun x => { x with slots := [(0, 64)] };
     ⟨s, e, by decide +kernel⟩)⟩

theorem witness_EngineFaultCommands :
    (∃ (s : State), s.awake = false) ∧
    (∃ (s : State) (w : Writer) (e : Fin 128), s.awake = true ∧ s.matchesOwner w
      (s.get (R.PAGE_OWNER (clPage (e.val / 8)))) = true ∧ (s.eng e).susp = true) ∧
    (∃ (s : State) (w : Writer) (e : Fin 128), s.awake = true ∧ s.matchesOwner w
      (s.get (R.PAGE_OWNER (clPage (e.val / 8)))) = true ∧ (s.eng e).susp = false) ∧
    (∃ (s : State) (w : Writer) (e : Fin 128), s.awake = true ∧ s.matchesOwner w
      (s.get (R.PAGE_OWNER (clPage (e.val / 8)))) = false) ∧
    (∃ (s : State) (e : Fin 128), s.get (R.CL_FAULT_TMO (e.val / 8)) ≠ 0 ∧ (s.eng e).link = false ∧ (s.eng e).susp =
      true) ∧
    (∃ (s : State) (e : Fin 128),
      (s.get (R.CL_FAULT_TMO (e.val / 8)) = 0 ∨ (s.eng e).link = true ∨ (s.eng e).susp = false)) ∧
    (∃ (s : State) (e : Fin 128) (code : Nat), code < 256 ∧ (s.eng e).susp = true) ∧
    (∃ (s : State) (e : Fin 128) (code cause : Nat), code < 256 ∧ (s.eng e).susp = false ∧ cause ≠ 9 ∧ cause < 16) :=
  ⟨(let s : State := State.reset;
     ⟨s, by decide +kernel⟩),
    (let w : Writer := .secure;
     let e : Fin 128 := 0;
     let s : State := State.reset;
     let s : State := { s with pwr := { s.pwr with phase := 3 } };
     let s : State := s.modEng e fun x => { x with susp := true };
     ⟨s, w, e, by decide +kernel⟩),
    (let w : Writer := .secure;
     let e : Fin 128 := 0;
     let s : State := State.reset;
     let s : State := { s with pwr := { s.pwr with phase := 3 } };
     let s : State := s.modEng e fun x => { x with susp := false };
     ⟨s, w, e, by decide +kernel⟩),
    (let w : Writer := .unit 0;
     let e : Fin 128 := 0;
     let s : State := State.reset;
     let s : State := { s with pwr := { s.pwr with phase := 3 } };
     ⟨s, w, e, by decide +kernel⟩),
    (let e : Fin 128 := 0;
     let s : State :=
        (((State.reset).put (R.CL_FAULT_TMO (e.val / 8)) 1).modEng e fun x => { x with link := false }).modEng e fun
        x => { x with susp := true };
     ⟨s, e, by decide +kernel⟩),
    (let e : Fin 128 := 0;
     let s : State := (State.reset).put (R.CL_FAULT_TMO (e.val / 8)) 0;
     ⟨s, e, by decide +kernel⟩),
    (let e : Fin 128 := 0;
     let code : Nat := 0;
     let s : State := (State.reset).modEng e fun x => { x with susp := true };
     ⟨s, e, code, by decide +kernel⟩),
    (let e : Fin 128 := 0;
     let code : Nat := 0;
     let cause : Nat := 0;
     let s : State := (State.reset).modEng e fun x => { x with susp := false };
     ⟨s, e, code, cause, by decide +kernel⟩)⟩

theorem witness_TranslationCommands_1 :
    (∃ (s : State) (w : Writer) (sc : TlbScope) (asid : BitVec 12) (va : BitVec 48) (c : _), s.awake = false ∧ c ∈
      ([.tlbiAll w sc, .tlbiAsid w sc asid, .tlbiVaAsid w sc asid va, .tlbiVaAll w sc va] : List Instr)) ∧
    (∃ (s : State) (w : Writer) (sc : TlbScope) (keep : TlbiOp → Nat → List TlbEnt), s.awake = true ∧ s.matchesOwner
      w (s.get (R.PAGE_OWNER (pageBase (tlbPage sc)))) = true ∧ s.bit (tlbBusy sc) = false ∧
      (∀ op k, keep op k = if k ∈ tlbKeys sc then (s.tlb k).filter (fun x => !x.removed op) else s.tlb k)) ∧
    (∃ (s : State) (w : Writer) (sc : TlbScope) (asid : BitVec 12) (va : BitVec 48) (c : _), s.awake = true ∧
      s.matchesOwner w (s.get (R.PAGE_OWNER (pageBase (tlbPage sc)))) = true ∧ s.bit (tlbBusy sc) = true ∧ c ∈
      ([.tlbiAll w sc, .tlbiAsid w sc asid, .tlbiVaAsid w sc asid va, .tlbiVaAll w sc va] : List Instr)) ∧
    (∃ (s : State) (w : Writer) (sc : TlbScope) (asid : BitVec 12) (va : BitVec 48) (c : _), s.awake = true ∧
      s.matchesOwner w (s.get (R.PAGE_OWNER (pageBase (tlbPage sc)))) = false ∧ c ∈
      ([.tlbiAll w sc, .tlbiAsid w sc asid, .tlbiVaAsid w sc asid va, .tlbiVaAll w sc va] : List Instr)) ∧
    (∃ (e sz : Nat), 12 ≤ sz ∧ 4 < natBits e 55 52) ∧
    (∃ (e sz : Nat) (ro write : Bool), 12 ≤ sz ∧ natBits e 55 52 ≤ 4 ∧
      (if write then !e.testBit 3 || ro else !e.testBit 2) = true) ∧
    (∃ (e sz : Nat) (ro write : Bool), 12 ≤ sz ∧ natBits e 55 52 ≤ 4 ∧
      (if write then !e.testBit 3 || ro else !e.testBit 2) = false) ∧
    (∃ (s : State) (k asid va : Nat) (write : Bool) (x : _), k < 144 ∧ s.tlbHit k asid va write = some x) ∧
    (∃ (s : State) (k asid va : Nat) (write : Bool) (found : EccOutcome) (c : _), k < 144 ∧ s.tlbHit k asid va write
      = none ∧ (s.walkDram asid va = none ∨ found ≠ .uncorrectable) ∧ s.walk asid va write = .error c) ∧
    (∃ (s : State) (k asid va : Nat) (write : Bool) (found : EccOutcome) (x : _), k < 144 ∧ s.tlbHit k asid va write
      = none ∧ (s.walkDram asid va = none ∨ found ≠ .uncorrectable) ∧ s.walk asid va write = .ok x) ∧
    (∃ (s : State) (k asid va : Nat) (write : Bool) (found : EccOutcome) (o : _), k < 144 ∧ s.tlbHit k asid va write
      = none ∧ s.walkDram asid va = some o ∧ found = .uncorrectable) ∧
    (∃ (s : State) (k asid va : Nat) (write : Bool) (found : EccOutcome), k < 144 ∧ s.tlbHit k asid va write = none ∧
      k < 128 ∧ found = .clean) :=
  ⟨(let w : Writer := .unit 0;
     let sc : TlbScope := .all;
     let asid : BitVec 12 := 0;
     let va : BitVec 48 := 0;
     let c := .tlbiAll w sc;
     let s : State := State.reset;
     ⟨s, w, sc, asid, va, c, by decide +kernel⟩),
    (let w : Writer := .secure;
     let sc : TlbScope := .all;
     let keep : TlbiOp → Nat → List TlbEnt := fun op k => if k ∈ tlbKeys .all then (State.reset.tlb k).filter
        (fun x => !x.removed op) else State.reset.tlb k;
     let s : State := State.reset;
     let s : State := { s with pwr := { s.pwr with phase := 3 } };
     let s : State := s.putB (tlbBusy sc) false;
     ⟨s, w, sc, keep, by decide +kernel, by decide +kernel, by decide +kernel, fun _ _ => rfl⟩),
    (let w : Writer := .secure;
     let sc : TlbScope := .all;
     let asid : BitVec 12 := 0;
     let va : BitVec 48 := 0;
     let c := .tlbiVaAll w sc va;
     let s : State := State.reset;
     let s : State := { s with pwr := { s.pwr with phase := 3 } };
     let s : State := s.putB (tlbBusy sc) true;
     ⟨s, w, sc, asid, va, c, by decide +kernel⟩),
    (let w : Writer := .unit 0;
     let sc : TlbScope := .all;
     let asid : BitVec 12 := 0;
     let va : BitVec 48 := 0;
     let c := .tlbiAll w sc;
     let s : State := State.reset;
     let s : State := { s with pwr := { s.pwr with phase := 3 } };
     ⟨s, w, sc, asid, va, c, by decide +kernel⟩),
    (let e : Nat := 0x0080000000000000;
     let sz : Nat := 12;
     ⟨e, sz, by decide +kernel⟩),
    (let e : Nat := 0;
     let sz : Nat := 12;
     let ro : Bool := true;
     let write : Bool := true;
     ⟨e, sz, ro, write, by decide +kernel⟩),
    (let e : Nat := 0x000000000000000F;
     let sz : Nat := 12;
     let ro : Bool := false;
     let write : Bool := true;
     ⟨e, sz, ro, write, by decide +kernel⟩),
    (let k : Nat := 0;
     let asid : Nat := 0;
     let va : Nat := 0;
     let write : Bool := true;
     let x := ({ asid := 0, size := 12, page := 0, base := 0, glob := true, r := true, w := true } : TlbEnt);
     let s : State := ((State.reset).putB R.MEM_CTX_BASE_EN true).setTlb 0 [x];
     ⟨s, k, asid, va, write, x, by decide +kernel⟩),
    (let k : Nat := 143;
     let asid : Nat := 0;
     let va : Nat := 0;
     let write : Bool := true;
     let found : EccOutcome := .clean;
     let c := (2 : Nat);
     let s : State := State.reset;
     ⟨s, k, asid, va, write, found, c, by decide, by decide +kernel, .inl (by decide +kernel), except_error (by decide +kernel)⟩),
    (let k : Nat := 143;
     let asid : Nat := 0;
     let va : Nat := 0;
     let write : Bool := false;
     let found : EccOutcome := .clean;
     let x := ({ asid := 0, size := 21, page := 0, base := 2 ^ 53, glob := false, r := true, w := true } : TlbEnt);
     let s : State := (State.reset).putB R.MEM_CTX_BASE_EN true;
     let s : State :=
        { s with mem := { s.mem with sram := [(0, 1), (1, 0x10), (6, 0x10), (8, 32), (4096, 0x0D), (4102, 0x20)] } };
     ⟨s, k, asid, va, write, found, x, by decide, by decide +kernel, .inr (by decide), except_ok (by decide +kernel)⟩),
    (let k : Nat := 0;
     let asid : Nat := 0;
     let va : Nat := 0;
     let write : Bool := true;
     let found : EccOutcome := .uncorrectable;
     let o := (4096 : Nat);
     let s : State := (State.reset).putB R.MEM_CTX_BASE_EN true;
     let s : State := { s with mem := { s.mem with sram := [(0, 1), (1, 0x10), (6, 0x20), (8, 32)] } };
     ⟨s, k, asid, va, write, found, o, by decide +kernel⟩),
    (let k : Nat := 0;
     let asid : Nat := 0;
     let va : Nat := 0;
     let write : Bool := true;
     let found : EccOutcome := .clean;
     let s : State := State.reset;
     ⟨s, k, asid, va, write, found, by decide +kernel⟩)⟩

theorem witness_TranslationCommands_2 :
    (∃ (s : State) (k : Nat), k < 144 ∧ (s.tlb k).length ≤ tlbSize k) ∧
    (∃ (k : Nat) (k' : _), k < 144 ∧ k' ≠ k) :=
  ⟨(let k : Nat := 0;
     let s : State := State.reset;
     ⟨s, k, by decide +kernel⟩),
    (let k : Nat := 0;
     let k' := (143 : Nat);
     ⟨k, k', by decide +kernel⟩)⟩

theorem witness_DramErrorCommands :
    (∃ (s : State) (ch : Fin 4), s.chLost ch = true) ∧
    (∃ (s : State) (ch : Fin 4), s.chLost ch = false ∧ s.get R.MEM_STAT_JRN_A ≠ ch.val ∧ s.get R.MEM_STAT_JRN_B ≠
      ch.val ∧ (s.chLost (s.get R.MEM_STAT_JRN_A) = false ∨ s.chLost (s.get R.MEM_STAT_JRN_B) = false)) ∧
    (∃ (s : State) (ch : Fin 4), s.chLost ch = false ∧ s.get R.MEM_STAT_JRN_A = ch.val ∧ s.get R.MEM_STAT_JRN_B ≠
      ch.val ∧ s.chLost (s.get R.MEM_STAT_JRN_B) = false) ∧
    (∃ (s : State) (ch : Fin 4), s.chLost ch = false ∧ s.get R.MEM_STAT_JRN_A ≠ ch.val ∧ s.get R.MEM_STAT_JRN_B =
      ch.val ∧ s.chLost (s.get R.MEM_STAT_JRN_A) = false) ∧
    (∃ (s : State) (ch : Fin 4), s.chLost ch = false ∧
      (s.get R.MEM_STAT_JRN_A = ch.val ∨ s.chLost (s.get R.MEM_STAT_JRN_A) = true) ∧
      (s.get R.MEM_STAT_JRN_B = ch.val ∨ s.chLost (s.get R.MEM_STAT_JRN_B) = true)) ∧
    (∃ (s : State) (ch : Fin 4), s.bit R.SCHED_STAT_REBUILD = true ∧ s.chLost ch = false ∧ s.chLost
      (s.get R.MEM_STAT_JRN_A) = true ∧ ch.val ≠ s.get R.MEM_STAT_JRN_B) ∧
    (∃ (s : State) (ch : Fin 4), s.bit R.SCHED_STAT_REBUILD = true ∧ s.chLost ch = false ∧ s.chLost
      (s.get R.MEM_STAT_JRN_A) = false ∧ ch.val ≠ s.get R.MEM_STAT_JRN_A) ∧
    (∃ (s : State) (ch : Fin 4), (s.bit R.SCHED_STAT_REBUILD = false ∨ s.chLost ch = true)) :=
  ⟨(let ch : Fin 4 := 0;
     let s : State := (State.reset).putIdx R.MEM_STAT_CH_LOST ch true;
     ⟨s, ch, by decide +kernel⟩),
    (let ch : Fin 4 := 3;
     let s : State := ((State.reset).put R.MEM_STAT_JRN_A 1).put R.MEM_STAT_JRN_B 2;
     ⟨s, ch, by decide +kernel⟩),
    (let ch : Fin 4 := 1;
     let s : State := ((State.reset).put R.MEM_STAT_JRN_A 1).put R.MEM_STAT_JRN_B 2;
     ⟨s, ch, by decide +kernel⟩),
    (let ch : Fin 4 := 3;
     let s : State := ((State.reset).put R.MEM_STAT_JRN_A 1).put R.MEM_STAT_JRN_B 3;
     ⟨s, ch, by decide +kernel⟩),
    (let ch : Fin 4 := 0;
     let s : State := ((State.reset).put R.MEM_STAT_JRN_A ch.val).put R.MEM_STAT_JRN_B ch.val;
     ⟨s, ch, by decide +kernel⟩),
    (let ch : Fin 4 := 3;
     let s : State :=
        ((((State.reset).put R.MEM_STAT_JRN_A 1).put R.MEM_STAT_JRN_B 2).putB R.SCHED_STAT_REBUILD true).putIdx
        R.MEM_STAT_CH_LOST 1 true;
     ⟨s, ch, by decide +kernel⟩),
    (let ch : Fin 4 := 3;
     let s : State := (State.reset).putB R.SCHED_STAT_REBUILD true;
     ⟨s, ch, by decide +kernel⟩),
    (let ch : Fin 4 := 0;
     let s : State := (State.reset).putB R.SCHED_STAT_REBUILD false;
     ⟨s, ch, by decide +kernel⟩)⟩

theorem witness_MemoryReadsWhatWasWritten :
    (∃ (off : Nat) (bs : List Byte) (a : _), (a < off ∨ off + bs.length ≤ a)) ∧
    (∃ (sp off : Nat) (bs : List Byte) (sp' : _) (off' : _), sp < 3 ∧ sp' < 3 ∧
      (sp' ≠ sp ∨ off' < off ∨ off + bs.length ≤ off')) :=
  ⟨(let off : Nat := 0;
     let bs : List Byte := [1];
     let a := (1 : Nat);
     ⟨off, bs, a, by decide +kernel⟩),
    (let sp : Nat := 0;
     let off : Nat := 4;
     let bs : List Byte := [1];
     let sp' := (0 : Nat);
     let off' := (3 : Nat);
     ⟨sp, off, bs, sp', off', by decide +kernel⟩)⟩

theorem witness_DmaItemCommands_1 :
    (∃ (s : State) (w : Writer) (pat : List Byte) (a k : Nat) (r : _) (o : _), r = State.elemsMove w
      (fun _ => .bytes pat) (fun i => 2 ^ 52 + a + i * pat.length) pat.length (fun _ => false) k 0 false [] s ∧ 0 <
      pat.length ∧ a + pat.length * k ≤ 0x800000 ∧
      (a + pat.length * k ≤ s.get R.MEM_CTX_BASE * 0x10000 ∨ s.get R.MEM_CTX_BASE * 0x10000 + 0x10000 ≤ a) ∧
      (o < a ∨ a + pat.length * k ≤ o)) ∧
    (∃ (s : State) (w : Writer) (pat : List Byte) (a b k : Nat) (n : _) (r : _) (o : _), r = State.elemsMove w
      (fun i => .phys (2 ^ 52 + b + i * n)) (fun i => 2 ^ 52 + a + i * n) n (fun _ => false) k 0 false [] s ∧ 0 <
      pat.length ∧ a + pat.length * k ≤ 0x800000 ∧
      (a + pat.length * k ≤ s.get R.MEM_CTX_BASE * 0x10000 ∨ s.get R.MEM_CTX_BASE * 0x10000 + 0x10000 ≤ a) ∧ 0 < n ∧
      a + n * k ≤ 0x800000 ∧ b + n * k ≤ 0x800000 ∧ (a + n * k ≤ b ∨ b + n * k ≤ a) ∧
      (∀ x ∈ [a, b], x + n * k ≤ s.get R.MEM_CTX_BASE * 0x10000 ∨ s.get R.MEM_CTX_BASE * 0x10000 + 0x10000 ≤ x) ∧
      (o < a ∨ a + n * k ≤ o)) ∧
    (∃ (s : State) (c j k : Fin 16), j ≠ k ∧
      (∀ i : Fin 16, s.dmaEligible c i = true ∧ s.dmaOutranked c i = false ↔ i = j ∨ i = k)) ∧
    (∃ (s : State) (c j : Fin 16) (f : Flight), s.dmaRuns c = true ∧ s.bit (R.DMA_CH_STAT_ACTIVE c j) = false ∧
      s.quiesceLate (s.unitId (0x200 + c.val)) = false ∧ s.dmaNextItem c j = some f ∧ s.bit (R.DMA_CH_CFG_MODE c j) =
      false ∧ f.item.payload.length % 32 = 0 ∧ f.item.payload ≠ []) ∧
    (∃ (s : State) (c j : Fin 16) (f : Flight), s.dmaRuns c = true ∧ s.bit (R.DMA_CH_STAT_ACTIVE c j) = false ∧
      s.quiesceLate (s.unitId (0x200 + c.val)) = false ∧ s.dmaNextItem c j = some f ∧ s.bit (R.DMA_CH_CFG_MODE c j) =
      false ∧ f.item.payload.length % 32 ≠ 0) ∧
    (∃ (s : State) (c j : Fin 16) (f : Flight), s.dmaRuns c = true ∧ s.bit (R.DMA_CH_STAT_ACTIVE c j) = false ∧
      s.quiesceLate (s.unitId (0x200 + c.val)) = false ∧ s.dmaNextItem c j = some f ∧ s.bit (R.DMA_CH_CFG_MODE c j) =
      false ∧ f.item.payload = []) ∧
    (∃ (s : State) (c j : Fin 16) (f : Flight), s.dmaRuns c = true ∧ s.bit (R.DMA_CH_STAT_ACTIVE c j) = false ∧
      s.quiesceLate (s.unitId (0x200 + c.val)) = false ∧ s.dmaNextItem c j = some f ∧ s.bit (R.DMA_CH_CFG_MODE c j) =
      true ∧ (s.capSize c j = 0 ∨ (s.dma c j).stop = true)) ∧
    (∃ (s : State) (c j : Fin 16) (f : Flight), s.dmaRuns c = true ∧ s.bit (R.DMA_CH_STAT_ACTIVE c j) = false ∧
      s.quiesceLate (s.unitId (0x200 + c.val)) = false ∧ s.dmaNextItem c j = some f ∧ s.bit (R.DMA_CH_CFG_MODE c j) =
      true ∧ 0 < s.capSize c j ∧ (s.dma c j).stop = false ∧ s.bit (R.DMA_CH_CFG_FULL_STOP c j) = true ∧ s.capSize c j
      < (s.dma c j).wp + (s.capRecord c j f.item).length) ∧
    (∃ (s : State) (c j : Fin 16) (f : Flight), s.dmaRuns c = true ∧ s.bit (R.DMA_CH_STAT_ACTIVE c j) = false ∧
      s.quiesceLate (s.unitId (0x200 + c.val)) = false ∧ s.dmaNextItem c j = some f ∧ s.bit (R.DMA_CH_CFG_MODE c j) =
      true ∧ 0 < s.capSize c j ∧ (s.dma c j).stop = false ∧ s.bit (R.DMA_CH_CFG_FULL_STOP c j) = false) ∧
    (∃ (s : State) (c j : Fin 16),
      (s.bit (R.DMA_CH_STAT_ACTIVE c j) = true ∨ s.dmaRuns c = false ∨ s.dmaNextItem c j = none ∨ s.quiesceLate (s.unitId (0x200 + c.val)) = true)) ∧
    (∃ (s : State) (c j : Fin 16) (it : _), s.dmaRuns c = true ∧ s.dmaEligible c j = true ∧ s.dmaOutranked c j =
      false ∧ s.dmaTurn c j = true ∧ s.dmaItem c j = some it ∧ s.bit (R.DMA_CH_CFG_MODE c j) = true) ∧
    (∃ (s : State) (c j : Fin 16) (it : _), s.dmaRuns c = true ∧ s.dmaEligible c j = true ∧ s.dmaOutranked c j =
      false ∧ s.dmaTurn c j = true ∧ s.dmaItem c j = some it ∧ s.bit (R.DMA_CH_CFG_MODE c j) = false ∧
      (s.dma c j).begun = false ∧ (s.dma c j).desc < 65536 ∧ (s.dma c j).list = none ∧
      (descOf ((it.payload.drop (s.dma c j).pos).take 32)).bad = true) :=
  ⟨(let w : Writer := .secure;
     let pat : List Byte := [1];
     let a : Nat := 0x10000;
     let k : Nat := 2;
     let o := (0x10002 : Nat);
     let s : State := State.reset;
     let r := State.elemsMove w (fun _ => .bytes pat) (fun i => 2 ^ 52 + a + i * pat.length) pat.length
        (fun _ => false) k 0 false [] s;
     ⟨s, w, pat, a, k, r, o, rfl, by decide +kernel⟩),
    (let w : Writer := .secure;
     let pat : List Byte := [1];
     let a : Nat := 0x10000;
     let b : Nat := 0x10010;
     let k : Nat := 2;
     let n := (8 : Nat);
     let o := (0x10010 : Nat);
     let s : State := State.reset;
     let r := State.elemsMove w (fun i => .phys (2 ^ 52 + b + i * n)) (fun i => 2 ^ 52 + a + i * n) n
        (fun _ => false) k 0 false [] s;
     ⟨s, w, pat, a, b, k, n, r, o, rfl, by decide +kernel⟩),
    (let c : Fin 16 := 0;
     let j : Fin 16 := 3;
     let k : Fin 16 := 15;
     let s : State := ((State.reset).putB (R.DMA_CH_STAT_ACTIVE c 3) true).putB (R.DMA_CH_STAT_ACTIVE c 15) true;
     ⟨s, c, j, k, by decide +kernel⟩),
    (let c : Fin 16 := 0;
     let j : Fin 16 := 0;
     let f : Flight :=
        { item := { tag := { tag0 with dst := 0x200 }, payload := List.replicate 32 1 }, phase := .sent, isD := false };
     let s : State := (State.reset).setDom (domCluster c) true;
     let s : State := { s with sched := { s.sched with flights := [f] } };
     ⟨s, c, j, f, by decide +kernel⟩),
    (let c : Fin 16 := 0;
     let j : Fin 16 := 0;
     let f : Flight :=
        { item := { tag := { tag0 with dst := 0x200 }, payload := [1] }, phase := .sent, isD := false };
     let s : State := (State.reset).setDom (domCluster c) true;
     let s : State := { s with sched := { s.sched with flights := [f] } };
     ⟨s, c, j, f, by decide +kernel⟩),
    (let c : Fin 16 := 0;
     let j : Fin 16 := 0;
     let f : Flight :=
        { item := { tag := { tag0 with dst := 0x200 }, payload := [] }, phase := .sent, isD := false };
     let s : State := (State.reset).setDom (domCluster c) true;
     let s : State := { s with sched := { s.sched with flights := [f] } };
     ⟨s, c, j, f, by decide +kernel⟩),
    (let c : Fin 16 := 0;
     let j : Fin 16 := 0;
     let f : Flight :=
        { item := { tag := { tag0 with dst := 0x200 }, payload := [] }, phase := .sent, isD := false };
     let s : State := (State.reset).setDom (domCluster c) true;
     let s : State := { s with sched := { s.sched with flights := [f] } };
     let s : State := s.putB (R.DMA_CH_CFG_MODE c j) true;
     ⟨s, c, j, f, by decide +kernel⟩),
    (let c : Fin 16 := 0;
     let j : Fin 16 := 0;
     let f : Flight :=
        { item := { tag := { tag0 with dst := 0x200 }, payload := [1] }, phase := .sent, isD := false };
     let s : State := (State.reset).setDom (domCluster c) true;
     let s : State := { s with sched := { s.sched with flights := [f] } };
     let s : State :=
        (((s.putB (R.DMA_CH_CFG_MODE c j) true).put (R.DMA_CH_CAP_SIZE c j) 1).putB (R.DMA_CH_CFG_FULL_STOP c j) true).modDma
        c j fun x => { x with wp := 4096 };
     ⟨s, c, j, f, by decide +kernel⟩),
    (let c : Fin 16 := 0;
     let j : Fin 16 := 0;
     let f : Flight :=
        { item := { tag := { tag0 with dst := 0x200 }, payload := [] }, phase := .sent, isD := false };
     let s : State := (State.reset).setDom (domCluster c) true;
     let s : State := { s with sched := { s.sched with flights := [f] } };
     let s : State := (s.putB (R.DMA_CH_CFG_MODE c j) true).put (R.DMA_CH_CAP_SIZE c j) 1;
     ⟨s, c, j, f, by decide +kernel⟩),
    (let c : Fin 16 := 0;
     let j : Fin 16 := 0;
     let s : State := (State.reset).putB (R.DMA_CH_STAT_ACTIVE c j) true;
     ⟨s, c, j, by decide +kernel⟩),
    (let c : Fin 16 := 0;
     let j : Fin 16 := 0;
     let it := ({ tag := tag0, payload := List.replicate 32 (255 : Byte) } : Item);
     let s : State := (State.reset).setDom (domCluster c) true;
     let s : State :=
        { s with sched := { s.sched with flights := [{ item := it, phase := .running, isD := false }] } };
     let s : State :=
        ((s.modDma c j fun x => { x with item := some (1, 1) }).putB (R.DMA_CH_STAT_ACTIVE c j) true).putB
        (R.DMA_CH_CFG_MODE c j) true;
     ⟨s, c, j, it, by decide +kernel⟩),
    (let c : Fin 16 := 0;
     let j : Fin 16 := 0;
     let it := ({ tag := tag0, payload := List.replicate 32 (255 : Byte) } : Item);
     let s : State := (State.reset).setDom (domCluster c) true;
     let s : State :=
        { s with sched := { s.sched with flights := [{ item := it, phase := .running, isD := false }] } };
     let s : State :=
        ((s.modDma c j fun x => { x with item := some (1, 1) }).putB (R.DMA_CH_STAT_ACTIVE c j) true).putB
        (R.DMA_CH_CFG_MODE c j) false;
     ⟨s, c, j, it, by decide +kernel⟩)⟩

theorem witness_DmaItemCommands_2 :
    (∃ (s : State) (c j : Fin 16),
      (s.dmaRuns c = false ∨ s.dmaEligible c j = false ∨ s.dmaOutranked c j = true ∨ s.dmaTurn c j = false ∨ s.dmaItem c j = none)) ∧
    (∃ (s : State) (c j : Fin 16) (o q : Nat × Nat), s.contained.contains (0x200 + c.val) = false ∧ (s.dma c j).ended
      = some o ∧ (s.dma c j).item = some q ∧ (s.stream q.1).replyEn = true) ∧
    (∃ (s : State) (c j : Fin 16) (o q : Nat × Nat), s.contained.contains (0x200 + c.val) = false ∧ (s.dma c j).ended
      = some o ∧ (s.dma c j).item = some q ∧ (s.stream q.1).replyEn = false) ∧
    (∃ (s : State) (c j : Fin 16),
      (s.contained.contains (0x200 + c.val) = true ∨ (s.dma c j).ended = none ∨ (s.dma c j).item = none)) ∧
    (∃ (s : State) (c j : Fin 16), s.bit (R.DMA_CH_STAT_ACTIVE c j) = true) ∧
    (∃ (s : State) (c j : Fin 16) (u : _) (a : _), u = s.dmaApply c j ∧ s.bit (R.DMA_CH_STAT_ACTIVE c j) = false ∧
      (∃ a ∈ dmaWords c j, s.waits a = true) ∧ a ∈ dmaWords c j) :=
  ⟨(let c : Fin 16 := 0;
     let j : Fin 16 := 0;
     let s : State := State.reset;
     ⟨s, c, j, by decide +kernel⟩),
    (let c : Fin 16 := 0;
     let j : Fin 16 := 0;
     let o : Nat × Nat := (0, 0);
     let q : Nat × Nat := (0, 0);
     let s : State :=
        (((State.reset).modDma c j fun x => { x with ended := some o }).modDma c j fun x => { x with item := some q }).modStream
        q.1 fun x => { x with replyEn := true };
     ⟨s, c, j, o, q, by decide +kernel⟩),
    (let c : Fin 16 := 0;
     let j : Fin 16 := 0;
     let o : Nat × Nat := (0, 0);
     let q : Nat × Nat := (0, 0);
     let s : State :=
        (((State.reset).modDma c j fun x => { x with ended := some o }).modDma c j fun x => { x with item := some q }).modStream
        q.1 fun x => { x with replyEn := false };
     ⟨s, c, j, o, q, by decide +kernel⟩),
    (let c : Fin 16 := 0;
     let j : Fin 16 := 0;
     let s : State := State.reset;
     ⟨s, c, j, by decide +kernel⟩),
    (let c : Fin 16 := 0;
     let j : Fin 16 := 0;
     let s : State := (State.reset).putB (R.DMA_CH_STAT_ACTIVE c j) true;
     ⟨s, c, j, by decide +kernel⟩),
    (let c : Fin 16 := 0;
     let j : Fin 16 := 0;
     let a := (R.DMA_CH_CFG_MODE 0 0).addr;
     let s : State := State.reset;
     let s : State := { s with wait := [((R.DMA_CH_CFG_MODE 0 0).addr, 1)] };
     let u := s.dmaApply c j;
     ⟨s, c, j, u, a, rfl, by decide +kernel⟩)⟩

theorem witness_DmaPageCommands_1 :
    (∃ (s : State), s.awake = false) ∧
    (∃ (s : State) (w : Writer) (c j : Fin 16), s.awake = true ∧ s.matchesOwner w (s.get (R.PAGE_OWNER (dmaPage c)))
      = true ∧ s.bit (R.DMA_CH_STAT_ACTIVE c j) = true ∧ (s.dma c j).ended = none ∧ s.bit (R.DMA_CH_STAT_SUSP c j) =
      false) ∧
    (∃ (s : State) (w : Writer) (c j : Fin 16), s.awake = true ∧ s.matchesOwner w (s.get (R.PAGE_OWNER (dmaPage c)))
      = true ∧ s.bit (R.DMA_CH_STAT_ACTIVE c j) = true ∧ (s.dma c j).ended = none ∧ s.bit (R.DMA_CH_STAT_SUSP c j) =
      true) ∧
    (∃ (s : State) (w : Writer) (c j : Fin 16), s.awake = true ∧ s.matchesOwner w (s.get (R.PAGE_OWNER (dmaPage c)))
      = true ∧ s.bit (R.DMA_CH_STAT_ACTIVE c j) = true ∧ (s.dma c j).ended.isSome = true) ∧
    (∃ (s : State) (w : Writer) (c j : Fin 16), s.awake = true ∧ s.matchesOwner w (s.get (R.PAGE_OWNER (dmaPage c)))
      = true ∧ s.bit (R.DMA_CH_STAT_ACTIVE c j) = false) ∧
    (∃ (s : State) (w : Writer) (c : Fin 16), s.awake = true ∧ s.matchesOwner w (s.get (R.PAGE_OWNER (dmaPage c))) =
      false) ∧
    (∃ (s : State) (c j : Fin 16), s.bit (R.DMA_CH_STAT_SUSP c j) = true ∧ (s.dma c j).link = false ∧ s.get
      (R.DMA_CTRL_FAULT_TMO c) ≠ 0) ∧
    (∃ (s : State) (c j : Fin 16),
      (s.bit (R.DMA_CH_STAT_SUSP c j) = false ∨ (s.dma c j).link = true ∨ s.get (R.DMA_CTRL_FAULT_TMO c) = 0)) ∧
    (∃ (cause : Nat), cause < 9 ∧ 0 < cause) ∧
    (∃ (s : State) (e : Fin 128), s.hostReady = true ∧ (s.eng e).susp = true ∧ (s.eng e).link = true) ∧
    (∃ (s : State) (c j : Fin 16), s.hostReady = true ∧ s.bit (R.DMA_CH_STAT_SUSP c j) = true ∧ (s.dma c j).link =
      true) ∧
    (∃ (s : State) (e : Fin 128), s.hostReady = true ∧ (s.eng e).link = false) :=
  ⟨(let s : State := State.reset;
     ⟨s, by decide +kernel⟩),
    (let w : Writer := .secure;
     let c : Fin 16 := 0;
     let j : Fin 16 := 0;
     let s : State := State.reset;
     let s : State := { s with pwr := { s.pwr with phase := 3 } };
     let s : State := ((s.putB (R.DMA_CH_STAT_ACTIVE c j) true).modDma c j fun x => { x with ended := none }).putB
        (R.DMA_CH_STAT_SUSP c j) false;
     ⟨s, w, c, j, by decide +kernel⟩),
    (let w : Writer := .secure;
     let c : Fin 16 := 0;
     let j : Fin 16 := 0;
     let s : State := State.reset;
     let s : State := { s with pwr := { s.pwr with phase := 3 } };
     let s : State := ((s.putB (R.DMA_CH_STAT_ACTIVE c j) true).modDma c j fun x => { x with ended := none }).putB
        (R.DMA_CH_STAT_SUSP c j) true;
     ⟨s, w, c, j, by decide +kernel⟩),
    (let w : Writer := .secure;
     let c : Fin 16 := 0;
     let j : Fin 16 := 0;
     let s : State := State.reset;
     let s : State := { s with pwr := { s.pwr with phase := 3 } };
     let s : State := (s.putB (R.DMA_CH_STAT_ACTIVE c j) true).modDma c j fun x => { x with ended := some (0, 0) };
     ⟨s, w, c, j, by decide +kernel, by decide +kernel, by decide +kernel⟩),
    (let w : Writer := .secure;
     let c : Fin 16 := 0;
     let j : Fin 16 := 0;
     let s : State := State.reset;
     let s : State := { s with pwr := { s.pwr with phase := 3 } };
     let s : State := s.putB (R.DMA_CH_STAT_ACTIVE c j) false;
     ⟨s, w, c, j, by decide +kernel⟩),
    (let w : Writer := .unit 0;
     let c : Fin 16 := 0;
     let s : State := State.reset;
     let s : State := { s with pwr := { s.pwr with phase := 3 } };
     ⟨s, w, c, by decide +kernel⟩),
    (let c : Fin 16 := 0;
     let j : Fin 16 := 0;
     let s : State :=
        (((State.reset).putB (R.DMA_CH_STAT_SUSP c j) true).modDma c j fun x => { x with link := false }).put
        (R.DMA_CTRL_FAULT_TMO c) 1;
     ⟨s, c, j, by decide +kernel⟩),
    (let c : Fin 16 := 0;
     let j : Fin 16 := 0;
     let s : State := (State.reset).putB (R.DMA_CH_STAT_SUSP c j) false;
     ⟨s, c, j, by decide +kernel⟩),
    (let cause : Nat := (0 + 1);
     ⟨cause, by decide +kernel⟩),
    (let e : Fin 128 := 0;
     let s : State := State.reset;
     let s : State := { s with pwr := { s.pwr with phase := 3 } };
     let s : State := { s with host := { s.host with link := 1 } };
     let s : State := { s with host := { s.host with link := 1 } };
     let s : State := (s.modEng e fun x => { x with susp := true }).modEng e fun x => { x with link := true };
     ⟨s, e, by decide +kernel⟩),
    (let c : Fin 16 := 0;
     let j : Fin 16 := 0;
     let s : State := State.reset;
     let s : State := { s with pwr := { s.pwr with phase := 3 } };
     let s : State := { s with host := { s.host with link := 1 } };
     let s : State := { s with host := { s.host with link := 1 } };
     let s : State := (s.putB (R.DMA_CH_STAT_SUSP c j) true).modDma c j fun x => { x with link := true };
     ⟨s, c, j, by decide +kernel⟩),
    (let e : Fin 128 := 0;
     let s : State := State.reset;
     let s : State := { s with pwr := { s.pwr with phase := 3 } };
     let s : State := { s with host := { s.host with link := 1 } };
     let s : State := { s with host := { s.host with link := 1 } };
     let s : State := s.modEng e fun x => { x with link := false };
     ⟨s, e, by decide +kernel⟩)⟩

theorem witness_DmaPageCommands_2 :
    (∃ (s : State) (c j : Fin 16), s.hostReady = true ∧ (s.dma c j).link = false) ∧
    (∃ (s : State), s.hostReady = false) :=
  ⟨(let c : Fin 16 := 0;
     let j : Fin 16 := 0;
     let s : State := State.reset;
     let s : State := { s with pwr := { s.pwr with phase := 3 } };
     let s : State := { s with host := { s.host with link := 1 } };
     let s : State := { s with host := { s.host with link := 1 } };
     let s : State := s.modDma c j fun x => { x with link := false };
     ⟨s, c, j, by decide +kernel⟩),
    (let s : State := State.reset;
     ⟨s, by decide +kernel⟩)⟩

theorem witness_StreamOperations_1 :
    (∃ (s : State), s.awake = false) ∧
    (∃ (s : State) (w : Writer) (k : Fin 4096), s.awake = true ∧ s.matchesOwner w (s.get (R.PAGE_OWNER schPage)) =
      true ∧ ((s.stream k).state = 0 ∨ (s.stream k).state = 4) ∧ s.entryBad k
      (entryFields (s.strmEntry k) (s.stream k)) = false ∧ (entryFields (s.strmEntry k) (s.stream k)).dst = 0x1F00) ∧
    (∃ (s : State) (w : Writer) (k : Fin 4096), s.awake = true ∧ s.matchesOwner w (s.get (R.PAGE_OWNER schPage)) =
      true ∧ ((s.stream k).state = 0 ∨ (s.stream k).state = 4) ∧ s.entryBad k
      (entryFields (s.strmEntry k) (s.stream k)) = false ∧ (entryFields (s.strmEntry k) (s.stream k)).dst ≠ 0x1F00) ∧
    (∃ (s : State) (w : Writer) (k : Fin 4096), s.awake = true ∧ s.matchesOwner w (s.get (R.PAGE_OWNER schPage)) =
      true ∧ ((s.stream k).state = 0 ∨ (s.stream k).state = 4) ∧
      (s.bit R.SCHED_STRM_TBL_EN = false ∨ (s.strmEntry k).testBit 0 = false)) ∧
    (∃ (s : State) (w : Writer) (k : Fin 4096), s.awake = true ∧ s.matchesOwner w (s.get (R.PAGE_OWNER schPage)) =
      true ∧ ((s.stream k).state = 0 ∨ (s.stream k).state = 4) ∧ s.entryBad k
      (entryFields (s.strmEntry k) (s.stream k)) = true) ∧
    (∃ (s : State) (w : Writer) (k : Fin 4096), s.awake = true ∧ s.matchesOwner w (s.get (R.PAGE_OWNER schPage)) =
      true ∧ (s.stream k).state ≠ 0 ∧ (s.stream k).state ≠ 4) ∧
    (∃ (s : State) (w : Writer) (k : Fin 4096), s.awake = true ∧ s.matchesOwner w (s.get (R.PAGE_OWNER schPage)) =
      true ∧ ((s.stream k).state = 1 ∨ (s.stream k).state = 3)) ∧
    (∃ (s : State) (w : Writer) (k : Fin 4096), s.awake = true ∧ s.matchesOwner w (s.get (R.PAGE_OWNER schPage)) =
      true ∧ (s.stream k).state = 4) ∧
    (∃ (s : State) (w : Writer) (k : Fin 4096), s.awake = true ∧ s.matchesOwner w (s.get (R.PAGE_OWNER schPage)) =
      true ∧ ((s.stream k).state = 0 ∨ (s.stream k).state = 2)) ∧
    (∃ (s : State) (w : Writer) (k : Fin 4096), s.awake = true ∧ s.matchesOwner w (s.get (R.PAGE_OWNER schPage)) =
      true ∧ ((s.stream k).state = 1 ∨ (s.stream k).state = 2 ∨ (s.stream k).state = 3)) ∧
    (∃ (s : State) (w : Writer), s.awake = true ∧ s.matchesOwner w (s.get (R.PAGE_OWNER schPage)) = false) ∧
    (∃ (s : State) (k : Fin 4096), (s.stream k).state = 2 ∧ s.inFlight k = false) :=
  ⟨(let s : State := State.reset;
     ⟨s, by decide +kernel⟩),
    (let w : Writer := .secure;
     let k : Fin 4096 := 0;
     let s : State := State.reset;
     let s : State := { s with pwr := { s.pwr with phase := 3 } };
     let s : State := (s.modStream k fun x => { x with state := 0 }).putB R.SCHED_STRM_TBL_EN true;
     let s : State := { s with mem := { s.mem with sram := [(0, 1), (4, 0x00), (5, 0x1F), (16, 4)] } };
     ⟨s, w, k, by decide +kernel⟩),
    (let w : Writer := .secure;
     let k : Fin 4096 := 0;
     let s : State := State.reset;
     let s : State := { s with pwr := { s.pwr with phase := 3 } };
     let s : State := (s.modStream k fun x => { x with state := 0 }).putB R.SCHED_STRM_TBL_EN true;
     let s : State := { s with mem := { s.mem with sram := [(0, 1)] } };
     ⟨s, w, k, by decide +kernel⟩),
    (let w : Writer := .secure;
     let k : Fin 4096 := 0;
     let s : State := State.reset;
     let s : State := { s with pwr := { s.pwr with phase := 3 } };
     let s : State := (s.modStream k fun x => { x with state := 0 }).putB R.SCHED_STRM_TBL_EN false;
     ⟨s, w, k, by decide +kernel⟩),
    (let w : Writer := .secure;
     let k : Fin 4096 := 0;
     let s : State := State.reset;
     let s : State := { s with pwr := { s.pwr with phase := 3 } };
     let s : State := s.modStream k fun x => { x with state := 0 };
     ⟨s, w, k, by decide +kernel⟩),
    (let w : Writer := .secure;
     let k : Fin 4096 := 0;
     let s : State := State.reset;
     let s : State := { s with pwr := { s.pwr with phase := 3 } };
     let s : State := s.modStream k fun x => { x with state := 2 };
     ⟨s, w, k, by decide +kernel⟩),
    (let w : Writer := .secure;
     let k : Fin 4096 := 0;
     let s : State := State.reset;
     let s : State := { s with pwr := { s.pwr with phase := 3 } };
     let s : State := s.modStream k fun x => { x with state := 1 };
     ⟨s, w, k, by decide +kernel⟩),
    (let w : Writer := .secure;
     let k : Fin 4096 := 0;
     let s : State := State.reset;
     let s : State := { s with pwr := { s.pwr with phase := 3 } };
     let s : State := s.modStream k fun x => { x with state := 4 };
     ⟨s, w, k, by decide +kernel⟩),
    (let w : Writer := .secure;
     let k : Fin 4096 := 0;
     let s : State := State.reset;
     let s : State := { s with pwr := { s.pwr with phase := 3 } };
     let s : State := s.modStream k fun x => { x with state := 0 };
     ⟨s, w, k, by decide +kernel⟩),
    (let w : Writer := .secure;
     let k : Fin 4096 := 0;
     let s : State := State.reset;
     let s : State := { s with pwr := { s.pwr with phase := 3 } };
     let s : State := s.modStream k fun x => { x with state := 1 };
     ⟨s, w, k, by decide +kernel⟩),
    (let w : Writer := .unit 0;
     let s : State := State.reset;
     let s : State := { s with pwr := { s.pwr with phase := 3 } };
     ⟨s, w, by decide +kernel⟩),
    (let k : Fin 4096 := 0;
     let s : State := (State.reset).modStream k fun x => { x with state := 2 };
     ⟨s, k, by decide +kernel⟩)⟩

theorem witness_StreamOperations_2 :
    (∃ (s : State) (k : Fin 4096), ((s.stream k).state ≠ 2 ∨ s.inFlight k = true)) ∧
    (∃ (r : _), r < 4) :=
  ⟨(let k : Fin 4096 := 0;
     let s : State := (State.reset).modStream k fun x => { x with state := 0 };
     ⟨s, k, by decide +kernel⟩),
    (let r := 3;
     ⟨r, by decide +kernel⟩)⟩

theorem witness_RingCommands_1 :
    (∃ (s : State), s.hostReady = true ∧ s.bit R.YDVSEC_ID_PCIE_ONLY = false) ∧
    (∃ (s : State), s.hostReady = true ∧ s.bit R.YDVSEC_ID_PCIE_ONLY = true) ∧
    (∃ (s : State), s.hostReady = false) ∧
    (∃ (s : State) (r : Fin 64) (v : BitVec 32) (n : _) (u : _), n = (v.toNat + 2 ^ 32 - (s.ring r).cons) % 2 ^ 32 ∧
      u = s.seeLine (.prod r v) ∧ (s.ring r).run = true ∧ n ≤ (s.ring r).nent) ∧
    (∃ (s : State) (r : Fin 64) (v : BitVec 32) (n : _), (s.ring r).run = true ∧ n =
      (v.toNat + 2 ^ 32 - (s.ring r).cons) % 2 ^ 32 ∧ (s.ring r).nent < n) ∧
    (∃ (g : Tag), g.stream < 4096 ∧ g.seq < 2 ^ 48 ∧ g.ctx < 4096 ∧ g.pri < 4 ∧ g.src < 65536 ∧ g.dst < 65536 ∧ g.typ
      < 256 ∧ -128 ≤ g.exp ∧ g.exp < 128 ∧ g.flags < 65536 ∧ g.len < 65536 ∧ g.chk < 2 ^ 32 ∧ g.time < 2 ^ 64 ∧ g.len
      ≤ 32) ∧
    (∃ (g : Tag) (bs : List Byte) (b : _), g.stream < 4096 ∧ g.seq < 2 ^ 48 ∧ g.ctx < 4096 ∧ g.pri < 4 ∧ g.src <
      65536 ∧ g.dst < 65536 ∧ g.typ < 256 ∧ -128 ≤ g.exp ∧ g.exp < 128 ∧ g.flags < 65536 ∧ g.len < 65536 ∧ g.chk < 2
      ^ 32 ∧ g.time < 2 ^ 64 ∧ 32 < g.len ∧ (fromLe (bs.take 8) % 64 ≠ 0 ∨ b = true)) ∧
    (∃ (s : State) (r : Fin 64),
      (s.hostReady = false ∨ (s.ring r).run = false ∨ (s.ring r).next = (s.ring r).prod ∨ s.sched.stopped = true ∨ s.hasRoom 4160 = false)) ∧
    (∃ (s : State) (r : Fin 64) (ent : RingEntry) (p : State) (it : Item) (bad : Bool), p = s.event .rings 0
      (evOf it (some r.val)) ∧ s.hasRoom 4160 = true ∧ s.hostReady = true ∧ (s.ring r).run = true ∧ (s.ring r).next ≠
      (s.ring r).prod ∧ s.sched.stopped = false ∧ it = entryItem ent ∧ bad = entryPtrBad ent ∧ (p.checkHost it bad).1
      ≠ 0) ∧
    (∃ (s : State) (r : Fin 64) (ent : RingEntry) (p : State) (it : Item) (bad : Bool), p = s.event .rings 0
      (evOf it (some r.val)) ∧ s.hasRoom 4160 = true ∧ s.hostReady = true ∧ (s.ring r).run = true ∧ (s.ring r).next ≠
      (s.ring r).prod ∧ s.sched.stopped = false ∧ it = entryItem ent ∧ bad = entryPtrBad ent ∧ p.checkHost it bad =
      (0, .take)) ∧
    (∃ (s : State) (r : Fin 64) (ent : RingEntry) (p : State) (it : Item) (bad : Bool), p = s.event .rings 0
      (evOf it (some r.val)) ∧ s.hasRoom 4160 = true ∧ s.hostReady = true ∧ (s.ring r).run = true ∧ (s.ring r).next ≠
      (s.ring r).prod ∧ s.sched.stopped = false ∧ it = entryItem ent ∧ bad = entryPtrBad ent ∧ p.checkHost it bad =
      (0, .hold)) ∧
    (∃ (s : State) (r : Fin 64) (ent : RingEntry) (p : State) (it : Item) (bad : Bool), p = s.event .rings 0
      (evOf it (some r.val)) ∧ s.hasRoom 4160 = true ∧ s.hostReady = true ∧ (s.ring r).run = true ∧ (s.ring r).next ≠
      (s.ring r).prod ∧ s.sched.stopped = false ∧ it = entryItem ent ∧ bad = entryPtrBad ent ∧ p.checkHost it bad =
      (0, .duplicate)) :=
  ⟨(let s : State := State.reset;
     let s : State := { s with pwr := { s.pwr with phase := 3 } };
     let s : State := { s with host := { s.host with link := 1 } };
     let s : State := { s with host := { s.host with link := 1 } };
     let s : State := s.putB R.YDVSEC_ID_PCIE_ONLY false;
     ⟨s, by decide +kernel⟩),
    (let s : State := State.reset;
     let s : State := { s with pwr := { s.pwr with phase := 3 } };
     let s : State := { s with host := { s.host with link := 1 } };
     let s : State := { s with host := { s.host with link := 1 } };
     let s : State := s.putB R.YDVSEC_ID_PCIE_ONLY true;
     ⟨s, by decide +kernel⟩),
    (let s : State := State.reset;
     ⟨s, by decide +kernel⟩),
    (let r : Fin 64 := 0;
     let v : BitVec 32 := 0;
     let s : State := (State.reset).modRing r fun x => { x with run := true };
     let n := (v.toNat + 2 ^ 32 - (s.ring r).cons) % 2 ^ 32;
     let u := s.seeLine (.prod r v);
     ⟨s, r, v, n, u, rfl, rfl, by decide +kernel⟩),
    (let r : Fin 64 := 0;
     let v : BitVec 32 := 0xFFFF;
     let n := (0xFFFF : Nat);
     let s : State := (State.reset).modRing r fun x => { x with run := true, nent := 4 };
     ⟨s, r, v, n, by decide +kernel⟩),
    (let g : Tag := tag0;
     ⟨g, by decide +kernel⟩),
    (let g : Tag := { tag0 with len := 33 };
     let bs : List Byte := [];
     let b := true;
     ⟨g, bs, b, by decide +kernel⟩),
    (let r : Fin 64 := 0;
     let s : State := State.reset;
     ⟨s, r, by decide +kernel⟩),
    (let r : Fin 64 := 0;
     let ent : RingEntry := entry0;
     let it : Item := entryItem ent;
     let bad : Bool := entryPtrBad ent;
     let s : State := State.reset;
     let s : State := { s with pwr := { s.pwr with phase := 3 } };
     let s : State := { s with host := { s.host with link := 1 } };
     let s : State := { s with host := { s.host with link := 1 } };
     let s : State := s.modRing r fun x => { x with run := true, prod := 3 };
     let p : State := s.event .rings 0 (evOf it (some r.val));
     ⟨s, r, ent, p, it, bad, rfl, by decide +kernel⟩),
    (let r : Fin 64 := 0;
     let ent : RingEntry := entryOf { tag0 with src := 0x1F00, dst := 0x100, typ := 1, seq := 1 };
     let it : Item := entryItem ent;
     let bad : Bool := entryPtrBad ent;
     let s : State := State.reset;
     let s : State := { s with pwr := { s.pwr with phase := 3 } };
     let s : State := { s with host := { s.host with link := 1 } };
     let s : State := { s with host := { s.host with link := 1 } };
     let s : State :=
        ((s.modRing r fun x => { x with run := true, prod := 3 }).put (R.ENG_INBUF_SIZE 0) 4096).modStream 1 fun x =>
        { x with state := 1, valid := true, src := 0x1F00, dst := 0x100, exp := 1 };
     let p : State := s.event .rings 0 (evOf it (some r.val));
     ⟨s, r, ent, p, it, bad, rfl, by decide +kernel⟩),
    (let r : Fin 64 := 0;
     let ent : RingEntry := entryOf { tag0 with src := 0x1F00, dst := 0x100, typ := 1, seq := 2 };
     let it : Item := entryItem ent;
     let bad : Bool := entryPtrBad ent;
     let s : State := State.reset;
     let s : State := { s with pwr := { s.pwr with phase := 3 } };
     let s : State := { s with host := { s.host with link := 1 } };
     let s : State := { s with host := { s.host with link := 1 } };
     let s : State :=
        ((s.modRing r fun x => { x with run := true, prod := 3 }).put (R.ENG_INBUF_SIZE 0) 4096).modStream 1 fun x =>
        { x with state := 1, valid := true, src := 0x1F00, dst := 0x100, exp := 1 };
     let p : State := s.event .rings 0 (evOf it (some r.val));
     ⟨s, r, ent, p, it, bad, rfl, by decide +kernel⟩),
    (let r : Fin 64 := 0;
     let ent : RingEntry := entryOf { tag0 with src := 0x1F00, dst := 0x100, typ := 1, seq := 5 };
     let it : Item := entryItem ent;
     let bad : Bool := entryPtrBad ent;
     let s : State := State.reset;
     let s : State := { s with pwr := { s.pwr with phase := 3 } };
     let s : State := { s with host := { s.host with link := 1 } };
     let s : State := { s with host := { s.host with link := 1 } };
     let s : State :=
        ((s.modRing r fun x => { x with run := true, prod := 3 }).put (R.ENG_INBUF_SIZE 0) 4096).modStream 1 fun x =>
        { x with state := 1, valid := true, src := 0x1F00, dst := 0x100, exp := 6 };
     let p : State := s.event .rings 0 (evOf it (some r.val));
     ⟨s, r, ent, p, it, bad, rfl, by decide +kernel⟩)⟩

theorem witness_RingCommands_2 :
    (∃ (s : State) (r : Fin 64), (s.ring r).open_ = []) ∧
    (∃ (s : State) (r : Fin 64), (s.ring r).dirty = true ∧ s.hostReady = true) ∧
    (∃ (s : State) (r : Fin 64), ((s.ring r).dirty = false ∨ s.hostReady = false)) :=
  ⟨(let r : Fin 64 := 0;
     let s : State := (State.reset).modRing r fun x => { x with open_ := [] };
     ⟨s, r, by decide +kernel⟩),
    (let r : Fin 64 := 0;
     let s : State := State.reset;
     let s : State := { s with pwr := { s.pwr with phase := 3 } };
     let s : State := { s with host := { s.host with link := 1 } };
     let s : State := s.modRing r fun x => { x with dirty := true };
     let s : State := { s with host := { s.host with link := 1 } };
     ⟨s, r, by decide +kernel⟩),
    (let r : Fin 64 := 0;
     let s : State := (State.reset).modRing r fun x => { x with dirty := false };
     ⟨s, r, by decide +kernel⟩)⟩

theorem witness_ItemCommands_1 :
    (∃ (s : State) (src : Nat) (o : Offer), s.sched.offers.find? (fun o => o.item.tag.src = src) = none) ∧
    (∃ (s : State) (src : Nat) (o : Offer), s.sched.offers.find? (fun o => o.item.tag.src = src) = some o ∧
      s.hasRoomFor o.item = false) ∧
    (∃ (s : State) (src : Nat) (o : Offer) (p : State) (x : State × Nat), p =
      { s with sched := { s.sched with offers := s.sched.offers.erase o } } ∧ x = p.takeItem o.item 0 o.serves ∧
      s.sched.offers.find? (fun o => o.item.tag.src = src) = some o ∧ s.hasRoomFor o.item = true ∧ x.2 ≠ 0) ∧
    (∃ (s : State) (src : Nat) (o : Offer) (p : State) (x : State × Nat) (t : _), p =
      { s with sched := { s.sched with offers := s.sched.offers.erase o } } ∧ x = p.takeItem o.item 0 o.serves ∧
      s.sched.offers.find? (fun o => o.item.tag.src = src) = some o ∧ s.hasRoomFor o.item = true ∧ x.2 = 0 ∧
      x.1.sendDelivered o.item = some t) ∧
    (∃ (s : State) (src : Nat) (o : Offer) (p : State) (x : State × Nat), p =
      { s with sched := { s.sched with offers := s.sched.offers.erase o } } ∧ x = p.takeItem o.item 0 o.serves ∧
      s.sched.offers.find? (fun o => o.item.tag.src = src) = some o ∧ s.hasRoomFor o.item = true ∧ x.2 = 0 ∧
      x.1.sendDelivered o.item = none) ∧
    (∃ (f : Flight) (t : State), t.sched.flights.all (fun f => !f.isD) = true) ∧
    (∃ (s : State) (seq : Nat) (k : Fin 4096) (f : Flight), s.sched.flights.find?
      (fun f => f.is k.val seq && (f.phase = .taken || f.phase = .held) && !f.jrn && !f.isD) = none) ∧
    (∃ (s : State) (seq : Nat) (k : Fin 4096) (f : Flight), s.sched.flights.find?
      (fun f => f.is k.val seq && (f.phase = .taken || f.phase = .held) && !f.jrn && !f.isD) = some f ∧ s.journalUp =
      true) ∧
    (∃ (s : State), s.journalUp = false) ∧
    (∃ (it : Item), it.tag.zeroBad = true) ∧
    (∃ (s : State) (it : Item) (host : Bool), it.tag.zeroBad = false ∧ host = false ∧ s.dstBad it.tag.dst = true) ∧
    (∃ (s : State) (it : Item) (host : Bool), it.tag.zeroBad = false ∧ host = false ∧ s.dstBad it.tag.dst = false ∧
      ((s.stream it.tag.stream).valid = false ∨ ((s.stream it.tag.stream).state ≠ 1 ∧ (s.stream it.tag.stream).state ≠ 3) ∨ it.tag.src ≠ (s.stream it.tag.stream).src ∨ it.tag.dst ≠ (s.stream it.tag.stream).dst)) :=
  ⟨(let src : Nat := 0;
     let o : Offer := { item := item0 };
     let s : State := State.reset;
     ⟨s, src, o, by decide +kernel⟩),
    (let src : Nat := 0;
     let o : Offer := { item := { item0 with tag := { tag0 with len := 4096 } } };
     let s : State := State.reset;
     let s : State :=
        { s with sched := { s.sched with offers := [o], flights := [{ item := { tag := { tag0 with len := 100 * 2 ^ 20 }, payload := [] }, phase := .held, isD := false }] } };
     ⟨s, src, o, by decide +kernel⟩),
    (let src : Nat := 0;
     let o : Offer := { item := item0 };
     let s : State := State.reset;
     let s : State := { s with sched.offers := [o] };
     let p : State := { s with sched := { s.sched with offers := s.sched.offers.erase o } };
     let x : State × Nat := p.takeItem o.item 0 o.serves;
     ⟨s, src, o, p, x, rfl, rfl, by decide +kernel⟩),
    (let src : Nat := 0;
     let dst : Nat := 0;
     let seq : Nat := 0;
     let o : Offer := { item := { item0 with tag := { tag0 with seq := 0, src := 0, dst := 0x200, typ := 5 } } };
     let s : State := (State.reset).setDom (domCluster 0) true;
     let s : State := { s with sched := { s.sched with offers := [o] } };
     let s : State := s.modStream 1 fun x =>
        { x with valid := true, state := 1, src := 0, dst := 0x200, isD := true };
     let p : State := { s with sched := { s.sched with offers := s.sched.offers.erase o } };
     let x : State × Nat := p.takeItem o.item 0 o.serves;
     let t := ((x.1.sendDelivered o.item).getD x.1);
     ⟨s, src, o, p, x, t, rfl, rfl, by decide +kernel⟩),
    (let src : Nat := 0;
     let dst : Nat := 0;
     let seq : Nat := 0;
     let o : Offer := { item := { item0 with tag := { tag0 with seq := 0, src := 0, dst := 0x200, typ := 5 } } };
     let s : State := State.reset;
     let s : State := { s with sched := { s.sched with offers := [o] } };
     let s : State := s.modStream 1 fun x =>
        { x with valid := true, state := 1, src := 0, dst := 0x200, isD := true };
     let p : State := { s with sched := { s.sched with offers := s.sched.offers.erase o } };
     let x : State × Nat := p.takeItem o.item 0 o.serves;
     ⟨s, src, o, p, x, rfl, rfl, by decide +kernel⟩),
    (let f : Flight := flight0;
     let t : State := State.reset;
     ⟨f, t, by decide +kernel⟩),
    (let seq : Nat := 0;
     let k : Fin 4096 := 0;
     let f : Flight := flight0;
     let s : State := State.reset;
     ⟨s, seq, k, f, by decide +kernel⟩),
    (let seq : Nat := 1;
     let k : Fin 4096 := 1;
     let f : Flight := flight0;
     let s : State := State.reset;
     let s : State := { s with sched := { s.sched with flights := [f] } };
     ⟨s, seq, k, f, by decide +kernel⟩),
    (let s : State :=
        ((((State.reset).putIdx R.MEM_STAT_CH_LOST 0 true).putIdx R.MEM_STAT_CH_LOST 1 true).put R.MEM_STAT_JRN_A 0).put
        R.MEM_STAT_JRN_B 1;
     ⟨s, by decide +kernel⟩),
    (let it : Item := ({ (item0 : Item) with tag.zeroBad := true } : Item);
     ⟨it, by decide +kernel⟩),
    (let dst : Nat := 0;
     let host : Bool := false;
     let it : Item := { item0 with tag := { tag0 with dst := 0x400 } };
     let s : State := State.reset;
     ⟨s, it, host, by decide +kernel⟩),
    (let it : Item := ({ (item0 : Item) with tag.zeroBad := false } : Item);
     let host : Bool := false;
     let s : State := (State.reset).modStream it.tag.stream fun x => { x with valid := false };
     ⟨s, it, host, by decide +kernel⟩)⟩

theorem witness_ItemCommands_2 :
    (∃ (s : State) (dst : Nat) (f g : Flight) (u : Nat), dst = s.unitId u ∧ u < 0x1F00 ∧ s.unitOn u = true ∧
      s.unitTakes u = true ∧ g.isD = false ∧ pickFlight s.sched.flights
      (fun f => f.item.tag.dst = dst && s.canDeliver u f) = some g ∧ s.keyGate g = .pass ∧ s.roomAt u g = true) ∧
    (∃ (s : State) (dst : Nat), s.dstLocal dst = true ∧ dst % 0x2000 ≠ 0x1F00) ∧
    (∃ (s : State) (dst : Nat), s.dstLocal dst = true ∧ dst % 0x2000 = 0x1F00) ∧
    (∃ (s : State) (dst : Nat) (f : Flight), s.dstLocal dst = false ∧ pickFlight s.sched.flights
      (fun f => f.item.tag.dst = dst) = some f) ∧
    (∃ (s : State) (dst : Nat) (f : Flight), s.dstLocal dst = false ∧ pickFlight s.sched.flights
      (fun f => f.item.tag.dst = dst) = none) ∧
    (∃ (s : State) (k : Fin 4096),
      ((s.stream k).dirty = false ∨ (s.stream k).atHost = false ∨ s.pos ≠ 0 ∨ s.hostReady = false)) ∧
    (∃ (s : State) (k : Fin 4096), (s.stream k).dirty = true ∧ (s.stream k).atHost = true ∧ s.pos = 0 ∧ s.hostReady =
      true) ∧
    (∃ (s : State) (k : Fin 4096) (f : Flight) (a : _), (s.stream k).ack = some a ∧ pickFlight s.sched.flights
      (fun f => f.item.tag.stream = k.val && f.item.tag.dst = 0x1F00) = some f ∧ s.hostReady = true ∧ s.dstLocal
      0x1F00 = true ∧ (if a = 0 then f.item.tag.seq else seqDist f.item.tag.seq a) ≤ 2 ^ (s.stream k).logNent ∧
      s.keyGate f = .pass) ∧
    (∃ (s : State) (k : Fin 4096) (f : Flight) (a : _), (s.stream k).ack = some a ∧ pickFlight s.sched.flights
      (fun f => f.item.tag.stream = k.val && f.item.tag.dst = 0x1F00) = some f ∧ s.hostReady = true ∧ s.dstLocal
      0x1F00 = true ∧ (if a = 0 then f.item.tag.seq else seqDist f.item.tag.seq a) ≤ 2 ^ (s.stream k).logNent ∧
      s.keyGate f ≠ .pass) ∧
    (∃ (s : State) (k : Fin 4096) (f : Flight) (a : _), (s.stream k).ack = some a ∧ pickFlight s.sched.flights
      (fun f => f.item.tag.stream = k.val && f.item.tag.dst = 0x1F00) = some f ∧ 2 ^ (s.stream k).logNent <
      (if a = 0 then f.item.tag.seq else seqDist f.item.tag.seq a)) ∧
    (∃ (s : State) (k : Fin 4096), ((s.stream k).ack = none ∨ s.hostReady = false ∨ s.dstLocal 0x1F00 = false)) :=
  ⟨(let dst : Nat := (0 : Nat);
     let f : Flight := flight0;
     let g : Flight := { item := item0, phase := .waiting, isD := false };
     let u : Nat := (0 : Nat);
     let s : State := ((State.reset).setDom (domConv 0) true).setDom (domField 0) true;
     let s : State := { s with sched := { s.sched with flights := [g] } };
     ⟨s, dst, f, g, u, by decide +kernel⟩),
    (let dst : Nat := 0;
     let s : State := State.reset;
     ⟨s, dst, by decide +kernel⟩),
    (let dst : Nat := 0x1F00;
     let s : State := State.reset;
     ⟨s, dst, by decide +kernel⟩),
    (let dst : Nat := 0x2000;
     let f : Flight :=
        { item := { item0 with tag := { tag0 with dst := 0x2000 } }, phase := .waiting, isD := false };
     let s : State := State.reset;
     let s : State := { s with sched := { s.sched with flights := [f] } };
     ⟨s, dst, f, by decide +kernel⟩),
    (let dst : Nat := 0x2000;
     let f : Flight := flight0;
     let s : State := State.reset;
     ⟨s, dst, f, by decide +kernel⟩),
    (let k : Fin 4096 := 0;
     let s : State := (State.reset).modStream k fun x => { x with dirty := false };
     ⟨s, k, by decide +kernel⟩),
    (let src : Nat := 0;
     let k : Fin 4096 := 0;
     let s : State := State.reset;
     let s : State := { s with pwr := { s.pwr with phase := 3 } };
     let s : State := { s with host := { s.host with link := 1 } };
     let s : State := s.modStream k fun x => { x with dirty := true, valid := true, src := 0x1F00 };
     let s : State := { s with host := { s.host with link := 1 } };
     ⟨s, k, by decide +kernel⟩),
    (let dst : Nat := 0;
     let seq : Nat := 0;
     let k : Fin 4096 := 1;
     let a := 1;
     let f : Flight :=
        { item := { item0 with tag := { tag0 with dst := 0x1F00, seq := 1, flags := 0 } }, phase := .waiting, isD := false };
     let s : State := State.reset;
     let s : State := { s with pwr := { s.pwr with phase := 3 } };
     let s : State := { s with host := { s.host with link := 1 } };
     let s : State := { s with host := { s.host with link := 1 } };
     let s : State := { s with sched := { s.sched with flights := [f] } };
     let s : State := s.modStream 1 fun x => { x with ack := some 1, logNent := 4 };
     ⟨s, k, f, a, by decide +kernel⟩),
    (let dst : Nat := 0;
     let seq : Nat := 0;
     let k : Fin 4096 := 1;
     let a := 1;
     let f : Flight :=
        { item := { item0 with tag := { tag0 with dst := 0x1F00, seq := 1, flags := 0xFFFF } }, phase := .waiting, isD := false };
     let s : State := State.reset;
     let s : State := { s with pwr := { s.pwr with phase := 3 } };
     let s : State := { s with host := { s.host with link := 1 } };
     let s : State := { s with host := { s.host with link := 1 } };
     let s : State := { s with sched := { s.sched with flights := [f] } };
     let s : State := s.modStream 1 fun x => { x with ack := some 1, logNent := 4 };
     ⟨s, k, f, a, by decide +kernel⟩),
    (let dst : Nat := 0;
     let seq : Nat := 0;
     let k : Fin 4096 := 1;
     let a := (1 : Nat);
     let f : Flight :=
        { item := { item0 with tag := { tag0 with dst := 0x1F00, seq := 100 } }, phase := .waiting, isD := false };
     let s : State := State.reset;
     let s : State := { s with sched := { s.sched with flights := [f] } };
     let s : State := s.modStream 1 fun x => { x with ack := some 1, logNent := 4 };
     ⟨s, k, f, a, by decide +kernel⟩),
    (let k : Fin 4096 := 0;
     let s : State := (State.reset).modStream k fun x => { x with ack := none };
     ⟨s, k, by decide +kernel⟩)⟩

theorem witness_GapKeyQuiesceCommands_1 :
    (∃ (s : State) (k : Fin 4096), s.heldOf k = []) ∧
    (∃ (s : State) (k : Fin 4096), s.heldOf k ≠ [] ∧ (s.stream k).state = 1) ∧
    (∃ (s : State) (k : Fin 4096), s.heldOf k ≠ [] ∧ (s.stream k).state = 2 ∧ (s.stream k).gapRaised = false) ∧
    (∃ (s : State) (k : Fin 4096),
      ((s.stream k).state ≠ 1 ∧ (s.stream k).state ≠ 2 ∨ (s.stream k).state = 2 ∧ (s.stream k).gapRaised = true)) ∧
    (∃ (s : State) (f : Flight), itemHas f.item flIdem = true ∧ f.keyed = false ∧
      (tblGet (fun _ => []) s.ledger.keys f.item.tag.stream).contains (keyOf f.item) = true) ∧
    (∃ (s : State) (f : Flight), itemHas f.item flIdem = true ∧ f.keyed = false ∧
      (tblGet (fun _ => []) s.ledger.keys f.item.tag.stream).contains (keyOf f.item) = false) ∧
    (∃ (s : State) (k : Fin 4096), (s.stream k).keyWork = none) ∧
    (∃ (s : State) (k : Fin 4096) (q : Nat × Nat), (s.stream k).keyWork = some q) ∧
    (∃ (s : State) (u : Nat), s.sched.quiesce.contains (u, 1) = true) ∧
    (∃ (s : State) (u : Nat), s.sched.quiesce.contains (u, 1) = false ∧ s.sched.quiesce.contains (u, 2) = true ∧ u %
      0x2000 < 0x100) ∧
    (∃ (s : State) (u : Nat), (s.sched.quiesce.contains (u, 1) = true ∨ s.sched.quiesce.contains (u, 2) = true)) ∧
    (∃ (s : State) (u : Nat), s.sched.quiesce.contains (u, 1) = false ∧ s.sched.quiesce.contains (u, 2) = false) :=
  ⟨(let k : Fin 4096 := 0;
     let s : State := State.reset;
     ⟨s, k, by decide +kernel⟩),
    (let k : Fin 4096 := 1;
     let s : State := State.reset;
     let s : State := { s with sched := { s.sched with flights := [flight0] } };
     let s : State := s.modStream 1 fun x => { x with state := 1 };
     ⟨s, k, by decide +kernel⟩),
    (let k : Fin 4096 := 1;
     let s : State := State.reset;
     let s : State := { s with sched := { s.sched with flights := [flight0] } };
     let s : State := s.modStream 1 fun x => { x with state := 2 };
     ⟨s, k, by decide +kernel⟩),
    (let k : Fin 4096 := 0;
     let s : State := ((State.reset).modStream k fun x => { x with state := 0 }).modStream k fun x =>
        { x with state := 0 };
     ⟨s, k, by decide +kernel⟩),
    (let f : Flight :=
        { item := { tag := { tag0 with flags := 0xFFFF, len := 8 }, payload := [7, 0, 0, 0, 0, 0, 0, 0] }, phase := .sent, isD := false };
     let s : State := State.reset;
     let s : State := { s with ledger := { s.ledger with keys := [(1, [7])] } };
     ⟨s, f, by decide +kernel⟩),
    (let f : Flight :=
        { item := { tag := { tag0 with flags := 0xFFFF, len := 8 }, payload := [7, 0, 0, 0, 0, 0, 0, 0] }, phase := .sent, isD := false };
     let s : State := State.reset;
     ⟨s, f, by decide +kernel⟩),
    (let k : Fin 4096 := 0;
     let s : State := (State.reset).modStream k fun x => { x with keyWork := none };
     ⟨s, k, by decide +kernel⟩),
    (let k : Fin 4096 := 0;
     let q : Nat × Nat := (0, 0);
     let s : State := (State.reset).modStream k fun x => { x with keyWork := some q };
     ⟨s, k, q, by decide +kernel⟩),
    (let u : Nat := 0;
     let s : State := State.reset;
     let s : State := { s with sched.quiesce := [(u, 1)] };
     ⟨s, u, by decide +kernel⟩),
    (let u : Nat := 0;
     let s : State := State.reset;
     let s : State := { s with sched.quiesce := [(u, 2)] };
     ⟨s, u, by decide +kernel⟩),
    (let u : Nat := 0;
     let s : State := State.reset;
     let s : State := { s with sched.quiesce := [(u, 1)] };
     ⟨s, u, by decide +kernel⟩),
    (let u : Nat := 0;
     let s : State := State.reset;
     ⟨s, u, by decide +kernel⟩)⟩

theorem witness_GapKeyQuiesceCommands_2 :
    (∃ (s : State) (u : Nat), s.sched.quiesce.contains (u, 3) = true ∧ u / 0x2000 = s.pos ∧ s.unitOn (u % 0x2000) =
      true ∧ s.quiesceHeld u = false) ∧
    (∃ (s : State) (u : Nat),
      (s.sched.quiesce.contains (u, 3) = false ∨ s.quiesceHeld u = true ∨ u / 0x2000 ≠ s.pos ∨ s.unitOn (u % 0x2000) = false)) :=
  ⟨(let u : Nat := 0x100;
     let s : State := State.reset;
     let s : State := { s with sched := { s.sched with quiesce := [(0x100, 3)] } };
     let s : State := (s.setDom (domEngine 0) true).setDom (domCluster 0) true;
     ⟨s, u, by decide +kernel⟩),
    (let u : Nat := 0;
     let s : State := State.reset;
     ⟨s, u, by decide +kernel⟩)⟩

theorem witness_CounterBlockCommands_1 :
    (∃ (s : State) (r : Fin 8),
      ((∀ f ∈ s.sched.flights, f.item.tag.dst = s.unitId (0x300 + r) → f.phase = .sent → f.item.tag.typ ≠ 7) ∨ s.bit R.FLT_STAT_C4 = true)) ∧
    (∃ (s : State) (r : Fin 8) (f : _) (x : _), x = s.counterOp (fromLe f.item.payload) ∧ s.bit R.FLT_STAT_C4 =
      false ∧
      (s.sched.flights.find? fun f => f.item.tag.dst = s.unitId (0x300 + r) && f.phase = .sent && f.item.tag.typ = 7)
      = some f ∧ x.1.2.start ≤ s.time) ∧
    (∃ (s : State) (r : Fin 8) (f : _) (x : _), x = s.counterOp (fromLe f.item.payload) ∧ s.bit R.FLT_STAT_C4 =
      false ∧
      (s.sched.flights.find? fun f => f.item.tag.dst = s.unitId (0x300 + r) && f.phase = .sent && f.item.tag.typ = 7)
      = some f ∧ s.time < x.1.2.start) ∧
    (∃ (o : CntOp), o.op = 0) ∧
    (∃ (c : CntSt) (o : CntOp), o.op = 1 ∧ c.mode = 6 ∧ o.count ≠ 0) ∧
    (∃ (o : CntOp), o.op = 2) ∧
    (∃ (c : CntSt) (v : Bool), c.mode = 1 ∧ v ≠ c.a) ∧
    (∃ (c : CntSt) (v : Bool), c.mode = 1 ∧ v ≠ c.b) ∧
    (∃ (c : CntSt), c.mode = 1 ∧ c.z = false ∧ c.zact = 1) ∧
    (∃ (c : CntSt), c.mode = 1 ∧ c.z = false ∧ c.zact = 2) ∧
    (∃ (c : CntSt), c.mode = 2 ∧ c.a = false) ∧
    (∃ (c : CntSt), c.mode = 3 ∧ c.a = false) :=
  ⟨(let r : Fin 8 := 0;
     let s : State := State.reset;
     ⟨s, r, by decide +kernel⟩),
    (let r : Fin 8 := 0;
     let f :=
        { item := { tag := { tag0 with dst := 0x300, typ := 7 }, payload := [] }, phase := .sent, isD := false };
     let s : State := State.reset;
     let s : State := { s with sched := { s.sched with flights := [f] } };
     let x := s.counterOp (fromLe f.item.payload);
     ⟨s, r, f, x, rfl, by decide +kernel⟩),
    (let r : Fin 8 := 0;
     let f :=
        { item := { tag := { tag0 with dst := 0x300, typ := 7 }, payload := List.replicate 32 1 }, phase := .sent, isD := false };
     let s : State := State.reset;
     let s : State := { s with sched := { s.sched with flights := [f] } };
     let x := s.counterOp (fromLe f.item.payload);
     ⟨s, r, f, x, rfl, by decide +kernel⟩),
    (let o : CntOp :=
        ({ ({ op := 0, count := 0, period := 2, width := 1, start := 0 } : CntOp) with op := 0 } : CntOp);
     ⟨o, by decide +kernel⟩),
    (let c : CntSt := ({ (cnt0 : CntSt) with mode := 6 } : CntSt);
     let o : CntOp :=
        ({ (({ ({ op := 0, count := 0, period := 2, width := 1, start := 0 } : CntOp) with op := 1 } : CntOp) : CntOp) with count := 1 } : CntOp);
     ⟨c, o, by decide +kernel⟩),
    (let o : CntOp :=
        ({ ({ op := 0, count := 0, period := 2, width := 1, start := 0 } : CntOp) with op := 2 } : CntOp);
     ⟨o, by decide +kernel⟩),
    (let c : CntSt := ({ (cnt0 : CntSt) with mode := 1 } : CntSt);
     let v : Bool := !c.a;
     ⟨c, v, by decide +kernel⟩),
    (let c : CntSt := ({ (cnt0 : CntSt) with mode := 1 } : CntSt);
     let v : Bool := !c.b;
     ⟨c, v, by decide +kernel⟩),
    (let c : CntSt :=
        ({ (({ (({ (cnt0 : CntSt) with mode := 1 } : CntSt) : CntSt) with z := false } : CntSt) : CntSt) with zact := 1 } : CntSt);
     ⟨c, by decide +kernel⟩),
    (let c : CntSt :=
        ({ (({ (({ (cnt0 : CntSt) with mode := 1 } : CntSt) : CntSt) with z := false } : CntSt) : CntSt) with zact := 2 } : CntSt);
     ⟨c, by decide +kernel⟩),
    (let c : CntSt := ({ (({ (cnt0 : CntSt) with mode := 2 } : CntSt) : CntSt) with a := false } : CntSt);
     ⟨c, by decide +kernel⟩),
    (let c : CntSt := ({ (({ (cnt0 : CntSt) with mode := 3 } : CntSt) : CntSt) with a := false } : CntSt);
     ⟨c, by decide +kernel⟩)⟩

theorem witness_CounterBlockCommands_2 :
    (∃ (c : CntSt), c.mode = 3 ∧ c.b = false) ∧
    (∃ (c : CntSt) (v : Bool), c.mode = 4 ∧ c.a = !v ∧ (c.edge = 0 ∧ v = true ∨ c.edge = 1 ∧ v = false ∨ c.edge = 2)) ∧
    (∃ (c : CntSt), (c.mode = 0 ∨ c.mode = 5 ∨ c.mode = 6)) ∧
    (∃ (c : CntSt), c.filt = 0) ∧
    (∃ (c : CntSt) (now : Nat) (later : _), 0 < c.filt ∧ c.glitch = [] ∧ later < now + 5 * c.filt) ∧
    (∃ (c : CntSt) (now : Nat) (later : _), 0 < c.filt ∧ c.glitch = [] ∧ now + 5 * c.filt ≤ later) ∧
    (∃ (s : State) (b : Fin 256), (s.cnt b).waiting = []) ∧
    (∃ (s : State) (b : Fin 256) (o : CntOp), firstOp (s.cnt b).waiting = some o ∧
      (o.op ≠ 1 ∨ s.regionRuns (b / 32) = true)) ∧
    (∃ (s : State) (b : Fin 256) (o : CntOp), firstOp (s.cnt b).waiting = some o ∧ o.op = 1 ∧ s.regionRuns (b / 32) =
      false) ∧
    (∃ (o : CntOp) (l : List CntOp) (p : _), firstOp l = some o ∧ p ∈ l) ∧
    (∃ (s : State) (b : Fin 256),
      (s.regionRuns (b / 32) = false ∨ ((s.cnt b).mode ≠ 5 ∧ (s.cnt b).mode ≠ 6) ∨ ((s.cnt b).mode = 6 ∧ ((s.cnt b).run = false ∨ (s.cnt b).left = 0)))) ∧
    (∃ (s : State) (b : Fin 256), s.regionRuns (b / 32) = true ∧ (s.cnt b).mode = 5) :=
  ⟨(let b : Fin 256 := 0;
     let c : CntSt := ({ (({ (cnt0 : CntSt) with mode := 3 } : CntSt) : CntSt) with b := false } : CntSt);
     ⟨c, by decide +kernel⟩),
    (let c : CntSt := { cnt0 with mode := 4, a := false, edge := 0 };
     let v : Bool := true;
     ⟨c, v, by decide +kernel⟩),
    (let c : CntSt := ({ (cnt0 : CntSt) with mode := 0 } : CntSt);
     ⟨c, by decide +kernel⟩),
    (let c : CntSt := ({ (cnt0 : CntSt) with filt := 0 } : CntSt);
     ⟨c, by decide +kernel⟩),
    (let c : CntSt := { cnt0 with filt := 1 };
     let now : Nat := 0;
     let later := (1 : Nat);
     ⟨c, now, later, by decide +kernel⟩),
    (let c : CntSt := { cnt0 with filt := 1 };
     let now : Nat := 0;
     let later := (5 : Nat);
     ⟨c, now, later, by decide +kernel⟩),
    (let b : Fin 256 := 0;
     let s : State := (State.reset).modCnt b fun x => { x with waiting := [] };
     ⟨s, b, by decide +kernel⟩),
    (let b : Fin 256 := 0;
     let o : CntOp := { op := 0, count := 0, period := 2, width := 1, start := 0 };
     let s : State := (State.reset).modCnt b fun x => { x with waiting := [o] };
     ⟨s, b, o, by decide +kernel⟩),
    (let b : Fin 256 := 0;
     let o : CntOp := { op := 1, count := 0, period := 2, width := 1, start := 0 };
     let s : State := (State.reset).modCnt b fun x => { x with waiting := [o] };
     ⟨s, b, o, by decide +kernel⟩),
    (let o : CntOp := { op := 0, count := 0, period := 2, width := 1, start := 0 };
     let p := ({ op := 0, count := 0, period := 2, width := 1, start := 0 } : CntOp);
     let l : List CntOp := [o];
     ⟨o, l, p, rfl, .head _⟩),
    (let b : Fin 256 := 0;
     let s : State := State.reset;
     ⟨s, b, by decide +kernel⟩),
    (let b : Fin 256 := 0;
     let s : State :=
        (((State.reset).put (R.FAB_REG_STAT_STATE (b / 32)) 1).setDom (domQuad ((b / 32) / 2)) true).modCnt b fun x
        => { x with mode := 5 };
     ⟨s, b, by decide +kernel⟩)⟩

theorem witness_CounterBlockCommands_3 :
    (∃ (s : State) (b : Fin 256), s.regionRuns (b / 32) = true ∧ (s.cnt b).mode = 6 ∧ (s.cnt b).run = true ∧ 0 <
      (s.cnt b).left) ∧
    (∃ (s : State) (b : Fin 256), (s.cnt b).mode = 6 ∧ (s.cnt b).run = true ∧ (s.cnt b).left = 0) :=
  ⟨(let b : Fin 256 := 0;
     let s : State :=
        (((((State.reset).put (R.FAB_REG_STAT_STATE (b / 32)) 1).setDom (domQuad ((b / 32) / 2)) true).modCnt b fun x => { x with mode := 6 }).modCnt b fun x => { x with run := true }).modCnt
        b fun x => { x with left := (0 + 1) };
     ⟨s, b, by decide +kernel⟩),
    (let b : Fin 256 := 0;
     let s : State :=
        (((State.reset).modCnt b fun x => { x with mode := 6 }).modCnt b fun x => { x with run := true }).modCnt b
        fun x => { x with left := 0 };
     ⟨s, b, by decide +kernel⟩)⟩

theorem witness_PinAndBorderChanges_1 :
    (∃ (s : State), (s.scanActs = false ∨ s.host.scan < 3)) ∧
    (∃ (s : State), s.scanActs = true ∧ (s.host.scan = 3 ∨ s.host.scan = 4)) ∧
    (∃ (s : State), s.scanActs = true ∧ s.host.scan = 5) ∧
    (∃ (s : State) (g : Fin 48) (f : _), f = s.get (R.GIO_CFG_FUNC g) ∧
      (f = 0 ∨ f = 1 ∨ f = 5 ∨ f = 7 ∨ f = 8 ∨ f = 0xA ∨ f = 0xD ∨ f = 0xF)) ∧
    (∃ (s : State) (g : Fin 48) (f : _), f = s.get (R.GIO_CFG_FUNC g) ∧ (f = 2 ∨ f = 6)) ∧
    (∃ (s : State) (g : Fin 48) (f : _), f = s.get (R.GIO_CFG_FUNC g) ∧ f = 3) ∧
    (∃ (s : State) (g : Fin 48) (f : _), f = s.get (R.GIO_CFG_FUNC g) ∧ f = 4) ∧
    (∃ (s : State) (g : Fin 48) (f : _), f = s.get (R.GIO_CFG_FUNC g) ∧ f = 9 ∧ s.regionRuns
      (s.get (R.GIO_CFG_SEL g) / 32) = true) ∧
    (∃ (s : State) (g : Fin 48) (f : _), f = s.get (R.GIO_CFG_FUNC g) ∧ f = 0xC) ∧
    (∃ (s : State) (g : Fin 48) (f : _), f = s.get (R.GIO_CFG_FUNC g) ∧ f = 0xE) ∧
    (∃ (s : State) (g : Fin 48), s.regionRuns (s.get (R.GIO_CFG_REGION g)) = true) ∧
    (∃ (s : State) (g : Fin 48), s.regionRuns (s.get (R.GIO_CFG_REGION g)) = false ∧ (s.gioOut g).safe = 0) :=
  ⟨(let s : State := State.reset;
     ⟨s, by decide +kernel⟩),
    (let s : State := State.reset;
     let s : State := { s with host.scan := 3 };
     ⟨s, by decide +kernel⟩),
    (let s : State := State.reset;
     let s : State := { s with host.scan := 5 };
     ⟨s, by decide +kernel⟩),
    (let g : Fin 48 := 0;
     let s : State := State.reset;
     let f := s.get (R.GIO_CFG_FUNC g);
     ⟨s, g, f, rfl, by decide +kernel⟩),
    (let g : Fin 48 := 3;
     let f := (6 : Nat);
     let s : State := (State.reset).put (R.GIO_CFG_FUNC g) 6;
     ⟨s, g, f, by decide +kernel⟩),
    (let g : Fin 48 := 3;
     let f := (3 : Nat);
     let s : State := (State.reset).put (R.GIO_CFG_FUNC g) 3;
     ⟨s, g, f, by decide +kernel⟩),
    (let g : Fin 48 := 3;
     let f := (4 : Nat);
     let s : State := (State.reset).put (R.GIO_CFG_FUNC g) 4;
     ⟨s, g, f, by decide +kernel⟩),
    (let g : Fin 48 := 3;
     let f := (9 : Nat);
     let s : State := (State.reset).put (R.GIO_CFG_FUNC g) 9;
     let s : State := s.put (R.FAB_REG_STAT_STATE (s.get (R.GIO_CFG_SEL g) / 32)) 1;
     let s : State := s.setDom (domQuad (s.get (R.GIO_CFG_SEL g) / 64)) true;
     ⟨s, g, f, by decide +kernel⟩),
    (let g : Fin 48 := 3;
     let f := (12 : Nat);
     let s : State := (State.reset).put (R.GIO_CFG_FUNC g) 12;
     ⟨s, g, f, by decide +kernel⟩),
    (let g : Fin 48 := 3;
     let f := (14 : Nat);
     let s : State := (State.reset).put (R.GIO_CFG_FUNC g) 14;
     ⟨s, g, f, by decide +kernel⟩),
    (let g : Fin 48 := 0;
     let s : State := State.reset;
     let s : State := s.put (R.FAB_REG_STAT_STATE (s.get (R.GIO_CFG_REGION g))) 1;
     let s : State := s.setDom (domQuad ((s.get (R.GIO_CFG_REGION g)) / 2)) true;
     ⟨s, g, by decide +kernel⟩),
    (let g : Fin 48 := 0;
     let s : State := State.reset;
     ⟨s, g, by decide +kernel⟩)⟩

theorem witness_PinAndBorderChanges_2 :
    (∃ (s : State) (g : Fin 48), s.regionRuns (s.get (R.GIO_CFG_REGION g)) = false ∧ (s.gioOut g).safe = 1) ∧
    (∃ (s : State) (g : Fin 48), s.regionRuns (s.get (R.GIO_CFG_REGION g)) = false ∧ (s.gioOut g).safe = 2) ∧
    (∃ (s : State) (g : Fin 48) (f : _), f = s.get (R.GIO_CFG_FUNC g) ∧ f ≠ 7 ∧ f ≠ 8 ∧ f ≠ 0xA ∧ f ≠ 0xD ∧ f ≠ 0xF) ∧
    (∃ (s : State) (g : Fin 48) (q : _), (s.get (R.GIO_CFG_FUNC g) = 7 ∨ s.get (R.GIO_CFG_FUNC g) = 8) ∧ s.get
      (R.GIO_CFG_QIN g) = q ∧ q < 3 ∧ s.domReady (domQuad (s.get (R.GIO_CFG_SEL g) / 64)) = true) ∧
    (∃ (s : State) (g : Fin 48), s.get (R.GIO_CFG_FUNC g) = 0xA ∧ s.gioIn g = false) ∧
    (∃ (s : State) (g : Fin 48), s.get (R.GIO_CFG_FUNC g) = 0xD ∧ s.gioIn g = false ∧ s.trigLevel
      (s.get (R.GIO_CFG_SEL g)) = false) ∧
    (∃ (s : State) (g : Fin 48), s.get (R.GIO_CFG_FUNC g) = 0xF ∧ s.gioIn g = false ∧ s.get (R.GIO_CFG_SEL g) < 16) ∧
    (∃ (s : State) (r : Fin 8), s.regionRuns r = false) ∧
    (∃ (s : State) (t : Fin 32) (n r : Fin 8), s.regionRuns r = true ∧ s.pinRegion t n = some r.val) ∧
    (∃ (s : State) (t : Fin 32) (n r : Fin 8), s.regionRuns r = true ∧ s.pinRegion t n ≠ some r.val) ∧
    (∃ (s : State) (g : Fin 48) (r : Fin 8), s.regionRuns r = true ∧ s.get (R.GIO_CFG_REGION g) = r) ∧
    (∃ (s : State) (g : Fin 48) (r : Fin 8), s.regionRuns r = true ∧ s.get (R.GIO_CFG_REGION g) ≠ r) :=
  ⟨(let g : Fin 48 := 3;
     let s : State := (State.reset).modGio 3 fun x => { x with safe := 1 };
     ⟨s, g, by decide +kernel⟩),
    (let g : Fin 48 := 3;
     let s : State := (State.reset).modGio 3 fun x => { x with safe := 2 };
     ⟨s, g, by decide +kernel⟩),
    (let g : Fin 48 := 0;
     let s : State := State.reset;
     let f := s.get (R.GIO_CFG_FUNC g);
     ⟨s, g, f, rfl, by decide +kernel⟩),
    (let g : Fin 48 := 0;
     let q := 2;
     let s : State := ((State.reset).put (R.GIO_CFG_FUNC g) 8).put (R.GIO_CFG_QIN g) q;
     let s : State := s.setDom (domQuad (s.get (R.GIO_CFG_SEL g) / 64)) true;
     ⟨s, g, q, by decide +kernel⟩),
    (let g : Fin 48 := 0;
     let s : State := (State.reset).put (R.GIO_CFG_FUNC g) 0xA;
     ⟨s, g, by decide +kernel⟩),
    (let g : Fin 48 := 0;
     let s : State := (State.reset).put (R.GIO_CFG_FUNC g) 0xD;
     ⟨s, g, by decide +kernel⟩),
    (let g : Fin 48 := 0;
     let s : State := (State.reset).put (R.GIO_CFG_FUNC g) 0xF;
     ⟨s, g, by decide +kernel⟩),
    (let r : Fin 8 := 0;
     let s : State := State.reset;
     ⟨s, r, by decide +kernel⟩),
    (let t : Fin 32 := 0;
     let n : Fin 8 := 0;
     let r : Fin 8 := 0;
     let s : State := (((State.reset).put (R.FAB_REG_STAT_STATE r) 1).setDom (domQuad (r / 2)) true).put
        (R.PIN_OWNER t n) (0x20 + r.val);
     ⟨s, t, n, r, by decide +kernel⟩),
    (let t : Fin 32 := 0;
     let n : Fin 8 := 0;
     let r : Fin 8 := 0;
     let s : State := ((State.reset).put (R.FAB_REG_STAT_STATE r) 1).setDom (domQuad (r / 2)) true;
     ⟨s, t, n, r, by decide +kernel⟩),
    (let g : Fin 48 := 0;
     let r : Fin 8 := 0;
     let s : State := (((State.reset).put (R.FAB_REG_STAT_STATE r) 1).setDom (domQuad (r / 2)) true).put
        (R.GIO_CFG_REGION g) r;
     ⟨s, g, r, by decide +kernel⟩),
    (let g : Fin 48 := 0;
     let r : Fin 8 := 7;
     let s : State := ((State.reset).put (R.FAB_REG_STAT_STATE r) 1).setDom (domQuad (r / 2)) true;
     ⟨s, g, r, by decide +kernel⟩)⟩

theorem witness_PinAndBorderChanges_3 :
    (∃ (s : State) (r : Fin 8) (k : Fin 64), s.regionRuns r = true ∧ s.crossing (64 * r + k) = true) ∧
    (∃ (s : State) (g : Fin 48), s.get (R.GIO_CFG_FUNC g) = 0xB) ∧
    (∃ (s : State) (g : Fin 48), s.get (R.GIO_CFG_FUNC g) ≠ 0xB) ∧
    (∃ (s : State) (g : Fin 48), (s.get (R.GIO_CFG_FUNC g) ≠ 0xA ∨ s.pos ≠ 0)) ∧
    (∃ (s : State) (g : Fin 48), s.get (R.GIO_CFG_FUNC g) = 0xA ∧ s.pos = 0) :=
  ⟨(let r : Fin 8 := 0;
     let k : Fin 64 := 0;
     let s : State := ((State.reset).put (R.FAB_REG_STAT_STATE r) 1).setDom (domQuad (r / 2)) true;
     let s : State := { s with fab := { s.fab with cross := [(64 * r.val + k.val, true)] } };
     ⟨s, r, k, by decide +kernel⟩),
    (let g : Fin 48 := 0;
     let s : State := (State.reset).put (R.GIO_CFG_FUNC g) 0xB;
     ⟨s, g, by decide +kernel⟩),
    (let g : Fin 48 := 0;
     let s : State := (State.reset).put (R.GIO_CFG_FUNC g) 0;
     ⟨s, g, by decide +kernel⟩),
    (let g : Fin 48 := 0;
     let s : State := (State.reset).put (R.GIO_CFG_FUNC g) 0;
     ⟨s, g, by decide +kernel⟩),
    (let g : Fin 48 := 0;
     let s : State := ((State.reset).put (R.GIO_CFG_FUNC g) 0xA).put R.LAT_POS 0;
     ⟨s, g, by decide +kernel⟩)⟩

theorem witness_PortAndReloadCommands_1 :
    (∃ (s : State) (r : Fin 8), s.regionRuns r = false) ∧
    (∃ (s : State) (r : Fin 8) (port : Fin 16), (tblGet (fun _ => ({} : FabPort)) s.sched.ports (16 * r + port)).busy
      = true) ∧
    (∃ (s : State) (r : Fin 8) (port : Fin 16) (it : Item) (x : State × Nat), x = s.takeItem (s.portItem r it) 0
      none ∧ s.regionRuns r = true ∧ (tblGet (fun _ => ({} : FabPort)) s.sched.ports (16 * r + port)).busy = false ∧
      s.hasRoomFor (s.portItem r it) = true ∧ x.2 ≠ 0) ∧
    (∃ (s : State) (r : Fin 8) (port : Fin 16) (it : Item) (x : State × Nat) (t : _), x = s.takeItem
      (s.portItem r it) 0 none ∧ s.regionRuns r = true ∧
      (tblGet (fun _ => ({} : FabPort)) s.sched.ports (16 * r + port)).busy = false ∧ s.hasRoomFor (s.portItem r it)
      = true ∧ x.2 = 0 ∧ x.1.sendDelivered (s.portItem r it) = some t) ∧
    (∃ (s : State) (r : Fin 8) (port : Fin 16) (it : Item) (x : State × Nat), x = s.takeItem (s.portItem r it) 0
      none ∧ s.regionRuns r = true ∧ (tblGet (fun _ => ({} : FabPort)) s.sched.ports (16 * r + port)).busy = false ∧
      s.hasRoomFor (s.portItem r it) = true ∧ x.2 = 0 ∧ x.1.sendDelivered (s.portItem r it) = none) ∧
    (∃ (s : State) (r : Fin 8) (port : Fin 16) (it : Item), s.regionRuns r = true ∧
      (tblGet (fun _ => ({} : FabPort)) s.sched.ports (16 * r + port)).busy = false ∧ s.hasRoomFor (s.portItem r it)
      = false) ∧
    (∃ (s : State) (r : Fin 8) (port : Fin 16) (f : Flight),
      ((s.sched.flights.find? fun f => f.item.tag.dst = s.unitId (0x300 + r) && f.phase = .sent && (s.stream f.item.tag.stream).bind % 32 = port) = none ∨ s.regionRuns r = false ∨ s.bit R.FLT_STAT_C4 = true)) ∧
    (∃ (s : State) (r : Fin 8) (port : Fin 16) (f : Flight),
      (s.sched.flights.find? fun f => f.item.tag.dst = s.unitId (0x300 + r) && f.phase = .sent && (s.stream f.item.tag.stream).bind % 32 = port)
      = some f ∧ s.regionRuns r = true ∧ s.bit R.FLT_STAT_C4 = false) ∧
    (∃ (s : State), s.awake = false) ∧
    (∃ (s : State) (w : Writer), s.awake = true ∧ s.matchesOwner w (s.get (R.PAGE_OWNER fabPage)) = false) ∧
    (∃ (s : State) (w : Writer) (k : Fin 128) (chk : StreamCheck) (c : _), s.awake = true ∧ s.matchesOwner w
      (s.get (R.PAGE_OWNER fabPage)) = true ∧ s.bit R.FAB_RCFG_STAT_BUSY = true ∧ c ∈
      ([.reloadRegion w k chk, .reloadTile w k chk, .reloadEngine w k chk] : List Instr)) ∧
    (∃ (s : State) (w : Writer), s.awake = true ∧ s.matchesOwner w (s.get (R.PAGE_OWNER fabPage)) = true ∧ s.bit
      R.FAB_RCFG_STAT_BUSY = false) :=
  ⟨(let r : Fin 8 := 0;
     let s : State := State.reset;
     ⟨s, r, by decide +kernel⟩),
    (let r : Fin 8 := 0;
     let port : Fin 16 := 0;
     let s : State := State.reset;
     let s : State := { s with sched := { s.sched with ports := [(16 * r.val + port.val, { busy := true })] } };
     ⟨s, r, port, by decide +kernel⟩),
    (let r : Fin 8 := 0;
     let port : Fin 16 := 0;
     let it : Item := item0;
     let s : State := ((State.reset).put (R.FAB_REG_STAT_STATE r) 1).setDom (domQuad (r / 2)) true;
     let x : State × Nat := s.takeItem (s.portItem r it) 0 none;
     ⟨s, r, port, it, x, rfl, by decide +kernel⟩),
    (let r : Fin 8 := 0;
     let port : Fin 16 := 0;
     let it : Item := { item0 with tag := { tag0 with dst := 0x200, typ := 5 } };
     let s : State :=
        ((((State.reset).put (R.FAB_REG_STAT_STATE 0) 1).setDom (domQuad (0 / 2)) true).setDom (domCluster 0) true).modStream
        1 fun x => { x with valid := true, state := 1, src := 0x300, dst := 0x200, isD := true };
     let x : State × Nat := s.takeItem (s.portItem r it) 0 none;
     let t := ((x.1.sendDelivered (s.portItem r it)).getD x.1);
     ⟨s, r, port, it, x, t, rfl, by decide +kernel⟩),
    (let r : Fin 8 := 0;
     let port : Fin 16 := 0;
     let it : Item := { item0 with tag := { tag0 with dst := 0x200, typ := 5 } };
     let s : State := (((State.reset).put (R.FAB_REG_STAT_STATE 0) 1).setDom (domQuad (0 / 2)) true).modStream 1 fun
        x => { x with valid := true, state := 1, src := 0x300, dst := 0x200, isD := true };
     let x : State × Nat := s.takeItem (s.portItem r it) 0 none;
     ⟨s, r, port, it, x, rfl, by decide +kernel⟩),
    (let r : Fin 8 := 0;
     let port : Fin 16 := 0;
     let it : Item := { tag := { tag0 with len := 4096 }, payload := [] };
     let s : State := ((State.reset).put (R.FAB_REG_STAT_STATE r) 1).setDom (domQuad (r / 2)) true;
     let s : State :=
        { s with sched := { s.sched with flights := [{ item := { tag := { tag0 with len := 100 * 2 ^ 20 }, payload := [] }, phase := .held, isD := false }] } };
     ⟨s, r, port, it, by decide +kernel⟩),
    (let r : Fin 8 := 0;
     let port : Fin 16 := 0;
     let f : Flight := flight0;
     let s : State := State.reset;
     ⟨s, r, port, f, by decide +kernel⟩),
    (let r : Fin 8 := 0;
     let port : Fin 16 := 0;
     let f : Flight :=
        { item := { tag := { tag0 with dst := 0x300 }, payload := [] }, phase := .sent, isD := false };
     let s : State := ((State.reset).put (R.FAB_REG_STAT_STATE r) 1).setDom (domQuad (r / 2)) true;
     let s : State := { s with sched := { s.sched with flights := [f] } };
     ⟨s, r, port, f, by decide +kernel⟩),
    (let s : State := State.reset;
     ⟨s, by decide +kernel⟩),
    (let w : Writer := .unit 0;
     let s : State := State.reset;
     let s : State := { s with pwr := { s.pwr with phase := 3 } };
     ⟨s, w, by decide +kernel⟩),
    (let w : Writer := .secure;
     let k : Fin 128 := 0;
     let chk : StreamCheck := {};
     let c := .reloadRegion w k chk;
     let s : State := State.reset;
     let s : State := { s with pwr := { s.pwr with phase := 3 } };
     let s : State := s.putB R.FAB_RCFG_STAT_BUSY true;
     ⟨s, w, k, chk, c, by decide +kernel, by decide +kernel, by decide +kernel, .head _⟩),
    (let w : Writer := .secure;
     let s : State := State.reset;
     let s : State := { s with pwr := { s.pwr with phase := 3 } };
     let s : State := s.putB R.FAB_RCFG_STAT_BUSY false;
     ⟨s, w, by decide +kernel⟩)⟩

theorem witness_PortAndReloadCommands_2 :
    (∃ (s : State), (s.bit R.FAB_RCFG_STAT_BUSY = false ∨ s.get R.FAB_RCFG_STAT_PHASE ≠ 1)) ∧
    (∃ (s : State) (img : PersStream) (readOk sigOk : Bool), s.bit R.FAB_RCFG_STAT_BUSY = true ∧ s.get
      R.FAB_RCFG_STAT_PHASE = 1 ∧ s.rcfg.img = some img ∧ s.rcfgResult img readOk sigOk ≠ 0) ∧
    (∃ (s : State) (img : PersStream) (readOk : Bool), s.bit R.FAB_RCFG_STAT_BUSY = true ∧ s.get
      R.FAB_RCFG_STAT_PHASE = 1 ∧ s.rcfg.img = some img ∧ s.rcfgAddrBad readOk = true) ∧
    (∃ (s : State) (img : PersStream) (readOk sigOk : Bool), s.bit R.FAB_RCFG_STAT_BUSY = true ∧ s.get
      R.FAB_RCFG_STAT_PHASE = 1 ∧ s.rcfg.img = some img ∧ s.rcfgAddrBad readOk = false ∧
      (sigOk = false ∨ s.ownerSlot img.ownerSlot = false)) ∧
    (∃ (s : State) (img : PersStream) (readOk sigOk : Bool), s.bit R.FAB_RCFG_STAT_BUSY = true ∧ s.get
      R.FAB_RCFG_STAT_PHASE = 1 ∧ s.rcfg.img = some img ∧ s.rcfgAddrBad readOk = false ∧ sigOk = true ∧ s.ownerSlot
      img.ownerSlot = true ∧ (∀ x ∈ img.sections, x.hashOk = true)) ∧
    (∃ (s : State), s.girthReady = false) ∧
    (∃ (s p : State), p = { s with rcfg := { s.rcfg with girth := true, since := s.time } }.put R.FAB_RCFG_STAT_PHASE
      3 ∧ s.girthReady = true ∧ s.rcfg.kind = 0) ∧
    (∃ (s p : State), p = { s with rcfg := { s.rcfg with girth := true, since := s.time } }.put R.FAB_RCFG_STAT_PHASE
      3 ∧ s.girthReady = true ∧ s.rcfg.kind = 1) ∧
    (∃ (s p : State), p = { s with rcfg := { s.rcfg with girth := true, since := s.time } }.put R.FAB_RCFG_STAT_PHASE
      3 ∧ s.girthReady = true ∧ s.rcfg.kind = 2) ∧
    (∃ (s : State), (s.bit R.FAB_RCFG_STAT_BUSY = false ∨ s.rcfg.girth = false ∨ s.bit R.FLT_STAT_C4 = true)) ∧
    (∃ (s : State), s.bit R.FAB_RCFG_STAT_BUSY = true ∧ s.rcfg.girth = true ∧ s.bit R.FLT_STAT_C4 = false ∧
      s.flt.pfail = true) :=
  ⟨(let s : State := (State.reset).putB R.FAB_RCFG_STAT_BUSY false;
     ⟨s, by decide +kernel⟩),
    (let img : PersStream := pers0;
     let readOk : Bool := true;
     let sigOk : Bool := true;
     let s : State := ((State.reset).putB R.FAB_RCFG_STAT_BUSY true).put R.FAB_RCFG_STAT_PHASE 1;
     let s : State := { s with rcfg.img := some img };
     ⟨s, img, readOk, sigOk, by decide +kernel⟩),
    (let img : PersStream := pers0;
     let readOk : Bool := true;
     let s : State := ((State.reset).putB R.FAB_RCFG_STAT_BUSY true).put R.FAB_RCFG_STAT_PHASE 1;
     let s : State := { s with rcfg.img := some img };
     ⟨s, img, readOk, by decide +kernel⟩),
    (let img : PersStream := pers0;
     let readOk : Bool := true;
     let sigOk : Bool := true;
     let s : State := ((State.reset).putB R.FAB_RCFG_STAT_BUSY true).put R.FAB_RCFG_STAT_PHASE 1;
     let s : State := { s with rcfg := { s.rcfg with img := some img, kind := 1 } };
     let s : State := (s.put R.FAB_RCFG_ADDR_HI_SPACE 1).put R.MEM_CTX_BASE 64;
     ⟨s, img, readOk, sigOk, by decide +kernel⟩),
    (let img : PersStream := pers0;
     let readOk : Bool := true;
     let sigOk : Bool := true;
     let s : State := ((State.reset).putB R.FAB_RCFG_STAT_BUSY true).put R.FAB_RCFG_STAT_PHASE 1;
     let s : State := { s with rcfg := { s.rcfg with img := some img, kind := 1 } };
     let s : State := ((s.put R.FAB_RCFG_ADDR_HI_SPACE 1).put R.MEM_CTX_BASE 64).putIdx R.SEC_STAT_OWNERS 0 true;
     ⟨s, img, readOk, sigOk, by decide +kernel⟩),
    (let s : State := State.reset;
     ⟨s, by decide +kernel⟩),
    (let s : State := ((State.reset).putB R.FAB_RCFG_STAT_BUSY true).put R.FAB_RCFG_STAT_PHASE 2;
     let s : State := { s with rcfg := { s.rcfg with kind := 0, target := 0x300 } };
     let s : State := { s with sched := { s.sched with quiesce := [(s.unitId s.rcfg.target, 3)] } };
     let s : State :=
        ((((s.setDom (domQuad 0) true).setDom (domEngine 0) true).setDom (domCluster 0) true).setDom (domConv 0) true).setDom
        (domField 0) true;
     let p : State := { s with rcfg := { s.rcfg with girth := true, since := s.time } }.put R.FAB_RCFG_STAT_PHASE 3;
     ⟨s, p, rfl, by decide +kernel⟩),
    (let s : State := ((State.reset).putB R.FAB_RCFG_STAT_BUSY true).put R.FAB_RCFG_STAT_PHASE 2;
     let s : State := { s with rcfg := { s.rcfg with kind := 1, target := 0 } };
     let s : State := { s with sched := { s.sched with quiesce := [(s.unitId s.rcfg.target, 3)] } };
     let s : State :=
        ((((s.setDom (domQuad 0) true).setDom (domEngine 0) true).setDom (domCluster 0) true).setDom (domConv 0) true).setDom
        (domField 0) true;
     let p : State := { s with rcfg := { s.rcfg with girth := true, since := s.time } }.put R.FAB_RCFG_STAT_PHASE 3;
     ⟨s, p, rfl, by decide +kernel⟩),
    (let s : State := ((State.reset).putB R.FAB_RCFG_STAT_BUSY true).put R.FAB_RCFG_STAT_PHASE 2;
     let s : State := { s with rcfg := { s.rcfg with kind := 2, target := 0x100 } };
     let s : State := { s with sched := { s.sched with quiesce := [(s.unitId s.rcfg.target, 3)] } };
     let s : State :=
        ((((s.setDom (domQuad 0) true).setDom (domEngine 0) true).setDom (domCluster 0) true).setDom (domConv 0) true).setDom
        (domField 0) true;
     let p : State := { s with rcfg := { s.rcfg with girth := true, since := s.time } }.put R.FAB_RCFG_STAT_PHASE 3;
     ⟨s, p, rfl, by decide +kernel⟩),
    (let s : State := (State.reset).putB R.FAB_RCFG_STAT_BUSY false;
     ⟨s, by decide +kernel⟩),
    (let s : State := (State.reset).putB R.FAB_RCFG_STAT_BUSY true;
     let s : State := { s with rcfg.girth := true };
     let s : State := s.putB R.FLT_STAT_C4 false;
     let s : State := { s with flt.pfail := true };
     ⟨s, by decide +kernel⟩)⟩

theorem witness_LinkProtocol :
    (∃ (s : State) (c : Instr) (h : FrameHdr) (m : LatMsg), (frameOf c = some (h, m) ∨ ctlFrameOf c = some (h, m)) ∧
      s.get (R.LAT_PSTAT_LTSTATE h.port) ≠ 5) ∧
    (∃ (s : State) (c : Instr) (h : FrameHdr) (m : LatMsg), (frameOf c = some (h, m) ∨ ctlFrameOf c = some (h, m)) ∧
      s.get (R.LAT_PSTAT_LTSTATE h.port) = 5 ∧ frameGood h m = false) ∧
    (∃ (s : State) (c : Instr) (h : FrameHdr) (m : LatMsg), frameOf c = some (h, m) ∧ s.get
      (R.LAT_PSTAT_LTSTATE h.port) = 5 ∧ frameGood h m = true ∧ h.fseq ≠ (s.port h.port).rxSeq) ∧
    (∃ (s : State) (p : Fin 2), 16 ≤ (s.port p).unacked) ∧
    (∃ (s : State) (p : Fin 2), (s.port p).unacked < 16) :=
  ⟨(let h : FrameHdr := hdr0;
     let m : LatMsg := .ack;
     let c : Instr := .ack h;
     let s : State := (State.reset).put (R.LAT_PSTAT_LTSTATE h.port) 0;
     ⟨s, c, h, m, .inr rfl, by decide +kernel⟩),
    (let h : FrameHdr := hdr0;
     let m : LatMsg := .nak;
     let c : Instr := .nak h;
     let s : State := (State.reset).put (R.LAT_PSTAT_LTSTATE h.port) 5;
     ⟨s, c, h, m, .inr rfl, by decide +kernel⟩),
    (let h : FrameHdr := hdrOf (.loadctl 4 0 0 0);
     let m : LatMsg := .loadctl 4 0 0 0;
     let c : Instr := .loadctlApply h;
     let s : State := ((State.reset).put (R.LAT_PSTAT_LTSTATE h.port) 5).modPort 0 fun x => { x with rxSeq := 2 };
     ⟨s, c, h, m, rfl, by decide +kernel⟩),
    (let p : Fin 2 := 0;
     let s : State := (State.reset).modPort p fun x => { x with unacked := 16 };
     ⟨s, p, by decide +kernel⟩),
    (let p : Fin 2 := 0;
     let s : State := State.reset;
     ⟨s, p, by decide +kernel⟩)⟩

theorem witness_LinkCommands_1 :
    (∃ (s : State) (p : Fin 2), (p.val = 0 ∨ s.pos ≠ 7)) ∧
    (∃ (s : State) (p : Fin 2), p.val = 1 ∧ s.pos = 7) ∧
    (∃ (s : State) (p : Fin 2) (st : _), st = s.get (R.LAT_PSTAT_LTSTATE p) ∧ (st = 0 ∨ 5 ≤ st)) ∧
    (∃ (s : State) (p : Fin 2) (st : _), st = s.get (R.LAT_PSTAT_LTSTATE p) ∧ 1 ≤ st ∧ st ≤ 4) ∧
    (∃ (s : State) (p : Fin 2) (width : Fin 4) (st : _), st = s.get (R.LAT_PSTAT_LTSTATE p) ∧
      (st ≠ 4 ∨ width.val = 0)) ∧
    (∃ (s : State) (p : Fin 2) (width : Fin 4) (st : _), st = s.get (R.LAT_PSTAT_LTSTATE p) ∧ st = 4 ∧ width.val ≠ 0) ∧
    (∃ (s : State) (p : Fin 2), (∀ n ∈ (s.port p).room, n = 0)) ∧
    (∃ (s : State) (p : Fin 2) (n : _), n ∈ (s.port p).room ∧ n ≠ 0) ∧
    (∃ (s : State) (p : Fin 2), (s.port p).lost = false) ∧
    (∃ (s : State) (p : Fin 2), ((s.port p).replay = [] ∨ s.get (R.LAT_PSTAT_LTSTATE p) ≠ 5)) ∧
    (∃ (s : State) (p : Fin 2), (s.port p).replay ≠ [] ∧ s.get (R.LAT_PSTAT_LTSTATE p) = 5 ∧ (s.port p).tries < 7) ∧
    (∃ (s : State) (p : Fin 2), (s.port p).replay ≠ [] ∧ s.get (R.LAT_PSTAT_LTSTATE p) = 5 ∧ 7 ≤ (s.port p).tries) :=
  ⟨(let p : Fin 2 := 0;
     let s : State := State.reset;
     ⟨s, p, by decide +kernel⟩),
    (let p : Fin 2 := 1;
     let s : State := (State.reset).put R.LAT_POS 7;
     ⟨s, p, by decide +kernel⟩),
    (let p : Fin 2 := 0;
     let s : State := State.reset;
     let st := s.get (R.LAT_PSTAT_LTSTATE p);
     ⟨s, p, st, rfl, by decide +kernel⟩),
    (let p : Fin 2 := 0;
     let s : State := (State.reset).put (R.LAT_PSTAT_LTSTATE p) 4;
     let st := s.get (R.LAT_PSTAT_LTSTATE p);
     ⟨s, p, st, rfl, by decide +kernel⟩),
    (let p : Fin 2 := 0;
     let width : Fin 4 := 0;
     let s : State := State.reset;
     let st := s.get (R.LAT_PSTAT_LTSTATE p);
     ⟨s, p, width, st, rfl, by decide +kernel⟩),
    (let p : Fin 2 := 0;
     let width : Fin 4 := 1;
     let s : State := (State.reset).put (R.LAT_PSTAT_LTSTATE p) 4;
     let st := s.get (R.LAT_PSTAT_LTSTATE p);
     ⟨s, p, width, st, rfl, by decide +kernel⟩),
    (let p : Fin 2 := 0;
     let s : State := (State.reset).modPort p fun x => { x with room := [0, 0, 0, 0] };
     ⟨s, p, by decide⟩),
    (let p : Fin 2 := 0;
     let n := (3 : Nat);
     let s : State := (State.reset).modPort p fun x => { x with room := [0, 0, 3, 0] };
     ⟨s, p, n, by decide +kernel⟩),
    (let p : Fin 2 := 0;
     let s : State := (State.reset).modPort p fun x => { x with lost := false };
     ⟨s, p, by decide +kernel⟩),
    (let p : Fin 2 := 0;
     let s : State := (State.reset).modPort p fun x => { x with replay := [] };
     ⟨s, p, by decide +kernel⟩),
    (let p : Fin 2 := 0;
     let s : State := ((State.reset).modPort p fun x => { x with replay := [(1, .fault 2 0 0 0)] }).put
        (R.LAT_PSTAT_LTSTATE p) 5;
     ⟨s, p, by decide +kernel⟩),
    (let p : Fin 2 := 0;
     let s : State :=
        (((State.reset).modPort p fun x => { x with replay := [(1, .fault 2 0 0 0)] }).put (R.LAT_PSTAT_LTSTATE p) 5).modPort
        p fun x => { x with tries := 7 };
     ⟨s, p, by decide +kernel⟩)⟩

theorem witness_LinkCommands_2 :
    (∃ (s : State) (p : Fin 2), (s.port p).unacked = 0) ∧
    (∃ (s : State) (p : Fin 2), 0 < (s.port p).unacked) ∧
    (∃ (s : State) (p : Fin 2), (s.get (R.LAT_PSTAT_LTSTATE p) = 5 ∨ s.get (R.LAT_PSTAT_LTSTATE p) = 0)) ∧
    (∃ (s : State) (p : Fin 2), s.get (R.LAT_PSTAT_LTSTATE p) ≠ 5 ∧ s.get (R.LAT_PSTAT_LTSTATE p) ≠ 0) ∧
    (∃ (s : State), s.get (R.LAT_PSTAT_LTSTATE 1) ≠ 5) ∧
    (∃ (s : State), s.get (R.LAT_PSTAT_LTSTATE 1) = 5) ∧
    (∃ (s : State), s.clock.missed < 2) ∧
    (∃ (s : State), 2 ≤ s.clock.missed) ∧
    (∃ (l : List (Nat × LatMsg)) (n : Nat), (∀ e ∈ l, e.1 ≠ n)) ∧
    (∃ (s : State) (p : Fin 2) (m : List (Nat × LatMsg)) (b : LatMsg) (n : Nat), (s.port p).replay = (n, b) :: m) ∧
    (∃ (s : State) (h : FrameHdr) (q : State), q = (s.eventInst .latigo h.port 1).acked h.port h.ack ∧ s.get
      (R.LAT_PSTAT_LTSTATE h.port) = 5 ∧ frameGood h .ack = true) ∧
    (∃ (s : State) (h : FrameHdr) (q : State), q = (s.eventInst .latigo h.port 1).acked h.port h.ack ∧ s.get
      (R.LAT_PSTAT_LTSTATE h.port) = 5 ∧ frameGood h .nak = true) :=
  ⟨(let p : Fin 2 := 0;
     let s : State := (State.reset).modPort p fun x => { x with unacked := 0 };
     ⟨s, p, by decide +kernel⟩),
    (let p : Fin 2 := 0;
     let s : State := (State.reset).modPort p fun x => { x with unacked := (0 + 1) };
     ⟨s, p, by decide +kernel⟩),
    (let p : Fin 2 := 0;
     let s : State := (State.reset).put (R.LAT_PSTAT_LTSTATE p) 5;
     ⟨s, p, by decide +kernel⟩),
    (let p : Fin 2 := 0;
     let s : State := ((State.reset).put (R.LAT_PSTAT_LTSTATE p) 0).put (R.LAT_PSTAT_LTSTATE p) 1;
     ⟨s, p, by decide +kernel⟩),
    (let s : State := (State.reset).put (R.LAT_PSTAT_LTSTATE 1) 0;
     ⟨s, by decide +kernel⟩),
    (let s : State := (State.reset).put (R.LAT_PSTAT_LTSTATE 1) 5;
     ⟨s, by decide +kernel⟩),
    (let s : State := State.reset;
     ⟨s, by decide +kernel⟩),
    (let s : State := State.reset;
     let s : State := { s with clock.missed := 2 };
     ⟨s, by decide +kernel⟩),
    (let l : List (Nat × LatMsg) := [];
     let n : Nat := 0;
     ⟨l, n, by decide +kernel⟩),
    (let p : Fin 2 := 1;
     let m : List (Nat × LatMsg) := [];
     let b : LatMsg := .fault 2 0 0 0;
     let n : Nat := 7;
     let s : State := (State.reset).modPort 1 fun x => { x with replay := [(7, .fault 2 0 0 0)] };
     ⟨s, p, m, b, n, by decide +kernel⟩),
    (let h : FrameHdr := hdrOf .ack;
     let s : State := (State.reset).put (R.LAT_PSTAT_LTSTATE h.port) 5;
     let q : State := (s.eventInst .latigo h.port 1).acked h.port h.ack;
     ⟨s, h, q, rfl, by decide +kernel⟩),
    (let h : FrameHdr := hdrOf .nak;
     let s : State := (State.reset).put (R.LAT_PSTAT_LTSTATE h.port) 5;
     let q : State := (s.eventInst .latigo h.port 1).acked h.port h.ack;
     ⟨s, h, q, rfl, by decide +kernel⟩)⟩

theorem witness_LinkCommands_3 :
    (∃ (s : State) (h : FrameHdr) (counts : List Nat) (q : State), q = (s.eventInst .latigo h.port 1).acked h.port
      h.ack ∧ s.get (R.LAT_PSTAT_LTSTATE h.port) = 5 ∧ frameGood h (.credit counts) = true) ∧
    (∃ (s u : State) (e : Int), u = s.beaconError e ∧ s.clock.everLocked = true) ∧
    (∃ (s u : State) (e now : Int), u = s.beaconError e ∧ now = (s.time : Int) * 1000000000 + s.clock.frac - e *
      1000000 ∧ s.clock.everLocked = false) ∧
    (∃ (s u : State) (e : Int), u = s.beaconError e ∧ -1000 ≤ e ∧ e ≤ 1000 ∧ 3 ≤ s.clock.good) ∧
    (∃ (s u : State) (e : Int), u = s.beaconError e ∧ (e < -2000 ∨ 2000 < e) ∧ 1 ≤ s.clock.bad) ∧
    (∃ (s u : State) (e : Int) (a : _), u = s.beaconError e ∧ a ≠ R.LAT_TIME_ERR.addr ∧ a ≠
      R.LAT_TIME_STAT_LOCK.addr) :=
  ⟨(let counts : List Nat := [];
     let h : FrameHdr := hdrOf (.credit counts);
     let s : State := (State.reset).put (R.LAT_PSTAT_LTSTATE h.port) 5;
     let q : State := (s.eventInst .latigo h.port 1).acked h.port h.ack;
     ⟨s, h, counts, q, rfl, by decide +kernel⟩),
    (let e : Int := 0;
     let s : State := State.reset;
     let s : State := { s with clock.everLocked := true };
     let u : State := s.beaconError e;
     ⟨s, u, e, rfl, by decide +kernel⟩),
    (let e : Int := 0;
     let s : State := State.reset;
     let s : State := { s with clock.everLocked := false };
     let u : State := s.beaconError e;
     let now : Int := (s.time : Int) * 1000000000 + s.clock.frac - e * 1000000;
     ⟨s, u, e, now, rfl, rfl, by decide +kernel⟩),
    (let e : Int := 0;
     let s : State := State.reset;
     let s : State := { s with clock.good := 3 };
     let u : State := s.beaconError e;
     ⟨s, u, e, rfl, by decide +kernel⟩),
    (let e : Int := 2001;
     let s : State := State.reset;
     let s : State := { s with clock := { s.clock with bad := 1 } };
     let u : State := s.beaconError e;
     ⟨s, u, e, rfl, by decide +kernel⟩),
    (let e : Int := 0;
     let a := 0;
     let s : State := State.reset;
     let u : State := s.beaconError e;
     ⟨s, u, e, a, rfl, by decide +kernel⟩)⟩

theorem witness_FrameEffects_1 :
    (∃ (s : State) (h : FrameHdr) (it : Item) (q : State), q = s.taken h ∧ s.inOrder h (.item it) ∧ q.dstLocal
      it.tag.dst = true ∧ (q.port h.port).inbox = [] ∧ q.itemFits it = true) ∧
    (∃ (s : State) (h : FrameHdr) (it : Item) (q : State), q = s.taken h ∧ s.inOrder h (.item it) ∧ q.dstLocal
      it.tag.dst = true ∧ (q.port h.port).inbox = [] ∧ q.itemFits it = false) ∧
    (∃ (s : State) (h : FrameHdr) (it : Item) (q : State), q = s.taken h ∧ s.inOrder h (.item it) ∧ q.dstLocal
      it.tag.dst = false) ∧
    (∃ (s : State) (h : FrameHdr) (it : Item) (q : State) (g : Tag) (st : StreamSt), q = s.taken h ∧ st = q.stream
      g.stream ∧ g = it.tag) ∧
    (∃ (s : State) (h : FrameHdr) (k : Fin 4096) (seq : Nat) (q : State) (f : _), q = s.taken h ∧ s.inOrder h
      (.itemAcc k seq) ∧ f ∈ q.sched.flights ∧ f.is k seq = true ∧ f.phase = .sent ∧ q.dstLocal f.item.tag.dst =
      false) ∧
    (∃ (s : State) (h : FrameHdr) (k : Fin 4096) (seq : Nat) (q : State), q = s.taken h ∧ s.inOrder h
      (.itemAcc k seq) ∧
      (∀ f ∈ q.sched.flights, f.is k seq = true → f.phase ≠ .sent ∨ q.dstLocal f.item.tag.dst = true)) ∧
    (∃ (s : State) (h : FrameHdr) (off : Nat) (bytes : List Byte) (q : State), q = s.taken h ∧ s.inOrder h
      (.load off bytes)) ∧
    (∃ (s : State) (h : FrameHdr) (dl : Nat) (q p : State), q = s.taken h ∧ p = q.latSend 1 (.loadctl 1 0 0 dl) ∧
      s.inOrder h (.loadctl 1 0 0 dl) ∧ (q.isHead = true ∨ p.get R.LAT_LOAD_STAT_STATE ≠ 0)) ∧
    (∃ (s : State) (h : FrameHdr) (dl : Nat) (q p : State), q = s.taken h ∧ p = q.latSend 1 (.loadctl 1 0 0 dl) ∧
      s.inOrder h (.loadctl 1 0 0 dl) ∧ q.isHead = false ∧ p.get R.LAT_LOAD_STAT_STATE = 0) ∧
    (∃ (s : State) (h : FrameHdr) (pos : Fin 8) (q : State), q = s.taken h ∧ s.inOrder h (.loadctl 2 pos 0 0) ∧
      q.isHead = true) ∧
    (∃ (s : State) (h : FrameHdr) (pos : Fin 8) (q : State), q = s.taken h ∧ s.inOrder h (.loadctl 2 pos 0 0) ∧
      q.isHead = false) ∧
    (∃ (s : State) (h : FrameHdr) (pos : Fin 8) (code : Fin 16) (q : State), q = s.taken h ∧ s.inOrder h
      (.loadctl 3 pos code 0) ∧ q.isHead = true ∧
      (q.get R.LAT_LOAD_STAT_STATE = 0 ∨ 6 ≤ q.get R.LAT_LOAD_STAT_STATE)) :=
  ⟨(let it : Item := item0;
     let h : FrameHdr := hdrOf (.item it);
     let s : State := (State.reset).put (R.LAT_PSTAT_LTSTATE h.port) 5;
     let q : State := s.taken h;
     ⟨s, h, it, q, rfl, by decide +kernel⟩),
    (let seq : Nat := 0;
     let tag : Nat := 0;
     let h : FrameHdr := hdrOf (.item ({ item0 with tag := { tag0 with dst := 0x300, typ := 0x80, seq := 1 } }));
     let it : Item := { item0 with tag := { tag0 with dst := 0x300, typ := 0x80, seq := 1 } };
     let s : State := (State.reset).put (R.LAT_PSTAT_LTSTATE h.port) 5;
     let s : State :=
        { s with sched := { s.sched with flights := [{ item := { tag := { tag0 with len := 96 * 2 ^ 20 }, payload := [] }, phase := .held, isD := false }] } };
     let s : State := s.modStream 1 fun x => { x with valid := true, state := 1, dst := 0x300, exp := 1 };
     let q : State := s.taken h;
     ⟨s, h, it, q, rfl, by decide +kernel⟩),
    (let tag : Nat := 0;
     let h : FrameHdr := hdrOf (.item ({ item0 with tag := { tag0 with dst := 0x2000 } }));
     let it : Item := { item0 with tag := { tag0 with dst := 0x2000 } };
     let s : State := (State.reset).put (R.LAT_PSTAT_LTSTATE h.port) 5;
     let q : State := s.taken h;
     ⟨s, h, it, q, rfl, by decide +kernel⟩),
    (let h : FrameHdr := hdr0;
     let it : Item := item0;
     let g : Tag := it.tag;
     let s : State := State.reset;
     let q : State := s.taken h;
     let st : StreamSt := q.stream g.stream;
     ⟨s, h, it, q, g, st, rfl, rfl, by decide +kernel⟩),
    (let k : Fin 4096 := 1;
     let seq : Nat := 1;
     let tag : Nat := 0;
     let h : FrameHdr := hdrOf (.itemAcc k seq);
     let f := { item := { item0 with tag := { tag0 with dst := 0x2000 } }, phase := .sent, isD := false };
     let s : State := (State.reset).put (R.LAT_PSTAT_LTSTATE h.port) 5;
     let s : State := { s with sched := { s.sched with flights := [f] } };
     let q : State := s.taken h;
     ⟨s, h, k, seq, q, f, rfl, by decide +kernel⟩),
    (let k : Fin 4096 := 0;
     let seq : Nat := 0;
     let h : FrameHdr := hdrOf (.itemAcc k seq);
     let s : State := (State.reset).put (R.LAT_PSTAT_LTSTATE h.port) 5;
     let q : State := s.taken h;
     ⟨s, h, k, seq, q, rfl, by decide +kernel⟩),
    (let off : Nat := 0;
     let bytes : List Byte := [];
     let h : FrameHdr := hdrOf (.load off bytes);
     let s : State := (State.reset).put (R.LAT_PSTAT_LTSTATE h.port) 5;
     let q : State := s.taken h;
     ⟨s, h, off, bytes, q, rfl, by decide +kernel⟩),
    (let dl : Nat := 0;
     let h : FrameHdr := hdrOf (.loadctl 1 0 0 dl);
     let s : State := (State.reset).put (R.LAT_PSTAT_LTSTATE h.port) 5;
     let q : State := s.taken h;
     let p : State := q.latSend 1 (.loadctl 1 0 0 dl);
     ⟨s, h, dl, q, p, rfl, rfl, by decide +kernel⟩),
    (let dl : Nat := 0;
     let h : FrameHdr := hdrOf (.loadctl 1 0 0 dl);
     let s : State := ((State.reset).put (R.LAT_PSTAT_LTSTATE h.port) 5).put R.LAT_POS 1;
     let q : State := s.taken h;
     let p : State := q.latSend 1 (.loadctl 1 0 0 dl);
     ⟨s, h, dl, q, p, rfl, rfl, by decide +kernel⟩),
    (let pos : Fin 8 := 0;
     let h : FrameHdr := hdrOf (.loadctl 2 pos 0 0);
     let s : State := (State.reset).put (R.LAT_PSTAT_LTSTATE h.port) 5;
     let q : State := s.taken h;
     ⟨s, h, pos, q, rfl, by decide +kernel⟩),
    (let pos : Fin 8 := 0;
     let h : FrameHdr := hdrOf (.loadctl 2 pos 0 0);
     let s : State := ((State.reset).put (R.LAT_PSTAT_LTSTATE h.port) 5).put R.LAT_POS 1;
     let q : State := s.taken h;
     ⟨s, h, pos, q, rfl, by decide +kernel⟩),
    (let pos : Fin 8 := 0;
     let code : Fin 16 := 0;
     let h : FrameHdr := hdrOf (.loadctl 3 pos code 0);
     let s : State := (State.reset).put (R.LAT_PSTAT_LTSTATE h.port) 5;
     let q : State := s.taken h;
     ⟨s, h, pos, code, q, rfl, by decide +kernel⟩)⟩

theorem witness_FrameEffects_2 :
    (∃ (s : State) (h : FrameHdr) (pos : Fin 8) (code : Fin 16) (q : State), q = s.taken h ∧ s.inOrder h
      (.loadctl 3 pos code 0) ∧ q.isHead = true ∧ 1 ≤ q.get R.LAT_LOAD_STAT_STATE ∧ q.get R.LAT_LOAD_STAT_STATE ≤ 5) ∧
    (∃ (s : State) (h : FrameHdr) (pos : Fin 8) (code : Fin 16) (q : State), q = s.taken h ∧ s.inOrder h
      (.loadctl 3 pos code 0) ∧ q.isHead = false) ∧
    (∃ (s : State) (h : FrameHdr) (pos : Fin 8) (q : State), q = s.taken h ∧ s.inOrder h (.loadctl 6 pos 0 0) ∧
      q.isHead = true) ∧
    (∃ (s : State) (h : FrameHdr) (pos : Fin 8) (q : State), q = s.taken h ∧ s.inOrder h (.loadctl 6 pos 0 0) ∧
      q.isHead = false) ∧
    (∃ (s : State) (h : FrameHdr) (q : State), q = s.taken h ∧ s.inOrder h (.loadctl 4 0 0 0) ∧ q.get
      R.LAT_LOAD_STAT_STATE = 3) ∧
    (∃ (s : State) (h : FrameHdr) (q : State), q = s.taken h ∧ s.inOrder h (.loadctl 4 0 0 0) ∧ q.get
      R.LAT_LOAD_STAT_STATE ≠ 3) ∧
    (∃ (s : State) (h : FrameHdr) (pos : Fin 8) (code : Fin 16) (q : State) (p : _), q = s.taken h ∧ p = q.latSend 1
      (.loadctl 5 pos code 0) ∧ s.inOrder h (.loadctl 5 pos code 0) ∧ 5 < p.get R.LAT_LOAD_STAT_STATE) ∧
    (∃ (s : State) (h : FrameHdr) (pos : Fin 8) (code : Fin 16) (q : State) (p : _), q = s.taken h ∧ p = q.latSend 1
      (.loadctl 5 pos code 0) ∧ s.inOrder h (.loadctl 5 pos code 0) ∧ p.get R.LAT_LOAD_STAT_STATE ≤ 5) ∧
    (∃ (s : State) (h : FrameHdr) (q : State) (p : _), q = s.taken h ∧ p = q.latSend 1 (.loadctl 7 0 0 0) ∧ s.inOrder
      h (.loadctl 7 0 0 0) ∧ p.get R.LAT_LOAD_STAT_STATE = 6) ∧
    (∃ (s : State) (h : FrameHdr) (q : State) (p : _), q = s.taken h ∧ p = q.latSend 1 (.loadctl 7 0 0 0) ∧ s.inOrder
      h (.loadctl 7 0 0 0) ∧ p.get R.LAT_LOAD_STAT_STATE ≠ 6) ∧
    (∃ (s : State) (h : FrameHdr) (t1 d : Int) (z : Fin 4) (q : State) (p : _), q = s.taken h ∧ p = q.latSend h.port
      (.beaconReply t1 (q.stamp z) (q.stamp z)) ∧ s.inOrder h (.beacon t1 d) ∧ h.port.val = 1) ∧
    (∃ (s : State) (h : FrameHdr) (t1 d : Int) (z : Fin 4) (q : State) (p : _), q = s.taken h ∧ p = q.latSend h.port
      (.beaconReply t1 (q.stamp z) (q.stamp z)) ∧ s.inOrder h (.beacon t1 d) ∧ h.port.val = 0 ∧ h.replayed = true) :=
  ⟨(let pos : Fin 8 := 0;
     let code : Fin 16 := 0;
     let h : FrameHdr := hdrOf (.loadctl 3 pos code 0);
     let s : State := ((State.reset).put (R.LAT_PSTAT_LTSTATE h.port) 5).put R.LAT_LOAD_STAT_STATE 4;
     let q : State := s.taken h;
     ⟨s, h, pos, code, q, rfl, by decide +kernel⟩),
    (let pos : Fin 8 := 0;
     let code : Fin 16 := 0;
     let h : FrameHdr := hdrOf (.loadctl 3 pos code 0);
     let s : State := ((State.reset).put (R.LAT_PSTAT_LTSTATE h.port) 5).put R.LAT_POS 1;
     let q : State := s.taken h;
     ⟨s, h, pos, code, q, rfl, by decide +kernel⟩),
    (let pos : Fin 8 := 0;
     let h : FrameHdr := hdrOf (.loadctl 6 pos 0 0);
     let s : State := (State.reset).put (R.LAT_PSTAT_LTSTATE h.port) 5;
     let q : State := s.taken h;
     ⟨s, h, pos, q, rfl, by decide +kernel⟩),
    (let pos : Fin 8 := 0;
     let h : FrameHdr := hdrOf (.loadctl 6 pos 0 0);
     let s : State := ((State.reset).put (R.LAT_PSTAT_LTSTATE h.port) 5).put R.LAT_POS 1;
     let q : State := s.taken h;
     ⟨s, h, pos, q, rfl, by decide +kernel⟩),
    (let h : FrameHdr := hdrOf (.loadctl 4 0 0 0);
     let s : State := ((State.reset).put (R.LAT_PSTAT_LTSTATE h.port) 5).put R.LAT_LOAD_STAT_STATE 3;
     let q : State := s.taken h;
     ⟨s, h, q, rfl, by decide +kernel⟩),
    (let h : FrameHdr := hdrOf (.loadctl 4 0 0 0);
     let s : State := (State.reset).put (R.LAT_PSTAT_LTSTATE h.port) 5;
     let q : State := s.taken h;
     ⟨s, h, q, rfl, by decide +kernel⟩),
    (let pos : Fin 8 := 0;
     let code : Fin 16 := 0;
     let h : FrameHdr := hdrOf (.loadctl 5 pos code 0);
     let s : State := ((State.reset).put (R.LAT_PSTAT_LTSTATE h.port) 5).put R.LAT_LOAD_STAT_STATE 6;
     let q : State := s.taken h;
     let p := q.latSend 1 (.loadctl 5 pos code 0);
     ⟨s, h, pos, code, q, p, rfl, rfl, by decide +kernel⟩),
    (let pos : Fin 8 := 0;
     let code : Fin 16 := 0;
     let h : FrameHdr := hdrOf (.loadctl 5 pos code 0);
     let s : State := (State.reset).put (R.LAT_PSTAT_LTSTATE h.port) 5;
     let q : State := s.taken h;
     let p := q.latSend 1 (.loadctl 5 pos code 0);
     ⟨s, h, pos, code, q, p, rfl, rfl, by decide +kernel⟩),
    (let h : FrameHdr := hdrOf (.loadctl 7 0 0 0);
     let s : State := ((State.reset).put (R.LAT_PSTAT_LTSTATE h.port) 5).put R.LAT_LOAD_STAT_STATE 6;
     let q : State := s.taken h;
     let p := q.latSend 1 (.loadctl 7 0 0 0);
     ⟨s, h, q, p, rfl, rfl, by decide +kernel⟩),
    (let h : FrameHdr := hdrOf (.loadctl 7 0 0 0);
     let s : State := (State.reset).put (R.LAT_PSTAT_LTSTATE h.port) 5;
     let q : State := s.taken h;
     let p := q.latSend 1 (.loadctl 7 0 0 0);
     ⟨s, h, q, p, rfl, rfl, by decide +kernel⟩),
    (let t1 : Int := 0;
     let d : Int := 0;
     let z : Fin 4 := 0;
     let h : FrameHdr := hdrOf (.beacon t1 d) 1;
     let s : State := (State.reset).put (R.LAT_PSTAT_LTSTATE h.port) 5;
     let q : State := s.taken h;
     let p := q.latSend h.port (.beaconReply t1 (q.stamp z) (q.stamp z));
     ⟨s, h, t1, d, z, q, p, rfl, rfl, by decide +kernel⟩),
    (let t1 : Int := 0;
     let d : Int := 0;
     let z : Fin 4 := 0;
     let h : FrameHdr :=
        ({ (({ (hdrOf (.beacon t1 d) : FrameHdr) with port.val := 0 } : FrameHdr) : FrameHdr) with replayed := true } : FrameHdr);
     let s : State := (State.reset).put (R.LAT_PSTAT_LTSTATE h.port) 5;
     let q : State := s.taken h;
     let p := q.latSend h.port (.beaconReply t1 (q.stamp z) (q.stamp z));
     ⟨s, h, t1, d, z, q, p, rfl, rfl, by decide +kernel⟩)⟩

theorem witness_FrameEffects_3 :
    (∃ (s : State) (h : FrameHdr) (t1 d : Int) (z : Fin 4) (q : State) (p : _), q = s.taken h ∧ p = q.latSend h.port
      (.beaconReply t1 (q.stamp z) (q.stamp z)) ∧ s.inOrder h (.beacon t1 d) ∧ h.port.val = 0 ∧ h.replayed = false) ∧
    (∃ (s : State) (h : FrameHdr) (t1 t2 t3 : Int) (q : State), q = s.taken h ∧ s.inOrder h (.beaconReply t1 t2 t3)) ∧
    (∃ (s : State) (h : FrameHdr) (off tag : Nat) (q : State), q = s.taken h ∧ s.inOrder h (.reg 1 tag off 0) ∧ off /
      0x400000 = q.pos) ∧
    (∃ (s : State) (h : FrameHdr) (off tag : Nat) (q : State), q = s.taken h ∧ s.inOrder h (.reg 1 tag off 0) ∧ off /
      0x400000 ≠ q.pos) ∧
    (∃ (s : State) (h : FrameHdr) (off tag : Nat) (v : Word) (q : State), q = s.taken h ∧ s.inOrder h
      (.reg 2 tag off v.toNat) ∧ off / 0x400000 = q.pos) ∧
    (∃ (s : State) (h : FrameHdr) (off tag : Nat) (v : Word) (q : State), q = s.taken h ∧ s.inOrder h
      (.reg 2 tag off v.toNat) ∧ off / 0x400000 ≠ q.pos) ∧
    (∃ (s : State) (h : FrameHdr) (tag : Nat) (v : Word) (q : State), q = s.taken h ∧ s.inOrder h
      (.reg 3 tag 0 v.toNat) ∧ q.host.regTags.any (fun e => e.1 = tag) = true) ∧
    (∃ (s : State) (h : FrameHdr) (tag : Nat) (v : Word) (q : State), q = s.taken h ∧ s.inOrder h
      (.reg 3 tag 0 v.toNat) ∧ q.host.regTags.any (fun e => e.1 = tag) = false ∧ q.isHead = true) ∧
    (∃ (s : State) (h : FrameHdr) (tag : Nat) (v : Word) (q : State), q = s.taken h ∧ s.inOrder h
      (.reg 3 tag 0 v.toNat) ∧ q.host.regTags.any (fun e => e.1 = tag) = false ∧ q.isHead = false) ∧
    (∃ (s : State) (h : FrameHdr) (pos : Fin 8) (cls cause source : Nat) (q : State) (p : _) (info : _), q = s.taken
      h ∧ p = q.latSend (1 - h.port) (.fault cls pos cause source) ∧ info = pos.val + cls % 256 * 2 ^ 8 + cause %
      65536 * 2 ^ 16 ∧ s.inOrder h (.fault cls pos cause source) ∧ p.bit R.LAT_CFG_FAULT_JOIN = true ∧ p.get
      R.LAT_LOAD_STAT_STATE ≠ 6) ∧
    (∃ (s : State) (h : FrameHdr) (pos : Fin 8) (cls cause source : Nat) (q : State) (p : _) (info : _), q = s.taken
      h ∧ p = q.latSend (1 - h.port) (.fault cls pos cause source) ∧ info = pos.val + cls % 256 * 2 ^ 8 + cause %
      65536 * 2 ^ 16 ∧ s.inOrder h (.fault cls pos cause source) ∧
      (p.bit R.LAT_CFG_FAULT_JOIN = false ∨ p.get R.LAT_LOAD_STAT_STATE = 6)) :=
  ⟨(let t1 : Int := 0;
     let d : Int := 0;
     let z : Fin 4 := 0;
     let h : FrameHdr :=
        ({ (({ (hdrOf (.beacon t1 d) : FrameHdr) with port.val := 0 } : FrameHdr) : FrameHdr) with replayed := false } : FrameHdr);
     let s : State := (State.reset).put (R.LAT_PSTAT_LTSTATE h.port) 5;
     let q : State := s.taken h;
     let p := q.latSend h.port (.beaconReply t1 (q.stamp z) (q.stamp z));
     ⟨s, h, t1, d, z, q, p, rfl, rfl, by decide +kernel⟩),
    (let t1 : Int := 0;
     let t2 : Int := 0;
     let t3 : Int := 0;
     let h : FrameHdr := hdrOf (.beaconReply t1 t2 t3);
     let s : State := (State.reset).put (R.LAT_PSTAT_LTSTATE h.port) 5;
     let q : State := s.taken h;
     ⟨s, h, t1, t2, t3, q, rfl, by decide +kernel⟩),
    (let off : Nat := 0;
     let tag : Nat := 0;
     let h : FrameHdr := hdrOf (.reg 1 tag off 0);
     let s : State := (State.reset).put (R.LAT_PSTAT_LTSTATE h.port) 5;
     let q : State := s.taken h;
     ⟨s, h, off, tag, q, rfl, by decide +kernel⟩),
    (let off : Nat := 0x400000;
     let tag : Nat := 0;
     let h : FrameHdr := hdrOf (.reg 1 tag off 0);
     let s : State := (State.reset).put (R.LAT_PSTAT_LTSTATE h.port) 5;
     let q : State := s.taken h;
     ⟨s, h, off, tag, q, rfl, by decide +kernel⟩),
    (let off : Nat := 0;
     let tag : Nat := 0;
     let v : Word := 0;
     let h : FrameHdr := hdrOf (.reg 2 tag off v.toNat);
     let s : State := (State.reset).put (R.LAT_PSTAT_LTSTATE h.port) 5;
     let q : State := s.taken h;
     ⟨s, h, off, tag, v, q, rfl, by decide +kernel⟩),
    (let off : Nat := 0x400000;
     let tag : Nat := 0;
     let v : Word := 0;
     let h : FrameHdr := hdrOf (.reg 2 tag off v.toNat);
     let s : State := (State.reset).put (R.LAT_PSTAT_LTSTATE h.port) 5;
     let q : State := s.taken h;
     ⟨s, h, off, tag, v, q, rfl, by decide +kernel⟩),
    (let tag : Nat := 0;
     let v : Word := 0;
     let h : FrameHdr := hdrOf (.reg 3 tag 0 v.toNat);
     let s : State := (State.reset).put (R.LAT_PSTAT_LTSTATE h.port) 5;
     let s : State := { s with host := { s.host with regTags := [(0, 0)] } };
     let q : State := s.taken h;
     ⟨s, h, tag, v, q, rfl, by decide +kernel⟩),
    (let tag : Nat := 0;
     let v : Word := 0;
     let h : FrameHdr := hdrOf (.reg 3 tag 0 v.toNat);
     let s : State := (State.reset).put (R.LAT_PSTAT_LTSTATE h.port) 5;
     let q : State := s.taken h;
     ⟨s, h, tag, v, q, rfl, by decide +kernel⟩),
    (let tag : Nat := 0;
     let v : Word := 0;
     let h : FrameHdr := hdrOf (.reg 3 tag 0 v.toNat);
     let s : State := ((State.reset).put (R.LAT_PSTAT_LTSTATE h.port) 5).put R.LAT_POS 1;
     let q : State := s.taken h;
     ⟨s, h, tag, v, q, rfl, by decide +kernel⟩),
    (let pos : Fin 8 := 0;
     let cls : Nat := 0;
     let cause : Nat := 0;
     let source : Nat := 0;
     let h : FrameHdr := hdrOf (.fault cls pos cause source);
     let s : State := (State.reset).put (R.LAT_PSTAT_LTSTATE h.port) 5;
     let q : State := s.taken h;
     let p := q.latSend (1 - h.port) (.fault cls pos cause source);
     let info := pos.val + cls % 256 * 2 ^ 8 + cause % 65536 * 2 ^ 16;
     ⟨s, h, pos, cls, cause, source, q, p, info, rfl, rfl, rfl, by decide +kernel⟩),
    (let pos : Fin 8 := 0;
     let cls : Nat := 0;
     let cause : Nat := 0;
     let source : Nat := 0;
     let h : FrameHdr := hdrOf (.fault cls pos cause source);
     let s : State := ((State.reset).put (R.LAT_PSTAT_LTSTATE h.port) 5).put R.LAT_LOAD_STAT_STATE 6;
     let q : State := s.taken h;
     let p := q.latSend (1 - h.port) (.fault cls pos cause source);
     let info := pos.val + cls % 256 * 2 ^ 8 + cause % 65536 * 2 ^ 16;
     ⟨s, h, pos, cls, cause, source, q, p, info, rfl, rfl, rfl, by decide +kernel⟩)⟩

theorem witness_LoadCommands_1 :
    (∃ (s : State) (st : Nat), st = s.get R.LAT_LOAD_STAT_STATE ∧ (s.configActs = false ∨ s.pos ≠ 0 ∨ st ≠ 0)) ∧
    (∃ (s : State) (st : Nat), st = s.get R.LAT_LOAD_STAT_STATE ∧ s.configActs = true ∧ s.pos = 0 ∧ st = 0) ∧
    (∃ (s : State) (st : Nat), st = s.get R.LAT_LOAD_STAT_STATE ∧ (st ≠ 1 ∨ s.load.img = none)) ∧
    (∃ (s : State) (img : PersStream) (sig : Bool) (chain st : Nat) (p : _), st = s.get R.LAT_LOAD_STAT_STATE ∧ p =
      s.put R.LAT_POS_CHAIN_LEN (s.chainCount chain) ∧ st = 1 ∧ s.load.img = some img ∧ p.headerCode img sig ≠ 0) ∧
    (∃ (s : State) (img : PersStream) (sig : Bool) (chain st : Nat) (p : _), st = s.get R.LAT_LOAD_STAT_STATE ∧ p =
      s.put R.LAT_POS_CHAIN_LEN (s.chainCount chain) ∧ st = 1 ∧ s.load.img = some img ∧ p.headerCode img sig = 0) ∧
    (∃ (s : State) (img : PersStream) (st : Nat) (b : Nat → Nat → Nat) (p : _), st = s.get R.LAT_LOAD_STAT_STATE ∧ b
      = (fun off n => fromLe (memRead img.bytes n off)) ∧ p < 8) ∧
    (∃ (s : State) (img : PersStream) (st : Nat), st = s.get R.LAT_LOAD_STAT_STATE ∧
      (img.ndev = 0 ∨ 8 < img.ndev ∨ 2 ≤ img.bind ∨ 0x20000000 < img.totalLen ∨ img.trailerOff % 64 ≠ 0 ∨ img.trailerLen % 64 ≠ 0 ∨ img.totalLen ≠ img.trailerOff + img.trailerLen ∨ 4 ≤ img.ownerSlot ∨ (∃ j ∈ img.entries, img.entOff j % 64 ≠ 0 ∨ img.entLen j = 0 ∨ img.trailerOff < img.entOff j + img.entLen j ∨ img.entTyp j = 0 ∨ 7 < img.entTyp j))) ∧
    (∃ (s : State) (img : PersStream) (st : Nat), st = s.get R.LAT_LOAD_STAT_STATE ∧ img.idOk = false) ∧
    (∃ (s : State) (img : PersStream) (st : Nat), st = s.get R.LAT_LOAD_STAT_STATE ∧ img.idOk = true ∧
      img.stepMask.getLsbD (s.get R.GID_STEP_STEPPING) = false) ∧
    (∃ (s : State) (img : PersStream) (st : Nat), st = s.get R.LAT_LOAD_STAT_STATE ∧ img.idOk = true ∧
      img.stepMask.getLsbD (s.get R.GID_STEP_STEPPING) = true ∧ (img.layoutBad = true ∨ img.reload = true)) ∧
    (∃ (s : State) (img : PersStream) (st : Nat), st = s.get R.LAT_LOAD_STAT_STATE ∧ img.idOk = true ∧
      img.stepMask.getLsbD (s.get R.GID_STEP_STEPPING) = true ∧ img.layoutBad = false ∧ img.reload = false ∧ img.ndev
      ≠ s.get R.LAT_POS_CHAIN_LEN) ∧
    (∃ (s : State) (img : PersStream) (st : Nat), st = s.get R.LAT_LOAD_STAT_STATE ∧ img.idOk = true ∧
      img.stepMask.getLsbD (s.get R.GID_STEP_STEPPING) = true ∧ img.layoutBad = false ∧ img.reload = false ∧ img.ndev
      = s.get R.LAT_POS_CHAIN_LEN ∧ img.bind = 1 ∧ img.serials.getD s.pos 0 ≠ s.serialNo) :=
  ⟨(let s : State := State.reset;
     let st : Nat := s.get R.LAT_LOAD_STAT_STATE;
     ⟨s, st, rfl, by decide +kernel⟩),
    (let s : State := State.reset;
     let s : State := { s with pwr := { s.pwr with phase := 3 } };
     let s : State := { s with host := { s.host with link := 1 } };
     let s : State := (s.put R.LAT_POS 0).put R.LAT_LOAD_STAT_STATE 0;
     let st : Nat := s.get R.LAT_LOAD_STAT_STATE;
     ⟨s, st, rfl, by decide +kernel⟩),
    (let s : State := (State.reset).put R.LAT_LOAD_STAT_STATE 0;
     let st : Nat := s.get R.LAT_LOAD_STAT_STATE;
     ⟨s, st, rfl, by decide +kernel⟩),
    (let img : PersStream := pers0;
     let sig : Bool := true;
     let chain : Nat := 0;
     let s : State := (State.reset).put R.LAT_LOAD_STAT_STATE 1;
     let s : State := { s with load.img := some img };
     let st : Nat := s.get R.LAT_LOAD_STAT_STATE;
     let p := s.put R.LAT_POS_CHAIN_LEN (s.chainCount chain);
     ⟨s, img, sig, chain, st, p, rfl, rfl, by decide +kernel⟩),
    (let img : PersStream := pers0;
     let sig : Bool := true;
     let chain : Nat := 1;
     let s : State := (State.reset).put R.LAT_LOAD_STAT_STATE 1;
     let s : State := { s with load := { s.load with img := some img } };
     let s : State := s.putIdx R.SEC_STAT_OWNERS 0 true;
     let st : Nat := s.get R.LAT_LOAD_STAT_STATE;
     let p := s.put R.LAT_POS_CHAIN_LEN (s.chainCount chain);
     ⟨s, img, sig, chain, st, p, rfl, rfl, by decide +kernel⟩),
    (let img : PersStream := pers0;
     let p := (0 : Nat);
     let b : Nat → Nat → Nat := fun off n => fromLe (memRead img.bytes n off);
     let s : State := State.reset;
     let st : Nat := s.get R.LAT_LOAD_STAT_STATE;
     ⟨s, img, st, b, p, rfl, rfl, by decide⟩),
    (let img : PersStream := persOf (streamHdr0 ++ [(12, 1, 0)]);
     let s : State := State.reset;
     let st : Nat := s.get R.LAT_LOAD_STAT_STATE;
     ⟨s, img, st, rfl, by decide +kernel⟩),
    (let img : PersStream := persOf [];
     let s : State := State.reset;
     let st : Nat := s.get R.LAT_LOAD_STAT_STATE;
     ⟨s, img, st, rfl, by decide +kernel⟩),
    (let img : PersStream := persOf (streamHdr0 ++ [(10, 2, 0)]);
     let s : State := State.reset;
     let st : Nat := s.get R.LAT_LOAD_STAT_STATE;
     ⟨s, img, st, rfl, by decide +kernel⟩),
    (let img : PersStream := persOf (streamHdr0 ++ [(12, 1, 9)]);
     let s : State := State.reset;
     let st : Nat := s.get R.LAT_LOAD_STAT_STATE;
     ⟨s, img, st, rfl, by decide +kernel⟩),
    (let img : PersStream := pers0;
     let s : State := State.reset;
     let st : Nat := s.get R.LAT_LOAD_STAT_STATE;
     ⟨s, img, st, rfl, by decide +kernel⟩),
    (let img : PersStream := persOf (streamHdr0 ++ [(13, 1, 1), (128, 16, 5)]);
     let s : State := (State.reset).put R.LAT_POS_CHAIN_LEN 1;
     let st : Nat := s.get R.LAT_LOAD_STAT_STATE;
     ⟨s, img, st, rfl, by decide +kernel⟩)⟩

theorem witness_LoadCommands_2 :
    (∃ (s : State) (img : PersStream) (sig : Bool) (st : Nat), st = s.get R.LAT_LOAD_STAT_STATE ∧ img.idOk = true ∧
      img.stepMask.getLsbD (s.get R.GID_STEP_STEPPING) = true ∧ img.layoutBad = false ∧ img.reload = false ∧ img.ndev
      = s.get R.LAT_POS_CHAIN_LEN ∧ (img.bind ≠ 1 ∨ img.serials.getD s.pos 0 = s.serialNo) ∧
      (sig = false ∨ s.ownerSlot img.ownerSlot = false)) ∧
    (∃ (s : State) (img : PersStream) (sig : Bool) (st : Nat), st = s.get R.LAT_LOAD_STAT_STATE ∧ img.idOk = true ∧
      img.stepMask.getLsbD (s.get R.GID_STEP_STEPPING) = true ∧ img.layoutBad = false ∧ img.reload = false ∧ img.ndev
      = s.get R.LAT_POS_CHAIN_LEN ∧ (img.bind ≠ 1 ∨ img.serials.getD s.pos 0 = s.serialNo) ∧ sig = true ∧ s.ownerSlot
      img.ownerSlot = true) ∧
    (∃ (s : State) (st : Nat), st = s.get R.LAT_LOAD_STAT_STATE ∧ (st ≠ 2 ∨ s.load.img = none)) ∧
    (∃ (s : State) (img : PersStream) (st : Nat), st = s.get R.LAT_LOAD_STAT_STATE ∧ st = 2 ∧ s.load.img = some img ∧
      s.loadShort img = true) ∧
    (∃ (s : State) (img : PersStream) (st : Nat) (p : _), st = s.get R.LAT_LOAD_STAT_STATE ∧ p =
      (s.latSend 0 (.loadctl 2 s.pos 0 0)).setLoad 3 ∧ st = 2 ∧ s.load.img = some img ∧
      (∀ x ∈ s.ownSections img, x.hashOk = true ∧ sectionOk x = true) ∧ s.pos ≠ 0 ∧ s.loadShort img = false) ∧
    (∃ (s : State) (img : PersStream) (st : Nat) (p : _), st = s.get R.LAT_LOAD_STAT_STATE ∧ p =
      ((loadFrames img).foldl (fun s m => s.latSend 1 m) s).setLoad 3 ∧ st = 2 ∧ s.load.img = some img ∧
      (∀ x ∈ s.ownSections img, x.hashOk = true ∧ sectionOk x = true) ∧ s.pos = 0 ∧ s.loadShort img = false) ∧
    (∃ (s : State) (st : Nat), st = s.get R.LAT_LOAD_STAT_STATE ∧ (s.load.deadline = none ∨ 4 ≤ st)) ∧
    (∃ (s : State) (st : Nat), st = s.get R.LAT_LOAD_STAT_STATE ∧ s.load.deadline ≠ none ∧ st ≤ 3) ∧
    (∃ (s : State) (img : PersStream) (st : Nat) (i : _), st = s.get R.LAT_LOAD_STAT_STATE ∧ i <
      (loadFrames img).length) ∧
    (∃ (s : State) (st : Nat), st = s.get R.LAT_LOAD_STAT_STATE ∧ (s.configActs = false ∨ s.pos ≠ 0)) ∧
    (∃ (s : State) (st : Nat), st = s.get R.LAT_LOAD_STAT_STATE ∧ s.configActs = true ∧ s.pos = 0 ∧ st ≠ 6) ∧
    (∃ (s : State) (st : Nat), st = s.get R.LAT_LOAD_STAT_STATE ∧ s.configActs = true ∧ s.pos = 0 ∧ st = 6) :=
  ⟨(let img : PersStream := pers0;
     let sig : Bool := false;
     let s : State := (State.reset).put R.LAT_POS_CHAIN_LEN 1;
     let st : Nat := s.get R.LAT_LOAD_STAT_STATE;
     ⟨s, img, sig, st, rfl, by decide +kernel⟩),
    (let img : PersStream := pers0;
     let sig : Bool := true;
     let s : State := ((State.reset).put R.LAT_POS_CHAIN_LEN 1).putIdx R.SEC_STAT_OWNERS 0 true;
     let st : Nat := s.get R.LAT_LOAD_STAT_STATE;
     ⟨s, img, sig, st, rfl, by decide +kernel⟩),
    (let s : State := (State.reset).put R.LAT_LOAD_STAT_STATE 0;
     let st : Nat := s.get R.LAT_LOAD_STAT_STATE;
     ⟨s, st, rfl, by decide +kernel⟩),
    (let img : PersStream := pers0;
     let s : State := (State.reset).put R.LAT_LOAD_STAT_STATE 2;
     let s : State := { s with load.img := some img };
     let st : Nat := s.get R.LAT_LOAD_STAT_STATE;
     ⟨s, img, st, rfl, by decide +kernel⟩),
    (let img : PersStream := { pers0 with len := 5184 };
     let s : State := ((State.reset).put R.LAT_LOAD_STAT_STATE 2).put R.LAT_POS 1;
     let s : State := { s with load := { s.load with img := some img } };
     let st : Nat := s.get R.LAT_LOAD_STAT_STATE;
     let p := (s.latSend 0 (.loadctl 2 s.pos 0 0)).setLoad 3;
     ⟨s, img, st, p, rfl, rfl, by decide +kernel⟩),
    (let img : PersStream := { pers0 with len := 5184 };
     let s : State := (State.reset).put R.LAT_LOAD_STAT_STATE 2;
     let s : State := { s with load := { s.load with img := some img, len := 5184 } };
     let st : Nat := s.get R.LAT_LOAD_STAT_STATE;
     let p := ((loadFrames img).foldl (fun s m => s.latSend 1 m) s).setLoad 3;
     ⟨s, img, st, p, rfl, rfl, by decide +kernel⟩),
    (let s : State := State.reset;
     let s : State := { s with load.deadline := none };
     let st : Nat := s.get R.LAT_LOAD_STAT_STATE;
     ⟨s, st, rfl, by decide +kernel⟩),
    (let s : State := State.reset;
     let s : State := { s with load.deadline := some 0 };
     let st : Nat := s.get R.LAT_LOAD_STAT_STATE;
     ⟨s, st, rfl, by decide +kernel⟩),
    (let img : PersStream := persOf streamHdr0;
     let i := 0;
     let s : State := State.reset;
     let st : Nat := s.get R.LAT_LOAD_STAT_STATE;
     ⟨s, img, st, i, rfl, by decide +kernel⟩),
    (let s : State := State.reset;
     let st : Nat := s.get R.LAT_LOAD_STAT_STATE;
     ⟨s, st, rfl, by decide +kernel⟩),
    (let s : State := State.reset;
     let s : State := { s with pwr := { s.pwr with phase := 3 } };
     let s : State := { s with host := { s.host with link := 1 } };
     let s : State := (s.put R.LAT_POS 0).put R.LAT_LOAD_STAT_STATE 0;
     let st : Nat := s.get R.LAT_LOAD_STAT_STATE;
     ⟨s, st, rfl, by decide +kernel⟩),
    (let s : State := State.reset;
     let s : State := { s with pwr := { s.pwr with phase := 3 } };
     let s : State := { s with host := { s.host with link := 1 } };
     let s : State := (s.put R.LAT_POS 0).put R.LAT_LOAD_STAT_STATE 6;
     let st : Nat := s.get R.LAT_LOAD_STAT_STATE;
     ⟨s, st, rfl, by decide +kernel⟩)⟩

theorem witness_LoadCommands_3 :
    (∃ (s : State) (st : Nat), st = s.get R.LAT_LOAD_STAT_STATE ∧
      (s.load.img = none ∨ st ≠ 4 ∨ s.load.staged ≠ none)) ∧
    (∃ (s : State) (img : PersStream) (st : Nat), st = s.get R.LAT_LOAD_STAT_STATE ∧ s.load.img = some img ∧ st = 4 ∧
      s.load.stopped = true ∧ s.load.staged = none) ∧
    (∃ (s : State) (img : PersStream) (st : Nat), st = s.get R.LAT_LOAD_STAT_STATE ∧ s.load.img = some img ∧ st = 4 ∧
      s.load.stopped = false ∧ s.load.staged = none) ∧
    (∃ (s : State) (st : Nat), st = s.get R.LAT_LOAD_STAT_STATE ∧
      (s.load.staged = none ∨ st ≠ 4 ∨ s.load.stopped = true)) ∧
    (∃ (s : State) (img : PersStream) (st : Nat), st = s.get R.LAT_LOAD_STAT_STATE ∧ s.load.staged = some img ∧ st =
      4 ∧ s.load.stopped = false) :=
  ⟨(let s : State := State.reset;
     let s : State := { s with load.img := none };
     let st : Nat := s.get R.LAT_LOAD_STAT_STATE;
     ⟨s, st, rfl, by decide +kernel⟩),
    (let img : PersStream := pers0;
     let s : State := State.reset;
     let s : State := { s with load.img := some img };
     let s : State := s.put R.LAT_LOAD_STAT_STATE 4;
     let s : State := { s with load.stopped := true };
     let s : State := { s with load.staged := none };
     let st : Nat := s.get R.LAT_LOAD_STAT_STATE;
     ⟨s, img, st, rfl, by decide +kernel⟩),
    (let img : PersStream := pers0;
     let s : State := State.reset;
     let s : State := { s with load.img := some img };
     let s : State := s.put R.LAT_LOAD_STAT_STATE 4;
     let s : State := { s with load.stopped := false };
     let s : State := { s with load.staged := none };
     let st : Nat := s.get R.LAT_LOAD_STAT_STATE;
     ⟨s, img, st, rfl, by decide +kernel⟩),
    (let s : State := State.reset;
     let s : State := { s with load.staged := none };
     let st : Nat := s.get R.LAT_LOAD_STAT_STATE;
     ⟨s, st, rfl, by decide +kernel⟩),
    (let img : PersStream := pers0;
     let s : State := State.reset;
     let s : State := { s with load.staged := some img };
     let s : State := s.put R.LAT_LOAD_STAT_STATE 4;
     let s : State := { s with load.stopped := false };
     let st : Nat := s.get R.LAT_LOAD_STAT_STATE;
     ⟨s, img, st, rfl, by decide +kernel⟩)⟩

theorem witness_BusAccesses_1 :
    (∃ (a : Nat), a < 0x400000 ∧ (a % 4 ≠ 0 ∨ pageOf a = none)) ∧
    (∃ (a : Nat) (p : Page), a < 0x400000 ∧ a % 4 = 0 ∧ writable a = 0 ∧ pageOf a = some p ∧ rowsAt a = []) ∧
    (∃ (s : State) (a : Nat) (p : Page), a < 0x400000 ∧ a % 4 = 0 ∧ writable a = 0 ∧ pageOf a = some p ∧ rowsAt a ≠
      [] ∧ wordPin p (a % 0x1000) = none ∧ s.awake = false) ∧
    (∃ (s : State) (w : Writer) (a : Nat) (p : Page), a < 0x400000 ∧ a % 4 = 0 ∧ writable a = 0 ∧ pageOf a = some p ∧
      rowsAt a ≠ [] ∧ wordPin p (a % 0x1000) = none ∧ s.awake = true ∧ s.matchesOwner w
      (s.get (R.PAGE_OWNER (pageBase p))) = true) ∧
    (∃ (s : State) (w : Writer) (a : Nat) (p : Page), a < 0x400000 ∧ a % 4 = 0 ∧ writable a = 0 ∧ pageOf a = some p ∧
      rowsAt a ≠ [] ∧ wordPin p (a % 0x1000) = none ∧ s.awake = true ∧ s.matchesOwner w
      (s.get (R.PAGE_OWNER (pageBase p))) = false) ∧
    (∃ (s : State) (a : Nat) (p : Page), a < 0x400000 ∧ a % 4 = 0 ∧ writable a ≠ 0 ∧ pageOf a = some p ∧ 0x40 ≤ a %
      0x1000 ∧ (p = .ident ∨ p = .rings ∨ p = .latigo ∨ p = .evCfg) ∧ s.awake = false) ∧
    (∃ (s : State) (w : Writer) (a : Nat) (p : Page), a < 0x400000 ∧ a % 4 = 0 ∧ writable a ≠ 0 ∧ pageOf a = some p ∧
      0x40 ≤ a % 0x1000 ∧ (p = .ident ∨ p = .rings ∨ p = .latigo ∨ p = .evCfg) ∧ s.awake = true ∧ s.matchesOwner w
      (s.get (R.PAGE_OWNER (pageBase p))) = true) ∧
    (∃ (s : State) (w : Writer) (a : Nat) (p : Page), a < 0x400000 ∧ a % 4 = 0 ∧ writable a ≠ 0 ∧ pageOf a = some p ∧
      0x40 ≤ a % 0x1000 ∧ (p = .ident ∨ p = .rings ∨ p = .latigo ∨ p = .evCfg) ∧ s.awake = true ∧ s.matchesOwner w
      (s.get (R.PAGE_OWNER (pageBase p))) = false) ∧
    (∃ (a : Nat) (b : _), accMask a .rws = 0 ∧ b ≠ a) ∧
    (∃ (s : State) (a : Nat) (p : Page) (b : _), accMask a .rws ≠ 0 ∧ accMask a .rw = 0 ∧ accMask a .w1c = 0 ∧ s.bit
      (R.PAGE_LOCK (pageBase p)) = false ∧ b ≠ a) ∧
    (∃ (s : State) (a : Nat) (p : Page), accMask a .rws ≠ 0 ∧ accMask a .rw = 0 ∧ accMask a .w1c = 0 ∧ s.bit
      (R.PAGE_LOCK (pageBase p)) = true) ∧
    (∃ (a : Nat), cfgBase ≤ a) :=
  ⟨(let a : Nat := 2;
     ⟨a, by decide +kernel⟩),
    (let a : Nat := pageBase .evCfg + 0xFFC;
     let p : Page := .evCfg;
     ⟨a, p, by decide +kernel⟩),
    (let a : Nat := (R.GID_SERIAL 0).addr;
     let p : Page := .ident;
     let s : State := State.reset;
     ⟨s, a, p, by decide +kernel⟩),
    (let w : Writer := .secure;
     let a : Nat := (R.GID_SERIAL 0).addr;
     let p : Page := .ident;
     let s : State := State.reset;
     let s : State := { s with pwr := { s.pwr with phase := 3 } };
     ⟨s, w, a, p, by decide +kernel⟩),
    (let w : Writer := .unit 0;
     let a : Nat := (R.GID_SERIAL 0).addr;
     let p : Page := .ident;
     let s : State := State.reset;
     let s : State := { s with pwr := { s.pwr with phase := 3 } };
     ⟨s, w, a, p, by decide +kernel⟩),
    (let a : Nat := pageBase .evCfg + 0x40 + 0x100 - 0x40;
     let p : Page := .evCfg;
     let s : State := State.reset;
     ⟨s, a, p, by decide +kernel⟩),
    (let w : Writer := .secure;
     let a : Nat := pageBase .evCfg + 0x40 + 0x100 - 0x40;
     let p : Page := .evCfg;
     let s : State := State.reset;
     let s : State := { s with pwr := { s.pwr with phase := 3 } };
     ⟨s, w, a, p, by decide +kernel⟩),
    (let w : Writer := .unit 0;
     let a : Nat := pageBase .evCfg + 0x40 + 0x100 - 0x40;
     let p : Page := .evCfg;
     let s : State := State.reset;
     let s : State := { s with pwr := { s.pwr with phase := 3 } };
     ⟨s, w, a, p, by decide +kernel⟩),
    (let a : Nat := 0;
     let b := 4;
     ⟨a, b, by decide +kernel⟩),
    (let a : Nat := 1048660;
     let p : Page := .pins 0;
     let b := 0;
     let s : State := (State.reset).putB (R.PAGE_LOCK (pageBase p)) false;
     ⟨s, a, p, b, by decide +kernel⟩),
    (let a : Nat := 1048660;
     let p : Page := .pins 0;
     let s : State := (State.reset).putB (R.PAGE_LOCK (pageBase p)) true;
     ⟨s, a, p, by decide +kernel⟩),
    (let a : Nat := cfgBase;
     ⟨a, by decide +kernel⟩)⟩

theorem witness_BusAccesses_2 :
    (∃ (a : Nat), 0x2000000 ≤ a ∧ a < cfgBase) ∧
    (∃ (s : State) (a : Nat), 0x400000 ≤ a ∧ a < 0x2000000 ∧ a / 0x400000 = s.pos) ∧
    (∃ (s : State) (a : Nat), 0x400000 ≤ a ∧ a < 0x2000000 ∧ a / 0x400000 ≠ s.pos ∧ s.posPresent (a / 0x400000) =
      true) ∧
    (∃ (s : State) (a : Nat), 0x400000 ≤ a ∧ a < 0x2000000 ∧ a / 0x400000 ≠ s.pos ∧ s.posPresent (a / 0x400000) =
      false) ∧
    (∃ (s : State) (off n : Nat), s.hostReady = true ∧ 1 ≤ n ∧ n ≤ 64 ∧ off + n ≤ 0x800000) ∧
    (∃ (s : State) (off : Nat) (bs : List Byte), s.hostReady = true ∧ 1 ≤ bs.length ∧ bs.length ≤ 64 ∧ off +
      bs.length ≤ 0x800000) ∧
    (∃ (s : State), s.hostReady = false) ∧
    (∃ (s : State) (off n : Nat), s.hostReady = true ∧ (n = 0 ∨ 64 < n ∨ 0x800000 < off + n)) ∧
    (∃ (s : State) (off : Nat) (bs : List Byte), s.hostReady = true ∧
      (bs = [] ∨ 64 < bs.length ∨ 0x800000 < off + bs.length)) ∧
    (∃ (s : State) (tag : Nat), (∀ x ∈ s.host.regTags, x.1 ≠ tag)) ∧
    (∃ (s : State) (tag : Nat) (q : _), s.host.regTags = [(tag, q)]) ∧
    (∃ (s : State) (t : Fin 32), s.pinsSettled t = true) :=
  ⟨(let a : Nat := 0x2000000;
     ⟨a, by decide +kernel⟩),
    (let a : Nat := 0x7FFFFC;
     let s : State := (State.reset).put R.LAT_POS 1;
     ⟨s, a, by decide +kernel⟩),
    (let a : Nat := 0x1FFFFFC;
     let s : State := ((State.reset).put (R.LAT_PSTAT_LTSTATE 1) 5).put R.LAT_POS_CHAIN_LEN 8;
     ⟨s, a, by decide +kernel⟩),
    (let a : Nat := 0x400000;
     let s : State := State.reset;
     ⟨s, a, by decide +kernel⟩),
    (let off : Nat := 0;
     let n : Nat := 1;
     let s : State := State.reset;
     let s : State := { s with pwr := { s.pwr with phase := 3 } };
     let s : State := { s with host := { s.host with link := 1 } };
     let s : State := { s with host := { s.host with link := 1 } };
     ⟨s, off, n, by decide +kernel⟩),
    (let off : Nat := 0x800000 - 64;
     let bs : List Byte := List.replicate 64 1;
     let s : State := State.reset;
     let s : State := { s with pwr := { s.pwr with phase := 3 } };
     let s : State := { s with host := { s.host with link := 1 } };
     let s : State := { s with host := { s.host with link := 1 } };
     ⟨s, off, bs, by decide +kernel⟩),
    (let s : State := State.reset;
     ⟨s, by decide +kernel⟩),
    (let off : Nat := 0;
     let n : Nat := 0;
     let s : State := State.reset;
     let s : State := { s with pwr := { s.pwr with phase := 3 } };
     let s : State := { s with host := { s.host with link := 1 } };
     let s : State := { s with host := { s.host with link := 1 } };
     ⟨s, off, n, by decide +kernel⟩),
    (let off : Nat := 0;
     let bs : List Byte := [];
     let s : State := State.reset;
     let s : State := { s with pwr := { s.pwr with phase := 3 } };
     let s : State := { s with host := { s.host with link := 1 } };
     let s : State := { s with host := { s.host with link := 1 } };
     ⟨s, off, bs, by decide +kernel⟩),
    (let tag : Nat := 0;
     let s : State := State.reset;
     ⟨s, tag, by decide +kernel⟩),
    (let tag : Nat := 0;
     let q := 1;
     let s : State := State.reset;
     let s : State := { s with host := { s.host with regTags := [(tag, q)] } };
     ⟨s, tag, q, by decide +kernel⟩),
    (let t : Fin 32 := 0;
     let s : State := State.reset;
     ⟨s, t, by decide +kernel⟩)⟩

theorem witness_BusAccesses_3 :
    (∃ (s : State) (t : Fin 32), s.pinsSettled t = false) ∧
    (∃ (s : State) (t : Fin 32), s.passActive t = true) ∧
    (∃ (s : State) (t : Fin 32), s.passActive t = false ∧ (∀ b ∈ inputLate t, s.waits b = false)) ∧
    (∃ (s : State) (t : Fin 32), s.passActive t = false ∧ (∃ b ∈ inputLate t, s.waits b = true)) ∧
    (∃ (p : Page), (p = .sched ∨ p = .mem ∨ p = .fault ∨ p = .latigo)) :=
  ⟨(let t : Fin 32 := 0;
     let s : State := (State.reset).putB (R.PIN_STAT_SWITCHING t 7) true;
     ⟨s, t, by decide +kernel⟩),
    (let t : Fin 32 := 0;
     let s : State := State.reset;
     let s : State := { s with time := 1 };
     let s : State := (s.putB (R.TILE_ADC_STAT_RUNNING t) true).modTile t fun x => { x with passEnd := 5 };
     ⟨s, t, by decide +kernel⟩),
    (let t : Fin 32 := 0;
     let s : State := State.reset;
     ⟨s, t, by decide +kernel⟩),
    (let t : Fin 32 := 0;
     let s : State := State.reset;
     let s : State := { s with wait := [(inPage 0 + 0x40, 1)] };
     ⟨s, t, by decide +kernel, ⟨inPage 0 + 0x40, by decide +kernel, by decide +kernel⟩⟩),
    (let p : Page := .sched;
     ⟨p, by decide +kernel⟩)⟩

theorem witness_HostLinkCommands_1 :
    (∃ (s : State) (lanes : BitVec 8), (s.pwr.phase = 0 ∨ widestLink lanes = 0)) ∧
    (∃ (s : State) (lanes : BitVec 8), s.pwr.phase ≠ 0 ∧ widestLink lanes ≠ 0 ∧ s.get (R.LAT_PSTAT_LTSTATE 0) ≠ 5) ∧
    (∃ (s : State) (lanes : BitVec 8), s.pwr.phase ≠ 0 ∧ widestLink lanes ≠ 0 ∧ s.get (R.LAT_PSTAT_LTSTATE 0) = 5) ∧
    (∃ (s : State), s.host.link = 1) ∧
    (∃ (s : State), s.host.link ≠ 1) ∧
    (∃ (s : State), s.host.link = 2) ∧
    (∃ (s : State), s.host.link ≠ 2) ∧
    (∃ (s : State), s.host.d3 = true) ∧
    (∃ (s : State), s.host.d3 = false) ∧
    (∃ (s : State), s.cxlUp = true) ∧
    (∃ (s : State), s.cxlUp = false) ∧
    (∃ (s : State), (s.hostReady = false ∨ s.bit R.YDVSEC_ID_PCIE_ONLY = true)) :=
  ⟨(let lanes : BitVec 8 := 0;
     let s : State := State.reset;
     let s : State := { s with pwr.phase := 0 };
     ⟨s, lanes, by decide +kernel⟩),
    (let lanes : BitVec 8 := 1;
     let s : State := State.reset;
     let s : State := { s with pwr := { s.pwr with phase := 3 } };
     let s : State := s.put (R.LAT_PSTAT_LTSTATE 0) 0;
     ⟨s, lanes, by decide +kernel⟩),
    (let lanes : BitVec 8 := 0x80;
     let s : State := State.reset;
     let s : State := { s with pwr := { s.pwr with phase := 3 } };
     let s : State := s.put (R.LAT_PSTAT_LTSTATE 0) 5;
     ⟨s, lanes, by decide +kernel⟩),
    (let s : State := State.reset;
     let s : State := { s with host.link := 1 };
     ⟨s, by decide +kernel⟩),
    (let s : State := State.reset;
     let s : State := { s with host.link := 0 };
     ⟨s, by decide +kernel⟩),
    (let s : State := State.reset;
     let s : State := { s with host.link := 2 };
     ⟨s, by decide +kernel⟩),
    (let s : State := State.reset;
     let s : State := { s with host.link := 0 };
     ⟨s, by decide +kernel⟩),
    (let s : State := State.reset;
     let s : State := { s with host.d3 := true };
     ⟨s, by decide +kernel⟩),
    (let s : State := State.reset;
     let s : State := { s with host.d3 := false };
     ⟨s, by decide +kernel⟩),
    (let s : State := State.reset;
     let s : State := { s with pwr := { s.pwr with phase := 3 } };
     let s : State := { s with host := { s.host with link := 1 } };
     let s : State := s.putB R.YDVSEC_ID_PCIE_ONLY false;
     ⟨s, by decide +kernel⟩),
    (let s : State := State.reset;
     ⟨s, by decide +kernel⟩),
    (let s : State := State.reset;
     ⟨s, by decide +kernel⟩)⟩

theorem witness_HostLinkCommands_2 :
    (∃ (s : State), s.bit R.HDM_DECODER_EN = false) ∧
    (∃ (s : State), s.hostReady = true ∧ s.bit R.YDVSEC_ID_PCIE_ONLY = false ∧ s.bit R.HDM_DECODER_EN = true) ∧
    (∃ (s : State) (line : Nat) (bs : List Byte) (op : _), s.hdmSize < 64 * line + 64 ∧ op ∈
      [BusOp.read 64, .write bs]) ∧
    (∃ (s : State) (line : Nat) (bs : List Byte) (found : EccOutcome), 64 * line + 64 ≤ s.hdmSize ∧ s.physCheck 2
      (64 * line) 64 = .ok ∧ ((bs.take 64).length % 32 = 0 ∨ found = .clean)) ∧
    (∃ (s : State) (line : Nat) (bs : List Byte) (found : EccOutcome), 64 * line + 64 ≤ s.hdmSize ∧ s.physCheck 2
      (64 * line) 64 = .ok ∧ (bs.take 64).length % 32 ≠ 0 ∧ found = .uncorrectable) ∧
    (∃ (s : State) (line : Nat), 64 * line + 64 ≤ s.hdmSize ∧ s.physCheck 2 (64 * line) 64 ≠ .ok) ∧
    (∃ (s : State), s.hostReady = false) ∧
    (∃ (s : State) (r : HostRead), s.host.late.contains r = false) ∧
    (∃ (s : State) (r : HostRead), s.host.late.contains r = true) ∧
    (∃ (s : State) (e : Fin 128), s.engIssues e = true) ∧
    (∃ (s : State) (str : Fin 2), (s.ide str).active = none) ∧
    (∃ (s : State) (str : Fin 2), (s.ide str).active ≠ none) :=
  ⟨(let s : State := (State.reset).putB R.HDM_DECODER_EN false;
     ⟨s, by decide +kernel⟩),
    (let s : State := State.reset;
     let s : State := { s with pwr := { s.pwr with phase := 3 } };
     let s : State := { s with host := { s.host with link := 1 } };
     let s : State := { s with host := { s.host with link := 1 } };
     let s : State := (s.putB R.YDVSEC_ID_PCIE_ONLY false).putB R.HDM_DECODER_EN true;
     ⟨s, by decide +kernel⟩),
    (let line : Nat := 2 ^ 40;
     let bs : List Byte := [1];
     let op := (BusOp.read 64);
     let s : State := State.reset;
     ⟨s, line, bs, op, by decide +kernel, .head _⟩),
    (let line : Nat := 2 ^ 27 - 1;
     let bs : List Byte := [];
     let found : EccOutcome := .clean;
     let s : State := State.reset;
     let s : State := { s with host := { s.host with link := 1 } };
     let s : State := (s.putB R.HDM_DECODER_EN true).put R.HDM_DECODER_SIZE 32;
     ⟨s, line, bs, found, by decide +kernel⟩),
    (let line : Nat := 0;
     let bs : List Byte := [1];
     let found : EccOutcome := .uncorrectable;
     let s : State := State.reset;
     let s : State := { s with pwr := { s.pwr with phase := 3 } };
     let s : State := { s with host := { s.host with link := 1 } };
     let s : State := ((s.putB R.YDVSEC_ID_PCIE_ONLY false).putB R.HDM_DECODER_EN true).put R.HDM_DECODER_SIZE 32;
     ⟨s, line, bs, found, by decide +kernel⟩),
    (let line : Nat := 2 ^ 27 - 1;
     let s : State := State.reset;
     let s : State := { s with host := { s.host with link := 1 } };
     let s : State := ((s.putB R.HDM_DECODER_EN true).put R.HDM_DECODER_SIZE 32).putIdx R.MEM_STAT_CH_LOST
        (dramChannel (64 * line)) true;
     ⟨s, line, by decide +kernel⟩),
    (let s : State := State.reset;
     ⟨s, by decide +kernel⟩),
    (let r : HostRead := .extent;
     let s : State := State.reset;
     ⟨s, r, by decide +kernel⟩),
    (let r : HostRead := .extent;
     let s : State := State.reset;
     let s : State := { s with host.late := [r] };
     ⟨s, r, by decide +kernel⟩),
    (let e : Fin 128 := 0;
     let s : State := (State.reset).withEngine e regs0;
     ⟨s, e, by decide +kernel⟩),
    (let str : Fin 2 := 0;
     let s : State := State.reset;
     ⟨s, str, by decide +kernel⟩),
    (let str : Fin 2 := 0;
     let s : State := State.reset;
     let s : State := { s with sec := { s.sec with ide := [(0, { active := some (0, [1]) })] } };
     ⟨s, str, by decide +kernel⟩)⟩

theorem witness_ResetCommands_1 :
    (∃ (s : State) (key : Byte) (st : Nat), st = s.get R.LAT_LOAD_STAT_STATE ∧ (key ≠ 0xA5 ∨ s.configActs = false)) ∧
    (∃ (s : State) (st : Nat), st = s.get R.LAT_LOAD_STAT_STATE ∧ s.configActs = true ∧
      (s.bit R.YDVSEC_RESET_STAT_BUSY = true ∨ (st ≠ 0 ∧ st ≠ 5 ∧ st ≠ 6))) ∧
    (∃ (s : State) (st : Nat), st = s.get R.LAT_LOAD_STAT_STATE ∧ s.configActs = true ∧ s.bit
      R.YDVSEC_RESET_STAT_BUSY = false ∧ (st = 0 ∨ st = 5 ∨ st = 6)) ∧
    (∃ (s : State) (st : Nat), st = s.get R.LAT_LOAD_STAT_STATE ∧ s.host.warm ≠ 1) ∧
    (∃ (s : State) (st : Nat), st = s.get R.LAT_LOAD_STAT_STATE ∧ s.host.warm = 1) ∧
    (∃ (s : State) (st : Nat), st = s.get R.LAT_LOAD_STAT_STATE ∧ s.host.warm ≠ 2) ∧
    (∃ (s : State) (st : Nat), st = s.get R.LAT_LOAD_STAT_STATE ∧ s.host.warm = 2) ∧
    (∃ (s : State) (st : Nat), st = s.get R.LAT_LOAD_STAT_STATE ∧ s.host.warm ≠ 3) ∧
    (∃ (s : State) (st : Nat), st = s.get R.LAT_LOAD_STAT_STATE ∧ s.host.warm = 3 ∧
      (s.sec.qualA = true ∨ s.sec.qualB = true)) ∧
    (∃ (s : State) (st : Nat), st = s.get R.LAT_LOAD_STAT_STATE ∧ s.host.warm = 3 ∧ s.sec.qualA = false ∧ s.sec.qualB
      = false) ∧
    (∃ (s : State) (st : Nat), st = s.get R.LAT_LOAD_STAT_STATE ∧ s.host.warm ≠ 4) ∧
    (∃ (s : State) (st : Nat), st = s.get R.LAT_LOAD_STAT_STATE ∧ s.host.warm = 4 ∧ (s.load.staged = none ∨ st ≠ 5)) :=
  ⟨(let key : Byte := 0;
     let s : State := State.reset;
     let st : Nat := s.get R.LAT_LOAD_STAT_STATE;
     ⟨s, key, st, rfl, by decide +kernel⟩),
    (let s : State := State.reset;
     let s : State := { s with pwr := { s.pwr with phase := 3 } };
     let s : State := { s with host := { s.host with link := 1 } };
     let s : State := s.putB R.YDVSEC_RESET_STAT_BUSY true;
     let st : Nat := s.get R.LAT_LOAD_STAT_STATE;
     ⟨s, st, rfl, by decide +kernel⟩),
    (let s : State := State.reset;
     let s : State := { s with pwr := { s.pwr with phase := 3 } };
     let s : State := { s with host := { s.host with link := 1 } };
     let s : State := (s.putB R.YDVSEC_RESET_STAT_BUSY false).put R.LAT_LOAD_STAT_STATE 0;
     let st : Nat := s.get R.LAT_LOAD_STAT_STATE;
     ⟨s, st, rfl, by decide +kernel⟩),
    (let s : State := State.reset;
     let s : State := { s with host.warm := 0 };
     let st : Nat := s.get R.LAT_LOAD_STAT_STATE;
     ⟨s, st, rfl, by decide +kernel⟩),
    (let s : State := State.reset;
     let s : State := { s with host.warm := 1 };
     let st : Nat := s.get R.LAT_LOAD_STAT_STATE;
     ⟨s, st, rfl, by decide +kernel⟩),
    (let s : State := State.reset;
     let s : State := { s with host.warm := 0 };
     let st : Nat := s.get R.LAT_LOAD_STAT_STATE;
     ⟨s, st, rfl, by decide +kernel⟩),
    (let s : State := State.reset;
     let s : State := { s with host.warm := 2 };
     let st : Nat := s.get R.LAT_LOAD_STAT_STATE;
     ⟨s, st, rfl, by decide +kernel⟩),
    (let s : State := State.reset;
     let s : State := { s with host.warm := 0 };
     let st : Nat := s.get R.LAT_LOAD_STAT_STATE;
     ⟨s, st, rfl, by decide +kernel⟩),
    (let s : State := State.reset;
     let s : State := { s with host := { s.host with warm := 3 } };
     let s : State := { s with sec := { s.sec with okA := true } };
     let st : Nat := s.get R.LAT_LOAD_STAT_STATE;
     ⟨s, st, rfl, by decide +kernel⟩),
    (let s : State := State.reset;
     let s : State := { s with host := { s.host with warm := 3 } };
     let st : Nat := s.get R.LAT_LOAD_STAT_STATE;
     ⟨s, st, rfl, by decide +kernel⟩),
    (let s : State := State.reset;
     let s : State := { s with host.warm := 0 };
     let st : Nat := s.get R.LAT_LOAD_STAT_STATE;
     ⟨s, st, rfl, by decide +kernel⟩),
    (let s : State := State.reset;
     let s : State := { s with host.warm := 4 };
     let s : State := { s with load.staged := none };
     let st : Nat := s.get R.LAT_LOAD_STAT_STATE;
     ⟨s, st, rfl, by decide +kernel⟩)⟩

theorem witness_ResetCommands_2 :
    (∃ (s : State) (img : PersStream) (st : Nat), st = s.get R.LAT_LOAD_STAT_STATE ∧ s.host.warm = 4 ∧ s.load.staged
      = some img ∧ st = 5) ∧
    (∃ (s : State) (st : Nat), st = s.get R.LAT_LOAD_STAT_STATE ∧ s.pwr.phase = 0) ∧
    (∃ (s : State) (st : Nat), st = s.get R.LAT_LOAD_STAT_STATE ∧ s.pwr.phase ≠ 0) ∧
    (∃ (s : State) (st : Nat), st = s.get R.LAT_LOAD_STAT_STATE ∧ s.pwr.vbat = true) ∧
    (∃ (s : State) (st : Nat), st = s.get R.LAT_LOAD_STAT_STATE ∧ s.pwr.vbat = false) :=
  ⟨(let img : PersStream := pers0;
     let s : State := State.reset;
     let s : State := { s with host.warm := 4 };
     let s : State := { s with load.staged := some img };
     let s : State := s.put R.LAT_LOAD_STAT_STATE 5;
     let st : Nat := s.get R.LAT_LOAD_STAT_STATE;
     ⟨s, img, st, rfl, by decide +kernel⟩),
    (let s : State := State.reset;
     let s : State := { s with pwr.phase := 0 };
     let st : Nat := s.get R.LAT_LOAD_STAT_STATE;
     ⟨s, st, rfl, by decide +kernel⟩),
    (let s : State := State.reset;
     let s : State := { s with pwr.phase := 1 };
     let st : Nat := s.get R.LAT_LOAD_STAT_STATE;
     ⟨s, st, rfl, by decide +kernel⟩),
    (let s : State := State.reset;
     let s : State := { s with pwr.vbat := true };
     let st : Nat := s.get R.LAT_LOAD_STAT_STATE;
     ⟨s, st, rfl, by decide +kernel⟩),
    (let s : State := State.reset;
     let s : State := { s with pwr.vbat := false };
     let st : Nat := s.get R.LAT_LOAD_STAT_STATE;
     ⟨s, st, rfl, by decide +kernel⟩)⟩

theorem witness_SidebandCommands :
    (∃ (i : Nat), i < 7) ∧
    (∃ (s : State), s.pwr.phase < 2) ∧
    (∃ (s : State), 2 ≤ s.pwr.phase) ∧
    (∃ (r : ReadReq) (b : _), b ∈ r.req.zeros) ∧
    (∃ (t : _) (n : _), t < 32 ∧ n < 8) ∧
    (∃ (g : _), g < 48) :=
  ⟨(let i : Nat := 0;
     ⟨i, by decide +kernel⟩),
    (let s : State := State.reset;
     ⟨s, by decide +kernel⟩),
    (let s : State := State.reset;
     let s : State := { s with pwr.phase := 2 };
     ⟨s, by decide +kernel⟩),
    (let r : ReadReq := { req := { tag := 1, zeros := [0] }, off := 0 };
     let b := (0 : Byte);
     ⟨r, b, .head _⟩),
    (let t := 0;
     let n := 7;
     ⟨t, n, by decide +kernel⟩),
    (let g := 47;
     ⟨g, by decide +kernel⟩)⟩

theorem witness_SessionAndQuoteCommands_1 :
    (∃ (s : State) (p : SecPort) (r : ObjReq) (nonceH : BitVec 256) (ct : List Byte) (sid nonce : Nat) (pos : Byte)
      (opOk ledgerOk : Bool) (far : Option (List Byte)) (op : _) (c : _), (op, c) ∈
      [(2, Instr.sessionSetup p r opOk nonceH ct ledgerOk), (3, .sessionClose p r sid), (2, .quote p r nonce pos sid ledgerOk far), (3, .certs p r pos far)] ∧
      s.pwr.phase < 2) ∧
    (∃ (s : State) (p : SecPort) (r : ObjReq) (nonceH : BitVec 256) (ct : List Byte) (sid nonce : Nat) (pos : Byte)
      (opOk ledgerOk : Bool) (far : Option (List Byte)) (op : _) (c : _), (op, c) ∈
      [(2, Instr.sessionSetup p r opOk nonceH ct ledgerOk), (3, .sessionClose p r sid), (2, .quote p r nonce pos sid ledgerOk far), (3, .certs p r pos far)] ∧
      2 ≤ s.pwr.phase ∧ s.pwr.noFw = true) ∧
    (∃ (s : State) (p : SecPort) (r : ObjReq) (nonceH : BitVec 256) (ct : List Byte) (sid nonce : Nat) (pos : Byte)
      (opOk ledgerOk : Bool) (far : Option (List Byte)) (op : _) (c : _), (op, c) ∈
      [(2, Instr.sessionSetup p r opOk nonceH ct ledgerOk), (3, .sessionClose p r sid), (2, .quote p r nonce pos sid ledgerOk far), (3, .certs p r pos far)] ∧
      s.awake = true ∧ r.ok = false) ∧
    (∃ (s : State) (r : ObjReq) (ct : List Byte) (opOk : Bool), s.awake = true ∧ r.ok = true ∧
      (opOk = false ∨ ct.length ≠ 1088)) ∧
    (∃ (s : State) (r : ObjReq) (ct : List Byte), s.awake = true ∧ r.ok = true ∧ ct.length = 1088 ∧ s.sec.next < 2 ^
      35 ∧ s.sec.next = s.sec.rsv) ∧
    (∃ (s : State) (r : ObjReq) (ct : List Byte), s.awake = true ∧ r.ok = true ∧ ct.length = 1088 ∧ 2 ^ 35 ≤
      s.sec.next ∧ s.sec.spent = true) ∧
    (∃ (s : State) (r : ObjReq) (ct : List Byte) (ledgerOk : Bool), s.awake = true ∧ r.ok = true ∧ ct.length = 1088 ∧
      s.sec.next < 2 ^ 35 ∧ (s.sec.next ≠ s.sec.rsv ∨ ledgerOk = true)) ∧
    (∃ (s : State) (p : SecPort) (r : ObjReq) (sid : Nat), s.awake = true ∧ r.ok = true ∧ (s.openSid p sid).isSome =
      true) ∧
    (∃ (s : State) (r : ObjReq) (pos : Byte), s.awake = true ∧ r.ok = true ∧ s.posPresent pos.toNat = false) ∧
    (∃ (s : State) (p : SecPort) (r : ObjReq) (sid : Nat) (pos : Byte), s.awake = true ∧ r.ok = true ∧ s.posPresent
      pos.toNat = true ∧ sid ≠ 0 ∧ (s.openSid p sid).isSome = false) ∧
    (∃ (s : State) (p : SecPort) (r : ObjReq) (sid : Nat) (pos : Byte), s.awake = true ∧ r.ok = true ∧
      (sid = 0 ∨ (s.openSid p sid).isSome = true) ∧ pos.toNat = s.pos ∧ s.sec.quoteWork ≠ none) ∧
    (∃ (s : State) (p : SecPort) (r : ObjReq) (sid : Nat) (pos : Byte), s.awake = true ∧ r.ok = true ∧
      (sid = 0 ∨ (s.openSid p sid).isSome = true) ∧ pos.toNat = s.pos ∧ s.sec.quoteWork = none ∧ s.sec.next < 2 ^
      35 ∧ s.sec.next ≠ s.sec.rsv) :=
  ⟨(let p : SecPort := .doe;
     let r : ObjReq := { tag := 1 };
     let nonceH : BitVec 256 := 0;
     let ct : List Byte := [];
     let sid : Nat := 0;
     let nonce : Nat := 0;
     let pos : Byte := 0;
     let opOk : Bool := true;
     let ledgerOk : Bool := true;
     let far : Option (List Byte) := none;
     let op := (3 : Nat);
     let c := .sessionClose p r sid;
     let s : State := State.reset;
     ⟨s, p, r, nonceH, ct, sid, nonce, pos, opOk, ledgerOk, far, op, c, .tail _ (.head _), by decide +kernel⟩),
    (let p : SecPort := .doe;
     let r : ObjReq := { tag := 1 };
     let nonceH : BitVec 256 := 0;
     let ct : List Byte := [];
     let sid : Nat := 0;
     let nonce : Nat := 0;
     let pos : Byte := 0;
     let opOk : Bool := true;
     let ledgerOk : Bool := true;
     let far : Option (List Byte) := none;
     let op := (3 : Nat);
     let c := .sessionClose p r sid;
     let s : State := State.reset;
     let s : State := { s with pwr := { s.pwr with phase := 2, noFw := true } };
     ⟨s, p, r, nonceH, ct, sid, nonce, pos, opOk, ledgerOk, far, op, c, .tail _ (.head _), by decide +kernel, by decide +kernel⟩),
    (let p : SecPort := .doe;
     let r : ObjReq := { tag := 1, off := 1 };
     let nonceH : BitVec 256 := 0;
     let ct : List Byte := [];
     let sid : Nat := 0;
     let nonce : Nat := 0;
     let pos : Byte := 0;
     let opOk : Bool := true;
     let ledgerOk : Bool := true;
     let far : Option (List Byte) := none;
     let op := (3 : Nat);
     let c := .sessionClose p r sid;
     let s : State := State.reset;
     let s : State := { s with pwr := { s.pwr with phase := 3 } };
     let s : State := { s with pwr := { s.pwr with phase := 3 } };
     ⟨s, p, r, nonceH, ct, sid, nonce, pos, opOk, ledgerOk, far, op, c, .tail _ (.head _), by decide +kernel, by decide +kernel⟩),
    (let r : ObjReq := { tag := 1 };
     let ct : List Byte := [];
     let opOk : Bool := false;
     let s : State := State.reset;
     let s : State := { s with pwr := { s.pwr with phase := 3 } };
     ⟨s, r, ct, opOk, by decide +kernel⟩),
    (let r : ObjReq := { tag := 1 };
     let ct : List Byte := List.replicate 1088 (0 : Byte);
     let s : State := State.reset;
     let s : State := { s with pwr := { s.pwr with phase := 3 } };
     let s : State := { s with pwr := { s.pwr with phase := 3 } };
     ⟨s, r, ct, by decide +kernel⟩),
    (let r : ObjReq := { tag := 1 };
     let ct : List Byte := List.replicate 1088 (0 : Byte);
     let s : State := State.reset;
     let s : State := { s with pwr := { s.pwr with phase := 3 } };
     let s : State := { s with pwr := { s.pwr with phase := 3 } };
     let s : State := { s with sec := { s.sec with next := 2 ^ 35, spent := true } };
     ⟨s, r, ct, by decide +kernel⟩),
    (let r : ObjReq := { tag := 1 };
     let ct : List Byte := List.replicate 1088 (0 : Byte);
     let ledgerOk : Bool := true;
     let s : State := State.reset;
     let s : State := { s with pwr := { s.pwr with phase := 3 } };
     let s : State := { s with pwr := { s.pwr with phase := 3 } };
     let s : State := { s with sec := { s.sec with next := 2 ^ 35 - 1 } };
     ⟨s, r, ct, ledgerOk, by decide +kernel⟩),
    (let p : SecPort := .smbus;
     let r : ObjReq := { tag := 1 };
     let nonceH : BitVec 256 := 0;
     let sid : Nat := 5;
     let s : State := State.reset;
     let s : State := { s with pwr := { s.pwr with phase := 3 } };
     let s : State := { s with pwr := { s.pwr with phase := 3 } };
     let s : State :=
        { s with sec := { s.sec with smbus := some { sid := 5, nonceH := 0, nonceD := 0, secret := 0 } } };
     ⟨s, p, r, sid, by decide +kernel⟩),
    (let r : ObjReq := { tag := 1 };
     let pos : Byte := 1;
     let s : State := State.reset;
     let s : State := { s with pwr := { s.pwr with phase := 3 } };
     let s : State := { s with pwr := { s.pwr with phase := 3 } };
     ⟨s, r, pos, by decide +kernel⟩),
    (let p : SecPort := .doe;
     let r : ObjReq := { tag := 1 };
     let sid : Nat := 1;
     let pos : Byte := 0;
     let s : State := State.reset;
     let s : State := { s with pwr := { s.pwr with phase := 3 } };
     ⟨s, p, r, sid, pos, by decide +kernel⟩),
    (let p : SecPort := .doe;
     let r : ObjReq := { tag := 1 };
     let sid : Nat := 0;
     let nonce : Nat := 0;
     let pos : Byte := 0;
     let s : State := State.reset;
     let s : State := { s with pwr := { s.pwr with phase := 3 } };
     let s : State := { s with pwr := { s.pwr with phase := 3 } };
     let s : State := { s with sec := { s.sec with quoteWork := some { nonce := 0 } } };
     ⟨s, p, r, sid, pos, by decide +kernel⟩),
    (let p : SecPort := .doe;
     let r : ObjReq := { tag := 1 };
     let sid : Nat := 0;
     let pos : Byte := 0;
     let s : State := State.reset;
     let s : State := { s with pwr := { s.pwr with phase := 3 } };
     let s : State := { s with sec := { s.sec with next := 1, spent := false } };
     ⟨s, p, r, sid, pos, by decide +kernel⟩)⟩

theorem witness_SessionAndQuoteCommands_2 :
    (∃ (s : State) (p : SecPort) (r : ObjReq) (sid : Nat) (pos : Byte), s.awake = true ∧ r.ok = true ∧
      (sid = 0 ∨ (s.openSid p sid).isSome = true) ∧ pos.toNat = s.pos ∧ s.sec.quoteWork = none ∧ s.sec.next < 2 ^
      35 ∧ s.sec.next = s.sec.rsv) ∧
    (∃ (s : State) (p : SecPort) (r : ObjReq) (sid : Nat) (pos : Byte), s.awake = true ∧ r.ok = true ∧
      (sid = 0 ∨ (s.openSid p sid).isSome = true) ∧ pos.toNat = s.pos ∧ s.sec.quoteWork = none ∧ 2 ^ 35 ≤
      s.sec.next ∧ s.sec.spent = true) ∧
    (∃ (s : State) (p : SecPort) (r : ObjReq) (sid : Nat) (pos : Byte), s.awake = true ∧ r.ok = true ∧
      (sid = 0 ∨ (s.openSid p sid).isSome = true) ∧ pos.toNat = s.pos ∧ s.sec.quoteWork = none ∧ 2 ^ 35 ≤
      s.sec.next ∧ s.sec.spent = false) ∧
    (∃ (s : State) (p : SecPort) (r : ObjReq) (sid : Nat) (pos : Byte), s.awake = true ∧ r.ok = true ∧
      (sid = 0 ∨ (s.openSid p sid).isSome = true) ∧ pos.toNat ≠ s.pos ∧ s.posPresent pos.toNat = true) ∧
    (∃ (s : State) (p : SecPort) (sid : Nat) (y : Session), s.openSid p sid = some y) ∧
    (∃ (s : State) (p : SecPort) (sid : Nat), s.openSid p sid = none) ∧
    (∃ (s : State), s.awake = false) ∧
    (∃ (s : State) (w : Writer), s.awake = true ∧
      (w = .host ∨ s.matchesOwner w (s.get (R.PAGE_OWNER secPage)) = true) ∧ s.bit R.SEC_QUOTE_CTRL_BUSY = false) ∧
    (∃ (s : State) (w : Writer), s.awake = true ∧
      (w = .host ∨ s.matchesOwner w (s.get (R.PAGE_OWNER secPage)) = true) ∧ s.bit R.SEC_QUOTE_CTRL_BUSY = true) ∧
    (∃ (s : State) (w : Writer), s.awake = true ∧ w ≠ .host ∧ s.matchesOwner w (s.get (R.PAGE_OWNER secPage)) =
      false) ∧
    (∃ (s : State) (x : QuoteWork), s.sec.quoteWork = some x) :=
  ⟨(let p : SecPort := .doe;
     let r : ObjReq := { tag := 1 };
     let sid : Nat := 0;
     let pos : Byte := 0;
     let s : State := State.reset;
     let s : State := { s with pwr := { s.pwr with phase := 3 } };
     let s : State := { s with sec := { s.sec with next := 3, rsvA := { seq := 1, value := 3 } } };
     ⟨s, p, r, sid, pos, by decide +kernel⟩),
    (let p : SecPort := .doe;
     let r : ObjReq := { tag := 1 };
     let sid : Nat := 0;
     let pos : Byte := 0;
     let s : State := State.reset;
     let s : State := { s with pwr := { s.pwr with phase := 3 } };
     let s : State := { s with sec := { s.sec with next := 2 ^ 35, spent := true } };
     ⟨s, p, r, sid, pos, by decide +kernel⟩),
    (let p : SecPort := .doe;
     let r : ObjReq := { tag := 1 };
     let sid : Nat := 0;
     let pos : Byte := 0;
     let s : State := State.reset;
     let s : State := { s with pwr := { s.pwr with phase := 3 } };
     let s : State := { s with sec := { s.sec with next := 2 ^ 35, spent := false } };
     ⟨s, p, r, sid, pos, by decide +kernel⟩),
    (let p : SecPort := .doe;
     let r : ObjReq := { tag := 1 };
     let sid : Nat := 0;
     let pos : Byte := 1;
     let s : State := State.reset;
     let s : State := { s with pwr := { s.pwr with phase := 3 } };
     let s : State := { s with pwr := { s.pwr with phase := 3 } };
     let s : State := s.put (R.LAT_PSTAT_LTSTATE 1) 5;
     ⟨s, p, r, sid, pos, by decide +kernel⟩),
    (let p : SecPort := .smbus;
     let nonceH : BitVec 256 := 0;
     let sid : Nat := 5;
     let y : Session := { sid := 5, nonceH := 0, nonceD := 0, secret := 0 };
     let s : State := State.reset;
     let s : State :=
        { s with sec := { s.sec with smbus := some { sid := 5, nonceH := 0, nonceD := 0, secret := 0 } } };
     ⟨s, p, sid, y, by decide +kernel⟩),
    (let p : SecPort := .doe;
     let sid : Nat := 0;
     let s : State := State.reset;
     ⟨s, p, sid, by decide +kernel⟩),
    (let s : State := State.reset;
     ⟨s, by decide +kernel⟩),
    (let w : Writer := .host;
     let s : State := State.reset;
     let s : State := { s with pwr := { s.pwr with phase := 3 } };
     let s : State := s.putB R.SEC_QUOTE_CTRL_BUSY false;
     ⟨s, w, by decide +kernel⟩),
    (let w : Writer := .host;
     let s : State := State.reset;
     let s : State := { s with pwr := { s.pwr with phase := 3 } };
     let s : State := s.putB R.SEC_QUOTE_CTRL_BUSY true;
     ⟨s, w, by decide +kernel⟩),
    (let w : Writer := .unit 0;
     let s : State := State.reset;
     let s : State := { s with pwr := { s.pwr with phase := 3 } };
     ⟨s, w, by decide +kernel⟩),
    (let nonce : Nat := 0;
     let x : QuoteWork := { nonce := 0 };
     let s : State := State.reset;
     let s : State := { s with sec.quoteWork := some x };
     ⟨s, x, by decide +kernel⟩)⟩

theorem witness_OwnerAndKeyCommands_1 :
    (∃ (req : SignedBody) (o sl au : Byte) (ser ch : Nat) (key sg : List Byte), key.length = 60 ∧ ser < 2 ^ 128 ∧ ch
      < 2 ^ 256 ∧ sg.length < 2 ^ 32 ∧ req.bytes = [0x46, 0x44, 0x4F, 0x57, o, sl, au, 0] ++ leBytes 16 ser ++
      leBytes 32 ch ++ key ++ leBytes 4 sg.length ++ sg ∧ sl.toNat < 4 ∧ au.toNat < 4 ∧ (o = 2 ∨ o = 5 → sl = 0) ∧
      (o = 2 → au = 0) ∧ (o = 4 → fromLe key = 0)) ∧
    (∃ (s : State) (r : ObjReq) (req : SignedBody) (ownEn ledgerOk : Bool) (op : _) (c : _) (p : _), p =
      (if op = 2 then s.strapOwnEn ownEn else s) ∧ (op, c) ∈
      [(1, Instr.ownerChallenge r), (2, .enrollFirst r req ownEn ledgerOk), (3, .ownerAdd r req ledgerOk), (4, .revoke r req ledgerOk), (5, .transfer r req ledgerOk), (6, .ownerRead r)] ∧
      s.pwr.phase < 2) ∧
    (∃ (s : State) (r : ObjReq) (req : SignedBody) (ownEn ledgerOk : Bool) (op : _) (c : _) (p : _), p =
      (if op = 2 then s.strapOwnEn ownEn else s) ∧ (op, c) ∈
      [(1, Instr.ownerChallenge r), (2, .enrollFirst r req ownEn ledgerOk), (3, .ownerAdd r req ledgerOk), (4, .revoke r req ledgerOk), (5, .transfer r req ledgerOk), (6, .ownerRead r)] ∧
      2 ≤ s.pwr.phase ∧ s.pwr.noFw = true) ∧
    (∃ (s : State) (r : ObjReq) (req : SignedBody) (ownEn ledgerOk : Bool) (op : _) (c : _) (p : _), p =
      (if op = 2 then s.strapOwnEn ownEn else s) ∧ (op, c) ∈
      [(1, Instr.ownerChallenge r), (2, .enrollFirst r req ownEn ledgerOk), (3, .ownerAdd r req ledgerOk), (4, .revoke r req ledgerOk), (5, .transfer r req ledgerOk), (6, .ownerRead r)] ∧
      s.awake = true ∧ r.ok = false) ∧
    (∃ (s : State) (r : ObjReq) (req : SignedBody) (ownEn ledgerOk : Bool) (op : _) (c : _) (p : _), p =
      (if op = 2 then s.strapOwnEn ownEn else s) ∧ s.awake = true ∧ r.ok = true ∧ (op, c) ∈
      [(2, Instr.enrollFirst r req ownEn ledgerOk), (3, .ownerAdd r req ledgerOk), (4, .revoke r req ledgerOk), (5, .transfer r req ledgerOk)] ∧
      (ownFormat op req = false ∨ (op ≠ 4 ∧ ownKeyOk req = false))) ∧
    (∃ (s : State) (r : ObjReq) (req : SignedBody) (ownEn ledgerOk : Bool) (op : _) (c : _) (p : _), p =
      (if op = 2 then s.strapOwnEn ownEn else s) ∧ s.awake = true ∧ r.ok = true ∧ (op, c) ∈
      [(2, Instr.enrollFirst r req ownEn ledgerOk), (3, .ownerAdd r req ledgerOk), (4, .revoke r req ledgerOk), (5, .transfer r req ledgerOk)] ∧
      ownFormat op req = true ∧ (op = 4 ∨ ownKeyOk req = true) ∧ ownSerial req ≠ s.serialNo) ∧
    (∃ (s : State) (r : ObjReq) (req : SignedBody) (ownEn ledgerOk : Bool) (op : _) (c : _) (p : _), p =
      (if op = 2 then s.strapOwnEn ownEn else s) ∧ s.awake = true ∧ r.ok = true ∧ (op, c) ∈
      [(2, Instr.enrollFirst r req ownEn ledgerOk), (3, .ownerAdd r req ledgerOk), (4, .revoke r req ledgerOk), (5, .transfer r req ledgerOk)] ∧
      ownFormat op req = true ∧ (op = 4 ∨ ownKeyOk req = true) ∧ ownSerial req = s.serialNo ∧ s.sec.chalOwner ≠ some
      (ownChallenge req)) ∧
    (∃ (s : State) (r : ObjReq) (req : SignedBody) (ownEn ledgerOk : Bool) (op : _) (c : _) (p : _) (q : State), p =
      (if op = 2 then s.strapOwnEn ownEn else s) ∧ q = { s with sec := { s.sec with chalOwner := none } } ∧ s.awake =
      true ∧ r.ok = true ∧ (op, c) ∈
      [(2, Instr.enrollFirst r req ownEn ledgerOk), (3, .ownerAdd r req ledgerOk), (4, .revoke r req ledgerOk), (5, .transfer r req ledgerOk)] ∧
      ownFormat op req = true ∧ (op = 4 ∨ ownKeyOk req = true) ∧ ownSerial req = s.serialNo ∧ s.sec.chalOwner = some
      (ownChallenge req) ∧ 3 ≤ op ∧ (s.slot (ownAuth req)).state ≠ 1) ∧
    (∃ (s : State) (r : ObjReq) (req : SignedBody) (ownEn ledgerOk : Bool) (op : _) (c : _) (p : _) (q : State), p =
      (if op = 2 then s.strapOwnEn ownEn else s) ∧ q = { s with sec := { s.sec with chalOwner := none } } ∧ s.awake =
      true ∧ r.ok = true ∧ (op, c) ∈
      [(2, Instr.enrollFirst r req ownEn ledgerOk), (3, .ownerAdd r req ledgerOk), (4, .revoke r req ledgerOk), (5, .transfer r req ledgerOk)] ∧
      ownFormat op req = true ∧ (op = 4 ∨ ownKeyOk req = true) ∧ ownSerial req = s.serialNo ∧ s.sec.chalOwner = some
      (ownChallenge req) ∧ 3 ≤ op ∧ (s.slot (ownAuth req)).state = 1 ∧ req.sigOk = false) ∧
    (∃ (s : State) (r : ObjReq) (req : SignedBody) (ownEn : Bool), s.awake = true ∧ r.ok = true ∧ ownFormat 2 req =
      true ∧ ownKeyOk req = true ∧ ownSerial req = s.serialNo ∧ s.sec.chalOwner = some (ownChallenge req) ∧
      (ownEn = false ∨ (∃ k, k < 4 ∧ (s.slot k).state ≠ 0))) ∧
    (∃ (s : State) (r : ObjReq) (req : SignedBody) (ownEn : Bool), s.awake = true ∧ r.ok = true ∧ ownFormat 2 req =
      true ∧ ownKeyOk req = true ∧ ownSerial req = s.serialNo ∧ s.sec.chalOwner = some (ownChallenge req) ∧ ownEn =
      true ∧ (∀ k, k < 4 → (s.slot k).state = 0) ∧ req.sigOk = false) ∧
    (∃ (s : State) (r : ObjReq) (req : SignedBody) (ownEn : Bool), s.awake = true ∧ r.ok = true ∧ ownFormat 2 req =
      true ∧ ownKeyOk req = true ∧ ownSerial req = s.serialNo ∧ s.sec.chalOwner = some (ownChallenge req) ∧ ownEn =
      true ∧ (∀ k, k < 4 → (s.slot k).state = 0) ∧ req.sigOk = true) :=
  ⟨(let req : SignedBody :=
        { bytes := [0x46, 0x44, 0x4F, 0x57, 3, 1, 0, 0] ++ leBytes 16 0 ++ leBytes 32 0 ++ leBytes 60 0 ++ leBytes 4 0 ++ [], sigOk := true };
     let o : Byte := 3;
     let sl : Byte := 1;
     let au : Byte := 0;
     let ser : Nat := 0;
     let ch : Nat := 0;
     let key : List Byte := leBytes 60 0;
     let sg : List Byte := [];
     ⟨req, o, sl, au, ser, ch, key, sg, by decide +kernel⟩),
    (let r : ObjReq := { tag := 1 };
     let req : SignedBody := body0;
     let ownEn : Bool := true;
     let ledgerOk : Bool := true;
     let op := (6 : Nat);
     let c := .ownerRead r;
     let s : State := State.reset;
     let p := (if op = 2 then s.strapOwnEn ownEn else s);
     ⟨s, r, req, ownEn, ledgerOk, op, c, p, rfl, .tail _ (.tail _ (.tail _ (.tail _ (.tail _ (.head _))))), by decide +kernel⟩),
    (let r : ObjReq := { tag := 1 };
     let req : SignedBody := body0;
     let ownEn : Bool := true;
     let ledgerOk : Bool := true;
     let op := (6 : Nat);
     let c := .ownerRead r;
     let s : State := State.reset;
     let s : State := { s with pwr := { s.pwr with phase := 2, noFw := true } };
     let p := (if op = 2 then s.strapOwnEn ownEn else s);
     ⟨s, r, req, ownEn, ledgerOk, op, c, p, rfl, .tail _ (.tail _ (.tail _ (.tail _ (.tail _ (.head _))))), by decide +kernel, by decide +kernel⟩),
    (let r : ObjReq := { tag := 1, off := 1 };
     let req : SignedBody := body0;
     let ownEn : Bool := true;
     let ledgerOk : Bool := true;
     let op := (6 : Nat);
     let c := .ownerRead r;
     let s : State := State.reset;
     let s : State := { s with pwr := { s.pwr with phase := 3 } };
     let s : State := { s with pwr := { s.pwr with phase := 3 } };
     let p := (if op = 2 then s.strapOwnEn ownEn else s);
     ⟨s, r, req, ownEn, ledgerOk, op, c, p, rfl, .tail _ (.tail _ (.tail _ (.tail _ (.tail _ (.head _))))), by decide +kernel, by decide +kernel⟩),
    (let r : ObjReq := { tag := 1 };
     let req : SignedBody := ownerBody 3 0 0 true;
     let ownEn : Bool := true;
     let ledgerOk : Bool := true;
     let op := (2 : Nat);
     let c := .enrollFirst r req ownEn ledgerOk;
     let s : State := State.reset;
     let s : State := { s with pwr := { s.pwr with phase := 3 } };
     let s : State := { s with pwr := { s.pwr with phase := 3 } };
     let p := (if op = 2 then s.strapOwnEn ownEn else s);
     ⟨s, r, req, ownEn, ledgerOk, op, c, p, rfl, by decide +kernel, by decide +kernel, .head _, by decide +kernel⟩),
    (let r : ObjReq := { tag := 1 };
     let req : SignedBody := ownerBody 5 0 3 true;
     let ownEn : Bool := true;
     let ledgerOk : Bool := true;
     let op := (5 : Nat);
     let c := .transfer r req ledgerOk;
     let s : State := State.reset;
     let s : State := { s with pwr := { s.pwr with phase := 3 } };
     let s : State := { s with pwr := { s.pwr with phase := 3 } };
     let s : State := s.put (R.GID_SERIAL 0) 5;
     let p := (if op = 2 then s.strapOwnEn ownEn else s);
     ⟨s, r, req, ownEn, ledgerOk, op, c, p, rfl, by decide +kernel, by decide +kernel, .tail _ (.tail _ (.tail _ (.head _))), by decide +kernel, by decide +kernel, by decide +kernel⟩),
    (let r : ObjReq := { tag := 1 };
     let req : SignedBody := ownerBody 4 3 3 true;
     let ownEn : Bool := true;
     let ledgerOk : Bool := true;
     let op := (4 : Nat);
     let c := .revoke r req ledgerOk;
     let s : State := State.reset;
     let s : State := { s with pwr := { s.pwr with phase := 3 } };
     let s : State := { s with pwr := { s.pwr with phase := 3 } };
     let p := (if op = 2 then s.strapOwnEn ownEn else s);
     ⟨s, r, req, ownEn, ledgerOk, op, c, p, rfl, by decide +kernel, by decide +kernel, .tail _ (.tail _ (.head _)), by decide +kernel, by decide +kernel, by decide +kernel, by decide +kernel⟩),
    (let r : ObjReq := { tag := 1 };
     let req : SignedBody := ownerBody 3 3 3 true;
     let ownEn : Bool := true;
     let ledgerOk : Bool := true;
     let op := (3 : Nat);
     let c := .ownerAdd r req ledgerOk;
     let s : State := State.reset;
     let s : State := { s with pwr := { s.pwr with phase := 3 } };
     let s : State := { s with pwr := { s.pwr with phase := 3 } };
     let s : State := { s with sec := { s.sec with chalOwner := some 9, slots := [] } };
     let p := (if op = 2 then s.strapOwnEn ownEn else s);
     let q : State := { s with sec := { s.sec with chalOwner := none } };
     ⟨s, r, req, ownEn, ledgerOk, op, c, p, q, rfl, rfl, by decide +kernel, by decide +kernel, .tail _ (.head _), by decide +kernel, by decide +kernel, by decide +kernel, by decide +kernel, by decide +kernel, by decide +kernel⟩),
    (let r : ObjReq := { tag := 1 };
     let req : SignedBody := ownerBody 5 0 3 false;
     let ownEn : Bool := true;
     let ledgerOk : Bool := true;
     let op := (5 : Nat);
     let c := .transfer r req ledgerOk;
     let s : State := State.reset;
     let s : State := { s with pwr := { s.pwr with phase := 3 } };
     let s : State := { s with pwr := { s.pwr with phase := 3 } };
     let s : State := { s with sec := { s.sec with chalOwner := some 9, slots := [(3, { state := 1 })] } };
     let p := (if op = 2 then s.strapOwnEn ownEn else s);
     let q : State := { s with sec := { s.sec with chalOwner := none } };
     ⟨s, r, req, ownEn, ledgerOk, op, c, p, q, rfl, rfl, by decide +kernel, by decide +kernel, .tail _ (.tail _ (.tail _ (.head _))), by decide +kernel, by decide +kernel, by decide +kernel, by decide +kernel, by decide +kernel, by decide +kernel, by decide +kernel⟩),
    (let r : ObjReq := { tag := 1 };
     let req : SignedBody := ownerBody 2 0 0 true;
     let ownEn : Bool := false;
     let s : State := State.reset;
     let s : State := { s with pwr := { s.pwr with phase := 3 } };
     let s : State := { s with sec := { s.sec with chalOwner := some 9, slots := [] } };
     ⟨s, r, req, ownEn, by decide +kernel, by decide +kernel, by decide +kernel, by decide +kernel, by decide +kernel, by decide +kernel, .inl rfl⟩),
    (let r : ObjReq := { tag := 1 };
     let req : SignedBody := ownerBody 2 0 0 false;
     let ownEn : Bool := true;
     let s : State := State.reset;
     let s : State := { s with pwr := { s.pwr with phase := 3 } };
     let s : State := { s with sec := { s.sec with chalOwner := some 9, slots := [] } };
     ⟨s, r, req, ownEn, by decide +kernel, by decide +kernel, by decide +kernel, by decide +kernel, by decide +kernel, by decide +kernel, rfl, fun _ _ => rfl, rfl⟩),
    (let r : ObjReq := { tag := 1 };
     let req : SignedBody := ownerBody 2 0 0 true;
     let ownEn : Bool := true;
     let s : State := State.reset;
     let s : State := { s with pwr := { s.pwr with phase := 3 } };
     let s : State := { s with sec := { s.sec with chalOwner := some 9, slots := [] } };
     ⟨s, r, req, ownEn, by decide +kernel, by decide +kernel, by decide +kernel, by decide +kernel, by decide +kernel, by decide +kernel, rfl, fun _ _ => rfl, rfl⟩)⟩

theorem witness_OwnerAndKeyCommands_2 :
    (∃ (s : State) (r : ObjReq) (req : SignedBody), s.awake = true ∧ r.ok = true ∧ ownSerial req = s.serialNo ∧
      s.sec.chalOwner = some (ownChallenge req) ∧ (s.slot (ownAuth req)).state = 1 ∧ req.sigOk = true ∧ ownFormat 3
      req = true ∧ ownKeyOk req = true ∧ (s.slot (ownSlot req)).state = 0) ∧
    (∃ (s : State) (r : ObjReq) (req : SignedBody), s.awake = true ∧ r.ok = true ∧ ownSerial req = s.serialNo ∧
      s.sec.chalOwner = some (ownChallenge req) ∧ (s.slot (ownAuth req)).state = 1 ∧ req.sigOk = true ∧ ownFormat 3
      req = true ∧ ownKeyOk req = true ∧ (s.slot (ownSlot req)).state ≠ 0) ∧
    (∃ (s : State) (r : ObjReq) (req : SignedBody), s.awake = true ∧ r.ok = true ∧ ownSerial req = s.serialNo ∧
      s.sec.chalOwner = some (ownChallenge req) ∧ (s.slot (ownAuth req)).state = 1 ∧ req.sigOk = true ∧ ownFormat 4
      req = true ∧ (s.slot (ownSlot req)).state ≠ 1) ∧
    (∃ (s : State) (r : ObjReq) (req : SignedBody), s.awake = true ∧ r.ok = true ∧ ownSerial req = s.serialNo ∧
      s.sec.chalOwner = some (ownChallenge req) ∧ (s.slot (ownAuth req)).state = 1 ∧ req.sigOk = true ∧ ownFormat 4
      req = true ∧ (s.slot (ownSlot req)).state = 1 ∧ s.activeSlots ≤ 1) ∧
    (∃ (s : State) (r : ObjReq) (req : SignedBody), s.awake = true ∧ r.ok = true ∧ ownSerial req = s.serialNo ∧
      s.sec.chalOwner = some (ownChallenge req) ∧ (s.slot (ownAuth req)).state = 1 ∧ req.sigOk = true ∧ ownFormat 4
      req = true ∧ (s.slot (ownSlot req)).state = 1 ∧ 2 ≤ s.activeSlots) ∧
    (∃ (s : State) (r : ObjReq) (req : SignedBody), s.awake = true ∧ r.ok = true ∧ ownSerial req = s.serialNo ∧
      s.sec.chalOwner = some (ownChallenge req) ∧ (s.slot (ownAuth req)).state = 1 ∧ req.sigOk = true ∧ ownFormat 5
      req = true ∧ ownKeyOk req = true) ∧
    (∃ (s : State) (r : ObjReq) (sid : Nat) (str kset : Byte), s.awake = true ∧ r.ok = true ∧ str.toNat < 2 ∧
      kset.toNat < 2 ∧ s.openSid .doe sid = none) ∧
    (∃ (s : State) (r : ObjReq) (sid gen : Nat) (str kset : Byte) (x : Session), s.awake = true ∧ r.ok = true ∧
      str.toNat < 2 ∧ kset.toNat < 2 ∧ s.openSid .doe sid = some x ∧ (∀ g, (s.ide str.toNat).gen = some g → g < gen)) ∧
    (∃ (s : State) (r : ObjReq) (sid gen : Nat) (str kset : Byte) (x : Session) (g : _), s.awake = true ∧ r.ok =
      true ∧ str.toNat < 2 ∧ kset.toNat < 2 ∧ s.openSid .doe sid = some x ∧ (s.ide str.toNat).gen = some g ∧ gen ≤ g) ∧
    (∃ (s : State) (r : ObjReq) (sid : Nat) (str kset : Byte) (x : Session), s.awake = true ∧ r.ok = true ∧ str.toNat
      < 2 ∧ kset.toNat < 2 ∧ s.openSid .doe sid = some x ∧ tblFind (s.ide str.toNat).loaded kset.toNat = none) ∧
    (∃ (s : State) (r : ObjReq) (sid : Nat) (str kset : Byte) (x : Session) (key : _), s.awake = true ∧ r.ok = true ∧
      str.toNat < 2 ∧ kset.toNat < 2 ∧ s.openSid .doe sid = some x ∧ tblFind (s.ide str.toNat).loaded kset.toNat =
      some key) ∧
    (∃ (s : State) (i k : Nat) (key : List Nat), i < 2 ∧ (s.ide i).next = some k ∧ tblFind (s.ide i).loaded k = some
      key) :=
  ⟨(let r : ObjReq := { tag := 1 };
     let req : SignedBody := ownerBody 3 2 3 true;
     let s : State := State.reset;
     let s : State := { s with pwr := { s.pwr with phase := 3 } };
     let s : State := { s with sec := { s.sec with chalOwner := some 9, slots := [(3, { state := 1 })] } };
     ⟨s, r, req, by decide +kernel⟩),
    (let r : ObjReq := { tag := 1 };
     let req : SignedBody := ownerBody 3 3 3 true;
     let s : State := State.reset;
     let s : State := { s with pwr := { s.pwr with phase := 3 } };
     let s : State := { s with sec := { s.sec with chalOwner := some 9, slots := [(3, { state := 1 })] } };
     ⟨s, r, req, by decide +kernel⟩),
    (let r : ObjReq := { tag := 1 };
     let req : SignedBody := ownerBody 4 2 3 true;
     let s : State := State.reset;
     let s : State := { s with pwr := { s.pwr with phase := 3 } };
     let s : State := { s with sec := { s.sec with chalOwner := some 9, slots := [(3, { state := 1 })] } };
     ⟨s, r, req, by decide +kernel⟩),
    (let r : ObjReq := { tag := 1 };
     let req : SignedBody := ownerBody 4 3 3 true;
     let s : State := State.reset;
     let s : State := { s with pwr := { s.pwr with phase := 3 } };
     let s : State := { s with sec := { s.sec with chalOwner := some 9, slots := [(3, { state := 1 })] } };
     ⟨s, r, req, by decide +kernel⟩),
    (let r : ObjReq := { tag := 1 };
     let req : SignedBody := ownerBody 4 0 3 true;
     let s : State := State.reset;
     let s : State := { s with pwr := { s.pwr with phase := 3 } };
     let s : State :=
        { s with sec := { s.sec with chalOwner := some 9, slots := [(0, { state := 1 }), (3, { state := 1 })] } };
     ⟨s, r, req, by decide +kernel⟩),
    (let r : ObjReq := { tag := 1 };
     let req : SignedBody := ownerBody 5 0 3 true;
     let s : State := State.reset;
     let s : State := { s with pwr := { s.pwr with phase := 3 } };
     let s : State := { s with sec := { s.sec with chalOwner := some 9, slots := [(3, { state := 1 })] } };
     ⟨s, r, req, by decide +kernel⟩),
    (let r : ObjReq := { tag := 1 };
     let sid : Nat := 0;
     let str : Byte := 0;
     let kset : Byte := 0;
     let s : State := State.reset;
     let s : State := { s with pwr := { s.pwr with phase := 3 } };
     ⟨s, r, sid, str, kset, by decide +kernel⟩),
    (let r : ObjReq := { tag := 1 };
     let sid : Nat := 5;
     let gen : Nat := 1;
     let str : Byte := 1;
     let kset : Byte := 1;
     let x : Session := { sid := 5, nonceH := 0, nonceD := 0, secret := 0 };
     let s : State := State.reset;
     let s : State := { s with pwr := { s.pwr with phase := 3 } };
     let s : State := { s with pwr := { s.pwr with phase := 3 } };
     let s : State :=
        { s with sec := { s.sec with doe := some { sid := 5, nonceH := 0, nonceD := 0, secret := 0 }, ide := [(1, { gen := some 0 })] } };
     ⟨s, r, sid, gen, str, kset, x, by decide +kernel, by decide +kernel, by decide +kernel, by decide +kernel, by decide +kernel, fun _ h => by cases h; decide⟩),
    (let r : ObjReq := { tag := 1 };
     let sid : Nat := 5;
     let gen : Nat := 3;
     let str : Byte := 1;
     let kset : Byte := 1;
     let g := 3;
     let x : Session := { sid := 5, nonceH := 0, nonceD := 0, secret := 0 };
     let s : State := State.reset;
     let s : State := { s with pwr := { s.pwr with phase := 3 } };
     let s : State := { s with pwr := { s.pwr with phase := 3 } };
     let s : State :=
        { s with sec := { s.sec with doe := some { sid := 5, nonceH := 0, nonceD := 0, secret := 0 }, ide := [(1, { gen := some 3 })] } };
     ⟨s, r, sid, gen, str, kset, x, g, by decide +kernel⟩),
    (let r : ObjReq := { tag := 1 };
     let sid : Nat := 5;
     let str : Byte := 1;
     let kset : Byte := 1;
     let x : Session := { sid := 5, nonceH := 0, nonceD := 0, secret := 0 };
     let s : State := State.reset;
     let s : State := { s with pwr := { s.pwr with phase := 3 } };
     let s : State := { s with pwr := { s.pwr with phase := 3 } };
     let s : State :=
        { s with sec := { s.sec with doe := some { sid := 5, nonceH := 0, nonceD := 0, secret := 0 }, ide := [(1, { loaded := [(0, [7])] })] } };
     ⟨s, r, sid, str, kset, x, by decide +kernel⟩),
    (let r : ObjReq := { tag := 1 };
     let sid : Nat := 5;
     let str : Byte := 1;
     let kset : Byte := 1;
     let key := [7];
     let x : Session := { sid := 5, nonceH := 0, nonceD := 0, secret := 0 };
     let s : State := State.reset;
     let s : State := { s with pwr := { s.pwr with phase := 3 } };
     let s : State := { s with pwr := { s.pwr with phase := 3 } };
     let s : State :=
        { s with sec := { s.sec with doe := some { sid := 5, nonceH := 0, nonceD := 0, secret := 0 }, ide := [(1, { loaded := [(1, [7])] })] } };
     ⟨s, r, sid, str, kset, x, key, by decide +kernel⟩),
    (let i : Nat := 1;
     let k : Nat := 1;
     let key : List Nat := [7];
     let s : State := State.reset;
     let s : State := { s with sec := { s.sec with ide := [(1, { next := some 1, loaded := [(1, [7])] })] } };
     ⟨s, i, k, key, by decide +kernel⟩)⟩

theorem witness_DebugAndFirmwareCommands_1 :
    (∃ (s : State) (r : ObjReq) (cut : Nat) (token : SignedBody) (op : _) (c : _), (op, c) ∈
      [(1, Instr.debugChallenge r), (2, .unlock r (token.bytes.take cut) (token.bytes.drop cut) token.sigOk), (3, .debugLock r)] ∧
      s.pwr.phase < 2) ∧
    (∃ (s : State) (r : ObjReq) (cut : Nat) (token : SignedBody) (op : _) (c : _), (op, c) ∈
      [(1, Instr.debugChallenge r), (2, .unlock r (token.bytes.take cut) (token.bytes.drop cut) token.sigOk), (3, .debugLock r)] ∧
      2 ≤ s.pwr.phase ∧ s.pwr.noFw = true) ∧
    (∃ (s : State) (r : ObjReq) (cut : Nat) (token : SignedBody) (op : _) (c : _), (op, c) ∈
      [(1, Instr.debugChallenge r), (2, .unlock r (token.bytes.take cut) (token.bytes.drop cut) token.sigOk), (3, .debugLock r)] ∧
      s.awake = true ∧ r.ok = false) ∧
    (∃ (token : SignedBody) (ser ch sc na : Nat) (au : Byte) (sg : List Byte), ser < 2 ^ 128 ∧ ch < 2 ^ 256 ∧ sc <
      8 ∧ na < 2 ^ 64 ∧ au.toNat < 4 ∧ sg.length < 2 ^ 32 ∧ token.bytes = [0x46, 0x44, 0x44, 0x55] ++ leBytes 16 ser
      ++ leBytes 32 ch ++ leBytes 4 sc ++ leBytes 8 na ++ [au, 0, 0, 0] ++ leBytes 4 sg.length ++ sg) ∧
    (∃ (s : State) (r : ObjReq) (token : SignedBody), s.awake = true ∧ r.ok = true ∧ tokFormat token = false) ∧
    (∃ (s : State) (r : ObjReq) (token : SignedBody), s.awake = true ∧ r.ok = true ∧ tokFormat token = true ∧
      tokSerial token ≠ s.serialNo) ∧
    (∃ (s : State) (r : ObjReq) (token : SignedBody), s.awake = true ∧ r.ok = true ∧ tokFormat token = true ∧
      tokSerial token = s.serialNo ∧ s.sec.chalDebug ≠ some (tokChallenge token)) ∧
    (∃ (s : State) (r : ObjReq) (token : SignedBody) (p : State), p =
      { s with sec := { s.sec with chalDebug := none } } ∧ s.awake = true ∧ r.ok = true ∧ tokFormat token = true ∧
      tokSerial token = s.serialNo ∧ s.sec.chalDebug = some (tokChallenge token) ∧ (s.slot (tokAuth token)).state ≠
      1) ∧
    (∃ (s : State) (r : ObjReq) (token : SignedBody) (p : State), p =
      { s with sec := { s.sec with chalDebug := none } } ∧ s.awake = true ∧ r.ok = true ∧ tokFormat token = true ∧
      tokSerial token = s.serialNo ∧ s.sec.chalDebug = some (tokChallenge token) ∧ (s.slot (tokAuth token)).state =
      1 ∧ token.sigOk = false) ∧
    (∃ (s : State) (r : ObjReq) (token : SignedBody) (p : State), p =
      { s with sec := { s.sec with chalDebug := none } } ∧ s.awake = true ∧ r.ok = true ∧ tokFormat token = true ∧
      tokSerial token = s.serialNo ∧ s.sec.chalDebug = some (tokChallenge token) ∧ (s.slot (tokAuth token)).state =
      1 ∧ token.sigOk = true ∧ s.bit R.RTC_STAT_VALID = false) ∧
    (∃ (s : State) (r : ObjReq) (token : SignedBody) (p : State), p =
      { s with sec := { s.sec with chalDebug := none } } ∧ s.awake = true ∧ r.ok = true ∧ tokFormat token = true ∧
      tokSerial token = s.serialNo ∧ s.sec.chalDebug = some (tokChallenge token) ∧ (s.slot (tokAuth token)).state =
      1 ∧ token.sigOk = true ∧ s.bit R.RTC_STAT_VALID = true ∧ s.rtcSec + 86400 < tokNotAfter token) ∧
    (∃ (s : State) (r : ObjReq) (token : SignedBody) (p : State), p =
      { s with sec := { s.sec with chalDebug := none } } ∧ s.awake = true ∧ r.ok = true ∧ tokFormat token = true ∧
      tokSerial token = s.serialNo ∧ s.sec.chalDebug = some (tokChallenge token) ∧ (s.slot (tokAuth token)).state =
      1 ∧ token.sigOk = true ∧ s.bit R.RTC_STAT_VALID = true ∧ tokNotAfter token ≤ s.rtcSec + 86400) :=
  ⟨(let r : ObjReq := { tag := 1 };
     let cut : Nat := 0;
     let token : SignedBody := body0;
     let op := (3 : Nat);
     let c := .debugLock r;
     let s : State := State.reset;
     ⟨s, r, cut, token, op, c, .tail _ (.tail _ (.head _)), by decide +kernel⟩),
    (let r : ObjReq := { tag := 1 };
     let cut : Nat := 0;
     let token : SignedBody := body0;
     let op := (3 : Nat);
     let c := .debugLock r;
     let s : State := State.reset;
     let s : State := { s with pwr := { s.pwr with phase := 2, noFw := true } };
     ⟨s, r, cut, token, op, c, .tail _ (.tail _ (.head _)), by decide +kernel, by decide +kernel⟩),
    (let r : ObjReq := { tag := 1, off := 1 };
     let cut : Nat := 0;
     let token : SignedBody := body0;
     let op := (3 : Nat);
     let c := .debugLock r;
     let s : State := State.reset;
     let s : State := { s with pwr := { s.pwr with phase := 3 } };
     let s : State := { s with pwr := { s.pwr with phase := 3 } };
     ⟨s, r, cut, token, op, c, .tail _ (.tail _ (.head _)), by decide +kernel, by decide +kernel⟩),
    (let sigOk : Bool := true;
     let ser : Nat := 0;
     let ch : Nat := 9;
     let sc : Nat := 5;
     let na : Nat := 0;
     let au : Byte := 3;
     let sg : List Byte := [1];
     let token : SignedBody :=
        { bytes := leBytes 4 0x55444446 ++ leBytes 16 0 ++ leBytes 32 9 ++ leBytes 4 5 ++ leBytes 8 0 ++ [3, 0, 0, 0] ++ leBytes 4 1 ++ [1], sigOk := true };
     ⟨token, ser, ch, sc, na, au, sg, by decide +kernel⟩),
    (let r : ObjReq := { tag := 1 };
     let token : SignedBody := body0;
     let s : State := State.reset;
     let s : State := { s with pwr := { s.pwr with phase := 3 } };
     ⟨s, r, token, by decide +kernel⟩),
    (let r : ObjReq := { tag := 1 };
     let token : SignedBody := tokenBody 7 86400 3 true;
     let s : State := State.reset;
     let s : State := { s with pwr := { s.pwr with phase := 3 } };
     let s : State := s.put (R.GID_SERIAL 0) 5;
     ⟨s, r, token, by decide +kernel⟩),
    (let r : ObjReq := { tag := 1 };
     let token : SignedBody := tokenBody 7 86400 3 true;
     let s : State := State.reset;
     let s : State := { s with pwr := { s.pwr with phase := 3 } };
     ⟨s, r, token, by decide +kernel⟩),
    (let r : ObjReq := { tag := 1 };
     let token : SignedBody := tokenBody 7 86400 3 true;
     let s : State := State.reset;
     let s : State := { s with pwr := { s.pwr with phase := 3 } };
     let s : State := { s with sec := { s.sec with chalDebug := some 9, slots := [] } };
     let p : State := { s with sec := { s.sec with chalDebug := none } };
     ⟨s, r, token, p, rfl, by decide +kernel⟩),
    (let r : ObjReq := { tag := 1 };
     let token : SignedBody := tokenBody 7 86400 3 false;
     let s : State := State.reset;
     let s : State := { s with pwr := { s.pwr with phase := 3 } };
     let s : State := { s with sec := { s.sec with chalDebug := some 9, slots := [(3, { state := 1 })] } };
     let p : State := { s with sec := { s.sec with chalDebug := none } };
     ⟨s, r, token, p, rfl, by decide +kernel⟩),
    (let r : ObjReq := { tag := 1 };
     let token : SignedBody := tokenBody 7 86400 3 true;
     let s : State := State.reset;
     let s : State := { s with pwr := { s.pwr with phase := 3 } };
     let s : State := { s with sec := { s.sec with chalDebug := some 9, slots := [(3, { state := 1 })] } };
     let p : State := { s with sec := { s.sec with chalDebug := none } };
     ⟨s, r, token, p, rfl, by decide +kernel⟩),
    (let r : ObjReq := { tag := 1 };
     let token : SignedBody := tokenBody 7 86401 3 true;
     let s : State := State.reset;
     let s : State := { s with pwr := { s.pwr with phase := 3 } };
     let s : State := { s with sec := { s.sec with chalDebug := some 9, slots := [(3, { state := 1 })] } };
     let s : State := s.putB R.RTC_STAT_VALID true;
     let p : State := { s with sec := { s.sec with chalDebug := none } };
     ⟨s, r, token, p, rfl, by decide +kernel⟩),
    (let r : ObjReq := { tag := 1 };
     let token : SignedBody := tokenBody 7 86400 3 true;
     let s : State := State.reset;
     let s : State := { s with pwr := { s.pwr with phase := 3 } };
     let s : State := { s with sec := { s.sec with chalDebug := some 9, slots := [(3, { state := 1 })] } };
     let s : State := s.putB R.RTC_STAT_VALID true;
     let p : State := { s with sec := { s.sec with chalDebug := none } };
     ⟨s, r, token, p, rfl, by decide +kernel⟩)⟩

theorem witness_DebugAndFirmwareCommands_2 :
    (∃ (s : State), s.awake = false) ∧
    (∃ (s : State) (w : Writer), s.awake = true ∧ s.matchesOwner w (s.get (R.PAGE_OWNER secPage)) = false) ∧
    (∃ (s : State) (w : Writer), 2 ≤ s.pwr.phase ∧ s.matchesOwner w (s.get (R.PAGE_OWNER secPage)) = true ∧ s.bit
      R.SEC_FWUP_STAT_BUSY = true) ∧
    (∃ (s : State) (w : Writer), 2 ≤ s.pwr.phase ∧ s.matchesOwner w (s.get (R.PAGE_OWNER secPage)) = true ∧ s.bit
      R.SEC_FWUP_STAT_BUSY = false ∧ s.fwBusy = true) ∧
    (∃ (s : State) (svn : Nat) (w : Writer) (sp : _), 2 ≤ s.pwr.phase ∧ s.matchesOwner w
      (s.get (R.PAGE_OWNER secPage)) = true ∧ s.bit R.SEC_FWUP_STAT_BUSY = false ∧ s.fwBusy = false ∧ sp = s.get
      R.SEC_FWUP_ADDR_HI_SPACE ∧ ((sp ≠ 1 ∧ sp ≠ 2) ∨ 0x80000 < s.get R.SEC_FWUP_LEN ∨ 64 < svn)) ∧
    (∃ (s : State) (svn : Nat) (w : Writer) (readOk sigOk : Bool) (sp : _), 2 ≤ s.pwr.phase ∧ s.matchesOwner w
      (s.get (R.PAGE_OWNER secPage)) = true ∧ s.bit R.SEC_FWUP_STAT_BUSY = false ∧ s.fwBusy = false ∧ sp = s.get
      R.SEC_FWUP_ADDR_HI_SPACE ∧ (sp = 1 ∨ sp = 2) ∧ s.get R.SEC_FWUP_LEN ≤ 0x80000 ∧ svn ≤ 64 ∧
      (readOk = false ∨ s.fwReadable = false ∨ sigOk = false)) ∧
    (∃ (s : State) (svn : Nat) (w : Writer) (readOk sigOk : Bool) (sp : _), 2 ≤ s.pwr.phase ∧ s.matchesOwner w
      (s.get (R.PAGE_OWNER secPage)) = true ∧ s.bit R.SEC_FWUP_STAT_BUSY = false ∧ s.fwBusy = false ∧ sp = s.get
      R.SEC_FWUP_ADDR_HI_SPACE ∧ (sp = 1 ∨ sp = 2) ∧ s.get R.SEC_FWUP_LEN ≤ 0x80000 ∧ svn ≤ 64 ∧ readOk = true ∧
      s.fwReadable = true ∧ sigOk = true ∧ svn < s.sec.otpSvn) ∧
    (∃ (s : State) (svn : Nat) (w : Writer) (readOk sigOk : Bool) (sp : _), 2 ≤ s.pwr.phase ∧ s.matchesOwner w
      (s.get (R.PAGE_OWNER secPage)) = true ∧ s.bit R.SEC_FWUP_STAT_BUSY = false ∧ s.fwBusy = false ∧ sp = s.get
      R.SEC_FWUP_ADDR_HI_SPACE ∧ (sp = 1 ∨ sp = 2) ∧ s.get R.SEC_FWUP_LEN ≤ 0x80000 ∧ svn ≤ 64 ∧ readOk = true ∧
      s.fwReadable = true ∧ sigOk = true ∧ s.sec.otpSvn ≤ svn) ∧
    (∃ (s : State) (w : Writer), s.awake = true ∧ s.matchesOwner w (s.get (R.PAGE_OWNER secPage)) = true ∧ s.bit
      R.SEC_FWUP_STAT_BUSY = true) ∧
    (∃ (s : State) (w : Writer), s.awake = true ∧ s.matchesOwner w (s.get (R.PAGE_OWNER secPage)) = true ∧ s.bit
      R.SEC_FWUP_STAT_BUSY = false ∧ s.fwBusy = true) ∧
    (∃ (s : State) (w : Writer), s.awake = true ∧ s.matchesOwner w (s.get (R.PAGE_OWNER secPage)) = true ∧ s.bit
      R.SEC_FWUP_STAT_BUSY = false ∧ s.fwBusy = false ∧ s.sec.uncommitted = true ∧ s.sec.running.svn ≤ s.sec.otpSvn) ∧
    (∃ (s : State) (w : Writer), s.awake = true ∧ s.matchesOwner w (s.get (R.PAGE_OWNER secPage)) = true ∧ s.bit
      R.SEC_FWUP_STAT_BUSY = false ∧ s.fwBusy = false ∧ s.sec.uncommitted = false) :=
  ⟨(let s : State := State.reset;
     ⟨s, by decide +kernel⟩),
    (let w : Writer := .unit 0;
     let s : State := State.reset;
     let s : State := { s with pwr := { s.pwr with phase := 3 } };
     ⟨s, w, by decide +kernel⟩),
    (let w : Writer := .secure;
     let s : State := State.reset;
     let s : State := { s with pwr.phase := 2 };
     let s : State := s.putB R.SEC_FWUP_STAT_BUSY true;
     ⟨s, w, by decide +kernel⟩),
    (let w : Writer := .secure;
     let s : State := State.reset;
     let s : State := { s with pwr := { s.pwr with phase := 2, noFw := true } };
     let s : State := s.put R.LAT_LOAD_STAT_STATE 4;
     ⟨s, w, by decide +kernel⟩),
    (let svn : Nat := 0;
     let w : Writer := .secure;
     let sp := (0 : Nat);
     let s : State := State.reset;
     let s : State := { s with pwr := { s.pwr with phase := 2, noFw := true } };
     ⟨s, svn, w, sp, by decide +kernel⟩),
    (let svn : Nat := 0;
     let w : Writer := .secure;
     let readOk : Bool := false;
     let sigOk : Bool := true;
     let sp := (1 : Nat);
     let s : State := State.reset;
     let s : State := { s with pwr := { s.pwr with phase := 2, noFw := true } };
     let s : State := s.put R.SEC_FWUP_ADDR_HI_SPACE 1;
     ⟨s, svn, w, readOk, sigOk, sp, by decide +kernel⟩),
    (let svn : Nat := 2;
     let w : Writer := .secure;
     let readOk : Bool := true;
     let sigOk : Bool := true;
     let sp := (1 : Nat);
     let s : State := State.reset;
     let s : State := { s with pwr := { s.pwr with phase := 2, noFw := true } };
     let s : State := (s.put R.SEC_FWUP_ADDR_HI_SPACE 1).put R.MEM_CTX_BASE 64;
     let s : State := { s with sec := { s.sec with otpSvn := 3 } };
     ⟨s, svn, w, readOk, sigOk, sp, by decide +kernel⟩),
    (let svn : Nat := 3;
     let w : Writer := .secure;
     let readOk : Bool := true;
     let sigOk : Bool := true;
     let sp := (1 : Nat);
     let s : State := State.reset;
     let s : State := { s with pwr := { s.pwr with phase := 2, noFw := true } };
     let s : State := (s.put R.SEC_FWUP_ADDR_HI_SPACE 1).put R.MEM_CTX_BASE 64;
     let s : State := { s with sec := { s.sec with otpSvn := 3 } };
     ⟨s, svn, w, readOk, sigOk, sp, by decide +kernel⟩),
    (let w : Writer := .secure;
     let s : State := State.reset;
     let s : State := { s with pwr := { s.pwr with phase := 3 } };
     let s : State := s.putB R.SEC_FWUP_STAT_BUSY true;
     ⟨s, w, by decide +kernel⟩),
    (let w : Writer := .secure;
     let s : State := State.reset;
     let s : State := { s with pwr := { s.pwr with phase := 3 } };
     let s : State := s.put R.LAT_LOAD_STAT_STATE 4;
     ⟨s, w, by decide +kernel⟩),
    (let w : Writer := .secure;
     let s : State := State.reset;
     let s : State := { s with pwr := { s.pwr with phase := 3 } };
     let s : State := s.putB R.SEC_FWUP_STAT_BUSY false;
     let s : State := { s with sec.uncommitted := true };
     ⟨s, w, by decide +kernel⟩),
    (let w : Writer := .secure;
     let s : State := State.reset;
     let s : State := { s with pwr := { s.pwr with phase := 3 } };
     let s : State := s.putB R.SEC_FWUP_STAT_BUSY false;
     let s : State := { s with sec.uncommitted := false };
     ⟨s, w, by decide +kernel⟩)⟩

theorem witness_DebugAndFirmwareCommands_3 :
    (∃ (s : State) (w : Writer), s.awake = true ∧ s.matchesOwner w (s.get (R.PAGE_OWNER secPage)) = true ∧ s.bit
      R.SEC_FWUP_STAT_BUSY = false ∧ s.fwBusy = false ∧ s.sec.uncommitted = true ∧ s.sec.otpSvn < s.sec.running.svn) ∧
    (∃ (s : State), s.sec.fwWork = none) ∧
    (∃ (s : State) (x : FwWork), s.sec.fwWork = some x) ∧
    (∃ (s : State) (m : Fin 6), s.flt.pfail = true ∧ (m.val = 0 ∨ m.val = 1 ∨ m.val = 5)) ∧
    (∃ (s : State) (m : Fin 6), (s.flt.pfail = false ∨ m.val = 2 ∨ m.val = 3 ∨ m.val = 4)) :=
  ⟨(let svn : Nat := 0;
     let w : Writer := .secure;
     let s : State := State.reset;
     let s : State := { s with pwr := { s.pwr with phase := 3 } };
     let s : State := { s with pwr := { s.pwr with phase := 3 } };
     let s : State := { s with sec := { s.sec with uncommitted := true, running := { svn := 4 } } };
     ⟨s, w, by decide +kernel⟩),
    (let s : State := State.reset;
     let s : State := { s with sec.fwWork := none };
     ⟨s, by decide +kernel⟩),
    (let x : FwWork := { op := 1, status := 0, img := {} };
     let s : State := State.reset;
     let s : State := { s with sec := { s.sec with fwWork := some x } };
     ⟨s, x, by decide +kernel⟩),
    (let m : Fin 6 := 0;
     let s : State := State.reset;
     let s : State := { s with flt.pfail := true };
     ⟨s, m, by decide +kernel⟩),
    (let m : Fin 6 := 0;
     let s : State := State.reset;
     let s : State := { s with flt.pfail := false };
     ⟨s, m, by decide +kernel⟩)⟩

theorem witness_PowerDomainCommands_1 :
    (∃ (s : State), s.awake = false) ∧
    (∃ (s : State) (w : Writer), s.awake = true ∧ s.matchesOwner w (s.get (R.PAGE_OWNER pwrPage)) = false) ∧
    (∃ (s : State) (w : Writer) (d : Byte) (p q : State), p = (s.put R.PWR_CMD_DOMAIN d.toNat).put R.PWR_CMD_OP 1 ∧ q
      = (s.put R.PWR_CMD_DOMAIN d.toNat).put R.PWR_CMD_OP 2 ∧ s.awake = true ∧ s.matchesOwner w
      (s.get (R.PAGE_OWNER pwrPage)) = true ∧ s.bit R.PWR_CMD_BUSY = true) ∧
    (∃ (s : State) (w : Writer) (d : Byte) (p q : State), p = (s.put R.PWR_CMD_DOMAIN d.toNat).put R.PWR_CMD_OP 1 ∧ q
      = (s.put R.PWR_CMD_DOMAIN d.toNat).put R.PWR_CMD_OP 2 ∧ s.awake = true ∧ s.matchesOwner w
      (s.get (R.PAGE_OWNER pwrPage)) = true ∧ s.bit R.PWR_CMD_BUSY = false ∧ 212 ≤ d.toNat) ∧
    (∃ (s : State) (w : Writer) (d : Byte) (p q : State), p = (s.put R.PWR_CMD_DOMAIN d.toNat).put R.PWR_CMD_OP 1 ∧ q
      = (s.put R.PWR_CMD_DOMAIN d.toNat).put R.PWR_CMD_OP 2 ∧ s.awake = true ∧ s.matchesOwner w
      (s.get (R.PAGE_OWNER pwrPage)) = true ∧ s.bit R.PWR_CMD_BUSY = false ∧ d.toNat < 212 ∧ s.domOn d.toNat =
      false ∧ p.onRefused d.toNat = true) ∧
    (∃ (s : State) (w : Writer) (d : Byte) (p q : State), p = (s.put R.PWR_CMD_DOMAIN d.toNat).put R.PWR_CMD_OP 1 ∧ q
      = (s.put R.PWR_CMD_DOMAIN d.toNat).put R.PWR_CMD_OP 2 ∧ s.awake = true ∧ s.matchesOwner w
      (s.get (R.PAGE_OWNER pwrPage)) = true ∧ s.bit R.PWR_CMD_BUSY = false ∧ d.toNat < 212 ∧ s.domOn d.toNat =
      false ∧ p.onRefused d.toNat = false) ∧
    (∃ (s : State) (w : Writer) (d : Byte) (p q : State), p = (s.put R.PWR_CMD_DOMAIN d.toNat).put R.PWR_CMD_OP 1 ∧ q
      = (s.put R.PWR_CMD_DOMAIN d.toNat).put R.PWR_CMD_OP 2 ∧ s.awake = true ∧ s.matchesOwner w
      (s.get (R.PAGE_OWNER pwrPage)) = true ∧ s.bit R.PWR_CMD_BUSY = false ∧ d.toNat < 212 ∧ s.domOn d.toNat = true ∧
      q.offRefused d.toNat = true) ∧
    (∃ (s : State) (w : Writer) (d : Byte) (p q : State), p = (s.put R.PWR_CMD_DOMAIN d.toNat).put R.PWR_CMD_OP 1 ∧ q
      = (s.put R.PWR_CMD_DOMAIN d.toNat).put R.PWR_CMD_OP 2 ∧ s.awake = true ∧ s.matchesOwner w
      (s.get (R.PAGE_OWNER pwrPage)) = true ∧ s.bit R.PWR_CMD_BUSY = false ∧ d.toNat < 212 ∧ s.domOn d.toNat = true ∧
      q.offRefused d.toNat = false) ∧
    (∃ (s : State) (k : Fin 212), s.pwr.offs.contains k.val = false) ∧
    (∃ (s : State) (k : Fin 212) (u : _), u ∈ domUnits k ∧ s.sched.quiesce.contains (s.unitId u, 3) = false) ∧
    (∃ (s : State) (k : Fin 212), s.pwr.offs.contains k.val = true ∧
      (∀ u ∈ domUnits k, s.sched.quiesce.contains (s.unitId u, 3) = true)) ∧
    (∃ (s : State) (k : Fin 212) (j : _), tblFind s.pwr.starts k.val = some j ∧ j = 1) :=
  ⟨(let s : State := State.reset;
     ⟨s, by decide +kernel⟩),
    (let w : Writer := .unit 0;
     let s : State := State.reset;
     let s : State := { s with pwr := { s.pwr with phase := 3 } };
     ⟨s, w, by decide +kernel⟩),
    (let w : Writer := .secure;
     let d : Byte := 0;
     let s : State := State.reset;
     let s : State := { s with pwr := { s.pwr with phase := 3 } };
     let s : State := s.putB R.PWR_CMD_BUSY true;
     let p : State := (s.put R.PWR_CMD_DOMAIN d.toNat).put R.PWR_CMD_OP 1;
     let q : State := (s.put R.PWR_CMD_DOMAIN d.toNat).put R.PWR_CMD_OP 2;
     ⟨s, w, d, p, q, rfl, rfl, by decide +kernel⟩),
    (let w : Writer := .secure;
     let d : Byte := 212;
     let s : State := State.reset;
     let s : State := { s with pwr := { s.pwr with phase := 3 } };
     let s : State := s.putB R.PWR_CMD_BUSY false;
     let p : State := (s.put R.PWR_CMD_DOMAIN d.toNat).put R.PWR_CMD_OP 1;
     let q : State := (s.put R.PWR_CMD_DOMAIN d.toNat).put R.PWR_CMD_OP 2;
     ⟨s, w, d, p, q, rfl, rfl, by decide +kernel⟩),
    (let w : Writer := .secure;
     let d : Byte := 0;
     let s : State := State.reset;
     let s : State := { s with pwr := { s.pwr with phase := 3 } };
     let s : State := (s.putB R.PWR_CMD_BUSY false).setDom d.toNat false;
     let p : State := (s.put R.PWR_CMD_DOMAIN d.toNat).put R.PWR_CMD_OP 1;
     let q : State := (s.put R.PWR_CMD_DOMAIN d.toNat).put R.PWR_CMD_OP 2;
     ⟨s, w, d, p, q, rfl, rfl, by decide +kernel⟩),
    (let w : Writer := .secure;
     let d : Byte := 128;
     let s : State := State.reset;
     let s : State := { s with pwr := { s.pwr with phase := 3 } };
     let s : State := (s.putB R.PWR_CMD_BUSY false).setDom d.toNat false;
     let p : State := (s.put R.PWR_CMD_DOMAIN d.toNat).put R.PWR_CMD_OP 1;
     let q : State := (s.put R.PWR_CMD_DOMAIN d.toNat).put R.PWR_CMD_OP 2;
     ⟨s, w, d, p, q, rfl, rfl, by decide +kernel⟩),
    (let w : Writer := .secure;
     let d : Byte := 128;
     let s : State := State.reset;
     let s : State := { s with pwr := { s.pwr with phase := 3 } };
     let s : State := (s.setDom 128 true).setDom 7 true;
     let p : State := (s.put R.PWR_CMD_DOMAIN d.toNat).put R.PWR_CMD_OP 1;
     let q : State := (s.put R.PWR_CMD_DOMAIN d.toNat).put R.PWR_CMD_OP 2;
     ⟨s, w, d, p, q, rfl, rfl, by decide +kernel⟩),
    (let w : Writer := .secure;
     let d : Byte := 0;
     let s : State := State.reset;
     let s : State := { s with pwr := { s.pwr with phase := 3 } };
     let s : State := (s.putB R.PWR_CMD_BUSY false).setDom d.toNat true;
     let p : State := (s.put R.PWR_CMD_DOMAIN d.toNat).put R.PWR_CMD_OP 1;
     let q : State := (s.put R.PWR_CMD_DOMAIN d.toNat).put R.PWR_CMD_OP 2;
     ⟨s, w, d, p, q, rfl, rfl, by decide +kernel⟩),
    (let k : Fin 212 := 0;
     let s : State := State.reset;
     ⟨s, k, by decide +kernel⟩),
    (let k : Fin 212 := 211;
     let u := 0x307;
     let s : State := State.reset;
     ⟨s, k, u, by decide +kernel⟩),
    (let k : Fin 212 := 127;
     let s : State := State.reset;
     let s : State := { s with pwr := { s.pwr with offs := [127] } };
     let s : State := { s with sched := { s.sched with quiesce := [(0x17F, 3)] } };
     ⟨s, k, by decide +kernel⟩),
    (let k : Fin 212 := 0;
     let j := 1;
     let s : State := State.reset;
     let s : State := { s with pwr.starts := [(k.val, j)] };
     ⟨s, k, j, by decide +kernel⟩)⟩

theorem witness_PowerDomainCommands_2 :
    (∃ (s : State) (k : Fin 212) (j : _), tblFind s.pwr.starts k.val = some j ∧ j = 2) ∧
    (∃ (s : State) (k : Fin 212) (j : _), tblFind s.pwr.starts k.val = some j ∧ j = 3) ∧
    (∃ (s : State) (k : Fin 212) (j : _), tblFind s.pwr.starts k.val = some j ∧ j ≠ 1) ∧
    (∃ (s : State) (k : Fin 212) (j : _), tblFind s.pwr.starts k.val = some j ∧ j ≠ 2) ∧
    (∃ (s : State) (k : Fin 212) (j : _), tblFind s.pwr.starts k.val = some j ∧ j ≠ 3) ∧
    (∃ (s : State) (k : Fin 212) (j : _), tblFind s.pwr.starts k.val = some j ∧ j < 3) ∧
    (∃ (s : State) (k : Fin 212) (j : _), tblFind s.pwr.starts k.val = some j ∧ 3 ≤ j) ∧
    (∃ (s : State) (k : Fin 212), tblFind s.pwr.starts k.val = none) :=
  ⟨(let k : Fin 212 := 0;
     let j := 2;
     let s : State := State.reset;
     let s : State := { s with pwr.starts := [(k.val, j)] };
     ⟨s, k, j, by decide +kernel⟩),
    (let k : Fin 212 := 0;
     let j := 3;
     let s : State := State.reset;
     let s : State := { s with pwr.starts := [(k.val, j)] };
     ⟨s, k, j, by decide +kernel⟩),
    (let k : Fin 212 := 0;
     let j := 0;
     let s : State := State.reset;
     let s : State := { s with pwr.starts := [(k.val, j)] };
     ⟨s, k, j, by decide +kernel⟩),
    (let k : Fin 212 := 0;
     let j := 0;
     let s : State := State.reset;
     let s : State := { s with pwr.starts := [(k.val, j)] };
     ⟨s, k, j, by decide +kernel⟩),
    (let k : Fin 212 := 0;
     let j := 0;
     let s : State := State.reset;
     let s : State := { s with pwr.starts := [(k.val, j)] };
     ⟨s, k, j, by decide +kernel⟩),
    (let k : Fin 212 := 0;
     let j := 2;
     let s : State := State.reset;
     let s : State := { s with pwr.starts := [(k.val, j)] };
     ⟨s, k, j, by decide +kernel⟩),
    (let k : Fin 212 := 0;
     let j := 3;
     let s : State := State.reset;
     let s : State := { s with pwr.starts := [(k.val, j)] };
     ⟨s, k, j, by decide +kernel⟩),
    (let k : Fin 212 := 0;
     let s : State := State.reset;
     ⟨s, k, by decide +kernel⟩)⟩

theorem witness_PowerUpAndFailure_1 :
    (∃ (s : State), s.pwr.phase ≠ 1) ∧
    (∃ (s : State) (aOk bOk : Bool), aOk = true ∧ s.sec.otpSvn ≤ s.sec.bankA.svn ∧ s.pwr.phase = 1 ∧
      (s.sec.activeB = false ∨ bOk = false ∨ s.sec.bankB.svn < s.sec.otpSvn)) ∧
    (∃ (s : State) (aOk bOk : Bool), bOk = true ∧ s.sec.otpSvn ≤ s.sec.bankB.svn ∧ s.pwr.phase = 1 ∧
      (s.sec.activeB = true ∨ aOk = false ∨ s.sec.bankA.svn < s.sec.otpSvn)) ∧
    (∃ (s : State) (aOk bOk : Bool), s.pwr.phase = 1 ∧ (aOk = false ∨ s.sec.bankA.svn < s.sec.otpSvn) ∧
      (bOk = false ∨ s.sec.bankB.svn < s.sec.otpSvn)) ∧
    (∃ (s : State), (s.pwr.phase ≠ 2 ∨ s.pwr.noFw = true)) ∧
    (∃ (s : State), s.pwr.phase = 2 ∧ s.pwr.noFw = false) ∧
    (∃ (s : State) (rail : Rail), rail ≠ .v24 ∧ s.pwr.phase = 0) ∧
    (∃ (s : State) (rail : Rail), rail ≠ .v24 ∧ s.pwr.phase ≠ 0) ∧
    (∃ (s : State), s.v24Watched = false) ∧
    (∃ (s : State), s.v24Watched = true) ∧
    (∃ (t : _) (n : _), t < 32 ∧ n < 8) ∧
    (∃ (s : State), (s.flt.pfail = true ∨ s.pwr.phase = 0)) :=
  ⟨(let s : State := State.reset;
     let s : State := { s with pwr.phase := 0 };
     ⟨s, by decide +kernel⟩),
    (let bOk : Bool := true;
     let s : State := State.reset;
     let s : State := { s with pwr.phase := 1 };
     let s : State := { s with sec.activeB := false };
     let aOk : Bool := true ∧ s.sec.otpSvn ≤ s.sec.bankA.svn;
     ⟨s, aOk, bOk, rfl, by decide +kernel⟩),
    (let aOk : Bool := true;
     let s : State := State.reset;
     let s : State := { s with pwr.phase := 1 };
     let s : State := { s with sec.activeB := true };
     let bOk : Bool := true ∧ s.sec.otpSvn ≤ s.sec.bankB.svn;
     ⟨s, aOk, bOk, rfl, by decide +kernel⟩),
    (let aOk : Bool := false;
     let bOk : Bool := false;
     let s : State := State.reset;
     let s : State := { s with pwr.phase := 1 };
     ⟨s, aOk, bOk, by decide +kernel⟩),
    (let s : State := State.reset;
     let s : State := { s with pwr.phase := 0 };
     ⟨s, by decide +kernel⟩),
    (let s : State := State.reset;
     let s : State := { s with pwr.phase := 2 };
     let s : State := { s with pwr.noFw := false };
     ⟨s, by decide +kernel⟩),
    (let rail : Rail := .vfp;
     let s : State := State.reset;
     ⟨s, rail, by decide +kernel⟩),
    (let rail : Rail := .vfn;
     let s : State := State.reset;
     let s : State := { s with pwr := { s.pwr with phase := 3 } };
     ⟨s, rail, by decide +kernel⟩),
    (let s : State := State.reset;
     ⟨s, by decide +kernel⟩),
    (let s : State := ((State.reset).putB R.PFAIL_CFG_V24_EN true).putB R.PFAIL_STAT_V24_ARMED true;
     ⟨s, by decide +kernel⟩),
    (let t := (31 : Nat);
     let n := (7 : Nat);
     ⟨t, n, by decide +kernel⟩),
    (let s : State := State.reset;
     let s : State := { s with flt.pfail := true };
     ⟨s, by decide +kernel⟩)⟩

theorem witness_PowerUpAndFailure_2 :
    (∃ (s : State), s.flt.pfail = false ∧ s.pwr.phase ≠ 0 ∧ s.rcfg.girth = false) ∧
    (∃ (s : State), (s.flt.pfail = false ∨ s.pwr.flushed = true)) ∧
    (∃ (s : State), s.flt.pfail = true ∧ s.pwr.flushed = false) :=
  ⟨(let s : State := State.reset;
     let s : State := { s with flt.pfail := false };
     let s : State := { s with pwr.phase := 1 };
     let s : State := { s with rcfg.girth := false };
     ⟨s, by decide +kernel⟩),
    (let s : State := State.reset;
     let s : State := { s with flt.pfail := false };
     ⟨s, by decide +kernel⟩),
    (let s : State := State.reset;
     let s : State := { s with flt.pfail := true };
     let s : State := { s with pwr.flushed := false };
     ⟨s, by decide +kernel⟩)⟩

theorem witness_TimeAndLedgerCommands_1 :
    (∃ (s : State), s.bit R.RTC_STAT_ON_VBAT = true) ∧
    (∃ (s : State), s.bit R.RTC_STAT_ON_VBAT = false) ∧
    (∃ (s : State), s.pwr.dark = true) ∧
    (∃ (s : State), s.pwr.dark = false) ∧
    (∃ (s : State), s.pwr.phase = 0) ∧
    (∃ (s : State), s.pwr.phase ≠ 0) ∧
    (∃ (s : State) (t : Fin 32), s.domOn (domConv t) = true ∧ s.bit (R.TILE_TEMP_VALID t) = true) ∧
    (∃ (s : State) (t : Fin 32), (s.domOn (domConv t) = false ∨ s.bit (R.TILE_TEMP_VALID t) = false)) ∧
    (∃ (s : State) (k : Fin 32), (s.reached (s.reminder k) = false ∨ s.getIdx R.LDG_REM_DUE k = true)) ∧
    (∃ (s : State) (k : Fin 32), s.reached (s.reminder k) = true ∧ s.getIdx R.LDG_REM_DUE k = false) ∧
    (∃ (s : State) (w : Writer) (arg : Word) (op : _) (c : _), (op, c) ∈
      [(1, Instr.readCounters w arg), (2, .readHist w arg), (3, .readCal w arg), (4, .readRem w arg), (5, .setRem w arg), (6, .ackRem w arg), (7, .readLog w arg)] ∧
      s.awake = false) ∧
    (∃ (s : State) (w : Writer) (arg : Word) (op : _) (c : _), (op, c) ∈
      [(1, Instr.readCounters w arg), (2, .readHist w arg), (3, .readCal w arg), (4, .readRem w arg), (5, .setRem w arg), (6, .ackRem w arg), (7, .readLog w arg)] ∧
      s.awake = true ∧ s.matchesOwner w (s.get (R.PAGE_OWNER licPage)) = false) :=
  ⟨(let s : State := (State.reset).putB R.RTC_STAT_ON_VBAT true;
     ⟨s, by decide +kernel⟩),
    (let s : State := (State.reset).putB R.RTC_STAT_ON_VBAT false;
     ⟨s, by decide +kernel⟩),
    (let s : State := State.reset;
     let s : State := { s with pwr.dark := true };
     ⟨s, by decide +kernel⟩),
    (let s : State := State.reset;
     let s : State := { s with pwr.dark := false };
     ⟨s, by decide +kernel⟩),
    (let s : State := State.reset;
     let s : State := { s with pwr.phase := 0 };
     ⟨s, by decide +kernel⟩),
    (let s : State := State.reset;
     let s : State := { s with pwr.phase := 1 };
     ⟨s, by decide +kernel⟩),
    (let t : Fin 32 := 0;
     let s : State := ((State.reset).setDom (domConv t) true).putB (R.TILE_TEMP_VALID t) true;
     ⟨s, t, by decide +kernel⟩),
    (let t : Fin 32 := 0;
     let s : State := (State.reset).setDom (domConv t) false;
     ⟨s, t, by decide +kernel⟩),
    (let k : Fin 32 := 0;
     let s : State := State.reset;
     ⟨s, k, by decide +kernel⟩),
    (let k : Fin 32 := 0;
     let s : State := State.reset;
     let s : State :=
        { s with ledger := { s.ledger with reminders := [(k.val, { kind := 2, pin := 0, id := 0, thresh := 0 })] } };
     ⟨s, k, by decide +kernel⟩),
    (let w : Writer := .secure;
     let arg : Word := 0;
     let op := (7 : Nat);
     let c := .readLog w arg;
     let s : State := State.reset;
     ⟨s, w, arg, op, c, .tail _ (.tail _ (.tail _ (.tail _ (.tail _ (.tail _ (.head _)))))), by decide +kernel⟩),
    (let w : Writer := .unit 0;
     let arg : Word := 0;
     let op := (6 : Nat);
     let c := .ackRem w arg;
     let s : State := State.reset;
     let s : State := { s with pwr := { s.pwr with phase := 3 } };
     let s : State := { s with pwr := { s.pwr with phase := 3 } };
     ⟨s, w, arg, op, c, .tail _ (.tail _ (.tail _ (.tail _ (.tail _ (.head _))))), by decide +kernel, by decide +kernel⟩)⟩

theorem witness_TimeAndLedgerCommands_2 :
    (∃ (s : State) (w : Writer) (arg : Word) (op : _) (c : _) (p : State) (data : Nat), p =
      (s.put R.LDG_CMD_OP op).put R.LDG_ARG arg.toNat ∧ data = s.get (R.LDG_DATA 0) + s.get (R.LDG_DATA 1) * 2 ^ 32 +
      s.get (R.LDG_DATA 2) * 2 ^ 64 ∧ (op, c) ∈
      [(1, Instr.readCounters w arg), (2, .readHist w arg), (3, .readCal w arg), (4, .readRem w arg), (5, .setRem w arg), (6, .ackRem w arg), (7, .readLog w arg)] ∧
      s.awake = true ∧ s.matchesOwner w (s.get (R.PAGE_OWNER licPage)) = true ∧ s.bit R.LDG_STAT_BUSY = true) ∧
    (∃ (s : State) (w : Writer) (arg : Word) (op : _) (c : _) (p : State) (data : Nat), p =
      (s.put R.LDG_CMD_OP op).put R.LDG_ARG arg.toNat ∧ data = s.get (R.LDG_DATA 0) + s.get (R.LDG_DATA 1) * 2 ^ 32 +
      s.get (R.LDG_DATA 2) * 2 ^ 64 ∧ (op, c) ∈
      [(1, Instr.readCounters w arg), (2, .readHist w arg), (3, .readCal w arg), (4, .readRem w arg), (5, .setRem w arg), (6, .ackRem w arg), (7, .readLog w arg)] ∧
      s.awake = true ∧ s.matchesOwner w (s.get (R.PAGE_OWNER licPage)) = true ∧ s.bit R.LDG_STAT_BUSY = false ∧
      s.flt.pfail = true) ∧
    (∃ (s : State) (w : Writer) (arg : Word) (op : _) (c : _) (p : State) (data : Nat), p =
      (s.put R.LDG_CMD_OP op).put R.LDG_ARG arg.toNat ∧ data = s.get (R.LDG_DATA 0) + s.get (R.LDG_DATA 1) * 2 ^ 32 +
      s.get (R.LDG_DATA 2) * 2 ^ 64 ∧ (op, c) ∈
      [(1, Instr.readCounters w arg), (2, .readHist w arg), (3, .readCal w arg), (4, .readRem w arg), (5, .setRem w arg), (6, .ackRem w arg), (7, .readLog w arg)] ∧
      s.awake = true ∧ s.matchesOwner w (s.get (R.PAGE_OWNER licPage)) = true ∧ s.bit R.LDG_STAT_BUSY = false ∧
      s.flt.pfail = false ∧ ldgBad op arg.toNat data ≠ 0) ∧
    (∃ (s : State) (w : Writer) (arg : Word) (op : _) (c : _) (p : State) (data : Nat), p =
      (s.put R.LDG_CMD_OP op).put R.LDG_ARG arg.toNat ∧ data = s.get (R.LDG_DATA 0) + s.get (R.LDG_DATA 1) * 2 ^ 32 +
      s.get (R.LDG_DATA 2) * 2 ^ 64 ∧ (op, c) ∈
      [(1, Instr.readCounters w arg), (2, .readHist w arg), (3, .readCal w arg), (4, .readRem w arg), (5, .setRem w arg), (6, .ackRem w arg), (7, .readLog w arg)] ∧
      s.awake = true ∧ s.matchesOwner w (s.get (R.PAGE_OWNER licPage)) = true ∧ s.bit R.LDG_STAT_BUSY = false ∧
      s.flt.pfail = false ∧ ldgBad op arg.toNat data = 0) ∧
    (∃ (s : State), (s.bit R.LDG_STAT_BUSY = false ∨ s.ledger.work = none)) ∧
    (∃ (s : State) (x : LdgWork), s.bit R.LDG_STAT_BUSY = true ∧ s.ledger.work = some x ∧ x.op = 5) ∧
    (∃ (s : State) (x : LdgWork), s.bit R.LDG_STAT_BUSY = true ∧ s.ledger.work = some x ∧ x.op = 6 ∧ x.arg < 32) ∧
    (∃ (s : State) (x : LdgWork), s.bit R.LDG_STAT_BUSY = true ∧ s.ledger.work = some x ∧ x.op = 4) :=
  ⟨(let w : Writer := .secure;
     let arg : Word := 0;
     let op := (1 : Nat);
     let c := .readCounters w arg;
     let s : State := State.reset;
     let s : State := { s with pwr := { s.pwr with phase := 3 } };
     let s : State := { s with pwr := { s.pwr with phase := 3 } };
     let s : State := s.putB R.LDG_STAT_BUSY true;
     let p : State := (s.put R.LDG_CMD_OP op).put R.LDG_ARG arg.toNat;
     let data : Nat := s.get (R.LDG_DATA 0) + s.get (R.LDG_DATA 1) * 2 ^ 32 + s.get (R.LDG_DATA 2) * 2 ^ 64;
     ⟨s, w, arg, op, c, p, data, rfl, rfl, .head _, by decide +kernel, by decide +kernel, by decide +kernel⟩),
    (let w : Writer := .secure;
     let arg : Word := 0;
     let op := (3 : Nat);
     let c := .readCal w arg;
     let s : State := State.reset;
     let s : State := { s with pwr := { s.pwr with phase := 3 } };
     let s : State := { s with pwr := { s.pwr with phase := 3 } };
     let s : State := { s with flt := { s.flt with pfail := true } };
     let p : State := (s.put R.LDG_CMD_OP op).put R.LDG_ARG arg.toNat;
     let data : Nat := s.get (R.LDG_DATA 0) + s.get (R.LDG_DATA 1) * 2 ^ 32 + s.get (R.LDG_DATA 2) * 2 ^ 64;
     ⟨s, w, arg, op, c, p, data, rfl, rfl, .tail _ (.tail _ (.head _)), by decide +kernel, by decide +kernel, by decide +kernel, by decide +kernel⟩),
    (let w : Writer := .secure;
     let arg : Word := 4;
     let op := (5 : Nat);
     let c := .setRem w arg;
     let s : State := State.reset;
     let s : State := { s with pwr := { s.pwr with phase := 3 } };
     let s : State := { s with pwr := { s.pwr with phase := 3 } };
     let p : State := (s.put R.LDG_CMD_OP op).put R.LDG_ARG arg.toNat;
     let data : Nat := s.get (R.LDG_DATA 0) + s.get (R.LDG_DATA 1) * 2 ^ 32 + s.get (R.LDG_DATA 2) * 2 ^ 64;
     ⟨s, w, arg, op, c, p, data, rfl, rfl, .tail _ (.tail _ (.tail _ (.tail _ (.head _)))), by decide +kernel, by decide +kernel, by decide +kernel, by decide +kernel, by decide +kernel⟩),
    (let w : Writer := .secure;
     let arg : Word := 0;
     let op := (6 : Nat);
     let c := .ackRem w arg;
     let s : State := State.reset;
     let s : State := { s with pwr := { s.pwr with phase := 3 } };
     let s : State := { s with pwr := { s.pwr with phase := 3 } };
     let p : State := (s.put R.LDG_CMD_OP op).put R.LDG_ARG arg.toNat;
     let data : Nat := s.get (R.LDG_DATA 0) + s.get (R.LDG_DATA 1) * 2 ^ 32 + s.get (R.LDG_DATA 2) * 2 ^ 64;
     ⟨s, w, arg, op, c, p, data, rfl, rfl, .tail _ (.tail _ (.tail _ (.tail _ (.tail _ (.head _))))), by decide +kernel, by decide +kernel, by decide +kernel, by decide +kernel, by decide +kernel⟩),
    (let s : State := (State.reset).putB R.LDG_STAT_BUSY false;
     ⟨s, by decide +kernel⟩),
    (let arg : Word := 0;
     let x : LdgWork := ({ ({ op := 0, arg := 0, data := 0 } : LdgWork) with op := 5 } : LdgWork);
     let s : State := (State.reset).putB R.LDG_STAT_BUSY true;
     let s : State := { s with ledger.work := some x };
     ⟨s, x, by decide +kernel⟩),
    (let arg : Word := 0;
     let x : LdgWork := ({ ({ op := 0, arg := 0, data := 0 } : LdgWork) with op := 6 } : LdgWork);
     let s : State := (State.reset).putB R.LDG_STAT_BUSY true;
     let s : State := { s with ledger.work := some x };
     ⟨s, x, by decide +kernel⟩),
    (let arg : Word := 0;
     let x : LdgWork := ({ ({ op := 0, arg := 0, data := 0 } : LdgWork) with op := 4 } : LdgWork);
     let s : State := (State.reset).putB R.LDG_STAT_BUSY true;
     let s : State := { s with ledger.work := some x };
     ⟨s, x, by decide +kernel⟩)⟩

theorem witness_FaultPageCommands_1 :
    (∃ (s : State), s.flt.safeN = true) ∧
    (∃ (s : State), s.awake = false) ∧
    (∃ (s : State) (w : Writer), s.awake = true ∧ s.matchesOwner w (s.get (R.PAGE_OWNER fltPage)) = false) ∧
    (∃ (s : State) (w : Writer), s.awake = true ∧ s.matchesOwner w (s.get (R.PAGE_OWNER fltPage)) = true ∧ s.flt.fifo
      = []) ∧
    (∃ (s : State) (w : Writer) (r : FltRec) (l : List FltRec), s.awake = true ∧ s.matchesOwner w
      (s.get (R.PAGE_OWNER fltPage)) = true ∧ s.flt.fifo = r :: l ∧ (r.cls ≠ 2 ∨ s.bit R.FLT_CFG_POP_ACK = false)) ∧
    (∃ (s : State) (w : Writer) (r : FltRec) (l : List FltRec), s.awake = true ∧ s.matchesOwner w
      (s.get (R.PAGE_OWNER fltPage)) = true ∧ s.flt.fifo = r :: l ∧ r.cls = 2 ∧ s.bit R.FLT_CFG_POP_ACK = true) ∧
    (∃ (s : State) (w : Writer), s.awake = true ∧ s.matchesOwner w (s.get (R.PAGE_OWNER fltPage)) = true ∧ s.bit
      R.FLT_STAT_C4 = false) ∧
    (∃ (s : State) (w : Writer), s.awake = true ∧ s.matchesOwner w (s.get (R.PAGE_OWNER fltPage)) = true ∧ s.bit
      R.FLT_STAT_C4 = true ∧ s.exitCode ≠ 0) ∧
    (∃ (s : State) (w : Writer), s.awake = true ∧ s.matchesOwner w (s.get (R.PAGE_OWNER fltPage)) = true ∧ s.bit
      R.FLT_STAT_C4 = true ∧ s.exitCode = 0) ∧
    (∃ (s : State) (w : Writer) (unit : BitVec 13), s.awake = true ∧ s.matchesOwner w (s.get (R.PAGE_OWNER fltPage))
      = true ∧
      (s.isContained unit.toNat = false ∨ (unit.toNat < 0x20 ∧ s.bit (R.TILE_TEMP_SHUTDOWN unit.toNat) = true) ∨ (∃ e ∈ s.flt.active, e.2.unit = s.unitId unit.toNat))) ∧
    (∃ (s : State) (w : Writer) (unit : BitVec 13), s.awake = true ∧ s.matchesOwner w (s.get (R.PAGE_OWNER fltPage))
      = true ∧ s.isContained unit.toNat = true ∧ (∀ e ∈ s.flt.active, e.2.unit ≠ s.unitId unit.toNat) ∧
      (unit.toNat < 0x20 → s.bit (R.TILE_TEMP_SHUTDOWN unit.toNat) = false)) ∧
    (∃ (s : State) (k : _) (v : _), v = s.releaseUnit k ∧ k < 0x20) :=
  ⟨(let s : State := State.reset;
     let s : State := { s with flt.safeN := true };
     ⟨s, by decide +kernel⟩),
    (let s : State := State.reset;
     ⟨s, by decide +kernel⟩),
    (let w : Writer := .unit 0;
     let s : State := State.reset;
     let s : State := { s with pwr := { s.pwr with phase := 3 } };
     ⟨s, w, by decide +kernel⟩),
    (let w : Writer := .secure;
     let s : State := State.reset;
     let s : State := { s with pwr := { s.pwr with phase := 3 } };
     let s : State := { s with flt.fifo := [] };
     ⟨s, w, by decide +kernel⟩),
    (let w : Writer := .secure;
     let r : FltRec := ({ (flt0 : FltRec) with cls := 0 } : FltRec);
     let l : List FltRec := [];
     let s : State := State.reset;
     let s : State := { s with pwr := { s.pwr with phase := 3 } };
     let s : State := { s with flt.fifo := r :: l };
     ⟨s, w, r, l, by decide +kernel⟩),
    (let w : Writer := .secure;
     let r : FltRec := ({ (flt0 : FltRec) with cls := 2 } : FltRec);
     let l : List FltRec := [];
     let s : State := State.reset;
     let s : State := { s with pwr := { s.pwr with phase := 3 } };
     let s : State := { s with flt.fifo := r :: l };
     let s : State := s.putB R.FLT_CFG_POP_ACK true;
     ⟨s, w, r, l, by decide +kernel⟩),
    (let w : Writer := .secure;
     let s : State := State.reset;
     let s : State := { s with pwr := { s.pwr with phase := 3 } };
     let s : State := s.putB R.FLT_STAT_C4 false;
     ⟨s, w, by decide +kernel⟩),
    (let w : Writer := .secure;
     let s : State := State.reset;
     let s : State := { s with pwr := { s.pwr with phase := 3 } };
     let s : State := s.putB R.FLT_STAT_C4 true;
     let s : State := { s with flt := { s.flt with safeN := true } };
     ⟨s, w, by decide +kernel⟩),
    (let w : Writer := .secure;
     let s : State := State.reset;
     let s : State := { s with pwr := { s.pwr with phase := 3 } };
     let s : State := s.putB R.FLT_STAT_C4 true;
     ⟨s, w, by decide +kernel⟩),
    (let w : Writer := .secure;
     let unit : BitVec 13 := 0;
     let s : State := State.reset;
     let s : State := { s with pwr := { s.pwr with phase := 3 } };
     ⟨s, w, unit, by decide +kernel⟩),
    (let w : Writer := .secure;
     let unit : BitVec 13 := 0x100;
     let s : State := State.reset;
     let s : State := { s with pwr := { s.pwr with phase := 3 } };
     let s : State := { s with pwr := { s.pwr with phase := 3 } };
     let s : State := s.putB (R.ENG_STAT_CONTAINED 0) true;
     ⟨s, w, unit, by decide +kernel, by decide +kernel, by decide +kernel, fun _ h => absurd h List.not_mem_nil, fun h => absurd h (by decide)⟩),
    (let k := (31 : Nat);
     let s : State := State.reset;
     let v := s.releaseUnit k;
     ⟨s, k, v, rfl, by decide +kernel⟩)⟩

theorem witness_FaultPageCommands_2 :
    (∃ (s : State) (k : _) (v : _), v = s.releaseUnit k ∧ 0x100 ≤ k ∧ k < 0x180) ∧
    (∃ (s : State) (k : _) (v : _) (j : _), v = s.releaseUnit k ∧ 0x200 ≤ k ∧ k < 0x210 ∧ j < 16) ∧
    (∃ (s : State) (k : _) (v : _), v = s.releaseUnit k ∧ 0x300 ≤ k ∧ s.stagedRegion (k - 0x300) = none) ∧
    (∃ (s : State), s.flt.safeN = false ∧ (∃ c ∈ s.flt.c4Causes, c = 0x50 ∨ c = 0x33 ∨ c = 0x44)) ∧
    (∃ (s : State), s.flt.safeN = false ∧ s.flt.c4Causes = []) :=
  ⟨(let k := 0x100;
     let s : State := State.reset;
     let v := s.releaseUnit k;
     ⟨s, k, v, rfl, by decide +kernel⟩),
    (let k := (0x20F : Nat);
     let j := (15 : Nat);
     let s : State := State.reset;
     let v := s.releaseUnit k;
     ⟨s, k, v, j, rfl, by decide +kernel⟩),
    (let k := 0x300;
     let s : State := State.reset;
     let v := s.releaseUnit k;
     ⟨s, k, v, rfl, by decide +kernel⟩),
    (let s : State := State.reset;
     let s : State := { s with flt := { s.flt with safeN := false, c4Causes := [0x44] } };
     ⟨s, by decide +kernel⟩),
    (let s : State := State.reset;
     let s : State := { s with flt.safeN := false };
     let s : State := { s with flt.c4Causes := [] };
     ⟨s, by decide +kernel⟩)⟩

theorem witness_InterruptAndCounterCommands :
    (∃ (s : State), s.awake = false) ∧
    (∃ (s : State) (w : Writer), s.awake = true ∧ s.matchesOwner w (s.get (R.PAGE_OWNER irqPage)) = false) ∧
    (∃ (s : State) (w : Writer) (v : Byte), s.awake = true ∧ s.matchesOwner w (s.get (R.PAGE_OWNER irqPage)) = true ∧
      v = 0) ∧
    (∃ (s : State) (w : Writer), s.awake = true ∧ s.matchesOwner w (s.get (R.PAGE_OWNER evcPage)) = true) ∧
    (∃ (s : State) (w : Writer), s.awake = true ∧ s.matchesOwner w (s.get (R.PAGE_OWNER evcPage)) = false) ∧
    (∃ (s : State) (n : Fin 256), s.bit (R.EVC_TRG_RUN n) = false) ∧
    (∃ (s : State) (n : Fin 256), s.bit (R.EVC_TRG_RUN n) = true) ∧
    (∃ (s : State) (w : Writer) (n : Fin 256), s.awake = true ∧ s.matchesOwner w (s.get (R.PAGE_OWNER evlPage)) =
      true ∧ s.bit (R.EVC_CFG_EN n) = true) ∧
    (∃ (s : State) (w : Writer) (n : Fin 256), s.awake = true ∧ s.matchesOwner w (s.get (R.PAGE_OWNER evlPage)) =
      true ∧ s.bit (R.EVC_CFG_EN n) = false) ∧
    (∃ (s : State) (w : Writer), s.awake = true ∧ s.matchesOwner w (s.get (R.PAGE_OWNER evlPage)) = false) ∧
    (∃ (s : State) (n : Fin 256) (c : _), s.evcUsed = [c] ∧ s.bit R.EVC_SNAP_TRIG_EN = false ∧
      (∀ t, t < 32 → s.get (R.TILE_ADC_CTRL_TRIG_SEL t) ≠ n) ∧ s.bit (R.EVC_CFG_STOP_EN c) = true ∧ s.get
      (R.EVC_TRG_STOP c) = n ∧ s.bit (R.EVC_TRG_RUN c) = true) ∧
    (∃ (s : State) (n : Fin 256) (c : _), s.evcUsed = [c] ∧ s.bit R.EVC_SNAP_TRIG_EN = false ∧
      (∀ t, t < 32 → s.get (R.TILE_ADC_CTRL_TRIG_SEL t) ≠ n) ∧ s.bit (R.EVC_CFG_START_EN c) = true ∧ s.bit
      (R.EVC_CFG_EN c) = true ∧ s.get (R.EVC_TRG_START c) = n ∧ s.bit (R.EVC_CFG_STOP_EN c) = false) :=
  ⟨(let s : State := State.reset;
     ⟨s, by decide +kernel⟩),
    (let w : Writer := .unit 0;
     let s : State := State.reset;
     let s : State := { s with pwr := { s.pwr with phase := 3 } };
     ⟨s, w, by decide +kernel⟩),
    (let w : Writer := .secure;
     let v : Byte := 0;
     let s : State := State.reset;
     let s : State := { s with pwr := { s.pwr with phase := 3 } };
     ⟨s, w, v, by decide +kernel⟩),
    (let w : Writer := .secure;
     let s : State := State.reset;
     let s : State := { s with pwr := { s.pwr with phase := 3 } };
     ⟨s, w, by decide +kernel⟩),
    (let w : Writer := .unit 0;
     let s : State := State.reset;
     let s : State := { s with pwr := { s.pwr with phase := 3 } };
     ⟨s, w, by decide +kernel⟩),
    (let n : Fin 256 := 0;
     let s : State := (State.reset).putB (R.EVC_TRG_RUN n) false;
     ⟨s, n, by decide +kernel⟩),
    (let n : Fin 256 := 0;
     let s : State := (State.reset).putB (R.EVC_TRG_RUN n) true;
     ⟨s, n, by decide +kernel⟩),
    (let w : Writer := .secure;
     let n : Fin 256 := 0;
     let s : State := State.reset;
     let s : State := { s with pwr := { s.pwr with phase := 3 } };
     let s : State := s.putB (R.EVC_CFG_EN n) true;
     ⟨s, w, n, by decide +kernel⟩),
    (let w : Writer := .secure;
     let n : Fin 256 := 0;
     let s : State := State.reset;
     let s : State := { s with pwr := { s.pwr with phase := 3 } };
     let s : State := s.putB (R.EVC_CFG_EN n) false;
     ⟨s, w, n, by decide +kernel⟩),
    (let w : Writer := .unit 0;
     let s : State := State.reset;
     let s : State := { s with pwr := { s.pwr with phase := 3 } };
     ⟨s, w, by decide +kernel⟩),
    (let n : Fin 256 := 255;
     let c := (0 : Nat);
     let s : State := (((State.reset).putB (R.EVC_CFG_STOP_EN c) true).put (R.EVC_TRG_STOP c) n.val).putB
        (R.EVC_TRG_RUN c) true;
     ⟨s, n, c, by decide +kernel, by decide +kernel, by decide +kernel, by decide +kernel, by decide +kernel, by decide +kernel⟩),
    (let n : Fin 256 := 255;
     let c := (0 : Nat);
     let s : State := (((State.reset).putB (R.EVC_CFG_START_EN c) true).putB (R.EVC_CFG_EN c) true).put
        (R.EVC_TRG_START c) n.val;
     ⟨s, n, c, by decide +kernel, by decide +kernel, by decide +kernel, by decide +kernel, by decide +kernel, by decide +kernel, by decide +kernel⟩)⟩

end Sys2Proof.Tests
end

namespace Sys2Proof.Machine

/-- R5 for a read, with the end bit `hi` as the bound in place of the width of the range. -/
theorem testBit_getBits_add_le (w : Word) (hi lo i : Nat) :
    (getBits w hi lo).testBit i = (decide (lo + i ≤ hi) && w.getLsbD (lo + i)) := by
  have inRange : i < hi + 1 - lo ↔ lo + i ≤ hi := by omega
  rw [testBit_getBits, decide_eq_decide.mpr inRange, Nat.add_comm i lo]

/-- Settles O7: bit by bit, a read by the range of its width and a write by the mask of its range. -/
theorem bitRangesInclusive : Obligations.BitRangesInclusive := by
  intro w hi lo v i hlo hhi
  exact ⟨testBit_getBits_add_le w hi lo i, getLsbD_putBits w hi lo v i hlo hhi⟩

end Sys2Proof.Machine

namespace Sys2Proof.Machine

/-! ### R188: the leading-sign count

A negative element is complemented before its highest set bit is looked for, so each set bit marks a place that differs
from the sign bit, and the highest of them is the one that ends the run. -/

/-- The `n`-bit element `v`, complemented where it is negative: the number whose highest set bit `leadingSigns` looks for. -/
def signDifferences (n v : Nat) : Nat :=
  if v.testBit (n - 1) then 2 ^ n - 1 - v % 2 ^ n else v % 2 ^ n

theorem leadingSigns_eq (n v : Nat) :
    leadingSigns n v =
      if signDifferences n v = 0 then n - 1 else n - 2 - Nat.log2 (signDifferences n v) := rfl

theorem testBit_signDifferences (n v i : Nat) :
    (signDifferences n v).testBit i = (decide (i < n) && (v.testBit i ^^ v.testBit (n - 1))) := by
  unfold signDifferences
  split
  next negative =>
    have complement : 2 ^ n - 1 - v % 2 ^ n = 2 ^ n - (v % 2 ^ n + 1) := by omega
    rw [complement, Nat.testBit_two_pow_sub_succ (Nat.mod_lt v (Nat.two_pow_pos n)), Nat.testBit_mod_two_pow, negative]
    by_cases inside : i < n <;> simp [inside]
  next nonnegative =>
    simp [Nat.testBit_mod_two_pow, nonnegative]

/-- The sign bit does not differ from itself. -/
theorem signDifferences_lt (n v : Nat) : signDifferences n v < 2 ^ (n - 1) := by
  refine Nat.lt_pow_two_of_testBit _ fun i hi => ?_
  rw [testBit_signDifferences]
  obtain outside | rfl : n ≤ i ∨ i = n - 1 := by omega
  · simp [Nat.not_lt.mpr outside]
  · simp

theorem leadingSigns_of_signDifferences_eq_zero {n v : Nat} (same : signDifferences n v = 0) :
    leadingSigns n v = n - 1 := by
  rw [leadingSigns_eq, if_pos same]

/-- The count and the place of the highest difference add up to the place directly below the sign bit. -/
theorem leadingSigns_add_log2 {n v : Nat} (differ : signDifferences n v ≠ 0) :
    leadingSigns n v + Nat.log2 (signDifferences n v) + 2 = n := by
  have highest : Nat.log2 (signDifferences n v) < n - 1 := (Nat.log2_lt differ).mpr (signDifferences_lt n v)
  rw [leadingSigns_eq, if_neg differ]
  omega

theorem leadingSigns_le (n v : Nat) : leadingSigns n v ≤ n - 1 := by
  by_cases same : signDifferences n v = 0
  · exact Nat.le_of_eq (leadingSigns_of_signDifferences_eq_zero same)
  · have place := leadingSigns_add_log2 same
    omega

/-- The run: each of the counted bits equals the sign bit. -/
theorem testBit_of_lt_leadingSigns {n v k : Nat} (counted : k < leadingSigns n v) :
    v.testBit (n - 2 - k) = v.testBit (n - 1) := by
  have bound := leadingSigns_le n v
  have inside : n - 2 - k < n := by omega
  have noDifference : (signDifferences n v).testBit (n - 2 - k) = false := by
    by_cases same : signDifferences n v = 0
    · rw [same, Nat.zero_testBit]
    · have place := leadingSigns_add_log2 same
      exact Nat.testBit_lt_two_pow ((Nat.log2_lt same).mp (by omega))
  simpa [testBit_signDifferences, inside] using noDifference

/-- The end of the run: the first bit not counted differs from the sign bit, unless no bit is left. -/
theorem testBit_leadingSigns_ne {n v : Nat} (ends : leadingSigns n v < n - 1) :
    v.testBit (n - 2 - leadingSigns n v) ≠ v.testBit (n - 1) := by
  have differ : signDifferences n v ≠ 0 := fun same =>
    Nat.ne_of_lt ends (leadingSigns_of_signDifferences_eq_zero same)
  have place := leadingSigns_add_log2 differ
  have endBit : n - 2 - leadingSigns n v = Nat.log2 (signDifferences n v) := by omega
  have difference := Nat.testBit_log2 differ
  rw [← endBit, testBit_signDifferences] at difference
  intro equal
  simp [equal] at difference

/-- Settles O6: the run of bits and the bit that ends it, from the differences with the sign bit; neither 0 nor −1 holds one. -/
theorem leadingSignCount : Obligations.LeadingSignCount := by
  refine ⟨fun n v _ => ⟨leadingSigns_le n v, fun _ => testBit_of_lt_leadingSigns, testBit_leadingSigns_ne⟩, ?_, ?_⟩
  · exact leadingSigns_of_signDifferences_eq_zero (by decide)
  · exact leadingSigns_of_signDifferences_eq_zero (by decide)

end Sys2Proof.Machine
